-- ==== Sys2Proof/Word.lean ====
section
/-! DEFINITION. The word types of the module: bytes, half words, 32-bit and 64-bit words (00_scope R6, R13's table
of field types). The plainest arithmetic only; bit fields and byte orders stand in Machine/Bits.lean. -/
namespace Sys2Proof

/-- One byte, u8. -/
abbrev Byte := BitVec 8

/-- u16. -/
abbrev Half := BitVec 16

/-- u32: one parameter word, one memory word (01 R19's stall). -/
abbrev Word := BitVec 32

/-- A binary32 number of IEEE 754, held as its 32 bits (00 R3, f32 of the field types). -/
abbrev F32 := BitVec 32

/-- u64. -/
abbrev DWord := BitVec 64

end Sys2Proof
end

