-- ==== Sys2Proof/Data.lean ====
section
/-! DEFINITION. The data that commands carry: request packets, datagrams, CAN frames, sentences, twin-link messages
and measurements. A command's operands say what crosses into the module; what the module does with it is in Machine/. -/
namespace Sys2Proof

/-- Where a port 1 request came from: Ethernet port, IPv4 source address, MAC address and UDP source port, and the UDP port it was sent to,
from which its reply leaves (03 R102, R106). -/
structure Peer where
  eth : Fin 2
  ip  : Word
  mac : BitVec 48
  udp : Half
  dst : Half
deriving DecidableEq, Repr

/-- What the command engine knows of a request at its request edge, payload apart (03 R87, R91, R98): the port and
lane it came in on, its tag, reply-suppress, the cycle of the request edge, and the source of a port 1 datagram. -/
structure ReqHead where
  port     : Fin 2
  lane     : Fin 4
  tag      : Byte
  suppress : Bool
  edge     : Nat
  peer     : Option Peer
deriving DecidableEq, Repr

/-- A request that has passed the checks of 03 R90, with its payload bytes. -/
structure Req where
  head    : ReqHead
  payload : List Byte
deriving DecidableEq, Repr

/-- A UDP datagram to the module, or one fragment of it (03 R104, 14 R410). offset is in bytes. -/
structure Datagram where
  peer   : Peer
  ident  : Half
  offset : Nat
  more   : Bool
  bytes  : List Byte
deriving DecidableEq, Repr

/-- A CAN frame on the wire (13 R380, R387). For a base identifier id is below 2^11. -/
structure CanFrame where
  id     : BitVec 29
  ext    : Bool
  fd     : Bool
  remote : Bool
  data   : List Byte
deriving DecidableEq, Repr

/-- A write of the command firmware: parameter identifiers with their new words (01 R43, R16 class 3). -/
structure FwWrite where
  id    : Nat
  value : Word
deriving DecidableEq, Repr

/-- A PTP Announce as a slot sees it (14 R418): sender, domain, transport (0 UDP, 1 IEEE 802.3), the attributes the best
clock algorithm compares, the UTC fields, and whether its format is that of PTP version 2. -/
structure AnnounceMsg where
  clockId   : DWord
  portNo    : Half
  domain    : Nat
  transport : Nat
  prio1     : Nat
  clkClass  : Nat
  accuracy  : Nat
  variance  : Nat
  prio2     : Nat
  gmId      : DWord
  steps     : Nat
  utcOffset : Int
  utcValid  : Bool
  leap59    : Bool
  leap61    : Bool
  logInt    : Int
  formatOk  : Bool
deriving DecidableEq, Repr

/-- A PTP Sync, Follow_Up or Delay_Resp as a slot sees it (14 R418, R419). time is the timestamp the message carries and
corr its correction field, in ns; stamp the core counter value of its receive stamp (R416); toSlot: a Delay_Resp that
answers this slot's identity; logMin: its logMinDelayReqInterval. -/
structure PtpMsg where
  clockId   : DWord
  portNo    : Half
  domain    : Nat
  transport : Nat
  seq       : Nat
  twoStep   : Bool
  time      : Int
  corr      : Int
  stamp     : Nat
  toSlot    : Bool
  logMin    : Int
  formatOk  : Bool
deriving DecidableEq, Repr

/-- Where an Ethernet frame is addressed (14 R408). -/
inductive EthDest where
  | own | arpBroadcast | group (g : Fin 16) | ptp | other
deriving DecidableEq, Repr

/-- A received Ethernet frame, as the MAC and the checks behind it see it (14 R407, R408, R410); held: the frames that
wait in the port's receive buffer when it arrives. -/
structure EthFrame where
  dest      : EthDest
  length    : Nat
  vlan      : Bool
  fcsOk     : Bool
  sumsOk    : Bool
  fragOther : Bool
  held      : Nat
deriving DecidableEq, Repr

/-- A quantity of the vote: position or heading (06 R191, R193). -/
inductive Quantity where
  | position | heading
deriving DecidableEq, Repr

/-- What a read of a memory word finds (01 R21, R23). -/
inductive ReadError where
  | none | single | double
deriving DecidableEq, Repr

/-- The cause of a yard fence (01 R36): a critical block, a bus error, a supply excursion, a missed phase marker. -/
inductive FenceCause where
  | block | bus | supply | marker
deriving DecidableEq, Repr

/-- The two supply inputs (16 R467). -/
inductive SupplyInput where
  | mains | dc
deriving DecidableEq, Repr


/-- A measurement passed to fusion (05 R162): source, kind, values, their σ, lever arm in cm, alignment method, the
interval t_j − stamp and the stamp, in cycles. -/
structure Meas where
  src   : Nat
  kind  : Nat
  v1    : F32
  v2    : F32
  v3    : Option F32
  s1    : F32
  s2    : F32
  s3    : F32
  lx    : Int
  ly    : Int
  lz    : Int
  align : Nat
  gap   : Int
  stamp : Int
deriving DecidableEq, Repr

/-- A slot of the loft (06 R180): the entering state and covariance, the measurements placed in it, the inputs of R175
over the interval that ends in it, the use mask, the model-hold flags of position and heading, which measurements have
passed a gate (R185), which sources' measurements a pick applied without the gate (R196), and whether heading, position and target are
initialised in the entering state. -/
structure LoftSlot where
  x     : List F32
  p     : List (List F32)
  meas  : Vector (Option Meas) 32
  tau   : List F32
  wind  : List F32
  use   : List Bool
  holdP : Bool
  holdH : Bool
  passed : List Bool
  free  : List Nat
  iniH  : Bool
  iniP  : Bool
  iniT  : Bool
deriving DecidableEq, Repr

/-- A slot with nothing in it: states and covariance 0 (06 R173). -/
def LoftSlot.empty : LoftSlot :=
  ⟨List.replicate 15 0, List.replicate 15 (List.replicate 15 0), Vector.replicate 32 none, [0, 0, 0], [0, 0, 0],
    List.replicate 32 false, false, false, List.replicate 32 false, [], false, false, false⟩

/-- A sample that intake placed in this beat, with the result of its first evaluation (06 R188): its slot as beats before
the present one, the gate value d and the innovation (for position as north and east offset). -/
structure NewSample where
  meas : Meas
  back : Nat
  d    : Option F32
  nu1  : F32
  nu2  : F32
deriving DecidableEq, Repr

/-- A track (06 R186-R189, R192, R202): its latest sample, with its innovation, and its lifecycle; silent: it goes in the lifecycle of this beat
for want of samples. -/
structure Track where
  src       : Nat
  confirmed : Bool
  votedOut  : Bool
  contra    : Bool
  fails     : Nat
  passes    : Nat
  assoc     : Nat
  lastBeat  : Nat
  born      : Nat
  lastD     : F32
  failed    : Bool
  last      : Meas
  nu        : Option (F32 × F32)
  near      : Nat
  cand      : Bool
  silent    : Bool
deriving DecidableEq, Repr

/-- Why a quantity is in model hold (06 R191). -/
inductive HoldReason where
  | contradict | noMajority | none
deriving DecidableEq, Repr

/-- The vote of one quantity (06 R190-R196): its state code, hold with its reason, the count of agreeing votes towards the
end of hold, the tracks that contradict, the pick, whether its first measurement is still to come ungated, a pick or
clear that has committed with its beat, and the beat in which a hold last ended. -/
structure VoteUnit where
  state  : Nat
  hold   : Option HoldReason
  timer  : Nat
  agree  : Nat
  pair   : Option (Nat × Nat)
  pick   : Option Nat
  fresh  : Bool
  newPick : Option (Nat × Option Nat)
  ended  : Option Nat
  lost   : Bool
deriving DecidableEq, Repr

/-- The fused output of a beat (06 R200). -/
structure Fused where
  x       : List F32
  sigN    : F32
  sigE    : F32
  sigPsi  : F32
  valid   : Nat
  posSt   : Nat
  hdgSt   : Nat
  roll    : F32
  pitch   : F32
  heave   : F32
  wind    : List Meas
deriving DecidableEq, Repr

/-- The estimator (06): the loft and the current slot buffer, the next replay step, what is initialised, the tracks, birth
buffers, votes, the samples of the beat, and the fused output. originMoved: the beat in which the
host has written the origin, to be taken by the next beat's intake. -/
structure Fusion where
  loft   : Vector LoftSlot 64
  cur    : LoftSlot
  step   : Nat
  hdg    : Bool
  pos    : Bool
  tgt    : Bool
  tracks : Vector (Option Track) 48
  birth  : Vector (List NewSample) 32
  votes  : Vector VoteUnit 2
  news   : List NewSample
  out    : Fused
  originMoved : Option Nat
deriving DecidableEq, Repr

/-- What one 1 ms integration of a channel brings (07 R207-R210): the satellite that prediction or search assigns to an idle
channel pair, the Doppler in mHz of a search peak above threshold, the early, prompt and late sums, and whether the
histogram over 100 bits has found the bit edges. -/
structure CorrelatorSums where
  assign : Option (Fin 32)
  peak   : Option Int
  ie : Int
  qe : Int
  ip : Int
  qp : Int
  il : Int
  ql : Int
  edge : Bool
deriving DecidableEq, Repr

/-- What a channel latches on the measurement tick (07 R214): C/N0 in 0.5 dB-Hz, Doppler in mHz, carrier phase in
thousandths of a cycle, code phase, elevation and azimuth where known. -/
structure ChannelLatch where
  ch    : Fin 48
  cn0   : Nat
  dop   : Int
  phase : Int
  code  : Int
  elev  : Option Int
  az    : Option Nat
deriving DecidableEq, Repr

/-- A position solution of an antenna (07 R216, R218): latitude and longitude in 10^-9 degrees, PDOP in hundredths, the
pseudorange residuals in m by channel, clock bias in ns and drift in ps/s. -/
structure NavFix where
  lat   : Int
  lon   : Int
  pdop  : Nat
  resid : List (Fin 24 × F32)
  bias  : Int
  drift : Int
deriving DecidableEq, Repr

/-- The ambiguity step's result (07 R219-R222): the best candidate's baseline length in mm, its residual and the second
best's per double difference in cycle², the integer found for each channel's double difference against the epoch's reference
satellite, and the azimuth of the baseline in rad. -/
structure BaselineFix where
  length : Nat
  best   : F32
  second : F32
  ints   : List (Fin 24 × Int)
  azim   : F32
deriving DecidableEq, Repr

/-- What the navigation processor's arithmetic gives in an epoch (07 R215): for each antenna the solution after four passes
and the one after a further pass without the excluded satellite; the heading step; each antenna's AGC gain in
thousandths of a dB; the GPS time of the tick as ns of its week. -/
structure EpochData where
  fixA  : Option NavFix
  fixA2 : Option NavFix
  fixB  : Option NavFix
  fixB2 : Option NavFix
  base  : Option BaselineFix
  agcA  : Int
  agcB  : Int
  tow   : Int
deriving DecidableEq, Repr

/-- A waypoint (08 R259). -/
structure Waypoint where
  n       : F32
  e       : F32
  speed   : F32
  heading : Nat
  accept  : Nat
deriving DecidableEq, Repr

/-- A target that SETPOINT_SET has written (08 R237, R252); after: the mode stall was written earlier in the same beat. -/
structure NewTarget where
  a     : F32
  b     : F32
  after : Bool
deriving DecidableEq, Repr

/-- The control law's state (08): the mode of the latest beat with its flags and first beat, targets, references, their
speeds and velocities, integral terms, the wind filter with the latest measurement, push ramp and drift test, track
progress, joystick, which axes a law held, the latest demand and wind force, and FUSION_STATE of the latest completed beat (ready).
joyNew, posNew, hdgNew and trackNew wait for the next setting snapshot. -/
structure Control where
  mode    : Nat
  auto    : Bool
  degr    : Bool
  first   : Nat
  modeAt  : Option Nat
  tgtN    : F32
  tgtE    : F32
  tgtPsi  : F32
  refN    : F32
  refE    : F32
  refPsi  : F32
  vPos    : F32
  vPsi    : F32
  velN    : F32
  velE    : F32
  velPsi  : F32
  integ   : List F32
  held    : List Bool
  posNew  : Option NewTarget
  hdgNew  : Option NewTarget
  posSet  : Option NewTarget
  hdgSet  : Option NewTarget
  wx      : F32
  wy      : F32
  windV   : F32
  windG   : F32
  windSrc : Option Nat
  windAge : Nat
  stale   : Bool
  push    : Nat
  side    : Bool
  shed    : Nat
  pushY   : Option F32
  drift   : Bool
  track   : List Waypoint
  trackNew : Option (List Waypoint × Nat)
  start   : Nat
  leg     : Nat
  legN    : F32
  legE    : F32
  atEnd   : Bool
  joy     : List F32
  joyBeat : Option Nat
  joyNew  : Option (List F32)
  joyZero : Nat
  joyRest : Nat
  autoYaw : Bool
  joyMa   : List F32
  joyBad  : Nat
  tauD    : List F32
  w       : List F32
  clampBlk : Option Nat
  ready   : Nat
deriving DecidableEq, Repr

/-- The state of a thruster (09 R287). -/
inductive ThrState where
  | off | on | shutting
deriving DecidableEq, Repr

/-- A variable of the allocation problem of a beat (09 R263-R266): index 3t + v, its axis, its thruster's kind, its box, x0
and its column of B. -/
structure AVar where
  idx  : Nat
  axis : Nat
  kind : Nat
  lo   : F32
  hi   : F32
  x0   : F32
  col  : List F32
deriving DecidableEq, Repr

/-- A row of the problem (09 R270): 0 to 2 the force axes, 3 + b the power row of bus b; its coefficients by variable, right-hand side, the
weights of the quadratic and linear terms of its error or slack, the slack's range (none for a force row), the scale of
its residual, and the variables whose set makes the constraint the same one. -/
structure ARow where
  tag   : Nat
  coef  : List F32
  rhs   : F32
  quad  : F32
  lin   : F32
  range : Option F32
  scale : F32
  scope : List (Nat × Nat × Nat)
deriving DecidableEq, Repr

/-- An iterate of the interior-point method (09 R278): variables, errors and slacks, equality multipliers, and for each lower and
upper bound of variables and slacks the distance and the multiplier. -/
structure AIter where
  x   : List F32
  y   : List F32
  lam : List F32
  sl  : List F32
  su  : List F32
  zl  : List F32
  zu  : List F32
  tl  : List F32
  tu  : List F32
  vl  : List F32
  vu  : List F32
deriving DecidableEq, Repr

/-- A result (09 R281, R288, R289): beat, FLAGS, live variables, the variables it carries, their values, x0 about the released azimuths
and those azimuths by thruster, setpoints by axis, demanded and achieved force, bus powers and limits, objective and residual, whether it
rests on poisoned data, and the thruster records of ALLOC_RESULT_READ. -/
structure AResult where
  beat  : Nat
  flags : Nat
  live  : List (Nat × Nat)
  carry : List Nat
  x     : List F32
  x0    : List F32
  theta : List F32
  sp    : List (Option F32)
  tauD  : List F32
  tauA  : List F32
  power : List F32
  limit : List F32
  obj   : F32
  resid : F32
  poison : Bool
  table : List Byte
deriving DecidableEq, Repr

/-- The null result of 09 R284. -/
def AResult.null : AResult :=
  ⟨0, 0, [], [], List.replicate 48 0, List.replicate 48 0, List.replicate 16 0, List.replicate 48 none, [0, 0, 0],
    [0, 0, 0], [0, 0, 0, 0], [0, 0, 0, 0], 0, 0, false, (List.replicate 16 [0#8, 0#8, 0xFF#8, 0xFF#8, 0#8, 0#8, 0#8, 0#8]).flatten⟩

/-- What a barrier link brings at a tick edge (11 R323-R325, R333, R338, R339): whether its return frame came and passed its CRC; the
comparator level of each channel; whether the diagnostic block passed its CRC, with the scanner's open-wire and
over-temperature flags; the FAULT line; the supply in 10 mV and the total output current in mA; and which frames of this
tick the isolated side discards. -/
structure BankIn where
  frameOk  : Bool
  levels   : BitVec 24
  diagOk   : Bool
  openW    : BitVec 24
  hot      : BitVec 24
  fault    : Bool
  volts    : Int
  mA       : Nat
  badAlive : Bool
  badServo : Bool
  badBeat  : Bool
deriving DecidableEq, Repr

/-- What both barrier links bring at a tick edge. -/
structure TickIn where
  a : BankIn
  b : BankIn
deriving DecidableEq, Repr

/-- What a sinc output brings (12 R359, R360, R372): the 32 modulator bits of each channel, bit 0 the first, and whether the
segment of each bank came and passed its CRC. -/
structure SincIn where
  bits : Vector (BitVec 32) 48
  okA  : Bool
  okB  : Bool
deriving DecidableEq, Repr

/-- An error that a controller detects (13 R388, ISO 11898-1): LAST_ERR code, whether the controller was transmitting, whether a receiver saw
a dominant bit right after its error flag, and the transmitter delay measured in the frame, where it was. -/
structure CanError where
  code     : Fin 7
  sent     : Bool
  dominant : Bool
  tdcv     : Option Nat
deriving DecidableEq, Repr

/-- Why a Fjozia pair is lost (15 R441); code groups that were invalid are counted. -/
inductive PairLoss where
  | align | codes (n : Nat) | silent
deriving DecidableEq, Repr

/-- A commit marker of the holder (15 R449): the holder's beat and commit cycle in it, the status, and the forwarded
request it closes: its port, opcode and payload, as the forwarded bales carried them. -/
structure CommitMarker where
  beat    : Nat
  cycle   : Nat
  status  : Nat
  port    : Fin 2
  opcode  : Byte
  payload : List Byte
deriving DecidableEq, Repr

/-- An axis transition of the holder (15 R450): the holder's beat and cycle in it, the state, fault code and
pending-enable flag it registered, the join angle of a steering axis that entered ACTIVE, and the event it raised
(AXIS_ON, AXIS_OFF or AXIS_FAULT) with its ARG. -/
structure AxisForward where
  beat    : Nat
  cycle   : Nat
  state   : Nat
  code    : Nat
  pending : Bool
  join    : Option F32
  event   : Option (Nat × Nat)
deriving DecidableEq, Repr

/-- A beat marker on a fibre pair (15 R441, R442): whether its CRC is good, unit number, beat, and the sender's interval I in
cycles. -/
structure BeatMarkerMsg where
  crcOk    : Bool
  unit     : Nat
  beat     : Nat
  interval : Int
deriving DecidableEq, Repr

/-- What the check lane brings to the lane compare, and the primary lane alike (15 R437): the result's validity flags, whether it is
a fallback entry, poison, mode, validity bits and quantity states, live mask and SET_MASKs, the fused output, demand and achieved
force, and the frame integer of each axis. -/
structure LaneResult where
  held   : Bool
  fb     : Bool
  entry  : Nat
  poison : Bool
  mode   : Nat
  valid  : Nat
  posSt  : Nat
  hdgSt  : Nat
  live   : Nat
  sets   : Nat
  n      : F32
  e      : F32
  psi    : F32
  u      : F32
  v      : F32
  r      : F32
  tauD   : List F32
  tauA   : List F32
  sp     : List (Option Nat)
deriving DecidableEq, Repr
/-- What a mirror image holds of an axis (15 R445): its state, fault code and pending enable, whether that is a thruster
request's, its join angle, and whether OFF was reached through a completed park. -/
structure AxisImage where
  state   : Nat
  code    : Nat
  pend    : Bool
  pendThr : Bool
  join    : F32
  parked  : Bool
deriving DecidableEq, Repr

/-- A mirror image by its content (15 R445, R402): mirrored parameters, axis and thruster states, the estimator with loft,
tracks, votes, holds and picks, the control state, of allocation the held result with x0, the warm-start iterate, the
invalid streak and the fallback mode, and pending CAN_ID_ENABLE requests for the partner. The manual gives the layout of its
49 152 bytes nowhere. -/
structure MirrorImage where
  params : List (Nat × Word)
  axes   : Vector AxisImage 48
  thr    : Vector ThrState 16
  fus    : Fusion
  ctl    : Control
  held   : AResult
  warm   : Option (AIter × List AVar × List ARow)
  streak : Nat
  fb     : Bool
  fbRun  : Nat
  entry  : Nat
  idReq  : List (Fin 4 × Word)
deriving DecidableEq, Repr

/-- What has come of the holder's mirror by cycle 759 999 (15 R447): the images, whether both are complete, and whether
both CRCs are good. -/
structure MirrorRx where
  image    : MirrorImage
  complete : Bool
  good     : Bool
deriving DecidableEq, Repr

/-- What the self-tests of one or more yards found (16 R483): the blocks whose two runs both failed, and those of which
one run failed. -/
structure SelfTest where
  failed : List (Fin 8 × Fin 32)
  once   : List (Fin 8 × Fin 32)
deriving DecidableEq, Repr

end Sys2Proof
end

