-- ==== Sys2Proof/Syntax.lean ====
section
/-! DEFINITION. The commands of the block: one constructor per row of spec/opcode_table.json, with the data that the
row's effect depends on. c is the value of the cycle counter C (14 R414) at the command's own edge; scheduled rows take
their cycle from the state. -/
namespace Sys2Proof

/-- The commands. Each docstring gives the row's rule and its summary in the table. -/
inductive Instr where
  /-- R82: A falling HSEL_N edge crosses and the module drives HRDY low to start a host selection. -/
  | hselNFall (c : Nat)
  /-- R78: The access byte of a selection crosses and the module decides whether it can grant the lane access. -/
  | accessByte (c : Nat) (b : Byte)
  /-- R82: A waiting selection is granted when lane room or a complete outbox bale appears, and HRDY rises 16 cycles later. -/
  | selectionGrant (c : Nat)
  /-- R93: A complete 512-bit bale written by the host crosses into its inbox lane. -/
  | baleWrite (c : Nat) (bale : List Byte)
  /-- R100: The host finishes reading a reply bale, and its read-pointer update crosses and frees outbox room. -/
  | baleRead (c : Nat)
  /-- R85: HSEL_N rises and the selection ends, with a partial bale discarded and its grant released. -/
  | hselNRise (c : Nat) (clocked : Nat)
  /-- R74: A pending reply or unmasked event starts a 100-cycle HRDY attention pulse once the port is ready and spacing allows. -/
  | attentionPulse (c : Nat)
  /-- R74: An attention pulse ends after exactly 100 cycles and HRDY returns high. -/
  | attentionPulseEnd
  /-- R97: A free command engine dispatches the next bale, choosing the highest-numbered inbox lane whose outbox lane has room. -/
  | baleDispatch (c : Nat) (port : Fin 2)
  /-- R98: A bale finishes its 320-cycle drain; the last bale of a packet gives the request edge. -/
  | baleDrain (port : Fin 2)
  /-- R99: The last bale of an open packet has not crossed within PACKET_GAP, so the packet is abandoned and answered BAD_LENGTH. -/
  | packetGapExpiry (port : Fin 2)
  /-- R100: The next reply bale is written to the outbox once 320 cycles have passed and room exists. -/
  | replyBaleWrite (c : Nat) (port : Fin 2)
  /-- R104: A UDP datagram to CMD_UDP_PORT crosses and its bales are placed together in the named inbox lane. -/
  | cmdDatagram (c : Nat) (dg : Datagram)
  /-- R410: An incomplete set of command datagram fragments is dropped 10 ms after its first fragment. -/
  | fragmentTimeout (c : Nat)
  /-- R43: A command firmware write that lost arbitration is repeated in its next slot 5 and counted in FW_REPEAT_COUNT. -/
  | firmwareRepeat (c : Nat) (writes : List FwWrite)
  /-- R118: SESSION_IDLE seconds pass without a request in an expert session, which closes with reason 1. -/
  | sessionIdleExpiry (port : Fin 2)
  /-- R117: The 10 s EXPERT_OPEN lock of a port ends and its mismatch count returns to 0. -/
  | expertLockEnd (port : Fin 2)
  /-- R133: An open configuration load with no chunk for 10 s is abandoned. -/
  | configLoadTimeout
  /-- R134: The background write of a loaded file to the nonvolatile store completes or fails, and CONFIG_FILE is raised. -/
  | configFileStored (c : Nat) (ok : Bool)
  /-- R124: Returns the unit number, issue, release, part, serial and capabilities. -/
  | ident (r : Req)
  /-- R125: Returns the module state summary taken at cycle 640. -/
  | status (r : Req)
  /-- R128: Returns up to MAX queued events and, unless PEEK is set, removes them at cycle 1 600. -/
  | eventsRead (r : Req)
  /-- R129: Returns the values of the listed parameter identifiers as one snapshot. -/
  | paramRead (r : Req) (parity : List Nat)
  /-- R130: Writes the listed parameters whole or not at all, including W1C clears and registers without a row of their own. -/
  | paramWrite (r : Req)
  /-- R116: Compares the code with the stored session code and opens an expert session on the port. -/
  | expertOpen (r : Req)
  /-- R118: Closes the expert session of the port. -/
  | expertClose (r : Req)
  /-- R126: Returns the request payload unchanged. -/
  | echo (r : Req)
  /-- R131: Returns the map entry of one parameter identifier. -/
  | paramDescribe (r : Req)
  /-- R120: Writes a new session code to the nonvolatile store. -/
  | expertCodeSet (r : Req)
  /-- R238: Sets the DP mode with options, a preset and an optional berth push. -/
  | modeSetBasic (r : Req)
  /-- R238: Sets the DP mode together with the expert gain matrices in one commit. -/
  | modeSetExpert (r : Req)
  /-- R252: Sets the position and/or heading targets and the ramp limits. -/
  | setpointSet (r : Req)
  /-- R254: Sets the host joystick deflections of surge, sway and yaw. -/
  | joystickSet (r : Req)
  /-- R258: Sets the berth push, side and push rate. -/
  | berthPushSet (r : Req)
  /-- R259: Loads a waypoint track for FOLLOW_TRACK. -/
  | trackLoad (r : Req)
  /-- R240: Sets the DP modes used on position and heading reference loss. -/
  | lossModeSet (r : Req)
  /-- R166: Configures the basic fields of a reference source. -/
  | refConfigBasic (r : Req)
  /-- R166: Configures every field of a reference source, expert fields included. -/
  | refConfigExpert (r : Req)
  /-- R168: Enables or disables a reference source. -/
  | refEnable (r : Req)
  /-- R169: Returns the state and counters of a source, optionally clearing the counters. -/
  | refStatusRead (r : Req)
  /-- R196: Picks one source for position or heading, or clears the pick. -/
  | selectReference (r : Req)
  /-- R201: Sets the loft replay window W. -/
  | replayWindowSet (r : Req)
  /-- R202: Returns the 48 track slots. -/
  | trackListRead (r : Req)
  /-- R287: Enables a thruster and its axes, or makes the enable pending while the thruster is SHUTTING. -/
  | thrusterEnable (r : Req)
  /-- R287: Disables a thruster, starting shut-down and park, or cancels a pending enable. -/
  | thrusterDisable (r : Req)
  /-- R290: Writes shed order, power source, weights and bus settings in one commit. -/
  | allocConfigBasic (r : Req)
  /-- R291: Writes the 16 thruster configuration records in one class T commit. -/
  | allocConfigExpert (r : Req)
  /-- R292: Sets the per-bus power caps and ramp caps. -/
  | powerLimitSet (r : Req)
  /-- R289: Returns the latest allocation result. -/
  | allocResultRead (r : Req)
  /-- R293: Selects native mode or DPM-24 compatibility mode for pivot handling. -/
  | compatModeSet (r : Req)
  /-- R310: Requests an axis enable, or makes it pending while shut-down or park runs. -/
  | axisEnable (r : Req)
  /-- R310: Requests an axis disable, or clears a pending enable. -/
  | axisDisable (r : Req)
  /-- R314: Writes the basic axis parameters in one commit. -/
  | axisConfigBasic (r : Req)
  /-- R314: Writes all axis parameters in one commit, including configuration, scales and gains. -/
  | axisConfigExpert (r : Req)
  /-- R315: Replaces the compensation table of an axis. -/
  | compTableLoad (r : Req)
  /-- R317: Returns the state, fault and loop values of an axis. -/
  | axisStatusRead (r : Req)
  /-- R346: Writes the mode, options, debounce and safe value of a field channel. -/
  | channelConfigBasic (r : Req)
  /-- R346: Writes the channel configuration together with CH_EXPERT. -/
  | channelConfigExpert (r : Req)
  /-- R348: Sets the output value of a host-owned DO or AO channel. -/
  | outputSet (r : Req)
  /-- R350: Returns the mode, flags, state and values of a channel. -/
  | channelRead (r : Req)
  /-- R349: Sets the safe kind and safe current of a channel. -/
  | safeValueSet (r : Req)
  /-- R351: Returns the supply, flags and fault maps of a field bank. -/
  | bankStatusRead (r : Req)
  /-- R374: Sets the preset of one lane or of all lanes and clears CUSTOM_SEL. -/
  | filterPreset (r : Req)
  /-- R375: Loads a private coefficient set into a lane and optionally selects it. -/
  | filterCustom (r : Req)
  /-- R376: Makes a sync edge at cycle 1 601 that re-phases all filter lanes. -/
  | syncFilters (r : Req)
  /-- R376: Sets the DC mode and time constant of a lane. -/
  | dcBlockSet (r : Req)
  /-- R401: Configures a CAN controller with preset bit timing. -/
  | canConfigBasic (r : Req)
  /-- R401: Configures a CAN controller with explicit bit timing and transmitter delay compensation. -/
  | canConfigExpert (r : Req)
  /-- R402: Re-enables an identifier that a clash disabled, in this unit and/or the partner. -/
  | canIdEnable (r : Req)
  /-- R404: Returns the error state and counters of a controller, optionally clearing the counters. -/
  | canStatusRead (r : Req)
  /-- R403: Queues a host-supplied CAN frame for transmission. -/
  | canSend (r : Req)
  /-- R430: Writes the enable, address, groups and status settings of an Ethernet port. -/
  | ethConfig (r : Req)
  /-- R431: Sets the source, domain, transport and port of a time slot. -/
  | ptpConfigBasic (r : Req)
  /-- R431: Sets a time slot's configuration together with SERVO_TC and ASYM. -/
  | ptpConfigExpert (r : Req)
  /-- R432: Returns the reported time, the counter and the time quality. -/
  | timeRead (r : Req)
  /-- R433: Selects the preferred time slot and AUTO_SWITCH, switching the active slot where it differs. -/
  | timeDomainSelect (r : Req)
  /-- R229: Writes antenna enables, epoch rate, spacing and masks. -/
  | gnssConfigBasic (r : Req)
  /-- R229: Writes the GNSS settings together with loop bandwidths, checks, spoof action and RAIM sigma. -/
  | gnssConfigExpert (r : Req)
  /-- R231: Returns the 24 channel entries of one antenna. -/
  | gnssStatusRead (r : Req)
  /-- R230: Writes the baseline length, tolerance and angle of carrier-phase heading. -/
  | headingBaselineSet (r : Req)
  /-- R227: Clears the channels of the named antennas and restarts GNSS as hot, warm or cold. -/
  | gnssRestart (r : Req)
  /-- R459: Returns the role, lease, link and partner status of the twin pair. -/
  | twinStatusRead (r : Req)
  /-- R460: Asks the partner to hand the halter to this unit. -/
  | halterRequest (r : Req)
  /-- R460: Starts a planned hand-over of the halter to the partner. -/
  | halterRelease (r : Req)
  /-- R461: Writes the seven lane compare tolerances in one commit. -/
  | twinToleranceSet (r : Req)
  /-- R474: Requests RUN, DOZE or WATCH. -/
  | powerStateSet (r : Req)
  /-- R493: Writes WAKE_CTRL and WAKE_CAN_ID. -/
  | wakeConfig (r : Req)
  /-- R493: Sets or clears the RTC alarm. -/
  | rtcAlarmSet (r : Req)
  /-- R494: Returns the power state, supplies, cell and latest wake. -/
  | powerStatusRead (r : Req)
  /-- R135: Returns the state of the configuration file load. -/
  | configFileStatus (r : Req)
  /-- R136: Schedules a restart of one yard, or a full bring-up. -/
  | yardRestart (r : Req)
  /-- R133: Delivers one chunk of a Barbin Workbench file, with CRC check and application on the last chunk. -/
  | configFileLoad (r : Req)
  /-- R137: Schedules a module reset followed by a bring-up. -/
  | moduleReset (r : Req)
  /-- R170: A write of SRC_CTRL enables or disables a source as REF_ENABLE does. -/
  | srcCtrlWrite (h : ReqHead) (q : Fin 32) (v : Word)
  /-- R435: A write of TIME_CTRL SELECT acts as TIME_DOMAIN_SELECT. -/
  | timeCtrlWrite (h : ReqHead) (v : Word)
  /-- R199: A write of ORIGIN_LAT or ORIGIN_LON sets the working origin and clears the position state and tracks. -/
  | originWrite (h : ReqHead) (lat : Option Word) (lon : Option Word)
  /-- R510: A write of HIST_SELECT selects the source and age shown by the HIST_VIEW window. -/
  | histSelect (h : ReqHead) (v : Word)
  /-- R510: A write of 1 to HIST_CLEAR clears the live event history and restarts SEQ. -/
  | histClear (h : ReqHead) (v : Word)
  /-- R339: Clearing a BANK_LATCH bit releases an overcurrent trip or a latched safe state from the next beat output frame. -/
  | bankLatchClear (h : ReqHead) (bank : Fin 2) (v : Word)
  /-- R95: A write of a lane layout commits only when the port's lanes are empty and no selection is open. -/
  | inboxLayoutWrite (h : ReqHead) (port : Fin 2) (inbox : Option Word) (outbox : Option Word)
  /-- R118: A write of CMD_PEER or CMD_UDP_PORT reconfigures port 1 and closes its expert session. -/
  | cmdPeerWrite (h : ReqHead) (peer : Option Word) (udp : Option Word)
  /-- R383: A write of CAN_CTRL enables or disables a controller from the next beat edge. -/
  | canCtrlWrite (h : ReqHead) (bus : Fin 4) (v : Word)
  /-- R294: A write of BUS_PRESENT adds or removes a bus power row from the next beat. -/
  | busPresentWrite (h : ReqHead) (bus : Fin 4) (v : Word)
  /-- R414: A write of INC changes the local time increment from the next cycle. -/
  | timeIncWrite (h : ReqHead) (lo : Option Word) (hi : Option Word)
  /-- R55: The beat counter advances and the beat flow begins a new beat. -/
  | beatEdge (wire : BitVec 4)
  /-- R157: Intake ends at cycle 119 999 with aligned measurements, source states and counters registered. -/
  | intakeSummary
  /-- R163: AGE reaches LOSS_TIMEOUT; the source becomes LOST and REF_SOURCE_LOST is raised. -/
  | sourceLossTimeout (q : Fin 32)
  /-- R182: A 4 400-cycle loft replay step re-runs one slot and writes the entering state of the next slot. -/
  | loftReplayStep
  /-- R184: The estimator update phase ends with the fused output registered at cycle 419 999. -/
  | fusionUpdate
  /-- R189: A track goes 500 beats without an associated sample and is deleted. -/
  | trackSilenceExpiry (k : Fin 48)
  /-- R194: Model hold of a quantity ends on its reason's end condition, including the count of agreeing votes. -/
  | modelHoldEnd (q : Quantity)
  /-- R192: A VOTED_OUT track is used again after 100 consecutive votes within distance 4. -/
  | votedOutReadmit (k : Fin 48)
  /-- R195: A hold timer reaches 3 000 beats and REF_LOST is set and raised. -/
  | refLost (q : Quantity)
  /-- R242: The control law ends with τ_d and w registered at cycle 469 999. -/
  | controlLawOutput
  /-- R249: WIND_STALE beats pass without a wind measurement, so the feed-forward decays and WIND_LOST is raised. -/
  | windStaleExpiry
  /-- R253: The latest JOYSTICK_SET becomes JOY_TIMEOUT beats old and the deflections are zeroed. -/
  | joyTimeoutExpiry
  /-- R255: After 200 beats of zero yaw stick, the heading law takes yaw in joystick auto heading. -/
  | joyHeadingResume
  /-- R278: One 8 800-cycle interior-point iteration completes. -/
  | allocIteration
  /-- R276: The allocation result is chosen among solver, held and fallback results and registered at cycle 649 999. -/
  | allocResult
  /-- R282: The third consecutive invalid beat enters fallback mode. -/
  | allocFallbackEntry
  /-- R282: Ten consecutive valid solver beats end fallback mode. -/
  | allocFallbackExit
  /-- R272: AGE of a present bus exceeds POWER_STALE and the safe power values apply. -/
  | powerDataStale (b : Fin 4)
  /-- R273: A Porene power frame is received and accepted or rejected. -/
  | powerFrame (c : Nat) (bus : Fin 4) (f : CanFrame)
  /-- R274: A PTBMP power sentence is received and accepted or rejected. -/
  | ptbmpSentence (c : Nat) (eth : Fin 2) (chars : List Byte)
  /-- R438: The lane compare verdict is registered at cycle 656 000 and the release permit is asserted or not. -/
  | laneCompare (check : LaneResult)
  /-- R443: The exchange message of the beat, with digests and lease, is sent at cycle 660 000. -/
  | exchangeSend
  /-- R443: The partner's exchange message is received and its lease, flags and digests are taken. -/
  | partnerExchange (c : Nat) (pair : Fin 2) (msg : List Byte)
  /-- R446: The inter-unit verdict is registered at cycle 696 000. -/
  | interUnitCompare
  /-- R442: The holder sends the primary and check mirror images at cycle 700 000. -/
  | mirrorSend
  /-- R444: The non-holder sends the acknowledgment of the beat at cycle 750 000. -/
  | mirrorAckSend (primary : Bool) (check : Bool)
  /-- R444: The holder receives the acknowledgment and confirms its renewal. -/
  | partnerAck (c : Nat) (pair : Fin 2) (msg : List Byte)
  /-- R447: At cycle 759 999 the non-holder adopts a due mirror, or records a miss. -/
  | mirrorAdoption (rx : MirrorRx)
  /-- R448: The count of agreeing beats reaches 3 and the non-holder releases again. -/
  | remirrorExit
  /-- R449: A forwarded commit marker crosses and the non-holder applies the forwarded request. -/
  | commitMarker (c : Nat) (m : CommitMarker)
  /-- R450: The non-holder registers an axis state change forwarded by the holder. -/
  | forwardedAxisTransition (c : Nat) (a : Fin 48) (t : AxisForward)
  /-- R67: The partner's beat marker crosses on the Fjozia link. -/
  | beatMarker (c : Nat) (pair : Fin 2) (m : BeatMarkerMsg)
  /-- R67: The follower registers the skew at cycle 100 000 and updates its PLL steering. -/
  | skewRegister
  /-- R69: After 3 beats without the leader's marker the follower freezes its steering. -/
  | markerLoss
  /-- R441: A Fjozia pair loses alignment, meets 16 bad code groups or goes 3 beats without a message. -/
  | fjPairLost (c : Nat) (pair : Fin 2) (why : PairLoss)
  /-- R441: A lost pair is regained after 100 beats of valid messages. -/
  | fjPairRegained (c : Nat) (pair : Fin 2)
  /-- R454: At a beat edge past the partner's lease end, the unit takes the halter. -/
  | halterExpiryTake
  /-- R453: The holder stops holding one beat before an unconfirmed lease ends. -/
  | halterLeaseLapse
  /-- R457: A unit that heard no partner for its ALONE_WAIT takes the halter. -/
  | aloneWaitExpiry
  /-- R460: REQUEST bit 0 is withdrawn after 100 beats. -/
  | halterRequestExpiry
  /-- R459: Partner presence changes at a beat edge and PARTNER is raised. -/
  | partnerPresence
  /-- R400: The partner's CAN heartbeat is received, checked and latched. -/
  | partnerHeartbeat (c : Nat) (bus : Fin 4) (f : CanFrame)
  /-- R384: A transmitted CAN frame is acknowledged and the next queue entry is offered. -/
  | canTxComplete (c : Nat) (bus : Fin 4) (tdcv : Nat)
  /-- R389: A transmission ends in an acknowledgment error and is counted toward ALONE. -/
  | canAckError (c : Nat) (bus : Fin 4)
  /-- R390: A bit error after clean arbitration is counted as a clash and entered in the table. -/
  | canClash (c : Nat) (bus : Fin 4)
  /-- R388: A bus error updates the error counts, with entry to error-passive or bus-off. -/
  | canBusError (c : Nat) (bus : Fin 4) (e : CanError)
  /-- R388: After 128 occurrences of 11 recessive bits a bus-off controller becomes error-active. -/
  | canBusOffRecovery (c : Nat) (bus : Fin 4)
  /-- R383: A controller enable or disable takes effect at the beat edge. -/
  | canEnableEffect (bus : Fin 4) (onWire : Bool)
  /-- R383: An enabled controller has seen 11 recessive bits and joins the bus. -/
  | canIntegrationDone (c : Nat) (bus : Fin 4)
  /-- R392: A valid CAN frame is received and passed on if it matches. -/
  | canFrameReceived (c : Nat) (bus : Fin 4) (f : CanFrame)
  /-- R149: A Porene reference frame is received and becomes a record or is counted. -/
  | canReferenceFrame (c : Nat) (sof : Nat) (bus : Fin 4) (f : CanFrame)
  /-- R146: An RS-422 sentence ends with its LF and is matched to a source. -/
  | serialSentence (c : Nat) (arrival : Nat) (port : Fin 4) (chars : List Byte) (framing : Bool)
  /-- R147: A sentence in a UdPbC datagram is received and matched, or dropped as DUPLICATE. -/
  | udpbcSentence (c : Nat) (stamp : Nat) (eth : Fin 2) (group : Fin 16) (line : List Byte)
  /-- R407: An Ethernet link is lost or gained and ETH_LINK is raised. -/
  | ethLinkChange (c : Nat) (e : Fin 2) (up : Bool)
  /-- R408: An Ethernet frame is received and buffered or dropped. -/
  | ethFrameRx (c : Nat) (e : Fin 2) (f : EthFrame)
  /-- R409: An ARP request for the port address is answered. -/
  | arpRequest (c : Nat) (e : Fin 2) (target : Word) (srcIp : Word) (srcMac : BitVec 48)
  /-- R409: An ICMP echo request is answered when ANSWER_PING is set. -/
  | icmpEcho (c : Nat) (peer : Peer) (target : Word) (data : List Byte)
  /-- R409: An IGMPv2 query is answered with membership reports. -/
  | igmpQuery (c : Nat) (e : Fin 2) (group : Option (Fin 16))
  /-- R418: A PTP Announce is received and the BMCA is run. -/
  | ptpAnnounce (c : Nat) (e : Fin 2) (slot : Fin 2) (m : AnnounceMsg)
  /-- R418: The parent's Announce is not received for 3 intervals. -/
  | announceTimeout (c : Nat) (slot : Fin 2)
  /-- R419: A Sync from the parent is received and forms an offset measurement. -/
  | ptpSync (c : Nat) (e : Fin 2) (slot : Fin 2) (m : PtpMsg)
  /-- R419: A Follow_Up completes a two-step Sync measurement. -/
  | ptpFollowUp (c : Nat) (e : Fin 2) (slot : Fin 2) (m : PtpMsg)
  /-- R419: A Delay_Resp gives a path delay sample. -/
  | ptpDelayResp (c : Nat) (e : Fin 2) (slot : Fin 2) (m : PtpMsg)
  /-- R418: A Delay_Req is sent in its randomly drawn beat. -/
  | delayReqSend (slot : Fin 2) (draw : Nat)
  /-- R423: A 10 s acquisition run ends and the slot locks or schedules a step. -/
  | acquisitionRunEnd (slot : Fin 2)
  /-- R422: One second passes without an applied measurement and a LOCKED slot enters HOLDOVER. -/
  | slotHoldover (slot : Fin 2)
  /-- R422: 600 s in HOLDOVER put the slot in FREE_RUN. -/
  | slotFreeRun (slot : Fin 2)
  /-- R423: A pending step sets the slot time at the next whole second. -/
  | slotStep (c : Nat) (slot : Fin 2)
  /-- R426: AUTO_SWITCH changes the active slot when it loses lock, or returns to SELECT after 60 s locked. -/
  | timeSwitchAuto (c : Nat)
  /-- R425: A held switch difference above 1 ms is zeroed at the next whole second, stepping R. -/
  | switchStep (c : Nat)
  /-- R427: An announced leap second changes the UTC offset at the end of its day. -/
  | leapSecond (c : Nat)
  /-- R429: R reaches a whole second and PPS_OUT starts a pulse whose width follows TIME_Q, or the pulse is suppressed. -/
  | ppsPulse (c : Nat)
  /-- R429: The PPS pulse ends after W cycles. -/
  | ppsPulseEnd
  /-- R491: The RTC reaches ALARM, which raises RTC_ALARM in RUN or wakes the module, and is cleared. -/
  | rtcAlarm (c : Nat)
  /-- R205: The antenna bias current stays OPEN or SHORT for 10 beats, or returns to NORMAL. -/
  | antennaBiasClass (ant : Fin 2) (mA : Nat)
  /-- R205: After 100 beats the shorted bias is switched on for a 10-beat test. -/
  | antennaRetest (ant : Fin 2) (mA : Nat)
  /-- R209: A 1 ms channel integration ends and the tracking loops update. -/
  | gnssIntegration (c : Nat) (ch : Fin 48) (corr : CorrelatorSums)
  /-- R210: The lock indicator stays below 0.5 for 20 ms and the channel returns to ACQ. -/
  | channelLossOfLock (c : Nat) (ch : Fin 48)
  /-- R207: A channel pair assignment is released after 30 s without signal. -/
  | satelliteRelease (c : Nat) (pair : Fin 24)
  /-- R211: A navigation subframe is received and parity-checked. -/
  | subframeReceived (c : Nat) (ch : Fin 48) (words : List Word)
  /-- R214: All channels of both antennas latch their measurements. -/
  | measurementTick (c : Nat) (m : List ChannelLatch)
  /-- R215: The navigation processor finishes the epoch and presents the records of sources 0–2 and the time solution. -/
  | epochStrobe (c : Nat) (d : EpochData)
  /-- R224: A check stops standing after 10 s without its condition. -/
  | checkClear (c : Nat) (check : Fin 6)
  /-- R225: The hot-start block is written to retention RAM every 60 s in RUN. -/
  | gnssBlockWrite (c : Nat)
  /-- R233: 120 s pass without a first fix and GNSS_START is raised with bit 15 set. -/
  | gnssStartTimeout
  /-- R62: A servo tick begins with the input latch. -/
  | tickEdge (t : TickIn)
  /-- R300: The results of all 48 axis computations and their state transitions are registered at cycle 15 560. -/
  | servoRegister
  /-- R305: An axis faults on a fence, poison, feedback or output fault, or a following error outlasting its count. -/
  | axisFault (a : Fin 48)
  /-- R308: A shut-down or park settles for SETTLE ticks and the axis becomes OFF. -/
  | axisShutdownComplete (a : Fin 48)
  /-- R311: A requested enable or disable takes effect at tick edge 40(k+1). -/
  | axisCommandEffect (a : Fin 48)
  /-- R312: A pending enable takes effect after the shut-down completes into OFF. -/
  | pendingEnableEffect (a : Fin 48)
  /-- R325: Three consecutive bad diagnostic block CRCs put the bank in common mode. -/
  | diagCommonEntry (bank : Fin 2)
  /-- R325: 400 good ticks return the bank to per-channel flags. -/
  | diagCommonExit (bank : Fin 2)
  /-- R329: A digital input level held for DEBOUNCE+1 ticks changes the reported state. -/
  | diDebounce (ch : Fin 48)
  /-- R333: A DO switch cuts off after 100 µs in current limit or at 150 °C. -/
  | doOverloadCutoff (ch : Fin 48) (thermal : Bool)
  /-- R333: With OL_RESTART set, a cut-off DO switch retries after 400 ticks. -/
  | doRestart (ch : Fin 48)
  /-- R338: The field supply class of a bank changes after 4 ticks. -/
  | bankSupplyChange (bank : Fin 2)
  /-- R339: The bank current exceeds 11 A for 40 ticks and all outputs switch off. -/
  | bankOvercurrentTrip (bank : Fin 2)
  /-- R342: The 4T-th missing alive marker makes the isolated side apply its safe values. -/
  | silenceTimeout (bank : Fin 2)
  /-- R344: 40 consecutive valid markers end the safe state of the bank. -/
  | silenceResume (bank : Fin 2)
  /-- R347: A new channel mode takes effect at tick 4 after the beat output frame. -/
  | modeChangeEffect (ch : Fin 48)
  /-- R360: A sinc output completes and the lane slots run their MAC steps. -/
  | sincOutput (x : SincIn)
  /-- R373: After 387 sinc outputs a lane leaves SETTLING. -/
  | settlingEnd (lane : Fin 48)
  /-- R363: An active SYNC_IN edge gives a sync edge that sets a new origin window. -/
  | syncInEdge (c : Nat) (rising : Bool)
  /-- R22: The scrubber reads the next memory word every 64 cycles. -/
  | scrubRead (yard : Fin 8) (mem : Nat) (err : ReadError)
  /-- R29: The block watchdog declares a fault, and the block resets and retries with its result poisoned. -/
  | blockFault (c : Nat) (yard : Fin 8) (block : Fin 32)
  /-- R29: A faulted block comes out of its 32-cycle reset. -/
  | blockResetDone (yard : Fin 8) (block : Fin 32)
  /-- R37: A yard is fenced for a critical block, a bus error, a supply excursion or a watchdog miss. -/
  | yardFence (c : Nat) (yard : Fin 8) (cause : FenceCause)
  /-- R467: A supply input becomes valid or invalid. -/
  | supplyInputChange (c : Nat) (input : SupplyInput) (valid : Bool) (mainsV : Nat) (dc : Nat) (power : Nat)
  /-- R475: The sleep entry sequence starts at the entry beat edge. -/
  | sleepEntry
  /-- R475: The fast clocks stop at cycle 16 000 000 and DOZE or WATCH begins. -/
  | sleepEntryDone
  /-- R477: An enabled wake source meets its condition and a bring-up starts from the wake edge. -/
  | wakeEvent (c : Nat) (sources : Nat)
  /-- R478: A dominant edge on a wake bus in DOZE starts a 100 ms listen-only wake check. -/
  | canWakeCheck (c : Nat) (bus : Fin 4)
  /-- R478: A wake check without a match returns the module to DOZE. -/
  | wakeCheckTimeout (c : Nat)
  /-- R479: A watch window opens every WATCH_PERIOD and powers PD4 and PD7. -/
  | watchWindowOpen (c : Nat)
  /-- R479: A watch window ends after WATCH_WINDOW seconds. -/
  | watchWindowClose (c : Nat)
  /-- R473: The PLL lock test at slow period 72 releases the core clock or schedules a retry. -/
  | clockStart (lock : Bool)
  /-- R473: The clock start is repeated 1 s after a failed lock. -/
  | clockStartRetry
  /-- R136: An accepted yard restart begins at the first beat edge at least 1 ms after its commit. -/
  | yardRestartBegin
  /-- R137: An accepted module reset begins and is followed by a bring-up. -/
  | moduleResetBegin
  /-- R480: The start strobe crosses and cycle 0 of a hot or cold bring-up begins. -/
  | bringUpStart (slow : Nat)
  /-- R482: At cycle 5 000 000 the PD1 self-test verdict is registered and port 0 becomes ready. -/
  | pd1Verdict (v : SelfTest)
  /-- R509: History slots held during the PD0 test are written at cycle 5 100 000. -/
  | historyFlush
  /-- R482: The PD4 self-test verdict is registered and GNSS starts. -/
  | pd4Verdict (v : SelfTest)
  /-- R483: The remaining yard verdicts are registered and configuration, ports, link and tick generation start. -/
  | selftestVerdicts (v : SelfTest) (strap : Bool)
  /-- R484: The lane cross-check verdict is registered at 75 000 000 + X. -/
  | crossCheckVerdict (agree : Bool)
  /-- R485: A handshake message is sent every 1 000 000 cycles in the handshake window. -/
  | handshakeSend (c : Nat)
  /-- R485: A partner handshake message is received. -/
  | handshakeMessage (c : Nat) (pair : Fin 2) (msg : List Byte)
  /-- R485: The handshake verdict is decided and a follower or joiner aligns its beat. -/
  | handshakeVerdict
  /-- R482: At H the module enters RUN and BRING_UP is raised. -/
  | bringUpEnd
  /-- R492: The backup cell is measured every 60 s and classed as LOW or ABSENT. -/
  | backupCellMeasure (mV : Nat)
  /-- R425: The switch difference σ, slewing towards 0 at SWITCH_SLEW, reaches 0 and TIME_STATE bit 3 (σ slewing) clears. -/
  | switchSlewEnd (c : Nat)
  /-- R423: An acquisition run breaks after 1 s without a valid measurement, and the run-in-progress state of the slot is cleared. -/
  | acquisitionRunBreak (slot : Fin 2)
  /-- R172: An RS-422 talk port finishes sending its IIHDT or IIZDA sentence and is no longer sending. -/
  | talkSentenceSent (port : Fin 4)
  /-- R411: An Ethernet frame leaves the MAC on the wire, which takes the Delay_Req transmit stamp and lets the next queued frame start. -/
  | ethFrameTx (c : Nat) (e : Fin 2)
  /-- R534: The backup cell is removed while both inputs are invalid, PD0 loses power, RTC_VALID and retained data are lost and BRINGUP_COUNT restarts at 0. -/
  | backupCellRemoved
deriving DecidableEq, Repr

end Sys2Proof
end

