-- ==== Sys2Proof/Machine/Bits.lean ====
section
/-! DEFINITION. Bit fields, byte orders, two's complement and saturating counts (00_scope R4, R6; 01 R41 for the
saturation of counters), and reading and writing one element of a fixed-length vector. -/
namespace Sys2Proof.Machine

/-- The field [hi:lo] of a word as a number (00 R6). -/
def bitsOf (w : Word) (hi lo : Nat) : Nat := (w.toNat >>> lo) % 2 ^ (hi + 1 - lo)

/-- Bit i of a word. -/
def bitOf (w : Word) (i : Nat) : Bool := w.getLsbD i

/-- w with its field [hi:lo] set to v, of which the excess high bits are dropped. -/
def putBits (w : Word) (hi lo v : Nat) : Word :=
  let m := BitVec.ofNat 32 ((2 ^ (hi + 1 - lo) - 1) <<< lo)
  (w &&& ~~~m) ||| (BitVec.ofNat 32 (v <<< lo) &&& m)

/-- w with bit i set to b. -/
def putBit (w : Word) (i : Nat) (b : Bool) : Word := putBits w i i (if b then 1 else 0)

/-- One bit as a number. -/
def b2n (b : Bool) : Nat := if b then 1 else 0

/-- w with bit i set. -/
def setBit (w : Word) (i : Nat) : Word := w ||| BitVec.ofNat 32 (1 <<< i)

/-- w with bit i clear. -/
def clearBit (w : Word) (i : Nat) : Word := w &&& ~~~(BitVec.ofNat 32 (1 <<< i))

/-- The two's complement value of the low n bits of a number (00: i16, i32). -/
def signedOf (n x : Nat) : Int :=
  let y := x % 2 ^ n
  if y < 2 ^ (n - 1) then (y : Int) else (y : Int) - (2 ^ n : Nat)

/-- The low n bits of an integer, as a two's complement pattern. -/
def twosOf (n : Nat) (x : Int) : Nat := (x % (2 ^ n : Nat)).toNat

/-- An integer held within lo and hi. -/
def clampI (lo hi x : Int) : Int := if x < lo then lo else if hi < x then hi else x

/-- A number held within lo and hi. -/
def clampN (lo hi x : Nat) : Nat := if x < lo then lo else if hi < x then hi else x

/-- A counter of n bits advanced by d; it stops at its largest value (01 R41, R537). -/
def satAdd (n c d : Nat) : Nat := min (c + d) (2 ^ n - 1)

/-- n as k bytes, least significant first (00 R4). -/
def leBytes : Nat → Nat → List Byte
  | 0, _ => []
  | k + 1, n => BitVec.ofNat 8 n :: leBytes k (n / 256)

/-- The number whose little-endian bytes these are (00 R4). -/
def leNat : List Byte → Nat
  | [] => 0
  | b :: r => b.toNat + 256 * leNat r

/-- The number whose big-endian bytes these are (00 R4: network order). -/
def beNat (l : List Byte) : Nat := l.foldl (fun a b => 256 * a + b.toNat) 0

/-- k bytes of a payload from offset o, little-endian; bytes beyond the end read 0. -/
def leAt (p : List Byte) (o k : Nat) : Nat := leNat ((p.drop o).take k)

/-- Byte o of a payload; 0 beyond the end. -/
def byteAt (p : List Byte) (o : Nat) : Nat := (p.getD o 0).toNat

/-- The word at offset o of a payload. -/
def wordAt (p : List Byte) (o : Nat) : Word := BitVec.ofNat 32 (leAt p o 4)

/-- A word as 4 bytes, little-endian. -/
def wordBytes (w : Word) : List Byte := leBytes 4 w.toNat

/-- n bytes of zero. -/
def zeroBytes (n : Nat) : List Byte := List.replicate n 0

/-- Element i of a vector. -/
def vget {α : Type} {n : Nat} (v : Vector α n) (i : Fin n) : α := v[i.val]

/-- A vector with element i replaced. -/
def vset {α : Type} {n : Nat} (v : Vector α n) (i : Fin n) (x : α) : Vector α n := v.set i.val x

/-- A vector with element i changed by f. -/
def vupd {α : Type} {n : Nat} (v : Vector α n) (i : Fin n) (f : α → α) : Vector α n := vset v i (f (vget v i))

/-- Element i of a vector, or d where there is none. -/
def vgetD {α : Type} {n : Nat} (v : Vector α n) (i : Nat) (d : α) : α := v.toList.getD i d

/-- A vector with element i changed by f, and unchanged where there is no element i. -/
def vupdN {α : Type} {n : Nat} (v : Vector α n) (i : Nat) (f : α → α) : Vector α n :=
  if h : i < n then vupd v ⟨i, h⟩ f else v

/-- A list with element i replaced; unchanged where there is none. -/
def lset {α : Type} (l : List α) (i : Nat) (x : α) : List α := l.set i x

/-- f applied n times. -/
def iterN {α : Type} (f : α → α) : Nat → α → α
  | 0, x => x
  | n + 1, x => iterN f n (f x)

/-- The largest r with r * r at most n, for n below 2 ^ (2 k). -/
def isqrtFrom : Nat → Nat → Nat → Nat
  | 0, _, r => r
  | k + 1, n, r => isqrtFrom k n (if (r + 2 ^ k) * (r + 2 ^ k) ≤ n then r + 2 ^ k else r)

/-- The integer square root of a number below 2 ^ 128. -/
def isqrt (n : Nat) : Nat := isqrtFrom 64 n 0

/-- Do the bits of a word within the reserved mask read zero (00 R8)? -/
def zeroIn (w m : Word) : Bool := (w &&& m) == 0

/-- Are the bytes of a payload from offset o on, k of them, zero (00 R8)? -/
def zerosAt (p : List Byte) (o k : Nat) : Bool := ((p.drop o).take k).all (· == 0)

/-- The ASCII codes of a text. -/
def asciiOf (t : String) : List Byte := t.toList.map fun c => BitVec.ofNat 8 c.toNat

/-- Floor division of an integer by a positive number, as the spec's floor brackets have it. -/
def floorDiv (x : Int) (d : Nat) : Int := x.fdiv (d : Int)

/-- Rounded division to the nearest integer, ties away from zero. -/
def roundDiv (x : Int) (d : Nat) : Int :=
  if 0 ≤ x then (2 * x + d).tdiv (2 * d) else -((2 * (-x) + d).tdiv (2 * d))

end Sys2Proof.Machine
end

