-- ==== Sys2Proof/Machine/Crc.lean ====
section
/-! DEFINITION. The check sequences of the module: CRC-8 and CRC-32 of host packets and files (03 R89), CRC-16 of
barrier and Fjozia frames, bit by bit from their polynomials. -/
namespace Sys2Proof.Machine

/-- One bit of an unreflected CRC of n bits with polynomial p. -/
def crcBit (n p c : Nat) : Nat :=
  if c.testBit (n - 1) then ((c <<< 1) ^^^ p) % 2 ^ n else (c <<< 1) % 2 ^ n

/-- One byte of an unreflected CRC. -/
def crcByte (n p c : Nat) (b : Byte) : Nat := iterN (crcBit n p) 8 (c ^^^ (b.toNat <<< (n - 8)))

/-- The HCRC of 03 R89: polynomial 0x07, initial value 0, no reflection, no final XOR. -/
def crc8 (l : List Byte) : Nat := l.foldl (crcByte 8 0x07) 0

/-- A CRC-16 with polynomial 0x1021 and initial value 0xFFFF, no reflection, no final XOR. -/
def crc16 (l : List Byte) : Nat := l.foldl (crcByte 16 0x1021) 0xFFFF

/-- One bit of the reflected CRC-32 (03 R89). -/
def crc32Bit (c : Nat) : Nat := if c % 2 = 1 then (c >>> 1) ^^^ 0xEDB88320 else c >>> 1

/-- One byte of the CRC-32 (03 R89). -/
def crc32Byte (c : Nat) (b : Byte) : Nat := iterN crc32Bit 8 (c ^^^ b.toNat)

/-- The CRC-32 of IEEE 802.3 (03 R89). -/
def crc32 (l : List Byte) : Nat := (l.foldl crc32Byte 0xFFFFFFFF) ^^^ 0xFFFFFFFF

end Sys2Proof.Machine
end

