-- ==== Sys2Proof/Machine/ParamMap.lean ====
section
/-! DEFINITION. The parameter maps of the manual as one table: every identifier of every map with its fields, access
codes and reset values (00 R13, 04 R138, and the map of each chapter), and which of them are mirrored (04 R139). The
table is written row by row from the "Parameter map" tables of spec/. A row with a stride stands for count
identifiers. Reserved bits have no field. -/
namespace Sys2Proof.Machine

/-- Access codes (00 R13). -/
inductive Access where
  | ro | rw | rwx | w1c
deriving DecidableEq, Repr

/-- One field of an identifier: its bits, its access code, its reset value right-aligned, and whether the map calls
it a saturating counter (04 R131 FLAGS bit 2). -/
structure ParamField where
  hi    : Nat
  lo    : Nat
  acc   : Access
  reset : Nat
  sat   : Bool
deriving DecidableEq, Repr

/-- One row of a parameter map: count identifiers from base on, stride apart. -/
structure ParamRow where
  name     : String
  base     : Nat
  stride   : Nat
  count    : Nat
  mirrored : Bool
  fields   : List ParamField
deriving DecidableEq, Repr

/-- Rows of the parameter map of 16_power_and_bring_up.md (R495, R496). -/
def paramRows16a : List ParamRow := [
  ⟨"RTC_SECONDS_LO", 0x0000, 1, 1, false,
   [⟨31, 0, .ro, 0x0, false⟩]⟩,
  ⟨"RTC_SECONDS_HI", 0x0001, 1, 1, false,
   [⟨15, 0, .ro, 0x0, false⟩]⟩,
  ⟨"RTC_FRACTION", 0x0002, 1, 1, false,
   [⟨14, 0, .ro, 0x0, false⟩]⟩,
  ⟨"RET_STATE", 0x0003, 1, 1, false,
   [⟨0, 0, .ro, 0x0, false⟩, ⟨1, 1, .ro, 0x0, false⟩, ⟨2, 2, .ro, 0x0, false⟩, ⟨3, 3, .ro, 0x0, false⟩, ⟨15, 8, .ro, 0x0, true⟩]⟩,
  ⟨"ALARM_LO", 0x0004, 1, 1, false,
   [⟨31, 0, .rw, 0x0, false⟩]⟩,
  ⟨"ALARM_HI", 0x0005, 1, 1, false,
   [⟨15, 0, .rw, 0x0, false⟩]⟩,
  ⟨"CELL_STATE", 0x0006, 1, 1, false,
   [⟨15, 0, .ro, 0x0, false⟩, ⟨16, 16, .ro, 0x0, false⟩, ⟨17, 17, .ro, 0x0, false⟩]⟩,
  ⟨"POWER_CTRL", 0x1500, 1, 1, false,
   [⟨0, 0, .rw, 0x0, false⟩, ⟨31, 16, .rw, 0x708, false⟩]⟩,
  ⟨"WATCH_WINDOW", 0x1501, 1, 1, false,
   [⟨15, 0, .rw, 0x2D, false⟩]⟩,
  ⟨"WAKE_CTRL", 0x1502, 1, 1, false,
   [⟨5, 0, .rw, 0x31, false⟩, ⟨6, 6, .rw, 0x0, false⟩, ⟨11, 8, .rw, 0x0, false⟩, ⟨13, 12, .rw, 0x0, false⟩, ⟨14, 14, .rw, 0x0, false⟩]⟩,
  ⟨"WAKE_CAN_ID", 0x1503, 1, 1, false,
   [⟨31, 0, .rw, 0x2F0, false⟩]⟩,
  ⟨"WAKE_CH_A", 0x1504, 1, 1, false,
   [⟨23, 0, .rw, 0x0, false⟩]⟩,
  ⟨"WAKE_CH_B", 0x1505, 1, 1, false,
   [⟨23, 0, .rw, 0x0, false⟩]⟩,
  ⟨"POWER_STATE", 0x1506, 1, 1, false,
   [⟨2, 0, .ro, 0x1, false⟩, ⟨15, 8, .ro, 0x0, false⟩, ⟨17, 16, .ro, 0x0, false⟩]⟩,
  ⟨"SUPPLY_STATE", 0x1507, 1, 1, false,
   [⟨7, 0, .ro, 0x0, false⟩, ⟨31, 16, .ro, 0x0, false⟩]⟩,
  ⟨"DC_STATE", 0x1508, 1, 1, false,
   [⟨15, 0, .ro, 0x0, false⟩, ⟨31, 16, .ro, 0x0, false⟩]⟩,
  ⟨"SELFTEST_MAP", 0x1509, 1, 1, false,
   [⟨7, 0, .ro, 0x0, false⟩, ⟨8, 8, .ro, 0x0, false⟩]⟩,
  ⟨"POWER_STICKY", 0x150A, 1, 1, false,
   [⟨5, 0, .w1c, 0x0, false⟩]⟩,
  ⟨"BRINGUP_COUNT", 0x150B, 1, 1, false,
   [⟨15, 0, .ro, 0x0, true⟩]⟩,
  ⟨"WAKE_CHECK_COUNT", 0x150C, 1, 1, false,
   [⟨15, 0, .ro, 0x0, true⟩]⟩]

/-- Rows of the parameter map of 04_command_set.md (R140). -/
def paramRows04a : List ParamRow := [
  ⟨"UNIT_SERIAL", 0x1000, 1, 1, false,
   [⟨31, 0, .ro, 0x0, false⟩]⟩,
  ⟨"HW_ISSUE", 0x1001, 1, 1, false,
   [⟨7, 0, .ro, 0x43, false⟩]⟩,
  ⟨"FW_RELEASE", 0x1002, 1, 1, false,
   [⟨15, 0, .ro, 0x302, false⟩]⟩,
  ⟨"UNIT_NUMBER", 0x1003, 1, 1, false,
   [⟨0, 0, .ro, 0x0, false⟩]⟩,
  ⟨"MODULE_STATE", 0x1004, 1, 1, false,
   [⟨2, 0, .ro, 0x0, false⟩]⟩,
  ⟨"SESSION_STATE", 0x1005, 1, 1, false,
   [⟨0, 0, .ro, 0x0, false⟩, ⟨1, 1, .ro, 0x0, false⟩, ⟨9, 8, .ro, 0x0, false⟩, ⟨11, 10, .ro, 0x0, false⟩]⟩,
  ⟨"SESSION_IDLE", 0x1006, 1, 1, false,
   [⟨15, 0, .rw, 0x258, false⟩]⟩,
  ⟨"CMD_STICKY", 0x1007, 1, 1, false,
   [⟨0, 0, .w1c, 0x0, false⟩, ⟨1, 1, .w1c, 0x0, false⟩, ⟨2, 2, .w1c, 0x0, false⟩, ⟨3, 3, .w1c, 0x0, false⟩]⟩,
  ⟨"CONFLICT_COUNT", 0x1008, 1, 1, false,
   [⟨15, 0, .ro, 0x0, true⟩]⟩]

/-- Rows of the parameter map of 02_beat_timing.md (R54). -/
def paramRows02a : List ParamRow := [
  ⟨"BEAT_COUNT", 0x1100, 1, 1, false,
   [⟨31, 0, .ro, 0x0, false⟩]⟩,
  ⟨"TICK_IN_BEAT", 0x1101, 1, 1, false,
   [⟨5, 0, .ro, 0x0, false⟩]⟩,
  ⟨"BEAT_LEAD", 0x1102, 1, 1, false,
   [⟨1, 0, .ro, 0x0, false⟩]⟩,
  ⟨"PARTNER_SKEW", 0x1103, 1, 1, false,
   [⟨15, 0, .ro, 0x0, false⟩]⟩,
  ⟨"PLL_STEER", 0x1104, 1, 1, false,
   [⟨15, 0, .ro, 0x0, false⟩]⟩,
  ⟨"SKEW_LIMIT", 0x1105, 1, 1, false,
   [⟨7, 0, .rwx, 0x8, false⟩]⟩,
  ⟨"TIMING_STICKY", 0x1106, 1, 1, false,
   [⟨0, 0, .w1c, 0x0, false⟩, ⟨1, 1, .w1c, 0x0, false⟩, ⟨2, 2, .w1c, 0x0, false⟩]⟩]

/-- Rows of the parameter map of 03_host_port.md (R102). -/
def paramRows03a : List ParamRow := [
  ⟨"INBOX_LAYOUT", 0x1200, 1, 1, false,
   [⟨7, 0, .rw, 0x4, false⟩, ⟨15, 8, .rw, 0x4, false⟩, ⟨23, 16, .rw, 0x4, false⟩, ⟨31, 24, .rw, 0x4, false⟩]⟩,
  ⟨"OUTBOX_LAYOUT", 0x1201, 1, 1, false,
   [⟨31, 0, .rw, 0x4040404, false⟩]⟩,
  ⟨"FILL_LEVEL", 0x1202, 1, 1, false,
   [⟨31, 0, .rw, 0x0, false⟩]⟩,
  ⟨"PACKET_GAP", 0x1203, 1, 1, false,
   [⟨7, 0, .rw, 0xA, false⟩]⟩,
  ⟨"PORT_STICKY", 0x1204, 1, 1, false,
   [⟨0, 0, .w1c, 0x0, false⟩, ⟨1, 1, .w1c, 0x0, false⟩, ⟨2, 2, .w1c, 0x0, false⟩, ⟨3, 3, .w1c, 0x0, false⟩, ⟨4, 4, .w1c, 0x0, false⟩, ⟨5, 5, .w1c, 0x0, false⟩]⟩,
  ⟨"FRAMING_COUNT", 0x1205, 1, 1, false,
   [⟨15, 0, .ro, 0x0, true⟩]⟩,
  ⟨"CRC_COUNT", 0x1206, 1, 1, false,
   [⟨15, 0, .ro, 0x0, true⟩]⟩,
  ⟨"INBOX_FILL", 0x1207, 1, 1, false,
   [⟨31, 0, .ro, 0x0, false⟩]⟩,
  ⟨"ABANDON_COUNT", 0x1208, 1, 1, false,
   [⟨15, 0, .ro, 0x0, true⟩]⟩,
  ⟨"INBOX_LAYOUT", 0x1210, 1, 1, false,
   [⟨7, 0, .rw, 0x4, false⟩, ⟨15, 8, .rw, 0x4, false⟩, ⟨23, 16, .rw, 0x4, false⟩, ⟨31, 24, .rw, 0x4, false⟩]⟩,
  ⟨"OUTBOX_LAYOUT", 0x1211, 1, 1, false,
   [⟨31, 0, .rw, 0x4040404, false⟩]⟩,
  ⟨"FILL_LEVEL", 0x1212, 1, 1, false,
   [⟨31, 0, .rw, 0x0, false⟩]⟩,
  ⟨"PACKET_GAP", 0x1213, 1, 1, false,
   [⟨7, 0, .rw, 0xA, false⟩]⟩,
  ⟨"PORT_STICKY", 0x1214, 1, 1, false,
   [⟨0, 0, .w1c, 0x0, false⟩, ⟨1, 1, .w1c, 0x0, false⟩, ⟨2, 2, .w1c, 0x0, false⟩, ⟨3, 3, .w1c, 0x0, false⟩, ⟨4, 4, .w1c, 0x0, false⟩, ⟨5, 5, .w1c, 0x0, false⟩]⟩,
  ⟨"FRAMING_COUNT", 0x1215, 1, 1, false,
   [⟨15, 0, .ro, 0x0, true⟩]⟩,
  ⟨"CRC_COUNT", 0x1216, 1, 1, false,
   [⟨15, 0, .ro, 0x0, true⟩]⟩,
  ⟨"INBOX_FILL", 0x1217, 1, 1, false,
   [⟨31, 0, .ro, 0x0, false⟩]⟩,
  ⟨"ABANDON_COUNT", 0x1218, 1, 1, false,
   [⟨15, 0, .ro, 0x0, true⟩]⟩,
  ⟨"CMD_UDP_PORT", 0x1219, 1, 1, false,
   [⟨15, 0, .rw, 0xB3E0, false⟩]⟩,
  ⟨"CMD_PEER", 0x121A, 1, 1, false,
   [⟨31, 0, .rw, 0x0, false⟩]⟩,
  ⟨"DROP_COUNT", 0x121B, 1, 1, false,
   [⟨15, 0, .ro, 0x0, true⟩]⟩]

/-- Rows of the parameter map of 17_events_and_faults.md (R513). -/
def paramRows17a : List ParamRow := [
  ⟨"EVENT_MASK_w", 0x1300, 1, 4, false,
   [⟨31, 0, .rw, 0x0, false⟩]⟩,
  ⟨"EVENT_STICKY_w", 0x1304, 1, 4, false,
   [⟨31, 0, .w1c, 0x0, false⟩]⟩,
  ⟨"HIST_EN_w", 0x1308, 1, 4, false,
   [⟨31, 0, .rw, 0xFFFFFFFF, false⟩]⟩,
  ⟨"EVQ_STATE", 0x130C, 1, 1, false,
   [⟨8, 0, .ro, 0x0, false⟩, ⟨16, 16, .ro, 0x0, false⟩]⟩,
  ⟨"EVQ_LOST_COUNT", 0x130D, 1, 1, false,
   [⟨15, 0, .ro, 0x0, true⟩]⟩,
  ⟨"HIST_STATE", 0x130E, 1, 1, false,
   [⟨5, 0, .ro, 0x0, false⟩, ⟨6, 6, .ro, 0x0, false⟩, ⟨14, 8, .ro, 0x0, false⟩, ⟨22, 16, .ro, 0x0, false⟩]⟩,
  ⟨"HIST_SEQ", 0x130F, 1, 1, false,
   [⟨31, 0, .ro, 0x0, false⟩]⟩,
  ⟨"HIST_SELECT", 0x1310, 1, 1, false,
   [⟨5, 0, .rw, 0x0, false⟩, ⟨8, 8, .rw, 0x0, false⟩]⟩,
  ⟨"HIST_CLEAR", 0x1311, 1, 1, false,
   [⟨0, 0, .rwx, 0x0, false⟩]⟩,
  ⟨"FW_REPEAT_COUNT", 0x1312, 1, 1, false,
   [⟨15, 0, .ro, 0x0, true⟩]⟩,
  ⟨"HIST_VIEW_j", 0x1320, 1, 32, false,
   [⟨31, 0, .ro, 0x0, false⟩]⟩]

/-- Rows of the parameter map of 15_twin_redundancy.md (R462, R463, R464). -/
def paramRows15a : List ParamRow := [
  ⟨"TWIN_CTRL", 0x1400, 1, 1, false,
   [⟨0, 0, .rw, 0x1, false⟩, ⟨15, 8, .rw, 0x64, false⟩]⟩,
  ⟨"TWIN_STATE", 0x1401, 1, 1, false,
   [⟨7, 0, .ro, 0x0, false⟩, ⟨9, 8, .ro, 0x0, false⟩, ⟨10, 10, .ro, 0x0, false⟩, ⟨11, 11, .ro, 0x0, false⟩, ⟨23, 16, .ro, 0xFF, false⟩, ⟨31, 24, .ro, 0x0, false⟩]⟩,
  ⟨"LEASE_OWN", 0x1402, 1, 1, false,
   [⟨31, 0, .ro, 0xFFFFFFFF, false⟩]⟩,
  ⟨"LEASE_PARTNER", 0x1403, 1, 1, false,
   [⟨31, 0, .ro, 0xFFFFFFFF, false⟩]⟩,
  ⟨"TWIN_STICKY", 0x1404, 1, 1, false,
   [⟨0, 0, .w1c, 0x0, false⟩, ⟨1, 1, .w1c, 0x0, false⟩, ⟨2, 2, .w1c, 0x0, false⟩, ⟨3, 3, .w1c, 0x0, false⟩, ⟨4, 4, .w1c, 0x0, false⟩, ⟨5, 5, .w1c, 0x0, false⟩, ⟨6, 6, .w1c, 0x0, false⟩]⟩,
  ⟨"UNIT_DISAGREE_COUNT", 0x1405, 1, 1, false,
   [⟨15, 0, .ro, 0x0, true⟩]⟩,
  ⟨"MIRROR_MISS_COUNT", 0x1406, 1, 1, false,
   [⟨15, 0, .ro, 0x0, true⟩]⟩,
  ⟨"HALTER_COUNT", 0x1407, 1, 1, false,
   [⟨15, 0, .ro, 0x0, true⟩]⟩,
  ⟨"FWD_LATE_COUNT", 0x1408, 1, 1, false,
   [⟨15, 0, .ro, 0x0, true⟩]⟩,
  ⟨"TOL_POS", 0x3000, 1, 1, true,
   [⟨15, 0, .rwx, 0xA, false⟩]⟩,
  ⟨"TOL_HEADING", 0x3001, 1, 1, true,
   [⟨15, 0, .rwx, 0x64, false⟩]⟩,
  ⟨"TOL_VEL", 0x3002, 1, 1, true,
   [⟨15, 0, .rwx, 0x5, false⟩]⟩,
  ⟨"TOL_RATE", 0x3003, 1, 1, true,
   [⟨15, 0, .rwx, 0x14, false⟩]⟩,
  ⟨"TOL_FORCE", 0x3004, 1, 1, true,
   [⟨15, 0, .rwx, 0x14, false⟩]⟩,
  ⟨"TOL_THRUST", 0x3005, 1, 1, true,
   [⟨15, 0, .rwx, 0xA, false⟩]⟩,
  ⟨"TOL_ANGLE", 0x3006, 1, 1, true,
   [⟨15, 0, .rwx, 0xA, false⟩]⟩,
  ⟨"FJ_STATE", 0x7400, 1, 1, false,
   [⟨1, 0, .ro, 0x2, false⟩, ⟨2, 2, .ro, 0x0, false⟩, ⟨3, 3, .ro, 0x0, false⟩, ⟨31, 16, .ro, 0x0, false⟩]⟩,
  ⟨"FJ_STICKY", 0x7401, 1, 1, false,
   [⟨0, 0, .w1c, 0x0, false⟩, ⟨1, 1, .w1c, 0x0, false⟩, ⟨2, 2, .w1c, 0x0, false⟩, ⟨3, 3, .w1c, 0x0, false⟩, ⟨4, 4, .w1c, 0x0, false⟩]⟩,
  ⟨"FJ_CODE_ERR_0", 0x7402, 1, 1, false,
   [⟨15, 0, .ro, 0x0, false⟩]⟩,
  ⟨"FJ_CODE_ERR_1", 0x7403, 1, 1, false,
   [⟨15, 0, .ro, 0x0, false⟩]⟩,
  ⟨"FJ_MSG_CRC_COUNT", 0x7404, 1, 1, false,
   [⟨15, 0, .ro, 0x0, true⟩]⟩]

/-- Rows of the parameter map of 08_control_law.md (R261). -/
def paramRows08a : List ParamRow := [
  ⟨"DP_MODE_STATE", 0x2000, 1, 1, true,
   [⟨2, 0, .ro, 0x0, false⟩, ⟨3, 3, .ro, 0x0, false⟩, ⟨5, 4, .ro, 0x1, false⟩, ⟨6, 6, .ro, 0x0, false⟩, ⟨15, 8, .ro, 0x0, false⟩]⟩,
  ⟨"LOSS_MODES", 0x2001, 1, 1, true,
   [⟨1, 0, .rw, 0x2, false⟩, ⟨2, 2, .rw, 0x1, false⟩, ⟨3, 3, .rw, 0x1, false⟩]⟩,
  ⟨"TARGET_N", 0x2003, 1, 3, true,
   [⟨31, 0, .ro, 0x0, false⟩]⟩,
  ⟨"RAMP_SPEED", 0x2008, 1, 1, true,
   [⟨31, 0, .rw, 0x3E99999A, false⟩]⟩,
  ⟨"RAMP_TURN", 0x2009, 1, 1, true,
   [⟨31, 0, .rw, 0x3CA3D70A, false⟩]⟩,
  ⟨"RAMP_ACCEL", 0x200A, 1, 1, true,
   [⟨31, 0, .rw, 0x3C23D70A, false⟩]⟩,
  ⟨"RAMP_ANG_ACCEL", 0x200B, 1, 1, true,
   [⟨31, 0, .rw, 0x3A83126F, false⟩]⟩,
  ⟨"BERTH_PUSH", 0x2010, 1, 1, true,
   [⟨15, 0, .rw, 0x0, false⟩, ⟨16, 16, .rw, 0x1, false⟩]⟩,
  ⟨"BERTH_LIMITS", 0x2011, 1, 1, true,
   [⟨15, 0, .rw, 0x64, false⟩, ⟨31, 16, .rw, 0x64, false⟩]⟩,
  ⟨"JOY_CTRL", 0x2018, 1, 1, true,
   [⟨0, 0, .rw, 0x0, false⟩, ⟨1, 1, .rw, 0x1, false⟩, ⟨2, 2, .rw, 0x1, false⟩, ⟨15, 8, .rw, 0x32, false⟩, ⟨23, 16, .rw, 0x8, false⟩]⟩,
  ⟨"JOY_CHAN", 0x2019, 1, 1, true,
   [⟨23, 0, .rw, 0xFFFFFF, false⟩]⟩,
  ⟨"JOY_SCALE_X", 0x201A, 1, 3, true,
   [⟨31, 0, .rw, 0x0, false⟩]⟩,
  ⟨"DEMAND_MAX_X", 0x2020, 1, 3, true,
   [⟨31, 0, .rw, 0x0, false⟩]⟩,
  ⟨"IMAX_X", 0x2024, 1, 3, true,
   [⟨31, 0, .rw, 0x0, false⟩]⟩,
  ⟨"BIAS_GAIN", 0x2027, 1, 1, true,
   [⟨31, 0, .rw, 0x3F800000, false⟩]⟩,
  ⟨"WIND_GAIN", 0x2028, 1, 1, true,
   [⟨31, 0, .rw, 0x3F800000, false⟩]⟩,
  ⟨"WIND_CTRL", 0x2029, 1, 1, true,
   [⟨15, 0, .rw, 0x64, false⟩, ⟨31, 16, .rw, 0x1F4, false⟩]⟩,
  ⟨"WIND_SOURCES", 0x202A, 1, 1, true,
   [⟨31, 0, .rw, 0xFFFFFFF8, false⟩]⟩,
  ⟨"AIR_DENSITY", 0x202B, 1, 1, true,
   [⟨31, 0, .rw, 0x3F9CCCCD, false⟩]⟩,
  ⟨"AREA_F", 0x202C, 1, 3, true,
   [⟨31, 0, .rw, 0x0, false⟩]⟩,
  ⟨"KP_ij", 0x2040, 1, 9, true,
   [⟨31, 0, .rwx, 0x0, false⟩]⟩,
  ⟨"KD_ij", 0x2049, 1, 9, true,
   [⟨31, 0, .rwx, 0x0, false⟩]⟩,
  ⟨"KI_ij", 0x2052, 1, 9, true,
   [⟨31, 0, .rwx, 0x0, false⟩]⟩,
  ⟨"WIND_CX_i", 0x2080, 1, 36, true,
   [⟨31, 0, .rwx, 0x0, false⟩]⟩]

/-- Rows of the parameter map of 08_control_law.md (R261). -/
def paramRows08b : List ParamRow := [
  ⟨"WIND_CY_i", 0x20A4, 1, 36, true,
   [⟨31, 0, .rwx, 0x0, false⟩]⟩,
  ⟨"WIND_CN_i", 0x20C8, 1, 36, true,
   [⟨31, 0, .rwx, 0x0, false⟩]⟩,
  ⟨"CTRL_STATE", 0x2100, 1, 1, true,
   [⟨2, 0, .ro, 0x0, false⟩, ⟨3, 3, .ro, 0x0, false⟩, ⟨6, 4, .ro, 0x0, false⟩, ⟨7, 7, .ro, 0x0, false⟩, ⟨8, 8, .ro, 0x0, false⟩, ⟨9, 9, .ro, 0x0, false⟩]⟩,
  ⟨"TRACK_STATE", 0x2101, 1, 1, true,
   [⟨6, 0, .ro, 0x0, false⟩, ⟨7, 7, .ro, 0x0, false⟩, ⟨14, 8, .ro, 0x0, false⟩, ⟨15, 15, .ro, 0x0, false⟩]⟩,
  ⟨"DEMAND_X", 0x2102, 1, 3, true,
   [⟨31, 0, .ro, 0x0, false⟩]⟩,
  ⟨"WIND_X", 0x2105, 1, 3, true,
   [⟨31, 0, .ro, 0x0, false⟩]⟩,
  ⟨"INTEG_X", 0x2108, 1, 3, true,
   [⟨31, 0, .ro, 0x0, false⟩]⟩,
  ⟨"CTRL_BEAT", 0x210B, 1, 1, true,
   [⟨31, 0, .ro, 0x0, false⟩]⟩,
  ⟨"CTRL_STICKY", 0x210C, 1, 1, true,
   [⟨5, 0, .w1c, 0x0, false⟩]⟩,
  ⟨"REF_N", 0x210D, 1, 3, true,
   [⟨31, 0, .ro, 0x0, false⟩]⟩]

/-- Rows of the parameter map of 05_reference_intake.md (R170, R171). -/
def paramRows05a : List ParamRow := [
  ⟨"SRC_CTRL", 0x2200, 8, 32, true,
   [⟨0, 0, .rw, 0x0, false⟩, ⟨3, 1, .rw, 0x0, false⟩, ⟨5, 4, .rw, 0x0, false⟩, ⟨7, 6, .rw, 0x0, false⟩, ⟨9, 8, .rw, 0x0, false⟩, ⟨10, 10, .rw, 0x1, false⟩, ⟨31, 16, .rw, 0x0, false⟩]⟩,
  ⟨"SRC_MATCH", 0x2201, 8, 32, true,
   [⟨31, 0, .rw, 0x0, false⟩]⟩,
  ⟨"SRC_TIMING", 0x2202, 8, 32, true,
   [⟨15, 0, .rw, 0x0, false⟩, ⟨25, 16, .rw, 0x64, false⟩]⟩,
  ⟨"SRC_SIGMA", 0x2203, 8, 32, true,
   [⟨15, 0, .rw, 0x0, false⟩, ⟨31, 16, .rw, 0x0, false⟩]⟩,
  ⟨"SRC_LEVER_XY", 0x2204, 8, 32, true,
   [⟨15, 0, .rw, 0x0, false⟩, ⟨31, 16, .rw, 0x0, false⟩]⟩,
  ⟨"SRC_LEVER_Z", 0x2205, 8, 32, true,
   [⟨15, 0, .rw, 0x0, false⟩, ⟨31, 16, .rw, 0x1F4, false⟩]⟩,
  ⟨"SRC_EXPERT_A", 0x2206, 8, 32, true,
   [⟨15, 0, .rwx, 0x0, false⟩, ⟨31, 16, .rwx, 0x0, false⟩]⟩,
  ⟨"SRC_EXPERT_B", 0x2207, 8, 32, true,
   [⟨15, 0, .rwx, 0x7D0, false⟩, ⟨31, 16, .rwx, 0x3E8, false⟩]⟩,
  ⟨"SER_CONFIG", 0x7300, 16, 4, false,
   [⟨1, 0, .rw, 0x0, false⟩, ⟨2, 2, .rw, 0x0, false⟩, ⟨3, 3, .rw, 0x0, false⟩, ⟨4, 4, .rw, 0x0, false⟩, ⟨5, 5, .rw, 0x0, false⟩, ⟨7, 6, .rw, 0x0, false⟩]⟩,
  ⟨"SER_STICKY", 0x7301, 16, 4, false,
   [⟨0, 0, .w1c, 0x0, false⟩, ⟨1, 1, .w1c, 0x0, false⟩, ⟨2, 2, .w1c, 0x0, false⟩, ⟨3, 3, .w1c, 0x0, false⟩, ⟨4, 4, .w1c, 0x0, false⟩]⟩,
  ⟨"SER_FRAMING_COUNT", 0x7302, 16, 4, false,
   [⟨15, 0, .ro, 0x0, true⟩]⟩,
  ⟨"SER_CHECKSUM_COUNT", 0x7303, 16, 4, false,
   [⟨15, 0, .ro, 0x0, true⟩]⟩,
  ⟨"SER_UNMATCHED_COUNT", 0x7304, 16, 4, false,
   [⟨15, 0, .ro, 0x0, true⟩]⟩,
  ⟨"SER_OVERLONG_COUNT", 0x7305, 16, 4, false,
   [⟨15, 0, .ro, 0x0, true⟩]⟩,
  ⟨"SER_TALK_SKIP", 0x7306, 16, 4, false,
   [⟨15, 0, .ro, 0x0, true⟩]⟩]

/-- Rows of the parameter map of 06_fusion_and_voting.md (R203). -/
def paramRows06a : List ParamRow := [
  ⟨"FUSION_CTRL", 0x2300, 1, 1, true,
   [⟨6, 0, .rw, 0x10, false⟩, ⟨8, 8, .rw, 0x1, false⟩, ⟨31, 16, .rw, 0x3E8, false⟩]⟩,
  ⟨"ORIGIN_LAT", 0x2301, 1, 1, true,
   [⟨31, 0, .rw, 0x0, false⟩]⟩,
  ⟨"ORIGIN_LON", 0x2302, 1, 1, true,
   [⟨31, 0, .rw, 0x0, false⟩]⟩,
  ⟨"ORIGIN_STATE", 0x2303, 1, 1, true,
   [⟨0, 0, .ro, 0x0, false⟩]⟩,
  ⟨"BIAS_TIME", 0x2304, 1, 1, true,
   [⟨15, 0, .rw, 0x3E8, false⟩]⟩,
  ⟨"GROUP_MAP_0", 0x2305, 1, 1, true,
   [⟨31, 0, .rw, 0xFFFFF000, false⟩]⟩,
  ⟨"GROUP_MAP_1", 0x2306, 1, 1, true,
   [⟨31, 0, .rw, 0xFFFFFFFF, false⟩]⟩,
  ⟨"GROUP_MAP_2", 0x2307, 1, 1, true,
   [⟨31, 0, .rw, 0xFFFFFFFF, false⟩]⟩,
  ⟨"GROUP_MAP_3", 0x2308, 1, 1, true,
   [⟨31, 0, .rw, 0xFFFFFFFF, false⟩]⟩,
  ⟨"MODEL_M11", 0x2310, 1, 1, true,
   [⟨31, 0, .rwx, 0x0, false⟩]⟩,
  ⟨"MODEL_M22", 0x2311, 1, 1, true,
   [⟨31, 0, .rwx, 0x0, false⟩]⟩,
  ⟨"MODEL_M33", 0x2312, 1, 1, true,
   [⟨31, 0, .rwx, 0x0, false⟩]⟩,
  ⟨"MODEL_D11", 0x2313, 1, 1, true,
   [⟨31, 0, .rwx, 0x0, false⟩]⟩,
  ⟨"MODEL_D22", 0x2314, 1, 1, true,
   [⟨31, 0, .rwx, 0x0, false⟩]⟩,
  ⟨"MODEL_D33", 0x2315, 1, 1, true,
   [⟨31, 0, .rwx, 0x0, false⟩]⟩,
  ⟨"Q_FORCE", 0x2316, 1, 1, true,
   [⟨31, 0, .rwx, 0x0, false⟩]⟩,
  ⟨"Q_MOMENT", 0x2317, 1, 1, true,
   [⟨31, 0, .rwx, 0x0, false⟩]⟩,
  ⟨"FUSION_STATE", 0x2320, 1, 1, true,
   [⟨3, 0, .ro, 0x0, false⟩, ⟨10, 8, .ro, 0x4, false⟩, ⟨13, 11, .ro, 0x4, false⟩, ⟨14, 14, .ro, 0x0, false⟩, ⟨15, 15, .ro, 0x0, false⟩]⟩,
  ⟨"HOLD_BEATS", 0x2321, 1, 1, true,
   [⟨15, 0, .ro, 0x0, false⟩, ⟨31, 16, .ro, 0x0, false⟩]⟩,
  ⟨"PICKS", 0x2322, 1, 1, true,
   [⟨7, 0, .ro, 0xFF, false⟩, ⟨15, 8, .ro, 0xFF, false⟩]⟩,
  ⟨"FUSION_STICKY", 0x2323, 1, 1, true,
   [⟨0, 0, .w1c, 0x0, false⟩, ⟨1, 1, .w1c, 0x0, false⟩, ⟨2, 2, .w1c, 0x0, false⟩, ⟨3, 3, .w1c, 0x0, false⟩, ⟨4, 4, .w1c, 0x0, false⟩, ⟨5, 5, .w1c, 0x0, false⟩, ⟨6, 6, .w1c, 0x0, false⟩]⟩,
  ⟨"TRACK_FULL_COUNT", 0x2324, 1, 1, true,
   [⟨15, 0, .ro, 0x0, true⟩]⟩,
  ⟨"FUSED_STATE_i", 0x2330, 1, 15, true,
   [⟨31, 0, .ro, 0x0, false⟩]⟩,
  ⟨"FUSED_BEAT", 0x233F, 1, 1, true,
   [⟨31, 0, .ro, 0x0, false⟩]⟩]

/-- Rows of the parameter map of 09_thrust_allocation.md (R294). -/
def paramRows09a : List ParamRow := [
  ⟨"THR_CONFIG", 0x2400, 8, 16, true,
   [⟨2, 0, .rwx, 0x0, false⟩, ⟨5, 4, .rwx, 0x0, false⟩, ⟨13, 8, .rwx, 0x3F, false⟩, ⟨21, 16, .rwx, 0x3F, false⟩, ⟨29, 24, .rwx, 0x3F, false⟩]⟩,
  ⟨"THR_X", 0x2401, 8, 16, true,
   [⟨31, 0, .rwx, 0x0, false⟩]⟩,
  ⟨"THR_Y", 0x2402, 8, 16, true,
   [⟨31, 0, .rwx, 0x0, false⟩]⟩,
  ⟨"THR_ANGLE", 0x2403, 8, 16, true,
   [⟨15, 0, .rwx, 0x0, false⟩]⟩,
  ⟨"T_FWD", 0x2404, 8, 16, true,
   [⟨31, 0, .rwx, 0x0, false⟩]⟩,
  ⟨"T_REV", 0x2405, 8, 16, true,
   [⟨31, 0, .rwx, 0x0, false⟩]⟩,
  ⟨"THR_RATES", 0x2406, 8, 16, true,
   [⟨15, 0, .rwx, 0x64, false⟩, ⟨31, 16, .rwx, 0x64, false⟩]⟩,
  ⟨"THR_STEER", 0x2407, 8, 16, true,
   [⟨15, 0, .rwx, 0x64, false⟩, ⟨31, 16, .rwx, 0x10, false⟩]⟩,
  ⟨"ALLOC_CTRL", 0x2480, 1, 1, true,
   [⟨2, 0, .rw, 0x0, false⟩, ⟨3, 3, .rwx, 0x0, false⟩, ⟨5, 4, .rw, 0x0, false⟩, ⟨7, 6, .rw, 0x0, false⟩, ⟨15, 8, .rw, 0x32, false⟩]⟩,
  ⟨"POWER_CAN_ID", 0x2481, 1, 1, true,
   [⟨31, 0, .rw, 0x2A0, false⟩]⟩,
  ⟨"W_TAU", 0x2482, 1, 1, true,
   [⟨31, 0, .rw, 0x447A0000, false⟩]⟩,
  ⟨"W_POWER", 0x2483, 1, 1, true,
   [⟨31, 0, .rw, 0x3F800000, false⟩]⟩,
  ⟨"W_RAMP", 0x2484, 1, 1, true,
   [⟨31, 0, .rw, 0x3DCCCCCD, false⟩]⟩,
  ⟨"P_NORM", 0x2485, 1, 1, true,
   [⟨31, 0, .rw, 0x447A0000, false⟩]⟩,
  ⟨"POWER_REJECT_COUNT", 0x2486, 1, 1, true,
   [⟨15, 0, .ro, 0x0, true⟩]⟩,
  ⟨"BUS_CAP", 0x2490, 4, 4, true,
   [⟨15, 0, .rw, 0x0, false⟩, ⟨31, 16, .rw, 0x0, false⟩]⟩,
  ⟨"BUS_SAFE", 0x2491, 4, 4, true,
   [⟨15, 0, .rw, 0x0, false⟩, ⟨31, 16, .rw, 0x64, false⟩]⟩,
  ⟨"BUS_DEF", 0x2492, 4, 4, true,
   [⟨15, 0, .rw, 0x64, false⟩, ⟨16, 16, .rw, 0x0, false⟩]⟩,
  ⟨"BUS_STATE", 0x2493, 4, 4, true,
   [⟨15, 0, .ro, 0x0, false⟩, ⟨31, 16, .ro, 0x0, false⟩]⟩,
  ⟨"ALLOC_STATE", 0x24C0, 1, 1, true,
   [⟨7, 0, .ro, 0x0, false⟩, ⟨15, 8, .ro, 0x0, false⟩, ⟨23, 16, .ro, 0x0, false⟩, ⟨31, 24, .ro, 0xFF, false⟩]⟩,
  ⟨"ALLOC_BEAT", 0x24C1, 1, 1, true,
   [⟨31, 0, .ro, 0x0, false⟩]⟩,
  ⟨"LIVE_MASK_LO", 0x24C2, 1, 1, true,
   [⟨31, 0, .ro, 0x0, false⟩]⟩,
  ⟨"LIVE_MASK_HI", 0x24C3, 1, 1, true,
   [⟨15, 0, .ro, 0x0, false⟩]⟩,
  ⟨"SHORT_STATE", 0x24C4, 1, 1, true,
   [⟨3, 0, .ro, 0x0, false⟩, ⟨7, 4, .ro, 0x0, false⟩, ⟨10, 8, .ro, 0x0, false⟩]⟩]

/-- Rows of the parameter map of 09_thrust_allocation.md (R294). -/
def paramRows09b : List ParamRow := [
  ⟨"ALLOC_STICKY", 0x24C5, 1, 1, true,
   [⟨6, 0, .w1c, 0x0, false⟩]⟩,
  ⟨"INVALID_COUNT", 0x24C6, 1, 1, true,
   [⟨15, 0, .ro, 0x0, true⟩]⟩,
  ⟨"REGULARISED_COUNT", 0x24C7, 1, 1, true,
   [⟨15, 0, .ro, 0x0, true⟩]⟩,
  ⟨"FIT_T(i+1)", 0x2500, 16, 16, true,
   [⟨31, 0, .rwx, 0x0, false⟩]⟩,
  ⟨"FIT_T(i+1)", 0x2501, 16, 16, true,
   [⟨31, 0, .rwx, 0x0, false⟩]⟩,
  ⟨"FIT_T(i+1)", 0x2502, 16, 16, true,
   [⟨31, 0, .rwx, 0x0, false⟩]⟩,
  ⟨"FIT_A(i+1)", 0x2503, 16, 16, true,
   [⟨31, 0, .rwx, 0x0, false⟩]⟩,
  ⟨"FIT_A(i+1)", 0x2504, 16, 16, true,
   [⟨31, 0, .rwx, 0x0, false⟩]⟩,
  ⟨"FIT_A(i+1)", 0x2505, 16, 16, true,
   [⟨31, 0, .rwx, 0x0, false⟩]⟩,
  ⟨"FIT_A(i+1)", 0x2506, 16, 16, true,
   [⟨31, 0, .rwx, 0x0, false⟩]⟩,
  ⟨"FIT_P0", 0x2507, 16, 16, true,
   [⟨31, 0, .rwx, 0x0, false⟩]⟩]

/-- Rows of the parameter map of 07_gnss_baseband.md (R232). -/
def paramRows07a : List ParamRow := [
  ⟨"GNSS_CTRL", 0x4000, 1, 1, false,
   [⟨0, 0, .rw, 0x1, false⟩, ⟨1, 1, .rw, 0x1, false⟩, ⟨2, 2, .rw, 0x1, false⟩, ⟨5, 4, .rw, 0x3, false⟩, ⟨8, 8, .rw, 0x1, false⟩, ⟨9, 9, .rw, 0x1, false⟩]⟩,
  ⟨"CORR_SPACING", 0x4001, 1, 1, false,
   [⟨6, 0, .rw, 0x8, false⟩]⟩,
  ⟨"LOOP_BW", 0x4002, 1, 1, false,
   [⟨7, 0, .rwx, 0x32, false⟩, ⟨15, 8, .rwx, 0xF, false⟩, ⟨23, 16, .rwx, 0x4, false⟩]⟩,
  ⟨"SIGNAL_MASKS", 0x4003, 1, 1, false,
   [⟨7, 0, .rw, 0xA, false⟩, ⟨15, 8, .rw, 0x1E, false⟩]⟩,
  ⟨"BASELINE_LEN", 0x4004, 1, 1, false,
   [⟨15, 0, .rw, 0x0, false⟩]⟩,
  ⟨"BASELINE_TOL", 0x4005, 1, 1, false,
   [⟨15, 0, .rw, 0x32, false⟩]⟩,
  ⟨"BASELINE_ANGLE", 0x4006, 1, 1, false,
   [⟨15, 0, .rw, 0x0, false⟩]⟩,
  ⟨"CHECK_CTRL", 0x4007, 1, 1, false,
   [⟨5, 0, .rwx, 0x3F, false⟩, ⟨8, 8, .rwx, 0x1, false⟩]⟩,
  ⟨"RAIM_SIGMA", 0x4008, 1, 1, false,
   [⟨15, 0, .rwx, 0x1F4, false⟩]⟩,
  ⟨"ANT_STATE_A", 0x4010, 1, 1, false,
   [⟨1, 0, .ro, 0x0, false⟩, ⟨15, 8, .ro, 0x0, false⟩]⟩,
  ⟨"ANT_STATE_B", 0x4011, 1, 1, false,
   [⟨15, 0, .ro, 0x0, false⟩]⟩,
  ⟨"FIX_STATE_A", 0x4012, 1, 1, false,
   [⟨0, 0, .ro, 0x0, false⟩, ⟨12, 8, .ro, 0x0, false⟩, ⟨31, 16, .ro, 0x0, false⟩]⟩,
  ⟨"FIX_STATE_B", 0x4013, 1, 1, false,
   [⟨31, 0, .ro, 0x0, false⟩]⟩,
  ⟨"HEADING_STATE", 0x4014, 1, 1, false,
   [⟨1, 0, .ro, 0x0, false⟩, ⟨12, 8, .ro, 0x0, false⟩, ⟨31, 16, .ro, 0x0, false⟩]⟩,
  ⟨"CHECK_STATE", 0x4015, 1, 1, false,
   [⟨5, 0, .ro, 0x0, false⟩, ⟨9, 8, .ro, 0x0, false⟩]⟩,
  ⟨"GNSS_STICKY", 0x4016, 1, 1, false,
   [⟨0, 0, .w1c, 0x0, false⟩, ⟨1, 1, .w1c, 0x0, false⟩, ⟨2, 2, .w1c, 0x0, false⟩, ⟨3, 3, .w1c, 0x0, false⟩, ⟨4, 4, .w1c, 0x0, false⟩, ⟨5, 5, .w1c, 0x0, false⟩, ⟨6, 6, .w1c, 0x0, false⟩, ⟨7, 7, .w1c, 0x0, false⟩]⟩,
  ⟨"PARITY_COUNT", 0x4017, 1, 1, false,
   [⟨15, 0, .ro, 0x0, true⟩]⟩,
  ⟨"START_STATE", 0x4018, 1, 1, false,
   [⟨1, 0, .ro, 0x3, false⟩, ⟨31, 16, .ro, 0xFFFF, false⟩]⟩]

/-- Rows of the parameter map of 10_thruster_servo.md (R318). -/
def paramRows10a : List ParamRow := [
  ⟨"AX_CONFIG", 0x5000, 16, 48, true,
   [⟨1, 0, .rwx, 0x0, false⟩, ⟨2, 2, .rwx, 0x0, false⟩, ⟨13, 8, .rwx, 0x3F, false⟩, ⟨21, 16, .rwx, 0x3F, false⟩, ⟨29, 24, .rwx, 0x3F, false⟩]⟩,
  ⟨"AX_FB_SCALE", 0x5001, 16, 48, true,
   [⟨15, 0, .rwx, 0xD8F0, false⟩, ⟨31, 16, .rwx, 0x2710, false⟩]⟩,
  ⟨"AX_OUT_SCALE", 0x5002, 16, 48, true,
   [⟨15, 0, .rwx, 0xFA0, false⟩, ⟨31, 16, .rwx, 0x4E20, false⟩]⟩,
  ⟨"AX_KP", 0x5003, 16, 48, true,
   [⟨31, 0, .rwx, 0x0, false⟩]⟩,
  ⟨"AX_KI", 0x5004, 16, 48, true,
   [⟨31, 0, .rwx, 0x0, false⟩]⟩,
  ⟨"AX_KD", 0x5005, 16, 48, true,
   [⟨31, 0, .rwx, 0x0, false⟩]⟩,
  ⟨"AX_KFF", 0x5006, 16, 48, true,
   [⟨31, 0, .rwx, 0x0, false⟩]⟩,
  ⟨"AX_FRIC", 0x5007, 16, 48, true,
   [⟨15, 0, .rwx, 0x0, false⟩, ⟨31, 16, .rwx, 0x64, false⟩]⟩,
  ⟨"AX_LIMITS", 0x5008, 16, 48, true,
   [⟨15, 0, .rw, 0x7D0, false⟩, ⟨31, 16, .rw, 0x2710, false⟩]⟩,
  ⟨"AX_RATE", 0x5009, 16, 48, true,
   [⟨15, 0, .rw, 0x1388, false⟩, ⟨31, 16, .rw, 0x7D0, false⟩]⟩,
  ⟨"AX_FE", 0x500A, 16, 48, true,
   [⟨15, 0, .rw, 0x3E8, false⟩, ⟨31, 16, .rw, 0x190, false⟩]⟩,
  ⟨"AX_PARK", 0x500B, 16, 48, true,
   [⟨15, 0, .rw, 0x0, false⟩, ⟨23, 16, .rw, 0xA, false⟩, ⟨31, 24, .rw, 0x14, false⟩]⟩,
  ⟨"AX_SAFE", 0x500C, 16, 48, true,
   [⟨15, 0, .rw, 0x0, false⟩, ⟨17, 16, .rw, 0x0, false⟩]⟩,
  ⟨"AX_STATE", 0x500D, 16, 48, true,
   [⟨2, 0, .ro, 0x0, false⟩, ⟨3, 3, .ro, 0x0, false⟩, ⟨7, 4, .ro, 0x0, false⟩, ⟨8, 8, .ro, 0x0, false⟩, ⟨9, 9, .ro, 0x0, false⟩, ⟨31, 16, .ro, 0x0, false⟩]⟩,
  ⟨"AX_STICKY", 0x500E, 16, 48, true,
   [⟨0, 0, .w1c, 0x0, false⟩, ⟨1, 1, .w1c, 0x0, false⟩, ⟨2, 2, .w1c, 0x0, false⟩, ⟨3, 3, .w1c, 0x0, false⟩, ⟨4, 4, .w1c, 0x0, false⟩]⟩,
  ⟨"AX_FAULT_COUNT", 0x500F, 16, 48, true,
   [⟨15, 0, .ro, 0x0, true⟩]⟩]

/-- Rows of the parameter map of 12_filter_chain.md (R377). -/
def paramRows12a : List ParamRow := [
  ⟨"FLT_CONFIG", 0x5400, 16, 48, true,
   [⟨1, 0, .rw, 0x1, false⟩, ⟨7, 4, .rwx, 0x0, false⟩, ⟨9, 8, .rw, 0x0, false⟩, ⟨20, 16, .rw, 0xE, false⟩]⟩,
  ⟨"FLT_PRIVATE", 0x5401, 16, 48, false,
   [⟨8, 0, .ro, 0x0, false⟩, ⟨24, 16, .ro, 0x0, false⟩]⟩,
  ⟨"FLT_STATUS", 0x5402, 16, 48, false,
   [⟨8, 0, .ro, 0x10, false⟩, ⟨24, 16, .ro, 0xC0, false⟩, ⟨25, 25, .ro, 0x1, false⟩, ⟨26, 26, .ro, 0x0, false⟩, ⟨27, 27, .ro, 0x0, false⟩]⟩,
  ⟨"FLT_OUTPUT", 0x5403, 16, 48, false,
   [⟨23, 0, .ro, 0x0, false⟩]⟩,
  ⟨"FLT_OUT_INDEX", 0x5404, 16, 48, false,
   [⟨31, 0, .ro, 0x0, false⟩]⟩,
  ⟨"FLT_DC", 0x5405, 16, 48, false,
   [⟨23, 0, .ro, 0x0, false⟩]⟩,
  ⟨"FLT_STICKY", 0x5406, 16, 48, false,
   [⟨3, 0, .w1c, 0x0, false⟩]⟩,
  ⟨"FLT_SAT_COUNT", 0x5407, 16, 48, false,
   [⟨15, 0, .ro, 0x0, true⟩]⟩,
  ⟨"FLT_SYNC_CTRL", 0x5408, 1, 1, true,
   [⟨0, 0, .rw, 0x0, false⟩, ⟨1, 1, .rw, 0x0, false⟩]⟩,
  ⟨"SYNC_ORIGIN", 0x5409, 1, 1, false,
   [⟨31, 0, .ro, 0x0, false⟩]⟩,
  ⟨"SYNC_COUNT", 0x540A, 1, 1, false,
   [⟨15, 0, .ro, 0x0, true⟩]⟩]

/-- Rows of the parameter map of 11_field_channels.md (R352, R353). -/
def paramRows11a : List ParamRow := [
  ⟨"CH_CONFIG", 0x6000, 16, 48, true,
   [⟨2, 0, .rw, 0x0, false⟩, ⟨3, 3, .rw, 0x0, false⟩, ⟨4, 4, .rw, 0x0, false⟩, ⟨5, 5, .rw, 0x1, false⟩, ⟨15, 8, .rw, 0x0, false⟩]⟩,
  ⟨"CH_SAFE", 0x6001, 16, 48, true,
   [⟨1, 0, .rw, 0x0, false⟩, ⟨31, 16, .rw, 0x0, false⟩]⟩,
  ⟨"CH_OUTPUT", 0x6002, 16, 48, true,
   [⟨0, 0, .rw, 0x0, false⟩, ⟨31, 16, .rw, 0x0, false⟩]⟩,
  ⟨"CH_EXPERT", 0x6003, 16, 48, true,
   [⟨15, 0, .rwx, 0xC8, false⟩, ⟨23, 16, .rwx, 0x1, false⟩, ⟨24, 24, .rwx, 0x1, false⟩]⟩,
  ⟨"CH_STATUS", 0x6004, 16, 48, false,
   [⟨0, 0, .ro, 0x0, false⟩, ⟨1, 1, .ro, 0x0, false⟩, ⟨9, 2, .ro, 0x0, false⟩, ⟨10, 10, .ro, 0x0, false⟩, ⟨11, 11, .ro, 0x0, false⟩, ⟨12, 12, .ro, 0x0, false⟩, ⟨31, 16, .ro, 0x0, false⟩]⟩,
  ⟨"CH_STICKY", 0x6005, 16, 48, false,
   [⟨7, 0, .w1c, 0x0, false⟩, ⟨8, 8, .w1c, 0x0, false⟩]⟩,
  ⟨"CH_FAULT_COUNT", 0x6006, 16, 48, false,
   [⟨15, 0, .ro, 0x0, true⟩]⟩,
  ⟨"BANK_CTRL", 0x6400, 16, 2, true,
   [⟨9, 0, .rw, 0x32, false⟩, ⟨10, 10, .rw, 0x0, false⟩]⟩,
  ⟨"BANK_STATUS", 0x6401, 16, 2, false,
   [⟨2, 0, .ro, 0x1, false⟩, ⟨7, 3, .ro, 0x0, false⟩, ⟨31, 16, .ro, 0x0, false⟩]⟩,
  ⟨"BANK_LATCH", 0x6402, 16, 2, false,
   [⟨0, 0, .w1c, 0x0, false⟩, ⟨1, 1, .w1c, 0x0, false⟩]⟩,
  ⟨"BANK_STICKY", 0x6403, 16, 2, false,
   [⟨5, 0, .w1c, 0x0, false⟩]⟩,
  ⟨"BANK_CURRENT", 0x6404, 16, 2, false,
   [⟨15, 0, .ro, 0x0, false⟩]⟩,
  ⟨"BANK_CRC_COUNT", 0x6405, 16, 2, false,
   [⟨15, 0, .ro, 0x0, true⟩]⟩]

/-- Rows of the parameter map of 13_can_buses.md (R405). -/
def paramRows13a : List ParamRow := [
  ⟨"CAN_CTRL", 0x7000, 64, 4, true,
   [⟨0, 0, .rw, 0x0, false⟩, ⟨1, 1, .rw, 0x0, false⟩, ⟨2, 2, .rw, 0x1, false⟩, ⟨3, 3, .rw, 0x1, false⟩, ⟨4, 4, .rwx, 0x1, false⟩, ⟨5, 5, .rw, 0x0, false⟩, ⟨13, 8, .rw, 0x0, false⟩, ⟨14, 14, .rw, 0x0, false⟩]⟩,
  ⟨"CAN_NBT", 0x7001, 64, 4, true,
   [⟨5, 0, .rwx, 0x1, false⟩, ⟨15, 8, .rwx, 0x9F, false⟩, ⟨22, 16, .rwx, 0x28, false⟩, ⟨30, 24, .rwx, 0x28, false⟩]⟩,
  ⟨"CAN_DBT", 0x7002, 64, 4, true,
   [⟨3, 0, .rwx, 0x2, false⟩, ⟨12, 8, .rwx, 0x12, false⟩, ⟨19, 16, .rwx, 0x6, false⟩, ⟨27, 24, .rwx, 0x6, false⟩]⟩,
  ⟨"CAN_TDC", 0x7003, 64, 4, true,
   [⟨6, 0, .rwx, 0x26, false⟩]⟩,
  ⟨"THR_FRAME_ID", 0x7004, 64, 4, true,
   [⟨31, 0, .rw, 0x180, false⟩]⟩,
  ⟨"HB_ID", 0x7005, 64, 4, true,
   [⟨31, 0, .rw, 0x100, false⟩]⟩,
  ⟨"CAN_STATE", 0x7008, 64, 4, false,
   [⟨1, 0, .ro, 0x3, false⟩, ⟨2, 2, .ro, 0x0, false⟩, ⟨3, 3, .ro, 0x0, false⟩, ⟨15, 8, .ro, 0x0, false⟩, ⟨24, 16, .ro, 0x0, false⟩]⟩,
  ⟨"CAN_STICKY", 0x7009, 64, 4, false,
   [⟨0, 0, .w1c, 0x0, false⟩, ⟨1, 1, .w1c, 0x0, false⟩, ⟨2, 2, .w1c, 0x0, false⟩, ⟨3, 3, .w1c, 0x0, false⟩, ⟨4, 4, .w1c, 0x0, false⟩, ⟨5, 5, .w1c, 0x0, false⟩, ⟨6, 6, .w1c, 0x0, false⟩, ⟨7, 7, .w1c, 0x0, false⟩]⟩,
  ⟨"CLASH_ENTRY_e", 0x7010, 64, 4, false,
   [⟨28, 0, .ro, 0x0, false⟩, ⟨29, 29, .ro, 0x0, false⟩, ⟨30, 30, .ro, 0x0, false⟩, ⟨31, 31, .ro, 0x0, false⟩]⟩,
  ⟨"CLASH_ENTRY_e", 0x7011, 64, 4, false,
   [⟨28, 0, .ro, 0x0, false⟩, ⟨29, 29, .ro, 0x0, false⟩, ⟨30, 30, .ro, 0x0, false⟩, ⟨31, 31, .ro, 0x0, false⟩]⟩,
  ⟨"CLASH_ENTRY_e", 0x7012, 64, 4, false,
   [⟨28, 0, .ro, 0x0, false⟩, ⟨29, 29, .ro, 0x0, false⟩, ⟨30, 30, .ro, 0x0, false⟩, ⟨31, 31, .ro, 0x0, false⟩]⟩,
  ⟨"CLASH_ENTRY_e", 0x7013, 64, 4, false,
   [⟨28, 0, .ro, 0x0, false⟩, ⟨29, 29, .ro, 0x0, false⟩, ⟨30, 30, .ro, 0x0, false⟩, ⟨31, 31, .ro, 0x0, false⟩]⟩,
  ⟨"CLASH_ENTRY_e", 0x7014, 64, 4, false,
   [⟨28, 0, .ro, 0x0, false⟩, ⟨29, 29, .ro, 0x0, false⟩, ⟨30, 30, .ro, 0x0, false⟩, ⟨31, 31, .ro, 0x0, false⟩]⟩,
  ⟨"CLASH_ENTRY_e", 0x7015, 64, 4, false,
   [⟨28, 0, .ro, 0x0, false⟩, ⟨29, 29, .ro, 0x0, false⟩, ⟨30, 30, .ro, 0x0, false⟩, ⟨31, 31, .ro, 0x0, false⟩]⟩,
  ⟨"CLASH_ENTRY_e", 0x7016, 64, 4, false,
   [⟨28, 0, .ro, 0x0, false⟩, ⟨29, 29, .ro, 0x0, false⟩, ⟨30, 30, .ro, 0x0, false⟩, ⟨31, 31, .ro, 0x0, false⟩]⟩,
  ⟨"CLASH_ENTRY_e", 0x7017, 64, 4, false,
   [⟨28, 0, .ro, 0x0, false⟩, ⟨29, 29, .ro, 0x0, false⟩, ⟨30, 30, .ro, 0x0, false⟩, ⟨31, 31, .ro, 0x0, false⟩]⟩,
  ⟨"CLASH_BEATS_e", 0x7018, 64, 4, false,
   [⟨31, 0, .ro, 0x0, false⟩]⟩,
  ⟨"CLASH_BEATS_e", 0x7019, 64, 4, false,
   [⟨31, 0, .ro, 0x0, false⟩]⟩,
  ⟨"CLASH_BEATS_e", 0x701A, 64, 4, false,
   [⟨31, 0, .ro, 0x0, false⟩]⟩,
  ⟨"CLASH_BEATS_e", 0x701B, 64, 4, false,
   [⟨31, 0, .ro, 0x0, false⟩]⟩,
  ⟨"CLASH_BEATS_e", 0x701C, 64, 4, false,
   [⟨31, 0, .ro, 0x0, false⟩]⟩,
  ⟨"CLASH_BEATS_e", 0x701D, 64, 4, false,
   [⟨31, 0, .ro, 0x0, false⟩]⟩,
  ⟨"CLASH_BEATS_e", 0x701E, 64, 4, false,
   [⟨31, 0, .ro, 0x0, false⟩]⟩,
  ⟨"CLASH_BEATS_e", 0x701F, 64, 4, false,
   [⟨31, 0, .ro, 0x0, false⟩]⟩]

/-- Rows of the parameter map of 13_can_buses.md (R405). -/
def paramRows13b : List ParamRow := [
  ⟨"CAN_TX_COUNT", 0x7020, 64, 4, false,
   [⟨31, 0, .ro, 0x0, true⟩]⟩,
  ⟨"CAN_RX_COUNT", 0x7021, 64, 4, false,
   [⟨31, 0, .ro, 0x0, true⟩]⟩,
  ⟨"CAN_ERR_COUNT", 0x7022, 64, 4, false,
   [⟨15, 0, .ro, 0x0, true⟩]⟩,
  ⟨"CAN_CLASH_COUNT", 0x7023, 64, 4, false,
   [⟨15, 0, .ro, 0x0, true⟩]⟩,
  ⟨"CAN_DROP_COUNT", 0x7024, 64, 4, false,
   [⟨15, 0, .ro, 0x0, true⟩]⟩,
  ⟨"CAN_BUSOFF_COUNT", 0x7025, 64, 4, false,
   [⟨15, 0, .ro, 0x0, true⟩]⟩]

/-- Rows of the parameter map of 14_time_and_ethernet.md (R434, R435). -/
def paramRows14a : List ParamRow := [
  ⟨"ETH_CTRL", 0x7100, 16, 2, false,
   [⟨0, 0, .rw, 0x0, false⟩, ⟨1, 1, .rw, 0x1, false⟩, ⟨2, 2, .rw, 0x0, false⟩, ⟨11, 8, .rw, 0x3, false⟩, ⟨31, 16, .rw, 0x0, false⟩]⟩,
  ⟨"ETH_IP", 0x7101, 16, 2, false,
   [⟨31, 0, .rw, 0x0, false⟩]⟩,
  ⟨"ETH_MASK", 0x7102, 16, 2, false,
   [⟨31, 0, .rw, 0xFFFFFF00, false⟩]⟩,
  ⟨"ETH_SFI", 0x7103, 16, 2, false,
   [⟨15, 0, .rw, 0x1, false⟩]⟩,
  ⟨"ETH_LAT", 0x7104, 16, 2, false,
   [⟨15, 0, .rwx, 0x118, false⟩, ⟨31, 16, .rwx, 0xB0, false⟩]⟩,
  ⟨"ETH_STATE", 0x7105, 16, 2, false,
   [⟨0, 0, .ro, 0x0, false⟩]⟩,
  ⟨"ETH_STICKY", 0x7106, 16, 2, false,
   [⟨0, 0, .w1c, 0x0, false⟩, ⟨1, 1, .w1c, 0x0, false⟩]⟩,
  ⟨"ETH_RX_COUNT", 0x7107, 16, 2, false,
   [⟨31, 0, .ro, 0x0, true⟩]⟩,
  ⟨"ETH_TX_COUNT", 0x7108, 16, 2, false,
   [⟨31, 0, .ro, 0x0, true⟩]⟩,
  ⟨"ETH_DROP_COUNT", 0x7109, 16, 2, false,
   [⟨15, 0, .ro, 0x0, true⟩]⟩,
  ⟨"ETH_MAC_LO", 0x710A, 16, 2, false,
   [⟨31, 0, .ro, 0x0, false⟩]⟩,
  ⟨"ETH_MAC_HI", 0x710B, 16, 2, false,
   [⟨15, 0, .ro, 0x0, false⟩]⟩,
  ⟨"TIME_CTRL", 0x7200, 1, 1, false,
   [⟨0, 0, .rw, 0x0, false⟩, ⟨1, 1, .rw, 0x1, false⟩, ⟨31, 16, .rw, 0xA, false⟩]⟩,
  ⟨"TIME_INC_LO", 0x7201, 1, 1, false,
   [⟨31, 0, .rwx, 0x0, false⟩]⟩,
  ⟨"TIME_INC_HI", 0x7202, 1, 1, false,
   [⟨7, 0, .rwx, 0xA, false⟩]⟩,
  ⟨"UTC_CTRL", 0x7203, 1, 1, false,
   [⟨15, 0, .rw, 0x25, false⟩]⟩,
  ⟨"TIME_STATE", 0x7204, 1, 1, false,
   [⟨1, 0, .ro, 0x3, false⟩, ⟨2, 2, .ro, 0x0, false⟩, ⟨3, 3, .ro, 0x0, false⟩, ⟨4, 4, .ro, 0x0, false⟩, ⟨15, 8, .ro, 0x25, false⟩]⟩,
  ⟨"TIME_SIGMA", 0x7205, 1, 1, false,
   [⟨31, 0, .ro, 0x0, false⟩]⟩,
  ⟨"TIME_STICKY", 0x7206, 1, 1, false,
   [⟨4, 0, .w1c, 0x0, false⟩]⟩,
  ⟨"PPS_CTRL", 0x7207, 1, 1, false,
   [⟨0, 0, .rw, 0x1, false⟩]⟩,
  ⟨"PPS_SUPPRESS_COUNT", 0x7208, 1, 1, false,
   [⟨15, 0, .ro, 0x0, true⟩]⟩,
  ⟨"SLOT_CFG", 0x7210, 16, 2, false,
   [⟨1, 0, .rw, 0x0, false⟩, ⟨2, 2, .rw, 0x0, false⟩, ⟨5, 4, .rw, 0x0, false⟩, ⟨15, 8, .rw, 0x0, false⟩, ⟨31, 16, .rwx, 0x8, false⟩]⟩,
  ⟨"SLOT_ASYM", 0x7211, 16, 2, false,
   [⟨31, 0, .rwx, 0x0, false⟩]⟩,
  ⟨"SLOT_STATE", 0x7212, 16, 2, false,
   [⟨1, 0, .ro, 0x3, false⟩, ⟨2, 2, .ro, 0x0, false⟩, ⟨3, 3, .ro, 0x0, false⟩, ⟨15, 8, .ro, 0x0, false⟩]⟩]

/-- Rows of the parameter map of 14_time_and_ethernet.md (R435). -/
def paramRows14b : List ParamRow := [
  ⟨"SLOT_OFFSET", 0x7213, 16, 2, false,
   [⟨31, 0, .ro, 0x0, false⟩]⟩,
  ⟨"SLOT_RATE", 0x7214, 16, 2, false,
   [⟨31, 0, .ro, 0x0, false⟩]⟩,
  ⟨"SLOT_PATH", 0x7215, 16, 2, false,
   [⟨31, 0, .ro, 0x0, false⟩]⟩,
  ⟨"SLOT_PARENT_LO", 0x7216, 16, 2, false,
   [⟨31, 0, .ro, 0x0, false⟩]⟩,
  ⟨"SLOT_PARENT_HI", 0x7217, 16, 2, false,
   [⟨31, 0, .ro, 0x0, false⟩]⟩,
  ⟨"SLOT_PARENT_PORT", 0x7218, 16, 2, false,
   [⟨15, 0, .ro, 0x0, false⟩, ⟨23, 16, .ro, 0x0, false⟩]⟩,
  ⟨"SLOT_HOLD_TIME", 0x7219, 16, 2, false,
   [⟨31, 0, .ro, 0x0, false⟩]⟩,
  ⟨"SLOT_MSG_COUNT", 0x721A, 16, 2, false,
   [⟨15, 0, .ro, 0x0, true⟩, ⟨31, 16, .ro, 0x0, true⟩]⟩]

/-- Rows of the parameter map of 01_architecture.md (R41). -/
def paramRows01a : List ParamRow := [
  ⟨"SBE_COUNT", 0x0FF0, 4096, 8, false,
   [⟨31, 0, .ro, 0x0, true⟩]⟩,
  ⟨"POISON_COUNT", 0x0FF1, 4096, 8, false,
   [⟨15, 0, .ro, 0x0, true⟩]⟩,
  ⟨"YARD_STATE", 0x0FF2, 4096, 8, false,
   [⟨1, 0, .ro, 0x0, false⟩]⟩,
  ⟨"FENCE_CAUSE", 0x0FF3, 4096, 8, false,
   [⟨3, 0, .ro, 0x0, false⟩, ⟨15, 8, .ro, 0xFF, false⟩]⟩,
  ⟨"BLOCK_FENCE_MAP", 0x0FF4, 4096, 8, false,
   [⟨31, 0, .ro, 0x0, false⟩]⟩,
  ⟨"HEALTH_STICKY", 0x0FF5, 4096, 8, false,
   [⟨0, 0, .w1c, 0x0, false⟩, ⟨1, 1, .w1c, 0x0, false⟩, ⟨2, 2, .w1c, 0x0, false⟩, ⟨3, 3, .w1c, 0x0, false⟩, ⟨4, 4, .w1c, 0x0, false⟩]⟩,
  ⟨"BLOCK_RETRY_COUNT", 0x0FF6, 4096, 8, false,
   [⟨15, 0, .ro, 0x0, true⟩]⟩]

/-- Every row of every parameter map (04 R138). -/
def paramRows : List ParamRow :=
  paramRows16a ++ paramRows04a ++ paramRows02a ++ paramRows03a ++ paramRows17a ++ paramRows15a ++ paramRows08a ++ paramRows08b ++ paramRows05a ++ paramRows06a ++ paramRows09a ++ paramRows09b ++ paramRows07a ++ paramRows10a ++ paramRows12a ++ paramRows11a ++ paramRows13a ++ paramRows13b ++ paramRows14a ++ paramRows14b ++ paramRows01a

/-- Does the row hold the identifier? -/
def ParamRow.has (r : ParamRow) (id : Nat) : Bool :=
  decide (r.base ≤ id) && (id - r.base) % r.stride == 0 && decide ((id - r.base) / r.stride < r.count)

/-- The row of an identifier; none for an identifier not in the parameter space (04 R138). -/
def paramRow (id : Nat) : Option ParamRow := paramRows.find? (·.has id)

/-- Which of the row's identifiers this is: the index the map's ID column is written with. -/
def ParamRow.index (r : ParamRow) (id : Nat) : Nat := (id - r.base) / r.stride

/-- The bits an access code's fields cover in an identifier. -/
def ParamRow.mask (r : ParamRow) (f : Access → Bool) : Word :=
  r.fields.foldl (fun w x => if f x.acc then putBits w x.hi x.lo (2 ^ (x.hi + 1 - x.lo) - 1) else w) 0

/-- Event numbers that the manual assigns, as mask words 0 to 3 (17 R498, R513). -/
def assignedEvents : Nat → Word
  | 0 => 0x00FF7F3F#32
  | 1 => 0x3FFF1FFF#32
  | 2 => 0x001F3FFF#32
  | 3 => 0x1FFF00FF#32
  | _ => 0

/-- Is the identifier one of the event words, whose bits of unassigned numbers are reserved (17 R498)? -/
def isEventWord (id : Nat) : Bool := decide (0x1300 ≤ id) && decide (id < 0x130C)

/-- The writable bits of an identifier: those of RW, RWX and W1C fields (04 R130), less the bits of unassigned event
numbers (17 R498). -/
def writableMask (id : Nat) (r : ParamRow) : Word :=
  let m := r.mask (fun a => a != .ro)
  if isEventWord id then m &&& assignedEvents ((id - 0x1300) % 4) else m

/-- The W1C bits of an identifier. -/
def w1cMask (r : ParamRow) : Word := r.mask (· == .w1c)

/-- Does the identifier hold an RWX field (00 R13)? -/
def ParamRow.hasRwx (r : ParamRow) : Bool := r.fields.any (·.acc == .rwx)

/-- The word that a row's Reset column spells. -/
def ParamRow.resetWord (r : ParamRow) : Word := r.fields.foldl (fun w x => putBits w x.hi x.lo x.reset) 0

/-- The reset word of an identifier, with the resets that the maps give by index: SRC_CTRL and SRC_SIGMA of the
internal sources (05 R170), SLOT_CFG (14 R435), HIST_EN (17 R513). An identifier of no map reads 0. -/
def resetWord (id : Nat) : Word :=
  match paramRow id with
  | none => 0
  | some r =>
    let w := r.resetWord
    let i := r.index id
    if r.name = "SRC_CTRL" then
      if i ≤ 2 then
        putBits (putBits (putBits (putBits w 3 1 (if i = 2 then 3 else 1)) 5 4 3) 7 6 3) 9 8 i
      else w
    else if r.name = "SRC_SIGMA" then putBits w 15 0 (if i ≤ 1 then 1500 else if i = 2 then 200 else 0)
    else if r.name = "SLOT_CFG" then putBits (putBits w 1 0 (if i = 0 then 2 else 0)) 15 8 i
    else if r.name = "HIST_EN_w" then assignedEvents i
    else w

/-- Is the identifier carried by the state mirror, so that a write of it needs the halter (04 R122, R139)? -/
def isMirrored (id : Nat) : Bool :=
  match paramRow id with
  | none => false
  | some r => r.mirrored

/-- The yard that owns an identifier: its high nibble (04 R138). -/
def yardOf (id : Nat) : Nat := id / 0x1000

/-- Is the identifier one of a yard's health parameters, which stay readable while it is fenced (01 R41)? -/
def isHealthId (id : Nat) : Bool := decide (0xFF0 ≤ id % 0x1000)

end Sys2Proof.Machine
end

