-- ==== Sys2Proof/Config.lean ====
section
/-! DEFINITION. What an implementation fixes and the manual does not: factory values, and the free values, as constants
with no body. A statement that uses one holds for every value of it. -/
namespace Sys2Proof.Config

/-- A value the manual leaves open, by the site that needs it and the counter State.free: nothing constrains it. -/
opaque freeNat : Nat → Nat → Nat

/-- A word the manual leaves open, by site and counter. -/
opaque freeWord : Nat → Nat → Word

/-- The factory serial of the unit (04 R140 UNIT_SERIAL). -/
opaque unitSerial : Word

/-- The factory MAC addresses of X6 and X7 (14 R407). -/
opaque mac : Fin 2 → BitVec 48

/-- The sine of an angle in radians, binary32. The manual names the function and gives no error bound. -/
opaque sin : F32 → F32

/-- The cosine of an angle in radians, binary32. -/
opaque cos : F32 → F32

/-- The tangent of an angle in radians, binary32. -/
opaque tan : F32 → F32

/-- The four-quadrant arc tangent of y and x, binary32, in radians. -/
opaque atan2 : F32 → F32 → F32

/-- North and east offset, in µm, of a position from a working origin, both as latitude and longitude in 10^-9 degrees
(05 R160: reduced in 64-bit integer arithmetic; the manual gives no figure of the earth). -/
opaque localOffset : Int → Int → Int → Int → Int × Int

/-- The code loop filter of a GNSS channel (07 R209: first order, carrier-aided): DLL_BW, the discriminator in chips, the
carrier replica's state and the code replica's. The manual gives no coefficients. -/
opaque codeLoop : Nat → F32 → Int → Int → Int

/-- The carrier loop filters of a GNSS channel (07 R209: third order, FLL-assisted; in PULL_IN the FLL of second order): PLL_BW and
FLL_BW, whether the channel is in PULL_IN, the phase discriminator in rad, the frequency discriminator's cross and dot, and the
replica's state. -/
opaque carrierLoop : Nat → Nat → Bool → F32 → Int → Int → Int → Int

/-- Does an ephemeris place its satellite more than 5 km from its almanac position (07 R212)? -/
opaque orbitFar : List Nat → List Nat → Bool

/-- Is a satellite predicted above the elevation mask (07 R226): its ephemeris, the retained position, PTP seconds, mask? -/
opaque predictedUp : List Nat → Option (Int × Int) → Nat → Nat → Bool

/-- The Doppler, in mHz, predicted for a satellite (07 R210, R226): its ephemeris or almanac page, the retained position, PTP
seconds. -/
opaque predictedDoppler : List Nat → Option (Int × Int) → Nat → Int

/-- The GPS week of the build date of the firmware release (07 R213). -/
opaque buildWeek : Nat

/-- Taps of the fixed coefficient sets of the presets (12 R365), by preset and place. The manual gives their sum, their symmetry
and their response, and not their values; the filter makes the middle pair complete the sum. -/
opaque presetTap : Nat → Nat → Int

/-- The settings that a stored module configuration holds (04 R132 kind 4): the manual gives its layout nowhere. -/
opaque moduleConfig : List Byte → List (Nat × Word)

/-- Words of a memory of a yard (01 R22): the manual gives a size to few of the memories, and numbers none. -/
opaque memoryWords : Nat → Nat → Nat

/-- Bytes of a beat marker on the fibre (15 R442): the manual gives its layout nowhere. -/
opaque markerBytes : Nat

/-- CRC-32 over a mirror image and the check lane's image beside it (15 R445), whose layouts the manual gives nowhere; the second
argument stands for what the check image holds. -/
opaque stateDigest : MirrorImage → Nat → Nat

end Sys2Proof.Config
end

