-- ==== Sys2Proof/Machine/State.lean ====
section
/-! DEFINITION. The state of the block as plain data: every register of the parameter maps, every FIFO, queue, table,
counter, mode and line that the manual gives the module, and the queue of waiting commands. INVENTORY.md lists each
with the rule that names it. -/
namespace Sys2Proof.Machine

/-! ## 01 -/

/-- A register file: the identifiers whose word differs from the reset word of the parameter map, with their words, in
rising order of identifier. An identifier not listed reads its reset word. -/
abbrev Regs := List (Nat × Word)

/-- The clocks: the cycle counter C at the latest command (14 R414), the local time counter λ in 2^-32 ns (14 R414),
the beat counter and the cycle of its edge (02 R51), the tick counter and the cycle of its edge (02 R53), whether the
core clock runs (16 R473) and whether ticks and beats run (02 R538), and the cycle of the first RUN beat edge. -/
structure Clock where
  cycle    : Nat
  lambda   : Nat
  beat     : Nat
  beatBase : Nat
  tick     : Nat
  tickBase : Nat
  core     : Bool
  ticks    : Bool
  beats    : Bool
  runEdge  : Nat
deriving DecidableEq, Repr

/-- A commit applied in the latest commit cycle: the requester's class and port (01 R16, R18) and its target set, by
identifier (01 R42). -/
structure Applied where
  cls     : Nat
  port    : Nat
  targets : List Nat
deriving DecidableEq, Repr

/-- The module arbiter: the latest commit cycle, what was applied in it (01 R42, R45), and the register file that its first commit
found, which reads of that cycle return (R20). fwLost: a firmware write lost again, with the cycle its next repeat is due (R43). -/
structure Arbiter where
  cycle   : Nat
  applied : List Applied
  before  : Regs
  fwLost  : Option (Nat × List FwWrite)
deriving DecidableEq, Repr

/-- What the status logic has set in one cycle: the cycle, and each bit by identifier and number. A host clear in the same cycle leaves
them set (00 R14, 01 R19: SP0 against SP3). -/
structure SetBits where
  cycle : Nat
  bits  : List (Nat × Nat)
deriving DecidableEq, Repr

/-- The scrubber's place in one memory of a yard: the word it reads next, and the cycle of its latest read (01 R22, 02 R75). -/
structure ScrubPlace where
  word : Nat
  last : Nat
deriving DecidableEq, Repr

/-- The blocks of one yard that the watchdog has seen fault: those whose next operation is a retry, each with whether the poisoned result
of the faulted operation is still to be delivered, and those in their 32-cycle reset with the cycle it ends (01 R29, R30); the scrubber's
place in each memory that it has read, by the memory's number (R22). -/
structure YardUnit where
  retry    : List (Nat × Bool)
  inReset  : List (Nat × Nat)
  scrub    : List (Nat × ScrubPlace)
deriving DecidableEq, Repr

/-- An accepted yard restart or module reset waiting for its beat edge (04 R136, R137). -/
structure RestartPending where
  yard   : Nat
  commit : Nat
deriving DecidableEq, Repr

/-! ## 03 -/

/-- A bale in an inbox lane: FIRST of its access byte, the cycle its pointer crossed, its 64 bytes, and for port 1 the
source and length of the datagram it begins (03 R88, R93, R104). -/
structure InBale where
  first : Bool
  cross : Nat
  bytes : List Byte
  peer  : Option Peer
  dgram : Option Nat
deriving DecidableEq, Repr

/-- A reply bale in an outbox lane (03 R100): the edge from which it is complete, whether it is the last bale of its reply, and its
bytes. -/
structure OutBale where
  ready : Nat
  last  : Bool
  bytes : List Byte
deriving DecidableEq, Repr

/-- The bale in its 320-cycle drain (03 R98); stray: a non-FIRST bale read where a packet start is expected (R99);
start: it begins a packet. -/
structure Draining where
  lane  : Fin 4
  bale  : InBale
  since : Nat
  stray : Bool
deriving DecidableEq, Repr

/-- The packet the engine reads: its lane, the bytes drained so far, the bales it needs, and the crossing edge of its
latest bale (03 R98, R99). -/
structure OpenPacket where
  lane      : Fin 4
  got       : List Byte
  bales     : Nat
  need      : Nat
  lastCross : Nat
  peer      : Option Peer
deriving DecidableEq, Repr

/-- The bales of a reply not yet in the outbox, with the cycle the next is complete at the earliest (03 R100), and for
port 1 the whole packet for its datagram (R106). -/
structure ReplyRest where
  lane   : Fin 4
  bales  : List OutBale
  nextAt : Nat
  peer   : Option Peer
  packet : List Byte
deriving DecidableEq, Repr

/-- A request the engine has parsed, for the opcode's own command: its opcode byte and the request (03 R98). -/
structure ParsedRequest where
  opcode : Byte
  req    : Req
deriving DecidableEq, Repr

/-- The command engine of a port (03 R97-R100). -/
structure Engine where
  freeAt   : Nat
  draining : Option Draining
  packet   : Option OpenPacket
  request  : Option ParsedRequest
  rest     : Option ReplyRest
deriving DecidableEq, Repr

/-- Fragments of one command datagram, with the crossing edge of the first (14 R410). -/
structure FragSet where
  peer  : Peer
  ident : Half
  since : Nat
  parts : List Datagram
deriving DecidableEq, Repr

/-- One port: four inbox lanes, four outbox lanes, the lanes whose reply is partly read, the latest read first (03 R101), the lanes whose
rejected packet's later bales are being discarded (R90), the lane and edge of the latest drain end (R96), the engine, and datagram
fragments (port 1). -/
structure HostPort where
  inbox    : Vector (List InBale) 4
  outbox   : Vector (List OutBale) 4
  partRead : List (Fin 4)
  discard  : Vector Bool 4
  drained  : Option (Fin 4 × Nat)
  engine   : Engine
  frags    : List FragSet
deriving DecidableEq, Repr

/-- A selection on the host port: whether it is open, whether it began in a sleep state and is ignored whole (03 R86),
its access byte once it has crossed, whether that byte was invalid, its grant edge, the outbox lane a read serves
(none with a grant: the null bale), and whether its bale has moved (03 R77-R85). -/
structure Selection where
  sel     : Bool
  ignored : Bool
  access  : Option Byte
  invalid : Bool
  grant   : Option Nat
  lane    : Option (Fin 4)
  moved   : Bool
deriving DecidableEq, Repr

/-- The host port's lines: HRDY's level, the end of the pulse in progress, the first cycle a pulse may start, the cycles
from which attentions not yet announced are due, the lane of the latest write selection (03 R81, R83, 02 R74), the selection, and the
bale shifted out on HDO. -/
structure HostLine where
  hrdy      : Bool
  pulseEnd  : Option Nat
  nextPulse : Nat
  due       : List Nat
  lastLane  : Fin 4
  sel       : Selection
  hdo       : List Byte
deriving DecidableEq, Repr

/-! ## 04 -/

/-- The session of one port: the request edge of its latest request in the session, for the idle timer (04 R118), the cycle
at which its EXPERT_OPEN lock ends (R117), the cycle at which its latest session closed, and whether the request being served
came in while a session was open (R119). SESSION_STATE holds the open bits and mismatch counts. -/
structure Session where
  lastEdge : Nat
  lockEnd  : Option Nat
  closedAt : Nat
  cur      : Bool
deriving DecidableEq, Repr

/-- An open configuration load (04 R132, R133). -/
structure OpenLoad where
  port   : Fin 2
  kind   : Nat
  total  : Nat
  next   : Nat
  bytes  : List Byte
  latest : Nat
deriving DecidableEq, Repr

/-- Configuration loads (04 R132-R135): the open one and the one that the holder forwards (15 R449); how the latest load ended (0 idle, 3
stored, 4 failed), its kind, next chunk index and bytes received; and the files being stored in the background. -/
structure LoadUnit where
  load    : Option OpenLoad
  fwd     : Option OpenLoad
  ended   : Nat
  kind    : Nat
  next    : Nat
  got     : Nat
  storing : List (Nat × List Byte)
deriving DecidableEq, Repr

/-- The nonvolatile configuration store: the session code (04 R120) and the latest stored file of kinds 1 to 4 with its
CRC (R134, R135). -/
structure NvStore where
  code  : Half
  files : Vector (List Byte) 5
deriving DecidableEq, Repr

/-! ## 05 -/

/-- Why intake rejects a record, in the order of REF_INPUT_REJECT's codes (05 R165), and DUPLICATE, which raises no
event. -/
inductive Reject where
  | format | invalid | overrun | stampReject | windowDiscard | duplicate
deriving DecidableEq, Repr

/-- A sample record (05 R150-R154): its availability edge, its arrival stamp, the message-time stamp where the message
carries a valid one, all in core cycles of the counter; latitude and longitude in 10^-9 degrees for kind 1; the other
kinds' values in the units of R143. -/
structure SampleRec where
  avail   : Nat
  arrival : Int
  msg     : Option Int
  lat     : Int
  lon     : Int
  v1      : F32
  v2      : F32
  v3      : Option F32
deriving DecidableEq, Repr

/-- A sample that intake keeps for alignment (05 R159): its stamp and its converted values. -/
structure KeptSample where
  stamp : Int
  v1    : F32
  v2    : F32
  v3    : Option F32
deriving DecidableEq, Repr

/-- The counters of a source (05 R169). -/
structure SrcCount where
  accepted : Nat
  late     : Nat
  window   : Nat
  supers   : Nat
  dup      : Nat
  overrun  : Nat
  format   : Nat
  invalid  : Nat
  stampRej : Nat
  fallback : Nat
  loss     : Nat
  maxAge   : Nat
deriving DecidableEq, Repr

/-- Intake of one source (05 R154-R164, R169): whether the latest summary saw it enabled, its state, AGE, the records buffered since the latest latch and the rejects
counted since it, both as the latch froze them, the two kept samples, the counters, what the latest accepted record
left for REF_STATUS_READ, the frame counter of the latest accepted CAN frame, the recent sentences by port, and the
block of 100 beats in which REF_INPUT_REJECT was raised, and whether what carries the source stood fenced at the latch. -/
structure SrcUnit where
  on      : Bool
  state   : Nat
  age     : Nat
  buf     : List SampleRec
  pend    : List Reject
  image   : List SampleRec
  rejects : List Reject
  kept    : List KeptSample
  count   : SrcCount
  lastStamp   : Int
  lastArrival : Int
  lastDelta   : Int
  lastAlign   : Nat
  lastSub     : Bool
  v1      : F32
  v2      : F32
  v3      : F32
  sigma   : F32
  counter : Option Nat
  lines   : List (Fin 2 × Nat × List Byte)
  rejBlk  : Option Nat
  cut     : Bool
deriving DecidableEq, Repr

/-- A talk sentence by its content (05 R172): IIHDT with the fused heading, where it is valid; IIZDA with the UTC time in
10 ms, and whether it lies inside an inserted leap second, in which the line reads second 60 (14 R427) and the time is that of second 59. -/
inductive TalkLine where
  | hdt (psi : Option F32)
  | zda (utc : Int) (leap : Bool)
deriving DecidableEq, Repr

/-- An RS-422 port (05 R165, R172): the block in which SERIAL_FAULT was raised, the talk sentence being sent and the one
that waits behind it. -/
structure SerPort where
  faultBlk : Option Nat
  sending  : Option TalkLine
  waiting  : Option TalkLine
deriving DecidableEq, Repr

/-! ## 07 -/

/-- A tracking channel (07 R207-R211, R214, R231). centre: the last
Doppler with the cycle of a loss of lock, the search centre for 10 s; aid: the code replica of the partner channel; spacing, dll,
pll, fll: the settings of the integration under way; prevI, prevQ: the latest prompt sums; bit: the latest sum over 20 ms; tail: D29
and D30 of the latest subframe's last word, with its cycle; inEpoch: the channel's bank was in service on the latest tick. -/
structure GChan where
  prn     : Nat
  state   : Nat
  cn0     : Nat
  dop     : Int
  phase   : Int
  prev    : Option Int
  code    : Int
  elev    : Option Int
  az      : Option Nat
  goodMs  : Nat
  badMs   : Nat
  lockMs  : Nat
  lockAt  : Option Nat
  signal  : Nat
  centre  : Option (Int × Nat)
  aid     : Option Int
  spacing : Nat
  dll     : Nat
  pll     : Nat
  fll     : Nat
  prevI   : Int
  prevQ   : Int
  ncoCode : Int
  ncoCarr : Int
  sumI    : Int
  sumQ    : Int
  sumN    : Nat
  bit     : Int × Int
  tail    : Option (Bool × Bool × Nat)
  lastTow : Option Nat
  inEpoch : Bool
  slip    : Bool
  usedPos : Bool
  usedHdg : Bool
  raim    : Bool
  resid   : F32
deriving DecidableEq, Repr

/-- A channel with no satellite (07 R210). -/
def GChan.idle : GChan :=
  { prn := 0, state := 0, cn0 := 0, dop := 0, phase := 0, prev := none, code := 0, elev := none, az := none, goodMs := 0
    badMs := 0, lockMs := 0, lockAt := none, signal := 0, centre := none, aid := none, spacing := 8
    dll := 50, pll := 15, fll := 4, prevI := 0, prevQ := 0, ncoCode := 0, ncoCarr := 0, sumI := 0, sumQ := 0, sumN := 0
    bit := (0, 0), tail := none, lastTow := none, inEpoch := false, slip := false, usedPos := false, usedHdg := false, raim := false, resid := 0 }

/-- What one antenna has decoded of a satellite: data words of subframes 1 to 3, and the accepted IODE with its data. -/
structure SatDecode where
  sf   : Vector (Option (List Nat)) 3
  acc  : Option (Nat × List Nat)
deriving DecidableEq, Repr

/-- Navigation data of a satellite (07 R212): each antenna's decoding, the ephemeris held with its IODE and the cycle of its
receipt, the IODE for which it is excluded, and the IODE that its almanac page rejects. -/
structure SatNav where
  dec  : Vector SatDecode 2
  eph  : Option (Nat × List Nat)
  recv : Int
  bad  : Option Nat
  far  : Option Nat
deriving DecidableEq, Repr

/-- A satellite of which nothing is known. -/
def SatNav.empty : SatNav := ⟨Vector.replicate 2 ⟨Vector.replicate 3 none, none⟩, none, 0, none, none⟩

/-- The hot-start block in retention RAM (07 R225): ephemerides by satellite with their ages in s at the write, almanac
pages each with its age in s, week, antenna A position, clock drift, the GPS time of the write in seconds of the PTP scale, and whether
its CRC-32 stands. -/
structure GnssBlock where
  ephs   : List (Nat × List Nat × Nat)
  alm    : List (Nat × List Nat × Nat)
  week   : Option Nat
  pos    : Option (Int × Int)
  drift  : Int
  time   : Nat
  good   : Bool
deriving DecidableEq, Repr

/-- One consistency check (07 R223, R224): standing, the antenna mask, and the cycle at which its condition last held. -/
structure GCheck where
  stands : Bool
  mask   : Nat
  met    : Nat
deriving DecidableEq, Repr

/-- The settings of an epoch, as they stood on its measurement tick (07 R229, R230): masks, enabled checks, SPOOF_ACTION, RAIM_SIGMA
and BASELINE_TOL. -/
structure EpochSet where
  elev   : Nat
  cn0    : Nat
  checks : Nat
  spoof  : Bool
  sigma  : Nat
  tol    : Nat
deriving DecidableEq, Repr

/-- The baseband (07): channels of antenna A (0-23) and B (24-47), satellites, almanac pages each with the cycle of its receipt, the
measurement tick (due while its epoch strobe is still to come), the settings of its epoch, the epoch rate in force, the clock solution as
GPS time in ns of the PTP scale at a cycle, and the latest
epoch, heading (ints with the reference satellite; a drop that the next strobe reports), checks, antenna supplies, the start in progress
(a timeout that the next strobe reports), the UTC offset decoded (14 R427), the retained
block, and the cycle of its latest write of R225's 60 s. -/
structure Gnss where
  ch      : Vector GChan 48
  sats    : Vector SatNav 32
  alm     : List (Nat × List Nat × Int)
  week    : Option Nat
  pos     : Option (Int × Int)
  drift   : Option Int
  bias    : Option Int
  tick    : Option Nat
  prevTick : Option Nat
  tickDue : Bool
  cfg     : EpochSet
  rate    : Nat
  gpsAt   : Option (Int × Nat)
  epoch   : Nat
  heading : Nat
  cand    : Option (List (Fin 24 × Int) × Nat)
  ints    : List (Fin 24 × Int × Nat)
  dropDue : Bool
  agc     : Vector (List (Nat × Int)) 2
  cohere  : Nat
  ephTrig : Bool
  checks  : Vector GCheck 6
  antShort : Vector (Option Nat) 2
  startAt : Option Nat
  startType : Nat
  firstFix : Bool
  timedOut : Bool
  timeoutDue : Bool
  utcLs   : Option Int
  block   : Option GnssBlock
  blockAt : Option Nat
deriving DecidableEq, Repr

/-! ## 09 -/

/-- The allocation problem of a beat (09 R270): variables, Hessian, linear term, rows, the constant of each bus's power bound, limits
before and after the reachable minimum and least powers by bus, available power, the constant of J, flags, the demand, the buses that are short, compatibility
mode, and the azimuths θ0. -/
structure AProb where
  vars   : List AVar
  hess   : List (List F32)
  lin    : List F32
  rows   : List ARow
  base   : List F32
  cap    : List F32
  limit  : List F32
  least  : List F32
  avail  : List Nat
  objc   : F32
  cold   : Bool
  partly : Bool
  poison : Bool
  tauD   : List F32
  short  : List Bool
  compat : Bool
  theta  : List F32
deriving DecidableEq, Repr

/-- A record of a switchboard's power (09 R272): available power and ramps where present. -/
structure PowerRec where
  avail : Nat
  up    : Option Nat
  dn    : Option Nat
deriving DecidableEq, Repr

/-- The power data of a bus (09 R272): the record waiting for the next latch, the latest latched, AGE, whether it is stale as events have
it, and the latest COUNTER. -/
structure PowerBus where
  rx    : Option PowerRec
  data  : Option PowerRec
  age   : Nat
  stale : Bool
  count : Option Nat
deriving DecidableEq, Repr

/-- An entry of the fallback table (09 R283): mask and 48 rows of 3. -/
structure FbEntry where
  mask : Nat
  rows : List (List F32)
deriving DecidableEq, Repr

/-- The allocator (09): live variables with their axes as the beat edge found them, and those of the beat before; thruster states; the
problem of the beat and its iterate with how many iterations are done, the first tiny pivot and whether one was regularised; the last valid
iterate with its variables and rows; invalid streak, fallback mode, valid beats in it and the entry; the latest result and the one released at
the latest beat edge; power data; short axes; the block of the latest ALLOC_REGULARISED; the fallback table and one that waits for the beat edge; bytes 3 200 to
3 263 of the input image (R275). -/
structure Alloc where
  live    : List (Nat × Nat)
  was     : List (Nat × Nat)
  thr     : Vector ThrState 16
  prob    : Option AProb
  iter    : AIter
  done    : Nat
  tiny    : Option Nat
  reg     : Bool
  valid   : Option (AIter × List AVar × List ARow)
  streak  : Nat
  fb      : Bool
  fbRun   : Nat
  entry   : Nat
  res     : AResult
  rel     : AResult
  bus     : Vector PowerBus 4
  shortAx : Nat
  regBlk  : Option Nat
  table   : List FbEntry
  tableNew : Option (List FbEntry)
  image   : List Byte
deriving DecidableEq, Repr

/-! ## 10 -/

/-- A requested enable or disable of an axis (10 R310, R311): on: enable; thr: part of a thruster request; clear: made in
FAULT, whose fault it cleared. -/
structure AxisReq where
  on    : Bool
  thr   : Bool
  clear : Bool
deriving DecidableEq, Repr

/-- The values of an axis as its latest cycle 15 560 registered them (10 R317). -/
structure AxisShown where
  state : Nat
  code  : Nat
  fe    : Nat
  sp    : Option F32
  ref   : F32
  y     : F32
  u     : F32
  integ : F32
  tick  : Nat
  flags : Nat
deriving DecidableEq, Repr

/-- A servo axis (10 R296-R313): state, fault code, pending enable (thr: of a thruster request), the request of the beat and the one
due at the next tick edge 40k; reference and its velocity, feedback with its poison, previous feedback, integrator, staged command and the
one registered before it, error; setpoint of the beat before and of the beat; counters of R304, R308 and R305; flags of the
latest tick; join angle, and whether OFF was reached through a completed park; the tick of the values; the block of the latest
AXIS_SATURATED; whether a non-holder finds a fault of its own (15 R450), and the ARG
of an AXIS_ON that waits for cycle 15 560; and what AXIS_STATUS_READ shows. -/
structure AxisUnit where
  state   : Nat
  code    : Nat
  pend    : Bool
  pendThr : Bool
  reqNew  : Option AxisReq
  reqDue  : Option AxisReq
  ref     : F32
  vel     : F32
  y       : F32
  poison  : Bool
  yPrev   : F32
  integ   : F32
  u       : F32
  uPrev   : F32
  err     : F32
  sPrev   : Option F32
  sNew    : Option F32
  fe      : Nat
  settle  : Nat
  fbBad   : Nat
  outBad  : Nat
  sat     : Bool
  held    : Bool
  comp    : Bool
  join    : F32
  parked  : Bool
  tick    : Nat
  satBlk  : Option Nat
  locFault : Bool
  onEv    : Option Nat
  shown   : AxisShown
deriving DecidableEq, Repr

/-- An axis as it is before anything has run (10 R307: OFF). -/
def AxisUnit.off : AxisUnit :=
  ⟨0, 0, false, false, none, none, 0, 0, 0, false, 0, 0, 0, 0, 0, none, none, 0, 0, 0, 0, false, false, false, 0, false, 0,
    none, false, none, ⟨0, 0, 0, none, 0, 0, 0, 0, 0, 0⟩⟩

/-- The servo engine: axes, compensation tables (an empty table is all zero) and those that wait for the next beat edge,
and the axis transitions that the holder forwards in the running tick (15 R450). -/
structure Servo where
  axes    : Vector AxisUnit 48
  tables  : Vector (List Int) 48
  newTabs : List (Nat × List Int)
  fwd     : List (Fin 48 × AxisForward)
deriving DecidableEq, Repr

/-! ## 11 -/

/-- A field channel on both sides of the barrier (11). On the isolated side: mode in force, the mode that waits for tick 4 of the beat
(R347), its copies of CH_CONFIG, CH_SAFE and CH_EXPERT, the driving enable (R345), the value of the latest applied frame, and a
cut-off of the switch (thermal or not), with its tick, and whether it waits for an off command (R333). On the logic side: the ticks for
which flags still read 0 (R347), comparator level, scanner flags, I_t in µA times 2^24, the command in force in the latest tick and the one
before, ticks since it changed, DI state, the level being debounced and for how many ticks, the state of R328, the flags of the
latest tick and those of the latest faulted one. safe: the channel is in safe state (a host-owned one until a beat output frame after
resumption); safeRep: as the latest return frame shows it. -/
structure ChanUnit where
  mode    : Nat
  modeNew : Option Nat
  cfg     : Word
  safe32  : Word
  expert  : Word
  drive   : Bool
  cmd     : Nat
  cut     : Option Bool
  cutTick : Nat
  needOff : Bool
  quiet   : Option Nat
  lvl     : Bool
  openW   : Bool
  hot     : Bool
  it      : Int
  eff     : Nat
  effPrev : Nat
  since   : Nat
  di      : Bool
  cand    : Bool
  run     : Nat
  wb      : Option Bool
  flags   : Nat
  lastF   : Nat
  safe    : Bool
  safeRep : Bool
deriving DecidableEq, Repr

/-- A bank (11): on the isolated side the silence count, valid markers, its copies of SILENCE_MS and RESUME, the safe state, the
safe latch, a clear of the latch received, and frames it discarded (R324, R342-R344); on the logic side whether the next tick edge is the first of the link
(R324), whether the latest frame was poisoned, the supply state with the class being tested and its ticks, voltage and current, ticks of overcurrent, the trip and
whether a beat frame has cleared it, bad and good diagnostic blocks, common mode, FAULT line, the safe state as reported, and the block of the
latest BARRIER_CRC. -/
structure BankUnit where
  missing : Nat
  valid   : Nat
  silence : Nat
  resume  : Bool
  inSafe  : Bool
  latched : Bool
  badOut  : Nat
  first   : Bool
  poison  : Bool
  supply  : Nat
  cls     : Nat
  clsRun  : Nat
  volts   : Int
  mA      : Nat
  overRun : Nat
  trip    : Bool
  badDiag : Nat
  goodDiag : Nat
  common  : Bool
  fault   : Bool
  safeRep : Bool
  crcBlk  : Option Nat
  tick    : Nat
deriving DecidableEq, Repr

/-- The field channels and their banks; due: the outputs of the latest beat are released, so the beat output frame of
the running beat is sent (01 R50). -/
structure Field where
  chan : Vector ChanUnit 48
  bank : Vector BankUnit 2
  due  : Bool
deriving DecidableEq, Repr

/-- A channel at power-up of its isolated side: OFF, with the reset settings (11 R352). -/
def ChanUnit.off : ChanUnit :=
  ⟨0, none, 0x20, 0, 0x010100C8, false, 0, none, 0, false, none, false, false, false, 0, 0, 0, 0, false, false, 0, none, 0, 0, true, false⟩

/-- A bank at the start of its link: supply ABSENT (11 R338), in its safe values (R343). -/
def BankUnit.start : BankUnit :=
  ⟨0, 0, 50, false, true, false, 0, true, false, 1, 1, 0, 0, 0, 0, false, 0, 0, false, false, false, none, 0⟩

/-! ## 12 -/

/-- A coefficient set (12 R366, R367): decimation and taps. -/
structure FirSet where
  dec  : Nat
  taps : List Int
deriving DecidableEq, Repr

/-- A filter lane (12): the modulator bits of the latest three sinc blocks, newest first; the sinc history, newest first, with the
poison of each; the sum of the sinc outputs of the window; the private set and one that waits for the beat edge; the DC estimate (39
fraction bits) and the DC mode of the latest output; sinc outputs completed since the start, up to 387, and whether SETTLING has ended; the latest output with its
sinc index, saturation and poison; and the block of the latest FILTER_SATURATED. -/
structure LaneUnit where
  bits   : List (BitVec 32)
  hist   : List (Int × Bool)
  sum    : Int
  priv   : Option FirSet
  privNew : Option FirSet
  dc     : Int
  dcMode : Nat
  done   : Nat
  settled : Bool
  out    : Int
  outIdx : Nat
  sat    : Bool
  poison : Bool
  satBlk : Option Nat
deriving DecidableEq, Repr

/-- The filter chain: lanes, the sum of the window that has ended by lane, the sinc output within the window, the sinc index counted from the phase
origin, the windows of new origins, poisoned sinc outputs still to come by bank, failed segments in the running
window by bank, the library and one that waits, and the latest sync edge with its sources (bit 0 SYNC_IN, bit 1 SYNC_FILTERS). -/
structure Filt where
  lanes   : Vector LaneUnit 48
  means   : Vector Int 48
  seg     : Nat
  phase   : Int
  newOrigin : List Nat
  carry   : Vector Nat 2
  bad     : Vector Bool 2
  lib     : List FirSet
  libNew  : Option (List FirSet)
  sync    : Option (Nat × Nat)
deriving DecidableEq, Repr

/-- A lane at its start (12 R373). -/
def LaneUnit.start : LaneUnit := ⟨[], [], 0, none, none, 0, 0, 0, false, 0, 0, false, false, none⟩

/-! ## 13 -/

/-- What a queued frame is (13 R384). -/
inductive TxKind where
  | heartbeat | thruster | send
deriving DecidableEq, Repr

/-- A queued frame (13 R384, R385, R403): identifier, format, data, one attempt only, and LEASE of a heartbeat that carries one. -/
structure TxEntry where
  kind  : TxKind
  id    : Nat
  ext   : Bool
  fd    : Bool
  brs   : Bool
  once  : Bool
  data  : List Byte
  lease : Option Nat
deriving DecidableEq, Repr

/-- An entry of a clash table (13 R390, R391): identifier, whether disabled, and the beats of its clashes, newest first. -/
structure ClashEntry where
  id    : Nat
  ext   : Bool
  off   : Bool
  beats : List Nat
deriving DecidableEq, Repr

/-- A CAN controller (13): on its bus; still finishing a frame after a disable; in the listen-only operation of a bring-up (16 R482);
waiting for 11 recessive bits; bus-off; ALONE; error counts and latest error; attempts in a row without acknowledgment; measured delay; the
ESI bit of the latest FD frame sent (R387), true recessive; remote frames; the frame known, or after fail-silence possibly, on the wire; queue; clash table. -/
structure CanCtl where
  on      : Bool
  leaving : Bool
  boot    : Bool
  integ   : Bool
  busOff  : Bool
  alone   : Bool
  tec     : Nat
  rec_    : Nat
  lastErr : Nat
  noAck   : Nat
  tdcv    : Nat
  esi     : Bool
  remote  : Nat
  wire    : Option TxEntry
  queue   : List TxEntry
  table   : Vector (Option ClashEntry) 8
deriving DecidableEq, Repr

/-- A controller off its bus. -/
def CanCtl.idle : CanCtl :=
  ⟨false, false, false, false, false, false, 0, 0, 0, 0, 0, false, 0, none, [], Vector.replicate 8 none⟩

/-! ## 14 -/

/-- An acquisition run of a time slot (14 R423): its first and latest measurements with their cycles, in ns. -/
structure AcqRun where
  start  : Nat
  first  : Int
  latest : Nat
  theta  : Int
deriving DecidableEq, Repr

/-- A foreign time-transmitter that a PTP slot has heard (14 R418): the attributes its Announce carries, the port it
came in on, the cycles of its latest two Announces and their interval. -/
structure Foreign where
  ann    : AnnounceMsg
  eth    : Fin 2
  latest : Nat
  prev   : Option Nat
deriving DecidableEq, Repr

/-- A Sync waiting for its Follow_Up (14 R419): sequence number, crossing cycle, receive stamp in slot time less RX_LAT
and correction, in ns. -/
structure PendingSync where
  seq   : Nat
  cross : Nat
  t2    : Int
  corr  : Int
deriving DecidableEq, Repr

/-- A Delay_Req: its sequence number, and its transmit stamp in slot time plus TX_LAT once it has left (14 R419). -/
structure DelayReq where
  seq : Nat
  t3  : Option Int
deriving DecidableEq, Repr

/-- One time slot (14 R415, R417-R423). off, rate and anchor map local time to slot time: O in 2^-32 ns, ρ in 2^-40, A
in 2^-32 ns. ppb is the servo's integral i in 10^-6 ppb. hold: cycle of leaving LOCKED. -/
structure TimeSlot where
  state    : Nat
  off      : Int
  rate     : Int
  anchor   : Int
  ppb      : Int
  applied  : Option Nat
  run      : Option AcqRun
  step     : Option (Int × Nat × Int)
  since    : Nat
  hold     : Option Nat
  offset   : Int
  foreign  : List Foreign
  parent   : Option Foreign
  paths    : List Int
  diff     : Option Int
  sync     : Option PendingSync
  respAt   : Option Nat
  reqSeq   : Nat
  req      : Option DelayReq
  reqBeat  : Option Nat
  interval : Int
deriving DecidableEq, Repr

/-- The time keeper (14 R424-R429): active slot, switch difference σ with the λ at which it was set, whether a step is
held, the UTC offset in use and an announced leap second, the level of PPS_OUT, its latest leading edge and the end of
the pulse, the TIME_Q last shown, and the cycle of the latest step of R (R425, R429). -/
structure TimeKeeper where
  slot     : Vector TimeSlot 2
  active   : Fin 2
  sigma    : Int
  sigmaAt  : Int
  held     : Bool
  utc      : Int
  leap     : Option (Int × Int)
  pps      : Bool
  ppsLead  : Option Nat
  ppsEnd   : Option Nat
  lastQ    : Nat
  stepped  : Option Nat
deriving DecidableEq, Repr

/-- The sentence of a line of a status datagram (14 R413): $PTBDS by its characters, a talk sentence by its content. -/
inductive StatusText where
  | ptbds (text : List Byte)
  | talk (line : TalkLine)
deriving DecidableEq, Repr

/-- A line of a status datagram: the characters of its tag block, and its sentence. -/
structure StatusLine where
  tag  : List Byte
  text : StatusText
deriving DecidableEq, Repr

/-- A frame in a port's transmit queue (14 R411), by what it carries. -/
inductive EthTx where
  | delayReq (slot : Fin 2) (seq : Nat)
  | reply (peer : Peer) (bytes : List Byte)
  | status (group : Nat) (lines : List StatusLine)
  | arp (ip : Word) (mac : BitVec 48)
  | gratuitousArp (ip : Word)
  | echo (peer : Peer) (bytes : List Byte)
  | igmpReport (group : Nat)
  | igmpLeave (group : Nat)
deriving DecidableEq, Repr

/-- A port's frames: the transmit queue with the cycle each was placed, whether its head is on the wire
(14 R411), the block of 100 beats in which ETH_RX_OVERFLOW was raised, and the line count of status
datagrams (R413). -/
structure EthPort where
  txq      : List (Nat × EthTx)
  sending  : Bool
  overBlk  : Option Nat
  lineNo   : Nat
deriving DecidableEq, Repr

/-! ## 15 -/

/-- One fibre pair (15 R441): up, consecutive good beats while lost, consecutive beats without a valid message, and
what has crossed in the present beat. -/
structure FjPair where
  up   : Bool
  good : Nat
  miss : Nat
  seen : Bool
  own  : Bool
deriving DecidableEq, Repr

/-- The fields of a partner exchange message (15 R443). -/
structure Exchange where
  flags   : Nat
  request : Nat
  mode    : Nat
  beat    : Nat
  lease   : Nat
  grant   : Nat
  outDig  : Nat
  stDig   : Nat
deriving DecidableEq, Repr

/-- A planned hand-over (15 R458): released m: m is the first
beat whose exchange message can carry the offer; offered m: OFFER sent in beat m; accepted m;
committed m: COMMIT sent in beat m (the holder's m+1); granted g: COMMIT received with lease end g. -/
inductive Handover where
  | idle | released (m : Nat) | offered (m : Nat) | accepted (m : Nat) | committed (m : Nat) | granted (k g : Nat)
deriving DecidableEq, Repr

/-- The twin unit: the halter and its leases with their valid flags (15 R451-R458), fail-silence (R439), re-mirror
(R448), comparison results (R438, R446), presence (R459), the partner's latest message, the Fjozia pairs, beat
alignment (02 R67-R70), and what was last sent on the link. Leases raised or received take effect at a beat edge and
wait in lcNext and lpNext. -/
structure Twin where
  holds     : Bool
  cause     : Nat
  remirror  : Bool
  count     : Nat
  joinWait  : Bool
  lanes     : Bool
  units     : Bool
  item      : Nat
  lc        : Option Nat
  lcNext    : List (Nat × Nat)
  lp        : Option Nat
  lpNext    : List (Nat × Nat)
  barred    : Bool
  heldBeat  : Bool
  release   : Bool
  silentLoss : Bool
  takeNext  : Option Nat
  lastAgree : Nat
  partner   : Option Exchange
  exch      : Option Exchange
  msgEdge   : Option Nat
  hbEdge    : Vector (Option Nat) 4
  hbBeat    : Option Nat
  pHolds    : Bool
  present   : Bool
  aloneFrom : Option Nat
  handover  : Handover
  request   : Option Nat
  outDig    : Nat
  stDig     : Nat
  stDigNext : Nat
  firstBeat : Bool
  sentLease : Option Nat
  adopted   : Bool
  adoptedPrev : Bool
  mirrorDue : Bool
  late      : List CommitMarker
  lateAxis  : List (Fin 48 × AxisForward)
  idCarried : Nat
  idNext    : List (Fin 4 × Word)
  missBlk   : Option Nat
  pairs     : Vector FjPair 2
  oneWay    : Nat
  interval  : Option (Nat × Int)
  marker    : Option (Nat × Nat)
  missed    : Nat
  skewPrev  : Option Int
  skewOver  : Bool
  permit    : Bool
  withdrawn : Bool
  laneValid : Bool
  exchangeOut : List Byte
  ackOut    : List Byte
  handOut   : List Byte
  mirrorOut : Bool
  forwarded : Option CommitMarker
deriving DecidableEq, Repr

/-! ## 16 -/

/-- The power states (16 R471), with the bring-up and the entry sequence told apart. -/
inductive PowerMode where
  | retain | doze | watch | window | bringUp | run | entry
deriving DecidableEq, Repr

/-- The state summary in retention RAM (16 R491). -/
structure Summary where
  beat   : Nat
  mode   : Nat
  held   : Bool
  mstate : Nat
  loss   : Nat
  wake   : Nat
  sleep  : Nat
deriving DecidableEq, Repr

/-- A handshake message received from the partner (16 R485), with its crossing edge. -/
structure Handshake where
  cross  : Nat
  cold   : Bool
  fw     : Nat
  remain : Nat
  crc    : Nat
deriving DecidableEq, Repr

/-- Power domains, wake logic, retention and bring-up: the supplies (16 R467-R469), the power state, the sleep entry in
progress (R475: target, commit cycle, entry beat edge), latched wakes (R476), the CAN wake check and watch window with
their cycles (R478, R479), the RTC in 1/32768 s and its valid flag, the state summary and the one found at the latest
bring-up (R494), whether the bring-up is cold, what the handshake window has brought (R485, R486), and its verdict. -/
structure Power where
  mains     : Bool
  dc        : Bool
  dcInUse   : Bool
  mode      : PowerMode
  target    : Nat
  entryCommit : Option Nat
  entryEdge : Option Nat
  latched   : Nat
  wakeMask  : Nat
  byWake    : Bool
  byInput   : Bool
  checkFrom : Option Nat
  windowFrom : Option Nat
  startAt   : Option Nat
  retryAt   : Option Nat
  rtc       : Nat
  rtcFrac   : Nat
  rtcValid  : Bool
  summary   : Option Summary
  found     : Option Summary
  cold      : Bool
  wakeTiming : List (Nat × Word)
  hs        : Option Handshake
  runSeen   : Option (Nat × Nat × Nat)
  hbSeen    : Option (Nat × Nat × Nat)
  duplicate : Bool
  mismatch  : Bool
  verdict   : Nat
  atH       : Bool
  cellState : Nat
deriving DecidableEq, Repr

/-! ## 17 -/

/-- An entry of the event queue (04 R127), with the cycle of its event edge: it is written 24 cycles later (02 R73). -/
structure QEntry where
  edge  : Nat
  num   : Nat
  flags : Nat
  arg   : Nat
  time  : Nat
  beat  : Nat
deriving DecidableEq, Repr

/-- A slot of the retained history (17 R507); good: its ECRC checks. edge: the cycle of its event edge, 64 cycles before it is written (02 R73);
none for an event of an earlier bring-up. -/
structure HistSlot where
  edge    : Option Nat
  num     : Nat
  flags   : Nat
  arg     : Nat
  time    : Nat
  beat    : Nat
  seq     : Nat
  rtc     : Nat
  bringup : Nat
  state   : Nat
  good    : Bool
deriving DecidableEq, Repr

/-- The event unit: the queue, whether an event has been lost since the last entry (17 R505), the live history and its
next SEQ (R507), the carried copy (R509), slots held while the PD0 test runs (R509), and the sticky bits of the latest events: event
edge, number, and whether the bit was clear before; the bit is set 8 cycles after the edge (R503, 02 R73). -/
structure EventUnit where
  queue   : List QEntry
  lost    : Bool
  hist    : Vector (Option HistSlot) 64
  nextSeq : Nat
  carried : Vector (Option HistSlot) 64
  holding : Bool
  held    : List HistSlot
  stick   : List (Nat × Nat × Bool)
deriving DecidableEq, Repr

/-- The state of the module. -/
structure State where
  /-- Commands waiting, first in, first out: the model's own queue. -/
  pending   : List Instr
  /-- Counter that feeds the free values of Config; the model's own, not the spec's. -/
  free      : Nat
  /-- Cycle, beat and tick counters. -/
  clk       : Clock
  /-- The parameter space. -/
  regs      : Regs
  /-- The setting snapshot of the beat flow (01 R46). -/
  snap      : Regs
  /-- Poisoned register stalls as the snapshot found them: their mark travels with the copy (01 R25). -/
  snapPoison : List Nat
  /-- Identifiers of poisoned register stalls (01 R23). -/
  poison    : List Nat
  /-- The module arbiter (01 R42). -/
  arb       : Arbiter
  /-- Bits that the status logic set in the present cycle (00 R14): no part of a frame, as the passing of time is none. -/
  now       : SetBits
  /-- Blocks, resets and scrubbers of the eight yards. -/
  yards     : Vector YardUnit 8
  /-- Yard restarts and module resets that wait (04 R136, R137; yard 8 stands for the whole module). -/
  restart   : List RestartPending
  /-- Ports 0 (X5) and 1 (Ethernet command channel). -/
  host      : Vector HostPort 2
  /-- The lines of X5. -/
  line      : HostLine
  /-- Expert sessions of the two ports. -/
  session   : Vector Session 2
  /-- Configuration loads. -/
  load      : LoadUnit
  /-- The nonvolatile configuration store. -/
  nv        : NvStore
  /-- Intake of the 32 reference sources. -/
  src       : Vector SrcUnit 32
  /-- RS-422 ports. -/
  ser       : Vector SerPort 4
  /-- Estimator, loft, tracks and votes. -/
  fus       : Fusion
  /-- The GNSS baseband. -/
  gnss      : Gnss
  /-- The control law. -/
  ctl       : Control
  /-- The Gumar engine. -/
  alc       : Alloc
  /-- The servo engine. -/
  servo     : Servo
  /-- The field channels. -/
  field     : Field
  /-- The filter chain. -/
  filt      : Filt
  /-- The CAN controllers. -/
  can       : Vector CanCtl 4
  /-- Re-enables of the partner's identifiers that wait for a mirror to carry them: bus and identifier word (13 R402). -/
  idReq     : List (Fin 4 × Word)
  /-- The time keeper. -/
  time      : TimeKeeper
  /-- X6 and X7. -/
  eth       : Vector EthPort 2
  /-- The twin pair: halter, comparison, Fjozia link, beat alignment. -/
  twin      : Twin
  /-- Power domains, sleep, retention and bring-up. -/
  power     : Power
  /-- The event unit and the retained history. -/
  ev        : EventUnit
deriving DecidableEq, Repr

/-- The machine right after reset, before the start strobe of a bring-up (16 R480): every identifier at its Reset
column, memories and queues empty, the clocks stopped. Values that no rule states are named in the assumption log. -/
def State.reset : State where
  pending := []
  free := 0
  clk := ⟨0, 0, 0, 0, 0, 0, false, false, false, 0⟩
  regs := []
  snapPoison := []
  snap := []
  poison := []
  arb := ⟨0, [], [], none⟩
  now := ⟨0, []⟩
  yards := Vector.replicate 8 ⟨[], [], []⟩
  restart := []
  host := Vector.replicate 2 ⟨Vector.replicate 4 [], Vector.replicate 4 [], [], Vector.replicate 4 false, none, ⟨0, none, none, none, none⟩, []⟩
  line := ⟨false, none, 0, [], 0, ⟨false, false, none, false, none, none, false⟩, []⟩
  session := Vector.replicate 2 ⟨0, none, 0, false⟩
  load := ⟨none, none, 0, 0, 0, 0, []⟩
  nv := ⟨0, Vector.replicate 5 []⟩
  src := Vector.replicate 32 { on := false, state := 0, age := 0, buf := [], pend := [], image := [], rejects := [], kept := [], count := ⟨0, 0, 0, 0, 0, 0, 0, 0, 0, 0, 0, 0⟩, lastStamp := 0, lastArrival := 0, lastDelta := 0, lastAlign := 0, lastSub := false, v1 := 0, v2 := 0, v3 := 0, sigma := 0, counter := none, lines := [], rejBlk := none, cut := false }
  ser := Vector.replicate 4 ⟨none, none, none⟩
  fus := { loft := Vector.replicate 64 LoftSlot.empty, cur := LoftSlot.empty, step := 0, hdg := false, pos := false, tgt := false, tracks := Vector.replicate 48 none, birth := Vector.replicate 32 [], votes := Vector.replicate 2 ⟨4, none, 0, 0, none, none, false, none, none, false⟩, news := [], out := ⟨List.replicate 15 0, 0, 0, 0, 0, 4, 4, 0, 0, 0, []⟩, originMoved := none }
  gnss := { ch := Vector.replicate 48 GChan.idle, sats := Vector.replicate 32 SatNav.empty, alm := [], week := none, pos := none, drift := none, bias := none, tick := none, prevTick := none, tickDue := false, cfg := ⟨10, 30, 63, true, 500, 50⟩, rate := 3, gpsAt := none, epoch := 0, heading := 0, cand := none, ints := [], dropDue := false, agc := Vector.replicate 2 [], cohere := 0, ephTrig := false, checks := Vector.replicate 6 ⟨false, 0, 0⟩, antShort := Vector.replicate 2 none, startAt := none, startType := 3, firstFix := false, timedOut := false, timeoutDue := false, utcLs := none, block := none, blockAt := none }
  ctl := { mode := 0, auto := false, degr := false, first := 0, modeAt := none, tgtN := 0, tgtE := 0, tgtPsi := 0, refN := 0, refE := 0, refPsi := 0, vPos := 0, vPsi := 0, velN := 0, velE := 0, velPsi := 0, integ := [0, 0, 0], held := [false, false, false], posNew := none, hdgNew := none, posSet := none, hdgSet := none, wx := 0, wy := 0, windV := 0, windG := 0, windSrc := none, windAge := 0, stale := false, push := 0, side := true, shed := 3000, pushY := none, drift := false, track := [], trackNew := none, start := 0, leg := 0, legN := 0, legE := 0, atEnd := false, joy := [0, 0, 0], joyBeat := none, joyNew := none, joyZero := 0, joyRest := 0, autoYaw := false, joyMa := [0, 0, 0], joyBad := 0, tauD := [0, 0, 0], w := [0, 0, 0], clampBlk := none, ready := 0 }
  alc := { live := [], was := [], thr := Vector.replicate 16 .off, prob := none, iter := ⟨[], [], [], [], [], [], [], [], [], [], []⟩, done := 0, tiny := none, reg := false, valid := none, streak := 0, fb := false, fbRun := 0, entry := 0xFF, res := AResult.null, rel := AResult.null, bus := Vector.replicate 4 ⟨none, none, 65535, true, none⟩, shortAx := 0, regBlk := none, table := [], tableNew := none, image := [] }
  servo := { axes := Vector.replicate 48 AxisUnit.off, tables := Vector.replicate 48 [], newTabs := [], fwd := [] }
  field := { chan := Vector.replicate 48 ChanUnit.off, bank := Vector.replicate 2 BankUnit.start, due := false }
  filt := { lanes := Vector.replicate 48 LaneUnit.start, means := Vector.replicate 48 0, seg := 0, phase := 0, newOrigin := [], carry := Vector.replicate 2 0, bad := Vector.replicate 2 false, lib := [], libNew := none, sync := none }
  can := Vector.replicate 4 CanCtl.idle
  idReq := []
  time := ⟨Vector.replicate 2 ⟨3, 0, 0, 0, 0, none, none, none, 0, none, 0, [], none, [], none, none, none, 0, none, none, 0⟩, 0, 0, 0, false, 37, none, false, none, none, 3, none⟩
  eth := Vector.replicate 2 ⟨[], false, none, 0⟩
  twin := { holds := false, cause := 0, remirror := false, count := 0, joinWait := false, lanes := false, units := false, item := 0xFF, lc := none, lcNext := [], lp := none, lpNext := [], barred := false, heldBeat := false, release := false, silentLoss := false, takeNext := none, lastAgree := 0, partner := none, exch := none, msgEdge := none, hbEdge := Vector.replicate 4 none, hbBeat := none, pHolds := false, present := false, aloneFrom := none, handover := .idle, request := none, outDig := 0, stDig := 0, stDigNext := 0, firstBeat := true, sentLease := none, adopted := false, adoptedPrev := false, mirrorDue := false, late := [], lateAxis := [], idCarried := 0, idNext := [], missBlk := none, pairs := Vector.replicate 2 ⟨false, 0, 0, false, false⟩, oneWay := 0, interval := none, marker := none, missed := 0, skewPrev := none, skewOver := false, permit := false, withdrawn := false, laneValid := true, exchangeOut := [], ackOut := [], handOut := [], mirrorOut := false, forwarded := none }
  power := { mains := false, dc := false, dcInUse := false, mode := .retain, target := 0, entryCommit := none, entryEdge := none, latched := 0, wakeMask := 0, byWake := false, byInput := false, checkFrom := none, windowFrom := none, startAt := none, retryAt := none, rtc := 0, rtcFrac := 0, rtcValid := false, summary := none, found := none, cold := true, wakeTiming := [], hs := none, runSeen := none, hbSeen := none, duplicate := false, mismatch := false, verdict := 0, atH := false, cellState := 0 }
  ev := ⟨[], false, Vector.replicate 64 none, 0, Vector.replicate 64 none, false, [], []⟩

/-- Why the module stops with a fault in this model. -/
inductive Fault where
  /-- Raised by a command whose operands cannot occur on the module's lines (a bale that is not 64 bytes, a message of
  a wrong length): WellFormed refuses such a command. Safe: no such command reaches the hardware. -/
  | illFormed
deriving DecidableEq, Repr

/-- Why a command is refused. -/
inductive Refusal where
  /-- Raised by the dispatch for a row of the opcode table that has no meaning yet. Safe: nothing is claimed of it. -/
  | notModelled (mnemonic : String)
deriving DecidableEq, Repr

/-- What a step answers. -/
abbrev Out := Host.Outcome State Fault Refusal

end Sys2Proof.Machine
end

