-- ==== Sys2Proof/Machine/Ops.lean ====
section
/-! DEFINITION. The named operations over the state: the register file and its fields, the clocks, slot time and
reported time, events, fences and fail-silence. Every meaning is written over these. -/
namespace Sys2Proof.Machine

/-! ### The register file -/

/-- The word of an identifier: the listed one, or the reset word of the parameter map. -/
def regGet (r : Regs) (id : Nat) : Word :=
  match r.find? (fun x => x.1 == id) with
  | some x => x.2
  | none => resetWord id

/-- Put an entry into a rising list, before the first larger identifier. -/
def regInsert (id : Nat) (w : Word) : Regs → Regs
  | [] => [(id, w)]
  | x :: r => if id < x.1 then (id, w) :: x :: r else x :: regInsert id w r

/-- A register file without an identifier's entry. -/
def regDrop (id : Nat) (r : Regs) : Regs := r.filter fun x => x.1 != id

/-- Write the word of an identifier; an entry equal to the reset word is not listed. -/
def regSet (r : Regs) (id : Nat) (w : Word) : Regs :=
  if w = resetWord id then regDrop id r else regInsert id w (regDrop id r)

/-- The canonical form of a register file: identifiers rise strictly, and no entry equals its reset word. -/
def Regs.wf (r : Regs) : Bool :=
  decide (r.Pairwise (fun a b => a.1 < b.1)) && r.all (fun x => x.2 != resetWord x.1)

/-- The word of an identifier in the state. -/
def rd (s : State) (id : Nat) : Word := regGet s.regs id

/-- The register file that the first commit of the present cycle found (01 R20). -/
def regsBefore (s : State) : Regs := if s.arb.cycle = s.clk.cycle then s.arb.before else s.regs

/-- A field of an identifier. -/
def fld (s : State) (id hi lo : Nat) : Nat := bitsOf (rd s id) hi lo

/-- A one-bit field of an identifier. -/
def flag (s : State) (id i : Nat) : Bool := bitOf (rd s id) i

/-- Write the word of an identifier. -/
def wr (s : State) (id : Nat) (w : Word) : State := { s with regs := regSet s.regs id w }

/-- Write a field of an identifier. -/
def wrFld (s : State) (id hi lo v : Nat) : State := wr s id (putBits (rd s id) hi lo v)

/-- Write a one-bit field. -/
def wrFlag (s : State) (id i : Nat) (b : Bool) : State := wr s id (putBit (rd s id) i b)

/-- Note a bit that the status logic sets in the present cycle (00 R14). -/
def noteSet (id i : Nat) (s : State) : State :=
  if s.now.cycle = s.clk.cycle then
    if s.now.bits.contains (id, i) then s else { s with now := { s.now with bits := (id, i) :: s.now.bits } }
  else { s with now := ⟨s.clk.cycle, [(id, i)]⟩ }

/-- The bits of EVENT_STICKY words that events of the latest 8 cycles set on the present cycle or later (17 R503, 02 R73). was: only bits that
were clear before their event. -/
def stickLate (was : Bool) (s : State) (id : Nat) : Word :=
  s.ev.stick.foldl (fun w x => if 0x1304 + x.2.1 / 32 = id ∧ s.clk.cycle ≤ x.1 + 8 ∧ (!was || x.2.2) then setBit w (x.2.1 % 32) else w) 0

/-- The bits of an identifier that the module sets in the present cycle, or, of an EVENT_STICKY word, for an event before it. -/
def setBitsNow (s : State) (id : Nat) : Word :=
  (if s.now.cycle = s.clk.cycle then
    s.now.bits.foldl (fun w x => if x.1 = id then setBit w x.2 else w) 0
  else 0) ||| stickLate false s id

/-- Set a sticky bit (01 R19 SP0). -/
def sticky (s : State) (id i : Nat) : State := noteSet id i (wrFlag s id i true)

/-- Advance a saturating counter field by d (01 R41, R537). -/
def bump (s : State) (id hi lo d : Nat) : State := wrFld s id hi lo (satAdd (hi + 1 - lo) (fld s id hi lo) d)

/-- A field in the beat's setting snapshot (01 R46). -/
def sfld (s : State) (id hi lo : Nat) : Nat := bitsOf (regGet s.snap id) hi lo

/-- A one-bit field in the snapshot. -/
def sflag (s : State) (id i : Nat) : Bool := bitOf (regGet s.snap id) i

/-- A word of the snapshot. -/
def srd (s : State) (id : Nat) : Word := regGet s.snap id

/-- The signed 16-bit value of a field of the snapshot. -/
def sint (s : State) (id hi lo : Nat) : Int := signedOf (hi + 1 - lo) (sfld s id hi lo)

/-- Store words for several identifiers, each whole: a poison mark there is cleared (01 R24). -/
def wrAll (s : State) (l : List (Nat × Word)) : State :=
  l.foldl (fun s x => wr s x.1 x.2) { s with poison := s.poison.filter fun i => !(l.any (·.1 == i)) }

/-! ### Time -/

/-- INC in 2^-32 ns (14 R414, R435). -/
def timeInc (s : State) : Nat := fld s 0x7202 7 0 * 2 ^ 32 + (rd s 0x7201).toNat

/-- The state at cycle c of the cycle counter: λ has advanced by INC on every core edge (14 R414) and the RTC by the
same time at nominal frequency (16 R491). The clocks do not move while the core clock is stopped, nor backwards. -/
def advance (c : Nat) (s : State) : State :=
  if s.clk.core && decide (s.clk.cycle < c) then
    let d := c - s.clk.cycle
    let f := s.power.rtcFrac + d * 32768
    { s with
      clk := { s.clk with cycle := c, lambda := s.clk.lambda + timeInc s * d }
      power := { s.power with rtc := s.power.rtc + f / 100000000, rtcFrac := f % 100000000 } }
  else s

/-- The time of a slot in 2^-32 ns: λ + O + ρ (λ − A), rounded down (14 R415). -/
def slotTimeAt (t : TimeSlot) (l : Int) : Int := l + t.off + floorDiv (t.rate * (l - t.anchor)) (2 ^ 40)

/-- The time of slot d now. -/
def slotTime (s : State) (d : Fin 2) : Int := slotTimeAt (vget s.time.slot d) s.clk.lambda

/-- σ now, in 2^-32 ns: it moves towards 0 at SWITCH_SLEW tenths of a µs per s unless a step is held (14 R425). -/
def sigmaNow (s : State) : Int :=
  if s.time.held then s.time.sigma else
  let gone := floorDiv (((s.clk.lambda : Int) - s.time.sigmaAt) * (fld s 0x7200 31 16 : Int)) 10000000
  if 0 ≤ s.time.sigma then max 0 (s.time.sigma - gone) else min 0 (s.time.sigma + gone)

/-- The reported time R in 2^-32 ns (14 R424). -/
def reported (s : State) : Int := slotTime s s.time.active + sigmaNow s

/-- R in whole ns. -/
def reportedNs (s : State) : Int := floorDiv (reported s) (2 ^ 32)

/-- R in ns modulo 2^32, as 32-bit time fields hold it (14 R428). -/
def time32 (s : State) : Nat := twosOf 32 (reportedNs s)

/-- R in ns at another cycle of the same clock, under the mapping in force (14 R416). -/
def reportedNsAt (s : State) (c : Nat) : Int :=
  reportedNs { s with clk := { s.clk with lambda := s.clk.lambda + timeInc s * c - timeInc s * s.clk.cycle } }

/-- TIME_Q: the code of the active slot (14 R424). -/
def timeQ (s : State) : Nat := (vget s.time.slot s.time.active).state

/-! ### Yards -/

/-- YARD_STATE of a yard (01 R41). -/
def yardState (s : State) (y : Nat) : Nat := fld s (0x1000 * y + 0xFF2) 1 0

/-- Is the yard fenced (01 R37)? -/
def yardFenced (s : State) (y : Nat) : Bool := yardState s y == 2

/-- Is the block fenced (01 R31)? -/
def blockFenced (s : State) (y b : Nat) : Bool := flag s (0x1000 * y + 0xFF4) b

/-- Is the block out of service: fenced itself or with its yard? -/
def blockDown (s : State) (y b : Nat) : Bool := yardFenced s y || blockFenced s y b

/-- Is the block in the 32-cycle reset that follows its first fault (01 R29)? -/
def blockResetting (s : State) (y b : Nat) : Bool :=
  (vgetD s.yards y ⟨[], [], []⟩).inReset.any fun x => x.1 == b && decide (s.clk.cycle < x.2)

/-- The hot-start block of retention RAM; one whose CRC-32 fails is absent (07 R225). -/
def goodBlock (s : State) : Option GnssBlock :=
  match s.gnss.block with
  | some b => if b.good then some b else none
  | none => none

/-- Can the block serve no request now (01 R29, R31)? -/
def blockOut (s : State) (y b : Nat) : Bool := blockDown s y b || blockResetting s y b

/-- Is the result that the block delivers next that of a faulted operation (01 R29)? It is poisoned. -/
def resultFaulted (s : State) (y b : Nat) : Bool :=
  (vgetD s.yards y ⟨[], [], []⟩).retry.any fun x => x.1 == b && x.2

/-- Is there such a block (01 R536)? PD2 and PD3 have five; the manual does not number the blocks of every other yard. -/
def blockExists (y b : Nat) : Bool := !((y == 2 || y == 3) && decide (5 ≤ b))

/-- Blocks whose fence fences the yard (01 R32, R536; 07 R228 for the time unit). Block 10 of PD7 stands for the twin
link, whose index the manual does not give (DESIGN CHOICE, log 12). -/
def criticalBlock (y b : Nat) : Bool :=
  y == 1 || y == 2 || y == 3 || (y == 4 && b == 4) || (y == 7 && b == 10)

/-- MODULE_STATE (04 R140). -/
def moduleState (s : State) : Nat := fld s 0x1004 2 0

/-- Is the module in RUN, fail-silent or not? -/
def inRun (s : State) : Bool := decide (2 ≤ moduleState s) && (s.power.mode == .run || s.power.mode == .entry)

/-- Is the module in bring-up (04 R121)? -/
def inBringUp (s : State) : Bool := s.power.mode == .bringUp

/-- Is the module fail-silent (15 R439)? -/
def failSilent (s : State) : Bool := s.twin.cause != 0

/-- The unit number (04 R140 UNIT_NUMBER). -/
def unitNumber (s : State) : Nat := fld s 0x1003 0 0

/-! ### Attention and events -/

/-- An attention falls due on cycle d: a pulse still running then announces it (02 R74). -/
def attentionDue (d : Nat) (s : State) : State :=
  if (match s.line.pulseEnd with
      | some e => decide (d < e)
      | none => false) then s
  else
    let past := s.line.due.filter (fun x => decide (x ≤ s.clk.cycle))
    let next := s.line.due.filter (fun x => decide (s.clk.cycle < x))
    { s with line := { s.line with due := past.take 1 ++ next ++ [d] } }

/-- Is event n with argument a before event m with argument b in the order of one edge (17 R501)? -/
def eventBefore (n a m b : Nat) : Bool := decide (n < m) || (n == m && decide (a < b))

/-- Order the slots of one edge (17 R501), from the newest slot, of SEQ q, back: it changes its contents with the slot before it while that one
is of the same edge and later in the order. -/
def histSift : Nat → Nat → Vector (Option HistSlot) 64 → Vector (Option HistSlot) 64
  | 0, _, h => h
  | f + 1, q, h =>
    match vgetD h (q % 64) none, vgetD h ((q + 63) % 64) none with
    | some x, some y =>
      if x.edge.isSome && x.edge == y.edge && eventBefore x.num x.arg y.num y.arg then
        histSift f (q + 63) (vupdN (vupdN h (q % 64) fun _ => some { y with seq := x.seq }) ((q + 63) % 64) fun _ => some { x with seq := y.seq })
      else h
    | _, _ => h

/-- Write a history slot into the slot that follows the newest (17 R507), the slots of one edge in order (R501); no slot is written while PD0 is
fenced (R508). -/
def histWrite (h : HistSlot) (s : State) : State :=
  if yardFenced s 0 then s else
  let q := s.ev.nextSeq
  { s with ev := { s.ev with
      hist := histSift 64 q (vset s.ev.hist ⟨q % 64, Nat.mod_lt _ (by decide)⟩ (some { h with seq := q }))
      nextSeq := (q + 1) % 2 ^ 32 } }

/-- Write a history slot, or hold it while the PD0 self-test runs (17 R509). -/
def histPut (h : HistSlot) (s : State) : State :=
  if s.ev.holding then { s with ev := { s.ev with held := s.ev.held ++ [h] } } else histWrite h s

/-- Put an entry at the end of the queue, before the entries of the same event edge that come later in its order (17 R501). -/
def queueInsert (e : QEntry) : List QEntry → List QEntry
  | [] => [e]
  | x :: r => if x.edge == e.edge && eventBefore e.num e.arg x.num x.arg then e :: x :: r else x :: queueInsert e r

/-- The entries that a read on the present cycle finds: those written before it (17 R506, 02 R73). -/
def readable (s : State) : List QEntry := s.ev.queue.filter fun e => decide (e.edge + 24 < s.clk.cycle)

/-- Note the sticky bit of an event (17 R503); those of edges more than 8 cycles ago are past. -/
def noteStick (n : Nat) (clear : Bool) (s : State) : State :=
  { s with ev := { s.ev with stick := (s.clk.cycle, n, clear) :: s.ev.stick.filter fun x => decide (s.clk.cycle ≤ x.1 + 8) } }

/-- Put an event into the queue, or count it as lost (17 R505). Answers the state and whether it was queued. -/
def queuePut (n arg : Nat) (masked : Bool) (s : State) : State × Bool :=
  if 256 ≤ s.ev.queue.length then
    (bump { s with ev := { s.ev with lost := true } } 0x130D 15 0 1, false)
  else
    let e : QEntry := ⟨s.clk.cycle, n, b2n masked + 2 * b2n s.ev.lost, arg % 65536, time32 s, s.clk.beat⟩
    ({ s with ev := { s.ev with queue := queueInsert e s.ev.queue, lost := false } }, true)

/-- Is event n masked, as EVENT_MASK was held before the present edge (17 R500, 01 R20)? A mask written on the event edge itself does not
act on the event. -/
def eventMasked (n : Nat) (s : State) : Bool := bitOf (regGet (regsBefore s) (0x1300 + n / 32)) (n % 32)

/-- Raise event n with its argument on the present cycle (17 R500-R508): the sticky bit, the queue entry, the attention
if it is not masked, and the history slot. fence: written by the fence logic, which writes the slot whatever HIST_EN
holds; a fence of PD1 is not queued. -/
def raiseWith (fence : Bool) (n arg : Nat) (s : State) : State :=
  if !s.clk.core then s else
  let masked := eventMasked n s
  let s1 := noteStick n (!flag s (0x1304 + n / 32) (n % 32)) (sticky s (0x1304 + n / 32) (n % 32))
  let q := if fence && yardFenced s 1 then (s1, false) else queuePut n arg masked s1
  let s2 := if q.2 && !masked then attentionDue (s.clk.cycle + 40) q.1 else q.1
  if fence || flag s (0x1308 + n / 32) (n % 32) then
    histPut ⟨some s.clk.cycle, n, b2n masked + 2 * b2n fence + 4 * b2n (!q.2), arg % 65536, time32 s, s.clk.beat, 0,
      if s.power.rtcValid then s.power.rtc / 32768 % 2 ^ 32 else 0, fld s 0x150B 15 0, moduleState s, true⟩ s2
  else s2

/-- Raise an event (17 R500). -/
def raise (n arg : Nat) (s : State) : State := raiseWith false n arg s

/-- Raise an event if a condition holds. -/
def raiseIf (b : Bool) (n arg : Nat) (s : State) : State := if b then raise n arg s else s

/-- Insert an event into a list ordered by number, then argument (17 R501). -/
def eventInsert (e : Nat × Nat) : List (Nat × Nat) → List (Nat × Nat)
  | [] => [e]
  | x :: r => if e.1 < x.1 ∨ (e.1 = x.1 ∧ e.2 < x.2) then e :: x :: r else x :: eventInsert e r

/-- Raise several events of one edge in the order of 17 R501. -/
def raiseAll (l : List (Nat × Nat)) (s : State) : State :=
  (l.foldr eventInsert []).foldl (fun s e => raise e.1 e.2 s) s

/-- Events whose condition holds, of a list of conditions with events. -/
def eventsWhen (l : List (Bool × Nat × Nat)) : List (Nat × Nat) := (l.filter (·.1)).map (·.2)

/-! ### Fail-silence and fences -/

/-- The order in which identifiers win arbitration (13 R384): a base identifier against the leading bits of an extended one, the
base frame first. -/
def txKey (e : TxEntry) : Nat := if e.ext then 2 * e.id + 1 else 2 * (e.id * 2 ^ 18)

/-- The entry of least key, the first of equal ones. -/
def lowestTx : List TxEntry → Option TxEntry
  | [] => none
  | e :: r => match lowestTx r with
    | none => some e
    | some x => if txKey x < txKey e then some x else some e

/-- The frame a controller offers, or is sending (13 R384). -/
def offered (u : CanCtl) : Option TxEntry :=
  match u.wire with
  | some e => some e
  | none => lowestTx u.queue

/-- The queue of a unit that becomes fail-silent (13 R386): only the frame that may be on the wire is left. -/
def silenceQueue (u : CanCtl) : CanCtl := { u with wire := offered u, queue := [] }

/-- A fenced controller has no frame left (13 R379, 01 R32). -/
def cutController (b : Nat) (s : State) : State :=
  { s with can := vupdN s.can b fun u => { u with wire := none, queue := [], integ := false, leaving := false } }

/-- Entry to fail-silence with a cause (15 R439): the unit stops holding the halter, the permit is withdrawn, RELEASE
goes into its next exchange message when it held the halter in this beat (R455), and FAIL_SILENT is raised. A unit that
is fail-silent already keeps its first cause. -/
def enterFailSilent (cause : Nat) (s : State) : State :=
  if failSilent s then s else
  let s1 := if s.power.mode == .run || s.power.mode == .entry then wrFld s 0x1004 2 0 3 else s
  raise 119 cause { s1 with
    idReq := []
    can := s1.can.map silenceQueue
    twin := { s1.twin with
    cause := cause, holds := false, release := s.twin.heldBeat || s.twin.holds,
    handover := .idle, silentLoss := s.twin.holds, permit := false, withdrawn := true, lc := none, lcNext := [] } }

/-- The health argument of 17 R499: yard, cause, and the block of FENCE_CAUSE where it is not 0xFF. -/
def fenceArg (s : State) (y cause : Nat) : Nat :=
  let b := fld s (0x1000 * y + 0xFF3) 15 8
  y + 16 * cause + (if b = 0xFF then 0 else 256 * (b % 32) + 0x2000)

/-- Yards whose fence makes the module fail-silent (01 R38). -/
def silencingYard (y : Nat) : Bool := y != 0 && y != 4

/-- The records of internal sources that no beat edge has latched yet are withdrawn (01 R32, R38). -/
def withdrawRecords (srcs : List (Fin 32)) (s : State) : State :=
  { s with src := srcs.foldl (fun v q => vupd v q fun u => { u with buf := [] }) s.src }

/-- The internal sources whose latest solution used a channel of bank b of the baseband (07 R207, R228). -/
def bankSources (s : State) (b : Nat) : List (Fin 32) :=
  let l := (s.gnss.ch.toList.drop (12 * b)).take 12
  (if l.any (·.usedPos) then [if b < 2 then 0 else 1] else []) ++ (if l.any (·.usedHdg) then [2] else [])

/-- Fence a yard with a cause code (01 R36-R39): YARD_STATE, FENCE_CAUSE, HEALTH_STICKY bit 4, YARD_FENCE, and the
effect on the module: fail-silence, or the loss of RTC and retention for PD0, or, for PD4, PPS_OUT held low and the measurements of
sources 0 to 2 withdrawn. A fenced
yard stays as it is (R40). -/
def fenceYard (y cause : Nat) (s : State) : State :=
  if yardFenced s y then s else
  let h := 0x1000 * y
  let s1 := sticky (wrFld (wrFld s (h + 0xFF2) 1 0 2) (h + 0xFF3) 3 0 cause) (h + 0xFF5) 4
  let s2 := raiseWith true 3 (fenceArg s1 y cause) s1
  let s3 := if silencingYard y then enterFailSilent (0x10 + y) s2 else s2
  if y = 0 then { s3 with power := { s3.power with rtcValid := false } }
  else if y = 7 then (List.range 4).foldl (fun s b => cutController b s) s3
  else if y = 4 then withdrawRecords [0, 1, 2] { s3 with time := { s3.time with pps := false, ppsEnd := none } }
  else s3

/-- Fence a block (01 R31, R32): its bit of BLOCK_FENCE_MAP, YARD_STATE, the first block fenced, HEALTH_STICKY bit 3,
BLOCK_FENCE; a critical block fences its yard in the same cycle. -/
def fenceBlock (y b : Nat) (s : State) : State :=
  let h := 0x1000 * y
  let s1 := wrFlag s (h + 0xFF4) b true
  let s2 := if yardState s1 y = 0 then wrFld s1 (h + 0xFF2) 1 0 1 else s1
  let s3 := if fld s2 (h + 0xFF3) 15 8 = 0xFF then wrFld s2 (h + 0xFF3) 15 8 b else s2
  let s4 := raise 2 (y + 256 * b + 0x2000) (sticky s3 (h + 0xFF5) 3)
  let s5 := if y = 7 then cutController b s4
    else if y = 4 ∧ b < 4 then withdrawRecords (bankSources s4 b) s4 else s4
  if criticalBlock y b then fenceYard y 1 s5 else s5

/-- A block fault of the watchdog (01 R28-R31, 17 R499): the first fault starts a retry, counted, with a 32-cycle
reset; a fault of the retry fences the block. due: the faulted operation's result is still to be delivered, poisoned. An unused block
index of PD2 or PD3 names no block (R536). -/
def blockFault (y : Fin 8) (b : Nat) (due : Bool) (s : State) : State :=
  if blockFenced s y.val b || !blockExists y.val b then s else
  let u := vget s.yards y
  if u.retry.any (·.1 == b) then
    fenceBlock y.val b { s with yards := vset s.yards y { u with retry := u.retry.filter (·.1 != b) } }
  else
    let h := 0x1000 * y.val
    let u1 : YardUnit := { u with retry := u.retry ++ [(b, due)], inReset := u.inReset ++ [(b, s.clk.cycle + 32)] }
    let s1 := { s with yards := vset s.yards y u1 }
    raise 1 (y.val + 256 * b + 0x2000) (sticky (bump s1 (h + 0xFF6) 15 0 1) (h + 0xFF5) 2)

/-- A block delivers the result of an operation (01 R29, R30): after that of a faulted one the next operation is the retry; a retry that
completes returns the block to normal service. -/
def operationDone (y : Fin 8) (b : Nat) (s : State) : State :=
  let u := vget s.yards y
  match u.retry.find? (·.1 == b) with
  | none => s
  | some x =>
    let rest := u.retry.filter (·.1 != b)
    { s with yards := vset s.yards y { u with retry := if x.2 then rest ++ [(b, false)] else rest } }

/-- An operation of stage b of the beat flow completes, in both lanes at once (01 R48, R536). -/
def stageDone (b : Nat) (s : State) : State := operationDone 3 b (operationDone 2 b s)

/-- A stall of a memory as the poison marks name it: its yard, memory and word. Below 0x10000 stand the identifiers, each one register
stall (DESIGN CHOICE, log 31). -/
def memoryStall (y mem word : Nat) : Nat := 0x10000 + y + 8 * (mem % 1024 + 1024 * word)

/-- The yard of a stall. -/
def stallYard (i : Nat) : Nat := if i < 0x10000 then i / 0x1000 else (i - 0x10000) % 8

/-- Mark a stall poisoned (01 R23): a stall already poisoned counts and raises nothing more. -/
def poisonStall (y id : Nat) (s : State) : State :=
  if s.poison.contains id then s else
  let h := 0x1000 * y
  raise 0 y (sticky (bump { s with poison := id :: s.poison } (h + 0xFF1) 15 0 1) (h + 0xFF5) 1)

/-- Free value number k of a site, and the state whose counter has moved past it. -/
def takeFree (s : State) : Nat × State := (s.free, { s with free := s.free + 1 })

/-- The cycle of the running beat's edge plus an offset. -/
def beatCycle (s : State) (off : Nat) : Nat := s.clk.beatBase + off

/-- The cycle of the running tick's edge plus an offset. -/
def tickCycle (s : State) (off : Nat) : Nat := s.clk.tickBase + off

/-- A number as an answer of the step. -/
def ok (s : State) : Out := .next s

end Sys2Proof.Machine
end

