-- ==== Sys2Proof/Machine/Reply.lean ====
section
/-! DEFINITION. Packets, replies and the command engine's service of a request: the opcode map with its lengths and
timing classes (04 R114, R123), the checks in their order (04 R111), commits under the module arbiter (01 R42-R45), the
reply packet (03 R91, R92, 04 R109) and its way to the outbox or the MAC (03 R100, R106). -/
namespace Sys2Proof.Machine

/-! ### Status codes (04 R113) -/

def stOk : Nat := 0x00
def stPending : Nat := 0x01
def stNotReady : Nat := 0x10
def stBusy : Nat := 0x11
def stConflict : Nat := 0x12
def stBadOpcode : Nat := 0x20
def stBadLength : Nat := 0x21
def stBadCrc : Nat := 0x22
def stBadParam : Nat := 0x23
def stNotPermitted : Nat := 0x24
def stInternal : Nat := 0x30

/-! ### Packets -/

/-- A packet: header with HCRC, payload, trailer CRC (03 R87, R89). -/
def packetOf (op flags tag : Nat) (p : List Byte) : List Byte :=
  let h := leBytes 1 0xA5 ++ leBytes 1 op ++ leBytes 1 flags ++ leBytes 1 tag ++ leBytes 2 p.length ++ leBytes 1 0
  let b := h ++ leBytes 1 (crc8 h) ++ p
  b ++ leBytes 4 (crc32 b)

/-- Bales a packet of that many bytes occupies (03 R88). -/
def balesFor (n : Nat) : Nat := (n + 63) / 64

/-- Bale i of a packet, padded with zeros. -/
def baleAt (p : List Byte) (i : Nat) : List Byte :=
  let b := (p.drop (64 * i)).take 64
  b ++ zeroBytes (64 - b.length)

/-- The bales of a reply whose first is complete on the edge given, the last marked. -/
def replyBales (ready : Nat) (p : List Byte) : List OutBale :=
  (List.range (balesFor p.length)).map fun i => ⟨ready, i + 1 == balesFor p.length, baleAt p i⟩

/-- The reply head of 04 R109. -/
def replyHead (st det : Nat) : List Byte := leBytes 1 st ++ leBytes 1 0 ++ leBytes 2 det

/-- The size of a lane in bales: 8 per unit of its layout word (03 R95). -/
def laneBales (s : State) (id : Nat) (l : Fin 4) : Nat := 8 * fld s id (8 * l.val + 7) (8 * l.val)

/-- The identifier of a parameter of host port p (03 R102). -/
def portId (p : Fin 2) (off : Nat) : Nat := 0x1200 + 0x10 * p.val + off

/-- Room in an outbox lane, in bales (03 R100). -/
def outRoom (s : State) (p : Fin 2) (l : Fin 4) : Nat :=
  laneBales s (portId p 1) l - (vget (vget s.host p).outbox l).length

/-- Room in an inbox lane in bales: its size less the bales granted and not yet drained (03 R94). -/
def inRoom (s : State) (p : Fin 2) (l : Fin 4) : Nat :=
  let sel := s.line.sel
  let granted := p == 0 && sel.sel && sel.grant.isSome && !sel.moved &&
    (match sel.access with
     | some b => !b.getLsbD 7 && b.toNat % 4 == l.val
     | none => false)
  laneBales s (portId p 0) l - ((vget (vget s.host p).inbox l).length + b2n granted)

/-- Change the port. -/
def updPort (p : Fin 2) (f : HostPort → HostPort) (s : State) : State := { s with host := vupd s.host p f }

/-- Change the engine of a port. -/
def updEngine (p : Fin 2) (f : Engine → Engine) (s : State) : State :=
  updPort p (fun q => { q with engine := f q.engine }) s

/-- Put a frame into a port's transmit queue at a cycle (14 R411): a Delay_Req goes ahead of every frame not yet being
sent, the others in order of placement. Nothing is queued while the MAC is fenced. -/
def ethQueue (e : Fin 2) (at_ : Nat) (f : EthTx) (s : State) : State :=
  if blockDown s 7 (4 + e.val) then s else
  { s with eth := vupd s.eth e fun p =>
      match f with
      | .delayReq _ _ =>
        if p.sending then { p with txq := p.txq.take 1 ++ [(at_, f)] ++ p.txq.drop 1 }
        else { p with txq := (at_, f) :: p.txq }
      | _ => { p with txq := p.txq ++ [(at_, f)] } }

/-- Hand a port 1 reply to the MAC as one datagram, to the request's source from the port that it was sent to (03 R102, R106). -/
def replyDatagram (peer : Option Peer) (packet : List Byte) (at_ : Nat) (s : State) : State :=
  match peer with
  | none => s
  | some q => ethQueue q.eth at_ (.reply q packet) s

/-- A reply becomes ready on a cycle (03 R100, R106, 02 R72): its first bale goes to the outbox lane, the others wait
for REPLY_BALE_WRITE, an attention falls due 16 cycles later. Port 1 has no attention; its bales pass to the MAC. -/
def sendReply (h : ReqHead) (op flags : Nat) (readyAt : Nat) (p : List Byte) (s : State) : State :=
  let packet := packetOf op (flags % 8 + 0x80) h.tag.toNat p
  let bales := replyBales readyAt packet
  let rest : Option ReplyRest :=
    if bales.length ≤ 1 then none else some ⟨h.lane, bales.drop 1, readyAt + 320, h.peer, packet⟩
  let s1 := updEngine h.port (fun e => { e with freeAt := max e.freeAt readyAt, request := none, rest := rest }) s
  if h.port = 0 then
    attentionDue (readyAt + 16)
      (updPort 0 (fun q => { q with outbox := vupd q.outbox h.lane (· ++ bales.take 1) }) s1)
  else if bales.length ≤ 1 then replyDatagram h.peer packet (readyAt + 64) s1
  else s1

/-- A reply with a status: CMD_STICKY and CONFLICT_COUNT (04 R140), and no reply at all for a suppressed OK
(03 R92, 02 R72). -/
def respond (h : ReqHead) (op : Nat) (readyAt st det : Nat) (data : List Byte) (s : State) : State :=
  let s1 := if st = stNotPermitted then sticky s 0x1007 1
    else if st = stConflict then bump (sticky s 0x1007 2) 0x1008 15 0 1
    else if st = stNotReady then sticky s 0x1007 3 else s
  if st = stOk && h.suppress then
    updEngine h.port (fun e => { e with freeAt := max e.freeAt readyAt, request := none }) s1
  else sendReply h op (h.lane.val + 4 * (op % 2)) readyAt (replyHead st det ++ data) s1

/-! ### Commits -/

/-- Does a port have an open expert session (04 R140 SESSION_STATE)? -/
def sessionOpen (s : State) (p : Fin 2) : Bool := flag s 0x1005 p.val

/-- What has been applied in the present cycle (01 R42). -/
def appliedNow (s : State) : List Applied := if s.arb.cycle = s.clk.cycle then s.arb.applied else []

/-- The state as reads of the present cycle see it: no commit of the cycle has reached a stall yet (01 R20). -/
def beforeCommits (s : State) : State := { s with regs := regsBefore s }

/-- Does a requester rank above one whose commit was applied: by class, and within a class by port (01 R16, R18, R42)? -/
def outranks (cls port : Nat) (a : Applied) : Bool := decide (cls < a.cls) || (cls == a.cls && decide (port < a.port))

/-- Does an applied commit bar a new one of the same cycle (01 R42, R537)? One of the same port does whatever it wrote, but for the twin
link, whose forwarded commits are part of an adoption (15 R447), and the status logic, which merges its causes. One of another port does if
the target sets overlap and the new commit does not outrank it. -/
def bars (cls port : Nat) (targets : List Nat) (a : Applied) : Bool :=
  if a.port = port then port != 2 && port != 3 else a.targets.any targets.contains && !outranks cls port a

/-- Note a commit of the present cycle as applied. -/
def noteCommit (cls port : Nat) (targets : List Nat) (s : State) : State :=
  { s with arb := ⟨s.clk.cycle, appliedNow s ++ [⟨cls, port, targets⟩], regsBefore s, s.arb.fwLost⟩ }

/-- The commit of a requester in the present cycle (01 R42-R45): no effect when a commit already applied in the cycle bars it. Commands of
one cycle stand in the queue in rank order (log 8). -/
def arbitrate (cls port : Nat) (targets : List Nat) (s : State) : Option State :=
  if (appliedNow s).any (bars cls port targets) then none else some (noteCommit cls port targets s)

/-- Close the expert session of a port with a reason (04 R118). -/
def closeSession (p : Fin 2) (reason : Nat) (s : State) : State :=
  if sessionOpen s p then
    raise 21 (p.val + 256 * reason) (wrFlag { s with
      session := vupd s.session p fun x => { x with closedAt := s.clk.cycle } } 0x1005 p.val false)
  else s

/-- Did the request being served on the port come in while a session was open (04 R119)? -/
def inSession (s : State) (p : Fin 2) : Bool := (vget s.session p).cur

/-! ### The opcode map -/

/-- The lengths an opcode admits (04 R123). -/
inductive LenSpec where
  | exact (n : Nat)
  | range (lo step hi : Nat)
deriving DecidableEq, Repr

/-- The commit and reply cycles of a timing class (04 R114). -/
inductive TimeClass where
  | a | p | e | t
deriving DecidableEq, Repr

/-- Commit cycle or stall read, from the request edge (04 R114; 04 R125 takes STATUS data on cycle 640). -/
def TimeClass.commitAt : TimeClass → Nat
  | .a => 640
  | .p => 1600
  | .e => 1600
  | .t => 12800

/-- Reply-ready cycle from the request edge (04 R114). -/
def TimeClass.replyAt : TimeClass → Nat
  | .a => 1280
  | .p => 2560
  | .e => 3840
  | .t => 13760

/-- One row of the opcode map (04 R123): opcode, lengths, class. -/
structure OpRow where
  code : Nat
  len  : LenSpec
  cls  : TimeClass
deriving DecidableEq, Repr

/-- The opcode map of 04 R123. -/
def opRows : List OpRow := [
  ⟨0x00, .exact 0, .a⟩, ⟨0x02, .exact 0, .a⟩, ⟨0x04, .exact 4, .e⟩, ⟨0x06, .range 6 2 2044, .p⟩,
  ⟨0x08, .range 10 6 4084, .p⟩, ⟨0x0A, .exact 4, .p⟩, ⟨0x0B, .exact 0, .p⟩, ⟨0x0C, .range 0 1 4080, .a⟩,
  ⟨0x0E, .exact 4, .p⟩, ⟨0x0F, .exact 4, .p⟩, ⟨0x10, .exact 8, .p⟩, ⟨0x11, .exact 116, .p⟩,
  ⟨0x12, .exact 24, .p⟩, ⟨0x14, .exact 16, .p⟩, ⟨0x16, .exact 8, .p⟩, ⟨0x18, .range 24 16 1032, .t⟩,
  ⟨0x1A, .exact 4, .p⟩, ⟨0x20, .exact 32, .p⟩, ⟨0x21, .exact 64, .p⟩, ⟨0x22, .exact 4, .p⟩,
  ⟨0x24, .exact 4, .p⟩, ⟨0x27, .exact 4, .p⟩, ⟨0x28, .exact 4, .p⟩, ⟨0x2A, .exact 0, .p⟩,
  ⟨0x30, .exact 4, .p⟩, ⟨0x32, .exact 4, .p⟩, ⟨0x34, .exact 64, .p⟩, ⟨0x35, .exact 512, .t⟩,
  ⟨0x36, .exact 16, .p⟩, ⟨0x38, .exact 0, .p⟩, ⟨0x3B, .exact 4, .p⟩, ⟨0x40, .exact 4, .p⟩,
  ⟨0x42, .exact 4, .p⟩, ⟨0x44, .exact 32, .p⟩, ⟨0x45, .exact 64, .p⟩, ⟨0x47, .exact 516, .t⟩,
  ⟨0x48, .exact 4, .p⟩] ++ [
  ⟨0x50, .exact 16, .p⟩, ⟨0x51, .exact 32, .p⟩, ⟨0x52, .exact 8, .p⟩, ⟨0x54, .exact 4, .p⟩,
  ⟨0x56, .exact 8, .p⟩, ⟨0x58, .exact 4, .p⟩, ⟨0x60, .exact 4, .p⟩, ⟨0x61, .range 12 4 1544, .t⟩,
  ⟨0x62, .exact 0, .p⟩, ⟨0x64, .exact 4, .p⟩, ⟨0x68, .exact 16, .p⟩, ⟨0x69, .exact 32, .p⟩,
  ⟨0x6A, .exact 8, .p⟩, ⟨0x6C, .exact 4, .p⟩, ⟨0x6F, .exact 72, .p⟩, ⟨0x70, .exact 32, .p⟩,
  ⟨0x72, .exact 16, .p⟩, ⟨0x73, .exact 32, .p⟩, ⟨0x74, .exact 0, .p⟩, ⟨0x76, .exact 4, .p⟩,
  ⟨0x78, .exact 16, .p⟩, ⟨0x79, .exact 48, .p⟩, ⟨0x7A, .exact 4, .p⟩, ⟨0x7C, .exact 16, .p⟩,
  ⟨0x7E, .exact 4, .p⟩, ⟨0x80, .exact 0, .p⟩, ⟨0x82, .exact 4, .p⟩, ⟨0x84, .exact 4, .p⟩,
  ⟨0x87, .exact 32, .p⟩, ⟨0x90, .exact 4, .p⟩, ⟨0x92, .exact 8, .p⟩, ⟨0x94, .exact 8, .p⟩,
  ⟨0x96, .exact 0, .p⟩, ⟨0xF0, .exact 0, .p⟩, ⟨0xF1, .exact 4, .p⟩, ⟨0xF3, .range 9 1 4084, .t⟩,
  ⟨0xF5, .exact 4, .p⟩]

/-- The row of an opcode; none for an undefined one (04 R107). -/
def opRow (op : Nat) : Option OpRow := opRows.find? (·.code == op)

/-- The class of an opcode; class P where it has no row. -/
def opClass (op : Nat) : TimeClass :=
  match opRow op with
  | some r => r.cls
  | none => .p

/-- DETAIL of a BAD_LENGTH for an opcode (04 R110). -/
def lenDetail (op : Nat) : Nat :=
  match opRow op with
  | some ⟨_, .exact n, _⟩ => n
  | _ => 0xFFFF

/-- Does the opcode admit that LENGTH (04 R111 order 3, R123)? -/
def lenOk (op n : Nat) : Bool :=
  match opRow op with
  | some ⟨_, .exact k, _⟩ => n == k
  | some ⟨_, .range lo st hi, _⟩ => decide (lo ≤ n) && decide (n ≤ hi) && (n - lo) % st == 0
  | none => false

/-! ### Serving a request -/

/-- What a commit answers: the new state, the status with its DETAIL, and reply data. -/
structure Result where
  state  : State
  status : Nat
  detail : Nat
  data   : List Byte

/-- OK without data. -/
def okResult (s : State) : Result := ⟨s, stOk, 0, []⟩

/-- OK with data. -/
def okData (s : State) (d : List Byte) : Result := ⟨s, stOk, 0, d⟩

/-- A refusal on the commit cycle: nothing is applied. -/
def refuse (s : State) (st det : Nat) : Result := ⟨s, st, det, []⟩

/-- What an opcode's chapter says of it: does its count field match the length, its field checks (status and DETAIL of
the first that fails), whether a resource is held elsewhere, whether it needs the halter and the DETAIL of its refusal without it, whether
it touches a fenced block, a fenced yard or reads poisoned data, the stalls it writes, the stalls of the effects that rules tie to its
commit (01 R535), and its effect. -/
structure OpSpec where
  code     : Nat
  count    : List Byte → Bool := fun _ => true
  check    : Fin 2 → List Byte → State → Option (Nat × Nat) := fun _ _ _ => none
  busy     : Fin 2 → List Byte → State → Bool := fun _ _ _ => false
  halter   : List Byte → State → Bool := fun _ _ => false
  halterAt : List Byte → Nat := fun _ => 0xFFFF
  internal : List Byte → State → Bool := fun _ _ => false
  targets  : List Byte → State → List Nat := fun _ _ => []
  tied     : List Byte → State → List Nat := fun _ _ => []
  commit   : Fin 2 → List Byte → State → Result

/-- The first field whose test fails gives BAD_PARAM at its offset (04 R110, R111 order 4). -/
def firstBad : List (Bool × Nat) → Option (Nat × Nat)
  | [] => none
  | (good, off) :: r => if good then firstBad r else some (stBadParam, off)

/-- Is the opcode served in the present power state on the port (04 R121, 16 R479; with PD1 fenced no command is accepted, 01 R38)? none: no request is served at all;
false: answered NOT_READY. -/
def readyFor (s : State) (p : Fin 2) (op : Nat) : Option Bool :=
  if yardFenced s 1 then none else
  match s.power.mode with
  | .run => some true
  | .bringUp => some (op == 0x00 || op == 0x02 || op == 0x04)
  | .window => if p = 1 then some (op == 0x00 || op == 0x04 || op == 0x96 || op == 0x90) else none
  | _ => none

/-- Does a commit write a register stall of a fenced yard (01 R37)? -/
def fencedTarget (o : OpSpec) (p : List Byte) (s : State) : Bool :=
  (o.targets p s).any fun i => decide (i < 0x10000) && yardFenced s (stallYard i)

/-- The status of the checks of 04 R111 orders 1 to 6 and of 01 R31 and R25, in their order, at the commit cycle; the
reply is ready at the class cycle but for NOT_READY. none: every check passes. -/
def refusal (o : OpSpec) (r : Req) (s : State) : Option (Nat × Nat) :=
  let p := r.payload
  if o.code % 2 = 1 && !inSession s r.head.port then some (stNotPermitted, 0xFFFF)
  else if !lenOk o.code p.length then some (stBadLength, lenDetail o.code)
  else if !o.count p then some (stBadLength, 0xFFFF)
  else match o.check r.head.port p s with
    | some x => some x
    | none =>
      if o.busy r.head.port p s then some (stBusy, 0xFFFF)
      else if o.halter p s && !s.twin.holds then some (stNotPermitted, o.halterAt p)
      else if o.internal p s || fencedTarget o p s then some (stInternal, 0xFFFF)
      else none

/-- The class of a host request (01 R16, 04 R119). -/
def hostClass (s : State) (p : Fin 2) : Nat := if inSession s p then 4 else 5

/-- A request's class follows from its request edge, against the cycle at which the session closed (04 R119); the latest request of a
session restarts its idle timer (R118). -/
def touchSession (h : ReqHead) (s : State) : State :=
  let o := sessionOpen s h.port
  { s with session := vupd s.session h.port fun x =>
      { x with cur := o || decide (h.edge < x.closedAt), lastEdge := if o then h.edge else x.lastEdge } }

/-- The holder forwards a request that needs the halter, with a commit marker on its commit cycle that carries the
status (15 R449). -/
def forward (o : OpSpec) (r : Req) (st : Nat) (s : State) : State :=
  if o.halter r.payload s && s.twin.holds && fld s 0x7400 1 0 != 2 then
    { s with twin := { s.twin with
        forwarded := some ⟨s.clk.beat, s.clk.cycle - s.clk.beatBase, st, r.head.port, BitVec.ofNat 8 o.code, r.payload⟩ } }
  else s

/-- The state in which an opcode's checks are made: the request has restarted its session's idle timer and the clock
stands at the class's commit cycle. -/
def atCommit (o : OpSpec) (r : Req) (s : State) : State :=
  advance (r.head.edge + (opClass o.code).commitAt) (touchSession r.head s)

/-- The poisoned register stalls of a commit's target set. -/
def poisonedTargets (o : OpSpec) (p : List Byte) (s : State) : List Nat :=
  (o.targets p s).filter fun i => decide (i < 0x10000) && s.poison.contains i

/-- The bits that a register stall stores: those of its fields, less the bits of unassigned event numbers (17 R498). -/
def storedBits (id : Nat) : Word :=
  match paramRow id with
  | some r => let m := r.mask fun _ => true
    if isEventWord id then m &&& assignedEvents ((id - 0x1300) % 4) else m
  | none => 0xFFFFFFFF

/-- Does the commit cover every stored bit of a register stall (01 R24)? It leaves the same word there, whatever the stall held. -/
def covers (o : OpSpec) (port : Fin 2) (p : List Byte) (s : State) (id : Nat) : Bool :=
  let all := storedBits id
  rd (o.commit port p (wr s id 0)).state id == rd (o.commit port p (wr s id all)).state id

/-- The commit with the poison rule of 01 R24: a poisoned register stall that is not covered makes it INTERNAL_FAULT and nothing is
applied; the marks of covered ones are cleared. -/
def commitPoison (o : OpSpec) (port : Fin 2) (p : List Byte) (s : State) : Result :=
  let l := poisonedTargets o p s
  if l.all (covers o port p s) then
    let x := o.commit port p s
    if x.status = stOk then { x with state := { x.state with poison := x.state.poison.filter fun i => !l.contains i } } else x
  else refuse s stInternal 0xFFFF

/-- The data of a reply: a request that writes no stall reads the stalls as they stood before the commits of its cycle (01 R20). -/
def replyData (o : OpSpec) (port : Fin 2) (p : List Byte) (s : State) (written : List Byte) : List Byte :=
  if (o.targets p s).isEmpty then (commitPoison o port p (beforeCommits s)).data else written

/-- The state that a commit leaves: a request refused in its commit has applied nothing, and is not noted as applied (01 R45). -/
def commitDone (s : State) (x : Result) : State :=
  if x.status = stOk ∨ x.status = stPending then x.state else { x.state with arb := s.arb }

/-- The target set of a commit (01 R42, R535): every effect that a rule ties to it belongs to it. -/
def commitTargets (o : OpSpec) (p : List Byte) (s : State) : List Nat := o.targets p s ++ o.tied p s

/-- Serve a request whose checks all pass: arbitration on the commit cycle, commit and reply. -/
def commitRequest (o : OpSpec) (r : Req) (s : State) : State :=
  let ready := r.head.edge + (opClass o.code).replyAt
  match arbitrate (hostClass s r.head.port) r.head.port.val (commitTargets o r.payload s) s with
  | none => respond r.head o.code ready stConflict 0xFFFF [] (forward o r stConflict s)
  | some s1 =>
    let x := commitPoison o r.head.port r.payload s1
    respond r.head o.code ready x.status x.detail (replyData o r.head.port r.payload s1 x.data)
      (forward o r x.status (commitDone s x))

/-- Serve a request of the command engine (04 R111, R114): the checks in order, then the commit. -/
def serve (o : OpSpec) (r : Req) (s : State) : State :=
  match readyFor s r.head.port o.code with
  | none => s
  | some false => respond r.head o.code (r.head.edge + 1280) stNotReady 0xFFFF [] (touchSession r.head s)
  | some true =>
    let s1 := atCommit o r s
    match refusal o r s1 with
    | some x => respond r.head o.code (r.head.edge + (opClass o.code).replyAt) x.1 x.2 [] (forward o r x.1 s1)
    | none => commitRequest o r s1

end Sys2Proof.Machine
end

