-- ==== Sys2Proof/Machine/Host.lean ====
section
/-! DEFINITION. The host port and the inboxes (03): selections, grants, bales, attention pulses, dispatch and drain,
reply bales, command datagrams. -/
namespace Sys2Proof.Machine

/-- Is port 0 out of reset with the core clock running, and no block of PD1 in the reset after a fault (03 R81, R86, 01 R29, 16 R482: ready from cycle 5 000 000 of a bring-up;
16 R475: HRDY low from the entry edge on)? -/
def portUp (s : State) : Bool :=
  s.clk.core && !yardFenced s 1 && !((vget s.yards 1).inReset.any fun x => decide (s.clk.cycle < x.2)) &&
  (s.power.mode == .run || (s.power.mode == .bringUp && decide (5000000 ≤ s.clk.cycle)))

/-- Ready (03 R81): the lane of the latest write selection has room for one bale. -/
def portReady (s : State) : Bool := portUp s && decide (1 ≤ inRoom s 0 s.line.lastLane)

/-- The first cycle a pulse may start once the port has returned to ready: one that is due by then begins 100 cycles later
(02 R74, 03 R83); one that falls due afterwards does not wait for it. -/
def pulseAfterReady (s : State) : Nat :=
  if s.line.due.any (fun d => decide (d ≤ s.clk.cycle)) then max s.line.nextPulse (s.clk.cycle + 100) else s.line.nextPulse

/-- HRDY outside selections and pulses follows readiness; a pulse due when the port returns to ready begins 100 cycles
later (02 R74). -/
def settleLine (s : State) : State :=
  if s.line.sel.sel || s.line.pulseEnd.isSome then s
  else if s.line.hrdy == portReady s then s
  else { s with line := { s.line with
    hrdy := portReady s
    nextPulse := if portReady s then pulseAfterReady s else s.line.nextPulse } }

/-- A framing error of port 0: FRAMING_COUNT, a bit of PORT_STICKY and HOST_FRAMING with port and lane (03 R79, R84,
R85, R99, R103; port in ARG bits 7:0 and lane in 15:8 is DESIGN CHOICE, log 13). -/
def framing (p : Fin 2) (lane bit : Nat) (s : State) : State :=
  raise 16 (p.val + 256 * lane) (sticky (bump s (portId p 5) 15 0 1) (portId p 4) bit)

/-- HSEL_N falls (03 R76, R82, R86): HRDY goes low unless a pulse runs, HDO is driven low, and a selection opens; in a sleep state, or
before port 0 is ready, the selection is ignored whole. -/
def execHselNFall (c : Nat) (s : State) : Out :=
  let s := advance c s
  .next { s with line := { s.line with
    hrdy := false, hdo := []
    sel := ⟨true, !portUp s, none, false, none, none, false⟩ } }

/-- The lane of an access byte. -/
def accessLane (b : Byte) : Fin 4 := ⟨b.toNat % 4, Nat.mod_lt _ (by decide)⟩

/-- An access byte that is invalid (03 R78, R79): a reserved bit, FIRST in a read, or ANY in a write. -/
def accessInvalid (b : Byte) : Bool :=
  decide (b.toNat / 4 % 8 ≠ 0) || (b.getLsbD 7 && b.getLsbD 6) || (!b.getLsbD 7 && b.getLsbD 5)

/-- Does an outbox lane hold a complete bale on the edge (03 R100)? -/
def outReady (now : Nat) (q : HostPort) (l : Fin 4) : Bool :=
  match (vget q.outbox l).head? with
  | some x => decide (x.ready ≤ now)
  | none => false

/-- The highest-numbered outbox lane that holds a complete bale (03 R101). -/
def highestOut (now : Nat) (q : HostPort) : Option (Fin 4) :=
  if outReady now q 3 then some 3
  else if outReady now q 2 then some 2
  else if outReady now q 1 then some 1
  else if outReady now q 0 then some 0
  else none

/-- Byte 1 bit 0 of the null bale: unread unmasked entries exist (03 R101, 17 R504). -/
def unreadUnmasked (s : State) : Bool := (readable s).any (fun e => e.flags % 2 == 0)

/-- Which outbox lane a read is served from: an answer of some none is the null bale, none means that nothing can be
served yet (03 R82, R101). Of several partly read replies an ANY read goes on with the one read last (DESIGN CHOICE, log 13). -/
def readChoice (now : Nat) (b : Byte) (q : HostPort) : Option (Option (Fin 4)) :=
  if b.getLsbD 5 then
    match q.partRead with
    | l :: _ => if outReady now q l then some (some l) else none
    | [] => some (highestOut now q)
  else if outReady now q (accessLane b) then some (some (accessLane b)) else none

/-- The grant decision of a selection (03 R82): on a grant the module drives HRDY high 16 cycles later, or at the end of a pulse that
still runs (R83), and the bale of a read is what HDO will carry. -/
def tryGrant (s : State) : State :=
  let l := s.line
  match l.sel.access with
  | none => s
  | some b =>
    if l.sel.ignored || l.sel.invalid || !l.sel.sel || l.sel.grant.isSome then s
    else if b.getLsbD 7 then
      match readChoice s.clk.cycle b (vget s.host 0) with
      | none => s
      | some (some k) =>
        { s with line := { l with
            hrdy := l.pulseEnd.isNone, hdo := (match (vget (vget s.host 0).outbox k).head? with
              | some x => x.bytes
              | none => [])
            sel := { l.sel with grant := some s.clk.cycle, lane := some k } } }
      | some none =>
        { s with line := { l with
            hrdy := l.pulseEnd.isNone, hdo := leBytes 1 0 ++ leBytes 1 (b2n (unreadUnmasked s)) ++ zeroBytes 62
            sel := { l.sel with grant := some s.clk.cycle, lane := none } } }
    else if 1 ≤ inRoom s 0 (accessLane b) then
      { s with line := { l with hrdy := l.pulseEnd.isNone, sel := { l.sel with grant := some s.clk.cycle } } }
    else s

/-- The access byte crosses (03 R78, R79, R82): an invalid one is refused and counted, another is granted when it can be
served. A write names the lane whose room readiness shows. -/
def execAccessByte (c : Nat) (b : Byte) (s : State) : Out :=
  let s := advance c s
  if !s.line.sel.sel || s.line.sel.ignored || s.line.sel.access.isSome then .next s
  else if accessInvalid b then
    .next (framing 0 (b.toNat % 4) 0
      { s with line := { s.line with sel := { s.line.sel with access := some b, invalid := true } } })
  else
    .next (tryGrant { s with line := { s.line with
      lastLane := if b.getLsbD 7 then s.line.lastLane else accessLane b
      sel := { s.line.sel with access := some b } } })

/-- A waiting selection can now be served (03 R82). -/
def execSelectionGrant (c : Nat) (s : State) : Out := .next (tryGrant (advance c s))

/-- INBOX_FILL is raised when the fill of a lane becomes equal to its level from below (03 R96); level 0 disables. -/
def fillEvent (p : Fin 2) (l : Fin 4) (before : Nat) (s : State) : State :=
  let lev := fld s (portId p 2) (8 * l.val + 7) (8 * l.val)
  let now := (vget (vget s.host p).inbox l).length
  raiseIf (decide (lev ≠ 0) && decide (before < lev) && now == lev) 20 (p.val + 256 * l.val) s

/-- Bales cross into an inbox lane (03 R93, R96). A drain that ended in the lane on this edge is counted with the crossing, before the
comparison. -/
def putBales (p : Fin 2) (l : Fin 4) (b : List InBale) (s : State) : State :=
  let q := vget s.host p
  let before := (vget q.inbox l).length + b2n (q.drained == some (l, s.clk.cycle))
  fillEvent p l before (updPort p (fun q => { q with inbox := vupd q.inbox l (· ++ b) }) s)

/-- A complete bale written by the host crosses (03 R84, R93): into its lane when the selection was granted, otherwise
it is discarded and counted. -/
def execBaleWrite (c : Nat) (bale : List Byte) (s : State) : Out :=
  if bale.length ≠ 64 then .fault .illFormed else
  let s := advance c s
  match s.line.sel.access with
  | none => .next s
  | some b =>
    if !s.line.sel.sel || s.line.sel.ignored || b.getLsbD 7 || s.line.sel.moved then .next s
    else
      let s1 := { s with line := { s.line with sel := { s.line.sel with moved := true } } }
      if s.line.sel.grant.isSome then
        .next (putBales 0 (accessLane b) [⟨b.getLsbD 6, s.clk.cycle, bale, none, none⟩] s1)
      else .next (framing 0 (b.toNat % 4) 4 s1)

/-- Room appears in an outbox lane that was full: a reply bale that waits for it is complete 320 cycles later (03 R100). -/
def roomAppears (full : Bool) (l : Fin 4) (c : Nat) (e : Engine) : Engine :=
  match e.rest with
  | some r => if full && r.lane == l then { e with rest := some { r with nextAt := max r.nextAt (c + 320) } } else e
  | none => e

/-- The host has read a reply bale and its read-pointer update crosses (03 R100, R101); a null bale frees nothing. -/
def execBaleRead (c : Nat) (s : State) : Out :=
  let s := advance c s
  if !s.line.sel.sel || s.line.sel.grant.isNone || s.line.sel.moved then .next s else
  match s.line.sel.access with
  | none => .next s
  | some b =>
    if !b.getLsbD 7 then .next s else
    let s1 := { s with line := { s.line with sel := { s.line.sel with moved := true } } }
    match s.line.sel.lane with
    | none => .next s1
    | some l =>
      match vget (vget s.host 0).outbox l with
      | [] => .next s1
      | x :: r =>
        .next (updPort 0 (fun q => { q with
          outbox := vset q.outbox l r
          partRead := (if x.last then [] else [l]) ++ q.partRead.filter (· != l)
          engine := roomAppears (outRoom s 0 l == 0) l s.clk.cycle q.engine }) s1)

/-- What an abandoned packet leaves (03 R99): ABANDON_COUNT, PORT_STICKY bit 3 and PACKET_ABANDONED. -/
def countAbandoned (p : Fin 2) (lane : Fin 4) (s : State) : State :=
  raise 18 (p.val + 256 * lane.val) (sticky (bump s (portId p 8) 15 0 1) (portId p 4) 3)

/-- Abandon the packet that the engine reads, on the present edge (03 R99): it is counted, and answered BAD_LENGTH 1 280 cycles later. A
bale of it in its drain is discarded when that ends. -/
def abandon (p : Fin 2) (s : State) : State :=
  let e := (vget s.host p).engine
  let quit (lane : Fin 4) (b : List Byte) (peer : Option Peer) : State :=
    let op := byteAt b 1
    let h : ReqHead := ⟨p, lane, BitVec.ofNat 8 (byteAt b 3), false, s.clk.cycle, peer⟩
    let s1 := updEngine p (fun e => { e with
      packet := none, draining := e.draining.map fun d => { d with stray := true } }) s
    sendReply h op (byteAt b 2) (s.clk.cycle + 1280) (replyHead stBadLength (lenDetail op)) (countAbandoned p lane s1)
  match e.packet with
  | some k => quit k.lane k.got k.peer
  | none =>
    match e.draining with
    | some d => if d.stray then s else quit d.lane d.bale.bytes d.bale.peer
    | none => s

/-- The lane whose packet the engine reads: dispatched, and not yet complete. -/
def openLane (s : State) (p : Fin 2) : Option (Fin 4) :=
  let e := (vget s.host p).engine
  match e.packet with
  | some k => some k.lane
  | none => match e.draining with
    | some d => if d.stray then none else some d.lane
    | none => none

/-- A header failure's status (03 R90, first four rows): SYNC or HCRC; reserved bits; LENGTH above 4 084; lane. -/
def headerFault (lane : Fin 4) (b : List Byte) : Option (Nat × Nat) :=
  if byteAt b 0 ≠ 0xA5 ∨ crc8 (b.take 7) ≠ byteAt b 7 then some (stBadCrc, 0xFFFF)
  else if byteAt b 2 / 16 ≠ 0 then some (stBadParam, 0xFFFF)
  else if byteAt b 6 ≠ 0 then some (stBadParam, 0xFFFF)
  else if 4084 < leAt b 4 2 then some (stBadLength, lenDetail (byteAt b 1))
  else if byteAt b 2 % 4 ≠ lane.val then some (stBadParam, 0xFFFF)
  else none

/-- The packet at the end of an inbox lane whose last bale has not crossed, where its header is good: the bales before it, and its own. -/
def unfinished (lane : Fin 4) (l : List InBale) : Option (List InBale × InBale) :=
  match l.reverse.findIdx? (·.first) with
  | none => none
  | some i =>
    let pre := l.take (l.length - 1 - i)
    match l.drop (l.length - 1 - i) with
    | [] => none
    | b :: r =>
      if (headerFault lane b.bytes).isNone && decide (r.length + 1 < balesFor (12 + leAt b.bytes 4 2)) then some (pre, b) else none

/-- The open packet of a lane of port 0 is abandoned (03 R85, R99): the one that the engine reads, or one that waits whole in the lane; its
bales leave the lane, and its answer its outbox lane, with no part of the engine (DEDUCED, log 13). -/
def abandonLane (l : Fin 4) (s : State) : State :=
  if openLane s 0 = some l then abandon 0 s else
  match unfinished l (vget (vget s.host 0).inbox l) with
  | none => s
  | some x =>
    let b := x.2.bytes
    let op := byteAt b 1
    let at_ := s.clk.cycle + 1280
    let bales := replyBales at_ (packetOf op (byteAt b 2 % 8 + 0x80) (byteAt b 3) (replyHead stBadLength (lenDetail op)))
    attentionDue (at_ + 16) (countAbandoned 0 l (updPort 0 (fun q => { q with
      inbox := vset q.inbox l x.1, outbox := vupd q.outbox l (· ++ bales) }) s))

/-- HSEL_N rises after some of the 512 data bits were clocked (03 R83, R85): a partial bale is discarded and counted, and
abandons the open packet of a write's lane; the grant is released; HRDY then shows readiness, and a pulse that fell due during
the selection may start 100 cycles later. A selection whose access byte was invalid, counted under R79 already, counts a second time when it
ends after some data clocks (DESIGN CHOICE, log 13: the manual does not say). -/
def execHselNRise (c : Nat) (clocked : Nat) (s : State) : Out :=
  let s := advance c s
  let sel := s.line.sel
  if !sel.sel then .next s else
  let s1 := { s with line := { s.line with
    sel := ⟨false, false, none, false, none, none, false⟩
    nextPulse := pulseAfterReady s } }
  let part := !sel.ignored && sel.access.isSome && !sel.moved && decide (0 < clocked) && decide (clocked < 512)
  let s2 := if part then
      let lane := match sel.access with
        | some b => accessLane b
        | none => 0
      let write := match sel.access with
        | some b => !b.getLsbD 7
        | none => false
      let s3 := framing 0 lane.val 0 s1
      if write then abandonLane lane s3 else s3
    else s1
  .next (settleLine { s2 with line := { s2.line with hrdy := s2.line.pulseEnd.isNone && portReady s2 } })

/-- Does what a pulse says hold: a reply or an unmasked event is waiting (03 R81)? -/
def attentionWaits (s : State) : Bool := (highestOut s.clk.cycle (vget s.host 0)).isSome || unreadUnmasked s

/-- An attention pulse begins (02 R72-R74, 03 R81, R83): something is due and still waits, no selection is open, the port is
ready, no pulse runs and 100 cycles have passed since the last. The pulse announces what falls due while it runs; a due
attention whose reply or event has been read meanwhile is dropped (DEDUCED from R81, log 13). -/
def execAttentionPulse (c : Nat) (s : State) : Out :=
  let s := advance c s
  let now := s.clk.cycle
  if !s.line.due.any (fun d => decide (d ≤ now)) then .next s
  else if !attentionWaits s then
    .next { s with line := { s.line with due := s.line.due.filter (fun d => decide (now < d)) } }
  else if decide (s.line.nextPulse ≤ now) && !s.line.sel.sel && s.line.pulseEnd.isNone && portReady s then
    .next { s with line := { s.line with
      hrdy := false, pulseEnd := some (now + 100), due := s.line.due.filter (fun d => decide (now + 100 ≤ d)) } }
  else .next s

/-- The pulse ends after exactly 100 cycles (02 R74); HRDY then is high, or shows the lane state of a selection
(03 R83). -/
def execAttentionPulseEnd (s : State) : Out :=
  match s.line.pulseEnd with
  | none => .next s
  | some e =>
    let s := advance e s
    .next { s with line := { s.line with
      pulseEnd := none, nextPulse := e + 100
      hrdy := if s.line.sel.sel then s.line.sel.grant.isSome else portReady s } }

/-! ### Dispatch and drain -/

/-- The highest-numbered inbox lane with a crossed bale whose outbox lane has room for one bale (03 R97). -/
def dispatchLane (s : State) (p : Fin 2) : Option (Fin 4) :=
  let can (l : Fin 4) : Bool := !(vget (vget s.host p).inbox l).isEmpty && (p == 1 || decide (1 ≤ outRoom s p l))
  if can 3 then some 3 else if can 2 then some 2 else if can 1 then some 1 else if can 0 then some 0 else none

/-- Count a packet failure (03 R90, R102): CRC_COUNT, a bit of PORT_STICKY, and HOST_CRC for a CRC failure. -/
def packetFault (p : Fin 2) (lane bit : Nat) (crc : Bool) (s : State) : State :=
  raiseIf crc 17 (p.val + 256 * lane) (sticky (bump s (portId p 6) 15 0 1) (portId p 4) bit)

/-- The header checks of a packet's first bale, registered 40 cycles after its dispatch (03 R90, R98): a failure is counted and
raised with the time of that cycle. Dispatch itself does not move the clock. -/
def headerChecks (p : Fin 2) (l : Fin 4) (b : List Byte) (s : State) : State :=
  match headerFault l b with
  | some (st, _) => { packetFault p l.val 1 (st == stBadCrc) (advance (s.clk.cycle + 40) s) with
      clk := s.clk, power := s.power }
  | none => s

/-- A free engine dispatches the next bale, or the engine reads the next bale of its packet (03 R97-R99): a FIRST bale
where a continuation is expected abandons the packet and waits. A stray bale is counted on this edge, on which it is read, unless it
belongs to a packet whose header was rejected; a FIRST bale has its header checked 40 cycles later. -/
def execBaleDispatch (c : Nat) (p : Fin 2) (s : State) : Out :=
  let s := advance c s
  let e := (vget s.host p).engine
  if e.draining.isSome then .next s else
  match e.packet with
  | some k =>
    match vget (vget s.host p).inbox k.lane with
    | [] => .next s
    | b :: _ =>
      if b.first then .next (abandon p s)
      else .next (updEngine p (fun e => { e with draining := some ⟨k.lane, b, s.clk.cycle, false⟩ }) s)
  | none =>
    if decide (s.clk.cycle < e.freeAt) || e.request.isSome || e.rest.isSome then .next s else
    match dispatchLane s p with
    | none => .next s
    | some l =>
      match vget (vget s.host p).inbox l with
      | [] => .next s
      | b :: _ =>
        let s1 := updEngine p (fun e => { e with draining := some ⟨l, b, s.clk.cycle, !b.first⟩ }) s
        .next (if b.first then headerChecks p l b.bytes s1
          else if vget (vget s.host p).discard l then s1 else framing p l.val 0 s1)

/-- The last bale of a packet has drained: this is the request edge (02 R72, 03 R90, R98). Trailer, opcode and the
expert flag are checked; a request that passes waits for its opcode's own command. -/
def finishPacket (p : Fin 2) (k : OpenPacket) (s : State) : State :=
  let n := leAt k.got 4 2
  let op := byteAt k.got 1
  let fl := byteAt k.got 2
  let h : ReqHead := ⟨p, k.lane, BitVec.ofNat 8 (byteAt k.got 3), fl / 8 % 2 == 1, s.clk.cycle, k.peer⟩
  let ready := s.clk.cycle + (match opRow op with
    | some r => r.cls.replyAt
    | none => 1280)
  let s1 := updEngine p (fun e => { e with packet := none }) s
  if crc32 (k.got.take (8 + n)) ≠ leAt k.got (8 + n) 4 then
    sendReply h op fl ready (replyHead stBadCrc 0xFFFF) (packetFault p k.lane.val 2 true s1)
  else if (opRow op).isNone then sendReply h op fl (s.clk.cycle + 1280) (replyHead stBadOpcode 0xFFFF) s1
  else if fl / 4 % 2 ≠ op % 2 then sendReply h op fl ready (replyHead stBadParam 0xFFFF) s1
  else updEngine p (fun e => { e with
    request := some ⟨BitVec.ofNat 8 op, ⟨h, (k.got.drop 8).take n⟩⟩ }) s1

/-- A bale finishes its 320-cycle drain (03 R98, R99, R90): a stray one is discarded; a first one has had its header
checked; the last of a packet gives the request edge. -/
def execBaleDrain (p : Fin 2) (s : State) : Out :=
  match (vget s.host p).engine.draining with
  | none => .next s
  | some d =>
    let s := advance (d.since + 320) s
    let q := vget s.host p
    let s1 := updPort p (fun q => { q with
      inbox := vupd q.inbox d.lane (·.drop 1), drained := some (d.lane, s.clk.cycle), engine := { q.engine with draining := none } }) s
    let s2 :=
      if d.stray then s1
      else match q.engine.packet with
        | some k =>
          let k1 : OpenPacket := { k with got := k.got ++ d.bale.bytes, bales := k.bales + 1, lastCross := d.bale.cross }
          if k1.need ≤ k1.bales then finishPacket p k1 s1
          else updEngine p (fun e => { e with packet := some k1 }) s1
        | none =>
          let b := d.bale.bytes
          let h : ReqHead := ⟨p, d.lane, BitVec.ofNat 8 (byteAt b 3), false, s1.clk.cycle, d.bale.peer⟩
          let drop (x : Bool) (s : State) : State := updPort p (fun q => { q with discard := vset q.discard d.lane x }) s
          match headerFault d.lane b with
          | some (st, det) =>
            drop true (sendReply h (byteAt b 1) (byteAt b 2) (s1.clk.cycle + 1280) (replyHead st det) s1)
          | none =>
            let n := leAt b 4 2
            if (match d.bale.dgram with
                | some len => len != 12 + n
                | none => false) then
              drop true (sendReply h (byteAt b 1) (byteAt b 2) (s1.clk.cycle + 1280)
                (replyHead stBadLength (lenDetail (byteAt b 1))) s1)
            else
              let k : OpenPacket := ⟨d.lane, b, 1, balesFor (12 + n), d.bale.cross, d.bale.peer⟩
              if k.need ≤ 1 then finishPacket p k (drop false s1)
              else updEngine p (fun e => { e with packet := some k }) (drop false s1)
    .next (settleLine s2)

/-- The continuation bales of a packet that have crossed and wait in its lane. -/
def waitingBales : List InBale → List InBale
  | [] => []
  | b :: r => if b.first then [] else b :: waitingBales r

/-- PACKET_GAP passes after the crossing edge of the latest bale of an open packet whose last bale has not crossed
(03 R99). -/
def execPacketGapExpiry (p : Fin 2) (s : State) : Out :=
  match (vget s.host p).engine.packet with
  | none => .next s
  | some k =>
    let w := waitingBales (vget (vget s.host p).inbox k.lane)
    if k.need ≤ k.bales + w.length then .next s else
    let last := w.foldl (fun m b => max m b.cross) k.lastCross
    .next (abandon p (advance (last + 100000 * fld s (portId p 3) 7 0) s))

/-- The next reply bale is complete (03 R100): into the outbox where its lane has room, or to the MAC on port 1; with the
last one the engine is free (R97) and a port 1 reply leaves 64 cycles later (R106). -/
def execReplyBaleWrite (c : Nat) (p : Fin 2) (s : State) : Out :=
  let s := advance c s
  match (vget s.host p).engine.rest with
  | none => .next s
  | some r =>
    match r.bales with
    | [] => .next (updEngine p (fun e => { e with rest := none }) s)
    | b :: bs =>
      if s.clk.cycle < r.nextAt ∨ (p = 0 ∧ outRoom s p r.lane = 0) then .next s else
      let s1 := if p = 0 then updPort p (fun q => { q with outbox := vupd q.outbox r.lane (· ++ [{ b with ready := s.clk.cycle }]) }) s else s
      let s2 := updEngine p (fun e => { e with
        rest := if bs.isEmpty then none else some { r with bales := bs, nextAt := s.clk.cycle + 320 }
        freeAt := if bs.isEmpty then max e.freeAt s.clk.cycle else e.freeAt }) s1
      if bs.isEmpty && p == 1 then .next (replyDatagram r.peer r.packet (s.clk.cycle + 64) s2) else .next s2

/-! ### Command datagrams -/

/-- A datagram is dropped and counted (03 R104, R105, R103). -/
def dropDatagram (lane : Nat) (s : State) : State :=
  raise 19 (1 + 256 * lane) (sticky (bump s 0x121B 15 0 1) 0x1214 5)

/-- Is port 1 open (16 R475, R479, R482: from cycle 55 000 000 + X of a bring-up, in windows and in RUN)? -/
def port1Up (s : State) : Bool :=
  s.clk.core && !yardFenced s 1 && !yardFenced s 7 &&
  (s.power.mode == .run || s.power.mode == .window || (s.power.mode == .bringUp && s.clk.ticks))

/-- A whole datagram at its crossing edge (03 R104, R105). -/
def datagramArrives (peer : Peer) (b : List Byte) (s : State) : State :=
  let want := rd s 0x121A
  let lane : Fin 4 := ⟨byteAt b 2 % 4, Nat.mod_lt _ (by decide)⟩
  if (want ≠ 0 ∧ want ≠ peer.ip) ∨ b.length < 12 then dropDatagram lane.val s
  else if inRoom s 1 lane < balesFor b.length then
    let s1 := dropDatagram lane.val s
    if (headerFault lane b).isNone then
      replyDatagram (some peer)
        (packetOf (byteAt b 1) (byteAt b 2 % 8 + 0x80) (byteAt b 3) (replyHead stBusy 0xFFFF)) (s.clk.cycle + 1280 + 64) s1
    else s1
  else
    putBales 1 lane ((List.range (balesFor b.length)).map fun i =>
      ⟨i == 0, s.clk.cycle, baleAt b i, some peer, if i = 0 then some b.length else none⟩) s

/-- Insert a fragment by offset. -/
def fragInsert (d : Datagram) : List Datagram → List Datagram
  | [] => [d]
  | x :: r => if d.offset < x.offset then d :: x :: r else x :: fragInsert d r

/-- The bytes of a set of fragments that is complete; none while it is not. -/
def fragJoin : Nat → List Datagram → Option (List Byte)
  | _, [] => none
  | o, x :: r =>
    if x.offset ≠ o then none
    else if x.more then (fragJoin (o + x.bytes.length) r).map (x.bytes ++ ·)
    else if r.isEmpty then some x.bytes else none

/-- A datagram to CMD_UDP_PORT, or a fragment of one, crosses (03 R102, R104, 14 R410): up to 3 fragments are reassembled when all of
them cross within 1 000 000 cycles of the first. -/
def execCmdDatagram (c : Nat) (dg : Datagram) (s : State) : Out :=
  let s := advance c s
  if !port1Up s || dg.peer.dst.toNat != fld s 0x1219 15 0 then .next s
  else if !dg.more && dg.offset == 0 then .next (datagramArrives dg.peer dg.bytes s)
  else
    let q := vget s.host 1
    match q.frags.find? (fun f => f.ident == dg.ident && f.peer == dg.peer) with
    | none => .next (updPort 1 (fun q => { q with frags := q.frags ++ [⟨dg.peer, dg.ident, s.clk.cycle, [dg]⟩] }) s)
    | some f =>
      let parts := fragInsert dg f.parts
      let others := q.frags.filter (fun g => !(g.ident == dg.ident && g.peer == dg.peer))
      if f.since + 1000000 < s.clk.cycle ∨ 3 < parts.length then
        .next (dropDatagram 0 (updPort 1 (fun q => { q with frags := others }) s))
      else match fragJoin 0 parts with
        | some b => .next (datagramArrives dg.peer b (updPort 1 (fun q => { q with frags := others }) s))
        | none => .next (updPort 1 (fun q => { q with frags := others ++ [{ f with parts := parts }] }) s)

/-- Incomplete sets of fragments are dropped 10 ms after their first fragment (14 R410, 03 R104). -/
def execFragmentTimeout (c : Nat) (s : State) : Out :=
  let s := advance c s
  let q := vget s.host 1
  let late := q.frags.filter (fun f => decide (f.since + 1000000 ≤ s.clk.cycle))
  .next (late.foldl (fun s _ => dropDatagram 0 s)
    (updPort 1 (fun q => { q with frags := q.frags.filter (fun f => decide (s.clk.cycle < f.since + 1000000)) }) s))

end Sys2Proof.Machine
end

