-- ==== Sys2Proof/Machine/Net.lean ====
section
/-! DEFINITION. The Ethernet ports as hosts on a network (14 R407-R412): link, reception, addressing, transmission. -/
namespace Sys2Proof.Machine

/-- An identifier of Ethernet port e (14 R434). -/
def ethId (e : Fin 2) (off : Nat) : Nat := 0x7100 + 16 * e.val + off

/-- ENABLE of a port whose MAC is not fenced. -/
def ethOn (s : State) (e : Fin 2) : Bool := flag s (ethId e 0) 0 && !blockDown s 7 (4 + e.val)

/-- Has the port joined group g (14 R412)? RCOM and TIME are never joined. -/
def groupJoined (s : State) (e : Fin 2) (g : Nat) : Bool := flag s (ethId e 0) (16 + g) && g != 5 && g != 6

/-- The groups a port has joined. -/
def joinedGroups (s : State) (e : Fin 2) : List Nat := (List.range 16).filter (groupJoined s e)

/-- Does a PTP slot use the port (14 R408, R418)? -/
def ptpUses (s : State) (e : Fin 2) : Bool :=
  [0, 1].any fun d => fld s (0x7210 + 16 * d) 1 0 == 1 &&
    (fld s (0x7210 + 16 * d) 5 4 == 0 || fld s (0x7210 + 16 * d) 5 4 == e.val + 1)

/-- The announcement an addressed port sends on link gain and on a new address (14 R409): one gratuitous ARP and a
membership report for every group joined. -/
def announceAddress (e : Fin 2) (s : State) : State :=
  if ethOn s e && rd s (ethId e 1) != 0 then
    (joinedGroups s e).foldl (fun s g => ethQueue e s.clk.cycle (.igmpReport g) s)
      (ethQueue e s.clk.cycle (.gratuitousArp (rd s (ethId e 1))) s)
  else s

/-- A link is lost or gained (14 R407, R409, R436). -/
def execEthLinkChange (c : Nat) (e : Fin 2) (up : Bool) (s : State) : Out :=
  let s := advance c s
  if flag s (ethId e 5) 0 == up then .next s else
  let s1 := wrFlag s (ethId e 5) 0 up
  if up then .next (announceAddress e (raise 116 (e.val + 0x8000) s1))
  else .next (raise 116 e.val (sticky s1 (ethId e 6) 0))

/-- Is a frame one that the port accepts (14 R408)? -/
def ethAccepts (s : State) (e : Fin 2) : EthDest → Bool
  | .own => true
  | .arpBroadcast => true
  | .group g => groupJoined s e g.val
  | .ptp => ptpUses s e
  | .other => false

/-- A frame dropped for want of room (14 R408): counted, sticky, and ETH_RX_OVERFLOW once in a block of 100 beats. -/
def ethOverflow (e : Fin 2) (s : State) : State :=
  let s1 := sticky (bump s (ethId e 9) 15 0 1) (ethId e 6) 1
  let blk := s.clk.beat / 100
  if (vget s.eth e).overBlk == some blk then s1
  else raise 117 e.val { s1 with eth := vupd s1.eth e fun p => { p with overBlk := some blk } }

/-- An Ethernet frame arrives (14 R407, R408, R410): a malformed one is discarded and counted, one that no rule accepts
is discarded, a full buffer of 32 drops it, a bad IPv4 or UDP checksum or a fragment to another UDP port drops it,
and any other is accepted and counted. -/
def execEthFrameRx (c : Nat) (e : Fin 2) (f : EthFrame) (s : State) : Out :=
  let s := advance c s
  if !ethOn s e then .next s
  else if decide (1518 < f.length) || f.vlan || !f.fcsOk then .next (bump s (ethId e 9) 15 0 1)
  else if !ethAccepts s e f.dest then .next s
  else if 32 ≤ f.held then .next (ethOverflow e s)
  else if !f.sumsOk then .next (sticky (bump s (ethId e 9) 15 0 1) (ethId e 6) 1)
  else if f.fragOther then .next (bump s (ethId e 9) 15 0 1)
  else .next (bump s (ethId e 7) 31 0 1)

/-- An ARP request for the port's address is answered to its sender (14 R409). -/
def execArpRequest (c : Nat) (e : Fin 2) (target srcIp : Word) (srcMac : BitVec 48) (s : State) : Out :=
  let s := advance c s
  if ethOn s e && rd s (ethId e 1) != 0 && rd s (ethId e 1) == target then
    .next (ethQueue e s.clk.cycle (.arp srcIp srcMac) s)
  else .next s

/-- An ICMP echo request is answered when ANSWER_PING is set and it carries at most 1 472 bytes (14 R409). -/
def execIcmpEcho (c : Nat) (peer : Peer) (target : Word) (data : List Byte) (s : State) : Out :=
  let s := advance c s
  let e := peer.eth
  if ethOn s e && flag s (ethId e 0) 1 && rd s (ethId e 1) != 0 && rd s (ethId e 1) == target &&
      decide (data.length ≤ 1472) then
    .next (ethQueue e s.clk.cycle (.echo peer data) s)
  else .next s

/-- An IGMPv2 query is answered with reports for the groups it asks for (14 R409); none asks for all. -/
def execIgmpQuery (c : Nat) (e : Fin 2) (group : Option (Fin 16)) (s : State) : Out :=
  let s := advance c s
  if !ethOn s e || rd s (ethId e 1) == 0 then .next s else
  let gs := (joinedGroups s e).filter fun g => match group with
    | none => true
    | some x => x.val == g
  .next (gs.foldl (fun s g => ethQueue e s.clk.cycle (.igmpReport g) s) s)

/-- The local time λ at another cycle of the clock (14 R414, R416). -/
def lambdaAt (s : State) (c : Nat) : Int := (s.clk.lambda : Int) + (timeInc s : Int) * ((c : Int) - s.clk.cycle)

/-- Slot time in ns at a cycle of the clock, under the mapping in force (14 R415, R416). -/
def slotNsAt (s : State) (d : Fin 2) (c : Nat) : Int :=
  floorDiv (slotTimeAt (vget s.time.slot d) (lambdaAt s c)) (2 ^ 32)

/-- The frame at the head of a port's queue leaves the MAC (14 R411): counted, and a Delay_Req takes its transmit stamp
in slot time, plus TX_LAT (R419). -/
def execEthFrameTx (c : Nat) (e : Fin 2) (s : State) : Out :=
  let s := advance c s
  match (vget s.eth e).txq with
  | [] => .next s
  | x :: r =>
    let s1 := bump { s with eth := vupd s.eth e fun p => { p with txq := r, sending := !r.isEmpty } } (ethId e 8) 31 0 1
    match x.2 with
    | .delayReq d seq =>
      let t3 := slotNsAt s d s.clk.cycle + (fld s (ethId e 4) 31 16 : Int)
      .next { s1 with time := { s1.time with slot := vupd s1.time.slot d fun t =>
        match t.req with
        | some q => if q.seq = seq then { t with req := some { q with t3 := some t3 } } else t
        | none => t } }
    | _ => .next s1

end Sys2Proof.Machine
end

