-- ==== Sys2Proof/Machine/Reserve.lean ====
section
/-! DEFINITION. The CAN identifiers that the module reserves on each bus, and the test for overlap (13 R539); identifiers
as parameters hold them: the value in bits 28:0, bit 31 set for an extended identifier. -/
namespace Sys2Proof.Machine

/-- An identifier word is well formed: bits 30:29 zero, and a base identifier below 2^11 (13 R405, 09 R294, 05 R166). -/
def canIdOk (w : Word) : Bool :=
  bitsOf w 30 29 == 0 && (bitOf w 31 || bitsOf w 28 11 == 0)

/-- The identifier word of a frame on the wire. -/
def frameIdWord (f : CanFrame) : Word := BitVec.ofNat 32 (f.id.toNat + if f.ext then 2 ^ 31 else 0)

/-- Does a controller receive (13 R383, R388, R392): on its bus, integrated, not bus-off, not fenced? -/
def canHears (s : State) (b : Fin 4) : Bool :=
  let u := vget s.can b
  u.on && !u.integ && !u.busOff && !blockDown s 7 b.val

/-- The identifiers of the enabled CAN reference sources of bus b (05 R144, R166). -/
def reservedSources (r : Regs) (b : Nat) : List Word :=
  (List.range 32).filterMap fun q =>
    let c := regGet r (0x2200 + 8 * q)
    if bitOf c 0 && bitsOf c 5 4 == 2 && bitsOf c 9 8 == b then some (regGet r (0x2201 + 8 * q)) else none

/-- The identifiers reserved on bus b (13 R539). -/
def reservedIds (r : Regs) (b : Nat) : List Word :=
  let thr := regGet r (0x7004 + 64 * b)
  let hb := regGet r (0x7005 + 64 * b)
  let ac := regGet r 0x2480
  ((List.range 12).map fun i => thr + BitVec.ofNat 32 i) ++ ((List.range 2).map fun i => hb + BitVec.ofNat 32 i) ++
    (if bitsOf ac 5 4 = 0 ∧ bitsOf ac 7 6 = b then [regGet r 0x2481] else []) ++ reservedSources r b

/-- No word stands twice in a list. -/
def allDistinct : List Word → Bool
  | [] => true
  | w :: r => !r.contains w && allDistinct r

/-- No two reserved identifiers of any bus overlap (13 R539). -/
def idsDistinct (r : Regs) : Bool := (List.range 4).all fun b => allDistinct (reservedIds r b)

end Sys2Proof.Machine
end

