-- ==== Sys2Proof/Machine/F32.lean ====
section
/-! DEFINITION. binary32 arithmetic of IEEE 754-2019 as the Gumar engine and both lanes use it: rounding to nearest
with ties to even, no other mode (00 R3's table). A result that is not a number is the one quiet NaN 0x7FC0_0000
(DESIGN CHOICE, log 5: the spec does not say which payload a NaN carries). -/
namespace Sys2Proof.Machine

/-- The quiet NaN. -/
def f32NaN : F32 := 0x7FC00000#32

/-- Infinity with a sign. -/
def f32Inf (s : Bool) : F32 := if s then 0xFF800000#32 else 0x7F800000#32

/-- Zero with a sign. -/
def f32Zero (s : Bool) : F32 := if s then 0x80000000#32 else 0#32

/-- The sign bit. -/
def f32Sign (x : F32) : Bool := x.getLsbD 31

/-- The bits of the magnitude. -/
def f32Mag (x : F32) : Nat := x.toNat % 0x80000000

/-- Not a number. -/
def f32IsNaN (x : F32) : Bool := decide (0x7F800000 < f32Mag x)

/-- Plus or minus infinity. -/
def f32IsInf (x : F32) : Bool := f32Mag x == 0x7F800000

/-- A finite number. -/
def f32IsFinite (x : F32) : Bool := decide (f32Mag x < 0x7F800000)

/-- Plus or minus zero. -/
def f32IsZero (x : F32) : Bool := f32Mag x == 0

/-- The integer significand of a finite number. -/
def f32Mant (x : F32) : Nat :=
  if f32Mag x < 0x800000 then f32Mag x else f32Mag x % 0x800000 + 0x800000

/-- The exponent of that significand: the number is the significand times 2 to this. -/
def f32Exp (x : F32) : Int :=
  if f32Mag x < 0x800000 then -149 else ((f32Mag x / 0x800000 : Nat) : Int) - 150

/-- The binary32 number nearest to m times 2 to the e, ties to even; sticky says that the exact value lies a little
above m times 2 to the e (a remainder was dropped). Too large a value gives infinity. -/
def f32Round (s : Bool) (m : Nat) (e : Int) (sticky : Bool) : F32 :=
  if m = 0 then f32Zero s else
  let q : Int := max ((Nat.log2 m : Int) + e - 23) (-149)
  let sh : Int := q - e
  let t : Nat :=
    if sh ≤ 0 then m <<< (-sh).toNat else
    let k := sh.toNat
    let t := m >>> k
    let r := m % 2 ^ k
    let h := 2 ^ (k - 1)
    if h < r ∨ (r = h ∧ (sticky ∨ t % 2 = 1)) then t + 1 else t
  let b := ((q + 149).toNat <<< 23) + t
  if 0x7F800000 ≤ b then f32Inf s else (if s then 0x80000000#32 else 0#32) ||| BitVec.ofNat 32 b

/-- The binary32 number nearest to an integer times 2 to the e. -/
def f32OfDyadic (x e : Int) : F32 := f32Round (decide (x < 0)) x.natAbs e false

/-- The binary32 number nearest to an integer. -/
def f32OfInt (x : Int) : F32 := f32OfDyadic x 0

/-- The binary32 number nearest to x / d. -/
def f32OfRatio (x : Int) (d : Nat) : F32 :=
  let m := x.natAbs <<< 200
  f32Round (decide (x < 0)) (m / d) (-200) (m % d != 0)

/-- The exact integer significand of a finite number, with its sign. -/
def f32Signed (x : F32) : Int := if f32Sign x then -(f32Mant x : Int) else (f32Mant x : Int)

/-- Change of sign. -/
def f32Neg (x : F32) : F32 := x ^^^ 0x80000000#32

/-- Magnitude. -/
def f32Abs (x : F32) : F32 := x &&& 0x7FFFFFFF#32

/-- Sum. -/
def f32Add (x y : F32) : F32 :=
  if f32IsNaN x || f32IsNaN y then f32NaN
  else if f32IsInf x then (if f32IsInf y && (f32Sign x != f32Sign y) then f32NaN else x)
  else if f32IsInf y then y
  else if f32IsZero x && f32IsZero y then f32Zero (f32Sign x && f32Sign y)
  else
    let e := min (f32Exp x) (f32Exp y)
    let m := f32Signed x * (2 ^ (f32Exp x - e).toNat : Nat) + f32Signed y * (2 ^ (f32Exp y - e).toNat : Nat)
    f32OfDyadic m e

/-- Difference. -/
def f32Sub (x y : F32) : F32 := f32Add x (f32Neg y)

/-- Product. -/
def f32Mul (x y : F32) : F32 :=
  let s := f32Sign x != f32Sign y
  if f32IsNaN x || f32IsNaN y then f32NaN
  else if f32IsInf x then (if f32IsZero y then f32NaN else f32Inf s)
  else if f32IsInf y then (if f32IsZero x then f32NaN else f32Inf s)
  else f32Round s (f32Mant x * f32Mant y) (f32Exp x + f32Exp y) false

/-- Quotient. -/
def f32Div (x y : F32) : F32 :=
  let s := f32Sign x != f32Sign y
  if f32IsNaN x || f32IsNaN y then f32NaN
  else if f32IsInf x then (if f32IsInf y then f32NaN else f32Inf s)
  else if f32IsInf y then f32Zero s
  else if f32IsZero y then (if f32IsZero x then f32NaN else f32Inf s)
  else
    let m := f32Mant x <<< 80
    f32Round s (m / f32Mant y) (f32Exp x - f32Exp y - 80) (m % f32Mant y != 0)

/-- Square root. -/
def f32Sqrt (x : F32) : F32 :=
  if f32IsNaN x then f32NaN
  else if f32IsZero x then x
  else if f32Sign x then f32NaN
  else if f32IsInf x then x
  else
    let e := f32Exp x
    let k : Nat := if e % 2 = 0 then 64 else 65
    let m := f32Mant x <<< k
    let r := isqrt m
    f32Round false r ((e - k) / 2) (r * r != m)

/-- The order of non-NaN numbers as an order of integers; both zeros are 0. -/
def f32Key (x : F32) : Int := if f32Sign x then -(f32Mag x : Int) else (f32Mag x : Int)

/-- x < y; false where either is NaN. -/
def f32Lt (x y : F32) : Bool := !f32IsNaN x && !f32IsNaN y && decide (f32Key x < f32Key y)

/-- x ≤ y; false where either is NaN. -/
def f32Le (x y : F32) : Bool := !f32IsNaN x && !f32IsNaN y && decide (f32Key x ≤ f32Key y)

/-- The lesser of two numbers; the first where they do not compare. -/
def f32Min (x y : F32) : F32 := if f32Lt y x then y else x

/-- The greater of two numbers; the first where they do not compare. -/
def f32Max (x y : F32) : F32 := if f32Lt x y then y else x

/-- x held within lo and hi. -/
def f32Clamp (lo hi x : F32) : F32 := f32Min hi (f32Max lo x)

/-- The integer nearest to a finite number times 2 to the k, ties to even; 0 for a number that is not finite. -/
def f32ToIntScaled (x : F32) (k : Int) : Int :=
  if !f32IsFinite x then 0 else
  let e := f32Exp x + k
  if 0 ≤ e then f32Signed x * (2 ^ e.toNat : Nat) else
  let d := 2 ^ (-e).toNat
  let m := f32Mant x
  let q := m / d
  let r := m % d
  let q' := if d < 2 * r ∨ (2 * r = d ∧ q % 2 = 1) then q + 1 else q
  if f32Sign x then -(q' : Int) else (q' : Int)

/-- The integer nearest to a finite number. -/
def f32ToInt (x : F32) : Int := f32ToIntScaled x 0

/-- The largest integer not above a finite number. -/
def f32Floor (x : F32) : Int :=
  if !f32IsFinite x then 0 else
  let e := f32Exp x
  if 0 ≤ e then f32Signed x * (2 ^ e.toNat : Nat) else (f32Signed x).fdiv ((2 ^ (-e).toNat : Nat) : Int)

/-- 1.0. -/
def f32One : F32 := 0x3F800000#32

/-- The sum of a list, from the left, starting at +0. -/
def f32Sum (l : List F32) : F32 := l.foldl f32Add 0#32

/-- x * y + z with two roundings. -/
def f32MulAdd (x y z : F32) : F32 := f32Add (f32Mul x y) z

/-- x squared. -/
def f32Sq (x : F32) : F32 := f32Mul x x

end Sys2Proof.Machine
end

