-- ==== Sys2Proof/Machine/Sentence.lean ====
section
/-! DEFINITION. IEC 61162-1 sentences as intake reads them (05 R145, R146): framing, checksum, fields, and the values of
each accepted formatter. The order of a formatter's fields is that of IEC 61162-1 (PRESUMED, log 14: the manual names
the fields and not their places). -/
namespace Sys2Proof.Machine

/-- π, binary32. -/
def f32Pi : F32 := 0x40490FDB#32

/-- 2π, binary32. -/
def f32TwoPi : F32 := 0x40C90FDB#32

/-- An angle of more than two turns less the whole turns in it; a very large one is brought down in several passes. -/
def fewTurns (x : F32) : F32 :=
  iterN (fun x =>
    if f32IsFinite x && f32Lt (f32Mul (f32OfInt 2) f32TwoPi) (f32Abs x) then
      f32Sub x (f32Mul f32TwoPi (f32OfInt (f32ToInt (f32Div x f32TwoPi))))
    else x) 8 x

/-- An angle onto (−π, π]: whole turns first, then one turn at a time. -/
def wrapPi (x : F32) : F32 :=
  iterN (fun x => if f32Lt f32Pi x then f32Sub x f32TwoPi
    else if f32Le x (f32Neg f32Pi) then f32Add x f32TwoPi else x) 2 (fewTurns x)

/-- An angle onto [0, 2π). -/
def wrapTwoPi (x : F32) : F32 :=
  iterN (fun x => if f32Le f32TwoPi x then f32Sub x f32TwoPi else if f32Lt x 0#32 then f32Add x f32TwoPi else x) 2 (fewTurns x)

/-- The characters of a sentence as numbers, without its CR and LF. -/
def bareLine (l : List Byte) : List Nat := (l.map (·.toNat)).filter (fun c => c != 13 && c != 10)

/-- The value of a hexadecimal digit. -/
def hexVal (c : Nat) : Option Nat :=
  if 48 ≤ c ∧ c ≤ 57 then some (c - 48)
  else if 65 ≤ c ∧ c ≤ 70 then some (c - 55)
  else if 97 ≤ c ∧ c ≤ 102 then some (c - 87) else none

/-- The body between $ or ! and *, and the checksum field; none where a part is absent. -/
def splitLine (l : List Nat) : Option (List Nat × Nat) :=
  match l with
  | [] => none
  | s :: r =>
    if s ≠ 36 ∧ s ≠ 33 then none else
    let body := r.takeWhile (· != 42)
    match r.drop body.length with
    | [42, a, b] => match hexVal a, hexVal b with
      | some x, some y => some (body, 16 * x + y)
      | _, _ => none
    | _ => none

/-- The body of a sentence whose checksum is right (05 R146). -/
def checkedBody (l : List Byte) : Option (List Nat) :=
  match splitLine (bareLine l) with
  | none => none
  | some (b, c) => if b.foldl (· ^^^ ·) 0 = c then some b else none

/-- Split at commas. -/
def splitFields : List Nat → List (List Nat)
  | [] => [[]]
  | c :: r => if c = 44 then [] :: splitFields r else match splitFields r with
    | [] => [[c]]
    | f :: fs => (c :: f) :: fs

/-- Field i of a sentence; field 0 is the address. -/
def fieldOf (f : List (List Nat)) (i : Nat) : List Nat := f.getD i []

/-- A decimal number as an integer over a power of ten. -/
def decDigits : List Nat → Bool → Nat → Nat → Bool → Option (Nat × Nat)
  | [], _, n, d, seen => if seen then some (n, d) else none
  | c :: r, dot, n, d, seen =>
    if c = 46 then (if dot then none else decDigits r true n d seen)
    else if 48 ≤ c ∧ c ≤ 57 then decDigits r dot (10 * n + (c - 48)) (if dot then 10 * d else d) true
    else none

/-- A signed decimal number: numerator and denominator. -/
def decimal (l : List Nat) : Option (Int × Nat) :=
  match l with
  | [] => none
  | c :: r =>
    if c = 45 then (decDigits r false 0 1 false).map fun x => (-(x.1 : Int), x.2)
    else (decDigits l false 0 1 false).map fun x => ((x.1 : Int), x.2)

/-- A decimal field times a ratio, as binary32. -/
def decScaled (l : List Nat) (num den : Nat) : Option F32 :=
  (decimal l).map fun x => f32OfRatio (x.1 * num) (x.2 * den)

/-- Degrees to radians: the degrees as binary32, times π / 180 as binary32. -/
def degRad (x : F32) : F32 := f32Mul x (f32Div f32Pi (f32OfInt 180))

/-- An angle field in degrees, in radians. -/
def angleField (l : List Nat) : Option F32 := (decScaled l 1 1).map degRad

/-- Latitude or longitude ddmm.mm or dddmm.mm with its hemisphere, in 10^-9 degrees. -/
def geoField (l h : List Nat) (neg : Nat) (pos : Nat) : Option Int :=
  match decimal l, h with
  | some (n, d), [c] =>
    if n < 0 ∨ (c ≠ neg ∧ c ≠ pos) then none else
    let deg := n.toNat / (100 * d)
    let min9 := (n.toNat - 100 * d * deg) * 1000000000 / (60 * d)
    let v : Int := ((deg * 1000000000 + min9 : Nat) : Int)
    if 60 * d ≤ n.toNat - 100 * d * deg then none else some (if c = neg then -v else v)
  | _, _ => none

/-- A UTC field hhmmss.ss as ns of the day. -/
def utcField (l : List Nat) : Option Int :=
  match decimal l with
  | some (n, d) =>
    let s := n.toNat / d
    let frac := (n.toNat - s * d) * 1000000000 / d
    let h := s / 10000
    let m := s / 100 % 100
    let x := s % 100
    if n < 0 ∨ 24 ≤ h ∨ 60 ≤ m ∨ 61 ≤ x then none
    else some (((h * 3600 + m * 60 + x) * 1000000000 + frac : Nat) : Int)
  | none => none

/-- What a matched sentence yields: values with the UTC of its field, INVALID, or FORMAT (05 R145, R146). -/
inductive Parsed where
  | values (utc : Option Int) (lat lon : Int) (v1 v2 : F32) (v3 : Option F32)
  | invalid
  | format
deriving DecidableEq, Repr

/-- ASCII of three characters. -/
def fmt3 (a b c : Char) : List Nat := [a.toNat, b.toNat, c.toNat]

/-- One XDR quadruple by name: type, data and unit. -/
def xdrField (name : List Nat) (typ unit : Nat) : List (List Nat) → Option (List Nat)
  | t :: v :: u :: n :: r => if n = name ∧ t = [typ] ∧ u = [unit] then some v else xdrField name typ unit r
  | _ => none

/-- Global positions, GGA and GNS; good: the quality or mode field can be read. -/
def parsePosition (f : List (List Nat)) (bad good : Bool) : Parsed :=
  if bad then .invalid else if !good then .format else
  match geoField (fieldOf f 2) (fieldOf f 3) 83 78, geoField (fieldOf f 4) (fieldOf f 5) 87 69 with
  | some la, some lo =>
    .values (utcField (fieldOf f 1)) la lo 0 0 none
  | _, _ => .format

/-- Headings, HDT and THS. -/
def parseHeading (f : List (List Nat)) (bad : Bool) : Parsed :=
  if bad then .invalid else
  match angleField (fieldOf f 1) with
  | some x => .values none 0 0 (wrapTwoPi x) 0 none
  | none => .format

/-- ROT: degrees per minute, positive to starboard. -/
def parseRot (f : List (List Nat)) : Parsed :=
  if fieldOf f 2 = [86] then .invalid else if fieldOf f 2 ≠ [65] then .format else
  match decScaled (fieldOf f 1) 1 60 with
  | some x => .values none 0 0 (degRad x) 0 none
  | none => .format

/-- XDR with ROLL, PITCH and perhaps HEAVE. -/
def parseXdr (f : List (List Nat)) : Parsed :=
  let q := f.drop 1
  match xdrField [82, 79, 76, 76] 65 68 q, xdrField [80, 73, 84, 67, 72] 65 68 q with
  | some a, some b =>
    match angleField a, angleField b, xdrField [72, 69, 65, 86, 69] 68 77 q with
    | some x, some y, none => .values none 0 0 x y none
    | some x, some y, some h => match decScaled h 1 1 with
      | some z => .values none 0 0 x y (some z)
      | none => .format
    | _, _, _ => .format
  | _, _ => .invalid

/-- MWV: angle, reference, speed, unit, status. -/
def parseMwv (f : List (List Nat)) : Parsed :=
  if fieldOf f 2 = [84] ∨ fieldOf f 5 = [86] then .invalid
  else if fieldOf f 2 ≠ [82] ∨ fieldOf f 5 ≠ [65] then .format else
  let v := match fieldOf f 4 with
    | [75] => decScaled (fieldOf f 3) 10 36
    | [77] => decScaled (fieldOf f 3) 1 1
    | [78] => decScaled (fieldOf f 3) 1852 3600
    | _ => none
  match v, angleField (fieldOf f 1) with
  | some s, some d => .values none 0 0 s (wrapTwoPi d) none
  | _, _ => .format

/-- TTM: number, distance, bearing, its reference, units, status and UTC. -/
def parseTtm (f : List (List Nat)) : Parsed :=
  if fieldOf f 4 = [84] ∨ fieldOf f 12 ≠ [84] then .invalid else if fieldOf f 4 ≠ [82] then .format else
  let v := match fieldOf f 10 with
    | [75] => decScaled (fieldOf f 2) 1000 1
    | [78] => decScaled (fieldOf f 2) 1852 1
    | [83] => decScaled (fieldOf f 2) 1609344 1000
    | _ => none
  match v, angleField (fieldOf f 3) with
  | some r, some b =>
    .values (utcField (fieldOf f 14)) 0 0 r (wrapPi b) none
  | _, _ => .format

/-- The values of a sentence by its formatter; a formatter that no row of 05 R145 names is FORMAT. -/
def parseSentence (fmt : List Nat) (f : List (List Nat)) : Parsed :=
  if fmt = fmt3 'G' 'G' 'A' then parsePosition f (fieldOf f 6 == [48]) (decimal (fieldOf f 6)).isSome
  else if fmt = fmt3 'G' 'N' 'S' then parsePosition f (!(fieldOf f 6).isEmpty && (fieldOf f 6).all (· == 78)) (!(fieldOf f 6).isEmpty)
  else if fmt = fmt3 'H' 'D' 'T' then parseHeading f ((fieldOf f 1).isEmpty)
  else if fmt = fmt3 'T' 'H' 'S' then parseHeading f (fieldOf f 2 != [65])
  else if fmt = fmt3 'R' 'O' 'T' then parseRot f
  else if fmt = fmt3 'X' 'D' 'R' then parseXdr f
  else if fmt = fmt3 'M' 'W' 'V' then parseMwv f
  else if fmt = fmt3 'T' 'T' 'M' then parseTtm f
  else .format

/-- The kind a formatter delivers (05 R145); 0 for another formatter. -/
def kindOfFmt (fmt : List Nat) : Nat :=
  if fmt = fmt3 'G' 'G' 'A' ∨ fmt = fmt3 'G' 'N' 'S' then 1
  else if fmt = fmt3 'T' 'T' 'M' then 2
  else if fmt = fmt3 'H' 'D' 'T' ∨ fmt = fmt3 'T' 'H' 'S' then 3
  else if fmt = fmt3 'R' 'O' 'T' then 4
  else if fmt = fmt3 'X' 'D' 'R' then 5
  else if fmt = fmt3 'M' 'W' 'V' then 6 else 0

end Sys2Proof.Machine
end

