-- ==== Sys2Proof/Machine/Intake.lean ====
section
/-! DEFINITION. Reference intake (05): messages matched to sources and made into records, the latch, alignment to loft
slots, source states, the RS-422 ports, and the intake opcodes. -/
namespace Sys2Proof.Machine

/-! ### Stamps -/

/-- R in ns at a stamp of the counter, under the mapping in force (14 R416, R424). -/
def rNsAt (s : State) (c : Int) : Int :=
  let l : Int := (s.clk.lambda : Int) + (timeInc s : Int) * (c - s.clk.cycle)
  floorDiv (slotTimeAt (vget s.time.slot s.time.active) l + sigmaNow s) (2 ^ 32)

/-- The counter stamp at which R reads r ns (05 R152: converted through the selected domain). -/
def counterAt (s : State) (r : Int) : Int :=
  let rate : Nat := (2 ^ 40 + (vget s.time.slot s.time.active).rate).toNat
  (s.clk.cycle : Int) + floorDiv ((r * nsOne - reported s) * 2 ^ 40) (timeInc s * rate)
where
  /-- 1 ns in 2^-32 ns. -/
  nsOne : Int := 2 ^ 32

/-- An instant nearest the arrival of which only the residue modulo m ns is known (05 R152, R153). -/
def nearestInstant (arrivalNs residue : Int) (m : Nat) : Int :=
  let d := (residue - arrivalNs) % (m : Int)
  arrivalNs + (if (m : Int) ≤ 2 * d then d - m else d)

/-! ### Source settings -/

/-- The configuration fields of a source (05 R166). -/
structure SrcCfg where
  kind  : Nat
  trans : Nat
  port  : Nat
  mtch  : Word
  talk  : Nat
  stamp : Nat
  extrap : Nat
  lat   : Nat
  loss  : Nat
  s1    : Nat
  s2    : Nat
  lx    : Nat
  ly    : Nat
  lz    : Nat
  span  : Nat
  s3    : Nat
  mount : Nat
  win   : Nat
  tol   : Nat
deriving DecidableEq, Repr

/-- The identifier of parameter off of source q (05 R170). -/
def srcId (q off : Nat) : Nat := 0x2200 + 8 * q + off

/-- The configuration of a source in a register file. -/
def srcCfg (r : Regs) (q : Nat) : SrcCfg :=
  let w (i : Nat) : Word := regGet r (srcId q i)
  ⟨bitsOf (w 0) 3 1, bitsOf (w 0) 5 4, bitsOf (w 0) 9 8, w 1, bitsOf (w 0) 31 16, bitsOf (w 0) 7 6, bitsOf (w 0) 10 10,
    bitsOf (w 2) 15 0, bitsOf (w 2) 25 16, bitsOf (w 3) 15 0, bitsOf (w 3) 31 16, bitsOf (w 4) 15 0, bitsOf (w 4) 31 16,
    bitsOf (w 5) 15 0, bitsOf (w 5) 31 16, bitsOf (w 6) 15 0, bitsOf (w 6) 31 16, bitsOf (w 7) 15 0, bitsOf (w 7) 31 16⟩

/-- Store a configuration, ENABLE unchanged. -/
def storeCfg (q : Nat) (x : SrcCfg) (s : State) : State :=
  let c := putBits (putBits (putBits (putBits (putBits (putBits (rd s (srcId q 0)) 3 1 x.kind) 5 4 x.trans) 7 6 x.stamp)
    9 8 x.port) 10 10 x.extrap) 31 16 x.talk
  wrAll s [(srcId q 0, c), (srcId q 1, x.mtch), (srcId q 2, putBits (putBits 0 15 0 x.lat) 25 16 x.loss),
    (srcId q 3, putBits (putBits 0 15 0 x.s1) 31 16 x.s2), (srcId q 4, putBits (putBits 0 15 0 x.lx) 31 16 x.ly),
    (srcId q 5, putBits (putBits 0 15 0 x.lz) 31 16 x.span), (srcId q 6, putBits (putBits 0 15 0 x.s3) 31 16 x.mount),
    (srcId q 7, putBits (putBits 0 15 0 x.win) 31 16 x.tol)]

/-- The formatter of a MATCH field (05 R166: ASCII in bytes 4 to 6). -/
def fmtOf (m : Word) : List Nat := [bitsOf m 7 0, bitsOf m 15 8, bitsOf m 23 16]

/-- Does a kind use SIGMA2 (05 R143)? -/
def usesSigma2 (k : Nat) : Bool := k == 2 || k == 5 || k == 6

/-- A formatter with a UTC field (05 R145). -/
def hasUtc (f : List Nat) : Bool := f == fmt3 'G' 'G' 'A' || f == fmt3 'G' 'N' 'S' || f == fmt3 'T' 'T' 'M'

/-- The combinations of STAMP and transport that 05 R152 allows. -/
def stampAllowed (x : SrcCfg) : Bool :=
  match x.stamp with
  | 0 => decide (x.trans ≤ 2)
  | 1 => decide (x.trans ≤ 1) && hasUtc (fmtOf x.mtch)
  | 2 => x.trans == 2
  | _ => x.trans == 3

/-- Is MATCH well formed for the transport (05 R166)? The bytes of a formatter and of TALKER are not held to ASCII letters: a formatter that
no sentence can have matches none (DESIGN CHOICE, log 15: the manual names no check of them). -/
def matchOk (x : SrcCfg) : Bool :=
  if x.trans = 3 then x.mtch == 0
  else if x.trans = 2 then canIdOk x.mtch
  else if fmtOf x.mtch = fmt3 'T' 'T' 'M' then decide (bitsOf x.mtch 31 24 ≤ 99) else bitsOf x.mtch 31 24 == 0

/-- The fields that sources 0 to 2 hold fixed, KIND, TRANSPORT, PORT and STAMP (05 R167, R170). -/
def fixedOk (q : Nat) (x : SrcCfg) : Bool × Bool × Bool × Bool :=
  if q ≤ 2 then (x.kind == (if q = 2 then 3 else 1), x.trans == 3, x.port == q, x.stamp == 3)
  else (true, decide (x.trans ≤ 2), decide (x.port ≤ if x.trans = 1 then 2 else 3), x.stamp != 3)

/-- The checks of REF_CONFIG bytes 0 to 39, by byte offset (05 R166, R167). -/
def cfgChecks (q : Nat) (x : SrcCfg) : List (Bool × Nat) :=
  let f := fixedOk q x
  [(decide (1 ≤ x.kind) && decide (x.kind ≤ 6) && f.1, 1), (f.2.1, 2), (f.2.2.1, 3), (matchOk x, 4),
    (x.talk == 0 || decide (x.trans ≤ 1), 8), (f.2.2.2 && stampAllowed x, 10), (decide (x.extrap ≤ 1), 11),
    (decide (x.lat ≤ 50000) && (x.lat == 0 || x.stamp == 0), 12), (decide (1 ≤ x.loss) && decide (x.loss ≤ 1000), 14),
    (decide (1 ≤ x.s1), 16), (usesSigma2 x.kind == decide (1 ≤ x.s2), 18),
    (decide (10 ≤ x.span) && decide (x.span ≤ 2000), 26)]

/-- The checks of the expert fields. -/
def expertCfgChecks (x : SrcCfg) : List (Bool × Nat) :=
  [((x.kind == 5) == decide (1 ≤ x.s3), 32),
    (decide ((signedOf 16 x.mount).natAbs ≤ 31416) && (x.mount == 0 || x.kind == 2 || x.kind == 6), 34),
    (decide (10 ≤ x.win) && decide (x.win ≤ 10000), 36), (decide (x.tol ≤ 10000), 38)]

/-- Is the value of a source parameter within its range (05 R167, R170)? The same bounds hold as for the REF_CONFIG fields of the same
names; KIND 0 is an unconfigured source. -/
def srcParamOk (r : Regs) (q off : Nat) : Bool :=
  let x := srcCfg r q
  let f := fixedOk q x
  match off with
  | 0 => decide (x.kind ≤ 6) && f.1 && f.2.1 && f.2.2.1 && f.2.2.2 &&
      (q ≤ 2 || x.kind == 0 || stampAllowed x) && (x.talk == 0 || decide (x.trans ≤ 1))
  | 1 => matchOk x
  | 2 => decide (x.lat ≤ 50000) && (x.lat == 0 || x.stamp == 0) && decide (1 ≤ x.loss) && decide (x.loss ≤ 1000)
  | 3 => decide (1 ≤ x.s1) && usesSigma2 x.kind == decide (1 ≤ x.s2)
  | 5 => decide (10 ≤ x.span) && decide (x.span ≤ 2000)
  | 6 => (x.kind == 5) == decide (1 ≤ x.s3) && decide ((signedOf 16 x.mount).natAbs ≤ 31416) &&
      (x.mount == 0 || x.kind == 2 || x.kind == 6)
  | 7 => decide (10 ≤ x.win) && decide (x.win ≤ 10000) && decide (x.tol ≤ 10000)
  | _ => true

/-- Does a configured source lack a σ that its kind needs (05 R168)? -/
def sigmaMissing (x : SrcCfg) : Bool :=
  x.s1 == 0 || (usesSigma2 x.kind && x.s2 == 0) || (x.kind == 5 && x.s3 == 0)

/-- May source q be enabled, with its settings and the others' as they stand in a register file (05 R168)? -/
def enableOk (r : Regs) (q : Nat) : Bool :=
  let x := srcCfg r q
  let twin (p : Nat) : Bool :=
    let y := srcCfg r p
    p != q && bitOf (regGet r (srcId p 0)) 0 && y.trans == x.trans && y.port == x.port && y.mtch == x.mtch && y.talk == x.talk
  x.kind != 0 && !sigmaMissing x && !(List.range 32).any twin && (x.trans != 2 || idsDistinct r)

/-! ### Records -/

/-- Change the intake of source q. -/
def updSrc (q : Nat) (f : SrcUnit → SrcUnit) (s : State) : State := { s with src := vupdN s.src q f }

/-- Intake of source q. -/
def srcUnit (s : State) (q : Nat) : SrcUnit := vgetD s.src q (vget s.src 0)

/-- A reject of source q, counted at the next summary (05 R146, R149, R157). -/
def rejectRec (q : Nat) (x : Reject) (s : State) : State := updSrc q (fun u => { u with pend := u.pend ++ [x] }) s

/-- A record becomes available (05 R154, R155): a fourth drops the earliest and counts OVERRUN. -/
def acceptRec (q : Nat) (r : SampleRec) (s : State) : State :=
  updSrc q (fun u =>
    if 3 ≤ u.buf.length then { u with buf := u.buf.drop 1 ++ [r], pend := u.pend ++ [.overrun] }
    else { u with buf := u.buf ++ [r] }) s

/-- The enabled source that a sentence of one of the eight formatters matches (05 R145, R146): equal transport, port, formatter, target
number for TTM; one that names the talker before one that names none. Where several fit (an Ethernet source with PORT 0 and one with the
sentence's own port), the one of the lowest number takes it (DESIGN CHOICE, log 15). -/
def matchSource (s : State) (trans : Nat) (portOk : Nat → Bool) (talk : Nat) (fmt : List Nat) (target : Option Nat) :
    Option Nat :=
  let fits (q : Nat) (tk : Nat) : Bool :=
    let x := srcCfg s.regs q
    bitOf (rd s (srcId q 0)) 0 && x.trans == trans && portOk x.port && fmtOf x.mtch == fmt && x.talk == tk &&
      (match target with
       | some n => bitsOf x.mtch 31 24 == n
       | none => true)
  if kindOfFmt fmt = 0 then none else
  match (List.range 32).find? (fun q => fits q talk) with
  | some q => some q
  | none => (List.range 32).find? (fun q => fits q 0)

/-- Talker, formatter and fields of a sentence body, and the target number of a TTM; where that field cannot be read, none, and the sentence
matches the first TTM source of its port and talker, where it counts as FORMAT (DESIGN CHOICE, log 15). -/
def sentenceParts (b : List Nat) : Nat × List Nat × List (List Nat) × Option Nat :=
  let f := splitFields b
  let a := fieldOf f 0
  let fmt := (a.drop 2).take 3
  let tgt := if fmt = fmt3 'T' 'T' 'M' then (decimal (fieldOf f 1)).map (fun x => x.1.toNat / x.2) else none
  (a.getD 0 0 + 256 * a.getD 1 0, fmt, f, tgt)

/-- What a matched sentence yields (05 R146, R151, R152): a record, or FORMAT or INVALID. A formatter of another kind than the source's KIND is
FORMAT, and so is a UTC field that cannot be read where STAMP is 1, although method 0 replaces it while TIME_Q reads 2 or 3 (DESIGN CHOICE,
log 15). -/
def sentenceRecord (q : Nat) (fmt : List Nat) (f : List (List Nat)) (arrival : Int) (s : State) : Except Reject SampleRec :=
  let x := srcCfg s.regs q
  if kindOfFmt fmt ≠ x.kind then .error .format else
  match parseSentence fmt f with
  | .format => .error .format
  | .invalid => .error .invalid
  | .values utc lat lon v1 v2 v3 =>
    if x.stamp = 1 ∧ utc.isNone then .error .format else
    let m := match utc with
      | none => none
      | some u =>
        let a := rNsAt s arrival
        some (counterAt s (nearestInstant a (u + s.time.utc * 1000000000) 86400000000000))
    .ok ⟨s.clk.cycle, arrival, if x.stamp = 1 then m else none, lat, lon, v1, v2, v3⟩

/-- A matched sentence becomes a record, or is counted (05 R146). -/
def takeRecord (q : Nat) (r : Except Reject SampleRec) (s : State) : State :=
  match r with
  | .ok x => acceptRec q x s
  | .error e => rejectRec q e s

/-- An identifier of RS-422 port p (05 R171). -/
def serId (p : Fin 4) (off : Nat) : Nat := 0x7300 + 16 * p.val + off

/-- The present block of 100 beats (05 R165, and the other chapters' blocks). -/
def block100 (s : State) : Nat := s.clk.beat / 100

/-- A sentence discarded at an RS-422 port (05 R146, R165, R171): a sticky bit, a counter, and SERIAL_FAULT once in a
block. -/
def serialDiscard (p : Fin 4) (bit off : Nat) (s : State) : State :=
  let s1 := sticky (bump s (serId p off) 15 0 1) (serId p 1) bit
  if (vget s.ser p).faultBlk == some (block100 s) then s1
  else raise 35 p.val { s1 with ser := vupd s1.ser p fun u => { u with faultBlk := some (block100 s) } }

/-- A sentence ends with its LF on an RS-422 port (05 R146, R151, R154). arrival: the crossing edge of its first start
bit; framing: one of its characters had a framing error. A sentence that several conditions discard is counted once, as a framing error
before an overlong one, and that before a checksum failure; SER_FRAMING_COUNT counts one for each sentence discarded so, however many of its
characters were at fault (DESIGN CHOICE, log 15). -/
def execSerialSentence (c : Nat) (arrival : Nat) (port : Fin 4) (chars : List Byte) (framing : Bool) (s : State) : Out :=
  let s := advance c s
  if !flag s (serId port 0) 2 || blockDown s 7 (6 + port.val) then .next s
  else if framing then .next (serialDiscard port 0 2 s)
  else if 82 < chars.length then .next (serialDiscard port 2 5 s)
  else match checkedBody chars with
    | none => .next (serialDiscard port 1 3 s)
    | some b =>
      let t := sentenceParts b
      match matchSource s 0 (· == port.val) t.1 t.2.1 t.2.2.2 with
      | none => .next (sticky (bump s (serId port 4) 15 0 1) (serId port 1) 3)
      | some q => .next (takeRecord q (sentenceRecord q t.2.1 t.2.2.1 arrival s) s)

/-- A UdPbC line without its tag block (05 R147). -/
def stripTag (l : List Byte) : List Byte :=
  match l with
  | [] => []
  | b :: r => if b.toNat = 92 then ((r.dropWhile (fun x => x.toNat != 92)).drop 1) else l

/-- A sentence of a UdPbC datagram on an enabled group (05 R147): discarded, unmatched, DUPLICATE, or handled as on a
serial port. stamp: the counter value of the frame's receive stamp. The manual names no counter for a sentence that is
discarded or unmatched on Ethernet. -/
def execUdpbcSentence (c : Nat) (stamp : Nat) (eth : Fin 2) (group : Fin 16) (line : List Byte) (s : State) : Out :=
  let s := advance c s
  let l := stripTag line
  if !ethOn s eth || !groupJoined s eth group.val || decide (82 < l.length) then .next s else
  match checkedBody l with
  | none => .next s
  | some b =>
    let t := sentenceParts b
    match matchSource s 1 (fun p => p == 0 || p == eth.val + 1) t.1 t.2.1 t.2.2.2 with
    | none => .next s
    | some q =>
      let u := srcUnit s q
      let near := u.lines.filter fun x => decide (s.clk.cycle < x.2.1 + 5000000)
      if (srcCfg s.regs q).port = 0 ∧ near.any (fun x => x.1 != eth && x.2.2 == l) then .next (rejectRec q .duplicate s)
      else
        let r := sentenceRecord q t.2.1 t.2.2.1 stamp s
        let more := match r with
          | .ok _ => [(eth, s.clk.cycle, l)]
          | .error _ => []
        .next (takeRecord q r (updSrc q (fun u => { u with lines := near ++ more }) s))

/-- A Porene reference frame's value field as binary32, from 10^-k units. -/
def frameVal (p : List Byte) (o d : Nat) : F32 := f32OfRatio (signedOf 32 (leAt p o 4)) d

/-- The values of a reference frame by kind (05 R148). -/
def frameRec (k : Nat) (p : List Byte) : Int × Int × F32 × F32 × Option F32 :=
  match k with
  | 1 => (100 * signedOf 32 (leAt p 8 4), 100 * signedOf 32 (leAt p 12 4), 0, 0, none)
  | 2 => (0, 0, frameVal p 8 1000, wrapPi (frameVal p 12 1000000), none)
  | 3 => (0, 0, wrapTwoPi (frameVal p 8 1000000), 0, none)
  | 4 => (0, 0, frameVal p 8 1000000, 0, none)
  | 5 => (0, 0, frameVal p 8 1000000, frameVal p 12 1000000,
      if byteAt p 1 / 4 % 2 = 1 then some (frameVal p 16 1000) else none)
  | _ => (0, 0, frameVal p 12 1000, wrapTwoPi (frameVal p 8 1000000), none)

/-- A frame on a reference source's identifier (05 R148, R149, R151, R152). sof: the crossing edge of its start-of-frame
bit. -/
def execCanReferenceFrame (c : Nat) (sof : Nat) (bus : Fin 4) (f : CanFrame) (s : State) : Out :=
  let s := advance c s
  if !canHears s bus || f.remote then .next s else
  match (List.range 32).find? (fun q =>
      let x := srcCfg s.regs q
      bitOf (rd s (srcId q 0)) 0 && x.trans == 2 && x.port == bus.val && x.mtch == frameIdWord f) with
  | none => .next s
  | some q =>
    let x := srcCfg s.regs q
    let p := f.data
    if !f.fd || p.length != 20 || byteAt p 0 != x.kind || byteAt p 1 / 8 != 0 then .next (rejectRec q .format s)
    else if byteAt p 1 % 2 = 0 then .next (rejectRec q .invalid s)
    else if (srcUnit s q).counter == some (leAt p 2 2) then .next (rejectRec q .duplicate s)
    else
      let v := frameRec x.kind p
      let m := if x.stamp = 2 ∧ byteAt p 1 / 2 % 2 = 1 then
          let a := rNsAt s sof
          some (counterAt s (nearestInstant a (leAt p 4 4) (2 ^ 32)))
        else none
      .next (acceptRec q ⟨s.clk.cycle, sof, m, v.1, v.2.1, v.2.2.1, v.2.2.2.1, v.2.2.2.2⟩
        (updSrc q (fun u => { u with counter := some (leAt p 2 2) }) s))

/-- Records of the internal sources 0 to 2 at the epoch crossing edge (05 R151, 07 R215). -/
def acceptInternal (q : Nat) (r : SampleRec) (s : State) : State :=
  if flag s (srcId q 0) 0 then acceptRec q r s else s

/-! ### Latch and alignment -/

/-- Is what carries the source fenced (05 R163)? A source with PORT 0 on Ethernet has two carriers, and is fenced when both are (DESIGN CHOICE,
log 15). For sources 0 to 2 it is the navigation processor, block 6 of PD4 (07 R228). -/
def carrierFenced (s : State) (x : SrcCfg) : Bool :=
  match x.trans with
  | 0 => blockDown s 7 (6 + x.port)
  | 1 => if x.port = 0 then blockDown s 7 4 && blockDown s 7 5 else blockDown s 7 (3 + x.port)
  | 2 => blockDown s 7 x.port
  | _ => blockDown s 4 6

/-- The sample latch (05 R154, R156, R168): records available before the beat edge are frozen; those of a source that is
not enabled are void. A fence of what carries a source is taken for the summary of the beat that begins (R163). -/
def latchSources (edge : Nat) (s : State) : State :=
  { s with src := Vector.ofFn fun q =>
      let u := vget s.src q
      let u := { u with cut := carrierFenced s (srcCfg s.regs q.val) }
      if flag s (srcId q.val 0) 0 then
        { u with
          image := u.buf.filter (fun r => decide (r.avail < edge))
          buf := u.buf.filter (fun r => !decide (r.avail < edge)), rejects := u.pend, pend := [] }
      else { u with image := [], buf := [], rejects := [], pend := [] } }

/-- Insert by stamp. -/
def keptInsert (k : KeptSample) : List KeptSample → List KeptSample
  | [] => [k]
  | x :: r => if k.stamp < x.stamp then k :: x :: r else x :: keptInsert k r

/-- The σ of the three values of a kind (05 R143). -/
def sigmasOf (x : SrcCfg) : F32 × F32 × F32 :=
  let mm (n : Nat) : F32 := f32OfRatio n 1000
  let e5 (n : Nat) : F32 := f32OfRatio n 100000
  match x.kind with
  | 1 => (mm x.s1, mm x.s1, 0)
  | 2 => (mm x.s1, e5 x.s2, 0)
  | 3 => (e5 x.s1, 0, 0)
  | 4 => (f32OfRatio x.s1 1000000, 0, 0)
  | 5 => (e5 x.s1, e5 x.s1, mm x.s3)
  | _ => (mm x.s1, e5 x.s2, 0)

/-- b − a of component i of a kind, angles on the shortest arc (05 R160). -/
def valueDiff (kind i : Nat) (b a : F32) : F32 :=
  let d := f32Sub b a
  let angle := (kind == 2 && i == 2) || (kind == 3 && i == 1) || (kind == 5 && decide (i ≤ 2)) || (kind == 6 && i == 2)
  if angle then wrapPi d else d

/-- Component i of a kind wrapped to the range of 05 R143. -/
def valueWrap (kind i : Nat) (v : F32) : F32 :=
  if (kind == 2 && i == 2) || (kind == 5 && decide (i ≤ 2)) then wrapPi v
  else if (kind == 3 && i == 1) || (kind == 6 && i == 2) then wrapTwoPi v else v

/-- The loft slot of a stamp as beats before the present one (05 R158). -/
def backOf (edge : Nat) (stamp : Int) : Nat :=
  if (edge : Int) < stamp then 0 else (((edge : Int) - stamp) / 1000000).toNat

/-- v + k (b − a) for each value of a sample, wrapped. -/
def alignVals (kind : Nat) (k : F32) (v b a : KeptSample) : F32 × F32 × Option F32 :=
  let one (i : Nat) (v b a : F32) : F32 := valueWrap kind i (f32Add v (f32Mul k (valueDiff kind i b a)))
  (one 1 v.v1 b.v1 a.v1, one 2 v.v2 b.v2 a.v2,
    match v.v3, b.v3, a.v3 with
    | some z, some y, some x => some (one 3 z y x)
    | z, _, _ => z)

/-- Align one record to the instant t (05 R159): the values, the factor of their variances, and the method code. A record that is
itself the first one later than t has no partner to interpolate with (DEDUCED, log 15). -/
def alignOne (x : SrcCfg) (t : Int) (later earlier : Option KeptSample) (r : KeptSample) :
    (F32 × F32 × Option F32) × F32 × Nat :=
  let span : Int := 100000 * x.span
  let hold := (((r.v1, r.v2, r.v3), f32One, 1) : (F32 × F32 × Option F32) × F32 × Nat)
  let viaEarlier := match earlier with
    | none => hold
    | some a =>
      if x.extrap = 1 ∧ r.stamp - a.stamp ≤ span then
        let e := f32OfRatio (t - r.stamp) (r.stamp - a.stamp).toNat
        let g := f32Add f32One e
        (alignVals x.kind e r r a, f32Add (f32Mul g g) (f32Mul e e), 0)
      else hold
  match later with
  | none => viaEarlier
  | some b =>
    if b.stamp - r.stamp ≤ span ∧ r.stamp ≠ b.stamp then
      let u := f32OfRatio ((t - r.stamp) * (b.stamp - r.stamp).sign) (b.stamp - r.stamp).natAbs
      let g := f32Sub f32One u
      (alignVals x.kind u r b r, f32Add (f32Mul g g) (f32Mul u u), 2)
    else viaEarlier

/-- The measurement standing in a loft slot, as beats before the present one. -/
def slotMeas (s : State) (back q : Nat) : Option Meas :=
  if back = 0 then vgetD s.fus.cur.meas q none
  else vgetD (vgetD s.fus.loft ((s.clk.beat + 2 ^ 32 - back) % 64) LoftSlot.empty).meas q none

/-- Put a measurement into a loft slot; nothing has judged it there yet (06 R185). -/
def putMeas (back q : Nat) (m : Option Meas) (s : State) : State :=
  let set (l : LoftSlot) : LoftSlot := { l with
    meas := vupdN l.meas q (fun _ => m), passed := l.passed.set q false, free := l.free.filter (· != q) }
  if back = 0 then { s with fus := { s.fus with cur := set s.fus.cur } }
  else { s with fus := { s.fus with loft := vupdN s.fus.loft ((s.clk.beat + 2 ^ 32 - back) % 64) set } }

/-- Change the counters of a source. -/
def updCount (q : Nat) (f : SrcCount → SrcCount) (s : State) : State :=
  updSrc q (fun u => { u with count := f u.count }) s

/-- Count a reject (05 R169). -/
def countReject (x : Reject) (c : SrcCount) : SrcCount :=
  match x with
  | .format => { c with format := satAdd 16 c.format 1 }
  | .invalid => { c with invalid := satAdd 16 c.invalid 1 }
  | .overrun => { c with overrun := satAdd 16 c.overrun 1 }
  | .stampReject => { c with stampRej := satAdd 16 c.stampRej 1 }
  | .windowDiscard => { c with window := satAdd 16 c.window 1 }
  | .duplicate => { c with dup := satAdd 16 c.dup 1 }

/-- Place an aligned measurement of a source (05 R161): the older of two counts SUPERSEDED. -/
def placeMeas (q back : Nat) (m : Meas) (s : State) : State :=
  let sup (s : State) : State := updCount q (fun c => { c with supers := satAdd 16 c.supers 1 }) s
  let put (s : State) : State :=
    let s1 := putMeas back q (some m) s
    { s1 with fus := { s1.fus with
        news := s1.fus.news.filter (fun n => !(n.meas.src == q && n.back == back)) ++ [⟨m, back, none, 0, 0⟩] } }
  match slotMeas s back q with
  | none => put s
  | some old => if old.stamp < m.stamp then put (sup s) else sup s

/-- The source stamp of a record with what R153 counts for it: the stamp, whether method 0 was substituted, and whether the
stamp is rejected. -/
def stampOf (s : State) (x : SrcCfg) (r : SampleRec) : Int × Bool × Bool :=
  let plain := r.arrival - (1000 * x.lat : Nat)
  if x.stamp = 1 ∨ x.stamp = 2 then
    match (if 2 ≤ timeQ s then none else r.msg) with
    | none => (plain, true, false)
    | some m => (m, false, decide (m < r.arrival - (100000 * x.win : Nat)) || decide (r.arrival + (100 * x.tol : Nat) < m))
  else if x.stamp = 0 then (plain, false, false)
  else (r.arrival, false, false)

/-- The working origin in the beat's snapshot: valid, latitude and longitude in 10^-7 degrees (06 R198). -/
def originOf (s : State) : Bool × Int × Int :=
  (sflag s 0x2303 0, signedOf 32 (srd s 0x2301).toNat, signedOf 32 (srd s 0x2302).toNat)

/-- The nearest 10^-7 degree to a number of 10^-9 degrees. -/
def deg7 (x : Int) : Int := roundDiv x 100

/-- Set the working origin from the first kind 1 record to reach intake (06 R198). -/
def autoOrigin (lat lon : Int) (s : State) : State :=
  let l := [(0x2301, BitVec.ofNat 32 (twosOf 32 (deg7 lat))), (0x2302, BitVec.ofNat 32 (twosOf 32 (deg7 lon))),
    (0x2303, setBit (rd s 0x2303) 0)]
  let s1 := wrAll s l
  raise 44 0 { s1 with snap := l.foldl (fun r x => regSet r x.1 x.2) s1.snap }

/-- Convert a record's values for alignment (05 R160); none: the position is FORMAT. -/
def convertRec (s : State) (x : SrcCfg) (r : SampleRec) : Option (F32 × F32 × Option F32) :=
  let mount := f32OfRatio (signedOf 16 x.mount) 10000
  match x.kind with
  | 1 =>
    let o := originOf s
    if !o.1 then none else
    let d := Config.localOffset (100 * o.2.1) (100 * o.2.2) r.lat r.lon
    if 100000000000 < (d.1.natAbs : Int) ∨ 100000000000 < (d.2.natAbs : Int) then none
    else some (f32OfRatio d.1 1000000, f32OfRatio d.2 1000000, none)
  | 2 => some (r.v1, wrapPi (f32Add r.v2 mount), none)
  | 6 => some (r.v1, wrapTwoPi (f32Add r.v2 mount), none)
  | _ => some (r.v1, r.v2, r.v3)

/-- The next sample of a latch, converted and stamped. -/
structure ReadySample where
  smp : SampleRec
  kept : KeptSample
  sub : Bool

/-- Stamp and convert the records of a source's image, in order of availability (05 R153, R160, 06 R198): the samples in
ascending stamp order, and the state with what was counted. -/
def readySamples (q : Nat) (x : SrcCfg) : List SampleRec → State → List ReadySample × State
  | [], s => ([], s)
  | r :: rs, s =>
    let t := stampOf s x r
    let s1 := if t.2.1 then updCount q (fun c => { c with fallback := satAdd 16 c.fallback 1 }) s else s
    if t.2.2 then readySamples q x rs (updSrc q (fun u => { u with rejects := u.rejects ++ [.stampReject] }) s1) else
    let s2 := if x.kind = 1 ∧ !(originOf s1).1 ∧ sflag s1 0x2300 8 then autoOrigin r.lat r.lon s1 else s1
    match convertRec s2 x r with
    | none => readySamples q x rs (updSrc q (fun u => { u with rejects := u.rejects ++ [.format] }) s2)
    | some v =>
      let k : KeptSample := ⟨t.1, v.1, v.2.1, v.2.2⟩
      let z := readySamples q x rs s2
      (readyInsert ⟨r, k, t.2.1⟩ z.1, z.2)
where
  /-- Insert by stamp. -/
  readyInsert (k : ReadySample) : List ReadySample → List ReadySample
    | [] => [k]
    | x :: r => if k.kept.stamp ≤ x.kept.stamp then k :: x :: r else x :: readyInsert k r

/-- Align and place one sample (05 R158, R159): whether it was accepted, with the new state. -/
def alignSample (q : Nat) (x : SrcCfg) (all : List ReadySample) (r : ReadySample) (s : State) : Bool × State :=
  let edge := s.clk.beatBase
  let u := srcUnit s q
  let back := backOf edge r.kept.stamp
  let s := updCount q (fun c => { c with maxAge := max c.maxAge ((edge : Int) - r.kept.stamp).toNat }) s
  if sfld s 0x2300 6 0 < back then
    (false, updSrc q (fun u => { u with rejects := u.rejects ++ [.windowDiscard] }) s)
  else if u.kept.any (fun k => k.stamp == r.kept.stamp) then
    (false, updSrc q (fun u => { u with rejects := u.rejects ++ [.duplicate] }) s)
  else
    let t : Int := (edge : Int) - (1000000 * back : Nat)
    let later := (all.find? (fun z => decide (t < z.kept.stamp))).map (·.kept)
    let earlier := (u.kept.filter (fun k => decide (k.stamp < r.kept.stamp))).getLast?
    let a := alignOne x t later earlier r.kept
    let sg := sigmasOf x
    let root (sd : F32) : F32 := f32Sqrt (f32Mul (f32Mul sd sd) a.2.1)
    let m : Meas := ⟨q, x.kind, a.1.1, a.1.2.1, a.1.2.2, root sg.1, root sg.2.1, root sg.2.2,
      signedOf 16 x.lx, signedOf 16 x.ly, signedOf 16 x.lz, a.2.2, t - r.kept.stamp, r.kept.stamp⟩
    let s1 := placeMeas q back m (updCount q (fun c => { c with
      accepted := satAdd 32 c.accepted 1, late := if 0 < back then satAdd 16 c.late 1 else c.late }) s)
    (true, updSrc q (fun u => { u with
      kept := let l := keptInsert r.kept u.kept
        l.drop (l.length - 2)
      lastStamp := r.kept.stamp, lastArrival := r.smp.arrival, lastDelta := (t - r.kept.stamp).tdiv 100
      lastAlign := a.2.2, lastSub := r.sub, v1 := a.1.1, v2 := a.1.2.1, v3 := a.1.2.2.getD 0, sigma := m.s1 }) s1)

/-- The code of REF_INPUT_REJECT for a reject that raises it (05 R165). -/
def rejectCode : Reject → Option Nat
  | .format => some 0
  | .invalid => some 1
  | .overrun => some 2
  | .stampReject => some 3
  | .windowDiscard => some 4
  | .duplicate => none

/-- The summary of a source (05 R163): AGE, state and counters, with the events it raises. -/
def summarise (q : Nat) (x : SrcCfg) (accepted : Bool) (s : State) : State × List (Nat × Nat) :=
  let u := srcUnit s q
  let on := flag s (srcId q 0) 0
  let fenced := u.cut
  let was := if on && !u.on then 1 else u.state
  let age := if accepted || (on && !u.on) then 0 else min (u.age + 1) 65535
  let st := if !on then 0 else if fenced then 4 else if accepted then 2 else was
  let lost := st == 4 && was != 4
  let back := accepted && st == 2 && (was == 3 || was == 4)
  let rej := (u.rejects.filterMap rejectCode).head?
  let say := rej.isSome && u.rejBlk != some (block100 s)
  let c := u.rejects.foldl (fun c r => countReject r c) u.count
  (updSrc q (fun u => { u with
      on := on, state := st, age := age, rejects := [], image := []
      count := if lost then { c with loss := satAdd 16 c.loss 1 } else c
      rejBlk := if say then some (block100 s) else u.rejBlk }) s,
    eventsWhen [(lost, 32, q), (back, 33, q), (say, 34, q + 256 * rej.getD 0)])

/-- Intake of one source in the beat: its records in ascending stamp order, then its summary. -/
def intakeSource (q : Nat) (s : State) : State × List (Nat × Nat) :=
  let x := srcCfg s.snap q
  let z := readySamples q x (srcUnit s q).image s
  let r := z.1.foldl (fun (a : Bool × State) k =>
    let b := alignSample q x z.1 k a.2
    (a.1 || b.1, b.2)) (false, z.2)
  summarise q x r.1 r.2

/-- Remove every kind 1 and kind 2 measurement from a slot. -/
def dropPositions (l : LoftSlot) : LoftSlot :=
  { l with meas := l.meas.map fun m => match m with
      | some x => if x.kind = 1 ∨ x.kind = 2 then none else some x
      | none => none }

/-- A track of kind 1 or 2. -/
def isPositionTrack (t : Option Track) : Bool :=
  match t with
  | some x => x.last.kind == 1 || x.last.kind == 2
  | none => false

/-- The effects of an origin that the host has written (06 R199), from the intake of the following beat: ORIGIN_VALID,
position, target, their tracks and measurements cleared, position picks cleared. -/
def moveOrigin (s : State) : State :=
  match s.fus.originMoved with
  | none => s
  | some k =>
    if k = s.clk.beat then s else
    let f := s.fus
    let clear (x : List F32) : List F32 := ((x.set 0 0).set 1 0 |>.set 13 0).set 14 0
    let zero (p : List (List F32)) : List (List F32) :=
      (List.range 15).map fun i => (List.range 15).map fun j =>
        if [0, 1, 13, 14].contains i || [0, 1, 13, 14].contains j then 0 else (p.getD i []).getD j 0
    let slot (l : LoftSlot) : LoftSlot := let l := dropPositions l
      { l with x := clear l.x, p := zero l.p, iniP := false, iniT := false }
    let s1 := wrAll s [(0x2303, setBit (rd s 0x2303) 0)]
    raise 44 1 { s1 with
      snap := regSet s1.snap 0x2303 (setBit (regGet s1.snap 0x2303) 0)
      src := Vector.ofFn fun q =>
        let u := vget s1.src q
        if (srcCfg s1.snap q.val).kind = 1 then { u with kept := [] } else u
      fus := { f with
        loft := f.loft.map slot, cur := slot f.cur, pos := false, tgt := false, originMoved := none
        tracks := f.tracks.map fun t => if isPositionTrack t then none else t
        birth := f.birth.map fun l => l.filter fun n => n.meas.kind != 1 && n.meas.kind != 2
        votes := vupd f.votes 0 fun v => { v with pick := none, fresh := false, newPick := none } } }

/-- Intake ends (05 R157): every source in ascending order, then the intake events on cycle 119 999. -/
def execIntakeSummary (s : State) : Out :=
  if !s.clk.beats then .next s else
  let s := stageDone 0 (advance (beatCycle s 119999) s)
  let s1 := moveOrigin { s with fus := { s.fus with news := [], step := 0 } }
  let r := (List.range 32).foldl (fun (a : State × List (Nat × Nat)) q =>
    let b := intakeSource q a.1
    (b.1, a.2 ++ b.2)) (s1, [])
  .next (raiseAll r.2 r.1)

/-- AGE reaches LOSS_TIMEOUT in LIVE or WAIT (05 R163): LOST. -/
def execSourceLossTimeout (q : Fin 32) (s : State) : Out :=
  let u := srcUnit s q.val
  if (u.state = 1 ∨ u.state = 2) ∧ sfld s (srcId q.val 2) 25 16 ≤ u.age ∧ flag s (srcId q.val 0) 0 then
    .next (raise 32 q.val (updSrc q.val (fun u => { u with
      state := 3, count := { u.count with loss := satAdd 16 u.count.loss 1 } }) s))
  else .next s

/-! ### Talk ports -/

/-- Put a talk sentence on a port at cycle 5 000 of a beat (05 R172): skipped and counted while the port is sending. -/
def startTalk (p : Fin 4) (l : List TalkLine) (s : State) : State :=
  match l with
  | [] => s
  | a :: r =>
    if (vget s.ser p).sending.isSome then
      sticky (bump s (serId p 6) 15 0 l.length) (serId p 1) 4
    else { s with ser := vupd s.ser p fun u => { u with sending := some a, waiting := r.head? } }

/-- IIZDA for an instant of R in ns (05 R172); inside a leap second it reads 23:59:60 (14 R427). -/
def zdaLine (s : State) (t : Int) : TalkLine :=
  let inside := match s.time.leap with
    | some (at_, d) => decide (0 < d) && decide ((at_ - 1) * 1000000000 ≤ t) && decide (t < at_ * 1000000000)
    | none => false
  .zda (floorDiv (t - (s.time.utc + b2n inside) * 1000000000) 10000000) inside

/-- The talk sentences due for beat k = beat − 1 on a port (05 R172): IIHDT every N beats, IIZDA every 100 beats unless
TIME_Q reads 3. -/
def talkDue (s : State) (p : Fin 4) : List TalkLine :=
  let k := (s.clk.beat + 2 ^ 32 - 1) % 2 ^ 32
  let n := match fld s (serId p 0) 7 6 with
    | 0 => 10
    | 1 => 20
    | 2 => 50
    | _ => 100
  let psi := if s.fus.out.valid % 2 = 1 then some (s.fus.out.x.getD 2 0) else none
  let t := rNsAt s ((s.clk.beatBase : Int) - 1000000)
  (if flag s (serId p 0) 4 && k % n == 0 then [.hdt psi] else []) ++
    (if flag s (serId p 0) 5 && k % 100 == 0 && timeQ s != 3 then
      [zdaLine s t] else [])

/-- Start the talk sentences of the beat on every port (05 R172); a fail-silent unit sends nothing. -/
def talkAll (s : State) : State :=
  if failSilent s then s else
  (List.finRange 4).foldl (fun s p => if blockDown s 7 (6 + p.val) then s else startTalk p (talkDue s p) s) s

/-- A port finishes a talk sentence (05 R172); the one waiting behind it follows. -/
def execTalkSentenceSent (port : Fin 4) (s : State) : Out :=
  .next { s with ser := vupd s.ser port fun u => { u with sending := u.waiting, waiting := none } }

/-! ### Opcodes -/

/-- The configuration that a REF_CONFIG payload carries; the basic form keeps the expert fields (05 R166). -/
def payloadCfg (expert : Bool) (p : List Byte) (old : SrcCfg) : SrcCfg :=
  ⟨byteAt p 1, byteAt p 2, byteAt p 3, wordAt p 4, leAt p 8 2, byteAt p 10, byteAt p 11, leAt p 12 2, leAt p 14 2,
    leAt p 16 2, leAt p 18 2, leAt p 20 2, leAt p 22 2, leAt p 24 2, leAt p 26 2,
    if expert then leAt p 32 2 else old.s3, if expert then leAt p 34 2 else old.mount,
    if expert then leAt p 36 2 else old.win, if expert then leAt p 38 2 else old.tol⟩

/-- REF_CONFIG in either form (05 R166, R167). -/
def refConfig (expert : Bool) (code : Nat) : OpSpec where
  code := code
  check _ p s :=
    let q := byteAt p 0
    let x := payloadCfg expert p (srcCfg s.regs q)
    firstBad ([(decide (q ≤ 31), 0)] ++ cfgChecks q x ++ [(zerosAt p 28 4, 28)] ++
      (if expert then expertCfgChecks x ++ [(zerosAt p 40 24, 40)] else []))
  busy _ p s := flag s (srcId (byteAt p 0) 0) 0
  halter _ _ := true
  targets p _ := (List.range 8).map (srcId (byteAt p 0))
  commit _ p s := okResult (storeCfg (byteAt p 0) (payloadCfg expert p (srcCfg s.regs (byteAt p 0))) s)

/-- REF_CONFIG basic (05 R166). -/
def opRefConfigBasic : OpSpec := refConfig false 0x20

/-- REF_CONFIG basic. -/
def execRefConfigBasic (r : Req) (s : State) : Out := .next (serve opRefConfigBasic r s)

/-- REF_CONFIG expert (05 R166). -/
def opRefConfigExpert : OpSpec := refConfig true 0x21

/-- REF_CONFIG expert. -/
def execRefConfigExpert (r : Req) (s : State) : Out := .next (serve opRefConfigExpert r s)

/-- Zero counters and MAX_AGE (05 R164, R169). -/
def zeroCount : SrcCount := ⟨0, 0, 0, 0, 0, 0, 0, 0, 0, 0, 0, 0⟩

/-- Intake of a source that is enabled anew (05 R164, R168): the counters are zero, and its first records are those of the next latch. It
forgets the samples kept for alignment, the last COUNTER of its CAN frames and the lines kept for DUPLICATE (DESIGN CHOICE, log 15: the
manual names the counters and the records only). -/
def freshSource (u : SrcUnit) : SrcUnit :=
  { u with
    count := zeroCount, buf := [], pend := [], image := [], rejects := [], kept := [], counter := none, lines := [], on := false }

/-- Enable or disable a source (05 R164, R168). -/
def setEnable (q : Nat) (on : Bool) (s : State) : State :=
  let was := flag s (srcId q 0) 0
  let s1 := wrFlag s (srcId q 0) 0 on
  if on && !was then updSrc q freshSource s1 else s1

/-- REF_ENABLE (05 R168). -/
def opRefEnable : OpSpec where
  code := 0x22
  check _ p s :=
    match firstBad [(decide (byteAt p 0 ≤ 31), 0), (decide (byteAt p 1 ≤ 1), 1), (zerosAt p 2 2, 2)] with
    | some x => some x
    | none =>
      let q := byteAt p 0
      if byteAt p 1 = 1 ∧ !enableOk (wrFlag s (srcId q 0) 0 true).regs q then some (stBadParam, 0xFFFF) else none
  halter _ _ := true
  targets p _ := [srcId (byteAt p 0) 0]
  tied p _ := [0x20000 + byteAt p 0]
  commit _ p s := okResult (setEnable (byteAt p 0) (byteAt p 1 == 1) s)

/-- REF_ENABLE. -/
def execRefEnable (r : Req) (s : State) : Out := .next (serve opRefEnable r s)

/-- The reply data of REF_STATUS_READ (05 R169). -/
def refStatusData (q : Nat) (s : State) : List Byte :=
  let u := srcUnit s q
  let c := u.count
  leBytes 1 u.state ++ leBytes 1 (srcCfg s.regs q).kind ++ leBytes 2 u.age ++
    leBytes 4 (twosOf 32 (rNsAt s u.lastStamp)) ++ leBytes 4 (twosOf 32 (rNsAt s u.lastArrival)) ++
    leBytes 2 (twosOf 16 u.lastDelta) ++ leBytes 1 (u.lastAlign + 128 * b2n u.lastSub) ++ leBytes 1 0 ++
    leBytes 4 c.accepted ++ leBytes 2 c.late ++ leBytes 2 c.window ++ leBytes 2 c.supers ++ leBytes 2 c.dup ++
    leBytes 2 c.overrun ++ leBytes 2 c.format ++ leBytes 2 c.invalid ++ leBytes 2 c.stampRej ++
    leBytes 2 c.fallback ++ leBytes 2 c.loss ++ wordBytes u.v1 ++ wordBytes u.v2 ++ wordBytes u.v3 ++
    wordBytes u.sigma ++ leBytes 4 c.maxAge ++ leBytes 4 0

/-- REF_STATUS_READ (05 R169): read, then clear where CLEAR is set. The counters stand for the target of a clear. -/
def opRefStatusRead : OpSpec where
  code := 0x24
  check _ p _ := firstBad [(decide (byteAt p 0 ≤ 31), 0), (decide (byteAt p 1 ≤ 1), 1), (zerosAt p 2 2, 2)]
  internal _ s := yardFenced s 2
  targets p _ := if byteAt p 1 = 1 then [0x20000 + byteAt p 0] else []
  commit _ p s :=
    okData (if byteAt p 1 = 1 then updCount (byteAt p 0) (fun _ => zeroCount) s else s) (refStatusData (byteAt p 0) s)

/-- REF_STATUS_READ. -/
def execRefStatusRead (r : Req) (s : State) : Out := .next (serve opRefStatusRead r s)

end Sys2Proof.Machine
end

