-- ==== Sys2Proof/Machine/Estimator.lean ====
section
/-! DEFINITION. The estimator's numerics (06 R173-R183): the vessel model and its propagation, measurement models, gate
and Joseph-form update, in binary32. The manual gives the formulas and not the order of their roundings; sums run from
the left and products are rounded one by one (DESIGN CHOICE, log 5). -/
namespace Sys2Proof.Machine

/-- Element i of a list of numbers; 0 beyond its end. -/
def fAt (x : List F32) (i : Nat) : F32 := x.getD i 0

/-- Element (i, j) of a matrix of rows. -/
def mAt (p : List (List F32)) (i j : Nat) : F32 := fAt (p.getD i []) j

/-- Scalar product. -/
def fDot (a b : List F32) : F32 := f32Sum (List.zipWith f32Mul a b)

/-- Transpose of a matrix with n columns. -/
def mTrans (n : Nat) (p : List (List F32)) : List (List F32) := (List.range n).map fun j => p.map fun r => fAt r j

/-- a times the transpose of b. -/
def mMulT (a b : List (List F32)) : List (List F32) := a.map fun r => b.map fun c => fDot r c

/-- a times b, b with n columns. -/
def mMul (n : Nat) (a b : List (List F32)) : List (List F32) := mMulT a (mTrans n b)

/-- Sum of matrices. -/
def mAdd (a b : List (List F32)) : List (List F32) := List.zipWith (List.zipWith f32Add) a b

/-- A matrix of 15 by 15 from its elements. -/
def m15 (f : Nat → Nat → F32) : List (List F32) := (List.range 15).map fun i => (List.range 15).map fun j => f i j

/-- The beat interval of 0.01 s. -/
def hBeat : F32 := f32OfRatio 1 100

/-- A decimal constant n / d. -/
def fC (n : Int) (d : Nat) : F32 := f32OfRatio n d

/-- The vessel model's parameters in the beat's snapshot (06 R203): masses, dampings, noise densities and Tb. -/
structure Vessel where
  m11 : F32
  m22 : F32
  m33 : F32
  d11 : F32
  d22 : F32
  d33 : F32
  qf  : F32
  qm  : F32
  tb  : F32

/-- The vessel model of the snapshot. -/
def vessel (s : State) : Vessel :=
  ⟨srd s 0x2310, srd s 0x2311, srd s 0x2312, srd s 0x2313, srd s 0x2314, srd s 0x2315, srd s 0x2316, srd s 0x2317,
    f32OfInt (sfld s 0x2304 15 0)⟩

/-- Are all of m11 to d33 nonzero (06 R197, FUSION_STATE bit 3)? -/
def modelValid (s : State) : Bool := (List.range 6).all fun i => !f32IsZero (srd s (0x2310 + i))

/-- The time derivative of the state under τ and w (06 R174). -/
def deriv (v : Vessel) (tau w x : List F32) : List F32 :=
  let c := Config.cos (fAt x 2)
  let n := Config.sin (fAt x 2)
  let bx := f32Add (f32Mul c (fAt x 6)) (f32Mul n (fAt x 7))
  let by_ := f32Add (f32Mul (f32Neg n) (fAt x 6)) (f32Mul c (fAt x 7))
  let acc (i : Nat) (b d u m : F32) : F32 :=
    f32Div (f32Sub (f32Add (f32Add (fAt tau i) (fAt w i)) b) (f32Mul d u)) m
  let slow (b : F32) : F32 := f32Div (f32Neg b) v.tb
  [f32Sub (f32Mul (fAt x 3) c) (f32Mul (fAt x 4) n), f32Add (f32Mul (fAt x 3) n) (f32Mul (fAt x 4) c), fAt x 5,
    acc 0 bx v.d11 (fAt x 3) v.m11, acc 1 by_ v.d22 (fAt x 4) v.m22, acc 2 (fAt x 8) v.d33 (fAt x 5) v.m33,
    slow (fAt x 6), slow (fAt x 7), slow (fAt x 8), 0, 0, 0, 0, 0, 0]

/-- x + k y. -/
def axpy (k : F32) (x y : List F32) : List F32 := List.zipWith (fun a b => f32Add a (f32Mul k b)) x y

/-- One beat by Heun's method, heading wrapped (06 R174). -/
def heun (v : Vessel) (tau w x : List F32) : List F32 :=
  let f0 := deriv v tau w x
  let f1 := deriv v tau w (axpy hBeat x f0)
  let y := axpy (f32Mul hBeat (fC 1 2)) x (List.zipWith f32Add f0 f1)
  y.set 2 (wrapTwoPi (fAt y 2))

/-- The Jacobian A of the model at a state (06 R174). -/
def jacobian (v : Vessel) (x : List F32) : List (List F32) :=
  let c := Config.cos (fAt x 2)
  let n := Config.sin (fAt x 2)
  let u := fAt x 3
  let w := fAt x 4
  let neg := f32Neg
  let dn := f32Sub (neg (f32Mul u n)) (f32Mul w c)
  let de := f32Sub (f32Mul u c) (f32Mul w n)
  let dbx := f32Add (neg (f32Mul n (fAt x 6))) (f32Mul c (fAt x 7))
  let dby := f32Sub (neg (f32Mul c (fAt x 6))) (f32Mul n (fAt x 7))
  let inv (m : F32) : F32 := f32Div f32One m
  let tbi := neg (inv v.tb)
  let cells : List (Nat × Nat × F32) := [(0, 2, dn), (0, 3, c), (0, 4, neg n), (1, 2, de), (1, 3, n), (1, 4, c), (2, 5, f32One),
    (3, 2, f32Mul dbx (inv v.m11)), (3, 3, neg (f32Div v.d11 v.m11)), (3, 6, f32Div c v.m11), (3, 7, f32Div n v.m11),
    (4, 2, f32Mul dby (inv v.m22)), (4, 4, neg (f32Div v.d22 v.m22)), (4, 6, f32Div (neg n) v.m22),
    (4, 7, f32Div c v.m22), (5, 5, neg (f32Div v.d33 v.m33)), (5, 8, inv v.m33), (6, 6, tbi), (7, 7, tbi), (8, 8, tbi)]
  m15 fun i j => match cells.find? (fun z => z.1 == i && z.2.1 == j) with
    | some z => z.2.2
    | none => 0

/-- The process noise densities of 06 R173. -/
def noise (v : Vessel) : List F32 :=
  [0, 0, 0, f32Div v.qf v.m11, f32Div v.qf v.m22, f32Div v.qm v.m33, v.qf, v.qf, v.qm, fC 1 1000000, fC 1 100000,
    fC 1 10000, fC 1 10000, fC 1 1000, fC 1 1000]

/-- F P Fᵀ + Q h with F = I + h A + h² A² / 2 (06 R174). -/
def propagateCov (v : Vessel) (x : List F32) (p : List (List F32)) : List (List F32) :=
  let a := jacobian v x
  let a2 := mMul 15 a a
  let hh := f32Mul (f32Mul hBeat hBeat) (fC 1 2)
  let f := m15 fun i j =>
    f32Add (f32Add (if i = j then f32One else 0) (f32Mul hBeat (mAt a i j))) (f32Mul hh (mAt a2 i j))
  let fp := mMulT (mMul 15 f p) f
  let q := noise v
  m15 fun i j => if i = j then f32Add (mAt fp i j) (f32Mul (f32Sq (fAt q i)) hBeat) else mAt fp i j

/-- Which of the 15 states are initialised. States 4 to 13 start with the first initialisation, that of heading
(DEDUCED, log 17). -/
def stateOn (h p t : Bool) (i : Nat) : Bool := if i ≤ 1 then p else if i ≤ 12 then h else t

/-- Hold the states that are not initialised at 0, with their rows and columns of P (06 R173). -/
def maskState (h p t : Bool) (z : List F32 × List (List F32)) : List F32 × List (List F32) :=
  ((List.range 15).map fun i => if stateOn h p t i then fAt z.1 i else 0,
    m15 fun i j => if stateOn h p t i && stateOn h p t j then mAt z.2 i j else 0)

/-- Propagate a slot's entering state and covariance to its beat instant; before heading is initialised there is nothing
to propagate. -/
def propagate (s : State) (l : LoftSlot) : List F32 × List (List F32) :=
  if !l.iniH then (l.x, l.p) else
  let v := vessel s
  maskState l.iniH l.iniP l.iniT (heun v l.tau l.wind l.x, propagateCov v l.x l.p)

/-- One component of a measurement against a state: innovation, row of H, variance (06 R176, R183). -/
structure Comp where
  nu  : F32
  row : List F32
  var : F32

/-- A row of H from its nonzero elements. -/
def hRow (l : List (Nat × F32)) : List F32 :=
  (List.range 15).map fun i => match l.find? (·.1 == i) with
    | some x => x.2
    | none => 0

/-- The sensor position and its derivatives (06 R176): lever arm, north, east, and their derivatives by ψ. -/
structure SensorPos where
  lx : F32
  ly : F32
  n  : F32
  e  : F32
  dn : F32
  de : F32

/-- The sensor of a measurement at a state with a roll and pitch (06 R176). -/
def sensorPos (x : List F32) (roll pitch : F32) (m : Meas) : SensorPos :=
  let own := decide (m.src ≤ 1)
  let lx0 := f32Add (fC m.lx 100) (if own then fAt x 11 else 0)
  let ly0 := f32Add (fC m.ly 100) (if own then fAt x 12 else 0)
  let lz := fC m.lz 100
  let lx := f32Add (f32Mul lx0 (Config.cos pitch)) (f32Mul lz (Config.sin pitch))
  let ly := f32Sub (f32Mul ly0 (Config.cos roll)) (f32Mul lz (Config.sin roll))
  let c := Config.cos (fAt x 2)
  let n := Config.sin (fAt x 2)
  let cl := f32Sub (f32Mul c lx) (f32Mul n ly)
  let nl := f32Add (f32Mul n lx) (f32Mul c ly)
  ⟨lx, ly, f32Add (fAt x 0) cl, f32Add (fAt x 1) nl, f32Neg nl, cl⟩

/-- The components of a measurement at a state (06 R176). -/
def comps (x : List F32) (roll pitch : F32) (m : Meas) : List Comp :=
  let z := sensorPos x roll pitch m
  let c := Config.cos (fAt x 2)
  let n := Config.sin (fAt x 2)
  let own := decide (m.src ≤ 1)
  let cp := Config.cos pitch
  let cr := Config.cos roll
  match m.kind with
  | 1 =>
    let lev (a b : F32) : List (Nat × F32) := if own then [(11, f32Mul a cp), (12, f32Mul b cr)] else []
    [⟨f32Sub m.v1 z.n, hRow ([(0, f32One), (2, z.dn)] ++ lev c (f32Neg n)), f32Sq m.s1⟩,
      ⟨f32Sub m.v2 z.e, hRow ([(1, f32One), (2, z.de)] ++ lev n c), f32Sq m.s1⟩]
  | 2 =>
    let a := f32Sub (fAt x 13) z.n
    let b := f32Sub (fAt x 14) z.e
    let r2 := f32Add (f32Sq a) (f32Sq b)
    let r := f32Sqrt r2
    let an := f32Div a r
    let bn := f32Div b r
    let aq := f32Div a r2
    let bq := f32Div b r2
    let beta := wrapPi (f32Sub (Config.atan2 b a) (fAt x 2))
    [⟨f32Sub m.v1 r, hRow [(0, f32Neg an), (1, f32Neg bn), (2, f32Neg (f32Add (f32Mul an z.dn) (f32Mul bn z.de))),
        (13, an), (14, bn)], f32Sq m.s1⟩,
      ⟨wrapPi (f32Sub m.v2 beta), hRow [(0, bq), (1, f32Neg aq),
        (2, f32Sub (f32Sub (f32Mul bq z.dn) (f32Mul aq z.de)) f32One), (13, f32Neg bq), (14, aq)], f32Sq m.s2⟩]
  | 3 =>
    let pred := if m.src = 2 then f32Add (fAt x 2) (fAt x 10) else fAt x 2
    [⟨wrapPi (f32Sub m.v1 pred), hRow ((2, f32One) :: (if m.src = 2 then [(10, f32One)] else [])), f32Sq m.s1⟩]
  | 4 => [⟨f32Sub m.v1 (f32Add (fAt x 5) (fAt x 9)), hRow [(5, f32One), (9, f32One)], f32Sq m.s1⟩]
  | _ => []

/-- S = H P Hᵀ + V of one or two components, as its elements. -/
def gateS (p : List (List F32)) (l : List Comp) : List (List F32) :=
  l.zipIdx.map fun a => l.zipIdx.map fun b =>
    let q := fDot (p.map fun r => fDot r b.1.row) a.1.row
    if a.2 = b.2 then f32Add q a.1.var else q

/-- The inverse of a symmetric matrix of one or two rows. -/
def inv2 (m : List (List F32)) : List (List F32) :=
  match m with
  | [[a]] => [[f32Div f32One a]]
  | [[a, b], [c, d]] =>
    let t := f32Sub (f32Mul a d) (f32Mul b c)
    [[f32Div d t, f32Neg (f32Div b t)], [f32Neg (f32Div c t), f32Div a t]]
  | _ => []

/-- The gate value d = √(νᵀ S⁻¹ ν) (06 R183). -/
def gateD (p : List (List F32)) (l : List Comp) : F32 :=
  let nu := l.map (·.nu)
  f32Sqrt (fDot nu ((inv2 (gateS p l)).map fun r => fDot r nu))

/-- The Joseph-form update with a measurement's components (06: primary lane). -/
def joseph (x : List F32) (p : List (List F32)) (l : List Comp) : List F32 × List (List F32) :=
  let si := inv2 (gateS p l)
  let ph := p.map fun r => l.map fun c => fDot r c.row
  let k := ph.map fun r => si.map fun c => fDot r c
  let nu := l.map (·.nu)
  let y := List.zipWith (fun a r => f32Add a (fDot r nu)) x k
  let ikh := m15 fun i j =>
    f32Sub (if i = j then f32One else 0) (fDot (k.getD i []) (l.map fun c => fAt c.row j))
  let kv := k.map fun r => List.zipWith (fun a c => f32Mul a c.var) r l
  (y.set 2 (wrapTwoPi (fAt y 2)), mAdd (mMulT (mMul 15 ikh p) ikh) (mMulT kv k))

end Sys2Proof.Machine
end

