-- ==== Sys2Proof/Machine/Fusion.lean ====
section
/-! DEFINITION. Loft and replay, gates, tracks, votes, model hold, initialisation and the fused output (06 R180-R204). -/
namespace Sys2Proof.Machine

/-! ### The loft -/

/-- The loft slot of so many beats before the present; 0 is the current slot buffer. -/
def loftAt (s : State) (back : Nat) : LoftSlot :=
  if back = 0 then s.fus.cur else vgetD s.fus.loft ((s.clk.beat + 2 ^ 32 - back) % 64) LoftSlot.empty

/-- Change a loft slot. -/
def updLoft (back : Nat) (f : LoftSlot → LoftSlot) (s : State) : State :=
  if back = 0 then { s with fus := { s.fus with cur := f s.fus.cur } }
  else { s with fus := { s.fus with loft := vupdN s.fus.loft ((s.clk.beat + 2 ^ 32 - back) % 64) f } }

/-- The motion measurement of a slot by the lowest-numbered LIVE kind 5 source (06 R177). -/
def motionIn (s : State) (l : LoftSlot) : Option Meas :=
  (l.meas.toList.filterMap id).find? fun m => m.kind == 5 && (srcUnit s m.src).state == 2

/-- The motion used for a slot: its own, else the latest earlier one in the loft (06 R177). -/
def motionFor (s : State) (back : Nat) : Option Meas :=
  ((List.range 65).drop back).findSome? fun b => motionIn s (loftAt s b)

/-- Roll and pitch for a slot; zero where there is none. -/
def attitude (s : State) (back : Nat) : F32 × F32 :=
  match motionFor s back with
  | some m => (m.v1, m.v2)
  | none => (0, 0)

/-- The quantity a kind votes on: position 0 for kinds 1 and 2, heading 1 for kind 3 (06 R190). -/
def quantityOf (kind : Nat) : Option (Fin 2) :=
  if kind = 1 ∨ kind = 2 then some 0 else if kind = 3 then some 1 else none

/-- Are the states that a kind needs initialised? -/
def evaluable (h p t : Bool) (kind : Nat) : Bool :=
  match kind with
  | 1 => h && p
  | 2 => h && p && t
  | 3 => h
  | 4 => h
  | _ => false

/-- The innovation of a measurement as its vote takes it: north and east for position, the innovation for heading
(06 R190). -/
def voteNu (x : List F32) (roll pitch : F32) (m : Meas) : F32 × F32 :=
  let l := comps x roll pitch m
  if m.kind = 2 then
    let z := sensorPos x roll pitch m
    let a := f32Add m.v2 (fAt x 2)
    (f32Sub (f32Sub (fAt x 13) (f32Mul m.v1 (Config.cos a))) z.n,
      f32Sub (f32Sub (fAt x 14) (f32Mul m.v1 (Config.sin a))) z.e)
  else ((l.getD 0 ⟨0, [], 0⟩).nu, (l.getD 1 ⟨0, [], 0⟩).nu)

/-- d at most 4 passes (06 R183). -/
def gatePass (d : F32) : Bool := f32Le d (f32OfInt 4)

/-- First evaluation of a new sample at a slot's prior (06 R188). -/
def evalNews (back q : Nat) (x : List F32) (p : List (List F32)) (roll pitch : F32) (s : State) : State :=
  { s with fus := { s.fus with news := s.fus.news.map fun n =>
      if n.back = back ∧ n.meas.src = q ∧ n.d.isNone then
        let v := voteNu x roll pitch n.meas
        { n with d := some (gateD p (comps x roll pitch n.meas)), nu1 := v.1, nu2 := v.2 }
      else n } }

/-- Has source q a CONFIRMED track of the kind? -/
def confirmedTrack (s : State) (q : Nat) : Bool :=
  s.fus.tracks.toList.any fun t => match t with
    | some x => x.confirmed && x.src == q
    | none => false

/-- May a measurement update the estimator at its slot, gate apart (06 R179, R185)? -/
def usable (s : State) (l : LoftSlot) (m : Meas) : Bool :=
  match quantityOf m.kind with
  | none => m.kind == 4
  | some q => confirmedTrack s m.src && l.use.getD m.src false && !(if q = 0 then l.holdP else l.holdH)

/-- Apply a slot's measurements in ascending source to its prior (06 R182, R184, R185): each is gated against the prior, and
updates the running state when it passes and may be used. ungated: the sources whose pick applies this measurement without the gate; on: which of heading,
position and target are initialised in the running state. -/
def applyMeas (s : State) (back : Nat) (l : LoftSlot) (on : Bool × Bool × Bool) (prior : List F32 × List (List F32)) (ungated : List Nat) :
    (List F32 × List (List F32)) × List Bool :=
  let at_ := attitude s back
  (List.range 32).foldl (fun (a : (List F32 × List (List F32)) × List Bool) q =>
    match vgetD l.meas q none with
    | none => (a.1, a.2 ++ [false])
    | some m =>
      if !evaluable l.iniH l.iniP l.iniT m.kind then (a.1, a.2 ++ [false]) else
      let pass := gatePass (gateD prior.2 (comps prior.1 at_.1 at_.2 m)) || ungated.contains q
      if pass && usable s l m then
        (maskState on.1 on.2.1 on.2.2 (joseph a.1.1 a.1.2 (comps a.1.1 at_.1 at_.2 m)), a.2 ++ [pass])
      else (a.1, a.2 ++ [pass])) (prior, [])

/-- The picked source of a quantity while its first measurement after the pick is still to be applied (06 R196). -/
def pickUngated (s : State) (q : Fin 2) : List Nat :=
  let v := vget s.fus.votes q
  if v.fresh then v.pick.toList else []

/-- The freshly picked sources whose sample is new in this beat and lies in a slot (06 R196). -/
def freshIn (s : State) (back : Nat) : List Nat :=
  (pickUngated s 0 ++ pickUngated s 1).filter fun p => s.fus.news.any fun n => n.back == back && n.meas.src == p

/-- The sources whose measurement in a slot is applied without the gate: the freshly picked ones, and those that an earlier run of the slot
applied so (06 R196). -/
def ungatedIn (s : State) (back : Nat) : List Nat := freshIn s back ++ (loftAt s back).free

/-- The first measurements after a pick that a slot's run applied are no longer to come, and the slot keeps them so (06 R196). -/
def pickApplied (back : Nat) (l : LoftSlot) (s : State) : State :=
  let applied (p : Nat) : Bool := (freshIn s back).contains p && (match vgetD l.meas p none with
    | some m => usable s l m && evaluable l.iniH l.iniP l.iniT m.kind
    | none => false)
  let new := (freshIn s back).filter applied
  let s1 := if new.isEmpty then s else updLoft back (fun l => { l with free := l.free ++ new }) s
  { s1 with fus := { s1.fus with votes := s1.fus.votes.map fun v => { v with fresh := v.fresh && !(v.pick.any applied) } } }

/-- A loft replay step (06 R181, R182, R185): step n re-runs the slot 64 − n beats back when it lies within W. Its new
samples have their first evaluation, its measurements are gated and applied, and the posterior becomes the entering
state of the next slot, unless the next slot's entering state holds a state initialised since (DEDUCED, log 17). -/
def execLoftReplayStep (s : State) : Out :=
  let n := s.fus.step
  if 64 ≤ n ∨ !s.clk.beats then .next s else
  let s := stageDone 1 <| advance (beatCycle s (120000 + 4400 * (n + 1) - 1)) { s with fus := { s.fus with step := n + 1 } }
  let back := 64 - n
  if min 64 (sfld s 0x2300 6 0) < back then .next s else
  let l := loftAt s back
  let prior := propagate s l
  let at_ := attitude s back
  let s1 := (List.range 32).foldl (fun s q => match vgetD l.meas q none with
    | some m => if evaluable l.iniH l.iniP l.iniT m.kind then evalNews back q prior.1 prior.2 at_.1 at_.2 s else s
    | none => s) s
  let r := applyMeas s1 back l (l.iniH, l.iniP, l.iniT) prior (ungatedIn s1 back)
  let failed := (List.range 32).any fun q =>
    l.passed.getD q false && !r.2.getD q false && (vgetD l.meas q none).isSome
  let s2 := updLoft back (fun l => { l with passed := r.2 })
    (pickApplied back l (if failed then sticky s1 0x2323 6 else s1))
  let next := loftAt s2 (back - 1)
  if next.iniH == l.iniH && next.iniP == l.iniP && next.iniT == l.iniT then
    .next (updLoft (back - 1) (fun l => { l with x := r.1.1, p := r.1.2 }) s2)
  else .next s2

/-! ### Tracks -/

/-- |a − b| ≤ rate Δt + 3 √(σ² + σ²) for one component (06 R186). -/
def compNear (rate : F32) (angle : Bool) (dt a b sa sb : F32) : Bool :=
  let d := if angle then wrapPi (f32Sub a b) else f32Sub a b
  f32Le (f32Abs d)
    (f32Add (f32Mul rate dt) (f32Mul (f32OfInt 3) (f32Sqrt (f32Add (f32Sq sa) (f32Sq sb)))))

/-- Are two samples of a source consistent (06 R186)? -/
def consistent (a b : Meas) : Bool :=
  let dt := fC (a.stamp - b.stamp).natAbs 100000000
  let pos (x y : F32) (sx sy : F32) : Bool := compNear (f32OfInt 15) false dt x y sx sy
  let ang (x y : F32) (sx sy : F32) : Bool := compNear (fC 1 2) true dt x y sx sy
  a.kind == b.kind && match a.kind with
  | 1 => pos a.v1 b.v1 a.s1 b.s1 && pos a.v2 b.v2 a.s1 b.s1
  | 2 => pos a.v1 b.v1 a.s1 b.s1 && ang a.v2 b.v2 a.s2 b.s2
  | _ => ang a.v1 b.v1 a.s1 b.s1

/-- The track in slot i. -/
def trackAt (s : State) (i : Nat) : Option Track := vgetD s.fus.tracks i none

/-- Put a track. -/
def putTrack (i : Nat) (t : Option Track) (s : State) : State :=
  { s with fus := { s.fus with tracks := vupdN s.fus.tracks i (fun _ => t) } }

/-- The ARG of the track events (06 R204). -/
def trackArg (src i : Nat) : Nat := src + 32 * i

/-- Count a sample on its track (06 R188): neither pass nor failure while its quantity is in hold or where it could not be
evaluated. newest: no sample of the track has a later stamp, so that d and the innovation of the track become its own. -/
def countSample (held newest : Bool) (n : NewSample) (t : Track) : Track :=
  match n.d with
  | none => if newest then { t with failed := false } else t
  | some d =>
    let p := gatePass d
    let t1 := if newest then { t with lastD := d, failed := !p, nu := some (n.nu1, n.nu2) } else t
    if held then t1
    else if p then { t1 with passes := satAdd 16 t1.passes 1, fails := 0 }
    else { t1 with fails := t1.fails + 1 }

/-- Is a quantity in model hold for the counting of samples: held now, or ended in this beat's vote? -/
def heldForCount (s : State) (kind : Nat) : Bool :=
  match quantityOf kind with
  | none => false
  | some q => let v := vget s.fus.votes q
    v.hold.isSome || v.ended == some s.clk.beat

/-- The lowest free track slot. -/
def freeTrack (s : State) : Option Nat := (List.range 48).find? fun i => (trackAt s i).isNone

/-- Association and birth of one new sample (06 R186, R187), with the events. -/
def associate (n : NewSample) (a : State × List (Nat × Nat)) : State × List (Nat × Nat) :=
  let s := a.1
  let q := n.meas.src
  let mine := (List.range 48).filterMap fun i => match trackAt s i with
    | some t => if t.src = q then some (i, t) else none
    | none => none
  let fit := mine.filter fun x => consistent n.meas x.2.last
  let best := fit.foldl (fun (m : Option (Nat × Track)) x => match m with
    | none => some x
    | some y => if y.2.last.stamp < x.2.last.stamp then some x else some y) none
  match best with
  | some (i, t) =>
    let newest := decide (t.last.stamp ≤ n.meas.stamp)
    let t1 := countSample (heldForCount s n.meas.kind) newest n { t with assoc := t.assoc + 1, lastBeat := s.clk.beat }
    (putTrack i (some { t1 with last := if newest then n.meas else t.last }) s, a.2)
  | none =>
    let buf := vgetD s.fus.birth q []
    let restart := match buf.head?, buf.getLast? with
      | some o, some y => !consistent n.meas y.meas || decide (o.meas.stamp + 200000000 < n.meas.stamp)
      | _, _ => true
    let buf1 := if restart then [n] else buf ++ [n]
    let keep (l : List NewSample) (s : State) : State :=
      { s with fus := { s.fus with birth := vupdN s.fus.birth q (fun _ => l) } }
    if buf1.length < 3 then (keep buf1 s, a.2) else
    let older := mine.foldl (fun (m : Option (Nat × Track)) x => match m with
      | none => some x
      | some y => if x.2.last.stamp < y.2.last.stamp then some x else some y) none
    let drop := if 2 ≤ mine.length then older else none
    let s1 := keep [] (match drop with
      | some x => putTrack x.1 none s
      | none => s)
    let ev := match drop with
      | some x => if x.2.confirmed then [(41, trackArg q x.1)] else []
      | none => []
    match (match drop with
      | some x => some x.1
      | none => freeTrack s1) with
    | none => (sticky (bump s1 0x2324 15 0 1) 0x2323 5, a.2 ++ [(42, q)])
    | some i =>
      let t : Track := ⟨q, false, false, false, 0, 0, 1, s.clk.beat, s.clk.beat, 0, false, n.meas, none, 0, false, false⟩
      (putTrack i (some (countSample (heldForCount s n.meas.kind) true n t)) s1, a.2 ++ ev)

/-- Insert a new sample by source, then stamp. -/
def newsInsert (n : NewSample) : List NewSample → List NewSample
  | [] => [n]
  | x :: r =>
    if n.meas.src < x.meas.src ∨ (n.meas.src = x.meas.src ∧ n.meas.stamp ≤ x.meas.stamp) then n :: x :: r
    else x :: newsInsert n r

/-- Association and birth of the beat's samples, in ascending source and stamp (06 R184). -/
def associateAll (s : State) : State × List (Nat × Nat) :=
  ((s.fus.news.foldr newsInsert []).filter (fun n => (quantityOf n.meas.kind).isSome)).foldl
    (fun a n => associate n a) (s, [])

/-- Is what a track measures initialised: heading, position, or the target for kind 2 (06 R189)? -/
def trackReady (s : State) (t : Track) : Bool :=
  match t.last.kind with
  | 1 => s.fus.pos
  | 2 => s.fus.tgt
  | _ => s.fus.hdg

/-- The lifecycle of a track slot (06 R189): deletion for silence, which its own row has reported, or on 3 failures, confirmation on 10 passes, or on 10 associated samples
before its quantity is initialised. -/
def lifecycle (i : Nat) (a : State × List (Nat × Nat)) : State × List (Nat × Nat) :=
  match trackAt a.1 i with
  | none => a
  | some t =>
    if t.silent then (putTrack i none a.1, a.2)
    else if 3 ≤ t.fails then
      let s := putTrack i none a.1
      if t.confirmed then (sticky s 0x2323 0, a.2 ++ [(41, trackArg t.src i + 2048)]) else (s, a.2)
    else if !t.confirmed && (decide (10 ≤ t.passes) || (!trackReady a.1 t && decide (10 ≤ t.assoc))) then
      (putTrack i (some { t with confirmed := true }) a.1, a.2 ++ [(40, trackArg t.src i)])
    else a

/-! ### The vote -/

/-- A vote candidate (06 R190). -/
structure Cand where
  slot : Nat
  src  : Nat
  a    : F32
  b    : F32
  sig  : F32

/-- The σ of a track's latest sample as the vote takes it (06 R190). -/
def voteSigma (m : Meas) : F32 :=
  if m.kind = 2 then
    f32Sqrt (f32Div (f32Add (f32Sq m.s1) (f32Mul (f32Sq m.v1) (f32Sq m.s2))) (f32OfInt 2))
  else m.s1

/-- The candidates of a quantity (06 R190). -/
def candidates (s : State) (q : Fin 2) : List Cand :=
  let from_ : Int := (s.clk.beatBase : Int) - (100000 * sfld s 0x2300 31 16 : Nat)
  (List.range 48).filterMap fun i => match trackAt s i with
    | some t =>
      if t.confirmed ∧ quantityOf t.last.kind = some q ∧ from_ ≤ t.last.stamp then
        t.nu.map fun v => ⟨i, t.src, v.1, v.2, voteSigma t.last⟩
      else none
    | none => none

/-- The independence group of a source (06 R190, GROUP_MAP). -/
def groupOf (s : State) (q : Nat) : Nat := sfld s (0x2305 + q / 8) (4 * (q % 8) + 3) (4 * (q % 8))

/-- Is candidate x before y as a group's representative: least σ, then the lower source? -/
def candBefore (x y : Cand) : Bool := f32Lt x.sig y.sig || (!f32Lt y.sig x.sig && decide (x.src < y.src))

/-- The representatives of the groups (06 R190); every member of group 15 stands alone. -/
def groupReps (s : State) (l : List Cand) : List Cand :=
  l.filter fun x => groupOf s x.src == 15 ||
    !l.any fun y => y.slot != x.slot && groupOf s y.src == groupOf s x.src &&
      (candBefore y x || (!candBefore x y && decide (y.slot < x.slot)))

/-- The distance of two values (06 R190): the length of a position difference, or a heading difference, over the σ of
both. -/
def voteDist (q : Fin 2) (a1 a2 sa b1 b2 sb : F32) : F32 :=
  let len := if q = 0 then f32Sqrt (f32Add (f32Sq (f32Sub a1 b1)) (f32Sq (f32Sub a2 b2)))
    else f32Abs (wrapPi (f32Sub a1 b1))
  f32Div len (f32Sqrt (f32Add (f32Sq sa) (f32Sq sb)))

/-- Insert by value. -/
def fInsert (x : F32) : List F32 → List F32
  | [] => [x]
  | y :: r => if f32Lt x y then x :: y :: r else y :: fInsert x r

/-- The median; for an even number the mean of the two middle values (06 R191). -/
def fMedian (l : List F32) : F32 :=
  let z := l.foldr fInsert []
  let n := z.length
  if n % 2 = 1 then fAt z (n / 2) else f32Mul (fC 1 2) (f32Add (fAt z (n / 2 - 1)) (fAt z (n / 2)))

/-- What a vote finds (06 R190, R191): how many groups, for three or more the distance of every candidate from the median
and whether a majority stands, for two their distance. -/
structure VoteFind where
  n     : Nat
  cands : List Cand
  dists : List (Nat × F32)
  outs  : List Nat
  major : Bool
  pair  : Option (F32 × Cand × Cand)

/-- The vote of a quantity on the tracks as they stand. -/
def findVote (s : State) (q : Fin 2) : VoteFind :=
  let l := candidates s q
  let g := groupReps s l
  let n := g.length
  let six := f32OfInt 6
  if 3 ≤ n then
    let ma := fMedian (g.map (·.a))
    let mb := fMedian (g.map (·.b))
    let ms := fMedian (g.map (·.sig))
    let d := l.map fun c => (c.slot, voteDist q c.a c.b c.sig ma mb ms)
    let outs := (d.filter fun x => f32Lt six x.2).map (·.1)
    let isOut (i : Nat) : Bool := outs.contains i || (match trackAt s i with
      | some t => t.votedOut
      | none => false)
    ⟨n, l, d, outs, decide ((g.countP fun c => isOut c.slot) ≤ (n - 1) / 2), none⟩
  else match g with
    | [x, y] => ⟨2, l, [], [], false, some (voteDist q x.a x.b x.sig y.a y.b y.sig, x, y)⟩
    | _ => ⟨n, l, [], [], false, none⟩

/-- The code of a hold reason in MODEL_HOLD (06 R204). -/
def holdCode : HoldReason → Nat
  | .contradict => 0
  | .noMajority => 1
  | .none => 2

/-- ARG of MODEL_HOLD. -/
def holdArg (q : Fin 2) (r : HoldReason) (ended : Bool) : Nat := q.val + 2 * holdCode r + (if ended then 0x8000 else 0)

/-- Change a quantity's vote. -/
def updVote (q : Fin 2) (f : VoteUnit → VoteUnit) (s : State) : State :=
  { s with fus := { s.fus with votes := vupd s.fus.votes q f } }

/-- Change every track of a quantity. -/
def updTracksOf (q : Fin 2) (f : Nat → Track → Track) (s : State) : State :=
  let l : Vector (Option Track) 48 := Vector.ofFn fun i => (vget s.fus.tracks i).map fun t =>
    if quantityOf t.last.kind = some q then f i.val t else t
  { s with fus := { s.fus with tracks := l } }

/-- Start model hold (06 R193); a hold in progress keeps its reason. -/
def startHold (q : Fin 2) (r : HoldReason) (a : State × List (Nat × Nat)) : State × List (Nat × Nat) :=
  if (vget a.1.fus.votes q).hold.isSome then a
  else (sticky (updVote q (fun v => { v with hold := some r, timer := 0, agree := 0 }) a.1) 0x2323 3,
    a.2 ++ [(37, holdArg q r false)])

/-- End model hold (06 R194): marks and timer cleared, REF_LOST cleared, and the event. -/
def endHold (q : Fin 2) (s : State) : State × List (Nat × Nat) :=
  match (vget s.fus.votes q).hold with
  | none => (s, [])
  | some r =>
    (updTracksOf q (fun _ t => { t with contra := false }) (updVote q (fun v => { v with
      hold := none, timer := 0, agree := 0, pair := none, lost := false, ended := some s.clk.beat }) s),
      [(37, holdArg q r true)])

/-- Is a committed pick due in this beat's vote (06 R196)? -/
def pickDue (s : State) (q : Fin 2) : Option (Option Nat) :=
  match (vget s.fus.votes q).newPick with
  | some (k, p) => if k = s.clk.beat then none else some p
  | none => none

/-- Picks in the vote (06 R196): a pick takes effect, ending any hold, or is cleared; one whose track is gone ends. -/
def pickPhase (q : Fin 2) (a : State × List (Nat × Nat)) : State × List (Nat × Nat) :=
  let s := a.1
  match pickDue s q with
  | some (some p) =>
    let e := endHold q (updVote q (fun v => { v with newPick := none, pick := some p, fresh := true }) s)
    (e.1, a.2 ++ e.2)
  | some none => (updVote q (fun v => { v with newPick := none, pick := none, fresh := false }) s, a.2)
  | none =>
    match (vget s.fus.votes q).pick with
    | some p => if confirmedTrack s p then a else (updVote q (fun v => { v with pick := none, fresh := false }) s, a.2)
    | none => a

/-- Are the two tracks that contradict within distance 4 of each other in a vote (06 R194)? -/
def pairAgrees (q : Fin 2) (v : VoteUnit) (f : VoteFind) : Bool :=
  let cand (i : Nat) : Option Cand := f.cands.find? (·.slot == i)
  match v.pair with
  | some p => (match cand p.1, cand p.2 with
    | some x, some y => f32Le (voteDist q x.a x.b x.sig y.a y.b y.sig) (f32OfInt 4)
    | _, _ => false)
  | none => false

/-- The count of agreeing votes towards the end of hold (06 R194). -/
def agreeCount (q : Fin 2) (v : VoteUnit) (f : VoteFind) : Nat :=
  let good := match v.hold with
    | some .contradict => pairAgrees q v f
    | some .noMajority => decide (3 ≤ f.n) && f.major
    | _ => false
  if good then v.agree + 1 else 0

/-- The vote of a quantity (06 R190-R193). The quantity state follows from the number of candidate groups, in hold too (R191). Two tracks that
contradict while another hold stands are marked and reported as well; the hold keeps its reason and its pair. -/
def votePhase (q : Fin 2) (a : State × List (Nat × Nat)) : State × List (Nat × Nat) :=
  let a := pickPhase q a
  let s := a.1
  let v := vget s.fus.votes q
  let f := findVote s q
  if v.pick.isSome then
    (updVote q (fun v => { v with state := 3 }) (updTracksOf q (fun i t => { t with cand := f.cands.any fun c => c.slot == i }) s), a.2)
  else
  let s1 := updVote q (fun v => { v with agree := agreeCount q v f }) (updTracksOf q (fun i t =>
    { t with
      cand := f.cands.any fun c => c.slot == i
      near := match f.dists.find? (·.1 == i) with
        | some d => if t.votedOut && f32Le d.2 (f32OfInt 4) then t.near + 1 else 0
        | none => 0 }) s)
  let r : (State × List (Nat × Nat)) × Nat :=
    if 3 ≤ f.n then
      if f.major then
        let fresh := f.outs.filter fun i => match trackAt s1 i with
          | some t => !t.votedOut
          | none => false
        let s2 := updTracksOf q (fun i t => if fresh.contains i then { t with votedOut := true, near := 0 } else t) s1
        let ev := fresh.map fun i => (39, match trackAt s1 i with
          | some t => t.src
          | none => 0)
        ((if fresh.isEmpty then s2 else sticky s2 0x2323 1, a.2 ++ ev), 0)
      else (startHold q .noMajority (s1, a.2), 0)
    else match f.pair with
      | some (d, x, y) =>
        let marked (c : Cand) : Bool := (trackAt s1 c.slot).any (·.contra)
        if f32Lt (f32OfInt 6) d && !(marked x && marked y) then
          let s2 := updTracksOf q (fun i t => if i = x.slot ∨ i = y.slot then { t with contra := true } else t)
            (updVote q (fun v => if v.hold = some .contradict then v else { v with pair := some (x.slot, y.slot) }) s1)
          (startHold q .contradict (sticky s2 0x2323 2, a.2 ++ [(36, min x.src y.src + 256 * max x.src y.src)]), 1)
        else ((s1, a.2), 1)
      | none => if f.n = 1 then ((s1, a.2), 2) else (startHold q .none (s1, a.2), 4)
  let held := (vget r.1.1.fus.votes q).hold.isSome
  (updVote q (fun v => { v with
    state := r.2
    timer := if held then min (v.timer + 1) 3000 else 0 }) r.1.1, r.1.2)

/-- May a source update the estimator (06 R192, R196)? A picked source is used whatever the votes before have marked. -/
def useSource (s : State) (q : Nat) : Bool :=
  s.fus.tracks.toList.any fun t => match t with
    | some x =>
      x.src == q && x.confirmed &&
        (match quantityOf x.last.kind with
         | some k => (match (vget s.fus.votes k).pick with
           | some p => p == q
           | none => !x.votedOut && !x.contra)
         | none => false)
    | none => false

/-! ### Initialisation -/

/-- The track that initialises: CONFIRMED, of a kind that passes, of least σ, then of the lowest source (06 R197). -/
def initTrack (s : State) (kind : Nat) : Option Track :=
  (s.fus.tracks.toList.filterMap id).foldl (fun (m : Option Track) t =>
    if !t.confirmed || t.last.kind != kind then m else match m with
    | none => some t
    | some y =>
      if f32Lt (voteSigma t.last) (voteSigma y.last) ||
        (!f32Lt (voteSigma y.last) (voteSigma t.last) && decide (t.src < y.src)) then some t else some y) none

/-- Set element i of P's diagonal, with its row and column cleared. -/
def setVar (p : List (List F32)) (i : Nat) (v : F32) : List (List F32) :=
  m15 fun a b => if a = i ∧ b = i then v else if a = i ∨ b = i then 0 else mAt p a b

/-- The initial σ of states 4 to 13 (06 R173). -/
def initSigmas (v : Vessel) : List (Nat × F32) :=
  [(3, f32One), (4, f32One), (5, fC 5 100), (6, f32Mul (fC 1 2) v.d22), (7, f32Mul (fC 1 2) v.d22),
    (8, f32Mul (fC 2 100) v.d33), (9, fC 1 1000), (10, fC 2 100), (11, fC 1 2), (12, fC 1 2)]

/-- Roll and pitch for the measurement that initialises, in the slot of its stamp (06 R177). -/
def attitudeOf (s : State) (m : Meas) : F32 × F32 := attitude s (min 64 (backOf s.clk.beatBase m.stamp))

/-- Heading, position and target initialise in that order (06 R197), acting on the state at t_k. -/
def initPhase (a : (State × List (Nat × Nat)) × (List F32 × List (List F32))) :
    (State × List (Nat × Nat)) × (List F32 × List (List F32)) :=
  let s := a.1.1
  if !modelValid s then a else
  let a1 := if s.fus.hdg then a else match initTrack s 3 with
    | none => a
    | some t =>
      let x := (List.replicate 15 (0 : F32)).set 2 t.last.v1
      let p := (initSigmas (vessel s)).foldl (fun p z => setVar p z.1 (f32Sq z.2))
        (setVar (List.replicate 15 (List.replicate 15 0)) 2 (f32Sq t.last.s1))
      (({ s with fus := { s.fus with hdg := true } }, a.1.2 ++ [(43, 0)]), (x, p))
  let s1 := a1.1.1
  let a2 := if !s1.fus.hdg || s1.fus.pos then a1 else match initTrack s1 1 with
    | none => a1
    | some t =>
      let at_ := attitudeOf s1 t.last
      let z := sensorPos ((a1.2.1.set 0 0).set 1 0) at_.1 at_.2 t.last
      let x := (a1.2.1.set 0 (f32Sub t.last.v1 z.n)).set 1 (f32Sub t.last.v2 z.e)
      (({ s1 with fus := { s1.fus with pos := true } }, a1.1.2 ++ [(43, 1)]),
        (x, setVar (setVar a1.2.2 0 (f32Sq t.last.s1)) 1 (f32Sq t.last.s1)))
  let s2 := a2.1.1
  if !s2.fus.pos || s2.fus.tgt then a2 else match initTrack s2 2 with
    | none => a2
    | some t =>
      let at_ := attitudeOf s2 t.last
      let z := sensorPos a2.2.1 at_.1 at_.2 t.last
      let b := f32Add t.last.v2 (fAt a2.2.1 2)
      let x := (a2.2.1.set 13 (f32Add z.n (f32Mul t.last.v1 (Config.cos b)))).set 14
        (f32Add z.e (f32Mul t.last.v1 (Config.sin b)))
      let v := f32Sq (voteSigma t.last)
      (({ s2 with fus := { s2.fus with tgt := true } }, a2.1.2 ++ [(43, 2)]), (x, setVar (setVar a2.2.2 13 v) 14 v))

/-! ### The update phase -/

/-- The update phase up to the vote (06 R184): propagation, first evaluations, association and birth, lifecycle. Answers the
state, the events, and the prior at t_k. -/
def fusionPrelude (s : State) : (State × List (Nat × Nat)) × (List F32 × List (List F32)) :=
  let l := s.fus.cur
  let prior := propagate s l
  let at_ := attitude s 0
  let s1 := (List.range 32).foldl (fun s q => match vgetD l.meas q none with
    | some m => if evaluable l.iniH l.iniP l.iniT m.kind then evalNews 0 q prior.1 prior.2 at_.1 at_.2 s else s
    | none => s) s
  ((List.range 48).foldl (fun a i => lifecycle i a) (associateAll s1), prior)

/-- The loft write (06 R184): the current buffer becomes slot k, the posterior the entering state of beat k + 1. -/
def loftWrite (post : List F32 × List (List F32)) (passed : List Bool) (s : State) : State :=
  { s with fus := { s.fus with
      loft := vupdN s.fus.loft (s.clk.beat % 64) (fun _ => { s.fus.cur with passed := passed })
      cur := { LoftSlot.empty with
        x := post.1, p := post.2, iniH := s.fus.hdg, iniP := s.fus.pos, iniT := s.fus.tgt } } }

/-- The validity bits of the fused output (06 R200). -/
def fusedValid (s : State) : Nat :=
  b2n s.fus.hdg + 2 * b2n s.fus.pos + 4 * b2n s.fus.tgt + 8 * b2n (vget s.fus.votes 0).hold.isSome +
    16 * b2n (vget s.fus.votes 1).hold.isSome + 32 * b2n ((vget s.fus.votes 0).lost || (vget s.fus.votes 1).lost)

/-- The registers 0x2320 to 0x2322 as the votes stand (06 R203). -/
def fusionRegs (s : State) : State :=
  let p := vget s.fus.votes 0
  let h := vget s.fus.votes 1
  let pick (v : VoteUnit) : Nat := match v.pick with
    | some q => q
    | none => 0xFF
  wrAll s [(0x2320, BitVec.ofNat 32 (b2n s.fus.hdg + 2 * b2n s.fus.pos + 4 * b2n s.fus.tgt + 8 * b2n (modelValid s) +
      256 * p.state + 2048 * h.state + 0x4000 * b2n p.lost + 0x8000 * b2n h.lost)),
    (0x2321, BitVec.ofNat 32 (p.timer + 65536 * h.timer)), (0x2322, BitVec.ofNat 32 (pick p + 256 * pick h))]

/-- The fused output and its registers (06 R200, R203). -/
def fusedOutput (post : List F32 × List (List F32)) (motion : Option Meas) (s : State) : State :=
  let sd (i : Nat) : F32 := f32Sqrt (mAt post.2 i i)
  let o : Fused := ⟨post.1, sd 0, sd 1, sd 2, fusedValid s, (vget s.fus.votes 0).state, (vget s.fus.votes 1).state,
    match motion with
    | some m => m.v1
    | none => 0, match motion with
    | some m => m.v2
    | none => 0, match motion with
    | some m => m.v3.getD 0
    | none => 0, (s.fus.news.filter (fun n => n.meas.kind == 6)).map (·.meas)⟩
  wrAll (fusionRegs { s with fus := { s.fus with out := o } })
    (((List.range 15).map fun i => (0x2330 + i, fAt post.1 i)) ++ [(0x233F, BitVec.ofNat 32 s.clk.beat)])

/-- The update phase ends on cycle 419 999 (06 R184-R200). -/
def execFusionUpdate (s : State) : Out :=
  if !s.clk.beats then .next s else
  let s := stageDone 1 (advance (beatCycle s 419999) s)
  let pre := fusionPrelude s
  let a := votePhase 1 (votePhase 0 pre.1)
  let use := (List.range 32).map (useSource a.1)
  let s1 := { a.1 with fus := { a.1.fus with cur := { a.1.fus.cur with
    use := use, holdP := (vget a.1.fus.votes 0).hold.isSome, holdH := (vget a.1.fus.votes 1).hold.isSome } } }
  let ini := initPhase ((s1, a.2), pre.2)
  let s2 := ini.1.1
  let r := applyMeas s2 0 s2.fus.cur (s2.fus.hdg, s2.fus.pos, s2.fus.tgt) ini.2 (ungatedIn s2 0)
  let s3 := pickApplied 0 s2.fus.cur s2
  let motion := motionFor s3 0
  .next (raiseAll ini.1.2 (fusedOutput r.1 motion (loftWrite r.1 r.2 s3)))

/-! ### Rows of the votes' counts -/

/-- A track goes 500 beats without an associated sample (06 R189). The row stands before the beat's FUSION_UPDATE, in whose lifecycle, after
the births (R184), the track is deleted. -/
def execTrackSilenceExpiry (i : Fin 48) (s : State) : Out :=
  match trackAt (fusionPrelude s).1.1 i.val, trackAt s i.val with
  | some t, some u =>
    if beatGap s.clk.beat t.lastBeat < 500 then .next s else
    let s1 := putTrack i.val (some { u with silent := true }) (advance (beatCycle s 419999) s)
    .next (raiseIf t.confirmed 41 (trackArg t.src i.val) s1)
  | _, _ => .next s
where
  /-- Beats from b to a. -/
  beatGap (a b : Nat) : Nat := (a + 2 ^ 32 - b) % 2 ^ 32

/-- Does the vote of this beat end the hold of a quantity (06 R194)? -/
def holdEnds (s : State) (q : Fin 2) : Bool :=
  let p := (fusionPrelude s).1.1
  let v := vget p.fus.votes q
  let f := findVote p q
  let pick := match pickDue p q with
    | some (some _) => true
    | _ => false
  let gone (i : Nat) : Bool := match trackAt p i with
    | some t => !t.contra
    | none => true
  match v.hold with
  | none => false
  | some .contradict => pick || decide (100 ≤ agreeCount q v f) || (decide (3 ≤ f.n) && f.major) ||
      (match v.pair with
       | some x => gone x.1 || gone x.2
       | none => true)
  | some .noMajority => pick || decide (100 ≤ agreeCount q v f)
  | some .none => pick || decide (1 ≤ f.n)

/-- Model hold of a quantity ends in the vote of a beat (06 R194): the row stands before the beat's FUSION_UPDATE, whose vote
then finds no hold. -/
def execModelHoldEnd (q : Quantity) (s : State) : Out :=
  let i : Fin 2 := match q with
    | .position => 0
    | .heading => 1
  if !holdEnds s i then .next s else
  let e := endHold i (advance (beatCycle s 419999) s)
  .next (raiseAll e.2 (wrFlag e.1 0x2320 (14 + i.val) false))

/-- A VOTED_OUT track is used again after 100 consecutive votes within distance 4 (06 R192); before the beat's
FUSION_UPDATE. -/
def execVotedOutReadmit (i : Fin 48) (s : State) : Out :=
  let p := (fusionPrelude s).1.1
  match trackAt p i.val, trackAt s i.val with
  | some t, some u =>
    match quantityOf t.last.kind with
    | none => .next s
    | some q =>
      let near := match (findVote p q).dists.find? (·.1 == i.val) with
        | some d => f32Le d.2 (f32OfInt 4)
        | none => false
      if t.votedOut && near && decide (99 ≤ t.near) then
        .next (raise 39 (t.src + 0x8000) (putTrack i.val (some { u with votedOut := false, near := 0 })
          (advance (beatCycle s 419999) s)))
      else .next s
  | _, _ => .next s

/-! ### Opcodes -/

/-- SELECT_REFERENCE (06 R196). -/
def opSelectReference : OpSpec where
  code := 0x27
  check _ p s :=
    let q : Fin 2 := if byteAt p 0 = 1 then 1 else 0
    let src := byteAt p 1
    let votes := s.fus.tracks.toList.any fun t => match t with
      | some x => x.src == src && x.confirmed && quantityOf x.last.kind == some q
      | none => false
    firstBad [(decide (byteAt p 0 ≤ 1), 0), (src == 0xFF || (decide (src ≤ 31) && votes), 1), (zerosAt p 2 2, 2)]
  halter _ _ := true
  targets _ _ := [0x2322]
  commit _ p s :=
    let q : Fin 2 := if byteAt p 0 = 1 then 1 else 0
    okResult (updVote q (fun v => { v with
      newPick := some (s.clk.beat, if byteAt p 1 = 0xFF then none else some (byteAt p 1)) }) s)

/-- SELECT_REFERENCE. -/
def execSelectReference (r : Req) (s : State) : Out := .next (serve opSelectReference r s)

/-- REPLAY_WINDOW_SET (06 R201). -/
def opReplayWindowSet : OpSpec where
  code := 0x28
  check _ p _ := firstBad [(decide (byteAt p 0 ≤ 64), 0), (zerosAt p 1 3, 1)]
  halter _ _ := true
  targets _ _ := [0x2300]
  commit _ p s := okResult (wrFld s 0x2300 6 0 (byteAt p 0))

/-- REPLAY_WINDOW_SET. -/
def execReplayWindowSet (r : Req) (s : State) : Out := .next (serve opReplayWindowSet r s)

/-- USE of a track entry (06 R202); where several hold, in the order tentative, excluded, voted out, contradict, hold, not
a candidate, gate failure (DESIGN CHOICE, log 17). -/
def trackUse (s : State) (t : Track) : Nat :=
  let v := match quantityOf t.last.kind with
    | some q => vget s.fus.votes q
    | none => vget s.fus.votes 0
  if !t.confirmed then 7
  else if (match v.pick with
      | some p => p != t.src
      | none => false) then 5
  else if t.votedOut then 2 else if t.contra then 3 else if v.hold.isSome then 4
  else if !t.cand then 6 else if t.failed then 1 else 0

/-- One entry of TRACK_LIST_READ (06 R202). -/
def trackEntry (s : State) (t : Option Track) : List Byte :=
  match t with
  | none => leBytes 1 0xFF ++ zeroBytes 15
  | some x => leBytes 1 x.src ++ leBytes 1 (if x.confirmed then 2 else 1) ++ leBytes 1 (trackUse s x) ++
      leBytes 1 x.fails ++ leBytes 2 x.passes ++ leBytes 2 (min 65535 ((s.clk.beat + 2 ^ 32 - x.lastBeat) % 2 ^ 32)) ++
      leBytes 4 x.born ++ wordBytes x.lastD

/-- TRACK_LIST_READ (06 R202). -/
def opTrackListRead : OpSpec where
  code := 0x2A
  internal _ s := yardFenced s 2
  commit _ _ s := okData s (s.fus.tracks.toList.flatMap (trackEntry s))

/-- TRACK_LIST_READ. -/
def execTrackListRead (r : Req) (s : State) : Out := .next (serve opTrackListRead r s)

/-- Is the value of a fusion parameter within its range (06 R203)? -/
def fusionParamOk (r : Regs) (id : Nat) : Bool :=
  let w := regGet r id
  let posF := f32IsFinite w && f32Lt 0 w
  let sg := signedOf 32 w.toNat
  if id = 0x2300 then decide (bitsOf w 6 0 ≤ 64) && decide (100 ≤ bitsOf w 31 16) && decide (bitsOf w 31 16 ≤ 5000)
  else if id = 0x2301 then decide (sg.natAbs ≤ 900000000)
  else if id = 0x2302 then decide (sg.natAbs ≤ 1800000000)
  else if id = 0x2304 then decide (100 ≤ bitsOf w 15 0) && decide (bitsOf w 15 0 ≤ 10000)
  else if 0x2310 ≤ id ∧ id ≤ 0x2315 then posF
  else if id = 0x2316 ∨ id = 0x2317 then f32IsFinite w && f32Le 0 w
  else true

end Sys2Proof.Machine
end

