-- ==== Sys2Proof/Machine/Control.lean ====
section
/-! DEFINITION. The vessel control law and the DP modes (08 R234-R262): the mode stall, mode entry, references, force law,
wind, joystick, berth hold and track following. -/
namespace Sys2Proof.Machine

/-! ### The mode stall -/

/-- Change the control law's state. -/
def updCtl (f : Control → Control) (s : State) : State := { s with ctl := f s.ctl }

/-- Write the mode stall (08 R235, R261 DP_MODE_STATE) with a cause, and raise DP_MODE when the mode, the auto-heading flag
or the degraded flag changes (08 R262). -/
def writeMode (mode : Nat) (auto : Bool) (preset : Nat) (degr : Bool) (cause : Nat) (s : State) : State :=
  let old := rd s 0x2000
  let arg := mode + 8 * b2n auto + 64 * b2n degr + 256 * cause
  let same := bitsOf old 2 0 == mode && bitOf old 3 == auto && bitOf old 6 == degr
  let s1 := updCtl (fun c => { c with
    modeAt := some s.clk.beat
    posNew := c.posNew.map (fun t => { t with after := false })
    hdgNew := c.hdgNew.map (fun t => { t with after := false }) })
    (wr s 0x2000 (BitVec.ofNat 32 (arg + 16 * preset)))
  raiseIf (!same) 64 arg s1

/-- Does a mode use the position law (08 R234, R239)? -/
def needsPosition (mode : Nat) : Bool := mode == 3 || mode == 4 || mode == 5

/-- Does a mode use the heading law (08 R234, R239)? -/
def needsHeading (mode : Nat) (auto : Bool) : Bool := (mode == 1 && auto) || decide (2 ≤ mode)

/-- The module requirements of a mode (08 R236), against the fused output of the latest completed beat, with a track
loaded for FOLLOW_TRACK. -/
def modeAllowed (s : State) (mode : Nat) (auto : Bool) (preset : Nat) : Bool :=
  let bit (i : Nat) : Bool := s.ctl.ready / 2 ^ i % 2 == 1
  let demand := (List.range 3).all fun a => !f32IsZero (rd s (0x2020 + a))
  let heading := bit 0 && !bit 15
  let position := bit 1 && !bit 14
  let track := flag s 0x2101 7
  (mode == 0 || demand) && (!needsHeading mode auto || heading) && (!needsPosition mode || position) &&
    (mode != 4 || track) && (mode == 0 || preset == 3 || bit 3)

/-- The field checks of MODE_SET (08 R238). -/
def modeFields (expert : Bool) (p : List Byte) : List (Bool × Nat) :=
  let m := byteAt p 0
  let o := byteAt p 1
  let auto := o % 2 == 1
  let keep := o / 8 % 2 == 1
  [(decide (m ≤ 5), 0),
   (decide (o < 16) && (!auto || m == 1) && (!keep || o / 2 % 4 == 0) && (!expert || (o / 2 % 4 == 3 && !keep)), 1),
   (zerosAt p 2 2, 2), (decide (leAt p 4 2 ≤ 20000), 4), (decide (byteAt p 6 ≤ 1), 6),
   (decide (byteAt p 7 ≤ 1) && (byteAt p 7 == 0 || m == 5), 7)] ++
  (if expert then (List.range 27).map fun i => (f32IsFinite (wordAt p (8 + 4 * i)), 8 + 4 * i) else [])

/-- The preset that a MODE_SET leaves in the stall: its own, or the one held with KEEP_GAINS. -/
def presetOf (s : State) (p : List Byte) : Nat :=
  if byteAt p 1 / 8 % 2 = 1 then fld s 0x2000 5 4 else byteAt p 1 / 2 % 4

/-- MODE_SET in its two forms (08 R236, R238): mode, push and matrices in one commit. -/
def modeSet (expert : Bool) (opc : Nat) : OpSpec where
  code := opc
  check _ p s :=
    match firstBad (modeFields expert p) with
    | some x => some x
    | none =>
      if modeAllowed s (byteAt p 0) (byteAt p 1 % 2 == 1) (presetOf s p) then none else some (stBadParam, 0)
  halter _ _ := true
  targets p _ := [0x2000] ++ (if byteAt p 7 = 1 then [0x2010] else []) ++
    (if expert then (List.range 27).map (0x2040 + ·) else [])
  commit port p s :=
    let s1 := if byteAt p 7 = 1 then wr s 0x2010 (BitVec.ofNat 32 (leAt p 4 2 + 65536 * byteAt p 6)) else s
    let s2 := if expert then wrAll s1 ((List.range 27).map fun i => (0x2040 + i, wordAt p (8 + 4 * i))) else s1
    okResult (writeMode (byteAt p 0) (byteAt p 1 % 2 == 1) (presetOf s p) false port.val s2)

/-- MODE_SET, basic form. -/
def opModeSetBasic : OpSpec := modeSet false 0x10

/-- MODE_SET basic (08 R238). -/
def execModeSetBasic (r : Req) (s : State) : Out := .next (serve opModeSetBasic r s)

/-- MODE_SET, expert form. -/
def opModeSetExpert : OpSpec := modeSet true 0x11

/-- MODE_SET expert (08 R238). -/
def execModeSetExpert (r : Req) (s : State) : Out := .next (serve opModeSetExpert r s)

/-- LOSS_MODE_SET (08 R240). -/
def opLossModeSet : OpSpec where
  code := 0x1A
  check _ p _ := firstBad [(decide (byteAt p 0 ≤ 2), 0), (decide (byteAt p 1 ≤ 1), 1), (decide (byteAt p 2 ≤ 1), 2),
    (zerosAt p 3 1, 3)]
  halter _ _ := true
  targets _ _ := [0x2001]
  commit _ p s := okResult (wr s 0x2001 (BitVec.ofNat 32 (byteAt p 0 + 4 * byteAt p 1 + 8 * byteAt p 2)))

/-- LOSS_MODE_SET. -/
def execLossModeSet (r : Req) (s : State) : Out := .next (serve opLossModeSet r s)

/-! ### Setpoints, joystick, berth push and track -/

/-- A binary32 value within two bounds, finite. -/
def f32In (lo hi x : F32) : Bool := f32Le lo x && f32Le x hi

/-- SETPOINT_SET (08 R252): a component that the mode stall does not take is refused at byte 12. -/
def opSetpointSet : OpSpec where
  code := 0x12
  check _ p s :=
    let m := fld s 0x2000 2 0
    let a := byteAt p 12
    let far := f32OfInt 100000
    let near (o : Nat) : Bool := f32In (f32Neg far) far (wordAt p o)
    let kept (o : Nat) (lo hi : F32) : Bool := f32IsZero (wordAt p o) || f32In lo hi (wordAt p o)
    match firstBad [(near 0, 0), (near 4, 4), (f32Le 0 (wordAt p 8) && f32Lt (wordAt p 8) f32TwoPi, 8),
      (decide (1 ≤ a) && decide (a ≤ 3), 12), (zerosAt p 13 3, 13),
      (kept 16 (fC 5 100) (f32OfInt 2), 16), (kept 20 (fC 1 1000) (fC 1 10), 20)] with
    | some x => some x
    | none =>
      if (a % 2 == 0 || m == 3) && (a / 2 == 0 || m == 2 || m == 3 || m == 5) then none else some (stBadParam, 12)
  halter _ _ := true
  targets _ _ := [0x2003, 0x2004, 0x2005, 0x2008, 0x2009]
  commit _ p s :=
    let after := s.ctl.modeAt == some s.clk.beat
    let s1 := if byteAt p 12 % 2 = 1 then
      updCtl (fun c => { c with posNew := some ⟨wordAt p 0, wordAt p 4, after⟩ })
        (wrAll s [(0x2003, wordAt p 0), (0x2004, wordAt p 4)]) else s
    let s2 := if byteAt p 12 / 2 = 1 then
      updCtl (fun c => { c with hdgNew := some ⟨wordAt p 8, 0, after⟩ }) (wr s1 0x2005 (wordAt p 8)) else s1
    let s3 := if f32IsZero (wordAt p 16) then s2 else wr s2 0x2008 (wordAt p 16)
    okResult (if f32IsZero (wordAt p 20) then s3 else wr s3 0x2009 (wordAt p 20))

/-- SETPOINT_SET. -/
def execSetpointSet (r : Req) (s : State) : Out := .next (serve opSetpointSet r s)

/-- JOYSTICK_SET (08 R254): refused with JOY_SOURCE 1. -/
def opJoystickSet : OpSpec where
  code := 0x14
  check _ p s :=
    let unit (o : Nat) : Bool := f32In (f32Neg f32One) f32One (wordAt p o)
    match firstBad [(unit 0, 0), (unit 4, 4), (unit 8, 8), (zerosAt p 12 4, 12)] with
    | some x => some x
    | none => if flag s 0x2018 0 then some (stBadParam, 0xFFFF) else none
  halter _ _ := true
  targets _ _ := [0x08002018]
  commit _ p s := okResult (updCtl (fun c => { c with joyNew := some [wordAt p 0, wordAt p 4, wordAt p 8] }) s)

/-- JOYSTICK_SET. -/
def execJoystickSet (r : Req) (s : State) : Out := .next (serve opJoystickSet r s)

/-- BERTH_PUSH_SET (08 R258): a change of SIDE under push in BERTH_HOLD is refused at byte 2. -/
def opBerthPushSet : OpSpec where
  code := 0x16
  check _ p s :=
    let turn := s.ctl.mode == 5 && s.ctl.push != 0 && fld s 0x2010 16 16 != byteAt p 2
    firstBad [(decide (leAt p 0 2 ≤ 20000), 0), (decide (byteAt p 2 ≤ 1) && !turn, 2), (zerosAt p 3 1, 3),
      (decide (1 ≤ leAt p 4 2) && decide (leAt p 4 2 ≤ 10000), 4), (zerosAt p 6 2, 6)]
  halter _ _ := true
  targets _ _ := [0x2010, 0x2011]
  commit _ p s := okResult (wrFld (wr s 0x2010 (BitVec.ofNat 32 (leAt p 0 2 + 65536 * byteAt p 2))) 0x2011 15 0
    (leAt p 4 2))

/-- BERTH_PUSH_SET. -/
def execBerthPushSet (r : Req) (s : State) : Out := .next (serve opBerthPushSet r s)

/-- Waypoint i of a TRACK_LOAD payload (08 R259). -/
def waypointAt (p : List Byte) (i : Nat) : Waypoint :=
  let o := 8 + 16 * i
  ⟨wordAt p o, wordAt p (o + 4), wordAt p (o + 8), leAt p (o + 12) 2, leAt p (o + 14) 2⟩

/-- The checks of one waypoint (08 R259). -/
def waypointChecks (p : List Byte) (i : Nat) : List (Bool × Nat) :=
  let o := 8 + 16 * i
  let w := waypointAt p i
  let far := f32OfInt 100000
  [(f32In (f32Neg far) far w.n, o), (f32In (f32Neg far) far w.e, o + 4), (f32In (fC 5 100) (f32OfInt 6) w.speed, o + 8),
   (decide (w.heading ≤ 62831) || w.heading == 0xFFFF, o + 12),
   (decide (1 ≤ w.accept) && decide (w.accept ≤ 1000), o + 14)]

/-- TRACK_STATE of a track (08 R261): waypoint steered for, loaded, count, end reached. -/
def trackWord (leg count : Nat) (atEnd : Bool) : Word :=
  BitVec.ofNat 32 (leg % 128 + 128 * b2n (decide (0 < count)) + 256 * (count % 128) + 0x8000 * b2n atEnd)

/-- TRACK_LOAD (08 R259): BUSY while the mode stall holds FOLLOW_TRACK. -/
def opTrackLoad : OpSpec where
  code := 0x18
  count p := p.length == 8 + 16 * leAt p 0 2
  check _ p _ :=
    let w := leAt p 0 2
    firstBad ([(decide (1 ≤ w) && decide (w ≤ 64), 0), (decide (byteAt p 2 < w), 2), (zerosAt p 3 5, 3)] ++
      (List.range w).flatMap (waypointChecks p))
  busy _ _ s := fld s 0x2000 2 0 == 4
  halter _ _ := true
  targets _ _ := [0x2101]
  commit _ p s :=
    let w := leAt p 0 2
    okResult (updCtl (fun c => { c with trackNew := some ((List.range w).map (waypointAt p), byteAt p 2) })
      (wr s 0x2101 (trackWord (byteAt p 2) w false)))

/-- TRACK_LOAD. -/
def execTrackLoad (r : Req) (s : State) : Out := .next (serve opTrackLoad r s)

/-- A write of the working origin clears the loaded track (08 R259). -/
def clearTrack (s : State) : State := updCtl (fun c => { c with trackNew := some ([], 0) }) (wr s 0x2101 0)

/-! ### The beat edge -/

/-- The control law's part of the setting snapshot (01 R46): targets, joystick and track written before the edge, and
FUSION_STATE of the beat that has completed. -/
def controlSnapshot (s : State) : State :=
  let c := s.ctl
  let c1 : Control := match c.joyNew with
    | some j => { c with joy := j, joyBeat := some s.clk.beat, joyNew := none }
    | none => c
  let c2 : Control := match c1.trackNew with
    | some t => { c1 with track := t.1, start := t.2, leg := t.2, atEnd := false, trackNew := none }
    | none => c1
  { s with ctl := { c2 with
      posSet := c.posNew, hdgSet := c.hdgNew, posNew := none, hdgNew := none, ready := (rd s 0x2320).toNat } }

/-! ### Reference loss -/

/-- Has a quantity REF_LOST standing, or does its hold timer reach 3 000 in this beat (06 R195)? -/
def lostNow (s : State) (q : Fin 2) : Bool :=
  let v := vget s.fus.votes q
  v.lost || (v.hold.isSome && decide (3000 ≤ v.timer))

/-- The safety supervisor's commit on cycle 420 000 (08 R239-R241). The heading-loss mode governs when both quantities
are lost. -/
def lossCommit (q : Fin 2) (s : State) : State :=
  let mode := fld s 0x2000 2 0
  let auto := flag s 0x2000 3
  let preset := fld s 0x2000 5 4
  let heading := lostNow s 1
  let put (m : Nat) (degr : Bool) (cause : Nat) (s : State) : State :=
    match arbitrate 1 3 [0x2000] s with
    | none => s
    | some s1 => sticky (writeMode m false preset degr cause s1) 0x210C 0
  let hdgMode := fld s 0x2001 2 2
  if heading && needsHeading mode auto then put hdgMode false 3 s
  else if q = 0 ∧ needsPosition mode then
    if mode = 5 ∧ flag s 0x2001 3 then put 5 true 2 s
    else
      let m := fld s 0x2001 1 0
      if heading && needsHeading m false then put hdgMode false 3 s else put m false 2 s
  else s

/-- REF_LOST of a quantity (06 R195, R200, 08 R239): the bit, that of the fused output of the beat, FUSION_STICKY bit 4, the event, and the loss mode on cycle
420 000. -/
def execRefLost (q : Quantity) (s : State) : Out :=
  let i : Fin 2 := match q with
    | .position => 0
    | .heading => 1
  let v := vget s.fus.votes i
  if v.lost || v.hold.isNone || decide (v.timer < 3000) then .next s else
  let s1 := advance (beatCycle s 419999) s
  let s2 := raise 38 i.val (sticky (wrFlag (updVote i (fun v => { v with lost := true }) s1) 0x2320 (14 + i.val) true)
    0x2323 4)
  let s3 := { s2 with fus := { s2.fus with out := { s2.fus.out with valid := s2.fus.out.valid ||| 32 } } }
  .next (lossCommit i (advance (beatCycle s 420000) s3))

/-! ### Mode entry -/

/-- The mode of the beat in its snapshot: code, auto heading, degraded. -/
def modeNow (s : State) : Nat × Bool × Bool := (sfld s 0x2000 2 0, sflag s 0x2000 3, sflag s 0x2000 6)

/-- Is this the first beat of the mode (08 R237)? -/
def modeEnters (s : State) : Bool := modeNow s != (s.ctl.mode, s.ctl.auto, s.ctl.degr)

/-- The first beat of the current mode (08 R253): the auto-heading flag and the degraded flag, which stands in place of a mode change
(R241), start no new one. -/
def modeFirst (s : State) : Nat := if (modeNow s).1 != s.ctl.mode then s.clk.beat else s.ctl.first

/-- Does a mode use the stick (08 R234, R241)? -/
def usesStick (m : Nat × Bool × Bool) : Bool := m.1 == 1 || m.1 == 2 || (m.1 == 5 && m.2.2)

/-- The axes that the mode holds by a law (08 R234): surge, sway, yaw. Yaw in JOYSTICK with auto heading is held by the mode
also while the stick drives it. -/
def modeHolds (m : Nat × Bool × Bool) : List Bool :=
  [m.1 == 3 || m.1 == 4 || (m.1 == 5 && !m.2.2), m.1 == 3 || m.1 == 4, needsHeading m.1 m.2.1]

/-- A flag of a list. -/
def bAt (l : List Bool) (i : Nat) : Bool := l.getD i false

/-! ### Joystick -/

/-- Beats from b to k. -/
def beatsFrom (b k : Nat) : Nat := (k + 2 ^ 32 - b) % 2 ^ 32

/-- Deflections of the beat and the mask of zeroed axes (08 R253). The 4–20 mA inputs are judged in every mode, the age of JOYSTICK_SET in
a mode that uses the stick. -/
def joyRaw (s : State) : List F32 × Nat :=
  let k := s.clk.beat
  let n := beatsFrom (modeFirst s) k
  let lim := sfld s 0x2018 15 8
  if sflag s 0x2018 0 then
    let one (a : Nat) : F32 := if s.ctl.joyBad / 2 ^ a % 2 = 1 then 0 else
      f32Clamp (f32Neg f32One) f32One (f32Div (f32Sub (fAt s.ctl.joyMa a) (f32OfInt 12)) (f32OfInt 8))
    ((List.range 3).map one, s.ctl.joyBad % 8)
  else if !usesStick (modeNow s) then ([0, 0, 0], 0)
  else
    let age := match s.ctl.joyBeat with
      | some b => if beatsFrom b k ≤ n then some (beatsFrom b k) else none
      | none => none
    match age with
    | some a => if a < lim then (s.ctl.joy, 0) else ([0, 0, 0], 7)
    | none => if n < lim then ([0, 0, 0], 0) else ([0, 0, 0], 7)

/-- A deflection after the deadband (08 R253). -/
def deadband (d j : F32) : F32 :=
  if f32Le (f32Abs j) d then 0 else
  let m := f32Div (f32Sub (f32Abs j) d) (f32Sub f32One d)
  if f32Sign j then f32Neg m else m

/-- The deflections J' of the beat (08 R253). -/
def joyNow (s : State) : List F32 := (joyRaw s).1.map (deadband (fC (sfld s 0x2018 23 16) 256))

/-- The latest JOYSTICK_SET becomes JOY_TIMEOUT beats old (08 R253): the deflections are zeroed. The row stands before the beat's
CONTROL_LAW_OUTPUT, which finds the same set of axes. -/
def execJoyTimeoutExpiry (s : State) : Out :=
  if sflag s 0x2018 0 || (joyRaw s).2 != 7 || s.ctl.joyZero == 7 || !s.clk.beats then .next s else
  .next (raise 68 7 (sticky (updCtl (fun c => { c with joyZero := 7 }) (advance (beatCycle s 469999) s)) 0x210C 3))

/-- After 200 beats of zero yaw stick the heading law takes yaw (08 R255): target and reference become the fused heading of the
beat. The row stands before the beat's CONTROL_LAW_OUTPUT. -/
def execJoyHeadingResume (s : State) : Out :=
  let m := modeNow s
  if modeEnters s || m.1 != 1 || !m.2.1 || s.ctl.autoYaw || decide (s.ctl.joyRest < 199) ||
      !f32IsZero (fAt (joyNow s) 2) then .next s else
  let psi := wrapTwoPi (fAt s.fus.out.x 2)
  .next (updCtl (fun c => { c with autoYaw := true, tgtPsi := psi, refPsi := psi, vPsi := 0, velPsi := 0 })
    (advance (beatCycle s 469999) s))

/-! ### Wind -/

/-- The wind measurement of the beat (08 R249): of the lowest-numbered eligible source, the one for the latest slot. -/
def windMeas (s : State) : Option Meas :=
  let l := s.fus.out.wind.filter fun m => bitOf (srd s 0x202A) m.src
  l.foldl (fun (a : Option Meas) m => match a with
    | none => some m
    | some b => if m.src < b.src ∨ (m.src = b.src ∧ b.stamp ≤ m.stamp) then some m else a) none

/-- WIND_STALE beats pass without a wind measurement (08 R249). The row stands before the beat's CONTROL_LAW_OUTPUT. -/
def execWindStaleExpiry (s : State) : Out :=
  if s.ctl.stale || (windMeas s).isSome || decide (s.ctl.windAge + 1 < sfld s 0x2029 31 16) || !s.clk.beats then .next s
  else
    let src := match s.ctl.windSrc with
      | some q => q
      | none => 0
    .next (raise 67 src (sticky (updCtl (fun c => { c with stale := true }) (advance (beatCycle s 469999) s)) 0x210C 2))

/-- Entry of a coefficient table at an angle, interpolated (08 R250). -/
def windCoef (s : State) (base : Nat) (g : F32) : F32 :=
  let pos := f32Div (f32Mul g (f32OfInt 18)) f32Pi
  let i := (f32Floor pos).toNat
  let f := f32Sub pos (f32OfInt i)
  let c0 := srd s (base + i % 36)
  let c1 := srd s (base + (i + 1) % 36)
  f32Add c0 (f32Mul f (f32Sub c1 c0))

/-- The wind filter of the beat (08 R249): filtered vector, latest speed and direction, source, age, stale, and whether the
measurement ends a stale time. -/
def windStep (s : State) : Control × Bool :=
  let c := s.ctl
  let c1 : Control := match windMeas s with
    | some m => { c with windV := m.v1, windG := m.v2, windSrc := some m.src, windAge := 0, stale := false }
    | none => { c with windAge := min (c.windAge + 1) 65535 }
  let back := c.stale && !c1.stale
  let v := if c1.stale then 0 else c1.windV
  let a := f32Div hBeat (f32Add (fC (sfld s 0x2029 15 0) 10) hBeat)
  let go (x d : F32) : F32 := f32Add x (f32Mul a (f32Sub (f32Mul v d) x))
  ({ c1 with wx := go c.wx (Config.cos c1.windG), wy := go c.wy (Config.sin c1.windG) }, back)

/-- The wind force (08 R250). -/
def windForce (s : State) (c : Control) : List F32 :=
  let v2 := f32Add (f32Sq c.wx) (f32Sq c.wy)
  let vf := f32Sqrt v2
  let g := wrapTwoPi (Config.atan2 c.wy c.wx)
  let q := f32Mul (f32Mul (fC 1 2) (srd s 0x202B)) (f32Sq vf)
  [f32Mul (f32Mul q (srd s 0x202C)) (windCoef s 0x2080 g),
   f32Mul (f32Mul q (srd s 0x202D)) (windCoef s 0x20A4 g),
   f32Mul (f32Mul (f32Mul q (srd s 0x202D)) (srd s 0x202E)) (windCoef s 0x20C8 g)]

/-! ### References -/

/-- The body-x component of a vector in the north-east plane, as a vector. -/
def bodyX (psi n e : F32) : F32 × F32 :=
  let k := f32Add (f32Mul (Config.cos psi) n) (f32Mul (Config.sin psi) e)
  (f32Mul k (Config.cos psi), f32Mul k (Config.sin psi))

/-- Mode entry (08 R237, R255, R256, R257, R260) and the targets written by SETPOINT_SET. -/
def enterMode (s : State) (c : Control) : Control :=
  let m := modeNow s
  let o := s.fus.out
  let fn := fAt o.x 0
  let fe := fAt o.x 1
  let fpsi := wrapTwoPi (fAt o.x 2)
  let holds := modeHolds m
  let new := modeEnters s
  let was := c.held
  let c1 : Control := if !new then c else
    let c := { c with mode := m.1, auto := m.2.1, degr := m.2.2, first := modeFirst s }
    let c : Control :=
      if bAt holds 0 && !bAt was 0 then
        { c with tgtN := fn, tgtE := fe, refN := fn, refE := fe, vPos := 0, velN := 0, velE := 0 }
      else if bAt holds 1 && !bAt was 1 then
        let t := bodyX fpsi (f32Sub c.tgtN fn) (f32Sub c.tgtE fe)
        let r := bodyX fpsi (f32Sub c.refN fn) (f32Sub c.refE fe)
        let v := bodyX fpsi c.velN c.velE
        { c with tgtN := f32Add fn t.1, tgtE := f32Add fe t.2, refN := f32Add fn r.1, refE := f32Add fe r.2
                 velN := v.1, velE := v.2, vPos := f32Sqrt (f32Add (f32Sq v.1) (f32Sq v.2)) }
      else c
    let c : Control := if bAt holds 2 && !bAt was 2 then
      { c with tgtPsi := fpsi, refPsi := fpsi, vPsi := 0, velPsi := 0 } else c
    let keep (i : Nat) : F32 := if bAt holds i && bAt was i then fAt c.integ i else 0
    let berth := m.1 == 5 && s.ctl.mode != 5
    let left := m.1 != 5 && s.ctl.mode == 5
    let follow := m.1 == 4 && s.ctl.mode != 4
    let c : Control := { c with
      integ := [keep 0, keep 1, keep 2], held := holds
      autoYaw := needsHeading m.1 m.2.1, joyRest := 0 }
    let c : Control := if berth then { c with push := 0, pushY := none, drift := false } else
      if left then { c with shed := 0, pushY := none, drift := false } else c
    if follow then { c with leg := c.start, legN := fn, legE := fe, atEnd := false } else c
  let c2 : Control := match c.posSet with
    | some t => if m.1 = 3 ∧ (bAt was 0 && bAt was 1 || !new || t.after) then { c1 with tgtN := t.a, tgtE := t.b } else c1
    | none => c1
  let c3 : Control := match c.hdgSet with
    | some t => if (m.1 = 2 ∨ m.1 = 3 ∨ m.1 = 5) ∧ (bAt was 2 || !new || t.after) then { c2 with tgtPsi := t.a } else c2
    | none => c2
  { c3 with posSet := none, hdgSet := none }

/-- The direction of the leg that ends at a waypoint (08 R260). -/
def legHeading (c : Control) (w : Waypoint) : F32 :=
  if w.heading = 0xFFFF then wrapTwoPi (Config.atan2 (f32Sub w.e c.legE) (f32Sub w.n c.legN)) else fC w.heading 10000

/-- Track following (08 R260): arrival at a waypoint, the next leg, the end, and the targets. Answers the events. -/
def trackStep (s : State) (c : Control) : Control × List (Nat × Nat) :=
  if c.mode != 4 then (c, []) else
  match c.track[c.leg]? with
  | none => (c, [])
  | some w =>
    let o := s.fus.out
    let dn := f32Sub (fAt o.x 0) w.n
    let de := f32Sub (fAt o.x 1) w.e
    let here := !c.atEnd && f32Le (f32Sqrt (f32Add (f32Sq dn) (f32Sq de))) (fC w.accept 10)
    let last := decide (c.track.length ≤ c.leg + 1)
    let aim (c : Control) : Control := match c.track[c.leg]? with
      | some w => { c with tgtN := w.n, tgtE := w.e, tgtPsi := legHeading c w }
      | none => c
    if !here then (aim c, [])
    else if last then (aim { c with atEnd := true }, [(65, c.leg), (66, c.leg)])
    else (aim { c with leg := c.leg + 1, legN := w.n, legE := w.e }, [(65, c.leg)])

/-- The speed after one beat of the trapezoidal profile (08 R251). -/
def rampSpeed (v a lim d : F32) : F32 :=
  f32Min (f32Min (f32Add v (f32Mul a hBeat)) lim) (f32Sqrt (f32Mul (f32Mul (f32OfInt 2) a) d))

/-- The position reference moves towards its target (08 R251). -/
def rampPos (s : State) (c : Control) : Control :=
  let dn := f32Sub c.tgtN c.refN
  let de := f32Sub c.tgtE c.refE
  let d := f32Sqrt (f32Add (f32Sq dn) (f32Sq de))
  let lim := if c.mode = 4 then (match c.track[c.leg]? with
    | some w => w.speed
    | none => srd s 0x2008) else srd s 0x2008
  let v := rampSpeed c.vPos (srd s 0x200A) lim d
  let step := f32Mul v hBeat
  if f32Le d step then { c with refN := c.tgtN, refE := c.tgtE, vPos := 0, velN := 0, velE := 0 }
  else
    let un := f32Div dn d
    let ue := f32Div de d
    { c with refN := f32Add c.refN (f32Mul step un), refE := f32Add c.refE (f32Mul step ue), vPos := v
             velN := f32Mul v un, velE := f32Mul v ue }

/-- The heading reference moves towards its target on the shortest arc (08 R251). -/
def rampHdg (s : State) (c : Control) : Control :=
  let diff := wrapPi (f32Sub c.tgtPsi c.refPsi)
  let d := f32Abs diff
  let v := rampSpeed c.vPsi (srd s 0x200B) (srd s 0x2009) d
  let step := f32Mul v hBeat
  if f32Le d step then { c with refPsi := c.tgtPsi, vPsi := 0, velPsi := 0 }
  else
    let sg (x : F32) : F32 := if f32Sign diff then f32Neg x else x
    { c with refPsi := wrapTwoPi (f32Add c.refPsi (sg step)), vPsi := v, velPsi := sg v }

/-! ### Gains and force law -/

/-- Period in s, and damping ratio 0.9, of a preset for an axis (08 R247). -/
def presetPeriod (preset axis : Nat) : Nat :=
  match preset, axis with
  | 0, 2 => 40
  | 0, _ => 60
  | 1, 2 => 70
  | 1, _ => 100
  | _, 2 => 110
  | _, _ => 150

/-- The gain matrices of the beat, row by row: KP, KD, KI (08 R247, R248). -/
def gains (s : State) : List (List F32) × List (List F32) × List (List F32) :=
  let preset := sfld s 0x2000 5 4
  if preset = 3 then
    let mat (base : Nat) : List (List F32) :=
      (List.range 3).map fun i => (List.range 3).map fun j => srd s (base + 3 * i + j)
    (mat 0x2040, mat 0x2049, mat 0x2052)
  else
    let v := vessel s
    let m := [v.m11, v.m22, v.m33]
    let d := [v.d11, v.d22, v.d33]
    let om (i : Nat) : F32 := f32Div f32TwoPi (f32OfInt (presetPeriod preset i))
    let kp (i : Nat) : F32 := f32Mul (fAt m i) (f32Sq (om i))
    let kd (i : Nat) : F32 := f32Max (f32Sub (f32Mul (f32Mul (f32Mul (f32OfInt 2) (fC 9 10)) (fAt m i)) (om i)) (fAt d i)) 0
    let ki (i : Nat) : F32 := f32Div (f32Mul (kp i) (om i)) (f32OfInt 10)
    let diag (f : Nat → F32) : List (List F32) :=
      (List.range 3).map fun i => (List.range 3).map fun j => if i = j then f i else 0
    (diag kp, diag kd, diag ki)

/-- Errors of the axes under a law (08 R244); an axis under none has error 0 in the products of the others (DEDUCED,
log 19). -/
def errors (s : State) (c : Control) (laws : List Bool) : List F32 × List F32 :=
  let x := s.fus.out.x
  let psi := fAt x 2
  let cs := Config.cos psi
  let sn := Config.sin psi
  let rot (n e : F32) : F32 × F32 :=
    (f32Add (f32Mul cs n) (f32Mul sn e), f32Add (f32Mul (f32Neg sn) n) (f32Mul cs e))
  let p := rot (f32Sub (fAt x 0) c.refN) (f32Sub (fAt x 1) c.refE)
  let v := rot c.velN c.velE
  let keep (l : List F32) : List F32 := (List.range 3).map fun i => if bAt laws i then fAt l i else 0
  (keep [p.1, p.2, wrapPi (f32Sub psi c.refPsi)],
   keep [f32Sub (fAt x 3) v.1, f32Sub (fAt x 4) v.2, f32Sub (fAt x 5) c.velPsi])

/-- The bias forces in the body frame (08 R244). -/
def biasBody (s : State) : List F32 :=
  let x := s.fus.out.x
  let cs := Config.cos (fAt x 2)
  let sn := Config.sin (fAt x 2)
  [f32Add (f32Mul cs (fAt x 6)) (f32Mul sn (fAt x 7)),
   f32Add (f32Mul (f32Neg sn) (fAt x 6)) (f32Mul cs (fAt x 7)), fAt x 8]

/-- Push and its ramp (08 R256, R257): towards PUSH in BERTH_HOLD, to 0 in other modes, 0 in STANDBY; in newton. The share of the
sway bias returns over 3 000 beats after BERTH_HOLD. -/
def pushStep (s : State) (c : Control) : Control :=
  let rate := sfld s 0x2011 15 0
  let goal := if c.mode = 5 then 100 * sfld s 0x2010 15 0 else 0
  let p := if c.push < goal then min goal (c.push + rate) else max goal (c.push - rate)
  { c with
    push := if c.mode = 0 then 0 else p
    side := if c.mode = 5 then sflag s 0x2010 16 else c.side
    shed := if c.mode = 5 then 0 else min 3000 (c.shed + 1) }

/-- The drift test (08 R256): answers whether the offset exceeds BERTH_LEAVE and the offset in 10 cm. -/
def driftStep (s : State) (c : Control) : Control × List (Nat × Nat) :=
  if c.mode != 5 then ({ c with drift := false }, []) else
  let x := s.fus.out.x
  let y := f32Add (f32Mul (f32Neg (Config.sin (fAt x 2))) (fAt x 0)) (f32Mul (Config.cos (fAt x 2)) (fAt x 1))
  let c1 : Control := if c.pushY.isNone ∧ c.push = 100 * sfld s 0x2010 15 0 then { c with pushY := some y } else c
  match c1.pushY with
  | none => (c1, [])
  | some y0 =>
    let away := if c1.side then f32Sub y0 y else f32Sub y y0
    let out := f32Lt (fC (sfld s 0x2011 31 16) 100) away
    let arg := min 0x7FFF (f32Floor (f32Mul (f32OfInt 10) away)).toNat
    ({ c1 with drift := out },
      if out && !c.drift then [(70, arg)] else if !out && c.drift then [(70, arg + 0x8000)] else [])

/-- The integral update (08 R245): ΔI, frozen while it winds into saturation, and the clamp. Answers the frozen mask. -/
def integStep (s : State) (c : Control) (laws holds : List Bool) (ki : List (List F32)) (eP : List F32) :
    List F32 × Nat :=
  let one (i : Nat) : F32 × Bool :=
    if !bAt holds i then (0, false)
    else if !bAt laws i then (fAt c.integ i, true)
    else
      let di := f32Mul hBeat (fDot (ki.getD i []) eP)
      let short := f32Sub (fAt c.tauD i) (fAt s.alc.res.tauA i)
      let lim := srd s (0x2024 + i)
      let frozen := f32Lt (f32Mul (fC 5 100) (srd s (0x2020 + i))) (f32Abs short) && !f32IsZero di &&
        (f32Sign (f32Neg di) == f32Sign short)
      (f32Clamp (f32Neg lim) lim (f32Add (fAt c.integ i) (if frozen then 0 else di)), frozen)
  ((List.range 3).map fun i => (one i).1,
   ((List.range 3).map fun i => 2 ^ i * b2n (one i).2).foldl (· + ·) 0)

/-- The demand limit (08 R246): limited demand and the mask of limited axes. -/
def demandLimit (s : State) (tau : List F32) : List F32 × Nat :=
  let one (i : Nat) : F32 := f32Clamp (f32Neg (srd s (0x2020 + i))) (srd s (0x2020 + i)) (fAt tau i)
  ((List.range 3).map one,
   ((List.range 3).map fun i => 2 ^ i * b2n (f32Lt (srd s (0x2020 + i)) (f32Abs (fAt tau i)))).foldl (· + ·) 0)

/-- The demand before its limit (08 R244, R256, R257). -/
def forceLaw (s : State) (c : Control) (laws : List Bool) (kp kd : List (List F32)) (eP eV w stick : List F32) :
    List F32 :=
  if c.mode = 0 then [0, 0, 0] else
  let bias := biasBody s
  let manual := c.mode == 1 || c.mode == 2
  let gain := srd s 0x2027
  let wgain := srd s 0x2028
  let p := f32OfInt c.push
  let push := if c.side then p else f32Neg p
  let one (i : Nat) : F32 :=
    let pid := if bAt laws i then
      f32Sub (f32Sub (f32Neg (fDot (kp.getD i []) eP)) (fDot (kd.getD i []) eV)) (fAt c.integ i) else 0
    let fb := if i = 1 then (if c.mode = 5 then 0 else fC c.shed 3000) else f32One
    let b := if manual && i != 2 && !sflag s 0x2018 1 then 0 else f32Mul (f32Mul gain fb) (fAt bias i)
    let wi := if manual && i != 2 && !sflag s 0x2018 2 then 0 else f32Mul wgain (fAt w i)
    let st := fAt stick i
    f32Add (f32Add (f32Sub (f32Sub pid b) wi) st) (if i = 1 then push else 0)
  (List.range 3).map one

/-- The control law ends on cycle 469 999 (08 R242). -/
def execControlLawOutput (s : State) : Out :=
  if !s.clk.beats then .next s else
  let s := stageDone 2 (advance (beatCycle s 469999) s)
  let raw := joyRaw s
  let j := joyNow s
  let wind := windStep s
  let c0 := enterMode s wind.1
  let m := modeNow s
  let auto1 := m.1 == 1 && m.2.1
  let still := f32IsZero (fAt j 2)
  let c1 : Control := if auto1 then { c0 with
    autoYaw := c0.autoYaw && still, joyRest := if still then c0.joyRest + 1 else 0 } else c0
  let holds := modeHolds m
  let laws := [bAt holds 0, bAt holds 1, bAt holds 2 && (!auto1 || c1.autoYaw)]
  let tr := trackStep s c1
  let c2 := if bAt laws 0 then rampPos s tr.1 else tr.1
  let c3 := pushStep s (if bAt laws 2 then rampHdg s c2 else c2)
  let w := windForce s c3
  let g := gains s
  let e := errors s c3 laws
  let sticks (i : Nat) : Bool := (m.1 == 1 && (i != 2 || !bAt laws 2)) || (m.1 == 2 && i != 2) ||
    (m.1 == 5 && m.2.2 && i == 0)
  let stick := (List.range 3).map fun i => if sticks i then f32Mul (fAt j i) (srd s (0x201A + i)) else 0
  let tau := forceLaw s c3 laws g.1 g.2.1 e.1 e.2 w stick
  let integ := integStep s c3 laws holds g.2.2 e.1
  let lim := demandLimit s tau
  let dr := driftStep s { c3 with integ := integ.1 }
  let c4 := dr.1
  let blk := block100 s
  let clamp := lim.2 != 0 && c4.clampBlk != some blk
  let joyEv := raw.2 != 0 && raw.2 != s.ctl.joyZero
  let c5 : Control := { c4 with
    held := [bAt holds 0, bAt holds 1, bAt laws 2]
    tauD := lim.1, w := w, joyZero := raw.2, clampBlk := if clamp then some blk else c4.clampBlk }
  let st := m.1 + 8 * b2n (lim.2 != 0) + 16 * integ.2 + 128 * b2n c5.stale + 256 * b2n (raw.2 != 0) + 512 * b2n c5.drift
  let sbits := (rd s 0x210C).toNat ||| (2 * b2n (lim.2 != 0)) ||| (8 * b2n (raw.2 != 0)) |||
    (16 * b2n (c5.drift && !s.ctl.drift)) ||| (32 * b2n (tr.2.any (·.1 == 66)))
  let tgt (s : State) : State :=
    let s1 := if s.ctl.posNew.isNone then wrAll s [(0x2003, c5.tgtN), (0x2004, c5.tgtE)] else s
    if s.ctl.hdgNew.isNone then wr s1 0x2005 c5.tgtPsi else s1
  let trk : List (Nat × Word) := if c5.trackNew.isSome then [] else
    [(0x2101, trackWord c5.leg c5.track.length c5.atEnd)]
  let src := match c5.windSrc with
    | some q => q
    | none => 0
  let ev := tr.2 ++ dr.2 ++ eventsWhen [(wind.2, 67, src + 0x8000), (joyEv, 68, raw.2), (clamp, 69, lim.2)]
  .next (raiseAll ev (tgt (wrAll { s with ctl := c5 }
    ([(0x2100, BitVec.ofNat 32 st)] ++ trk ++ [(0x2102, fAt c5.tauD 0), (0x2103, fAt c5.tauD 1), (0x2104, fAt c5.tauD 2),
      (0x2105, fAt w 0), (0x2106, fAt w 1), (0x2107, fAt w 2), (0x2108, fAt integ.1 0), (0x2109, fAt integ.1 1),
      (0x210A, fAt integ.1 2), (0x210B, BitVec.ofNat 32 s.clk.beat), (0x210C, BitVec.ofNat 32 sbits),
      (0x210D, c5.refN), (0x210E, c5.refE), (0x210F, c5.refPsi)]))))

/-! ### Parameters -/

/-- Is the value of a control parameter within its range (08 R261)? -/
def controlParamOk (r : Regs) (id : Nat) : Bool :=
  let w := regGet r id
  let within (lo hi : F32) : Bool := f32In lo hi w
  let nonneg := f32IsFinite w && f32Le 0 w
  if id = 0x2001 then decide (bitsOf w 1 0 ≤ 2)
  else if id = 0x2008 then within (fC 5 100) (f32OfInt 2)
  else if id = 0x2009 then within (fC 1 1000) (fC 1 10)
  else if id = 0x200A then within (fC 1 1000) (fC 1 10)
  else if id = 0x200B then within (fC 1 10000) (fC 1 100)
  else if id = 0x2010 then decide (bitsOf w 15 0 ≤ 20000)
  else if id = 0x2011 then decide (1 ≤ bitsOf w 15 0) && decide (bitsOf w 15 0 ≤ 10000) && decide (10 ≤ bitsOf w 31 16) &&
    decide (bitsOf w 31 16 ≤ 1000)
  else if id = 0x2018 then decide (10 ≤ bitsOf w 15 8) && decide (bitsOf w 23 16 ≤ 64)
  else if id = 0x2019 then [bitsOf w 7 0, bitsOf w 15 8, bitsOf w 23 16].all fun x => decide (x < 48) || x == 0xFF
  else if 0x201A ≤ id ∧ id ≤ 0x2026 then (if 0x2020 ≤ id then nonneg else f32IsFinite w)
  else if id = 0x2027 then within 0 f32One
  else if id = 0x2028 then within 0 (fC 3 2)
  else if id = 0x2029 then decide (10 ≤ bitsOf w 15 0) && decide (bitsOf w 15 0 ≤ 600) && decide (10 ≤ bitsOf w 31 16) &&
    decide (bitsOf w 31 16 ≤ 6000)
  else if id = 0x202B then within f32One (fC 3 2)
  else if (0x202C ≤ id ∧ id ≤ 0x202E) ∨ (0x2040 ≤ id ∧ id ≤ 0x205A) ∨ (0x2080 ≤ id ∧ id ≤ 0x20EB) then f32IsFinite w
  else true

end Sys2Proof.Machine
end

