-- ==== Sys2Proof/Machine/Ipm.lean ====
section
/-! DEFINITION. The interior-point iteration of the Gumar engine in binary32 (09 R277-R280): the reduced KKT system,
its factorisation without pivoting, refinement and step. -/
namespace Sys2Proof.Machine

/-- A list of n values by index. -/
def tab {α : Type} (n : Nat) (f : Nat → α) : List α := (List.range n).map f

/-- The value of an index in a list of pairs; 0 where it has none. -/
def look (l : List (Nat × F32)) (i : Nat) : F32 :=
  match l.find? (·.1 == i) with
  | some x => x.2
  | none => 0

/-- A compensated sum in binary32 (09 R278). -/
def compSum (l : List F32) : F32 :=
  let r := l.foldl (fun (a : F32 × F32) t =>
    let u := f32Add a.1 t
    let e := if f32Le (f32Abs t) (f32Abs a.1) then f32Add (f32Sub a.1 u) t else f32Add (f32Sub t u) a.1
    (u, f32Add a.2 e)) (0, 0)
  f32Add r.1 r.2

/-- A factorisation LDLᵀ: the columns of L below the diagonal, the pivots, and the rows whose pivot was tiny. -/
structure Ldl where
  cols  : List (List F32)
  diag  : List F32
  tiny  : List Nat

/-- An element of L. -/
def Ldl.at (f : Ldl) (i k : Nat) : F32 := fAt (f.cols.getD k []) i

/-- LDLᵀ in row order without pivoting (09 R277). A pivot below 2^-100 of the largest diagonal magnitude, or zero, is replaced by a quiet NaN,
in compatibility mode by 2^-20 of the mean diagonal element (09 R279, R280). -/
def ldl (compat : Bool) (m : List (List F32)) : Ldl :=
  let n := m.length
  let dg := tab n fun i => mAt m i i
  let lim := f32Mul (f32OfDyadic 1 (-100)) (dg.foldl (fun a x => f32Max a (f32Abs x)) 0)
  let sub := if compat then f32Mul (f32OfDyadic 1 (-20)) (f32Div (f32Sum dg) (f32OfInt n)) else f32NaN
  (List.range n).foldl (fun (f : Ldl) j =>
    let s := (List.range j).foldl (fun s k => f32Sub s (f32Mul (f32Sq (f.at j k)) (fAt f.diag k))) (mAt m j j)
    let bad := f32IsZero s || f32Lt (f32Abs s) lim
    let d := if bad then sub else s
    let col := tab n fun i => if i ≤ j then 0 else
      f32Div ((List.range j).foldl (fun v k => f32Sub v (f32Mul (f32Mul (f.at i k) (f.at j k)) (fAt f.diag k))) (mAt m i j)) d
    ⟨f.cols ++ [col], f.diag ++ [d], if bad then f.tiny ++ [j] else f.tiny⟩) ⟨[], [], []⟩

/-- Solve with a factorisation. -/
def ldlSolve (f : Ldl) (b : List F32) : List F32 :=
  let n := f.diag.length
  let z := (List.range n).foldl (fun (z : List F32) i =>
    z ++ [(List.range i).foldl (fun v k => f32Sub v (f32Mul (f.at i k) (fAt z k))) (fAt b i)]) []
  let y := List.zipWith f32Div z f.diag
  (List.range n).foldl (fun (x : List F32) j =>
    let i := n - 1 - j
    let v := (List.range j).foldl (fun v q => f32Sub v (f32Mul (f.at (i + 1 + q) i) (fAt x q))) (fAt y i)
    v :: x) []

/-- Is a variable held at one value (09 R277)? -/
def varFixed (v : AVar) : Bool := !f32Lt v.lo v.hi

/-- The width of a row's slack range; none for a force row. -/
def rowWidth (r : ARow) : Option F32 := r.range

/-- Is a row without slack: a power row whose range is 0 (09 R277)? -/
def rowFixed (r : ARow) : Bool :=
  match r.range with
  | some w => !f32Lt 0 w
  | none => false

/-- Has a row a bounded slack? -/
def rowBounded (r : ARow) : Bool := r.range.isSome && !rowFixed r

/-- The blocks of the problem: thruster and the places of its variables that are not held, in ascending thruster. -/
def blocksOf (vars : List AVar) : List (Nat × List Nat) :=
  (List.range 16).filterMap fun t =>
    let l := (List.range vars.length).filter fun i => match vars[i]? with
      | some v => v.idx / 3 == t && !varFixed v
      | none => false
    if l.isEmpty then none else some (t, l)

/-- The product of a row with values of all variables. -/
def rowDot (r : ARow) (x : List F32) : F32 := fDot r.coef x

/-- The product of a row with values of the free variables. -/
def rowFree (r : ARow) (free : List Nat) (x : List F32) : F32 :=
  f32Sum (free.map fun i => f32Mul (fAt r.coef i) (fAt x i))

/-- One bound pair: the change of its multiplier for a change ds of its distance, and the steps to the primal and the dual
boundary (09 R278); none where there is no boundary ahead. -/
def sideStep (mu z d ds : F32) : F32 × Option F32 × Option F32 :=
  let dz := f32Sub (f32Sub (f32Div mu d) z) (f32Div (f32Mul z ds) d)
  (dz, if f32Lt ds 0 then some (f32Div d (f32Neg ds)) else none,
    if f32Lt dz 0 then some (f32Div z (f32Neg dz)) else none)

/-- min (1, 0.995 of the largest step). -/
def stepLen (l : List (Option F32)) : F32 :=
  match l.filterMap id with
  | [] => f32One
  | a :: r => f32Min f32One (f32Mul (fC 995 1000) (r.foldl f32Min a))

/-- Centring μ = 0.1 gap / pairs (09 R278). -/
def centring (it : AIter) (free bnd : List Nat) : F32 :=
  let terms := free.flatMap (fun i => [f32Mul (fAt it.zl i) (fAt it.sl i), f32Mul (fAt it.zu i) (fAt it.su i)]) ++
    bnd.flatMap (fun r => [f32Mul (fAt it.vl r) (fAt it.tl r), f32Mul (fAt it.vu r) (fAt it.tu r)])
  if terms.isEmpty then 0 else f32Div (f32Mul (fC 1 10) (f32Sum terms)) (f32OfInt terms.length)

/-- Factors of an iteration: blocks with their matrices, and S. -/
structure Kkt where
  blocks : List (Nat × List Nat × List (List F32) × Ldl)
  schur  : Ldl

/-- K⁻¹ v over the blocks; 0 for a variable that is held. -/
def kInv (b : List (Nat × List Nat × List (List F32) × Ldl)) (n : Nat) (v : List F32) : List F32 :=
  let l := b.flatMap fun x => x.2.1.zip (ldlSolve x.2.2.2 (x.2.1.map (fAt v)))
  tab n (look l)

/-- Solve the reduced system once (09 R277). -/
def kktSolve (k : Kkt) (rows : List ARow) (free : List Nat) (n : Nat) (bx bl : List F32) : List F32 × List F32 :=
  let kx := kInv k.blocks n bx
  let rhs := List.zipWith (fun (r : ARow) b => f32Sub b (rowFree r free kx)) rows bl
  let dl := ldlSolve k.schur rhs
  let v := tab n fun i => if free.contains i then
    f32Add (fAt bx i) (f32Sum (List.zipWith (fun (r : ARow) l => f32Mul (fAt r.coef i) l) rows dl)) else 0
  (kInv k.blocks n v, dl)

/-- One iteration (09 R278). Answers the new iterate and the positions of tiny pivots in the order met (09 R280). -/
def ipmStep (p : AProb) (it : AIter) : AIter × List Nat :=
  let n := p.vars.length
  let m := p.rows.length
  let row (r : Nat) : ARow := p.rows.getD r ⟨0, [], 0, 0, 0, none, 0, []⟩
  let free := (List.range n).filter fun i => match p.vars[i]? with
    | some v => !varFixed v
    | none => false
  let bnd := (List.range m).filter fun r => rowBounded (row r)
  let mu := centring it free bnd
  -- right-hand sides with the bounds eliminated into diagonal terms
  let isFree (i : Nat) : Bool := free.contains i
  let sig := tab n fun i => if isFree i then
    f32Add (f32Div (fAt it.zl i) (fAt it.sl i)) (f32Div (fAt it.zu i) (fAt it.su i)) else 0
  let bx := tab n fun i => if !isFree i then 0 else
    let g0 := (List.range n).foldl (fun g j =>
      if f32IsZero (mAt p.hess i j) then g else f32Add g (f32Mul (mAt p.hess i j) (fAt it.x j))) (fAt p.lin i)
    let g := (List.range m).foldl (fun g r => f32Sub g (f32Mul (fAt (row r).coef i) (fAt it.lam r))) g0
    f32Sub (f32Add (f32Neg g) (f32Div mu (fAt it.sl i))) (f32Div mu (fAt it.su i))
  let sy := tab m fun r =>
    let w := row r
    if rowBounded w then f32Add (f32Add w.quad (f32Div (fAt it.vl r) (fAt it.tl r))) (f32Div (fAt it.vu r) (fAt it.tu r))
    else w.quad
  let by_ := tab m fun r =>
    let w := row r
    let t := f32Neg (f32Sub (f32Add (f32Mul w.quad (fAt it.y r)) w.lin) (fAt it.lam r))
    if rowBounded w then f32Sub (f32Add t (f32Div mu (fAt it.tl r))) (f32Div mu (fAt it.tu r)) else t
  let dd := tab m fun r => if rowFixed (row r) then 0 else f32Div f32One (fAt sy r)
  let bl := tab m fun r =>
    let w := row r
    let rp := f32Neg (f32Sub (f32Add (rowDot w it.x) (fAt it.y r)) w.rhs)
    if rowFixed w then rp else f32Sub rp (f32Mul (fAt dd r) (fAt by_ r))
  -- blocks, then S, without pivoting
  let blocks := (blocksOf p.vars).map fun b =>
    let k := b.2.map fun i => b.2.map fun j => if i = j then f32Add (mAt p.hess i j) (fAt sig i) else mAt p.hess i j
    (b.1, b.2, k, ldl p.compat k)
  let w := p.rows.map fun r => kInv blocks n r.coef
  let schur := tab m fun r => tab m fun q =>
    f32Add (rowFree (row q) free (w.getD r [])) (if r = q then fAt dd r else 0)
  let k : Kkt := ⟨blocks, ldl p.compat schur⟩
  let tiny := (blocks.filter fun b => !b.2.2.2.tiny.isEmpty).map (·.1) ++ k.schur.tiny.map (0x100 + ·)
  -- the step, refined twice
  let refine (a : List F32 × List F32) : List F32 × List F32 :=
    let ex := tab n fun i => match blocks.find? (fun b => b.2.1.contains i) with
      | none => 0
      | some b =>
        let at_ := b.2.1.idxOf i
        compSum ([fAt bx i] ++ (List.range b.2.1.length).map (fun j =>
            f32Neg (f32Mul (mAt b.2.2.1 at_ j) (fAt a.1 (b.2.1.getD j 0)))) ++
          (List.range m).map (fun r => f32Mul (fAt (row r).coef i) (fAt a.2 r)))
    let el := tab m fun r => compSum ([fAt bl r] ++
      free.map (fun i => f32Neg (f32Mul (fAt (row r).coef i) (fAt a.1 i))) ++ [f32Neg (f32Mul (fAt dd r) (fAt a.2 r))])
    let c := kktSolve k p.rows free n ex el
    (List.zipWith f32Add a.1 c.1, List.zipWith f32Add a.2 c.2)
  let st := refine (refine (kktSolve k p.rows free n bx bl))
  let dx := st.1
  let dl := st.2
  let dy := tab m fun r => if rowFixed (row r) then 0 else f32Div (f32Add (fAt by_ r) (fAt dl r)) (fAt sy r)
  -- step lengths and the new iterate
  let lo := tab n fun i => if isFree i then sideStep mu (fAt it.zl i) (fAt it.sl i) (fAt dx i) else (0, none, none)
  let hi := tab n fun i => if isFree i then sideStep mu (fAt it.zu i) (fAt it.su i) (f32Neg (fAt dx i)) else (0, none, none)
  let sl := tab m fun r => if rowBounded (row r) then sideStep mu (fAt it.vl r) (fAt it.tl r) (fAt dy r) else (0, none, none)
  let su := tab m fun r =>
    if rowBounded (row r) then sideStep mu (fAt it.vu r) (fAt it.tu r) (f32Neg (fAt dy r)) else (0, none, none)
  let all := lo ++ hi ++ sl ++ su
  let ap := stepLen (all.map (·.2.1))
  let ad := stepLen (all.map (·.2.2))
  let go (k : F32) (l d : List F32) : List F32 := List.zipWith (fun a b => f32Add a (f32Mul k b)) l d
  let back (l d : List F32) : List F32 := List.zipWith (fun a b => f32Sub a (f32Mul ap b)) l d
  ({ x := go ap it.x dx, y := go ap it.y dy, lam := go ad it.lam dl
     sl := go ap it.sl dx, su := back it.su dx, zl := go ad it.zl (lo.map (·.1)), zu := go ad it.zu (hi.map (·.1))
     tl := go ap it.tl dy, tu := back it.tu dy, vl := go ad it.vl (sl.map (·.1)), vu := go ad it.vu (su.map (·.1)) }, tiny)

/-! ### Starting points -/

/-- Distances and multipliers of a starting point (09 R284): each bound multiplier is 1 over the distance to its bound. -/
def startPoint (p : AProb) (x : List F32) (slack : Nat → F32) (lam : List F32) : AIter :=
  let n := p.vars.length
  let m := p.rows.length
  let row (r : Nat) : ARow := p.rows.getD r ⟨0, [], 0, 0, 0, none, 0, []⟩
  let y := tab m fun r => match (row r).range with
    | none => f32Sub (row r).rhs (rowDot (row r) x)
    | some _ => if rowFixed (row r) then 0 else slack r
  let w (r : Nat) : F32 := match (row r).range with
    | some w => w
    | none => 0
  let sl := List.zipWith (fun (v : AVar) a => if varFixed v then 0 else f32Sub a v.lo) p.vars x
  let su := List.zipWith (fun (v : AVar) a => if varFixed v then 0 else f32Sub v.hi a) p.vars x
  let tl := tab m fun r => if rowBounded (row r) then fAt y r else 0
  let tu := tab m fun r => if rowBounded (row r) then f32Sub (w r) (fAt y r) else 0
  let inv (d : F32) : F32 := f32Div f32One d
  let zinv (l : List F32) : List F32 := List.zipWith (fun (v : AVar) d => if varFixed v then 0 else inv d) p.vars l
  let vinv (l : List F32) : List F32 := tab m fun r => if rowBounded (row r) then inv (fAt l r) else 0
  ⟨x, y, lam, sl, su, zinv sl, zinv su, tl, tu, vinv tl, vinv tu⟩

/-- The centre of a box; its one value for a variable that is held. -/
def boxCentre (v : AVar) : F32 := if varFixed v then v.lo else f32Mul (f32Add v.lo v.hi) (fC 1 2)

/-- The centre of a slack's range. -/
def rangeCentre (r : ARow) : F32 :=
  match r.range with
  | some w => f32Mul w (fC 1 2)
  | none => 0

/-- A cold start (09 R284). -/
def coldStart (p : AProb) : AIter :=
  startPoint p (p.vars.map boxCentre) (fun r => match p.rows[r]? with
    | some w => rangeCentre w
    | none => 0) (List.replicate p.rows.length 0)

/-- The tag of a variable (09 R285): thruster, axis, kind. -/
def varTag (v : AVar) : Nat × Nat × Nat := (v.idx / 3, v.axis, v.kind)

/-- A value moved into a range, at least 1 % of its width from either end (09 R285). -/
def inset (lo hi x : F32) : F32 :=
  let w := f32Mul (fC 1 100) (f32Sub hi lo)
  f32Clamp (f32Add lo w) (f32Sub hi w) x

/-- A warm start from the last valid iterate (09 R285): answers whether any constraint changed. -/
def warmStart (p : AProb) (old : AIter) (ov : List AVar) (orow : List ARow) : AIter × Bool :=
  let oldVar (v : AVar) : Option Nat := ov.findIdx? (fun o => varTag o == varTag v)
  let oldRow (r : ARow) : Option Nat := orow.findIdx? (fun o => o.tag == r.tag)
  let same (r : ARow) : Option Nat := orow.findIdx? (fun o => o.tag == r.tag && o.scope == r.scope)
  let x := p.vars.map fun v => match oldVar v with
    | some i => if varFixed v then v.lo else inset v.lo v.hi (fAt old.x i)
    | none => boxCentre v
  let slack (r : Nat) : F32 := match p.rows[r]? with
    | none => 0
    | some w => match oldRow w, w.range with
      | some i, some hi => inset 0 hi (fAt old.y i)
      | _, _ => rangeCentre w
  let st := startPoint p x slack (p.rows.map fun w => match same w with
    | some i => fAt old.lam i
    | none => 0)
  let keepV (new oldL : List F32) : List F32 := List.zipWith (fun (v : AVar) z => match oldVar v with
    | some i => (match ov[i]? with
      | some o => if varFixed o || varFixed v then z else fAt oldL i
      | none => z)
    | none => z) p.vars new
  let keepR (new oldL : List F32) : List F32 := List.zipWith (fun (w : ARow) z => match same w with
    | some i => (match orow[i]? with
      | some o => if rowBounded o && rowBounded w then fAt oldL i else z
      | none => z)
    | none => z) p.rows new
  ({ st with zl := keepV st.zl old.zl, zu := keepV st.zu old.zu, vl := keepR st.vl old.vl, vu := keepR st.vu old.vu },
    p.vars.any (fun v => match (oldVar v).bind fun i => ov[i]? with
      | none => true
      | some o => varFixed o && !varFixed v) || p.rows.any (fun w => (same w).isNone))

end Sys2Proof.Machine
end

