-- ==== Sys2Proof/Machine/Alloc.lean ====
section
/-! DEFINITION. The thrust allocation (09 R263-R295): the problem of a beat, the iterations, validity, the fallback table,
extraction and results, power data, and configuration. Thruster requests stand in Machine/Servo.lean. -/
namespace Sys2Proof.Machine

/-! ### Thruster configuration -/

/-- The record of a thruster with its power fit (09 R263, R267, R294); rates in N per beat. -/
structure ThrCfg where
  kind : Nat
  bus  : Nat
  axes : List Nat
  x    : F32
  y    : F32
  ang  : F32
  fwd  : F32
  rev  : F32
  up   : F32
  dn   : F32
  slew : F32
  wear : F32
  brk  : List F32
  cur  : List F32
  p0   : F32

/-- The record of thruster t in a register file. -/
def thrCfg (r : Regs) (t : Nat) : ThrCfg :=
  let b := 0x2400 + 8 * t
  let g (i : Nat) : Word := regGet r (b + i)
  let f (i : Nat) : F32 := regGet r (0x2500 + 16 * t + i)
  ⟨bitsOf (g 0) 2 0, bitsOf (g 0) 5 4, [bitsOf (g 0) 13 8, bitsOf (g 0) 21 16, bitsOf (g 0) 29 24], g 1, g 2,
    fC (signedOf 16 (bitsOf (g 3) 15 0)) 10000, g 4, g 5, f32OfInt (bitsOf (g 6) 15 0), f32OfInt (bitsOf (g 6) 31 16),
    fC (bitsOf (g 7) 15 0) 100000, fC (bitsOf (g 7) 31 16) 256, [f 0, f 1, f 2], [f 3, f 4, f 5, f 6], f 7⟩

/-- The slots of a kind (09 R263). -/
def slotsOf (kind : Nat) : List Nat :=
  match kind with
  | 1 => [0]
  | 2 => [0]
  | 3 => [0, 1]
  | 4 => [0, 1, 2]
  | _ => []

/-- The axes that a thruster names, with their slots. -/
def thrAxes (c : ThrCfg) : List (Nat × Nat) :=
  (slotsOf c.kind).filterMap fun v => let a := c.axes.getD v 0x3F
    if a < 48 then some (v, a) else none

/-- The thruster and slot that name an axis (10 R296). -/
def axisOwner (r : Regs) (a : Nat) : Option (Nat × Nat) :=
  (List.range 16).findSome? fun t =>
    match (thrAxes (thrCfg r t)).find? (·.2 == a) with
    | some x => some (t, x.1)
    | none => none

/-! ### The power fit -/

/-- f, f' and f'' of a fit at a thrust in kN (09 R267). -/
def fitAt (c : ThrCfg) (x : F32) : F32 × F32 × F32 :=
  let b := [0] ++ c.brk
  let two := f32OfInt 2
  let r := (List.range 4).foldl (fun (a : F32 × F32 × F32 × Bool) i =>
    if a.2.2.2 then a else
    let k := fAt c.cur i
    let here := i == 3 || f32Le x (fAt b (i + 1))
    let dt := f32Sub (if here then x else fAt b (i + 1)) (fAt b i)
    (f32Add a.1 (f32Add (f32Mul a.2.1 dt) (f32Mul k (f32Sq dt))), f32Add a.2.1 (f32Mul (f32Mul two k) dt),
      f32Mul two k, here)) (0, 0, 0, false)
  (r.1, r.2.1, r.2.2.1)

/-- The magnitudes that a kind's fits take: slots with their shares (09 R267). -/
def fitTerms (kind : Nat) : List (List (Nat × F32)) :=
  let half := fC 1 2
  match kind with
  | 1 => [[(0, f32One)]]
  | 2 => [[(0, f32One)]]
  | 3 => [[(0, f32One), (1, f32One)]]
  | 4 => [[(0, f32One), (1, half)], [(2, f32One), (1, half)]]
  | _ => []

/-- Value in kW, gradient in kW/N and Hessian in kW/N² of one fit at forces in N (09 R267, R270). -/
def fitTerm (c : ThrCfg) (x : List F32) (l : List (Nat × F32)) : F32 × List F32 × List (List F32) :=
  let k := f32OfInt 1000
  let w := l.map fun z => f32Div (f32Mul z.2 (fAt x z.1)) k
  let mag := f32Sqrt (f32Sum (w.map f32Sq))
  let f := fitAt c mag
  let sc (i : Nat) : F32 := match l.find? (·.1 == i) with
    | some z => f32Div z.2 k
    | none => 0
  let u (i : Nat) : F32 := match l.findIdx? (·.1 == i) with
    | some j => if f32IsZero mag then 0 else f32Div (fAt w j) mag
    | none => 0
  let on (i : Nat) : Bool := l.any (·.1 == i)
  let h (i j : Nat) : F32 :=
    if !on i || !on j then 0 else
    let d : F32 := if i = j then f32One else 0
    let v := if f32IsZero mag then f32Mul (f32Mul (f32OfInt 2) (fAt c.cur 0)) d else
      let uu := f32Mul (u i) (u j)
      f32Add (f32Mul f.2.2 uu) (f32Mul (f32Div f.2.1 mag) (f32Sub d uu))
    f32Mul (f32Mul (sc i) (sc j)) v
  (f.1, tab 3 (fun i => f32Mul (sc i) (f32Mul f.2.1 (u i))), tab 3 fun i => tab 3 fun j => h i j)

/-- The fitted power of a thruster at the forces of its slots, with gradient and Hessian. -/
def thrFit (c : ThrCfg) (x : List F32) : F32 × List F32 × List (List F32) :=
  ((fitTerms c.kind).map (fitTerm c x)).foldl (fun a b =>
    (f32Add a.1 b.1, List.zipWith f32Add a.2.1 b.2.1, List.zipWith (List.zipWith f32Add) a.2.2 b.2.2))
    (0, [0, 0, 0], List.replicate 3 [0, 0, 0])

/-- The values of a thruster's slots among 48. -/
def slotVals (x : List F32) (t : Nat) : List F32 := [fAt x (3 * t), fAt x (3 * t + 1), fAt x (3 * t + 2)]

/-- P0 plus the fitted power, in kW. -/
def thrPower (c : ThrCfg) (x : List F32) : F32 := f32Add c.p0 (thrFit c x).1

/-! ### Power data -/

/-- Change a bus's power data. -/
def updBus (b : Nat) (f : PowerBus → PowerBus) (s : State) : State :=
  { s with alc := { s.alc with bus := vupdN s.alc.bus b f } }

/-- A bus's power data. -/
def busAt (s : State) (b : Nat) : PowerBus := vgetD s.alc.bus b ⟨none, none, 65535, true, none⟩

/-- The latch of power records at a beat edge (09 R272): the first RUN edge latches none. -/
def powerLatch (s : State) : State :=
  if s.twin.firstBeat then s else
  { s with alc := { s.alc with bus := s.alc.bus.map fun b => match b.rx with
      | some r => { b with rx := none, data := some r, age := 0 }
      | none => { b with age := satAdd 16 b.age 1 } } }

/-- Is a bus's power data stale in this beat (09 R272)? -/
def busStale (s : State) (b : Nat) : Bool :=
  let u := busAt s b
  sfld s 0x2480 5 4 == 2 || u.data.isNone || decide (sfld s 0x2480 15 8 < u.age)

/-- Is a bus present (09 R294 BUS_PRESENT)? -/
def busPresent (s : State) (b : Nat) : Bool := sflag s (0x2492 + 4 * b) 16

/-- P_avail in kW and the ramp rates in kW/s of a bus (09 R272). -/
def busLimits (s : State) (b : Nat) : Nat × Nat × Nat :=
  let safe := sfld s (0x2491 + 4 * b) 15 0
  let upDef := sfld s (0x2491 + 4 * b) 31 16
  let dnDef := sfld s (0x2492 + 4 * b) 15 0
  let cap (c x : Nat) : Nat := if c = 0 then x else min x c
  match (busAt s b).data with
  | some r =>
    if busStale s b then (safe, upDef, dnDef) else
    (cap (sfld s (0x2490 + 4 * b) 15 0) r.avail,
      cap (sfld s (0x2490 + 4 * b) 31 16) (match r.up with
        | some u => u
        | none => upDef),
      match r.dn with
      | some d => d
      | none => dnDef)
  | none => (safe, upDef, dnDef)

/-- The record of a bus in the input image (09 R275). -/
def powerRecord (s : State) (b : Nat) : List Byte :=
  let l := busLimits s b
  wordBytes (f32OfInt l.1) ++ wordBytes (f32OfInt l.2.1) ++ wordBytes (f32OfInt l.2.2) ++ leBytes 2 (busAt s b).age ++
    leBytes 1 (b2n (busStale s b)) ++ zeroBytes 1

/-- The sample latch forms the records of the four buses (09 R275). -/
def powerImage (s : State) : State := { s with alc := { s.alc with image := (List.range 4).flatMap (powerRecord s) } }

/-- AVAIL, UP and DN of a bus, as the input image holds them. -/
def imageLimits (s : State) (b : Nat) : F32 × F32 × F32 :=
  (wordAt s.alc.image (16 * b), wordAt s.alc.image (16 * b + 4), wordAt s.alc.image (16 * b + 8))

/-- A bus's power data goes stale after fresh data (09 R272), as the result of the beat reports it. The row stands before
the beat's ALLOC_RESULT. -/
def execPowerDataStale (b : Fin 4) (s : State) : Out :=
  let k := b.val
  if !s.clk.beats || (busAt s k).stale || !busStale s k then .next s else
  let s1 := updBus k (fun u => { u with stale := true }) (advance (beatCycle s 649999) s)
  .next (if busPresent s k then raise 75 k (sticky s1 0x24C5 4) else s1)

/-- Take a power record (09 R272). -/
def takePower (b : Nat) (r : PowerRec) (s : State) : State := updBus b (fun u => { u with rx := some r }) s

/-- The Porene power frame (09 R273). -/
def execPowerFrame (c : Nat) (bus : Fin 4) (f : CanFrame) (s : State) : Out :=
  let s := advance c s
  if fld s 0x2480 5 4 ≠ 0 ∨ fld s 0x2480 7 6 ≠ bus.val ∨ frameIdWord f ≠ rd s 0x2481 ∨ !canHears s bus ∨ f.remote then .next s
  else
    let p := f.data
    let ramp := byteAt p 1 / 2 % 2 == 1
    let bad := !f.fd || p.length != 12 || decide (3 < byteAt p 0) || decide (3 < byteAt p 1) || leAt p 10 2 != 0 ||
      (ramp && (leAt p 6 2 == 0 || leAt p 8 2 == 0))
    if bad then .next (bump s 0x2486 15 0 1)
    else
      let b := byteAt p 0
      if byteAt p 1 % 2 = 0 ∨ (busAt s b).count = some (leAt p 2 2) then .next s
      else .next (takePower b ⟨leAt p 4 2, if ramp then some (leAt p 6 2) else none, if ramp then some (leAt p 8 2) else none⟩
        (updBus b (fun u => { u with count := some (leAt p 2 2) }) s))

/-- A decimal field of PTBMP as a whole number within a range; none where it is not one. -/
def wholeField (l : List Nat) (hi : Nat) : Option Nat :=
  match decimal l with
  | some (v, 1) => if 0 ≤ v ∧ v ≤ (hi : Int) then some v.toNat else none
  | _ => none

/-- The sentence PTBMP (09 R274): its checks are those of 05 R146; one that fails its field parse is counted. -/
def execPtbmpSentence (c : Nat) (eth : Fin 2) (chars : List Byte) (s : State) : Out :=
  let s := advance c s
  if fld s 0x2480 5 4 ≠ 1 ∨ blockDown s 7 (4 + eth.val) ∨ 82 < chars.length then .next s else
  match checkedBody chars with
  | none => .next s
  | some body =>
    let f := splitFields body
    if fieldOf f 0 ≠ ("PTBMP".toList.map Char.toNat) then .next s else
    let st := fieldOf f 5
    let ramp (l : List Nat) : Option (Option Nat) := if l.isEmpty then some none else
      match wholeField l 65535 with
      | some 0 => none
      | some v => some (some v)
      | none => none
    match f.length == 6, wholeField (fieldOf f 1) 3, wholeField (fieldOf f 2) 65535, ramp (fieldOf f 3), ramp (fieldOf f 4) with
    | true, some b, some a, some u, some d =>
      if st = ['A'.toNat] then .next (takePower b ⟨a, u, d⟩ s)
      else if st = ['V'.toNat] then .next s
      else .next (bump s 0x2486 15 0 1)
    | _, _, _, _, _ => .next (bump s 0x2486 15 0 1)

/-! ### The problem -/

/-- rank_a of SHED_ORDER for surge, sway, yaw (09 R271). -/
def shedRanks (o : Nat) : List Nat :=
  match o with
  | 0 => [0, 1, 2]
  | 1 => [1, 0, 2]
  | 2 => [0, 2, 1]
  | 3 => [1, 2, 0]
  | 4 => [2, 0, 1]
  | _ => [2, 1, 0]

/-- S_a (09 R270). -/
def scaleAxis (s : State) (a : Nat) : F32 := if f32IsZero (srd s (0x2020 + a)) then f32One else srd s (0x2020 + a)

/-- θ0 of a thruster (09 R264): THR_ANGLE, the released azimuth, or the join angle of a steering axis whose variable no released result
has carried yet. -/
def thetaOf (s : State) (c : ThrCfg) (t : Nat) : F32 :=
  if c.kind < 3 then c.ang
  else match s.alc.live.find? (·.1 == 3 * t + 1) with
    | some v => if s.alc.rel.carry.contains (3 * t + 1) then fAt s.alc.rel.theta t
      else (vgetD s.servo.axes v.2 AxisUnit.off).join
    | none => fAt s.alc.rel.theta t

/-- The column of B of a variable (09 R264). -/
def columnOf (c : ThrCfg) (theta : F32) (normal : Bool) : List F32 :=
  let cs := Config.cos theta
  let sn := Config.sin theta
  if normal then [f32Neg sn, cs, f32Add (f32Mul c.x cs) (f32Mul c.y sn)]
  else [cs, sn, f32Sub (f32Mul c.x sn) (f32Mul c.y cs)]

/-- x0 of the variables of the beat (09 R266): the released values, 0 for one that was not live in the previous beat. -/
def startValues (s : State) : List F32 :=
  tab 48 fun i =>
    if s.alc.live.any (·.1 == i) && s.alc.was.any (·.1 == i) then fAt s.alc.rel.x0 i else 0

/-- The variables of the beat with their boxes (09 R265, R266). -/
def varsOf (s : State) (x0 theta : List F32) : List AVar :=
  (List.range 48).filterMap fun i =>
    match s.alc.live.find? (·.1 == i) with
    | none => none
    | some v =>
      let t := i / 3
      let c := thrCfg s.snap t
      let th := fAt theta t
      let x := fAt x0 i
      if i % 3 = 1 then
        let along := if c.kind = 4 then f32Add (fAt x0 (3 * t)) (fAt x0 (3 * t + 2)) else fAt x0 (3 * t)
        let n := f32Mul (f32Abs along) (Config.tan c.slew)
        some ⟨i, v.2, c.kind, f32Neg n, n, x, columnOf c th true⟩
      else
        let dn := if f32Lt 0 x then c.dn else c.up
        let up := if f32Lt x 0 then c.dn else c.up
        some ⟨i, v.2, c.kind, f32Max (f32Neg c.rev) (f32Sub x dn), f32Min c.fwd (f32Add x up), x, columnOf c th false⟩

/-- P_prev of a bus (09 R269): P0 plus f at x0 over its thrusters that carry a live variable in the released result. -/
def prevPower (s : State) (b : Nat) : F32 :=
  f32Sum ((List.range 16).map fun t =>
    let c := thrCfg s.snap t
    if c.bus = b ∧ s.alc.rel.live.any (fun v => v.1 / 3 == t) then thrPower c (slotVals s.alc.rel.x0 t) else 0)

/-- What a thruster brings to its bus's linear power bound (09 R268): the constant, and the gradient by slot. -/
def boundOf (c : ThrCfg) (x0 : List F32) (mine : List AVar) : F32 × List F32 :=
  let f := thrFit c x0
  let kap := f32Div (f32Mul (f32OfInt 2) (c.cur.foldl f32Max 0)) (f32OfInt 1000000)
  let d2 := f32Sum (mine.map fun v => f32Sq (f32Max (f32Sub v.hi v.x0) (f32Sub v.x0 v.lo)))
  let gx := f32Sum (mine.map fun v => f32Mul (fAt f.2.1 (v.idx % 3)) v.x0)
  (f32Add (f32Sub (f32Add c.p0 f.1) gx) (f32Mul (f32Mul (fC 1 2) kap) d2), f.2.1)

/-- The settings that the solver consumes, whose poison makes its result invalid (09 R281, 01 R25): DEMAND_MAX, the thruster records and
fits, the solver's settings and those of the buses. -/
def allocConsumes (id : Nat) : Bool :=
  let upto (lo hi : Nat) : Bool := decide (lo ≤ id) && decide (id ≤ hi)
  upto 0x2020 0x2022 || upto 0x2400 0x2480 || upto 0x2482 0x2485 || (upto 0x2490 0x249F && id % 4 != 3) || (upto 0x2500 0x25FF && decide (id % 16 < 8))

/-- The problem of the beat (09 R264-R271). -/
def buildProblem (s : State) : AProb :=
  let x0 := startValues s
  let theta := tab 16 fun t => thetaOf s (thrCfg s.snap t) t
  let vars := varsOf s x0 theta
  let n := vars.length
  let v (i : Nat) : AVar := vars.getD i ⟨0, 0, 0, 0, 0, 0, []⟩
  let mine (t : Nat) : List AVar := vars.filter fun v => v.idx / 3 == t
  let cfg := tab 16 fun t => thrCfg s.snap t
  let c (t : Nat) : ThrCfg := cfg.getD t (thrCfg s.snap t)
  let fits := tab 16 fun t => thrFit (c t) (slotVals x0 t)
  let fit (t : Nat) : F32 × List F32 × List (List F32) := fits.getD t (0, [], [])
  let bnds := tab 16 fun t => if (mine t).isEmpty then (0, []) else boundOf (c t) (slotVals x0 t) (mine t)
  let bnd (t : Nat) : F32 × List F32 := bnds.getD t (0, [])
  let on (b t : Nat) : Bool := (c t).bus == b && !(mine t).isEmpty
  let base := tab 4 fun b => f32Sum ((List.range 16).map fun t => if on b t then (bnd t).1 else 0)
  let coef (b i : Nat) : F32 := let t := (v i).idx / 3
    if on b t then fAt (bnd t).2 ((v i).idx % 3) else 0
  let least := tab 4 fun b => f32Add (fAt base b) (f32Sum ((List.range n).map fun i =>
    f32Min (f32Mul (coef b i) (v i).lo) (f32Mul (coef b i) (v i).hi)))
  let prev := tab 4 (prevPower s)
  let lims := tab 4 (imageLimits s)
  let lim (b : Nat) : F32 × F32 × F32 := lims.getD b (0, 0, 0)
  let perBeat (x : F32) : F32 := f32Div x (f32OfInt 100)
  let cap := tab 4 fun b => f32Min (lim b).1 (f32Add (fAt prev b) (perBeat (lim b).2.1))
  let short := tab 4 fun b => busPresent s b && f32Lt (fAt cap b) (fAt least b)
  let limit := tab 4 fun b => if bAt short b then fAt least b else fAt cap b
  let wp := f32Div (srd s 0x2483) (srd s 0x2485)
  let hess := tab n fun i => tab n fun j =>
    if (v i).idx / 3 ≠ (v j).idx / 3 then 0 else
    let t := (v i).idx / 3
    let h := f32Mul wp (mAt (fit t).2.2 ((v i).idx % 3) ((v j).idx % 3))
    if i = j ∧ (v i).idx % 3 = 1 then
      f32Add h (f32Div (f32Mul (f32OfInt 2) (c t).wear) (f32Sq (c t).fwd)) else h
  let pure (i j : Nat) : F32 :=
    if (v i).idx / 3 ≠ (v j).idx / 3 then 0 else
    f32Mul wp (mAt (fit ((v i).idx / 3)).2.2 ((v i).idx % 3) ((v j).idx % 3))
  let grad (i : Nat) : F32 := f32Mul wp (fAt (fit ((v i).idx / 3)).2.1 ((v i).idx % 3))
  let hx (i : Nat) : F32 := f32Sum ((List.range n).map fun j => f32Mul (pure i j) (v j).x0)
  let lin := tab n fun i => f32Sub (grad i) (hx i)
  let objT := f32Sum ((List.range n).map fun i =>
    f32Mul (v i).x0 (f32Sub (f32Mul (fC 1 2) (hx i)) (grad i)))
  let ranks := shedRanks (sfld s 0x2480 2 0)
  let tags := vars.map varTag
  let force := tab 3 fun a =>
    let sc := scaleAxis s a
    let q := f32Div (f32Mul (f32Mul (f32OfInt 2) (srd s 0x2482)) (f32OfDyadic 1 (10 * ranks.getD a 0))) (f32Sq sc)
    (⟨a, vars.map (fun v => fAt v.col a), fAt s.ctl.tauD a, q, 0, none, sc, tags⟩ : ARow)
  let buses := (List.range 4).filter (busPresent s)
  let cw (b : Nat) : F32 := f32Div (srd s 0x2484) (f32Sq (perBeat (lim b).2.2))
  let gap (b : Nat) : F32 := f32Sub (fAt limit b) (fAt prev b)
  let power := buses.map fun b =>
    (⟨3 + b, tab n (coef b), f32Sub (fAt limit b) (fAt base b), f32Mul (f32OfInt 2) (cw b),
      f32Neg (f32Mul (f32Mul (f32OfInt 2) (cw b)) (gap b)), some (f32Sub (fAt limit b) (fAt least b)),
      f32Max (fAt limit b) f32One, (vars.filter fun v => (c (v.idx / 3)).bus == b).map varTag⟩ : ARow)
  let objc := buses.foldl (fun a b => f32Add a (f32Mul (cw b) (f32Sq (gap b)))) objT
  { vars := vars, hess := hess, lin := lin, rows := force ++ power, base := base, cap := cap, limit := limit, least := least
    avail := (List.range 4).map fun b => (f32ToInt (lim b).1).toNat, objc := objc
    cold := decide (0 < s.alc.streak) || s.alc.valid.isNone, partly := false
    poison := s.snapPoison.any allocConsumes, tauD := s.ctl.tauD, short := short, compat := sflag s 0x2480 3, theta := theta }

/-- The problem with its starting point, cold or warm (09 R284, R285). -/
def startProblem (s : State) : AProb × AIter :=
  let p := buildProblem s
  match p.cold, s.alc.valid with
  | false, some (it, ov, orow) =>
    let w := warmStart p it ov orow
    ({ p with partly := w.2 }, w.1)
  | _, _ => (p, coldStart p)

/-- One iteration completes (09 R276, R278): the first of a beat sets up the problem on cycles 470 000 to 471 999. -/
def execAllocIteration (s : State) : Out :=
  let n := s.alc.done
  if 20 ≤ n ∨ !s.clk.beats then .next s else
  let s := stageDone 3 (advance (beatCycle s (472000 + 8800 * (n + 1) - 1)) s)
  let st := match s.alc.prob with
    | some p => (p, s.alc.iter)
    | none => startProblem s
  let r := ipmStep st.1 st.2
  let first := match s.alc.tiny with
    | some x => some x
    | none => r.2.head?
  .next { s with alc := { s.alc with
    prob := some st.1, iter := r.1, done := n + 1, tiny := first, reg := s.alc.reg || (st.1.compat && !r.2.isEmpty) } }

/-! ### Validity and fallback -/

/-- p_b(x) of a bus at the values of the problem's variables (09 R268). -/
def busPower (p : AProb) (b : Nat) (x : List F32) : F32 :=
  match p.rows.find? (·.tag == 3 + b) with
  | some r => f32Add (fAt p.base b) (rowDot r x)
  | none => 0

/-- B x of the problem's variables. -/
def forceOf (p : AProb) (x : List F32) : List F32 :=
  tab 3 fun a => f32Sum (List.zipWith (fun (v : AVar) z => f32Mul (fAt v.col a) z) p.vars x)

/-- Is the solver's result valid (09 R281)? Its variables are those of the problem of R270, so the force errors and power slacks count:
the NaN of a tiny pivot is found even where no thruster is live (R279). -/
def resultValid (p : AProb) (it : AIter) : Bool :=
  it.x.all f32IsFinite && it.y.all f32IsFinite && (forceOf p it.x).all f32IsFinite && (List.range 4).all (fun b => f32IsFinite (busPower p b it.x)) &&
    !p.poison && (List.zipWith (fun (v : AVar) z => f32Le v.lo z && f32Le z v.hi) p.vars it.x).all id

/-- The thrusters all of whose configured variables are live, as a mask (09 R282). -/
def liveMask (s : State) (p : AProb) : Nat :=
  ((List.range 16).map fun t =>
    let c := thrCfg s.snap t
    2 ^ t * b2n (c.kind != 0 && (slotsOf c.kind).all fun v => p.vars.any fun x => x.idx == 3 * t + v)).foldl (· + ·) 0

/-- Number of thrusters in a mask. -/
def maskCount (m : Nat) : Nat := (List.range 16).countP fun t => m / 2 ^ t % 2 == 1

/-- The entry of the fallback table for a live mask (09 R282): the equal one, else the largest subset. -/
def chooseEntry (tbl : List FbEntry) (mask : Nat) : Option Nat :=
  match tbl.findIdx? (·.mask == mask) with
  | some i => some i
  | none =>
    (List.range tbl.length).foldl (fun (a : Option Nat) i => match tbl[i]? with
      | none => a
      | some e =>
        if e.mask &&& mask ≠ e.mask then a else match a with
        | none => some i
        | some j => match tbl[j]? with
          | some o => if maskCount o.mask < maskCount e.mask then some i else a
          | none => some i) none

/-- ENTRY as ALLOC_STATE has it: 0xFE where none is usable. -/
def entryCode (s : State) (p : AProb) : Nat :=
  match chooseEntry s.alc.table (liveMask s p) with
  | some i => i
  | none => 0xFE

/-- The fallback result (09 R282): thrust of each variable about the new azimuths, the azimuths, and the limits used. -/
def fallbackOf (s : State) (p : AProb) : List F32 × List F32 × List F32 :=
  let e := match chooseEntry s.alc.table (liveMask s p) with
    | some i => (match s.alc.table[i]? with
      | some x => x
      | none => ⟨0, []⟩)
    | none => ⟨0, []⟩
  let on (t : Nat) : Bool := e.mask / 2 ^ t % 2 == 1
  let f (k : Nat) : F32 := fDot (e.rows.getD k []) p.tauD
  let clip (c : ThrCfg) (x : F32) : F32 := f32Clamp (f32Neg c.rev) c.fwd x
  let raw := tab 16 fun t =>
    let c := thrCfg s.snap t
    if !on t then [0, 0, 0]
    else if c.kind < 3 then [clip c (f (3 * t)), 0, 0]
    else
      let m := f32Sqrt (f32Add (f32Sq (f (3 * t))) (f32Sq (f (3 * t + 1))))
      if c.kind = 3 then [clip c m, 0, 0] else
        let h := clip c (f32Mul m (fC 1 2))
        [h, 0, h]
  let theta := tab 16 fun t =>
    let c := thrCfg s.snap t
    if c.kind < 3 || !on t || (f32IsZero (f (3 * t)) && f32IsZero (f (3 * t + 1))) then fAt p.theta t
    else wrapTwoPi (Config.atan2 (f (3 * t + 1)) (f (3 * t)))
  let live (t : Nat) : Bool := p.vars.any fun v => v.idx / 3 == t
  let pow (b : Nat) (k : F32) : F32 := f32Sum ((List.range 16).map fun t =>
    let c := thrCfg s.snap t
    if c.bus = b ∧ live t then thrPower c ((raw.getD t []).map (f32Mul k)) else 0)
  let idle (b : Nat) : F32 := f32Sum ((List.range 16).map fun t =>
    let c := thrCfg s.snap t
    if c.bus = b ∧ live t then c.p0 else 0)
  let lim := tab 4 fun b => f32Max (fAt p.cap b) (idle b)
  let factor (b : Nat) : F32 :=
    if !busPresent s b || f32Le (pow b f32One) (fAt lim b) then f32One else
    (iterN (fun (z : F32 × F32) =>
      let mid := f32Mul (fC 1 2) (f32Add z.1 z.2)
      if f32Le (pow b mid) (fAt lim b) then (mid, z.2) else (z.1, mid)) 16 (0, f32One)).1
  let k := tab 4 factor
  (tab 48 fun i => f32Mul (fAt k (thrCfg s.snap (i / 3)).bus) (fAt (raw.getD (i / 3) []) (i % 3)), theta, lim)

/-- Does the beat's verdict stand to be taken: all 20 iterations are done and no result has been registered? -/
def verdictDue (s : State) : Option AProb := if s.alc.done = 20 ∧ s.clk.beats then s.alc.prob else none

/-- The third consecutive invalid beat enters fallback mode (09 R282). The row stands before the beat's ALLOC_RESULT. -/
def execAllocFallbackEntry (s : State) : Out :=
  match verdictDue s with
  | none => .next s
  | some p =>
    if s.alc.fb || resultValid p s.alc.iter || decide (s.alc.streak < 2) then .next s else
    .next (raise 72 (entryCode s p) (sticky { (advance (beatCycle s 649999) s) with
      alc := { s.alc with fb := true, fbRun := 0 } } 0x24C5 1))

/-- The tenth consecutive valid result ends fallback mode (09 R282). The row stands before the beat's ALLOC_RESULT. -/
def execAllocFallbackExit (s : State) : Out :=
  match verdictDue s with
  | none => .next s
  | some p =>
    if !s.alc.fb || !resultValid p s.alc.iter || decide (s.alc.fbRun < 9) then .next s else
    .next (raise 72 (s.alc.entry + 0x8000) { (advance (beatCycle s 649999) s) with
      alc := { s.alc with fb := false, fbRun := 0 } })

/-! ### Extraction -/

/-- Power trim (09 R288): on each bus above its limit the variables move towards the minimising corner. -/
def powerTrim (p : AProb) (x : List F32) : List F32 × Bool :=
  p.rows.foldl (fun (a : List F32 × Bool) r =>
    if r.tag < 3 then a else
    let b := r.tag - 3
    let pb := busPower p b a.1
    if !f32Lt (fAt p.limit b) pb then a else
    let k := f32Div (f32Sub pb (fAt p.limit b)) (f32Sub pb (fAt p.least b))
    let go (i : Nat) : F32 := match p.vars[i]? with
      | none => 0
      | some v =>
        let g := fAt r.coef i
        let x := fAt a.1 i
        let corner := if f32Lt 0 g then v.lo else if f32Lt g 0 then v.hi else x
        f32Add x (f32Mul k (f32Sub corner x))
    (tab p.vars.length go, true)) (x, false)

/-- Values of the problem's variables among 48. -/
def spread48 (p : AProb) (x : List F32) : List F32 :=
  let l := List.zipWith (fun (v : AVar) z => (v.idx, z)) p.vars x
  tab 48 (look l)

/-- Azimuths after extraction, x0 about them, and setpoints by axis (09 R266, R288). -/
def extract (s : State) (p : AProb) (x : List F32) : List F32 × List F32 × List (Option F32) :=
  let along (t : Nat) : F32 := if (thrCfg s.snap t).kind = 4 then f32Add (fAt x (3 * t)) (fAt x (3 * t + 2)) else fAt x (3 * t)
  let n (t : Nat) : F32 := fAt x (3 * t + 1)
  let signed (m a : F32) : F32 := if f32Sign a then f32Neg m else m
  let theta := tab 16 fun t =>
    if (thrCfg s.snap t).kind < 3 || f32IsZero (along t) then fAt p.theta t
    else wrapTwoPi (f32Add (fAt p.theta t) (Config.atan2 (f32Div (n t) (along t)) f32One))
  let mag (t : Nat) : F32 := signed (f32Sqrt (f32Add (f32Sq (along t)) (f32Sq (n t)))) (along t)
  let x0 := tab 48 fun i =>
    let t := i / 3
    let kind := (thrCfg s.snap t).kind
    if kind < 3 || f32IsZero (along t) then fAt x i
    else if i % 3 = 1 then 0
    else if kind = 3 then mag t
    else f32Div (f32Mul (mag t) (fAt x i)) (along t)
  let sp := tab 48 fun a => match p.vars.find? (·.axis == a) with
    | none => none
    | some v =>
      let t := v.idx / 3
      if v.idx % 3 = 1 then some (fAt theta t)
      else if v.kind = 3 then some (if f32IsZero (along t) then 0 else mag t)
      else some (fAt x v.idx)
  (theta, x0, sp)

/-- J at a point (09 R270, R289). -/
def objective (p : AProb) (it : AIter) : F32 :=
  let n := p.vars.length
  let half := fC 1 2
  let q := f32Sum ((List.range n).map fun i =>
    f32Mul (fAt it.x i) (f32Add (f32Mul half (f32Sum ((List.range n).map fun j => f32Mul (mAt p.hess i j) (fAt it.x j)))) (fAt p.lin i)))
  let r := f32Sum (List.zipWith (fun (w : ARow) y => f32Mul y (f32Add (f32Mul half (f32Mul w.quad y)) w.lin)) p.rows it.y)
  f32Add (f32Add q r) p.objc

/-- The largest scaled equality residual (09 R289). -/
def residual (p : AProb) (it : AIter) : F32 :=
  (List.zipWith (fun (w : ARow) y => f32Div (f32Abs (f32Sub (f32Add (rowDot w it.x) y) w.rhs)) w.scale) p.rows it.y).foldl
    (fun a z => if f32IsNaN z || f32Lt a z then z else a) 0

/-- Which result the beat releases (09 R281, R282). -/
inductive AChoice where
  | solver | held | fallback
deriving DecidableEq, Repr

/-- FLAGS of the result (09 R289). -/
def resultFlags (s : State) (p : AProb) (valid trim : Bool) : Nat :=
  b2n (!valid) + 2 * b2n s.alc.fb + 4 * b2n s.alc.reg + 8 * b2n (p.partly && !p.cold) + 16 * b2n p.compat + 32 * b2n p.cold +
    64 * b2n trim

/-- The result of the beat (09 R281, R282, R288, R289) with the trim flag. -/
def resultOf (s : State) (p : AProb) (valid : Bool) (ch : AChoice) : AResult × Bool :=
  let live := p.vars.map fun v => (v.idx, v.axis)
  let obj := objective p s.alc.iter
  let res := residual p s.alc.iter
  match ch with
  | .held =>
    let r := s.alc.rel
    let xs := p.vars.map (·.x0)
    ({ r with
      tauD := p.tauD, poison := p.poison, beat := s.clk.beat, flags := resultFlags s p valid false, live := live
      power := tab 4 (fun b => busPower p b xs), limit := tab 4 (fun b => if busPresent s b then fAt p.limit b else 0)
      obj := obj, resid := res }, false)
  | .solver =>
    let t := powerTrim p s.alc.iter.x
    let x := spread48 p t.1
    let e := extract s p x
    (⟨s.clk.beat, resultFlags s p valid t.2, live, live.map (·.1), x, e.2.1, e.1, e.2.2, p.tauD, forceOf p t.1,
      tab 4 (fun b => busPower p b t.1), tab 4 (fun b => if busPresent s b then fAt p.limit b else 0), obj, res, p.poison, []⟩, t.2)
  | .fallback =>
    let f := fallbackOf s p
    let sp := tab 48 fun a => match p.vars.find? (·.axis == a) with
      | none => none
      | some v => if v.idx % 3 = 1 then some (fAt f.2.1 (v.idx / 3)) else some (fAt f.1 v.idx)
    let tau := tab 3 fun k => f32Sum (p.vars.map fun v =>
      f32Mul (fAt (columnOf (thrCfg s.snap (v.idx / 3)) (fAt f.2.1 (v.idx / 3)) (v.idx % 3 == 1)) k) (fAt f.1 v.idx))
    let pow := tab 4 fun b => if !busPresent s b then 0 else f32Sum ((List.range 16).map fun t =>
      let c := thrCfg s.snap t
      if c.bus = b ∧ p.vars.any (fun v => v.idx / 3 == t) then thrPower c (slotVals f.1 t) else 0)
    (⟨s.clk.beat, resultFlags s p valid false, live, live.map (·.1), f.1, f.1, f.2.1, sp, p.tauD, tau, pow,
      tab 4 (fun b => if busPresent s b then fAt f.2.2 b else 0), obj, res, p.poison, []⟩, false)

/-- The bits of a list of flags. -/
def maskOf (l : List Bool) : Nat := ((List.range l.length).map fun i => 2 ^ i * b2n (bAt l i)).foldl (· + ·) 0

/-- STATE of a thruster in ALLOC_RESULT_READ (09 R289): 0 not fitted, 1 OFF, 2 ON and all live, 3 ON and partly live, 4 SHUTTING,
5 SHUTTING with an enable pending. -/
def thrStateCode (s : State) (t : Nat) : Nat :=
  let c := thrCfg s.snap t
  if c.kind = 0 then 0 else
  match vgetD s.alc.thr t .off with
  | .off => 1
  | .shutting => if (thrAxes c).any (fun x => (vgetD s.servo.axes x.2 AxisUnit.off).pendThr) then 5 else 4
  | .on => if (slotsOf c.kind).all fun v => s.alc.live.any fun x => x.1 == 3 * t + v then 2 else 3

/-- The record of thruster t in ALLOC_RESULT_READ (09 R289), as the beat of the result has it. -/
def thrRecord (s : State) (r : AResult) (t : Nat) : List Byte :=
  let c := thrCfg s.snap t
  let x := slotVals r.x t
  let along := if c.kind = 0 then 0 else if c.kind = 4 then f32Add (fAt x 0) (fAt x 2) else fAt x 0
  let live := r.live.any fun v => v.1 / 3 == t
  leBytes 2 (twosOf 16 (clampI (-32768) 32767 (f32ToInt (f32Div along (f32OfInt 100))))) ++
    leBytes 2 (if c.kind < 3 then 0xFFFF else
      (f32ToInt (f32Mul (fAt r.theta t) (f32OfInt 10000))).toNat % 62832) ++
    leBytes 2 (if c.kind = 0 || !live then 0 else min 65535 (f32ToInt (thrPower c x)).toNat) ++
    leBytes 1 (thrStateCode s t) ++ leBytes 1 c.bus

/-- The release registers are loaded from cycle 650 000 on (01 R48), whole: a poison mark that one held is cleared (R24). -/
def loadRelease (s : State) : State :=
  { s with poison := s.poison.filter fun i => !((List.range 48).map (memoryStall 6 0) ++ (List.range 6).map (memoryStall 7 0)).contains i }

/-- The allocation result is registered on cycle 649 999 (09 R276-R295), from where the release registers take it. -/
def execAllocResult (s : State) : Out :=
  match verdictDue s with
  | none => .next s
  | some p =>
    let s := stageDone 3 (advance (beatCycle s 649999) s)
    let a := s.alc
    let valid := resultValid p a.iter
    let ch : AChoice := if a.fb then .fallback else if valid then .solver else .held
    let r := resultOf s p valid ch
    let res : AResult := { r.1 with table := (List.range 16).flatMap (thrRecord s r.1) }
    let streak := if valid then 0 else satAdd 8 a.streak 1
    let fbRun := if a.fb then (if valid then min 10 (a.fbRun + 1) else 0) else 0
    let entry := if a.fb then entryCode s p else 0xFF
    let oldShort := fld s 0x24C4 3 0
    let short := maskOf p.short
    let stale := maskOf (tab 4 (busStale s))
    let shortAx := maskOf (tab 3 fun k =>
      f32Lt (f32Mul (fC 1 100) (scaleAxis s k)) (f32Abs (f32Sub (fAt p.tauD k) (fAt res.tauA k))))
    let blk := block100 s
    let reg := a.reg && a.regBlk != some blk
    let inLive (l : List (Nat × Nat)) (i : Nat) : Bool := l.any (·.1 == i)
    let moved := (List.range 48).filter fun i => inLive a.live i != inLive a.was i
    let back := (List.range 4).filter fun b => (busAt s b).stale && !busStale s b
    let stickyBits := b2n (!valid) + 4 * b2n a.reg + 8 * b2n (short % 16 &&& (15 - oldShort) != 0) + 32 * b2n (!moved.isEmpty) +
      64 * b2n r.2
    let ev :=
      (if !valid && a.streak == 0 then [(71, b2n p.poison)] else []) ++
      (if reg then [(73, match a.tiny with
        | some t => t
        | none => 0)] else []) ++
      ((List.range 4).filterMap fun b =>
        let was := oldShort / 2 ^ b % 2
        let now := short / 2 ^ b % 2
        if was = now then none else some (74, if now = 1 then b else b + 0x8000)) ++
      (back.filterMap fun b => if busPresent s b then some (75, b + 0x8000) else none) ++
      (moved.map fun i => (76, if inLive a.live i then i + 0x8000 else i)) ++
      (if shortAx = a.shortAx then [] else [(77, if shortAx = 0 then 0x8000 else shortAx)])
    let s1 := back.foldl (fun s b => updBus b (fun u => { u with stale := false }) s) s
    let lm := maskOf (tab 48 fun i => inLive a.live i)
    let s2 := wrAll { loadRelease s1 with alc := { s1.alc with
        prob := none, streak := streak, fbRun := fbRun, entry := entry, res := res, shortAx := shortAx
        valid := if valid then some (a.iter, p.vars, p.rows) else a.valid
        regBlk := if reg then some blk else a.regBlk } }
      ([(0x24C0, BitVec.ofNat 32 (res.flags + 256 * streak + 65536 * fbRun + 2 ^ 24 * entry)),
        (0x24C1, BitVec.ofNat 32 s.clk.beat), (0x24C2, BitVec.ofNat 32 lm), (0x24C3, BitVec.ofNat 32 (lm / 2 ^ 32)),
        (0x24C4, BitVec.ofNat 32 (short + 16 * stale + 256 * shortAx)),
        (0x24C5, rd s 0x24C5 ||| BitVec.ofNat 32 stickyBits)] ++
       (List.range 4).map fun b => (0x2493 + 4 * b, BitVec.ofNat 32 (min 65535 (p.avail.getD b 0) + 65536 * (busAt s b).age)))
    let s3 := if valid then s2 else bump s2 0x24C6 15 0 1
    .next (raiseAll ev (if a.reg then bump s3 0x24C7 15 0 1 else s3))

/-! ### The beat edge -/

/-- The allocator's part of a beat edge: the latest result is the one released, power records are latched, and the live set of
the beat is taken as given. released: the outputs of the ended beat are permitted; else the release registers keep their contents (01 R50). A unit that has adopted a mirror takes the result which the
image holds (15 R445). -/
def allocEdge (released : Bool) (live : List (Nat × Nat)) (s : State) : State :=
  let s1 := powerImage (powerLatch s)
  { s1 with alc := { s1.alc with
      was := s1.alc.live, live := live, rel := if released || s1.twin.adoptedPrev then s1.alc.res else s1.alc.rel, prob := none, done := 0, tiny := none, reg := false
      table := (match s1.alc.tableNew with
        | some t => t
        | none => s1.alc.table), tableNew := none } }

/-! ### Commands -/

/-- ALLOC_RESULT_READ (09 R289), reply data from byte 4: the latest registered beat. -/
def allocResultData (s : State) : List Byte :=
  let r := s.alc.res
  leBytes 4 r.beat ++ leBytes 1 r.flags ++ leBytes 1 (fld s 0x24C0 15 8) ++ leBytes 1 r.live.length ++ zeroBytes 1 ++
    (r.tauD.flatMap wordBytes) ++ (r.tauA.flatMap wordBytes) ++
    (r.power.flatMap wordBytes) ++ (r.limit.flatMap wordBytes) ++ wordBytes r.obj ++ wordBytes r.resid ++ zeroBytes 8 ++ r.table

/-- Is the value of an allocation parameter within its range (09 R294)? -/
def allocParamOk (r : Regs) (id : Nat) : Bool :=
  let w := regGet r id
  let within (lo hi : F32) : Bool := f32In lo hi w
  let o := (id - 0x2400) % 8
  let f := (id - 0x2500) % 16
  if 0x2400 ≤ id ∧ id < 0x2480 then
    let ax (hi lo : Nat) : Bool := let a := bitsOf w hi lo
      decide (a < 48) || a == 0x3F
    if o = 0 then decide (bitsOf w 2 0 ≤ 4) && ax 13 8 && ax 21 16 && ax 29 24
    else if o = 1 ∨ o = 2 then f32IsFinite w
    else if o = 4 ∨ o = 5 then f32IsFinite w && f32Le 0 w
    else if o = 6 then bitsOf w 15 0 != 0 && bitsOf w 31 16 != 0
    else true
  else if id = 0x2480 then decide (bitsOf w 2 0 ≤ 5) && decide (bitsOf w 5 4 ≤ 2) && bitsOf w 15 8 != 0
  else if id = 0x2481 then canIdOk w
  else if id = 0x2482 then within f32One (f32OfInt 1000000)
  else if id = 0x2483 ∨ id = 0x2484 then within 0 (f32OfInt 1000000)
  else if id = 0x2485 then within (f32OfInt 10) (f32OfInt 100000)
  else if 0x2490 ≤ id ∧ id < 0x24A0 then
    if id % 4 = 1 then bitsOf w 31 16 != 0 else if id % 4 = 2 then bitsOf w 15 0 != 0 else true
  else if 0x2500 ≤ id ∧ id < 0x2600 then
    if f < 3 then
      f32IsFinite w && f32Lt 0 w && (f == 0 || f32Lt (regGet r (id - 1)) w) && (f == 2 || f32Lt w (regGet r (id + 1)))
    else if f < 8 then f32IsFinite w && f32Le 0 w
    else true
  else true

/-- ALLOC_CONFIG basic (09 R290): identifiers and payload offsets of its words, first byte 4. -/
def allocWords : List (Nat × Nat) :=
  [(0x2481, 4), (0x2482, 8), (0x2483, 12), (0x2484, 16), (0x2485, 20)] ++
    (List.range 4).map (fun b => (0x2491 + 4 * b, 24 + 4 * b)) ++ (List.range 4).map (fun b => (0x2492 + 4 * b, 40 + 4 * b))

/-- The register file as ALLOC_CONFIG basic would leave it. -/
def allocBasicRegs (r : Regs) (p : List Byte) : Regs :=
  let w := regGet r 0x2480
  let w1 := putBits (putBits (putBits (putBits w 2 0 (byteAt p 0)) 5 4 (byteAt p 1)) 7 6 (byteAt p 2)) 15 8 (byteAt p 3)
  allocWords.foldl (fun r x => regSet r x.1 (wordAt p x.2)) (regSet r 0x2480 w1)

/-- ALLOC_CONFIG basic (09 R290). -/
def opAllocConfigBasic : OpSpec where
  code := 0x34
  check _ p s :=
    let n := allocBasicRegs s.regs p
    let rsv (x : Nat × Nat) : Bool := x.1 < 0x2490 || x.1 % 4 == 1 || bitsOf (wordAt p x.2) 31 17 == 0
    match firstBad ([(decide (byteAt p 0 ≤ 5), 0), (decide (byteAt p 1 ≤ 2), 1), (decide (byteAt p 2 ≤ 3), 2),
        (byteAt p 3 != 0, 3)] ++ allocWords.map (fun x => (allocParamOk n x.1 && rsv x, x.2)) ++ [(zerosAt p 56 8, 56)]) with
    | some x => some x
    | none => if idsDistinct n then none else some (stBadParam, 4)
  halter _ _ := true
  targets _ _ := 0x2480 :: allocWords.map (·.1)
  commit _ p s := okResult { s with regs := allocBasicRegs s.regs p }

/-- ALLOC_CONFIG basic. -/
def execAllocConfigBasic (r : Req) (s : State) : Out := .next (serve opAllocConfigBasic r s)

/-- The checks of a record of ALLOC_CONFIG expert (09 R291); used: the axes of the other records of the payload. -/
def recordOk (s : State) (p : List Byte) (t : Nat) : Bool :=
  let o := 32 * t
  let w := wordAt p o
  let kind := bitsOf w 2 0
  let ax (w : Word) : List Nat := [bitsOf w 13 8, bitsOf w 21 16, bitsOf w 29 24]
  let mine := (ax w).filter (· != 0x3F)
  let others := ((List.range 16).filter (· != t)).flatMap fun u => (ax (wordAt p (32 * u))).filter (· != 0x3F)
  let once := (List.range mine.length).all fun i => !(mine.drop (i + 1)).contains (mine.getD i 0)
  let fit := (List.range 3).all fun v => ((ax w).getD v 0x3F != 0x3F) == (slotsOf kind).contains v
  decide (kind ≤ 4) && mine.all (fun a => decide (a < 48)) && once && mine.all (fun a => !others.contains a) && fit &&
    (w &&& 0xC0C0C0C8#32) == 0 && bitsOf (wordAt p (o + 12)) 31 16 == 0 &&
    (kind == 0 || flag s (0x2492 + 4 * bitsOf w 5 4) 16) &&
    f32IsFinite (wordAt p (o + 4)) && f32IsFinite (wordAt p (o + 8)) && f32IsFinite (wordAt p (o + 16)) &&
    (kind == 0 || f32Lt 0 (wordAt p (o + 16))) && f32IsFinite (wordAt p (o + 20)) && f32Le 0 (wordAt p (o + 20)) &&
    leAt p (o + 24) 2 != 0 && leAt p (o + 26) 2 != 0 && leAt p (o + 28) 2 != 0

/-- Does a record differ from the live values? -/
def recordDiffers (s : State) (p : List Byte) (t : Nat) : Bool :=
  (List.range 8).any fun i => wordAt p (32 * t + 4 * i) != rd s (0x2400 + 8 * t + i)

/-- ALLOC_CONFIG expert (09 R291): the 16 records of thrusters. -/
def opAllocConfigExpert : OpSpec where
  code := 0x35
  check _ p s :=
    match firstBad ((List.range 16).map fun t => (recordOk s p t, 32 * t)) with
    | some x => some x
    | none =>
      match (List.range 16).find? fun t => recordDiffers s p t && vgetD s.alc.thr t .off != .off with
      | some t => some (stBusy, 32 * t)
      | none => none
  halter _ _ := true
  targets _ _ := (List.range 128).map (0x2400 + ·)
  commit _ p s := okResult (wrAll s ((List.range 128).map fun i => (0x2400 + i, wordAt p (4 * i))))

/-- ALLOC_CONFIG expert. -/
def execAllocConfigExpert (r : Req) (s : State) : Out := .next (serve opAllocConfigExpert r s)

/-- POWER_LIMIT_SET (09 R292). -/
def opPowerLimitSet : OpSpec where
  code := 0x36
  halter _ _ := true
  targets _ _ := (List.range 4).map (fun b => 0x2490 + 4 * b)
  commit _ p s := okResult (wrAll s ((List.range 4).map fun b =>
    (0x2490 + 4 * b, BitVec.ofNat 32 (leAt p (2 * b) 2 + 65536 * leAt p (8 + 2 * b) 2))))

/-- POWER_LIMIT_SET. -/
def execPowerLimitSet (r : Req) (s : State) : Out := .next (serve opPowerLimitSet r s)

/-- COMPAT_MODE_SET (09 R293). -/
def opCompatModeSet : OpSpec where
  code := 0x3B
  check _ p _ := firstBad [(decide (byteAt p 0 ≤ 1), 0), (zerosAt p 1 3, 1)]
  halter _ _ := true
  targets _ _ := [0x2480]
  commit _ p s := okResult (wrFlag s 0x2480 3 (byteAt p 0 == 1))

/-- COMPAT_MODE_SET. -/
def execCompatModeSet (r : Req) (s : State) : Out := .next (serve opCompatModeSet r s)

/-- The fallback table of configuration file kind 1 (09 R283); none where the file is rejected. -/
def fallbackTable (b : List Byte) : Option (List FbEntry) :=
  let n := leAt b 2 2
  if leAt b 0 2 ≠ 1 ∨ n = 0 ∨ 64 < n ∨ leAt b 4 4 ≠ 0 ∨ b.length ≠ 12 + 580 * n then none else
  let l := (List.range n).map fun e =>
    let o := 8 + 580 * e
    (⟨leAt b o 2, (List.range 48).map fun r => (List.range 3).map fun k => wordAt b (o + 4 + 12 * r + 4 * k)⟩ : FbEntry)
  let rsv := (List.range n).all fun e => leAt b (8 + 580 * e + 2) 2 == 0
  if rsv && l.all (fun e => e.rows.all (fun r => r.all f32IsFinite)) then some l else none

end Sys2Proof.Machine
end

