-- ==== Sys2Proof/Machine/Filter.lean ====
section
/-! DEFINITION. The filter and decimation chain (12 R355-R378): sinc⁴, FIR, rounding, DC stage, phase origin and
resynchronisation, presets and coefficient sets. -/
namespace Sys2Proof.Machine

/-! ### Arithmetic of a lane -/

/-- The product of two polynomials. -/
def polyMul (a b : List Int) : List Int :=
  (List.range (a.length + b.length - 1)).map fun k =>
    ((List.range a.length).map fun i => if i ≤ k then a.getD i 0 * b.getD (k - i) 0 else 0).foldl (· + ·) 0

/-- The 125 weights of sinc⁴ with decimation 32 (12 R356). -/
def sincKernel : List Int :=
  let box := List.replicate 32 1
  let tri := polyMul box box
  polyMul tri tri

/-- The modulator bits of a block, ±1, newest first. -/
def blockSigns (w : BitVec 32) : List Int := (List.range 32).map fun i => if w.getLsbD (31 - i) then 1 else -1

/-- The sinc⁴ output of the latest four blocks, newest first: Q2.20 (12 R356). -/
def sincOut (ws : List (BitVec 32)) : Int :=
  (List.zipWith (· * ·) sincKernel (ws.flatMap blockSigns)).foldl (· + ·) 0

/-- x / 2^k to the nearest integer, ties to even (12 R357, R371). -/
def roundEven (x : Int) (k : Nat) : Int :=
  let d : Int := 2 ^ k
  let q := x.fdiv d
  let r := 2 * (x - q * d)
  if d < r ∨ (r = d ∧ q % 2 = 1) then q + 1 else q

/-- Held within Q1.23 (12 R357). -/
def sat24 (x : Int) : Int := clampI (-8388608) 8388607 x

/-- Decimation and taps of the presets (12 R365). -/
def presetDim (p : Nat) : Nat × Nat :=
  match p with
  | 0 => (4, 96)
  | 1 => (16, 192)
  | 2 => (64, 384)
  | _ => (256, 384)

/-- The coefficient set of a preset (12 R365): linear phase, sum 4 194 304; the middle pair completes the sum. -/
def presetSet (p : Nat) : FirSet :=
  let d := presetDim p
  let n := d.2 / 2
  let l := (List.range (n - 1)).map (Config.presetTap p)
  let half := l ++ [2097152 - l.foldl (· + ·) 0]
  ⟨d.1, half ++ half.reverse⟩

/-- The set that a lane uses with a FLT_CONFIG word (12 R366). -/
def laneSet (s : State) (l : Nat) (w : Word) : FirSet :=
  let sel := bitsOf w 7 4
  let p := presetSet (bitsOf w 1 0)
  if sel = 0 then p
  else if sel = 1 then (match (vgetD s.filt.lanes l LaneUnit.start).priv with
    | some x => x
    | none => p)
  else s.filt.lib.getD (sel - 8) p

/-- The FIR result over the sinc history, rounded to Q1.23: unlimited value (12 R356, R357). -/
def firOut (f : FirSet) (hist : List (Int × Bool)) : Int :=
  roundEven ((List.zipWith (fun h (x : Int × Bool) => h * x.1) f.taps hist).foldl (· + ·) 0) 19

/-- Do the taps of a set reach a poisoned sinc output (12 R372)? -/
def firPoison (f : FirSet) (hist : List (Int × Bool)) : Bool := (hist.take f.taps.length).any (·.2)

/-- The DC stage (12 R371): output unlimited, and the new estimate with 39 fraction bits. K is DC_SHIFT. -/
def dcStage (mode was k : Nat) (d x : Int) : Int × Int :=
  let x39 := x * 65536
  if mode = 0 then (x, 0)
  else
    let d0 := if mode = 1 ∧ was = 0 then x39 else d
    let z := roundEven (x39 - d0) 16
    (z, if mode = 1 then d0 + roundEven (x39 - d0) k else d0)

/-! ### Start -/

/-- The lanes start or restart (12 R362, R373): zero histories. whole: bit 0 of the first window that a tick edge will latch is yet to come, so
that window is the origin; else the next one is. Sets, library and their settings stay. -/
def lanesStart (whole : Bool) (f : Filt) : Filt :=
  { f with
    lanes := f.lanes.map fun l => { LaneUnit.start with priv := l.priv, privNew := l.privNew }
    means := Vector.replicate 48 0, seg := 0, phase := if whole then 0 else -16, newOrigin := []
    carry := Vector.replicate 2 0, bad := Vector.replicate 2 false, sync := none }

/-- The part of the setting snapshot that lies outside the parameters (12 R369): sets and library committed in the beat, and
FLT_STICKY bit 3 for each lane that switches. old: the snapshot before. -/
def filterSnapshot (old : Regs) (s : State) : State :=
  let lib := match s.filt.libNew with
    | some l => l
    | none => s.filt.lib
  let switches (l : Nat) : Bool :=
    let a := regGet old (0x5400 + 16 * l)
    let b := srd s (0x5400 + 16 * l)
    let x := vgetD s.filt.lanes l LaneUnit.start
    a != b || (bitsOf b 7 4 == 1 && x.privNew.isSome) || (decide (8 ≤ bitsOf b 7 4) && s.filt.libNew.isSome)
  let s1 := (List.range 48).foldl (fun s l => if switches l then sticky s (0x5406 + 16 * l) 3 else s) s
  { s1 with filt := { s1.filt with
      lib := lib, libNew := none
      lanes := s1.filt.lanes.map fun l => match l.privNew with
        | some p => { l with priv := some p, privNew := none }
        | none => l } }

/-! ### A sinc output -/

/-- Cycle of the tick on which sinc output k of a window is complete (12 R359). -/
def sincCycle (k : Nat) : Nat := if k % 2 = 0 then 363 + 3125 * (k / 2) else 1925 + 3125 * ((k - 1) / 2)

/-- One lane at a sinc output (12 R360, R361, R371, R372): history, tick-mean sum, and an output when one is due. Answers the
state with flags and counts, and the events. -/
def laneStep (bits : BitVec 32) (segOk : Bool) (phase : Int) (idx l : Nat) (a : State × List (Nat × Nat)) :
    State × List (Nat × Nat) :=
  let s := a.1
  let u := vgetD s.filt.lanes l LaneUnit.start
  let ws := bits :: u.bits
  let x := sincOut ws
  let poison := !segOk || blockDown s 5 (l / 6) || blockDown s 6 (l / 24) || resultFaulted s 5 (l / 6)
  let hist := (x, poison) :: u.hist.take 383
  let cfg := srd s (0x5400 + 16 * l)
  let f := laneSet s l cfg
  let u1 : LaneUnit := { u with bits := ws.take 3, hist := hist, sum := u.sum + x, done := min 387 (u.done + 1) }
  let put (u : LaneUnit) (s : State) : State := { s with filt := { s.filt with lanes := vupdN s.filt.lanes l fun _ => u } }
  if phase % (f.dec : Int) != (f.dec : Int) - 1 then (put u1 s, a.2) else
  let y0 := firOut f hist
  let y := sat24 y0
  let bad := firPoison f hist
  let mode := bitsOf cfg 9 8
  let dc := dcStage mode u.dcMode (bitsOf cfg 20 16) u.dc y
  let z := sat24 dc.1
  let satY := y != y0
  let satZ := z != dc.1
  let h := 0x5400 + 16 * l
  let blk := block100 s
  let ev := (satY || satZ) && u.satBlk != some blk
  let s1 := put { u1 with
    dc := if bad then u.dc else dc.2, dcMode := if bad then u.dcMode else mode, out := z, outIdx := idx % 2 ^ 32
    sat := satY || satZ, poison := bad, satBlk := if ev then some blk else u.satBlk } s
  let s2 := if satY then bump (sticky s1 (h + 6) 0) (h + 7) 15 0 1 else s1
  let s3 := if satZ then sticky s2 (h + 6) 1 else s2
  (if bad then sticky s3 (h + 6) 2 else s3, if ev then a.2 ++ [(103, l + if satY then 0 else 256)] else a.2)

/-- A sinc output is complete and the lane slots have run (12 R360): outputs and filter events on cycle C_s + 1 000. A lane group whose
block faulted delivers poisoned results once (01 R29). -/
def execSincOutput (x : SincIn) (s : State) : Out :=
  if !s.clk.ticks || !s.clk.core then .next s else
  let k := s.filt.seg
  let s := advance (tickCycle s (sincCycle k + 1000)) s
  let fresh := k == 0 && s.filt.newOrigin.contains s.clk.tick
  let phase : Int := if fresh then 0 else s.filt.phase
  let ok (b : Fin 2) : Bool :=
    (if b = 0 then x.okA else x.okB) && !vget s.filt.bad b && vget s.filt.carry b == 0
  let r := (List.range 48).foldl (fun a l =>
    laneStep (vgetD x.bits l 0) (ok (if l < 24 then 0 else 1)) phase (16 * s.clk.tick + k) l a) (s, [])
  let s1 := r.1
  let last := k == 15
  let fail (b : Fin 2) : Bool := vget s1.filt.bad b || !(if b = 0 then x.okA else x.okB)
  let f := s1.filt
  let f1 : Filt := { f with
    seg := if last then 0 else k + 1, phase := phase + 1
    newOrigin := if fresh then f.newOrigin.filter (· != s.clk.tick) else f.newOrigin
    bad := Vector.ofFn fail, carry := f.carry.map (· - 1) }
  let f2 : Filt := if last then
      { f1 with means := f1.lanes.map (·.sum), lanes := f1.lanes.map fun l => { l with sum := 0 } }
    else f1
  .next (raiseAll r.2 ((List.range 8).foldl (fun s g => operationDone 5 g s) { s1 with filt := f2 }))

/-- After 387 sinc outputs a lane leaves SETTLING (12 R373). -/
def execSettlingEnd (lane : Fin 48) (s : State) : Out :=
  let u := vget s.filt.lanes lane
  if u.done < 387 then .next s
  else .next { s with filt := { s.filt with lanes := vset s.filt.lanes lane { u with settled := true } } }

/-! ### Resynchronisation -/

/-- The window that a sync edge on a cycle makes the origin (12 R363). -/
def originOfEdge (s : State) (e : Nat) : Nat :=
  let off := e - s.clk.tickBase
  (s.clk.tick + (if off < 23849 then 1 else if off < 48849 then 2 else 3)) % 2 ^ 32

/-- Add source bits to FILTER_SYNC of the same sync edge where it stands in the queue and the history (12 R364). -/
def patchSync (src : Nat) (s : State) : State :=
  let fix (n t : Nat) (arg : Nat) : Nat := if n = 102 ∧ t = time32 s then arg ||| src else arg
  { s with ev := { s.ev with
      queue := s.ev.queue.map fun e => { e with arg := fix e.num e.time e.arg }
      hist := s.ev.hist.map fun h => match h with
        | some x => some { x with arg := fix x.num x.time x.arg }
        | none => none } }

/-- A sync edge one cycle after cycle c (12 R363, R364): the new origin, the count and the event; an edge that SYNC_IN and
SYNC_FILTERS give together is one sync. -/
def syncEdge (c src : Nat) (s : State) : State :=
  let e := c + 1
  let s := advance e s
  match s.filt.sync with
  | some (e0, b) =>
    if e0 = e then patchSync src { s with filt := { s.filt with sync := some (e, b ||| src) } } else go e s
  | none => go e s
where
  /-- The sync edge itself. -/
  go (e : Nat) (s : State) : State :=
    let w := originOfEdge s e
    let f := s.filt
    let s1 := bump (wr { s with filt := { f with
      sync := some (e, src), newOrigin := if f.newOrigin.contains w then f.newOrigin else f.newOrigin ++ [w] } }
      0x5409 (BitVec.ofNat 32 w)) 0x540A 15 0 1
    raise 102 src s1

/-- An edge of SYNC_IN crosses (12 R363, R364): it acts while SYNC_IN_EN is set, on the edge that SYNC_EDGE selects. -/
def execSyncInEdge (c : Nat) (rising : Bool) (s : State) : Out :=
  let s := advance c s
  if !s.clk.ticks || !flag s 0x5408 0 || rising == flag s 0x5408 1 then .next s else .next (syncEdge c 1 s)

/-- SYNC_FILTERS (12 R376): the sync edge is cycle 1 601 from the request edge. -/
def opSyncFilters : OpSpec where
  code := 0x62
  halter _ _ := true
  targets _ _ := [0x5409]
  commit _ _ s := okResult (syncEdge s.clk.cycle 2 s)

/-- SYNC_FILTERS. -/
def execSyncFilters (r : Req) (s : State) : Out := .next (serve opSyncFilters r s)

/-! ### Configuration -/

/-- Does an axis with a state and requests lock its feedback lane, or its channels: not OFF, or an enable requested or
pending (10 R298, 12 R370, 11 R346)? -/
def axisBusy (x : AxisUnit) : Bool :=
  let on (r : Option AxisReq) : Bool := match r with
    | some q => q.on
    | none => false
  x.state != 0 || x.pend || on x.reqNew || on x.reqDue

/-- Is lane l the feedback lane of an axis that locks it (12 R370)? -/
def laneLocked (s : State) (l : Nat) : Bool :=
  (List.range 48).any fun a =>
    fld s (0x5000 + 16 * a) 13 8 == l && axisBusy (vgetD s.servo.axes a AxisUnit.off)

/-- Is a coefficient within Q2.22 (12 R367)? -/
def tapOk (h : Int) : Bool := decide (-8388608 ≤ h) && decide (h ≤ 8388607)

/-- Is the sum of magnitudes below 32.0 (12 R367)? -/
def tapSumOk (l : List Int) : Bool := decide ((l.map (fun (h : Int) => (h.natAbs : Int))).foldl (· + ·) 0 < 134217728)

/-- Is a set accepted (12 R367)? -/
def firSetOk (f : FirSet) : Bool :=
  let t := f.taps.length
  decide (1 ≤ t) && decide (t ≤ 384) && decide (1 ≤ f.dec) && decide (f.dec ≤ 256) &&
    decide ((t + f.dec - 1) / f.dec ≤ 96) && f.taps.all tapOk && tapSumOk f.taps

/-- Coefficients of a payload from an offset on. -/
def tapsAt (p : List Byte) (o t : Nat) : List Int := (List.range t).map fun j => signedOf 32 (leAt p (o + 4 * j) 4)

/-- FILTER_PRESET (12 R374): PRESET with CUSTOM_SEL 0, for one lane or all. -/
def opFilterPreset : OpSpec where
  code := 0x60
  check _ p s :=
    let l := byteAt p 0
    match firstBad [(decide (l < 48) || l == 0xFF, 0), (decide (byteAt p 1 ≤ 3), 1), (zerosAt p 2 2, 2)] with
    | some x => some x
    | none =>
      if byteAt p 1 = 1 then none
      else if l = 0xFF then (if (List.range 48).any (laneLocked s) then some (stBusy, 0) else none)
      else if laneLocked s l then some (stBusy, 0) else none
  halter _ _ := true
  internal p s := if byteAt p 0 = 0xFF then yardFenced s 5 else blockOut s 5 (byteAt p 0 / 6)
  targets p _ := if byteAt p 0 = 0xFF then (List.range 48).map (fun l => 0x5400 + 16 * l) else [0x5400 + 16 * byteAt p 0]
  commit _ p s :=
    let ls := if byteAt p 0 = 0xFF then List.range 48 else [byteAt p 0]
    okResult (ls.foldl (fun s l => wrFld (wrFld s (0x5400 + 16 * l) 1 0 (byteAt p 1)) (0x5400 + 16 * l) 7 4 0) s)

/-- FILTER_PRESET. -/
def execFilterPreset (r : Req) (s : State) : Out := .next (serve opFilterPreset r s)

/-- FILTER_CUSTOM (12 R375): replaces a lane's private set; with SELECT also selects it. -/
def opFilterCustom : OpSpec where
  code := 0x61
  count p := p.length == 8 + 4 * leAt p 4 2
  check _ p s :=
    let d := leAt p 2 2
    let t := leAt p 4 2
    let l := tapsAt p 8 t
    match firstBad ([(decide (byteAt p 0 < 48), 0), (decide (byteAt p 1 ≤ 1), 1),
      (decide (1 ≤ d) && decide (d ≤ 256) && decide ((t + d - 1) / d ≤ 96), 2),
      (decide (1 ≤ t) && decide (t ≤ 384) && tapSumOk l, 4), (zerosAt p 6 2, 6)] ++
      (List.range t).map (fun j => (tapOk (l.getD j 0), 8 + 4 * j))) with
    | some x => some x
    | none =>
      let sel := fld s (0x5400 + 16 * byteAt p 0) 7 4
      if laneLocked s (byteAt p 0) && (byteAt p 1 == 1 || sel == 1) then some (stBusy, 0xFFFF) else none
  halter _ _ := true
  internal p s := blockOut s 5 (byteAt p 0 / 6)
  targets p _ := [0x5400 + 16 * byteAt p 0, 0x5401 + 16 * byteAt p 0]
  commit _ p s :=
    let l := byteAt p 0
    let f : FirSet := ⟨leAt p 2 2, tapsAt p 8 (leAt p 4 2)⟩
    let s1 := { s with filt := { s.filt with lanes := vupdN s.filt.lanes l fun u => { u with privNew := some f } } }
    okResult (if byteAt p 1 = 1 then wrFld s1 (0x5400 + 16 * l) 7 4 1 else s1)

/-- FILTER_CUSTOM. -/
def execFilterCustom (r : Req) (s : State) : Out := .next (serve opFilterCustom r s)

/-- DC_BLOCK_SET (12 R376). -/
def opDcBlockSet : OpSpec where
  code := 0x64
  check _ p s :=
    match firstBad [(decide (byteAt p 0 < 48), 0), (decide (byteAt p 1 ≤ 2), 1),
      (decide (6 ≤ byteAt p 2) && decide (byteAt p 2 ≤ 20), 2), (zerosAt p 3 1, 3)] with
    | some x => some x
    | none => if byteAt p 1 != 0 && laneLocked s (byteAt p 0) then some (stBusy, 0xFFFF) else none
  halter _ _ := true
  internal p s := blockOut s 5 (byteAt p 0 / 6)
  targets p _ := [0x5400 + 16 * byteAt p 0]
  commit _ p s :=
    let h := 0x5400 + 16 * byteAt p 0
    okResult (wrFld (wrFld s h 9 8 (byteAt p 1)) h 20 16 (byteAt p 2))

/-- DC_BLOCK_SET. -/
def execDcBlockSet (r : Req) (s : State) : Out := .next (serve opDcBlockSet r s)

/-- The set that a lane holds for selection: its private set loaded, a library set present (12 R366)? -/
def selOk (s : State) (l sel : Nat) : Bool :=
  let u := vgetD s.filt.lanes l LaneUnit.start
  let lib := match s.filt.libNew with
    | some x => x
    | none => s.filt.lib
  sel == 0 || (sel == 1 && (u.priv.isSome || u.privNew.isSome)) || (decide (8 ≤ sel) && decide (sel - 8 < lib.length))

/-- Is a FLT_CONFIG value in range (12 R366, R377)? -/
def filterParamOk (s : State) (r : Regs) (id : Nat) : Bool :=
  if 0x5400 ≤ id ∧ id < 0x5700 ∧ id % 16 = 0 then
    let w := regGet r id
    decide (bitsOf w 9 8 ≤ 2) && decide (6 ≤ bitsOf w 20 16) && decide (bitsOf w 20 16 ≤ 20) &&
      selOk s ((id - 0x5400) / 16) (bitsOf w 7 4)
  else true

/-- Does a write that leaves FLT_CONFIG at a word find the lane locked (12 R370)? -/
def filterParamBusy (s : State) (r : Regs) (id : Nat) : Bool :=
  if 0x5400 ≤ id ∧ id < 0x5700 ∧ id % 16 = 0 then
    let w := regGet r id
    laneLocked s ((id - 0x5400) / 16) &&
      (bitsOf w 7 4 != 0 || bitsOf w 1 0 != 1 || bitsOf w 9 8 != 0)
  else false

/-- The records of a coefficient file between its head and its CRC (12 R368): none where they do not end exactly there. -/
def firRecords : Nat → List Byte → Option (List FirSet)
  | 0, [] => some []
  | 0, _ :: _ => none
  | n + 1, b =>
    let t := leAt b 2 2
    if b.length < 8 + 4 * t || leAt b 4 4 != 0 then none else
    match firRecords n (b.drop (8 + 4 * t)) with
    | some r => some (⟨leAt b 0 2, tapsAt b 8 t⟩ :: r)
    | none => none

/-- The library of configuration file kind 3 (12 R368); none where the file is rejected. Lanes that select a set above those it
holds reject it too. -/
def firLibrary (b : List Byte) : Option (List FirSet) :=
  let n := leAt b 2 2
  if leAt b 0 2 ≠ 1 ∨ n = 0 ∨ 8 < n ∨ leAt b 4 4 ≠ 0 then none else
  match firRecords n ((b.drop 8).take (b.length - 12)) with
  | some l => if l.all firSetOk then some l else none
  | none => none

/-- Does the library hold every set that a lane selects (12 R368)? -/
def libraryCovers (s : State) (l : List FirSet) : Bool :=
  (List.range 48).all fun i => let sel := fld s (0x5400 + 16 * i) 7 4
    decide (sel < 8) || decide (sel - 8 < l.length)

/-- A lane output in mA (12 R358). -/
def laneMa (z : Int) : F32 := f32OfRatio (16 * 8388608 + 20 * z) 8388608

/-- FLT_STATUS (12 R377). -/
def filterStatus (s : State) (l : Nat) : Word :=
  let u := vgetD s.filt.lanes l LaneUnit.start
  let f := laneSet s l (srd s (0x5400 + 16 * l))
  BitVec.ofNat 32 (f.dec % 512 + 65536 * (f.taps.length % 512) + 2 ^ 25 * b2n (!u.settled) + 2 ^ 26 * b2n u.sat + 2 ^ 27 * b2n u.poison)

/-- FLT_PRIVATE (12 R377). -/
def filterPrivate (s : State) (l : Nat) : Word :=
  let u := vgetD s.filt.lanes l LaneUnit.start
  match u.privNew, u.priv with
  | some f, _ => BitVec.ofNat 32 (f.dec % 512 + 65536 * (f.taps.length % 512))
  | none, some f => BitVec.ofNat 32 (f.dec % 512 + 65536 * (f.taps.length % 512))
  | none, none => 0

end Sys2Proof.Machine
end

