-- ==== Sys2Proof/Machine/Link.lean ====
section
/-! DEFINITION. The Fjozia link and beat alignment (15 R441, R442, 02 R66-R70), and the halter's leases (15 R451-R456),
as shared operations of the twin rows and the bring-up rows. -/
namespace Sys2Proof.Machine

/-- Change the twin unit. -/
def updTwin (f : Twin → Twin) (s : State) : State := { s with twin := f s.twin }

/-- The link state of the pairs: 0 UP, 1 DEGRADED, 2 DOWN (15 R441). -/
def linkState (s : State) : Nat := 2 - (b2n (vget s.twin.pairs 0).up + b2n (vget s.twin.pairs 1).up)

/-- FJ_STATE follows the pairs, and TWIN_LINK is raised when the link state changes (15 R464, R465). -/
def showLink (s : State) : State :=
  let old := fld s 0x7400 1 0
  let s1 := wrFlag (wrFlag (wrFld s 0x7400 1 0 (linkState s)) 0x7400 2 (vget s.twin.pairs 0).up)
    0x7400 3 (vget s.twin.pairs 1).up
  raiseIf (old != linkState s) 123 (linkState s) s1

/-- Change a pair. -/
def updPair (p : Fin 2) (f : FjPair → FjPair) (s : State) : State :=
  updTwin (fun t => { t with pairs := vupd t.pairs p f }) s

/-- A pair is lost (15 R441, R464); requests that wait for the mirror lapse with the link's UP (13 R402). -/
def losePair (p : Fin 2) (s : State) : State :=
  if (vget s.twin.pairs p).up then
    showLink (sticky (updPair p (fun x => { x with up := false, good := 0 }) { s with idReq := [] }) 0x7401 p.val)
  else updPair p (fun x => { x with good := 0 }) s

/-- Is PD1 and PD7 able to use the link (15 R440)? -/
def linkUsable (s : State) : Bool := s.clk.core && !yardFenced s 1 && !yardFenced s 7

/-- A message ends in the CRC-32 of its earlier bytes (15 R442). -/
def msgCrcOk (m : List Byte) : Bool := crc32 (m.take (m.length - 4)) == leAt m (m.length - 4) 4

/-- A message that fails its CRC is discarded and counted (15 R442, R464). -/
def msgCrcFail (s : State) : State := sticky (bump s 0x7404 15 0 1) 0x7401 2

/-- X of 16 R482. -/
def bringUpX (s : State) : Nat := if s.power.cold then 150000000 else 0

/-- The cycle of the handshake verdict (16 R482). -/
def verdictAt (s : State) : Nat := 230000000 + bringUpX s

/-- Does the unit look for a duplicate of its number (16 R486): in bring-up, up to the handshake verdict? -/
def seeksDuplicate (s : State) : Bool := s.power.mode == .bringUp && decide (s.clk.cycle ≤ verdictAt s)

/-- A message with the receiver's own unit number (15 R441, 16 R486): never used, FJ_STICKY bit 4, its pair is lost at
once; during bring-up, up to the verdict, it is a duplicate. -/
def ownMessage (p : Fin 2) (s : State) : State :=
  let s1 := sticky (losePair p (updPair p (fun x => { x with own := true, seen := false }) s)) 0x7401 4
  if seeksDuplicate s then { s1 with power := { s1.power with duplicate := true } } else s1

/-- A valid partner message has crossed on a pair in this beat (15 R441). -/
def goodMessage (p : Fin 2) (s : State) : State := updPair p (fun x => { x with seen := true }) s

/-- Wire time in cycles of n bytes at 8 ns per byte (15 R441, 02 R67), rounded up to whole cycles. -/
def wireCycles (n : Nat) : Nat := (8 * n + 9) / 10

/-- The transit of a message of n bytes: one-way delay, wire time and 3 cycles of crossing (02 R67). -/
def transit (s : State) (n : Nat) : Nat := s.twin.oneWay + wireCycles n + 3

/-! ### Beat numbers and leases -/

/-- The signed difference of two beat numbers (15 R456). -/
def beatDiff (a b : Nat) : Int := signedOf 32 (a + 2 ^ 32 - b % 2 ^ 32)

/-- Beat arithmetic modulo 2^32 (02 R51). -/
def beatAdd (k n : Nat) : Nat := (k + n) % 2 ^ 32

/-- A lease end; the value that means "no lease" is never one (15 R456). -/
def leaseEnd (k n : Nat) : Nat := if beatAdd k n = 0xFFFFFFFF then 0xFFFFFFFE else beatAdd k n

/-- The later of two lease ends (15 R454, R456). -/
def laterLease (a : Option Nat) (b : Nat) : Option Nat :=
  match a with
  | none => some b
  | some x => if 0 < beatDiff b x then some b else some x

/-- Apply the leases that take effect at or before an edge (15 R453, R454). -/
def dueLeases (edge : Nat) (l : List (Nat × Nat)) : List (Nat × Nat) := l.filter (fun x => decide (beatDiff x.1 edge ≤ 0))

/-- Those that take effect later. -/
def laterLeases (edge : Nat) (l : List (Nat × Nat)) : List (Nat × Nat) :=
  l.filter (fun x => !decide (beatDiff x.1 edge ≤ 0))

/-- The unit takes the halter at the present edge with a cause and a confirmed lease end (15 R453, R465). -/
def takeHalter (cause : Nat) (lc : Nat) (s : State) : State :=
  let s1 := sticky (bump (updTwin (fun t => { t with
    holds := true, heldBeat := true, lc := some lc, lcNext := [], takeNext := none, request := none
    aloneFrom := none, remirror := false, count := 0, joinWait := false, handover := .idle }) s) 0x1407 15 0 1) 0x1404 2
  raise 121 (256 + cause) s1

/-- The unit stops holding at the present edge with a cause (15 R453, R454, R458, R465): L_P becomes the later of itself and lp,
and after a lapse the unit takes by expiry only after a partner message. -/
def dropHalter (cause lp : Nat) (bar : Bool) (s : State) : State :=
  let s1 := sticky (bump (updTwin (fun t => { t with
    holds := false, heldBeat := false, lc := none, lcNext := [], lp := laterLease t.lp lp
    barred := t.barred || bar, handover := .idle }) { s with idReq := [] }) 0x1407 15 0 1) 0x1404 3
  raise 121 cause s1

/-! ### Presence -/

/-- Did something that took effect at edge x take effect at edge e, e−1 or e−2 (15 R459)? -/
def recentAt (e : Nat) (x : Option Nat) : Bool :=
  match x with
  | none => false
  | some y => decide (0 ≤ beatDiff e y) && decide (beatDiff e y ≤ 2)

/-- Is the partner present at edge e (15 R459)? -/
def presentAt (e : Nat) (s : State) : Bool :=
  recentAt e s.twin.msgEdge || s.twin.hbEdge.toList.any (recentAt e)

/-- Is the partner fail-silent, as its latest exchange message shows (15 R443)? A later heartbeat shows that it is not, since a
fail-silent unit sends none (13 R399). -/
def partnerSilent (s : State) : Bool :=
  match s.twin.partner with
  | some x => x.flags / 4 % 2 == 1 && !(match s.twin.hbBeat with
    | some b => decide (0 ≤ beatDiff b x.beat)
    | none => false)
  | none => false

/-- Does the unit hear at edge e a partner that is not fail-silent (15 R457)? -/
def hearsPartner (e : Nat) (s : State) : Bool := presentAt e s && !partnerSilent s

/-- Does the partner hold, as its latest message shows (15 R457)? -/
def partnerHolds (s : State) : Bool := s.twin.pHolds && !partnerSilent s

end Sys2Proof.Machine
end

