-- ==== Sys2Proof/Machine/Servo.lean ====
section
/-! DEFINITION. The thruster servo engine (10 R296-R319): references, control law, compensation, faults, axis states, enables
and disables of axes and thrusters (09 R287), axis configuration, and the twin rules for transitions (15 R450). -/
namespace Sys2Proof.Machine

/-! ### Settings -/

/-- The settings of an axis (10 R318); angles, outputs and rates as the map has them. -/
structure AxisCfg where
  convert  : Nat
  compEn   : Bool
  fb       : Nat
  out      : Nat
  en       : Nat
  yLo      : F32
  yHi      : F32
  outLo    : Nat
  outHi    : Nat
  kp       : F32
  ki       : F32
  kd       : F32
  kff      : F32
  fric     : Nat
  fricVel  : F32
  iMax     : F32
  outMax   : F32
  rate     : F32
  shutRate : F32
  feLimit  : F32
  feTime   : Nat
  park     : F32
  band     : F32
  settle   : Nat
  safeVal  : F32
  safeMode : Nat

/-- The settings of axis a in a register file. -/
def axisCfg (r : Regs) (a : Nat) : AxisCfg :=
  let g (i : Nat) : Word := regGet r (0x5000 + 16 * a + i)
  let u (i hi lo : Nat) : Nat := bitsOf (g i) hi lo
  let frac (x : Int) : F32 := fC x 10000
  { convert := u 0 1 0, compEn := u 0 2 2 == 1, fb := u 0 13 8, out := u 0 21 16, en := u 0 29 24
    yLo := frac (signedOf 16 (u 1 15 0)), yHi := frac (signedOf 16 (u 1 31 16)), outLo := u 2 15 0, outHi := u 2 31 16
    kp := g 3, ki := g 4, kd := g 5, kff := g 6, fric := u 7 15 0, fricVel := frac (u 7 31 16)
    iMax := frac (u 8 15 0), outMax := frac (u 8 31 16), rate := frac (u 9 15 0), shutRate := frac (u 9 31 16)
    feLimit := frac (u 10 15 0), feTime := u 10 31 16, park := frac (u 11 15 0), band := fC (u 11 23 16) 1000
    settle := u 11 31 24, safeVal := frac (signedOf 16 (u 12 15 0)), safeMode := u 12 17 16 }

/-- Axis a. -/
def axisAt (s : State) (a : Nat) : AxisUnit := vgetD s.servo.axes a AxisUnit.off

/-- Change axis a. -/
def updAxis (a : Nat) (f : AxisUnit → AxisUnit) (s : State) : State :=
  { s with servo := { s.servo with axes := vupdN s.servo.axes a f } }

/-- The block of PD5 that holds axis a (10 R305). -/
def axisBlock (a : Nat) : Nat := 16 + a / 8

/-- Does the unit make axis transitions of its own (15 R450)? -/
def ownTransitions (s : State) : Bool := s.twin.heldBeat || linkState s == 2

/-- The tick within its beat, j (02 R53). -/
def tickJ (s : State) : Nat := (s.clk.tick + 2 ^ 32 - 40 * s.clk.beat % 2 ^ 32) % 2 ^ 32

/-- Ts, 0.000 25 s. -/
def servoTs : F32 := fC 25 100000

/-! ### Feedback and setpoints -/

/-- Feedback of an axis from its lane's latest output (10 R298); 0 without a feedback channel. -/
def feedbackOf (s : State) (c : AxisCfg) : F32 :=
  if 48 ≤ c.fb then 0 else
  let ma := laneMa (vgetD s.filt.lanes c.fb LaneUnit.start).out
  let y := f32Add c.yLo (f32Mul (f32Div (f32Sub ma (f32OfInt 4)) (f32OfInt 16)) (f32Sub c.yHi c.yLo))
  if c.convert = 2 then wrapTwoPi y else y

/-- Is the stall a word of the compensation table of axis a: memory 1 of PD5, 128 words to an axis (DESIGN CHOICE, log 31)? -/
def tableStall (a i : Nat) : Bool :=
  decide (0x10000 ≤ i) && (i - 0x10000) % 8192 == 5 + 8 * 1 && (i - 0x10000) / 8192 / 128 == a

/-- Is an input that axis a reads poisoned (01 R25, 10 R305): its lane's output, the return frame of a channel it names, a word of its
settings in the beat's snapshot, or, with the compensation enabled, a word of its table? -/
def axisPoison (s : State) (a : Nat) (c : AxisCfg) : Bool :=
  let bank (ch : Nat) : Bool := decide (ch < 48) &&
    ((vgetD s.field.bank (ch / 24) BankUnit.start).poison || blockDown s 6 (ch / 24))
  (decide (c.fb < 48) && ((vgetD s.filt.lanes c.fb LaneUnit.start).poison || blockDown s 5 (c.fb / 6))) ||
    bank c.fb || bank c.out || bank c.en ||
    (s.snapPoison.any fun id => decide (0x5000 + 16 * a ≤ id) && decide (id ≤ 0x500C + 16 * a)) ||
    (c.compEn && s.poison.any (tableStall a))

/-- The input latch of a tick edge (02 R62): feedback of every axis, and nothing forwarded yet. -/
def servoLatch (s : State) : State :=
  let f (a : Fin 48) : AxisUnit :=
    let c := axisCfg s.snap a.val
    { vget s.servo.axes a with y := feedbackOf s c, poison := axisPoison s a.val c }
  { s with servo := { s.servo with axes := Vector.ofFn f, fwd := [] } }

/-- S of an axis from the value its variable's setpoint has (10 R297). -/
def convertSp (s : State) (a : Nat) (v : F32) : F32 :=
  let c := axisCfg s.snap a
  let t := match axisOwner s.snap a with
    | some o => o.1
    | none => 0
  let k := thrCfg s.snap t
  let back := f32Lt v 0
  let d := if back then k.rev else k.fwd
  match c.convert with
  | 0 => if back then f32Neg (f32Mul c.park (f32Sqrt (f32Div (f32Abs v) d))) else f32Sqrt (f32Div v d)
  | 1 => if back then f32Div (f32Mul c.park v) d else f32Div v d
  | _ => wrapTwoPi v

/-- The servo engine's part of a beat edge (10 R301, R311, R315): setpoints of the released result, or the held ones where nothing is
released, requests of the beat that has ended, new tables. old: the settings of the beat that made the result, in which its setpoints are
converted (R297). A new table is written whole, which clears its poison (01 R24). -/
def servoRelease (old : Regs) (released : Bool) (s : State) : State :=
  let one (a : Fin 48) : AxisUnit :=
    let x := vget s.servo.axes a
    let sp := if s.alc.rel.live.any (·.2 == a.val) then s.alc.rel.sp.getD a.val none else none
    let y := if !released then { x with sPrev := x.sNew }
      else match sp with
        | none => { x with sPrev := none, sNew := none }
        | some v =>
          let prev := match x.sNew with
            | some p => p
            | none => x.ref
          { x with sPrev := some prev, sNew := some (convertSp { s with snap := old } a.val v) }
    { y with reqDue := x.reqNew, reqNew := none }
  let tabs := s.servo.newTabs.foldl (fun t z => vupdN t z.1 fun _ => z.2) s.servo.tables
  { s with
    servo := { s.servo with axes := Vector.ofFn one, tables := tabs, newTabs := [] }
    poison := s.poison.filter fun i => !(s.servo.newTabs.any fun z => tableStall z.1 i) }

/-- The live set of a beat edge (09 R265, R286): variables of thrusters that are ON whose axis is ACTIVE and whose group is not
fenced. -/
def liveSet (s : State) : List (Nat × Nat) :=
  (List.range 16).flatMap fun t =>
    let c := thrCfg s.snap t
    if vgetD s.alc.thr t .off != .on then [] else
    (thrAxes c).filterMap fun x =>
      if (axisAt s x.2).state == 1 && !blockDown s 5 (axisBlock x.2) then some (3 * t + x.1, x.2) else none

/-! ### The axis computation -/

/-- The reference step (10 R301, R307). -/
def referenceStep (c : AxisCfg) (j : Nat) (x : AxisUnit) : AxisUnit :=
  let angle := c.convert == 2
  let short (d : F32) : F32 := if angle then wrapPi d else d
  let turn (d : F32) : F32 := if angle then wrapTwoPi d else d
  let target : F32 :=
    if x.state = 1 then (match x.sPrev, x.sNew with
      | some p, some n => turn (f32Add p (f32Mul (fC (j + 1) 40) (short (f32Sub n p))))
      | _, _ => x.ref)
    else if x.state = 2 then (if angle then x.ref else 0)
    else if x.state = 3 then c.park else x.ref
  let most := f32Mul (if x.state = 1 then c.rate else c.shutRate) servoTs
  let step := f32Clamp (f32Neg most) most (short (f32Sub target x.ref))
  { x with ref := turn (f32Add x.ref step), vel := f32Div step servoTs }

/-- The compensation of an axis (10 R303). -/
def compensation (table : List Int) (c : AxisCfg) (y vel : F32) : F32 :=
  if !c.compEn then 0 else
  let p := f32Div (f32Mul y (f32OfInt 256)) f32TwoPi
  let i := f32Floor p
  let f := f32Sub p (f32OfInt i)
  let e (k : Int) : F32 := f32OfInt (table.getD (k % 256).toNat 0)
  let v := f32Div (f32Add (e i) (f32Mul f (f32Sub (e (i + 1)) (e i)))) (f32OfInt 32768)
  if f32Lt c.fricVel (f32Abs vel) then
    let b := f32Div (f32OfInt c.fric) (f32OfInt 32768)
    f32Add v (if f32Sign vel then f32Neg b else b)
  else v

/-- The control law (10 R302). -/
def controlLaw (table : List Int) (c : AxisCfg) (x : AxisUnit) : AxisUnit :=
  let short (d : F32) : F32 := if c.convert = 2 then wrapPi d else d
  let e := short (f32Sub x.ref x.y)
  let dy := f32Div (short (f32Sub x.y x.yPrev)) servoTs
  let comp := compensation table c x.y x.vel
  let raw := f32Add (f32Add (f32Sub (f32Add (f32Mul c.kp e) x.integ) (f32Mul c.kd dy)) (f32Mul c.kff x.vel)) comp
  let u := f32Clamp (f32Neg c.outMax) c.outMax raw
  let sat := raw != u && !(f32IsZero raw && f32IsZero u)
  let same := f32IsZero e == f32IsZero raw && (f32IsZero e || f32Sign e == f32Sign raw)
  let stop := sat && same
  let i1 := if stop then x.integ else f32Add x.integ (f32Mul (f32Mul c.ki servoTs) e)
  let i2 := f32Clamp (f32Neg c.iMax) c.iMax i1
  { x with
    err := e, u := u, uPrev := x.u, integ := i2, yPrev := x.y, sat := sat
    held := stop || (i1 != i2 && !(f32IsZero i1 && f32IsZero i2)), comp := c.compEn }

/-- The command of FAULT (10 R306). -/
def faultCommand (c : AxisCfg) (last : F32) : F32 :=
  match c.safeMode with
  | 1 => last
  | 2 => f32Clamp (f32Neg c.outMax) c.outMax c.safeVal
  | _ => 0

/-- Channel ch of the field. -/
def fieldChan (s : State) (ch : Nat) : ChanUnit := vgetD s.field.chan ch ChanUnit.off

/-- Does a channel report one of the flags of a mask (11 R336)? -/
def chanReports (s : State) (mask ch : Nat) : Bool := decide (ch < 48) && (fieldChan s ch).flags &&& mask != 0

/-- Is a tick mean outside 3.6 to 21.0 mA (10 R305)? -/
def meanOutside (it : Int) : Bool := decide (it < 3600 * 2 ^ 24) || decide (21000 * 2 ^ 24 < it)

/-- The feedback condition of a tick (10 R305 code 2, 11 R336): OPEN, SUPPLY, OVERLOAD, COMMON_FAULT, OVERTEMP, or the mean. -/
def feedbackBad (s : State) (c : AxisCfg) : Bool :=
  decide (c.fb < 48) && (chanReports s 0xCD c.fb || meanOutside (fieldChan s c.fb).it)

/-- The output condition of a tick (10 R305 code 3): as before, or MISMATCH. -/
def outputBad (s : State) (c : AxisCfg) : Bool := chanReports s 0xDD c.out || chanReports s 0xDD c.en

/-- The fault codes that apply to an axis whatever its state, following error apart; 0 none (10 R305). -/
def standingCode (s : State) (a : Nat) (x : AxisUnit) : Nat :=
  if blockDown s 5 (axisBlock a) || x.poison then 4
  else if 4 ≤ x.fbBad then 2 else if 4 ≤ x.outBad then 3 else 0

/-- The fault of the tick of an axis that is ACTIVE, SHUTDOWN or PARK (10 R304, R305); 0 none. -/
def faultCode (s : State) (a : Nat) (x : AxisUnit) : Nat :=
  if x.state = 0 ∨ 3 < x.state then 0
  else match standingCode s a x with
    | 0 => if (axisCfg s.snap a).feTime + 1 ≤ x.fe then 1 else 0
    | n => n

/-- The axes of the thruster that names axis a. -/
def thrusterAxes (r : Regs) (t : Nat) : List Nat := (thrAxes (thrCfg r t)).map (·.2)

/-- The thrust axes of the thruster of a steering axis are OFF or FAULT (10 R308). -/
def thrustAtRest (s : State) (a : Nat) : Bool :=
  match axisOwner s.snap a with
  | none => true
  | some o => (thrusterAxes s.snap o.1).all fun b =>
      (axisCfg s.snap b).convert == 2 || (axisAt s b).state == 0 || (axisAt s b).state == 4

/-- Does a steering axis start its park in this tick (10 R308)? -/
def parkStarts (s : State) (a : Nat) (x : AxisUnit) : Bool :=
  ownTransitions s && x.state == 2 && (axisCfg s.snap a).convert == 2 && thrustAtRest s a

/-- Register what AXIS_STATUS_READ shows of an axis (10 R317). -/
def showAxis (x : AxisUnit) : AxisUnit :=
  { x with shown := ⟨x.state, x.code, x.fe, x.sNew, x.ref, x.y, x.u, x.integ, x.tick,
      b2n x.sat + 2 * b2n x.held + 4 * b2n x.pend + 8 * b2n x.comp⟩ }

/-- One axis in one tick (10 R300-R307). -/
def axisTick (s : State) (a : Nat) (x0 : AxisUnit) : AxisUnit :=
  let c := axisCfg s.snap a
  let x := if parkStarts s a x0 then { x0 with state := 3, settle := 0 } else x0
  let runs := x.state == 1 || x.state == 2 || x.state == 3
  let n : AxisUnit := { x with
    fbBad := if feedbackBad s c then min 4 (x.fbBad + 1) else 0
    outBad := if outputBad s c then min 4 (x.outBad + 1) else 0, tick := s.clk.tick }
  if !runs then
    { n with u := if x.state = 4 then faultCommand c x.uPrev else 0, uPrev := if x.state = 4 then x.uPrev else 0
             fe := 0, settle := 0, sat := false, held := false, comp := false, locFault := false }
  else
    let y := controlLaw ((vgetD s.servo.tables a [])) c (referenceStep c (tickJ s) n)
    let fe := if f32Lt c.feLimit (f32Abs y.err) then satAdd 16 x.fe 1 else 0
    let near := if c.convert = 2 then f32Le (f32Abs (wrapPi (f32Sub y.y c.park))) c.band else f32Le (f32Abs y.y) c.band
    let home := (x.state == 2 && c.convert != 2 && f32IsZero y.ref) || (x.state == 3 && y.ref == c.park)
    let z := { y with fe := fe, settle := if home && near then min 255 (x.settle + 1) else 0 }
    if x.locFault then
      if faultCode s a z = 0 then { z with locFault := false }
      else { z with u := faultCommand c x.uPrev, uPrev := x.uPrev }
    else z

/-! ### Transitions -/

/-- A commit of the servo engine: class 1 on port 3 (10 R313), which nothing outranks (01 R16, R18). -/
def servoCommit (axes : List Nat) (s : State) : State := noteCommit 1 3 (axes.map (0x500D + 16 * ·)) s

/-- The holder forwards an axis state change (15 R450). -/
def forwardAxis (a : Nat) (ev : Option (Nat × Nat)) (s : State) : State :=
  if h : a < 48 then
    if !s.twin.heldBeat then s else
    let x := axisAt s a
    let t : AxisForward := ⟨s.clk.beat, s.clk.cycle - s.clk.beatBase, x.state, x.code, x.pend,
      if x.state = 1 ∧ (axisCfg s.snap a).convert = 2 then some x.join else none, ev⟩
    { s with servo := { s.servo with fwd := s.servo.fwd ++ [(⟨a, h⟩, t)] } }
  else s

/-- A thruster that is shutting down is OFF when its axes are OFF or FAULT (09 R287). -/
def settleThrusters (s : State) : State :=
  let one (t : Fin 16) : ThrState :=
    let u := vget s.alc.thr t
    if u == .shutting && (thrusterAxes s.regs t.val).all (fun a =>
      ((axisAt s a).state == 0 && (axisAt s a).reqNew.isNone && (axisAt s a).reqDue.isNone) || (axisAt s a).state == 4)
    then .off else u
  { s with alc := { s.alc with thr := Vector.ofFn one } }

/-- Clear the pending enable of axes, each of which had one, and set AX_STICKY bit 4 (10 R310, R312). -/
def dropPending (axes : List Nat) (s : State) : State :=
  axes.foldl (fun s a =>
    if (axisAt s a).pend then
      sticky (updAxis a (fun x => { x with pend := false, pendThr := false }) s) (0x500E + 16 * a) 4
    else s) s

/-- The axes that share the pending enable of axis a: those of its thruster where a thruster request made it. -/
def pendingGroup (s : State) (a : Nat) : List Nat :=
  if !(axisAt s a).pendThr then [a] else
  match axisOwner s.regs a with
  | some o => thrusterAxes s.regs o.1
  | none => [a]

/-- The results of a tick are registered on cycle 15 560 (10 R300): values, counters, sticky bits, park starts, AXIS_ON of the enables that
took effect at the tick edge, and AXIS_SATURATED. -/
def execServoRegister (s : State) : Out :=
  if !s.clk.ticks || !s.clk.core then .next s else
  let s := advance (tickCycle s 15560) s
  let old (a : Nat) : AxisUnit := axisAt s a
  let blk := block100 s
  let new (a : Fin 48) : AxisUnit :=
    let x := axisTick s a.val (faulted s a.val (vget s.servo.axes a))
    showAxis { x with satBlk := if x.sat then some blk else x.satBlk, onEv := none }
  let parks := (List.range 48).filter fun a => parkStarts s a (old a)
  let ons := (List.range 48).filterMap fun a => match (old a).onEv with
    | some arg => some (a, arg)
    | none => none
  let s1 := { s with servo := { s.servo with axes := Vector.ofFn new } }
  let mark (s : State) (a : Nat) : State :=
    let x := axisAt s a
    let h := 0x500E + 16 * a
    let half := decide (0 < x.fe) && decide ((axisCfg s.snap a).feTime ≤ 2 * x.fe)
    let t := (if x.sat then sticky s h 1 else s)
    let t := (if x.held then sticky t h 2 else t)
    if half then sticky t h 3 else t
  let s2 := (List.range 48).foldl mark s1
  let s3 := if parks.isEmpty then s2 else servoCommit parks s2
  let s4 := parks.foldl (fun s a => forwardAxis a none s) s3
  let s5 := ons.foldl (fun s x => forwardAxis x.1 (some (82, x.2)) s) s4
  let sats := (List.range 48).filter fun a => (axisAt s1 a).sat && (old a).satBlk != some blk
  .next (raiseAll (ons.map (fun x => (82, x.2)) ++ sats.map fun a => (83, a))
    ((List.range 6).foldl (fun s g => operationDone 5 (16 + g) s) s5))
where
  /-- The operation of a group whose first block fault was declared in the tick delivers poisoned results to its axes (01 R29). -/
  faulted (s : State) (a : Nat) (x : AxisUnit) : AxisUnit := { x with poison := x.poison || resultFaulted s 5 (axisBlock a) }

/-- An axis faults on cycle 15 560 (10 R304-R306, R312): the holder, or a unit whose link is DOWN, enters FAULT; another unit only
takes the command of FAULT (15 R450). -/
def execAxisFault (a : Fin 48) (s : State) : Out :=
  let x := axisAt s a.val
  let code := faultCode s a.val x
  if code = 0 ∨ !s.clk.ticks ∨ !s.clk.core then .next s else
  let s := advance (tickCycle s 15560) s
  let c := axisCfg s.snap a.val
  if ownTransitions s then
    let group := pendingGroup s a.val
    let arg := a.val + 256 * code
    let s1 := if x.pend then dropPending group s else s
    let s2 := updAxis a.val (fun x => showAxis { x with
      state := 4, code := code, fe := 0, settle := 0, parked := false, sPrev := none, sNew := none, locFault := false
      u := faultCommand c x.uPrev }) s1
    let s3 := servoCommit (if x.pend then a.val :: group else [a.val]) s2
    let s4 := bump (sticky s3 (0x500E + 16 * a.val) 0) (0x500F + 16 * a.val) 15 0 1
    .next (settleThrusters (raise 80 arg (forwardAxis a.val (some (80, arg)) s4)))
  else if x.locFault then .next s
  else
    .next (raise 80 (a.val + 256 * code + 0x4000)
      (updAxis a.val (fun x => { x with locFault := true, u := faultCommand c x.uPrev }) s))

/-- A shut-down or a park completes into OFF (10 R308, R312). -/
def execAxisShutdownComplete (a : Fin 48) (s : State) : Out :=
  let x := axisAt s a.val
  let c := axisCfg s.snap a.val
  let done := (x.state == 3 || (x.state == 2 && c.convert != 2)) && decide (c.settle ≤ x.settle)
  if !done || !s.clk.ticks || !s.clk.core || !ownTransitions s || faultCode s a.val x != 0 then .next s else
  let s := advance (tickCycle s 15560) s
  let arg := a.val + if x.pend then 0x8000 else 0
  let s1 := updAxis a.val (fun x => showAxis { x with
    state := 0, code := 0, u := 0, uPrev := 0, fe := 0, settle := 0, parked := x.state == 3, sPrev := none, sNew := none
    sat := false, held := false }) s
  .next (settleThrusters (raise 81 arg (forwardAxis a.val (some (81, arg)) (servoCommit [a.val] s1))))

/-- Entry to ACTIVE (10 R302, R309): reference, integrator, previous feedback, and the join angle of a steering axis. -/
def enterActive (c : AxisCfg) (arg : Nat) (x : AxisUnit) : AxisUnit :=
  let ref := if c.convert = 2 then x.y else 0
  { x with
    state := 1, code := 0, pend := false, pendThr := false, ref := ref, vel := 0, integ := 0, yPrev := x.y, sPrev := none
    sNew := none, fe := 0, settle := 0, locFault := false, onEv := some arg, parked := false
    join := if c.convert = 2 then (if x.parked then c.park else ref) else 0 }

/-- A requested enable or disable takes effect at the tick edge 40(k+1) (10 R308, R311). A unit that makes no transition of its own
takes the holder's (15 R450). -/
def execAxisCommandEffect (a : Fin 48) (s : State) : Out :=
  let x := axisAt s a.val
  match x.reqDue with
  | none => .next s
  | some q =>
    if !s.clk.ticks || !s.clk.core then .next s else
    let s := advance s.clk.tickBase s
    let c := axisCfg s.snap a.val
    let s0 := updAxis a.val (fun x => { x with reqDue := none }) s
    if !ownTransitions s then .next s0 else
    let mates := match axisOwner s.regs a.val with
      | some o => thrusterAxes s.regs o.1
      | none => []
    let waits := q.on && (x.state == 2 || x.state == 3 ||
      (q.thr && mates.any fun b => (axisAt s b).state == 2 || (axisAt s b).state == 3))
    let goTo (f : AxisUnit → AxisUnit) : Out := .next (settleThrusters (servoCommit [a.val] (updAxis a.val f s0)))
    if waits then
      if x.state = 4 ∧ !q.clear then .next s0 else goTo fun x => { x with pend := true, pendThr := q.thr }
    else if q.on then
      if x.state = 0 ∨ (x.state = 4 ∧ q.clear ∧ standingCode s a.val x = 0) then goTo (enterActive c a.val) else .next s0
    else if x.state = 1 then goTo fun x => { x with state := 2, settle := 0 }
    else if x.state = 4 then goTo fun x => { x with state := 0, code := 0, u := 0, uPrev := 0 }
    else .next (settleThrusters s0)

/-- A pending enable takes effect at the first tick edge after the shut-down of its axis, or of every axis of its thruster,
has completed (10 R312). -/
def execPendingEnableEffect (a : Fin 48) (s : State) : Out :=
  let x := axisAt s a.val
  let group := pendingGroup s a.val
  let busy := group.any fun b => (axisAt s b).state == 2 || (axisAt s b).state == 3
  if !x.pend || busy || !s.clk.ticks || !s.clk.core || !ownTransitions s then .next s else
  let s := advance s.clk.tickBase s
  let c := axisCfg s.snap a.val
  let enter := x.state == 0 || (x.state == 4 && standingCode s a.val x == 0)
  let s1 := updAxis a.val (fun x => if enter then enterActive c (a.val + 0x8000) x else
    { x with pend := false, pendThr := false }) s
  let s2 := servoCommit [a.val] s1
  match x.pendThr, axisOwner s.regs a.val with
  | true, some o => .next { s2 with alc := { s2.alc with thr := vupdN s2.alc.thr o.1 fun _ => .on } }
  | _, _ => .next s2

/-- The non-holder registers an axis state change of the holder on cycle 16 560 (15 R450): state, code, pending flag, join angle,
with the same event, AX_FAULT_COUNT and AX_STICKY. -/
def applyForward (a : Fin 48) (t : AxisForward) (s : State) : State :=
  let c := axisCfg s.snap a.val
  let x := axisAt s a.val
  let next : AxisUnit :=
    if t.state = 1 ∧ x.state ≠ 1 then
      let y := enterActive c 0 x
      { y with pend := t.pending, onEv := none, join := match t.join with
        | some j => j
        | none => y.join }
    else if t.state = 0 ∧ x.state ≠ 0 then
      { x with state := 0, code := 0, u := 0, uPrev := 0, fe := 0, settle := 0, parked := x.state == 3 }
    else if t.state = 4 ∧ x.state ≠ 4 then
      { x with state := 4, code := t.code, fe := 0, settle := 0, parked := false, u := faultCommand c x.uPrev }
    else { x with state := t.state, code := t.code, settle := if t.state = x.state then x.settle else 0 }
  let s1 := if x.pend && !t.pending && t.state == 4 then sticky s (0x500E + 16 * a.val) 4 else s
  let s2 := updAxis a.val (fun _ => { next with
    code := t.code, pend := t.pending, pendThr := t.pending && x.pendThr, locFault := false }) s1
  let s3 := match axisOwner s.regs a.val with
    | some o => if t.state = 1 ∧ x.pendThr then
        { s2 with alc := { s2.alc with thr := vupdN s2.alc.thr o.1 fun _ => .on } } else s2
    | none => s2
  let s4 := settleThrusters s3
  match t.event with
  | none => s4
  | some e =>
    raise e.1 e.2 (if e.1 = 80 then bump (sticky s4 (0x500E + 16 * a.val) 0) (0x500F + 16 * a.val) 15 0 1 else s4)

/-! ### Enable and disable -/

/-- What an enable of an axis answers (10 R310). -/
inductive EnableRow where
  | busy | pending | ok
deriving DecidableEq, Repr

/-- The row of R310 for an enable of axis a in its present state. -/
def enableRow (s : State) (a : Nat) : EnableRow :=
  let x := axisAt s a
  if x.state = 4 then (if standingCode s a x = 0 then .ok else .busy)
  else if x.state = 2 ∨ x.state = 3 then .pending
  else if x.state = 0 ∧ x.pend then .pending else .ok

/-- Is an enable of axis a not valid (10 R296, R298, R303, 12 R370)? none: it is valid; else DETAIL. -/
def enableFault (s : State) (a : Nat) : Option Nat :=
  match axisOwner s.regs a with
  | none => some 0
  | some o =>
    let c := axisCfg s.regs a
    let steer := o.2 == 1 && decide (3 ≤ (thrCfg s.regs o.1).kind)
    let lane := rd s (0x5400 + 16 * c.fb)
    let trot := bitsOf lane 1 0 == 1 && bitsOf lane 7 4 == 0 && bitsOf lane 9 8 == 0
    if (c.convert == 2) != steer || decide (48 ≤ c.fb) || (c.compEn && c.convert != 2) || !trot then some 0xFFFF else none

/-- A commit's effect on one axis for an enable that answers OK (10 R310, R311). -/
def requestEnable (thr : Bool) (a : Nat) (s : State) : State :=
  updAxis a (fun x => { x with
    reqNew := some ⟨true, thr, x.state == 4⟩, code := if x.state = 4 then 0 else x.code }) s

/-- A commit's effect on one axis for an enable that becomes pending; thr: for its thruster. -/
def pendEnable (thr : Bool) (a : Nat) (s : State) : State :=
  updAxis a (fun x => if x.pend && !thr then x else
    { x with pend := true, pendThr := thr, reqNew := none, code := if x.state = 4 then 0 else x.code }) s

/-- A commit's effect on one axis for a disable. -/
def requestDisable (thr : Bool) (a : Nat) (s : State) : State :=
  let s1 := if (axisAt s a).state != 1 then dropPending [a] s else s
  updAxis a (fun x => { x with reqNew := some ⟨false, thr, false⟩ }) s1

/-- The checks shared by the requests that name an axis. -/
def axisFields (p : List Byte) : List (Bool × Nat) := [(decide (byteAt p 0 < 48), 0), (zerosAt p 1 3, 1)]

/-- AXIS_ENABLE (10 R310). -/
def opAxisEnable : OpSpec where
  code := 0x40
  check _ p s :=
    match firstBad (axisFields p) with
    | some x => some x
    | none => match enableFault s (byteAt p 0) with
      | some d => some (stBadParam, d)
      | none => none
  busy _ p s := enableRow s (byteAt p 0) == .busy
  halter _ _ := true
  internal p s := blockOut s 5 (axisBlock (byteAt p 0))
  targets p _ := [0x500D + 16 * byteAt p 0]
  commit _ p s :=
    let a := byteAt p 0
    match enableRow s a with
    | .pending => ⟨pendEnable (axisAt s a).pendThr a s, stPending, a, []⟩
    | _ => okResult (requestEnable false a s)

/-- AXIS_ENABLE. -/
def execAxisEnable (r : Req) (s : State) : Out := .next (serve opAxisEnable r s)

/-- AXIS_DISABLE (10 R310). -/
def opAxisDisable : OpSpec where
  code := 0x42
  check _ p _ := firstBad (axisFields p)
  halter _ _ := true
  internal p s := blockOut s 5 (axisBlock (byteAt p 0))
  targets p _ := [0x500D + 16 * byteAt p 0]
  commit _ p s := okResult (requestDisable false (byteAt p 0) s)

/-- AXIS_DISABLE. -/
def execAxisDisable (r : Req) (s : State) : Out := .next (serve opAxisDisable r s)

/-- Is a thruster number that of a configured thruster? -/
def thrOk (s : State) (t : Nat) : Bool := decide (t < 16) && (thrCfg s.regs t).kind != 0

/-- Change the state of a thruster. -/
def setThr (t : Nat) (f : ThrState → ThrState) (s : State) : State :=
  { s with alc := { s.alc with thr := vupdN s.alc.thr t f } }

/-- THRUSTER_ENABLE (09 R287, 10 R310): the most restrictive axis decides. -/
def opThrusterEnable : OpSpec where
  code := 0x30
  check _ p s :=
    match firstBad [(thrOk s (byteAt p 0), 0), (zerosAt p 1 3, 1)] with
    | some x => some x
    | none => match (thrusterAxes s.regs (byteAt p 0)).filterMap (enableFault s) with
      | d :: _ => some (stBadParam, d)
      | [] => none
  busy _ p s := (thrusterAxes s.regs (byteAt p 0)).any fun a => enableRow s a == .busy
  halter _ _ := true
  internal p s := (thrusterAxes s.regs (byteAt p 0)).any fun a => blockOut s 5 (axisBlock a)
  targets p s := (thrusterAxes s.regs (byteAt p 0)).map (0x500D + 16 * ·)
  commit _ p s :=
    let t := byteAt p 0
    let axes := thrusterAxes s.regs t
    if axes.any (fun a => enableRow s a == .pending) then
      ⟨axes.foldl (fun s a => pendEnable true a s) s, stPending, t, []⟩
    else okResult (setThr t (fun _ => .on) (axes.foldl (fun s a => requestEnable true a s) s))

/-- THRUSTER_ENABLE. -/
def execThrusterEnable (r : Req) (s : State) : Out := .next (serve opThrusterEnable r s)

/-- THRUSTER_DISABLE (09 R287, 10 R310). -/
def opThrusterDisable : OpSpec where
  code := 0x32
  check _ p s := firstBad [(thrOk s (byteAt p 0), 0), (zerosAt p 1 3, 1)]
  halter _ _ := true
  internal p s := (thrusterAxes s.regs (byteAt p 0)).any fun a => blockOut s 5 (axisBlock a)
  targets p s := (thrusterAxes s.regs (byteAt p 0)).map (0x500D + 16 * ·)
  commit _ p s :=
    let t := byteAt p 0
    okResult (setThr t (fun u => if u == .on then .shutting else u)
      ((thrusterAxes s.regs t).foldl (fun s a => requestDisable true a s) s))

/-- THRUSTER_DISABLE. -/
def execThrusterDisable (r : Req) (s : State) : Out := .next (serve opThrusterDisable r s)

/-- ALLOC_RESULT_READ (09 R289). -/
def opAllocResultRead : OpSpec where
  code := 0x38
  internal _ s := yardFenced s 2 || s.alc.res.poison
  commit _ _ s := okData s (allocResultData s)

/-- ALLOC_RESULT_READ. -/
def execAllocResultRead (r : Req) (s : State) : Out := .next (serve opAllocResultRead r s)

/-! ### Axis configuration -/

/-- Does a word leave the reserved bits of its identifier 0 (00 R8)? -/
def fitsMap (id : Nat) (w : Word) : Bool :=
  match paramRow id with
  | some r => w &&& ~~~(writableMask id r) == 0
  | none => false

/-- Is the word of an axis parameter in range (10 R318)? -/
def axisParamOk (r : Regs) (id : Nat) : Bool :=
  if id < 0x5000 ∨ 0x5300 ≤ id then true else
  let w := regGet r id
  let lo := bitsOf w 15 0
  let hi := bitsOf w 31 16
  let ch (a b : Nat) : Bool := let n := bitsOf w a b
    decide (n < 48) || n == 0x3F
  let cur (n : Nat) : Bool := decide (4000 ≤ n) && decide (n ≤ 20000)
  match id % 16 with
  | 0 => bitsOf w 1 0 != 3 && ch 13 8 && ch 21 16 && ch 29 24
  | 1 => lo != hi
  | 2 => cur lo && cur hi
  | 3 => f32IsFinite w
  | 4 => f32IsFinite w
  | 5 => f32IsFinite w
  | 6 => f32IsFinite w
  | 7 => decide (lo ≤ 32767)
  | 8 => decide (lo ≤ 10000) && decide (1 ≤ hi) && decide (hi ≤ 10000)
  | 9 => lo != 0 && hi != 0
  | 10 => lo != 0 && decide (1 ≤ hi) && decide (hi ≤ 4000)
  | 11 => (if bitsOf (regGet r (id - 11)) 1 0 = 2 then decide (lo ≤ 62831) else decide (lo ≤ 10000)) &&
      bitsOf w 23 16 != 0 && bitsOf w 31 24 != 0
  | 12 => bitsOf w 17 16 != 3
  | _ => true

/-- Does a write leave AX_CONFIG of an axis with FB_CH 0x3F where that is refused with BUSY (10 R298)? -/
def axisParamBusy (s : State) (r : Regs) (id : Nat) : Bool :=
  decide (0x5000 ≤ id) && decide (id < 0x5300) && id % 16 == 0 && bitsOf (regGet r id) 13 8 == 0x3F &&
    axisBusy (axisAt s ((id - 0x5000) / 16))

/-- The identifiers and payload offsets of AXIS_CONFIG (10 R314). -/
def axisWords (expert : Bool) (a : Nat) : List (Nat × Nat) :=
  let b := 0x5000 + 16 * a
  (List.range 5).map (fun i => (b + 8 + i, 4 + 4 * i)) ++
    if expert then (List.range 8).map (fun i => (b + i, 32 + 4 * i)) else []

/-- AXIS_CONFIG in its two forms (10 R314). -/
def axisConfig (expert : Bool) (opc : Nat) : OpSpec where
  code := opc
  check _ p s :=
    let a := byteAt p 0
    let ws := axisWords expert a
    let n := ws.foldl (fun r x => regSet r x.1 (wordAt p x.2)) s.regs
    match firstBad (axisFields p) with
    | some x => some x
    | none =>
      let good (x : Nat × Nat) : Bool × Nat := (axisParamOk n x.1 && fitsMap x.1 (wordAt p x.2), x.2)
      match firstBad ((ws.take 5).map good ++ [(zerosAt p 24 8, 24)] ++ (ws.drop 5).map good) with
      | some x => some x
      | none =>
        let b := 0x5000 + 16 * a
        let moved := [(b, 32), (b + 1, 36), (b + 2, 40)].find? fun x => wordAt p x.2 != rd s x.1
        if !expert then none
        else match moved with
          | some x => if (axisAt s a).state != 0 then some (stBusy, x.2)
            else if axisParamBusy s n b then some (stBusy, 32) else none
          | none => if axisParamBusy s n b then some (stBusy, 32) else none
  halter _ _ := true
  internal p s := blockOut s 5 (axisBlock (byteAt p 0))
  targets p _ := (axisWords expert (byteAt p 0)).map (·.1)
  commit _ p s := okResult (wrAll s ((axisWords expert (byteAt p 0)).map fun x => (x.1, wordAt p x.2)))

/-- AXIS_CONFIG, basic form. -/
def opAxisConfigBasic : OpSpec := axisConfig false 0x44

/-- AXIS_CONFIG basic (10 R314). -/
def execAxisConfigBasic (r : Req) (s : State) : Out := .next (serve opAxisConfigBasic r s)

/-- AXIS_CONFIG, expert form. -/
def opAxisConfigExpert : OpSpec := axisConfig true 0x45

/-- AXIS_CONFIG expert (10 R314). -/
def execAxisConfigExpert (r : Req) (s : State) : Out := .next (serve opAxisConfigExpert r s)

/-- The 256 entries of a compensation table from an offset on (10 R315). -/
def tableAt (p : List Byte) (o : Nat) : List Int := (List.range 256).map fun i => signedOf 16 (leAt p (o + 2 * i) 2)

/-- New compensation tables wait for the next beat edge (10 R315, R316). -/
def loadTabs (l : List (Nat × List Int)) (s : State) : State :=
  { s with servo := { s.servo with newTabs := s.servo.newTabs ++ l } }

/-- COMP_TABLE_LOAD (10 R315). -/
def opCompTableLoad : OpSpec where
  code := 0x47
  check _ p _ := firstBad (axisFields p)
  halter _ _ := true
  internal p s := blockOut s 5 (axisBlock (byteAt p 0))
  targets p _ := [0x08005000 + byteAt p 0]
  commit _ p s := okResult (raise 84 (byteAt p 0) (loadTabs [(byteAt p 0, tableAt p 4)] s))

/-- COMP_TABLE_LOAD. -/
def execCompTableLoad (r : Req) (s : State) : Out := .next (serve opCompTableLoad r s)

/-- The tables of configuration file kind 2 (10 R316); none where the file is rejected. -/
def compTables (b : List Byte) : Option (List (Nat × List Int)) :=
  let n := leAt b 2 2
  if leAt b 0 2 ≠ 1 ∨ n = 0 ∨ 48 < n ∨ leAt b 4 4 ≠ 0 ∨ b.length ≠ 12 + 516 * n then none else
  let axes := (List.range n).map fun i => byteAt b (8 + 516 * i)
  let once := (List.range n).all fun i => !(axes.drop (i + 1)).contains (axes.getD i 0)
  let rsv := (List.range n).all fun i => zerosAt b (9 + 516 * i) 3
  if once && rsv && axes.all (fun a => decide (a < 48)) then
    some ((List.range n).map fun i => (axes.getD i 0, tableAt b (12 + 516 * i)))
  else none

/-- AX_STATE (10 R318). -/
def axisStateWord (x : AxisUnit) : Word :=
  BitVec.ofNat 32 (x.state + 8 * b2n x.pend + 16 * x.code + 256 * b2n x.sat + 512 * b2n x.held + 65536 * x.fe)

/-- AXIS_STATUS_READ (10 R317). -/
def opAxisStatusRead : OpSpec where
  code := 0x48
  check _ p _ := firstBad (axisFields p)
  internal p s := blockOut s 5 (axisBlock (byteAt p 0))
  commit _ p s :=
    let x := (axisAt s (byteAt p 0)).shown
    let sp := match x.sp with
      | some v => v
      | none => f32NaN
    okData s (leBytes 1 x.state ++ leBytes 1 x.code ++ leBytes 2 x.fe ++ wordBytes sp ++ wordBytes x.ref ++ wordBytes x.y ++
      wordBytes x.u ++ wordBytes x.integ ++ leBytes 4 x.tick ++
      leBytes 1 x.flags ++ zeroBytes 3)

/-- AXIS_STATUS_READ. -/
def execAxisStatusRead (r : Req) (s : State) : Out := .next (serve opAxisStatusRead r s)

end Sys2Proof.Machine
end

