-- ==== Sys2Proof/Machine/Field.lean ====
section
/-! DEFINITION. The universal field channels (11 R320-R354): barrier links, inputs, outputs, diagnostics, field supply, logic silence and
safe values, with the tick edge that begins a servo tick (02 R62). -/
namespace Sys2Proof.Machine

/-! ### Settings and uses -/

/-- MODE of a CH_CONFIG word (11 R321). -/
def chMode (w : Word) : Nat := bitsOf w 2 0

/-- The axis that names channel ch as OUT_CH and the one that names it as EN_CH, in a register file. -/
def outAxis (r : Regs) (ch : Nat) : Option Nat :=
  (List.range 48).find? fun a => bitsOf (regGet r (0x5000 + 16 * a)) 21 16 == ch

/-- The axis that names channel ch as EN_CH. -/
def enAxis (r : Regs) (ch : Nat) : Option Nat :=
  (List.range 48).find? fun a => bitsOf (regGet r (0x5000 + 16 * a)) 29 24 == ch

/-- The axis that names channel ch as FB_CH. -/
def fbAxis (r : Regs) (ch : Nat) : Option Nat :=
  (List.range 48).find? fun a => bitsOf (regGet r (0x5000 + 16 * a)) 13 8 == ch

/-- Is a channel servo-owned (11 R331)? -/
def servoOwned (r : Regs) (ch : Nat) : Bool := (outAxis r ch).isSome || (enAxis r ch).isSome

/-- Does a channel of a mode differ from its use (11 R332)? -/
def unfit (r : Regs) (mode ch : Nat) : Bool :=
  ((outAxis r ch).isSome && mode != 5) || ((enAxis r ch).isSome && mode != 3) || ((fbAxis r ch).isSome && mode != 4)

/-- Is the mode an output mode? -/
def isOutput (mode : Nat) : Bool := mode == 3 || mode == 5

/-- Bank b. -/
def bankAt (s : State) (b : Nat) : BankUnit := vgetD s.field.bank b BankUnit.start

/-- Change bank b. -/
def updBank (b : Nat) (f : BankUnit → BankUnit) (s : State) : State :=
  { s with field := { s.field with bank := vupdN s.field.bank b f } }

/-- Change the channels of bank b; f takes the channel number. -/
def updChans (b : Nat) (f : Nat → ChanUnit → ChanUnit) (s : State) : State :=
  let g (c : Fin 48) : ChanUnit := let u := vget s.field.chan c
    if c.val / 24 = b then f c.val u else u
  { s with field := { s.field with chan := Vector.ofFn g } }

/-- Change channel ch. -/
def updField (ch : Nat) (f : ChanUnit → ChanUnit) (s : State) : State :=
  { s with field := { s.field with chan := vupdN s.field.chan ch f } }

/-! ### The isolated side -/

/-- The value a channel drives in safe state (11 R343). -/
def safeValue (c : ChanUnit) : Nat :=
  match bitsOf c.safe32 1 0 with
  | 1 => if c.mode = 3 then 1 else 0
  | 2 => c.cmd
  | 3 => if c.mode = 5 then bitsOf c.safe32 31 16 else 0
  | _ => 0

/-- The command that the channel's output follows (11 R343, R345); 0 for a channel that is no output or does not drive. -/
def commandOf (c : ChanUnit) : Nat :=
  if !isOutput c.mode || !c.drive then 0 else if c.safe then safeValue c else c.cmd

/-- What the output driver of channel ch delivers (11 R322, R338, R339): nothing while its bank's field supply is not OK or the bank has
tripped, and nothing from a switch that is cut off or a source whose stage is hot (R337); else its command in force. -/
def delivered (s : State) (ch : Nat) : Nat :=
  let c := vgetD s.field.chan ch ChanUnit.off
  let u := bankAt s (ch / 24)
  if u.supply != 0 || u.trip || c.cut.isSome || c.mode == 5 && c.hot then 0 else c.eff

/-- Bring the command in force up to date (11 R333, R335): ticks since it changed. An off command resets a current-limit cut-off, so a
later on command switches the output on again (DEDUCED, log 23); a thermal one waits for its junction to cool. -/
def refresh (c : ChanUnit) : ChanUnit :=
  let e := commandOf c
  let c1 : ChanUnit := if e = c.eff then c else { c with eff := e, since := 0 }
  if e = 0 then { c1 with needOff := false, cut := if c.cut = some false then none else c.cut } else c1

/-- Does the silence count of a bank reach 4T (11 R342)? -/
def silenceDue (u : BankUnit) : Bool := !u.inSafe && decide (4 * u.silence ≤ u.missing)

/-- Does the bank's safe state end (11 R344)? -/
def resumeDue (u : BankUnit) : Bool := u.inSafe && !u.latched && decide (40 ≤ u.valid)

/-- Do the outputs of a bank follow the frames of this tick (11 R342, R344)? -/
def bankFollows (u : BankUnit) : Bool := (!u.inSafe && !silenceDue u) || resumeDue u

/-- The mode of a channel on the isolated side after cycle 40 of tick j (11 R347). -/
def modeAtTick (j : Nat) (c : ChanUnit) : Nat :=
  match c.modeNew with
  | some m => if 4 ≤ j then m else 0
  | none => c.mode

/-- The isolated sides start, in their safe values, at the start of the links (11 R322, R338, R343, 16 R472). -/
def linksStart (f : Field) : Field :=
  { f with chan := Vector.replicate 48 ChanUnit.off, bank := Vector.replicate 2 BankUnit.start, due := false }

/-- Every field output is de-energised (16 R472). -/
def deEnergise (f : Field) : Field := linksStart f

/-- The current in µA of a servo command (10 R299), to the nearest µA. -/
def outputMicroamps (c : AxisCfg) (u : F32) : Nat :=
  let span := f32Sub (f32OfInt c.outHi) (f32OfInt c.outLo)
  (f32ToInt (f32Add (f32OfInt c.outLo) (f32Mul (f32Div (f32Add u f32One) (f32OfInt 2)) span))).toNat

/-- What the servo output frame carries for channel ch (10 R299); none for a channel that no axis owns. -/
def servoValue (s : State) (ch : Nat) : Option Nat :=
  match outAxis s.snap ch with
  | some a => some (outputMicroamps (axisCfg s.snap a) (axisAt s a).u)
  | none => match enAxis s.snap ch with
    | some a => let st := (axisAt s a).state
      some (b2n (st == 1 || st == 2 || st == 3))
    | none => none

/-- Does the module send alive markers and output frames to bank b (11 R341, 16 R475)? -/
def talksTo (s : State) (b : Nat) : Bool :=
  s.clk.beats && s.power.mode == .run && !failSilent s && !yardFenced s 5 && !blockDown s 6 b

/-- The servo output frame on bank b (11 R331, R332). -/
def servoFrame (b : Nat) (s : State) : State :=
  let u := bankAt s b
  let j := tickJ s
  let one (ch : Nat) (c : ChanUnit) : ChanUnit :=
    match servoValue s ch with
    | none => c
    | some v =>
      let m := modeAtTick j c
      if !bankFollows u || m == 0 || unfit s.snap m ch then c else refresh { c with cmd := v }
  updChans b one s

/-- The release register of a field output: word ch of memory 0 of PD6 (DESIGN CHOICE, log 31). -/
def releaseStall (ch : Nat) : Nat := memoryStall 6 0 ch

/-- Is a field output stall of a channel poisoned (01 R25): its release register, or the settings that the frame carries? -/
def outputPoisoned (s : State) (ch : Nat) : Bool :=
  s.poison.contains (releaseStall ch) || s.snapPoison.any fun id => decide (0x6000 + 16 * ch ≤ id) && decide (id ≤ 0x6003 + 16 * ch)

/-- One channel takes the beat output frame (11 R331, R344, R345, R347, 01 R25). -/
def beatFrameChan (s : State) (u : BankUnit) (ch : Nat) (c : ChanUnit) : ChanUnit :=
  let g (i : Nat) : Word := srd s (0x6000 + 16 * ch + i)
  let m := chMode (g 0)
  let target := match c.modeNew with
    | some x => x
    | none => c.mode
  let bad := outputPoisoned s ch
  let owned := servoOwned s.snap ch
  let c1 : ChanUnit := { c with
    cfg := g 0, safe32 := g 1, expert := g 3, drive := !bitOf (g 0) 4 || s.twin.heldBeat
    cmd := if owned then c.cmd else if m = 3 then bitsOf (g 2) 0 0 else if m = 5 then bitsOf (g 2) 31 16 else 0
    safe := if bad then true else if bankFollows u then false else c.safe }
  refresh (if m = target then c1 else { c1 with mode := 0, modeNew := some m, quiet := some 8 })

/-- The beat output frame on bank b (11 R323, R339, R344): silence settings, latch clears, and every channel. -/
def beatFrame (b : Nat) (s : State) : State :=
  let ctrl := srd s (0x6400 + 16 * b)
  let clear (i : Nat) : Bool := !sflag s (0x6402 + 16 * b) i && !flag s (0x6402 + 16 * b) i
  let s1 := updBank b (fun u => { u with
    silence := bitsOf ctrl 9 0, resume := bitOf ctrl 10
    latched := u.latched && !(u.safeRep && clear 0)
    trip := u.trip && !clear 1, overRun := if u.trip && clear 1 then 0 else u.overRun }) s
  updChans b (beatFrameChan s1 (bankAt s1 b)) s1

/-! ### The logic side -/

/-- The class of a field supply in 10 mV (11 R338), coded as BANK_STATUS has it. -/
def supplyClass (v : Int) : Nat :=
  if v ≤ -300 then 4 else if v < 500 then 1 else if v < 1920 then 2 else if v ≤ 3000 then 0 else 3

/-- The supply state of the tick: the one being taken where a class has held for 4 ticks (11 R338). -/
def supplyNow (u : BankUnit) : Nat := if 4 ≤ u.clsRun then u.cls else u.supply

/-- Common mode of the tick (11 R325). -/
def commonNow (u : BankUnit) : Bool := if u.common then decide (u.goodDiag < 400) else decide (3 ≤ u.badDiag)

/-- Is the field supply outside the range in which wire-break detection is valid (11 R328)? -/
def outsideWb (u : BankUnit) : Bool := decide (u.volts < 2040) || decide (2880 < u.volts)

/-- A tick mean in µA compared: is it below n? -/
def meanBelow (it : Int) (n : Nat) : Bool := decide (it < (n : Int) * 2 ^ 24)

/-- Is a tick mean above n µA? -/
def meanAbove (it : Int) (n : Nat) : Bool := decide ((n : Int) * 2 ^ 24 < it)

/-- The flags of a channel in a tick, in CH_STICKY bit order (11 R328, R330, R332-R338, R345). -/
def chanFlags (r : Regs) (u : BankUnit) (ch : Nat) (c : ChanUnit) : Nat :=
  if c.mode = 0 ∨ c.quiet.isSome then 0 else
  let di := c.mode == 1 || c.mode == 2
  let wb := di && bitOf c.cfg 3
  let out := isOutput c.mode
  let low := out && supplyNow u != 0
  let wbLow := wb && outsideWb u
  let tests := out && supplyNow u == 0 && c.drive
  let common := commonNow u
  let on := c.eff != 0
  let loud := decide (3500 ≤ c.eff)
  let tol : Int := (bitsOf c.expert 15 0 : Int) + ((c.eff : Int) - c.effPrev).natAbs
  let openW := (wb && !wbLow && meanBelow c.it 350) || (c.mode == 4 && meanBelow c.it 350) ||
    (c.mode == 3 && tests && c.openW && (on || bitOf c.expert 24)) ||
    (c.mode == 5 && tests && loud && meanBelow c.it 350)
  let range := c.mode == 4 && (meanBelow c.it 3600 || meanAbove c.it 21000)
  let overT := ((c.mode == 4 || c.mode == 5) && meanAbove c.it 25000) || (c.mode == 3 && c.cut == some false)
  let hot := c.hot || (c.mode == 3 && c.cut == some true)
  let mism := (c.mode == 3 && tests && decide (bitsOf c.expert 23 16 ≤ c.since) && on != c.lvl) ||
    (c.mode == 5 && tests && loud && !openW && decide (((c.it - (c.eff : Int) * 2 ^ 24).natAbs : Int) > tol * 2 ^ 24))
  b2n (openW && !common) + 2 * b2n range + 4 * b2n (overT && !common) + 8 * b2n (hot && !common) + 16 * b2n mism +
    32 * b2n (unfit r c.mode ch) + 64 * b2n (low || wbLow) + 128 * b2n (common && u.fault)

/-- A digital input in a tick (11 R327-R329, R338): the level and for how many ticks it has differed from the reported
state. -/
def inputStep (u : BankUnit) (c : ChanUnit) : ChanUnit :=
  let di := c.mode == 1 || c.mode == 2
  if !di || c.quiet.isSome then { c with di := false, cand := false, run := 0, wb := none } else
  let was := match c.wb with
    | some x => x
    | none => false
  let wbState := if outsideWb u then was else if meanBelow c.it 1500 then false else if meanAbove c.it 2000 then true else was
  let dead := supplyNow u == 1 || supplyNow u == 4
  let raw := if bitOf c.cfg 3 then wbState else c.lvl && !dead
  { c with
    wb := if bitOf c.cfg 3 then some wbState else none, cand := raw
    run := if raw == c.di then 0 else if raw == c.cand then min 256 (c.run + 1) else 1 }

/-- One bank latches a good return frame (11 R325, R328, R338, R339). -/
def bankLatch (tick : Nat) (x : BankIn) (u : BankUnit) : BankUnit :=
  let k := supplyClass x.volts
  { u with
    poison := false, volts := x.volts, mA := min 65535 x.mA, cls := k, clsRun := if k = u.cls then min 4 (u.clsRun + 1) else 1
    overRun := if 11000 < x.mA then min 40 (u.overRun + 1) else 0
    badDiag := if x.diagOk then 0 else min 3 (u.badDiag + 1)
    goodDiag := if x.diagOk then min 400 (u.goodDiag + 1) else 0, fault := x.fault, tick := tick }

/-- One channel latches a good return frame, and its flags of the tick. -/
def chanLatch (s : State) (x : BankIn) (u : BankUnit) (ch : Nat) (c : ChanUnit) : ChanUnit :=
  let i := ch % 24
  let c1 : ChanUnit := { c with
    lvl := x.levels.getLsbD i
    openW := if x.diagOk then x.openW.getLsbD i else c.openW
    hot := if x.diagOk then x.hot.getLsbD i else c.hot
    it := 16000 * 2 ^ 24 + 20000 * vgetD s.filt.means ch 0, safeRep := c.safe }
  let c2 := inputStep u c1
  let f := chanFlags s.snap u ch c2
  { c2 with flags := f, lastF := if f = 0 then c2.lastF else f, effPrev := c2.eff, since := min 1000 (c2.since + 1) }

/-- Sticky bits, fault counts and CHANNEL_FAULT of channel ch, whose unit was c before the tick (11 R336, R354). -/
def reportChan (c : ChanUnit) (ch : Nat) (a : State × List (Nat × Nat)) : State × List (Nat × Nat) :=
  let s := a.1
  let n := fieldChan s ch
  let h := 0x6005 + 16 * ch
  let s1 := if n.flags = 0 then s else wr s h (rd s h ||| BitVec.ofNat 32 n.flags)
  if n.flags ≠ 0 ∧ c.flags = 0 then (bump s1 (h + 1) 15 0 1, a.2 ++ [(96, ch + 64 * n.flags)])
  else if n.flags = 0 ∧ c.flags ≠ 0 then (s1, a.2 ++ [(96, ch + 64 * c.lastF + 0x8000)])
  else (s1, a.2)

/-- Count bad frames of a bank, with BARRIER_CRC once per block of 100 beats (11 R324, R354). -/
def badFrames (b n : Nat) (ret : Bool) (a : State × List (Nat × Nat)) : State × List (Nat × Nat) :=
  if n = 0 then a else
  let blk := block100 a.1
  let h := 0x6400 + 16 * b
  let s1 := sticky (bump a.1 (h + 5) 15 0 n) (h + 3) 5
  if (bankAt s1 b).crcBlk = some blk then (s1, a.2)
  else (updBank b (fun u => { u with crcBlk := some blk }) s1, a.2 ++ [(101, b + 256 * b2n ret)])

/-- The safe state as the return frame shows it (11 R343, R344). -/
def reportSafe (b : Nat) (a : State × List (Nat × Nat)) : State × List (Nat × Nat) :=
  let u := bankAt a.1 b
  if u.inSafe == u.safeRep then a else
  let s1 := updBank b (fun u => { u with safeRep := u.inSafe }) a.1
  if !u.inSafe then (s1, a.2 ++ [(100, b + 0x8000)]) else
  let s2 := sticky s1 (0x6403 + 16 * b) 4
  let s3 := if u.latched then wrFlag s2 (0x6402 + 16 * b) 0 true else s2
  ((List.range 24).foldl (fun s i => sticky s (0x6005 + 16 * (24 * b + i)) 8) s3, a.2 ++ [(100, b)])


/-- What bank b's link brings at a tick edge (11 R323, R324): a bad or absent frame is a block fault and its data poisoned; the first
tick edge of a start latches nothing. -/
def linkLatch (b : Nat) (x : BankIn) (a : State × List (Nat × Nat)) : State × List (Nat × Nat) :=
  let s := a.1
  let quieter (c : ChanUnit) : ChanUnit := { c with quiet := match c.quiet with
    | some n => if n ≤ 1 then none else some (n - 1)
    | none => none }
  let s0 := updChans b (fun _ c => quieter c) s
  if blockDown s 6 b then (updBank b (fun u => { u with poison := true }) s0, a.2)
  else if (bankAt s b).first then (updBank b (fun u => { u with first := false }) s0, a.2)
  else if !x.frameOk then
    badFrames b 1 true (blockFault 6 b false (updBank b (fun u => { u with poison := true }) s0), a.2)
  else if resultFaulted s 6 b then (updBank b (fun u => { u with poison := true }) (operationDone 6 b s0), a.2)
  else
    let u := bankLatch s.clk.tick x (bankAt s b)
    let s1 := updBank b (fun _ => { u with badOut := 0 }) (operationDone 6 b s0)
    let s2 := updChans b (chanLatch s1 x u) s1
    let r := (List.range 24).foldl (fun a i => reportChan (fieldChan s (24 * b + i)) (24 * b + i) a) (s2, a.2)
    reportSafe b (badFrames b u.badOut false r)

/-- The alive marker and the output frames of a tick on bank b (11 R323, R324, R341, R342). -/
def linkSend (b : Nat) (x : BankIn) (s : State) : State :=
  if !talksTo s b then updBank b (fun u => { u with valid := 0, missing := min 4000 (u.missing + 1) }) s else
  let s1 := if x.badAlive then
      updBank b (fun u => { u with valid := 0, missing := min 4000 (u.missing + 1), badOut := u.badOut + 1 }) s
    else updBank b (fun u => { u with valid := min 40 (u.valid + 1), missing := 0 }) s
  let s2 := if x.badServo then updBank b (fun u => { u with badOut := u.badOut + 1 }) s1 else servoFrame b s1
  if tickJ s = 0 ∧ s.field.due then
    if x.badBeat then updBank b (fun u => { u with badOut := u.badOut + 1 }) s2 else beatFrame b s2
  else s2

/-- What bank b's link brings, given the segments of its modulator bits: one that failed or was absent makes the return frame a failed
frame (12 R372). -/
def withSegments (s : State) (b : Fin 2) (x : BankIn) : BankIn := { x with frameOk := x.frameOk && !vget s.filt.bad b }

/-- A servo tick begins (02 R53, R62, 11 R323): return frames and filter outputs are latched, channel and bank status is registered on
cycle 160, alive markers and output frames are sent. -/
def execTickEdge (t : TickIn) (s : State) : Out :=
  if !s.clk.ticks || !s.clk.core then .next s else
  let c := { s.clk with tick := (s.clk.tick + 1) % 2 ^ 32, tickBase := s.clk.tickBase + 25000 }
  let s1 := advance c.tickBase { s with clk := c }
  let r := linkLatch 1 (withSegments s 1 t.b) (linkLatch 0 (withSegments s 0 t.a) (s1, []))
  let bad (b : Fin 2) : Bool := let x := if b = 0 then t.a else t.b
    !x.frameOk && !(vget s.field.bank b).first
  let carry (b : Fin 2) : Nat := if vget s.filt.bad b || bad b then 3 else vget s.filt.carry b
  let s2 := { r.1 with filt := { r.1.filt with bad := Vector.replicate 2 false, carry := Vector.ofFn carry } }
  let s3 := raiseAll r.2 (advance (c.tickBase + 160) s2)
  let s4 := linkSend 1 t.b (linkSend 0 t.a s3)
  .next (servoLatch s4)

/-! ### Bank rows -/

/-- Three consecutive bad diagnostic blocks put a bank in common mode (11 R325). -/
def execDiagCommonEntry (bank : Fin 2) (s : State) : Out :=
  let u := vget s.field.bank bank
  if u.common || decide (u.badDiag < 3) then .next s else
  .next (raise 99 bank.val (sticky (updBank bank.val (fun u => { u with common := true }) (advance (tickCycle s 160) s))
    (0x6403 + 16 * bank.val) 3))

/-- 400 good ticks return a bank to per-channel flags (11 R325). -/
def execDiagCommonExit (bank : Fin 2) (s : State) : Out :=
  let u := vget s.field.bank bank
  if !u.common || decide (u.goodDiag < 400) then .next s else
  .next (raise 99 (bank.val + 0x8000) (updBank bank.val (fun u => { u with common := false }) (advance (tickCycle s 160) s)))

/-- The supply class of a bank changes (11 R338). -/
def execBankSupplyChange (bank : Fin 2) (s : State) : Out :=
  let u := vget s.field.bank bank
  if supplyNow u = u.supply then .next s else
  let s1 := updBank bank.val (fun u => { u with supply := u.cls }) (advance (tickCycle s 160) s)
  let h := 0x6403 + 16 * bank.val
  let s2 := if u.supply = 0 then sticky s1 h 0 else s1
  let s3 := if u.cls = 4 then sticky s2 h 1 else s2
  .next (raise 97 (bank.val + 2 * u.cls) s3)

/-- The bank current exceeds 11 A for 40 ticks (11 R339). -/
def execBankOvercurrentTrip (bank : Fin 2) (s : State) : Out :=
  let u := vget s.field.bank bank
  if u.trip || decide (u.overRun < 40) then .next s else
  let s1 := updBank bank.val (fun u => { u with trip := true }) (advance (tickCycle s 160) s)
  let s2 := wrFlag s1 (0x6402 + 16 * bank.val) 1 true
  .next (raise 98 bank.val (sticky s2 (0x6403 + 16 * bank.val) 2))

/-- The isolated side applies its safe values (11 R342-R345): at the 4T-th missing marker, or on its own oscillator when the link
clock has stopped. -/
def execSilenceTimeout (bank : Fin 2) (s : State) : Out :=
  let u := vget s.field.bank bank
  if u.inSafe || !(silenceDue u || !s.clk.core || !s.clk.ticks) then .next s else
  let s1 := updBank bank.val (fun u => { u with inSafe := true, latched := u.resume }) (advance (tickCycle s 40) s)
  .next (updChans bank.val (fun _ c => refresh { c with safe := true, drive := c.drive && !bitOf c.cfg 4 }) s1)

/-- 40 consecutive valid markers end the safe state of a bank (11 R344): servo-owned channels follow the frames of this tick,
host-owned ones the next beat output frame. -/
def execSilenceResume (bank : Fin 2) (s : State) : Out :=
  let u := vget s.field.bank bank
  if !resumeDue u then .next s else
  let s1 := updBank bank.val (fun u => { u with inSafe := false }) (advance (tickCycle s 40) s)
  .next (updChans bank.val (fun ch c => if servoOwned s.snap ch then refresh { c with safe := false } else c) s1)

/-! ### Channel rows -/

/-- A level held for DEBOUNCE + 1 ticks becomes the reported state of a digital input (11 R329). -/
def execDiDebounce (ch : Fin 48) (s : State) : Out :=
  let c := vget s.field.chan ch
  if c.cand == c.di || decide (c.run < bitsOf c.cfg 15 8 + 1) || c.quiet.isSome then .next s else
  .next (updField ch.val (fun c => { c with di := c.cand, run := 0 }) (advance (tickCycle s 160) s))

/-- A DO switch cuts off after 100 µs in current limit, or at 150 °C (11 R333). -/
def execDoOverloadCutoff (ch : Fin 48) (thermal : Bool) (s : State) : Out :=
  let c := vget s.field.chan ch
  if c.mode ≠ 3 ∨ delivered s ch.val = 0 then .next s else
  .next (updField ch.val (fun c => { c with cut := some thermal, cutTick := s.clk.tick, needOff := true }) s)

/-- A cut-off DO switch tries again (11 R333): after 400 ticks with OL_RESTART while it is commanded on; a cooled stage without
OL_RESTART after an off command and an on command. -/
def execDoRestart (ch : Fin 48) (s : State) : Out :=
  let c := vget s.field.chan ch
  let waited := decide (400 ≤ (s.clk.tick + 2 ^ 32 - c.cutTick) % 2 ^ 32)
  if c.cut.isNone || c.eff == 0 || !(if bitOf c.cfg 5 then waited else !c.needOff) then .next s else
  .next (updField ch.val (fun c => { c with cut := none, needOff := false }) s)

/-- A new channel mode takes effect on cycle 40 of tick 4 of the beat (11 R347). -/
def execModeChangeEffect (ch : Fin 48) (s : State) : Out :=
  match (vget s.field.chan ch).modeNew with
  | none => .next s
  | some m =>
    if tickJ s < 4 then .next s else
    .next (updField ch.val (fun c => refresh { c with
      mode := m, modeNew := none, di := false, cand := false, run := 0, wb := none, cut := none, needOff := false })
      (advance (tickCycle s 40) s))

/-! ### Commands -/

/-- Does an axis that locks its channels name channel ch (11 R346)? -/
def chanLocked (s : State) (ch : Nat) : Bool :=
  (List.range 48).any fun a =>
    let w := rd s (0x5000 + 16 * a)
    (bitsOf w 13 8 == ch || bitsOf w 21 16 == ch || bitsOf w 29 24 == ch) && axisBusy (axisAt s a)

/-- Do MODE, TWIN_ROLE and SAFE_KIND go together (11 R343, R345)? -/
def safeFits (cfg safe : Word) : Bool :=
  let k := bitsOf safe 1 0
  let m := chMode cfg
  !(k == 1 && m == 5) && !(k == 3 && m == 3) && (!bitOf cfg 4 || k == 0)

/-- WB and TWIN_ROLE fit the mode (11 R346). -/
def optionsFit (cfg : Word) : Bool :=
  let m := chMode cfg
  (!bitOf cfg 3 || m == 1 || m == 2) && (!bitOf cfg 4 || isOutput m)

/-- A CH_EXPERT word in range (11 R352). -/
def expertFits (w : Word) : Bool := decide (50 ≤ bitsOf w 15 0) && decide (bitsOf w 15 0 ≤ 2000) && bitsOf w 31 25 == 0

/-- CHANNEL_CONFIG in its two forms (11 R346). -/
def channelConfig (expert : Bool) (opc : Nat) : OpSpec where
  code := opc
  check _ p s :=
    let ch := byteAt p 0
    let o := byteAt p 2
    let w := channelWord p
    let safe := wordAt p 4
    match firstBad ([(decide (ch < 48), 0), (decide (byteAt p 1 ≤ 5), 1), (decide (o < 8) && optionsFit w, 2),
        (bitsOf safe 15 2 == 0 && decide (bitsOf safe 31 16 ≤ 21000) && safeFits w safe, 4), (zerosAt p 8 8, 8)] ++
        if expert then [(expertFits (wordAt p 16), 16), (zerosAt p 20 12, 20)] else []) with
    | some x => some x
    | none => if byteAt p 1 ≠ fld s (0x6000 + 16 * ch) 2 0 ∧ chanLocked s ch then some (stBusy, 1) else none
  halter _ _ := true
  internal p s := blockOut s 6 (byteAt p 0 / 24)
  targets p _ := let h := 0x6000 + 16 * byteAt p 0
    if expert then [h, h + 1, h + 3] else [h, h + 1]
  commit _ p s :=
    let h := 0x6000 + 16 * byteAt p 0
    let s1 := wrAll s [(h, channelWord p), (h + 1, wordAt p 4)]
    okResult (if expert then wr s1 (h + 3) (wordAt p 16) else s1)
where
  /-- CH_CONFIG as the payload spells it. -/
  channelWord (p : List Byte) : Word := BitVec.ofNat 32 (byteAt p 1 + 8 * (byteAt p 2 % 8) + 256 * byteAt p 3)

/-- CHANNEL_CONFIG, basic form. -/
def opChannelConfigBasic : OpSpec := channelConfig false 0x50

/-- CHANNEL_CONFIG basic (11 R346). -/
def execChannelConfigBasic (r : Req) (s : State) : Out := .next (serve opChannelConfigBasic r s)

/-- CHANNEL_CONFIG, expert form. -/
def opChannelConfigExpert : OpSpec := channelConfig true 0x51

/-- CHANNEL_CONFIG expert (11 R346). -/
def execChannelConfigExpert (r : Req) (s : State) : Out := .next (serve opChannelConfigExpert r s)

/-- OUTPUT_SET (11 R348). -/
def opOutputSet : OpSpec where
  code := 0x52
  check _ p s :=
    let ch := byteAt p 0
    let m := fld s (0x6000 + 16 * ch) 2 0
    firstBad [(decide (ch < 48) && isOutput m && !servoOwned s.regs ch, 0), (zerosAt p 1 3, 1),
      (decide (leAt p 4 4 ≤ if m = 3 then 1 else 21000), 4)]
  halter _ _ := true
  internal p s := blockOut s 6 (byteAt p 0 / 24)
  targets p _ := [0x6002 + 16 * byteAt p 0]
  commit _ p s :=
    let h := 0x6000 + 16 * byteAt p 0
    okResult (if fld s h 2 0 = 3 then wrFld s (h + 2) 0 0 (leAt p 4 4) else wrFld s (h + 2) 31 16 (leAt p 4 4))

/-- OUTPUT_SET. -/
def execOutputSet (r : Req) (s : State) : Out := .next (serve opOutputSet r s)

/-- SAFE_VALUE_SET (11 R349). -/
def opSafeValueSet : OpSpec where
  code := 0x56
  check _ p s :=
    let ch := byteAt p 0
    firstBad [(decide (ch < 48), 0),
      (decide (byteAt p 1 ≤ 3) && safeFits (rd s (0x6000 + 16 * ch)) (BitVec.ofNat 32 (byteAt p 1)), 1), (zerosAt p 2 2, 2),
      (decide (leAt p 4 4 ≤ 21000), 4)]
  halter _ _ := true
  internal p s := blockOut s 6 (byteAt p 0 / 24)
  targets p _ := [0x6001 + 16 * byteAt p 0]
  commit _ p s := okResult (wr s (0x6001 + 16 * byteAt p 0) (BitVec.ofNat 32 (byteAt p 1 + 65536 * leAt p 4 4)))

/-- SAFE_VALUE_SET. -/
def execSafeValueSet (r : Req) (s : State) : Out := .next (serve opSafeValueSet r s)

/-- The reported state of an input or a DO level: bit 0 of STATE (11 R350). -/
def stateBit (c : ChanUnit) : Bool := if c.mode = 3 then c.lvl && c.quiet.isNone else c.di

/-- Does a channel drive (11 R345)? -/
def driving (c : ChanUnit) : Bool := isOutput c.mode && c.drive

/-- CHANNEL_READ (11 R350). -/
def opChannelRead : OpSpec where
  code := 0x54
  check _ p _ := firstBad [(decide (byteAt p 0 < 48), 0), (zerosAt p 1 3, 1)]
  internal p s :=
    let ch := byteAt p 0
    blockDown s 6 (ch / 24) || (bankAt s (ch / 24)).poison ||
      ((fieldChan s ch).mode == 4 && ((vgetD s.filt.lanes ch LaneUnit.start).poison || blockDown s 5 (ch / 6)))
  commit _ p s :=
    let ch := byteAt p 0
    let c := fieldChan s ch
    let v := if c.mode = 4 then laneMa (vgetD s.filt.lanes ch LaneUnit.start).out else f32OfRatio c.it (1000 * 2 ^ 24)
    okData s (leBytes 1 c.mode ++ leBytes 1 c.flags ++
      leBytes 2 (b2n (stateBit c) + 2 * b2n (c.mode == 3 && c.eff != 0) + 4 * b2n c.safeRep + 8 * b2n (servoOwned s.snap ch) +
        16 * b2n (driving c)) ++
      wordBytes v ++ leBytes 4 c.eff ++ leBytes 4 (bankAt s (ch / 24)).tick)

/-- CHANNEL_READ. -/
def execChannelRead (r : Req) (s : State) : Out := .next (serve opChannelRead r s)

/-- BANK_STATUS_READ FLAGS (11 R351). -/
def bankFlags (s : State) (b : Nat) : Nat :=
  let u := bankAt s b
  b2n (outsideWb u) + 2 * b2n u.common + 4 * b2n u.fault + 8 * b2n u.safeRep + 16 * b2n (blockDown s 6 b) + 32 * b2n u.trip +
    64 * b2n (u.latched && u.safeRep)

/-- Is the latest return frame of a link in service poisoned (11 R324)? What it would have brought then reads as poison (01 R25); that a link
is fenced BANK_STATUS_READ itself shows (R351). -/
def linkPoison (s : State) (b : Nat) : Bool := (bankAt s b).poison && !blockFenced s 6 b

/-- BANK_STATUS_READ (11 R351). -/
def opBankStatusRead : OpSpec where
  code := 0x58
  check _ p _ := firstBad [(decide (byteAt p 0 ≤ 1), 0), (zerosAt p 1 3, 1)]
  internal p s := yardFenced s 6 || linkPoison s (byteAt p 0)
  commit _ p s :=
    let b := byteAt p 0
    let u := bankAt s b
    let bits (f : ChanUnit → Bool) : Nat := maskOf ((List.range 24).map fun i => f (fieldChan s (24 * b + i)))
    okData s (leBytes 1 u.supply ++ leBytes 1 (bankFlags s b) ++ leBytes 2 (twosOf 16 u.volts) ++ leBytes 2 u.mA ++
      leBytes 2 (fld s (0x6405 + 16 * b) 15 0) ++ leBytes 4 (bits fun c => c.flags != 0) ++ leBytes 4 (bits (·.safeRep)) ++
      leBytes 4 u.tick)

/-- BANK_STATUS_READ. -/
def execBankStatusRead (r : Req) (s : State) : Out := .next (serve opBankStatusRead r s)

/-- CH_STATUS (11 R352). -/
def chanStatusWord (s : State) (ch : Nat) : Word :=
  let c := fieldChan s ch
  BitVec.ofNat 32 (b2n (stateBit c) + 2 * b2n (c.mode == 3 && c.eff != 0) + 4 * c.flags + 1024 * b2n c.safeRep +
    2048 * b2n (servoOwned s.snap ch) + 4096 * b2n (driving c) +
    65536 * (clampI 0 65535 (roundDiv c.it (2 ^ 24))).toNat)

/-- BANK_STATUS (11 R353). -/
def bankStatusWord (s : State) (b : Nat) : Word :=
  let u := bankAt s b
  BitVec.ofNat 32 (u.supply + 8 * (bankFlags s b % 32) + 65536 * twosOf 16 u.volts)

/-- Is the word of a field parameter in range, and do mode and safe value go together (11 R346, R352, R353)? ids: the identifiers that
the request writes; a bad combination counts against CH_SAFE where it is among them. -/
def fieldParamOk (ids : List Nat) (r : Regs) (id : Nat) : Bool :=
  let w := regGet r id
  if 0x6000 ≤ id ∧ id < 0x6300 then
    match id % 16 with
    | 0 => decide (chMode w ≤ 5) && optionsFit w && (ids.contains (id + 1) || safeFits w (regGet r (id + 1)))
    | 1 => decide (bitsOf w 31 16 ≤ 21000) && safeFits (regGet r (id - 1)) w
    | 2 => decide (bitsOf w 31 16 ≤ 21000)
    | 3 => expertFits w
    | _ => true
  else if id = 0x6400 ∨ id = 0x6410 then decide (2 ≤ bitsOf w 9 0) && decide (bitsOf w 9 0 ≤ 1000)
  else true

/-- Does a write that leaves CH_CONFIG at a new MODE find the channel locked (11 R346)? -/
def fieldParamBusy (s : State) (r : Regs) (id : Nat) : Bool :=
  decide (0x6000 ≤ id) && decide (id < 0x6300) && id % 16 == 0 && chMode (regGet r id) != chMode (rd s id) &&
    chanLocked s ((id - 0x6000) / 16)

end Sys2Proof.Machine
end

