-- ==== Sys2Proof/Machine/NavData.lean ====
section
/-! DEFINITION. GPS navigation words (07 R211-R213): parity, polarity, subframes. The words' layout and the parity equations
are those of IS-GPS-200, which the manual names (PRESUMED, log 18). -/
namespace Sys2Proof.Machine

/-- Bit D_i of a 30-bit word, D1 first received. -/
def navBit (w i : Nat) : Bool := w.testBit (30 - i)

/-- The data bits each parity bit covers (IS-GPS-200), D25 to D30, with which of D29*, D30* it takes. -/
def parityRows : List (Bool × List Nat) := [
  (true, [1, 2, 3, 5, 6, 10, 11, 12, 13, 14, 17, 18, 20, 23]),
  (false, [2, 3, 4, 6, 7, 11, 12, 13, 14, 15, 18, 19, 21, 24]),
  (true, [1, 3, 4, 5, 7, 8, 12, 13, 14, 15, 16, 19, 20, 22]),
  (false, [2, 4, 5, 6, 8, 9, 13, 14, 15, 16, 17, 20, 21, 23]),
  (false, [1, 3, 5, 6, 7, 9, 10, 14, 15, 16, 17, 18, 21, 22, 24]),
  (true, [3, 5, 6, 8, 9, 10, 11, 13, 15, 19, 22, 23, 24])]

/-- The 24 data bits of a word with D30* taken out (07 R211: inverted when D30* is 1). -/
def navData (d30 : Bool) (w : Nat) : Nat := (if d30 then 0xFFFFFF - w / 64 % 2 ^ 24 else w / 64 % 2 ^ 24)

/-- Does a word pass its parity with D29* and D30* of the word before (07 R211)? -/
def navParity (d29 d30 : Bool) (w : Nat) : Bool :=
  (parityRows.zipIdx).all fun r =>
    let want := r.1.2.foldl (fun (b : Bool) i => b != (navBit w i != d30)) (if r.1.1 then d29 else d30)
    want == navBit w (25 + r.2)

/-- Check the words of a subframe in order: the data words, and how many failed. -/
def navWords : Bool → Bool → List Nat → List Nat × Nat
  | _, _, [] => ([], 0)
  | d29, d30, w :: r =>
    let z := navWords (navBit w 29) (navBit w 30) r
    (navData d30 w :: z.1, z.2 + (if navParity d29 d30 w then 0 else 1))

/-- The polarity that the preamble 0x8B shows (07 R211); none where there is no preamble. -/
def navPolarity (w : Nat) : Option Bool :=
  if w / 2 ^ 22 % 256 = 0x8B then some false else if w / 2 ^ 22 % 256 = 0x74 then some true else none

/-- Bits a to b of a 24-bit data word, bit 1 first. -/
def dataBits (w a b : Nat) : Nat := w / 2 ^ (24 - b) % 2 ^ (b + 1 - a)

/-- Data word n of a subframe, 1 to 10. -/
def dataWord (d : List Nat) (n : Nat) : Nat := d.getD (n - 1) 0

/-- The truncated time of week and the subframe number of the hand-over word. -/
def towOf (d : List Nat) : Nat := dataBits (dataWord d 2) 1 17

/-- The subframe number. -/
def subframeId (d : List Nat) : Nat := dataBits (dataWord d 2) 20 22

/-- A week number known modulo m, extended to the full week nearest a reference week. -/
def nearWeek (m w ref : Nat) : Nat :=
  let base := ref / m * m + w
  if base + m / 2 < ref then base + m else if ref + m / 2 < base ∧ m ≤ base then base - m else base

/-- A 10-bit week extended to the full week nearest a reference week (07 R213). -/
def extendWeek (w10 ref : Nat) : Nat := nearWeek 1024 w10 ref

end Sys2Proof.Machine
end

