-- ==== Sys2Proof/Machine/Ptp.lean ====
section
/-! DEFINITION. The time slots, their servo, reported time, switching, leap seconds and the time pulse (14 R414-R429). -/
namespace Sys2Proof.Machine

/-- An identifier of time slot d (14 R435). -/
def slotId (d : Fin 2) (off : Nat) : Nat := 0x7210 + 16 * d.val + off

/-- Change a time slot. -/
def updSlot (d : Fin 2) (f : TimeSlot → TimeSlot) (s : State) : State :=
  { s with time := { s.time with slot := vupd s.time.slot d f } }

/-- SOURCE of a slot (14 R417). -/
def slotSource (s : State) (d : Fin 2) : Nat := fld s (slotId d 0) 1 0

/-- 1 ns in 2^-32 ns. -/
def nsUnit : Int := 2 ^ 32

/-- A rate in 10^-6 ppb as the 2^-40 units in which the slot holds ρ (14 R415). -/
def rateUnits (p : Int) : Int := roundDiv (p * 2 ^ 40) (10 ^ 15)

/-- Set a slot's rate at the present λ and re-anchor, so that its time does not step (14 R415). -/
def setRate (l : Int) (rate : Int) (t : TimeSlot) : TimeSlot :=
  { t with rate := rate, anchor := l, off := slotTimeAt t l - l }

/-- Enter a slot state on the present cycle (14 R422). -/
def enterSlot (s : State) (state : Nat) (t : TimeSlot) : TimeSlot :=
  { t with
    state := state, since := s.clk.cycle
    hold := if state = 0 then none else match t.hold with
      | some h => some h
      | none => some s.clk.cycle }

/-- Raise TIME_SLOT_STATE for a change of a slot's state, and TIME_QUALITY where TIME_Q changed with it, in the order of
17 R501, with further events of the same edge. -/
def slotEvents (before : State) (d : Fin 2) (more : List (Nat × Nat)) (s : State) : State :=
  let st := (vget s.time.slot d).state
  raiseAll (more ++ eventsWhen [
    (timeQ s != timeQ before, 57, timeQ s),
    (st != (vget before.time.slot d).state, 58, d.val + 256 * st)]) s

/-- The UTC offset of the active slot's source (14 R427): the parent's Announce, the navigation message, or
UTC_OFFSET_DEF. -/
def utcFromSource (s : State) : Int :=
  let dflt := signedOf 16 (fld s 0x7203 15 0)
  match slotSource s s.time.active with
  | 1 => match (vget s.time.slot s.time.active).parent with
    | some p => if p.ann.utcValid then p.ann.utcOffset else dflt
    | none => dflt
  | 2 => match s.gnss.utcLs with
    | some x => x + 19
    | none => dflt
  | _ => dflt

/-- Take the UTC offset from the active source. -/
def refreshUtc (s : State) : State := { s with time := { s.time with utc := utcFromSource s } }

/-- Switch the active slot (14 R425): σ takes up the difference, so R does not step; a difference above 1 ms is held.
TIME_STICKY bit 1, TIME_SWITCH, and TIME_QUALITY where TIME_Q changes. -/
def switchSlot (b : Fin 2) (auto : Bool) (s : State) : State :=
  let d := reported s - slotTime s b
  let s1 := refreshUtc { s with time := { s.time with
    active := b, sigma := d, sigmaAt := s.clk.lambda, held := decide (1000000 * nsUnit < (d.natAbs : Int)) } }
  raiseAll (eventsWhen [(timeQ s1 != timeQ s, 57, timeQ s1), (true, 59, b.val + 256 * b2n auto)])
    (sticky s1 0x7206 1)

/-- The seconds of a measurement's age in cycles of 10 ns. -/
def secondCycles : Nat := 100000000

/-- A valid measurement θ (ns) of a slot on the present cycle (14 R420-R423). In LOCKED one within 50 µs is applied to
the servo; any other starts an acquisition run, and each continues or breaks the run in progress. sats: the satellites behind a GNSS measurement. -/
def slotMeasure (d : Fin 2) (theta : Int) (sats : Nat) (s : State) : State :=
  let t := vget s.time.slot d
  let c := s.clk.cycle
  let t0 := { t with offset := theta }
  let applies := decide (t.state = 0) && decide (theta.natAbs ≤ 50000)
  let fresh : Option AcqRun := if applies then none else some ⟨c, theta, c, theta⟩
  let run : Option AcqRun :=
    if slotSource s d = 2 ∧ sats < 4 then none else
    match t.run with
    | none => fresh
    | some r =>
      let dtNs : Nat := 10 * (c - r.latest)
      if c - r.latest < secondCycles ∧ 1000000000 * (theta - r.theta).natAbs ≤ 1000000000000 + 20000 * dtNs then
        some { r with latest := c, theta := theta }
      else fresh
  if applies then
    let tc := fld s (slotId d 0) 31 16
    let dt := match t.applied with
      | some a => min (c - a) secondCycles
      | none => secondCycles
    let i := clampI (-200000000000) 200000000000 (t.ppb + floorDiv (theta * dt) (100 * tc * tc))
    let p := clampI (-2000000000) 2000000000 (floorDiv (2000000 * theta) tc)
    bump (updSlot d (fun _ => setRate s.clk.lambda (rateUnits (-(p + i)))
      { t0 with ppb := i, applied := some c, run := run }) s) (slotId d 10) 15 0 1
  else updSlot d (fun _ => { t0 with run := run }) s

/-- The slope of a run in 10^-6 ppb: the change of θ over its length. -/
def runSlope (r : AcqRun) : Int :=
  if r.latest = r.start then 0 else floorDiv ((r.theta - r.first) * 10 ^ 14) (r.latest - r.start)

/-- An acquisition run of 10 s ends (14 R423): i takes its slope, and the slot locks, or a step is pending when θ is
beyond 50 µs or the slot had no time. -/
def execAcquisitionRunEnd (d : Fin 2) (s : State) : Out :=
  match (vget s.time.slot d).run with
  | none => .next s
  | some r =>
    let s := advance (r.start + 1000000000) s
    let t := vget s.time.slot d
    if r.latest + secondCycles ≤ s.clk.cycle ∨ s.clk.cycle < r.start + 1000000000 then .next s else
    let m := runSlope r
    let t1 := { t with ppb := clampI (-200000000000) 200000000000 m, run := none }
    if t.state ≠ 3 ∧ r.theta.natAbs ≤ 50000 then
      .next (slotEvents s d [] (updSlot d (fun _ => enterSlot s 0 { t1 with applied := none }) s))
    else .next (updSlot d (fun _ => { t1 with step := some (r.theta, r.latest, m) }) s)

/-- A run breaks after 1 s without a valid measurement (14 R423). -/
def execAcquisitionRunBreak (d : Fin 2) (s : State) : Out :=
  match (vget s.time.slot d).run with
  | none => .next s
  | some r => .next (updSlot d (fun t => { t with run := none }) (advance (r.latest + secondCycles) s))

/-- One second without an applied measurement puts a LOCKED slot into HOLDOVER with ρ = −i (14 R421, R422). -/
def execSlotHoldover (d : Fin 2) (s : State) : Out :=
  let t := vget s.time.slot d
  if t.state ≠ 0 then .next s else
  let from_ := match t.applied with
    | some a => max a t.since
    | none => t.since
  let s := advance (from_ + secondCycles) s
  let s1 := updSlot d (fun t => enterSlot s 1 (setRate s.clk.lambda (rateUnits (-t.ppb)) t)) s
  .next (slotEvents s d [] (sticky s1 0x7206 2))

/-- 600 s in HOLDOVER put the slot into FREE_RUN (14 R422). -/
def execSlotFreeRun (d : Fin 2) (s : State) : Out :=
  let t := vget s.time.slot d
  if t.state ≠ 1 then .next s else
  let s := advance (t.since + 60000000000) s
  let s1 := updSlot d (fun t => enterSlot s 2 (setRate s.clk.lambda (rateUnits (-t.ppb)) t)) s
  .next (slotEvents s d [] (sticky s1 0x7206 3))

/-- Has a time in 2^-32 ns just reached a whole second, on the first core edge (14 R423, R429)? -/
def atWholeSecond (s : State) (t : Int) : Bool := decide (t % (1000000000 * nsUnit) < timeInc s)

/-- R steps: TIME_STICKY bit 0 is set (14 R425), and the step's edge counts as reaching a whole second (R429). -/
def stepR (s : State) : State := sticky { s with time := { s.time with stepped := some s.clk.cycle } } 0x7206 0

/-- A pending step sets the slot's time at its next whole second to the source time, extrapolated with the slope of the
run (14 R423); a step of the active slot steps R by the same amount (R425). -/
def execSlotStep (c : Nat) (d : Fin 2) (s : State) : Out :=
  let s := advance c s
  let t := vget s.time.slot d
  match t.step with
  | none => .next s
  | some (theta, at_, m) =>
    if !atWholeSecond s (slotTime s d) then .next s else
    let err := theta * nsUnit + floorDiv (m * (10 * ((s.clk.cycle : Int) - at_)) * nsUnit) (10 ^ 15)
    let t1 := enterSlot s 0 { t with off := t.off - err, step := none, applied := none }
    let s1 := updSlot d (fun _ => t1) s
    let active := s.time.active == d
    let s2 := if active then stepR s1 else s1
    .next (slotEvents s d (eventsWhen [(active, 56, (if t.state = 3 then 2 else 0) + 16 * d.val)]) s2)

/-- AUTO_SWITCH (14 R426): to the other slot when it alone is LOCKED, or back to SELECT after 60 s LOCKED. -/
def execTimeSwitchAuto (c : Nat) (s : State) : Out :=
  let s := advance c s
  if !flag s 0x7200 1 then .next s else
  let a := s.time.active
  let b : Fin 2 := if a = 0 then 1 else 0
  let sel : Fin 2 := if flag s 0x7200 0 then 1 else 0
  if (vget s.time.slot a).state ≠ 0 ∧ (vget s.time.slot b).state = 0 then .next (switchSlot b true s)
  else if sel ≠ a ∧ (vget s.time.slot sel).state = 0 ∧ (vget s.time.slot sel).since + 6000000000 ≤ s.clk.cycle then
    .next (switchSlot sel true s)
  else .next s

/-- A held switch difference becomes 0 at the next whole second of the active slot, and R steps (14 R425). -/
def execSwitchStep (c : Nat) (s : State) : Out :=
  let s := advance c s
  if !s.time.held || !atWholeSecond s (slotTime s s.time.active) then .next s else
  .next (raise 56 (1 + 16 * s.time.active.val) (stepR
    { s with time := { s.time with held := false, sigma := 0, sigmaAt := s.clk.lambda } }))

/-- σ, slewing towards 0, reaches it (14 R425). -/
def execSwitchSlewEnd (c : Nat) (s : State) : Out :=
  let s := advance c s
  if s.time.held || sigmaNow s != 0 then .next s
  else .next { s with time := { s.time with sigma := 0, sigmaAt := s.clk.lambda } }

/-- Seconds of R on the PTP timescale. -/
def reportedSec (s : State) : Int := floorDiv (reportedNs s) 1000000000

/-- The second of R at which an announced leap second changes the offset: the end of the UTC day (14 R427). -/
def leapAt (s : State) (delta : Int) : Int :=
  (floorDiv (reportedSec s - s.time.utc) 86400 + 1) * 86400 + s.time.utc + delta

/-- An announced leap second changes the UTC offset at the end of its day (14 R427); R does not step. -/
def execLeapSecond (c : Nat) (s : State) : Out :=
  let s := advance c s
  match s.time.leap with
  | none => .next s
  | some (at_, d) =>
    if reportedSec s < at_ then .next s
    else .next { s with time := { s.time with utc := s.time.utc + d, leap := none } }

/-! ### PTP -/

/-- Does a message of a port reach the slot: SOURCE 1, its transport, its physical port (14 R417, R418)? -/
def ptpHears (s : State) (d e : Fin 2) (transport : Nat) : Bool :=
  slotSource s d == 1 && b2n (flag s (slotId d 0) 2) == transport && ethOn s e &&
  (fld s (slotId d 0) 5 4 == 0 || fld s (slotId d 0) 5 4 == e.val + 1)

/-- DOMAIN of a slot. -/
def slotDomain (s : State) (d : Fin 2) : Nat := fld s (slotId d 0) 15 8

/-- Count a message rejected for format (14 R418). -/
def rejectMsg (d : Fin 2) (s : State) : State := bump s (slotId d 10) 31 16 1

/-- The clockIdentity of the module: the EUI-64 of the MAC address of X6 (14 R418). -/
def clockIdentity : DWord :=
  let m := (Config.mac 0).toNat
  BitVec.ofNat 64 (m / 2 ^ 24 * 2 ^ 40 + 0xFFFE * 2 ^ 24 + m % 2 ^ 24)

/-- The announce interval in cycles for a logarithm to base 2. -/
def logCycles (l : Int) : Nat := if 0 ≤ l then secondCycles * 2 ^ l.toNat else secondCycles / 2 ^ (-l).toNat

/-- A foreign time-transmitter is qualified: two Announces within four intervals, not the module itself, fewer than 255
steps removed (14 R418: the default BMCA of IEEE 1588-2019); one silent for four intervals before the cycle now is no longer. -/
def qualified (now : Nat) (f : Foreign) : Bool :=
  decide (now < f.latest + 4 * logCycles f.ann.logInt) && f.ann.clockId != clockIdentity && decide (f.ann.steps < 255) &&
  match f.prev with
  | some p => decide (f.latest ≤ p + 4 * logCycles f.ann.logInt)
  | none => false

/-- The order of the default BMCA's data set comparison, as a list compared from the left; the port is last, so that X6
is preferred for one transmitter heard on both (14 R418). -/
def bmcaKey (f : Foreign) : List Nat :=
  [f.ann.prio1, f.ann.clkClass, f.ann.accuracy, f.ann.variance, f.ann.prio2, f.ann.gmId.toNat,
   f.ann.steps, f.ann.clockId.toNat, f.ann.portNo.toNat, f.eth.val]

/-- Is the first list before the second? -/
def keyLt : List Nat → List Nat → Bool
  | a :: r, b :: q => if a < b then true else if b < a then false else keyLt r q
  | _, _ => false

/-- The best qualified foreign time-transmitter. -/
def bestForeign (now : Nat) (l : List Foreign) : Option Foreign :=
  (l.filter (qualified now)).foldl (fun m f => match m with
    | none => some f
    | some b => if keyLt (bmcaKey f) (bmcaKey b) then some f else some b) none

/-- Is it the same transmitter on the same port? -/
def sameForeign (a b : Foreign) : Bool :=
  a.ann.clockId == b.ann.clockId && a.ann.portNo == b.ann.portNo && a.eth == b.eth

/-- Run the BMCA of a slot (14 R418): a change of parent drops what was measured against the old one and raises
PTP_PARENT. A parent that is heard on the other port is no other parent; what was measured through the old port is dropped. -/
def runBmca (d : Fin 2) (s : State) : State :=
  let t := vget s.time.slot d
  let b := bestForeign s.clk.cycle t.foreign
  let same := match t.parent, b with
    | none, none => true
    | some x, some y => sameForeign x y
    | _, _ => false
  if same then updSlot d (fun t => { t with parent := b }) s
  else
    let s1 := updSlot d (fun t => { t with
      parent := b, paths := [], diff := none, sync := none, respAt := none, req := none
      reqBeat := some (s.clk.beat + 1) }) s
    let move := match t.parent, b with
      | some x, some y => x.ann.clockId != y.ann.clockId || x.ann.portNo != y.ann.portNo
      | _, _ => true
    raiseIf move 61 d.val s1

/-- A PTP Announce (14 R418, R427): the foreign time-transmitter is entered, the BMCA is run, and while the slot is active
the parent's UTC offset and leap flags are taken. -/
def execPtpAnnounce (c : Nat) (e d : Fin 2) (m : AnnounceMsg) (s : State) : Out :=
  let s := advance c s
  if !ptpHears s d e m.transport then .next s
  else if !m.formatOk then .next (rejectMsg d s)
  else if m.domain ≠ slotDomain s d then .next s
  else
    let f : Foreign := ⟨m, e, s.clk.cycle, none⟩
    let t := vget s.time.slot d
    let old := t.foreign.find? (sameForeign f)
    let f1 := { f with prev := old.map (·.latest) }
    let s1 := runBmca d (updSlot d (fun t => { t with
      foreign := f1 :: t.foreign.filter (fun g => !sameForeign f g) }) s)
    if s.time.active = d ∧ slotSource s d = 1 then
      let s2 := refreshUtc s1
      match (vget s2.time.slot d).parent with
      | none => .next s2
      | some p =>
        let lp : Option (Int × Int) :=
          if p.ann.leap61 then some (leapAt s2 1, 1) else if p.ann.leap59 then some (leapAt s2 (-1), -1) else none
        .next { s2 with time := { s2.time with leap := lp } }
    else .next s1

/-- The parent's Announce is not received for 3 intervals (14 R418); on the active slot the UTC offset follows (R427). -/
def execAnnounceTimeout (c : Nat) (d : Fin 2) (s : State) : Out :=
  let s := advance c s
  match (vget s.time.slot d).parent with
  | none => .next s
  | some p =>
    if s.clk.cycle < p.latest + 3 * logCycles p.ann.logInt then .next s
    else
      let s1 := runBmca d (updSlot d (fun t => { t with foreign := t.foreign.filter (fun g => !sameForeign p g) }) s)
      .next (if s.time.active = d then refreshUtc s1 else s1)

/-- Is the message from the slot's parent, on the port it uses (14 R418)? -/
def fromParent (t : TimeSlot) (e : Fin 2) (m : PtpMsg) : Bool :=
  match t.parent with
  | none => false
  | some p => p.ann.clockId == m.clockId && p.ann.portNo == m.portNo && p.eth == e

/-- The mean of the latest path samples: D (14 R419). -/
def pathDelay (t : TimeSlot) : Option Int :=
  if t.paths.isEmpty then none else some (floorDiv (t.paths.foldl (· + ·) 0) t.paths.length)

/-- A Sync whose origin time and corrections are known (14 R419): t2 − t1 − c_s is kept for path samples, and with a
valid path delay the offset is measured. -/
def syncComplete (d : Fin 2) (diff : Int) (s : State) : State :=
  let s1 := updSlot d (fun t => { t with diff := some diff, sync := none }) s
  let t := vget s1.time.slot d
  let current := match t.parent with
    | some p => decide (s.clk.cycle < p.latest + 3 * logCycles p.ann.logInt)
    | none => false
  let resp := match t.respAt with
    | some r => decide (s.clk.cycle ≤ r + 6400000000)
    | none => false
  match pathDelay t with
  | none => s1
  | some dl =>
    if current && resp && decide (0 ≤ dl) && decide (dl ≤ 1000000) then
      slotMeasure d (diff - dl - signedOf 32 (rd s (slotId d 1)).toNat) 0 s1
    else s1

/-- A Sync from the parent (14 R418, R419): a one-step Sync is complete, a two-step one waits for its Follow_Up. -/
def execPtpSync (c : Nat) (e d : Fin 2) (m : PtpMsg) (s : State) : Out :=
  let s := advance c s
  if !ptpHears s d e m.transport then .next s
  else if !m.formatOk then .next (rejectMsg d s)
  else if m.domain ≠ slotDomain s d ∨ !fromParent (vget s.time.slot d) e m then .next s
  else
    let t2 := slotNsAt s d m.stamp - (fld s (ethId e 4) 15 0 : Int)
    if m.twoStep then
      .next (updSlot d (fun t => { t with sync := some ⟨m.seq, s.clk.cycle, t2, m.corr⟩ }) s)
    else .next (syncComplete d (t2 - m.time - m.corr) s)

/-- A Follow_Up within 10 000 000 cycles of its Sync completes the measurement (14 R419). -/
def execPtpFollowUp (c : Nat) (e d : Fin 2) (m : PtpMsg) (s : State) : Out :=
  let s := advance c s
  if !ptpHears s d e m.transport then .next s
  else if !m.formatOk then .next (rejectMsg d s)
  else if m.domain ≠ slotDomain s d ∨ !fromParent (vget s.time.slot d) e m then .next s
  else match (vget s.time.slot d).sync with
    | none => .next s
    | some p =>
      if p.seq ≠ m.seq ∨ p.cross + 10000000 < s.clk.cycle then .next s
      else .next (syncComplete d (p.t2 - m.time - p.corr - m.corr) s)

/-- A Delay_Resp to the slot's Delay_Req gives a path sample (14 R419), and the interval of the next request (R418). -/
def execPtpDelayResp (c : Nat) (e d : Fin 2) (m : PtpMsg) (s : State) : Out :=
  let s := advance c s
  let t := vget s.time.slot d
  if !ptpHears s d e m.transport then .next s
  else if !m.formatOk then .next (rejectMsg d s)
  else if m.domain ≠ slotDomain s d ∨ !fromParent t e m ∨ !m.toSlot then .next s
  else
    let s1 := updSlot d (fun t => { t with respAt := some s.clk.cycle, interval := m.logMin }) s
    match t.req, t.diff with
    | some q, some diff =>
      match q.t3 with
      | some t3 =>
        if q.seq ≠ m.seq then .next s1
        else .next (updSlot d (fun t => { t with
          paths := (floorDiv (diff + (m.time - t3 - m.corr)) 2 :: t.paths).take 8, req := none }) s1)
      | none => .next s1
    | _, _ => .next s1

/-- A Delay_Req leaves for the MAC at cycle 7 000 + 1 000 d of its beat (14 R411, R418); the next one's beat is drawn
over 0 to 2 times the interval the parent set. draw: the number drawn, reduced to that range. -/
def execDelayReqSend (d : Fin 2) (draw : Nat) (s : State) : Out :=
  let t := vget s.time.slot d
  match t.parent with
  | none => .next s
  | some p =>
    if t.reqBeat ≠ some s.clk.beat ∨ !s.clk.beats then .next s else
    let s := advance (beatCycle s (7000 + 1000 * d.val)) s
    let span := 2 * (logCycles t.interval / 1000000)
    let s1 := ethQueue p.eth s.clk.cycle (.delayReq d t.reqSeq) s
    .next (updSlot d (fun t => { t with
      req := some ⟨t.reqSeq, none⟩, reqSeq := (t.reqSeq + 1) % 65536
      reqBeat := some (s.clk.beat + max 1 (draw % (span + 1))) }) s1)

/-! ### The time pulse -/

/-- W for a TIME_Q; none: no pulse (14 R429). -/
def ppsWidth (q : Nat) : Option Nat :=
  match q with
  | 0 => some 10000000
  | 1 => some 20000000
  | 2 => some 30000000
  | _ => none

/-- While TIME_Q reads 0 the RTC is set from R at each whole second of R (16 R491). -/
def rtcSet (s : State) : State :=
  if timeQ s = 0 ∧ !yardFenced s 0 then
    { s with power := { s.power with rtc := (reportedSec s).toNat * 32768 % 2 ^ 63, rtcFrac := 0, rtcValid := true } }
  else s

/-- Does R reach a whole second on this edge (14 R429)? A step of R counts as reaching it. -/
def reachesSecond (s : State) : Bool := atWholeSecond s (reported s) || s.time.stepped == some s.clk.cycle

/-- R reaches a whole second (14 R429): PPS_OUT starts a pulse whose width follows TIME_Q, or the pulse is omitted less
than 0.5 s after the previous leading edge; PPS_OUT is low while PPS_EN is clear or PD4 is fenced. -/
def execPpsPulse (c : Nat) (s : State) : Out :=
  let s := advance c s
  if !reachesSecond s then .next s else
  let s1 := rtcSet s
  if !flag s 0x7207 0 || yardFenced s 4 then .next s1 else
  match ppsWidth (timeQ s) with
  | none => .next s1
  | some w =>
    if (match s.time.ppsLead with
        | some l => decide (s.clk.cycle < l + 50000000)
        | none => false) then
      .next (raise 60 0 (sticky (bump s1 0x7208 15 0 1) 0x7206 4))
    else .next { s1 with time := { s1.time with
      pps := true, ppsLead := some (s.clk.cycle + 2), ppsEnd := some (s.clk.cycle + 2 + w) } }

/-- The trailing edge of the pulse (14 R429). -/
def execPpsPulseEnd (s : State) : Out :=
  match s.time.ppsEnd with
  | none => .next s
  | some e => let s := advance e s
    .next { s with time := { s.time with pps := false, ppsEnd := none } }

end Sys2Proof.Machine
end

