-- ==== Sys2Proof/Machine/Gnss.lean ====
section
/-! DEFINITION. The two-antenna GNSS baseband (07): antenna supplies, channels, navigation data, epochs, heading, checks,
starts and the retained block. What the receiver's arithmetic gives arrives with the commands; what the module does
with it is here. -/
namespace Sys2Proof.Machine

/-- Change the baseband. -/
def updGnss (f : Gnss → Gnss) (s : State) : State := { s with gnss := f s.gnss }

/-- Change a channel. -/
def updChan (i : Fin 48) (f : GChan → GChan) (s : State) : State :=
  updGnss (fun g => { g with ch := vupd g.ch i f }) s

/-- Change a channel by number. -/
def updChanN (i : Nat) (f : GChan → GChan) (s : State) : State :=
  updGnss (fun g => { g with ch := vupdN g.ch i f }) s

/-- A channel by number. -/
def chanAt (s : State) (i : Nat) : GChan := vgetD s.gnss.ch i GChan.idle

/-- 1 s in core cycles. -/
def oneSecond : Nat := 100000000

/-- Is an antenna able to track: enabled, its front end not fenced (07 R228, R229)? -/
def antennaOn (s : State) (a : Nat) : Bool := flag s 0x4000 a && !blockDown s 4 (7 + a)

/-- Is a channel in service now: its antenna and its bank (07 R207, R228)? -/
def chanOn (s : State) (i : Nat) : Bool := antennaOn s (i / 24) && !blockDown s 4 (i / 12)

/-- Has the baseband started (07 R226)? -/
def gnssRuns (s : State) : Bool :=
  !yardFenced s 4 && match s.gnss.startAt with
  | some k => decide (k ≤ s.clk.cycle)
  | none => false

/-! ### Antenna supply (07 R205) -/

/-- The class of a bias current: OPEN 2, NORMAL 1, SHORT 3. -/
def biasClass (mA : Nat) : Nat := if mA < 3 then 2 else if mA ≤ 80 then 1 else 3

/-- The antenna enters a class: ANT_STATE, the sticky bit and the event (07 R205, R233). -/
def antennaState (a : Fin 2) (cls mA : Nat) (s : State) : State :=
  let id := 0x4010 + a.val
  let was := fld s id 1 0
  let s1 := wrFld (wrFld s id 1 0 cls) id 15 8 (min mA 255)
  let off : Option Nat := if cls = 3 then some s.clk.beat else none
  let s2 := updGnss (fun g => { g with antShort := vset g.antShort a off }) s1
  if was = cls ∧ cls ≠ 3 then s2
  else if cls = 1 then raiseIf (decide (2 ≤ was)) 48 (a.val + 256 * cls + 0x8000) s2
  else if was = cls then s2
  else raise 48 (a.val + 256 * cls) (sticky s2 0x4016 0)

/-- The bias current has stayed in a class for 10 beats, or is NORMAL (07 R205); with the bias bit clear the state is OFF. -/
def execAntennaBiasClass (ant : Fin 2) (mA : Nat) (s : State) : Out :=
  if yardFenced s 4 then .next s
  else if !flag s 0x4000 (8 + ant.val) then
    .next (updGnss (fun g => { g with antShort := vset g.antShort ant none }) (wrFld s (0x4010 + ant.val) 15 0 0))
  else if fld s (0x4010 + ant.val) 1 0 = 3 then .next s
  else .next (antennaState ant (biasClass mA) mA s)

/-- The 10-beat test of a shorted antenna, 100 beats after its bias went off (07 R205). -/
def execAntennaRetest (ant : Fin 2) (mA : Nat) (s : State) : Out :=
  match vget s.gnss.antShort ant with
  | none => .next s
  | some b =>
    if (s.clk.beat + 2 ^ 32 - b) % 2 ^ 32 < 110 ∨ !flag s 0x4000 (8 + ant.val) then .next s
    else .next (antennaState ant (biasClass mA) mA s)

/-! ### Retained data (07 R225) -/

/-- Seconds of the RTC, on the PTP timescale. -/
def rtcSec (s : State) : Nat := s.power.rtc / 32768

/-- Whole seconds since a cycle. -/
def ageSec (s : State) (at_ : Int) : Nat := (((s.clk.cycle : Int) - at_) / 100000000).toNat

/-- GPS time of a cycle in ns of the PTP scale, as the receiver clock solution estimates it (07 R214, R218). -/
def gpsEstimate (s : State) (c : Nat) : Option Int :=
  s.gnss.gpsAt.map fun x =>
    let gone : Int := 10 * ((c : Int) - x.2)
    x.1 + gone - floorDiv (gone * s.gnss.drift.getD 0) (10 ^ 12)

/-- The GPS time of a write to retention RAM, in seconds of the PTP scale; the RTC's before a clock solution (07 R225; DESIGN CHOICE,
log 18). -/
def writeSec (s : State) : Nat :=
  match gpsEstimate s s.clk.cycle with
  | some t => (floorDiv t (10 ^ 9)).toNat
  | none => rtcSec s

/-- 30 days in seconds (07 R213). -/
def thirtyDays : Nat := 2592000

/-- Write the hot-start block to retention RAM (07 R225); PD0 fenced retains nothing. -/
def gnssBlockWrite (s : State) : State :=
  if yardFenced s 0 || yardFenced s 4 then s else
  let g := s.gnss
  let ephs := (List.range 32).filterMap fun i =>
    let x := vgetD g.sats i SatNav.empty
    match x.eph with
    | some e => if ageSec s x.recv < 14400 then some (i, e.1 :: e.2, ageSec s x.recv) else none
    | none => none
  updGnss (fun g => { g with block := some ⟨ephs,
    (g.alm.filter fun x => decide (ageSec s x.2.2 < thirtyDays)).map fun x => (x.1, x.2.1, ageSec s x.2.2),
    g.week, g.pos, g.drift.getD 0, writeSec s, true⟩ }) s

/-- The block is written every 60 s in RUN (07 R225). -/
def execGnssBlockWrite (c : Nat) (s : State) : Out :=
  let s := advance c s
  let due := match s.gnss.blockAt with
    | some k => decide (k + 60 * oneSecond ≤ s.clk.cycle)
    | none => true
  if inRun s && due then .next (updGnss (fun g => { g with blockAt := some s.clk.cycle }) (gnssBlockWrite s)) else .next s

/-! ### Starts (07 R226, R227) -/

/-- The start type that the retained data allow (07 R226): 0 hot, 1 warm, 2 cold. -/
def startTypeOf (s : State) : Nat :=
  match goodBlock s with
  | none => 2
  | some b =>
    if !s.power.rtcValid then 2 else
    let gone := rtcSec s - b.time
    let young := b.ephs.filter fun e => decide (e.2.2 + gone < 14400) &&
      Config.predictedUp e.2.1 b.pos (rtcSec s) (fld s 0x4003 7 0)
    if 4 ≤ young.length then 0
    else if b.alm.any fun x => decide (x.2.2 + gone < thirtyDays) then 1 else 2

/-- Take what the start type uses of the retained block. -/
def loadBlock (ty : Nat) (s : State) : State :=
  match goodBlock s with
  | none => s
  | some b =>
    if ty = 2 then s else
    let gone := rtcSec s - b.time
    let sat (i : Nat) (x : SatNav) : SatNav :=
      match b.ephs.find? (·.1 == i) with
      | some e =>
        if ty = 0 ∧ x.eph.isNone then
          match e.2.1 with
          | iode :: d => { x with eph := some (iode, d), recv := (s.clk.cycle : Int) - (oneSecond * (e.2.2 + gone) : Nat) }
          | [] => x
        else x
      | none => x
    updGnss (fun g => { g with
      sats := Vector.ofFn fun i => sat i.val (vget g.sats i)
      alm := if g.alm.isEmpty then
          b.alm.map fun x => (x.1, x.2.1, (s.clk.cycle : Int) - (oneSecond * (x.2.2 + gone) : Nat))
        else g.alm
      week := b.week, pos := b.pos, drift := some b.drift }) s

/-- A GNSS start on a cycle: its type, and START_STATE (07 R226). -/
def gnssStart (cycle : Nat) (s : State) : State :=
  if yardFenced s 4 then s else
  let ty := startTypeOf s
  wr (updGnss (fun g => { g with
    startAt := some cycle, startType := ty, firstFix := false, timedOut := false, timeoutDue := false }) (loadBlock ty s))
    0x4018 (BitVec.ofNat 32 (ty + 0xFFFF0000))

/-- The baseband after a restart of PD4: nothing but the retained block (01 R24). -/
def gnssAfterRestart (g : Gnss) : Gnss := { State.reset.gnss with block := g.block }

/-- 120 s without a fix after a start: the next epoch strobe raises GNSS_START with bit 15 (07 R233). -/
def execGnssStartTimeout (s : State) : Out :=
  match s.gnss.startAt with
  | none => .next s
  | some k =>
    if s.gnss.firstFix || s.gnss.timedOut then .next s else
    .next (updGnss (fun g => { g with timedOut := true, timeoutDue := true }) (advance (k + 120 * oneSecond) s))

/-! ### Channels (07 R207-R210) -/

/-- The PLL lock indicator is at least n tenths: (I² − Q²) / (I² + Q²). -/
def lockIndicator (n : Int) (i q : Int) : Bool :=
  decide (n * (i * i + q * q) ≤ 10 * (i * i - q * q)) && decide (0 < i * i + q * q)

/-- A channel back in ACQ, its last Doppler kept as the search centre (07 R210). -/
def loseLock (c : Nat) (t : GChan) : GChan :=
  { t with
    state := 1, centre := some (t.dop, c), aid := none, goodMs := 0, badMs := 0, lockMs := 0, lockAt := none, lastTow := none
    tail := none, prev := none, sumI := 0, sumQ := 0, sumN := 0 }

/-- A satellite, by PRN. -/
def satAt (s : State) (prn : Nat) : SatNav := vgetD s.gnss.sats (prn - 1) SatNav.empty

/-- Is an ephemeris held and usable: received less than 4 h ago (07 R212)? -/
def ephUsable (s : State) (prn : Nat) : Bool :=
  let x := satAt s prn
  x.eph.isSome && decide (ageSec s x.recv < 14400)

/-- The almanac page of a satellite, of subframes 4 and 5; it is kept for 30 days (07 R213). -/
def almPage (s : State) (prn : Nat) : List Nat :=
  match s.gnss.alm.find? (·.1 == prn) with
  | some x => if ageSec s x.2.2 < thirtyDays then x.2.1 else []
  | none => []

/-- What predicts a satellite: its ephemeris while usable, else its almanac page. -/
def predictionOf (s : State) (prn : Nat) : List Nat :=
  match (satAt s prn).eph with
  | some e => if ephUsable s prn then e.1 :: e.2 else almPage s prn
  | none => almPage s prn

/-- May the search assign the satellite (07 R207, R226): until the first fix of a hot or warm start only one that is predicted above the
elevation mask? -/
def searchable (s : State) (prn : Nat) : Bool :=
  let p := predictionOf s prn
  s.gnss.firstFix || decide (2 ≤ s.gnss.startType) || s.gnss.alm.isEmpty && decide (s.gnss.startType = 1) ||
    !p.isEmpty && Config.predictedUp p s.gnss.pos (rtcSec s) (fld s 0x4003 7 0)

/-- The Doppler, in mHz, about which a channel searches and how far (07 R210, R226): 5 kHz about the centre kept for 10 s, or about the
prediction, 500 Hz about it until the first fix of a hot start; 10 kHz without a prediction. -/
def searchWindow (s : State) (t : GChan) : Int × Nat :=
  let p := predictionOf s t.prn
  let kept : Option Int := match t.centre with
    | some x => if s.clk.cycle < x.2 + 10 * oneSecond then some x.1 else none
    | none => none
  match kept with
  | some d => (d, 5000000)
  | none =>
    if p.isEmpty || decide (2 ≤ s.gnss.startType) && !s.gnss.firstFix then (0, 10000000)
    else (Config.predictedDoppler p s.gnss.pos (rtcSec s),
      if s.gnss.startType = 0 ∧ !s.gnss.firstFix then 500000 else 5000000)

/-- The search of a channel begins: it takes the Doppler and the code phase of its partner where that is locked (07 R207). -/
def startSearch (prn : Nat) (mate : GChan) (s : State) : GChan :=
  let locked := decide (mate.prn = prn) && decide (3 ≤ mate.state)
  { GChan.idle with
    prn := prn, state := 1, signal := s.clk.cycle
    centre := if locked then some (mate.dop, s.clk.cycle) else none, aid := if locked then some mate.ncoCode else none }

/-- Assign a satellite to both channels of a pair (07 R207). -/
def assignPair (n prn : Nat) (s : State) : State :=
  let one (i : Nat) (s : State) : State :=
    if chanOn s i then updChanN i (fun _ => startSearch prn GChan.idle s) s else s
  one (n + 24) (one n s)

/-- A satellite is assigned at an idle channel (07 R207): to both channels of the pair, or, where the partner tracks one, that
one to this channel. -/
def assignSat (ch : Fin 48) (prn : Nat) (s : State) : State :=
  let other := if ch.val < 24 then ch.val + 24 else ch.val - 24
  let mate := chanAt s other
  if (List.range 48).any (fun i => i != other && (chanAt s i).prn == prn) then s
  else if mate.prn = 0 then if searchable s prn then assignPair (ch.val % 24) prn s else s
  else if mate.prn = prn then updChan ch (fun _ => startSearch prn mate s) s
  else s

/-- The settings of the integration that begins (07 R208, R229). -/
def loopSettings (s : State) (t : GChan) : GChan :=
  { t with spacing := fld s 0x4001 6 0, dll := fld s 0x4002 7 0, pll := fld s 0x4002 15 8, fll := fld s 0x4002 23 16 }

/-- The code discriminator in chips (07 R209): (|E|² − |L|²)/(|E|² + |L|²) times the spacing of n/64 chip. -/
def codeError (n : Nat) (x : CorrelatorSums) : F32 :=
  let e := x.ie * x.ie + x.qe * x.qe
  let l := x.il * x.il + x.ql * x.ql
  if e + l ≤ 0 then 0 else f32OfRatio (n * (e - l)) (64 * (e + l).toNat)

/-- The carrier discriminator (07 R209): atan(Q/I). -/
def phaseError (x : CorrelatorSums) : F32 :=
  if x.ip < 0 then Config.atan2 (f32OfInt (-x.qp)) (f32OfInt (-x.ip)) else Config.atan2 (f32OfInt x.qp) (f32OfInt x.ip)

/-- The loops are updated at the end of an integration, with the settings it ran under (07 R209). -/
def updateLoops (x : CorrelatorSums) (t : GChan) : GChan :=
  { t with
    ncoCarr := Config.carrierLoop t.pll t.fll (t.state == 2) (phaseError x) (t.prevI * x.qp - t.prevQ * x.ip)
      (t.prevI * x.ip + t.prevQ * x.qp) t.ncoCarr
    ncoCode := Config.codeLoop t.dll (codeError t.spacing x) t.ncoCarr t.ncoCode
    prevI := x.ip, prevQ := x.qp }

/-- The sum over 20 ms on bit boundaries (07 R209): empty before bit synchronisation; the 20th integration completes it. -/
def sumBit (x : CorrelatorSums) (t : GChan) : GChan :=
  if t.state < 4 then { t with sumI := 0, sumQ := 0, sumN := 0 }
  else if 20 ≤ t.sumN + 1 then { t with bit := (t.sumI + x.ip, t.sumQ + x.qp), sumI := 0, sumQ := 0, sumN := 0 }
  else { t with sumI := t.sumI + x.ip, sumQ := t.sumQ + x.qp, sumN := t.sumN + 1 }

/-- The state of a tracking channel after an integration (07 R210): LOCK after 100 ms of a lock indicator of at least 0.8, BIT_SYNC when
the histogram over 100 bits has found the edges. -/
def trackState (x : CorrelatorSums) (t : GChan) (cycle : Nat) : GChan :=
  let goodMs := if lockIndicator 8 x.ip x.qp then t.goodMs + 1 else 0
  let badMs := if lockIndicator 5 x.ip x.qp ∨ t.state = 2 then 0 else t.badMs + 1
  let lockMs := if 3 ≤ t.state then t.lockMs + 1 else 0
  let st := if t.state = 2 ∧ 100 ≤ goodMs then 3 else if t.state = 3 ∧ 2000 ≤ lockMs ∧ x.edge then 4 else t.state
  { t with
    state := st, goodMs := goodMs, badMs := badMs, lockMs := lockMs, signal := cycle
    lockAt := if t.state = 2 ∧ st = 3 then some cycle else t.lockAt }

/-- A 1 ms integration ends: replicas and state of the channel (07 R208-R210). A peak outside the search window is not one the search can
find; the poisoned result of a faulted search is not used. -/
def execGnssIntegration (c : Nat) (ch : Fin 48) (corr : CorrelatorSums) (s : State) : Out :=
  let s := advance c s
  if !gnssRuns s || !chanOn s ch.val then .next s else
  let other := if ch.val < 24 then ch.val + 24 else ch.val - 24
  let t := vget s.gnss.ch ch
  match t.state with
  | 0 => match corr.assign with
    | some p => .next (assignSat ch (p.val + 1) s)
    | none => .next s
  | 1 => match corr.peak with
    | some d =>
      let w := searchWindow s t
      if blockDown s 4 5 || decide (w.2 < (d - w.1).natAbs) then .next s
      else if resultFaulted s 4 5 then .next (operationDone 4 5 s)
      else .next (operationDone 4 5
        (updChan ch (fun t => loopSettings s { t with state := 2, dop := d, goodMs := 0, signal := s.clk.cycle, aid := none }) s))
    | none => .next s
  | st =>
    let t1 := trackState corr t s.clk.cycle
    let s1 := updChan ch (fun t => loopSettings s { sumBit corr (updateLoops corr t) with
      state := t1.state, goodMs := t1.goodMs, badMs := t1.badMs, lockMs := t1.lockMs, signal := t1.signal, lockAt := t1.lockAt }) s
    if st = 2 ∧ t1.state = 3 ∧ (chanAt s1 other).state = 1 then
      .next (updChanN other (fun o => { o with centre := some (t.dop, s.clk.cycle), aid := some t.ncoCode }) s1)
    else .next s1

/-- The lock indicator has been below 0.5 for 20 ms, or the front end is fenced (07 R210, R228). -/
def execChannelLossOfLock (c : Nat) (ch : Fin 48) (s : State) : Out :=
  let s := advance c s
  let t := vget s.gnss.ch ch
  if 2 ≤ t.state ∧ (20 ≤ t.badMs ∨ blockDown s 4 (7 + ch.val / 24)) then
    .next (updChan ch (loseLock s.clk.cycle) s)
  else .next s

/-- A channel pair's assignment is released after 30 s without signal (07 R207). -/
def execSatelliteRelease (c : Nat) (pair : Fin 24) (s : State) : Out :=
  let s := advance c s
  let a := chanAt s pair.val
  let b := chanAt s (pair.val + 24)
  if (a.prn = 0 ∧ b.prn = 0) ∨ s.clk.cycle < max a.signal b.signal + 30 * oneSecond then .next s
  else .next (updChanN (pair.val + 24) (fun _ => GChan.idle) (updChanN pair.val (fun _ => GChan.idle) s))

/-! ### Navigation data (07 R211-R213) -/

/-- Change a satellite, by PRN. -/
def updSat (prn : Nat) (f : SatNav → SatNav) (s : State) : State :=
  updGnss (fun g => { g with sats := vupdN g.sats (prn - 1) f }) s

/-- The reference week for the extension of R213: the RTC's, or the build date's. -/
def refWeek (s : State) : Nat :=
  if s.power.rtcValid then (rtcSec s - 315964819) / 604800 else Config.buildWeek

/-- Channels of a satellite in FRAME whose ephemeris is held become READY (07 R210). -/
def readyChans (prn : Nat) (s : State) : State :=
  if !ephUsable s prn then s else
  updGnss (fun g => { g with ch := g.ch.map fun t => if t.prn = prn ∧ t.state = 5 then { t with state := 6 } else t }) s

/-- Is the satellite excluded by check 5 (07 R212, R223): its ephemeris differs between the antennas, or lies far from its almanac? -/
def excluded (x : SatNav) : Bool := x.bad.isSome || x.far.isSome

/-- An ephemeris becomes the satellite's, with the cycle of its receipt (07 R212, R225). -/
def holdEph (prn iode : Nat) (d : List Nat) (s : State) : State :=
  gnssBlockWrite (readyChans prn (updSat prn (fun x => { x with eph := some (iode, d), recv := s.clk.cycle, far := none }) s))

/-- An ephemeris is held to its almanac page, where there is one (07 R212). -/
def judgeEph (prn iode : Nat) (d : List Nat) (s : State) : State :=
  let p := almPage s prn
  if !p.isEmpty && Config.orbitFar d p then
    updGnss (fun g => { g with ephTrig := true }) (updSat prn (fun x => { x with far := some iode }) s)
  else holdEph prn iode d s

/-- A set of subframes 1 to 3 whose issue numbers agree is accepted from an antenna (07 R212). -/
def acceptEph (prn : Nat) (ant : Fin 2) (iode : Nat) (d : List Nat) (s : State) : State :=
  let x := satAt s prn
  let other := (vget x.dec (if ant = 0 then 1 else 0)).acc
  let s1 := updSat prn (fun x => { x with dec := vupd x.dec ant fun y => { y with acc := some (iode, d) } }) s
  let differs := match other with
    | some o => o.1 == iode && o.2 != d
    | none => false
  if differs then
    sticky (updGnss (fun g => { g with ephTrig := true })
      (updSat prn (fun x => { x with bad := some iode }) s1)) 0x4016 2
  else
    let both := match other with
      | some o => o.1 == iode
      | none => false
    let s2 := match x.bad with
      | some b => if both && b != iode then updSat prn (fun x => { x with bad := none }) s1 else s1
      | none => s1
    if x.eph.map (·.1) == some iode then s2 else judgeEph prn iode d s2

/-- An almanac page is taken (07 R213); an ephemeris that the page before rejected is held to the new one. -/
def takePage (sv : Nat) (d : List Nat) (s : State) : State :=
  let s1 := updGnss (fun g => { g with alm := (sv, d, (s.clk.cycle : Int)) :: g.alm.filter (·.1 != sv) }) s
  let x := satAt s1 sv
  match x.far with
  | none => s1
  | some i =>
    match x.dec.toList.find? fun y => y.acc.any (·.1 == i) with
    | some y => match y.acc with
      | some a => judgeEph sv i a.2 s1
      | none => s1
    | none => s1

/-- The UTC page of subframe 4, page 18 (14 R427): ΔtLS, and a leap second announced by WN_LSF, DN and ΔtLSF. -/
def utcPage (d : List Nat) (s : State) : State :=
  let ls := signedOf 8 (dataBits (dataWord d 9) 1 8)
  let lsf := signedOf 8 (dataBits (dataWord d 10) 1 8)
  let full := nearWeek 256 (dataBits (dataWord d 9) 9 16) (s.gnss.week.getD (refWeek s))
  let dn := dataBits (dataWord d 9) 17 24
  let s1 := updGnss (fun g => { g with utcLs := some ls }) s
  if slotSource s s.time.active ≠ 2 then s1 else
  let at_ : Int := 315964819 + 604800 * full + 86400 * dn + lsf
  let s2 := refreshUtc s1
  let lp : Option (Int × Int) := if lsf = ls ∨ at_ ≤ reportedSec s then none else some (at_, lsf - ls)
  { s2 with time := { s2.time with leap := lp } }

/-- The data of an accepted subframe are taken (07 R212, R213). -/
def takeSubframe (prn : Nat) (ant : Fin 2) (d : List Nat) (s : State) : State :=
  match subframeId d with
  | 4 =>
    let sv := dataBits (dataWord d 3) 3 8
    if sv = 56 then utcPage d s
    else if 1 ≤ sv ∧ sv ≤ 32 then takePage sv d s
    else s
  | 5 =>
    let sv := dataBits (dataWord d 3) 3 8
    if 1 ≤ sv ∧ sv ≤ 32 then takePage sv d s else s
  | i =>
    if i = 0 ∨ 3 < i then s else
    let s1 := updSat prn (fun x => { x with dec := vupd x.dec ant fun y =>
      { y with sf := vupdN y.sf (i - 1) (fun _ => some d) } }) s
    let s2 := if i = 1 then
        updGnss (fun g => { g with week := some (extendWeek (dataBits (dataWord d 3) 1 10) (refWeek s)) }) s1
      else s1
    let y := vget (satAt s2 prn).dec ant
    match vget y.sf 0, vget y.sf 1, vget y.sf 2 with
    | some a, some b, some e =>
      let iode := dataBits (dataWord b 3) 1 8
      if dataBits (dataWord a 8) 1 8 = iode ∧ dataBits (dataWord e 10) 1 8 = iode then
        if y.acc.map (·.1) == some iode then s2 else acceptEph prn ant iode (a.drop 2 ++ b.drop 2 ++ e.drop 2) s2
      else s2
    | _, _, _ => s2

/-- D29 and D30 of the word before a subframe (07 R211): those of the channel's latest subframe where that is the one before, 6 s ago;
else as the preamble's polarity shows (DEDUCED, log 18). -/
def wordBefore (s : State) (t : GChan) (w : Nat) : Bool × Bool :=
  let shown := (navPolarity w).getD false
  match t.tail with
  | some x => if s.clk.cycle < x.2.2 + 9 * oneSecond then (x.1, x.2.1) else (shown, shown)
  | none => (shown, shown)

/-- A subframe is received on a channel (07 R211): ten words of 30 bits, each checked; accepted when all pass their parity and the first
opens with the preamble. -/
def execSubframeReceived (c : Nat) (ch : Fin 48) (words : List Word) (s : State) : Out :=
  if words.length ≠ 10 then .fault .illFormed else
  let s := advance c s
  let t := vget s.gnss.ch ch
  let w := words.map fun x => x.toNat % 2 ^ 30
  if !gnssRuns s || !chanOn s ch.val || decide (t.state < 4) then .next s else
  let before := wordBefore s t (w.getD 0 0)
  let z := navWords before.1 before.2 w
  let s0 := updChan ch (fun t => { t with tail := some (navBit (w.getD 9 0) 29, navBit (w.getD 9 0) 30, s.clk.cycle) }) s
  if z.2 ≠ 0 then .next (sticky (bump s0 0x4017 15 0 z.2) 0x4016 1)
  else if dataBits (dataWord z.1 1) 1 8 ≠ 0x8B then .next s0 else
  let tow := towOf z.1
  let next := match t.lastTow with
    | some x => decide ((x + 1) % 100800 = tow)
    | none => false
  let st := if decide (t.state = 4) && next then 5 else t.state
  let s1 := updChan ch (fun t => { t with lastTow := some tow, state := st }) s0
  .next (readyChans t.prn (takeSubframe t.prn (if ch.val < 24 then 0 else 1) z.1 s1))

/-! ### Measurement tick and epoch (07 R214-R224) -/

/-- A channel latches (07 R210, R214): a carrier phase that departs from Doppler times interval by more than 0.25 cycle is a
slip of this epoch. -/
def latchChan (gone : Nat) (m : ChannelLatch) (t : GChan) : GChan :=
  let slip := match t.prev with
    | some p => decide (250 < ((m.phase - p) - floorDiv (m.dop * gone) 100000000).natAbs)
    | none => false
  { t with
    cn0 := m.cn0, dop := m.dop, phase := m.phase, code := m.code, elev := m.elev, az := m.az, slip := slip
    prev := some m.phase }

/-- The epoch interval in ns (07 R214): 1, 2, 5 or 10 Hz. -/
def epochInterval (rate : Nat) : Int := if rate = 0 then 1000000000 else if rate = 1 then 500000000 else if rate = 2 then 200000000 else 100000000

/-- Is a time within half a sample period, and the 10 ns of the counter, of a whole multiple of an interval (07 R214)? -/
def atMultiple (t interval : Int) : Bool := decide ((t + 41) % interval ≤ 82)

/-- The rate in force on a tick (07 R229): a new EPOCH_RATE applies from the next whole GPS second. -/
def rateOn (s : State) (est : Option Int) : Nat :=
  match est with
  | some t => if atMultiple t 1000000000 then fld s 0x4000 5 4 else s.gnss.rate
  | none => fld s 0x4000 5 4

/-- The settings that apply from a tick (07 R229, R230). -/
def epochSet (s : State) : EpochSet :=
  ⟨fld s 0x4003 7 0, fld s 0x4003 15 8, fld s 0x4007 5 0, flag s 0x4007 8, fld s 0x4008 15 0, fld s 0x4005 15 0⟩

/-- Is heading to be computed (07 R219)? -/
def headingOn (s : State) : Bool :=
  flag s 0x4000 2 && decide (1000 ≤ fld s 0x4004 15 0) && decide (fld s 0x4004 15 0 ≤ 20000)

/-- HEADING_STATE: state, fixed double differences, length (07 R232). -/
def showHeading (st n len : Nat) (s : State) : State :=
  wr (updGnss (fun g => { g with heading := st }) s) 0x4014 (BitVec.ofNat 32 (st + 256 * (n % 32) + 65536 * (len % 65536)))

/-- All channels of both antennas latch (07 R214), and the settings of the epoch with them; heading enters SEARCH from OFF (R220, R230).
Once there is a clock solution the tick is the edge nearest a multiple of the interval in GPS time. The results of banks and front
ends in service are delivered here; those of a faulted operation are left out of the epoch (01 R29). -/
def execMeasurementTick (c : Nat) (m : List ChannelLatch) (s : State) : Out :=
  let s := advance c s
  let est := gpsEstimate s s.clk.cycle
  let rate := rateOn s est
  let off := match est with
    | some t => !atMultiple t (epochInterval rate)
    | none => false
  if !gnssRuns s || off then .next s else
  let gone := match s.gnss.tick with
    | some k => s.clk.cycle - k
    | none => 0
  let one (i : Fin 48) : GChan :=
    let t := vget s.gnss.ch i
    let t0 := { t with
      inEpoch := chanOn s i.val && !resultFaulted s 4 (i.val / 12) && !resultFaulted s 4 (7 + i.val / 24) }
    let t1 := if t.state = 6 ∧ !ephUsable s t.prn then { t0 with state := 5 } else t0
    match m.find? (fun x => x.ch == i) with
    | some x => if 2 ≤ t.state then latchChan gone x t1 else t1
    | none => { t1 with slip := false, prev := none }
  let s1 := updGnss (fun g => { g with
    ch := Vector.ofFn one, prevTick := g.tick, tick := some s.clk.cycle, tickDue := true, cfg := epochSet s, rate := rate }) s
  let s2 := if headingOn s && s.gnss.heading == 0 then showHeading 1 0 0 s1 else s1
  .next ([0, 1, 2, 3, 7, 8].foldl (fun s b => operationDone 4 b s) s2)

/-- Below the elevation or the C/N0 mask of the epoch (07 R216, R229). -/
def chanMasked (s : State) (t : GChan) : Bool :=
  decide (t.cn0 < 2 * s.gnss.cfg.cn0) || (match t.elev with
    | some e => decide (e < (s.gnss.cfg.elev : Int))
    | none => true)

/-- Does a channel belong to the epoch: its bank in service on the tick, its antenna now (07 R228, R229)? -/
def chanIn (s : State) (i : Nat) : Bool := antennaOn s (i / 24) && (chanAt s i).inEpoch

/-- Does a channel take part in solutions: READY, above both masks, its satellite not excluded (07 R212, R216)? -/
def chanReady (s : State) (i : Nat) : Bool :=
  let t := chanAt s i
  chanIn s i && t.state == 6 && !excluded (satAt s t.prn) && !chanMasked s t

/-- Is a channel locked in the epoch? -/
def epochLocked (s : State) (i : Nat) : Bool := chanIn s i && decide (3 ≤ (chanAt s i).state)

/-- The channels, 0 to 23, of an antenna that take part. -/
def antennaReady (s : State) (a : Nat) : List Nat := (List.range 24).filter fun n => chanReady s (24 * a + n)

/-- The normalised residual of a satellite (07 R216): over RAIM_SIGMA, whose weight is 1/sin² of the elevation. -/
def normResid (s : State) (a : Nat) (x : Fin 24 × F32) : Fin 24 × F32 :=
  let e := f32Div (f32Mul (f32OfInt ((chanAt s (24 * a + x.1.val)).elev.getD 0)) f32Pi) (f32OfInt 180)
  (x.1, f32Div (f32Mul (f32Abs x.2) (Config.sin e)) (f32OfRatio s.gnss.cfg.sigma 100))

/-- The first of the largest of residuals by channel. -/
def largestResid (l : List (Fin 24 × F32)) : Option (Fin 24 × F32) :=
  l.foldl (fun m x => match m with
    | none => some x
    | some y => if f32Lt y.2 x.2 then some x else some y) none

/-- The position solution of an antenna in an epoch: channels used, the excluded channel, and the solution (07 R216). first: the
solution after four passes; second: that of the further pass without the excluded satellite. -/
def solveAntenna (s : State) (a : Nat) (first second : Option NavFix) : List Nat × Option Nat × Option NavFix :=
  let l := antennaReady s a
  if l.length < 4 then ([], none, none) else
  match first with
  | none => ([], none, none)
  | some f =>
    if l.length < 6 then (l, none, first) else
    match largestResid ((f.resid.filter fun x => l.contains x.1.val).map (normResid s a)) with
    | some x => if f32Lt (f32OfInt 5) x.2 then (l.filter (· != x.1.val), some x.1.val, second) else (l, none, first)
    | none => (l, none, first)

/-- The satellites locked on both antennas, by channel. -/
def lockedPairs (s : State) : List Nat := (List.range 24).filter fun n => epochLocked s n && epochLocked s (24 + n)

/-- The azimuth spread, in 0.01 degrees, of some azimuths (07 R223): the least arc that holds them all. -/
def azimuthSpread (l : List Nat) : Nat :=
  let gap (a : Nat) : Nat := (l.filter (· != a)).foldl (fun m b => min m ((b + 36000 - a) % 36000)) 36000
  if l.isEmpty then 0 else 36000 - (l.map gap).foldl max 0

/-- The coherence of the fractional single-difference phases of some channels (07 R223): |(1/n) Σ exp(2πi f)|. -/
def coherence (s : State) (l : List Nat) : F32 :=
  let angle (n : Nat) : F32 := f32Mul f32TwoPi (f32OfRatio (((chanAt s n).phase - (chanAt s (24 + n)).phase) % 1000) 1000)
  let sum (f : F32 → F32) : F32 := (l.map fun n => f (angle n)).foldl f32Add 0
  f32Div (f32Sqrt (f32Add (f32Sq (sum Config.cos)) (f32Sq (sum Config.sin)))) (f32OfInt l.length)

/-- Does an epoch meet the condition of check 2 (07 R223)? -/
def oneDirection (s : State) : Bool :=
  let l := lockedPairs s
  decide (5 ≤ l.length) && decide (9000 ≤ azimuthSpread (l.filterMap fun n => (chanAt s n).az)) &&
    f32Le (f32OfRatio 95 100) (coherence s l)

/-- The conditions of checks 0 to 5 in an epoch, each with the antennas it names (07 R223). clock: bias and drift of the
time solution; gps: GPS time of the tick on the PTP timescale in ns. -/
def checkConds (s : State) (d : EpochData) (clock : Option (Int × Int)) (gps : Option Int) : List (Bool × Nat) :=
  let g := s.gnss
  let agc (a : Fin 2) (x : Int) : Bool :=
    let l := (vget g.agc a).map (·.2)
    !l.isEmpty && decide (x * l.length + 6000 * l.length < l.foldl (· + ·) 0)
  let power (a : Nat) : Bool :=
    let l := ((List.range 24).filter fun n => epochLocked s (24 * a + n)).map fun n => chanAt s (24 * a + n)
    let c : List Nat := l.map (·.cn0)
    decide (6 ≤ l.length) && decide (c.foldl max 0 ≤ c.foldl min 1000 + 4) && decide (100 * l.length ≤ c.foldl (· + ·) 0)
  let gone : Nat := match g.tick, g.prevTick with
    | some t, some p => t - p
    | _, _ => 0
  let jump := match clock, g.bias, g.drift with
    | some c, some b, some r =>
      decide (100 < (c.1 - (b + floorDiv (r * gone) 100000000000)).natAbs) || decide (50000 < (c.2 - r).natAbs)
    | _, _, _ => false
  let own := match gps, g.tick with
    | some t, some k =>
      slotSource s s.time.active == 1 && (vget s.time.slot s.time.active).state == 0 &&
        decide (1000 < (t - slotNsAt s s.time.active k).natAbs)
    | _, _ => false
  let nav := g.ephTrig || g.sats.toList.any excluded
  let both (b : Bool) : Bool × Nat := (b, 3)
  [(agc 0 d.agcA || agc 1 d.agcB, b2n (agc 0 d.agcA) + 2 * b2n (agc 1 d.agcB)),
    (power 0 || power 1, b2n (power 0) + 2 * b2n (power 1)),
    both (decide (3 ≤ g.cohere)), both jump, both own, (nav, 0)]

/-- The event and sticky bit of a check (07 R223, R224). -/
def checkEvent (i : Nat) : Nat × Nat :=
  if i = 0 then (51, 4) else if i = 3 ∨ i = 4 then (53, 6) else (52, 5)

/-- ARG of a check's event (07 R224, R233). -/
def checkArg (i mask : Nat) : Nat := mask + (if i = 0 then 0 else 256 * i)

/-- CHECK_STATE from the standing checks (07 R232). -/
def showChecks (s : State) : State :=
  let l := s.gnss.checks.toList
  let bits := (l.zipIdx).foldl (fun n x => if x.1.stands then n + 2 ^ x.2 else n) 0
  let mask := l.foldl (fun m x => if x.stands then m ||| x.mask else m) 0
  wr s 0x4015 (BitVec.ofNat 32 (bits + 256 * mask))

/-- Run the checks of an epoch (07 R223, R224). -/
def runChecks (conds : List (Bool × Nat)) (s : State) : State × List (Nat × Nat) :=
  let r := (List.finRange 6).foldl (fun (a : State × List (Nat × Nat)) i =>
    let k := vget a.1.gnss.checks i
    let x := conds.getD i.val (false, 0)
    if x.1 && a.1.gnss.cfg.checks.testBit i.val then
      let s1 := updGnss (fun g => { g with checks := vset g.checks i ⟨true, k.mask ||| x.2, s.clk.cycle⟩ }) a.1
      if k.stands then (s1, a.2)
      else (sticky s1 0x4016 (checkEvent i.val).2, a.2 ++ [((checkEvent i.val).1, checkArg i.val x.2)])
    else a) (s, [])
  (showChecks r.1, r.2)

/-- A check stops standing after 10 s of epochs without its condition (07 R224). -/
def execCheckClear (c : Nat) (check : Fin 6) (s : State) : Out :=
  let s := advance c s
  let k := vget s.gnss.checks check
  if !k.stands || decide (s.gnss.epoch < k.met + 10 * oneSecond) then .next s else
  let s1 := showChecks (updGnss (fun g => { g with checks := vset g.checks check ⟨false, 0, k.met⟩ }) s)
  .next (raise (checkEvent check.val).1 (checkArg check.val k.mask + 0x8000) s1)

/-- Has the satellite of a channel pair slipped in the epoch, on either antenna? -/
def pairSlip (s : State) (n : Nat) : Bool := (chanAt s n).slip || (chanAt s (24 + n)).slip

/-- The reference satellite (07 R219): the highest of those locked on both antennas without a slip; of equals the lowest channel. -/
def refChannel (s : State) : Option Nat :=
  ((lockedPairs s).filter fun n => !pairSlip s n && !excluded (satAt s (chanAt s n).prn)).foldl (fun m n => match m with
    | none => some n
    | some k => if (chanAt s k).elev.getD (-128) < (chanAt s n).elev.getD (-128) then some n else some k) none

/-- The channels whose double differences are formed against a reference (07 R219). -/
def diffChannels (s : State) (ref : Nat) : List Nat :=
  (List.range 24).filter fun n => n != ref && chanReady s n && chanReady s (24 + n)

/-- The integers found in an epoch, by channel in rising order, with 0 for the reference. -/
def foundInts (s : State) (ref : Nat) (x : BaselineFix) : List (Fin 24 × Int) :=
  (List.finRange 24).filterMap fun n =>
    if n.val = ref then some (n, 0)
    else if (diffChannels s ref).contains n.val then (x.ints.find? (·.1 == n)).map fun z => (n, z.2) else none

/-- Integers by their differences from the first, which no choice of reference changes. -/
def relInts (l : List (Fin 24 × Int)) : List (Fin 24 × Int) :=
  match l with
  | [] => []
  | x :: _ => l.map fun z => (z.1, z.2 - x.2)

/-- What is added to held integers, relative to an earlier reference, to make them relative to this one (07 R221): by difference
through the reference's own fixed integer, else through the first satellite whose integer is fixed and found. -/
def carryOver (s : State) (ref : Nat) (found : List (Fin 24 × Int)) (held : List (Fin 24 × Int × Nat)) : Int :=
  match held.find? fun o => o.1.val == ref && decide (3 ≤ o.2.2) with
  | some o => -o.2.1
  | none =>
    match found.findSome? fun z => (held.find? fun o => o.1 == z.1 && decide (3 ≤ o.2.2) && !pairSlip s z.1.val).map
        fun o => z.2 - o.2.1 with
    | some d => d
    | none => 0

/-- The integers held in FIXED after an epoch (07 R221): the reference's is 0; one that is fixed and free of a slip stays; any other
counts the epochs in which the same was found. -/
def heldInts (s : State) (ref : Nat) (found : List (Fin 24 × Int)) (held : List (Fin 24 × Int × Nat)) :
    List (Fin 24 × Int × Nat) :=
  let c := carryOver s ref found held
  (List.finRange 24).filterMap fun n =>
    if n.val = ref then some (n, 0, 3)
    else if !(diffChannels s ref).contains n.val then none else
    let z := (found.find? (·.1 == n)).map (·.2)
    match held.find? fun o => o.1 == n && !pairSlip s n.val with
    | some o =>
      if 3 ≤ o.2.2 then some (n, o.2.1 + c, o.2.2)
      else z.map fun v => if v = o.2.1 + c then (n, v, o.2.2 + 1) else (n, v, 1)
    | none => z.map fun v => (n, v, 1)

/-- The heading step of an epoch (07 R219-R221). It is in SEARCH or FIXED since the tick at the latest. -/
def headingStep (b : Option BaselineFix) (s : State) : State × List (Nat × Nat) :=
  let g := s.gnss
  let near (x : BaselineFix) : Bool := decide (((x.length : Int) - fld s 0x4004 15 0).natAbs ≤ g.cfg.tol)
  let clear (s : State) : State := updGnss (fun g => { g with cand := none, ints := [] }) s
  let length := match b with
    | some x => x.length
    | none => 0
  if !headingOn s || g.heading == 0 then (showHeading 0 0 0 (clear s), [])
  else if g.heading = 1 then
    let missed := (showHeading 1 0 length (clear s), [])
    match b, refChannel s with
    | some x, some ref =>
      let found := foundInts s ref x
      if decide (5 ≤ found.length) && near x && f32Le x.best (f32OfRatio 2 100) &&
          f32Le (f32Mul (f32OfInt 3) x.best) x.second then
        let n := match g.cand with
          | some c => if c.1 = relInts found then c.2 + 1 else 1
          | none => 1
        if 3 ≤ n then
          let s1 := updGnss (fun g => { g with cand := none, ints := found.map fun z => (z.1, z.2, 3) }) s
          (showHeading 2 (found.length - 1) x.length s1, [(50, found.length - 1)])
        else (showHeading 1 0 x.length (updGnss (fun g => { g with cand := some (relInts found, n) }) s), [])
      else missed
    | _, _ => missed
  else
    let ints := match refChannel s with
      | some ref => heldInts s ref (match b with
          | some x => foundInts s ref x
          | none => []) g.ints
      | none => []
    let fixed := ints.countP (fun o => decide (3 ≤ o.2.2)) - 1
    let s1 := updGnss (fun g => { g with ints := ints }) s
    let stays := match b with
      | some x => decide (4 ≤ fixed) && near x && f32Le x.best (f32OfRatio 5 100)
      | none => false
    if stays then (showHeading 2 fixed length s1, [])
    else (sticky (showHeading 1 fixed length (clear s1)) 0x4016 7, [(50, fixed + 0x8000)])

/-- FIX_STATE of an antenna, with GNSS_FIX when its validity changes (07 R232, R233). -/
def showFix (a : Nat) (valid : Bool) (used pdop : Nat) (s : State) : State × List (Nat × Nat) :=
  let id := 0x4012 + a
  (wr s id (BitVec.ofNat 32 (b2n valid + 256 * used + 65536 * min pdop 0xFFFF)),
    eventsWhen [(flag s id 0 != valid, 49, a + if valid then 0 else 0x8000)])

/-- Mark what an epoch used on an antenna's channels (07 R231). -/
def markChans (a : Nat) (used : List Nat) (excl : Option Nat) (f : Option NavFix) (hdg : List Nat) (s : State) : State :=
  (List.range 24).foldl (fun s n => updChanN (24 * a + n) (fun t => { t with
    usedPos := used.contains n, raim := excl == some n, usedHdg := hdg.contains n
    resid := match f with
      | some x => match x.resid.find? (fun r => r.1.val == n) with
        | some r => if used.contains n then r.2 else 0
        | none => 0
      | none => 0 }) s) s

/-- Hand a source's record of the epoch to intake, or count it INVALID (07 R215, R217). -/
def sourceRecord (q : Nat) (valid : Bool) (r : SampleRec) (s : State) : State :=
  if !flag s (srcId q 0) 0 then s else if valid then acceptInternal q r s else rejectRec q .invalid s

/-- The first fix of a start (07 R226, R233): START_STATE and GNSS_START. -/
def firstFix (fix : Bool) (s : State) : State × List (Nat × Nat) :=
  match s.gnss.startAt with
  | none => (s, [])
  | some k =>
    if s.gnss.firstFix || !fix then (s, []) else
    (wrFld (updGnss (fun g => { g with firstFix := true }) s) 0x4018 31 16 (min 0xFFFE ((s.clk.cycle - k) / 10000000)),
      if s.gnss.timedOut then [] else [(54, s.gnss.startType)])

/-- Hand the time solution to the GNSS slots (07 R218, 14 R420). -/
def timeSolution (gps : Option Int) (sats : Nat) (s : State) : State :=
  match gps, s.gnss.tick with
  | some t, some k =>
    if decide (sats < 4) || (vget s.gnss.checks 3).stands || (vget s.gnss.checks 4).stands then s else
    (List.finRange 2).foldl (fun s d =>
      if slotSource s d = 2 then slotMeasure d (slotNsAt s d k - t) sats s else s) s
  | _, _ => s

/-- The AGC gains of the last 60 s (07 R223 check 0). -/
def keepAgc (d : EpochData) (s : State) : State :=
  let add (l : List (Nat × Int)) (x : Int) : List (Nat × Int) :=
    (l ++ [(s.clk.cycle, x)]).filter fun z => decide (s.clk.cycle < z.1 + 60 * oneSecond)
  updGnss (fun g => { g with agc := vset (vset g.agc 0 (add (vget g.agc 0) d.agcA)) 1 (add (vget g.agc 1) d.agcB) }) s

/-- What the checks of an epoch and a fault of the navigation processor leave of an antenna's solution: does it give a valid record
(07 R217)? -/
def fixUsable (used : List Nat) (f : Option NavFix) : Bool :=
  decide (4 ≤ used.length) && (match f with
    | some x => decide (x.pdop ≤ 600)
    | none => false)

/-- The epoch strobe crosses, 500 002 or 500 003 cycles after the tick (07 R215): positions, heading, checks, the records of sources 0 to
2 with the tick's stamp, and the time solution. The poisoned results of a faulted operation of the navigation processor are no
solution (01 R29). -/
def execEpochStrobe (c : Nat) (d : EpochData) (s : State) : Out :=
  let s := advance c s
  if !gnssRuns s || blockDown s 4 6 || !s.gnss.tickDue then .next s else
  match s.gnss.tick with
  | none => .next s
  | some k =>
    if s.clk.cycle ≠ k + 500002 ∧ s.clk.cycle ≠ k + 500003 then .next s else
    let good := !resultFaulted s 4 6
    let sound (f : Option NavFix) : Option NavFix := if good then f else none
    let a := solveAntenna s 0 (sound d.fixA) (sound d.fixA2)
    let b := solveAntenna s 1 (sound d.fixB) (sound d.fixB2)
    let uA := fixUsable a.1 a.2.2
    let uB := fixUsable b.1 b.2.2
    let src := if uA then a.2.2 else if uB then b.2.2 else none
    let clock := src.map fun x => (x.bias, x.drift)
    let gps := match src, s.gnss.week with
      | some _, some w => some (((w : Int) * 604800 + 315964819) * 1000000000 + d.tow)
      | _, _ => none
    let s1 := updGnss (fun g => { g with
      cohere := if oneDirection s then g.cohere + 1 else 0, epoch := s.clk.cycle, tickDue := false }) s
    let ck := runChecks (checkConds s1 d clock gps) s1
    let s2 := keepAgc d (updGnss (fun g => { g with
      ephTrig := false, bias := clock.map (·.1)
      gpsAt := match gps with
        | some t => some (t, k)
        | none => g.gpsAt
      drift := match clock with
        | some z => some z.2
        | none => g.drift }) ck.1)
    let h := headingStep (if good then d.base else none) s2
    let flagged (i : Nat) : Bool := h.1.gnss.cfg.spoof && flag h.1 0x4015 (8 + i)
    let va := uA && !flagged 0
    let vb := uB && !flagged 1
    let fa := showFix 0 va a.1.length (match a.2.2 with
      | some x => x.pdop
      | none => 0xFFFF) h.1
    let fb := showFix 1 vb b.1.length (match b.2.2 with
      | some x => x.pdop
      | none => 0xFFFF) fa.1
    let hdg := if h.1.gnss.heading = 2 then (h.1.gnss.ints.filter fun o => decide (3 ≤ o.2.2)).map (·.1.val) else []
    let s3 := markChans 1 b.1 b.2.1 b.2.2 hdg (markChans 0 a.1 a.2.1 a.2.2 hdg fb.1)
    let raim (i : Nat) (x : Option Nat) : List (Nat × Nat) := match x with
      | some n => [(55, (chanAt s3 (24 * i + n)).prn + 256 * i)]
      | none => []
    let ev := raim 0 a.2.1 ++ raim 1 b.2.1
    let s4 := if ev.isEmpty then s3 else sticky s3 0x4016 3
    let s5 := updGnss (fun g => { g with
      dropDue := false, timeoutDue := false
      pos := match a.2.2 with
        | some x => if va then some (x.lat, x.lon) else g.pos
        | none => g.pos }) s4
    let rec_ (f : Option NavFix) : SampleRec := match f with
      | some x => ⟨s.clk.cycle, k, none, x.lat, x.lon, 0, 0, none⟩
      | none => ⟨s.clk.cycle, k, none, 0, 0, 0, 0, none⟩
    let azim := match d.base with
      | some x => wrapTwoPi (f32Sub x.azim (f32OfRatio (signedOf 16 (fld s5 0x4006 15 0)) 10000))
      | none => 0
    let vh := decide (s5.gnss.heading = 2) && !flagged 0 && !flagged 1
    let s6 := sourceRecord 2 vh ⟨s.clk.cycle, k, none, 0, 0, azim, 0, none⟩
      (sourceRecord 1 vb (rec_ b.2.2) (sourceRecord 0 va (rec_ a.2.2) s5))
    let st := firstFix (va || vb) s6
    let due := eventsWhen [(s.gnss.dropDue, 50, 0x8000), (s.gnss.timeoutDue, 54, s.gnss.startType + 0x8000)]
    let t := timeSolution (if va || vb then gps else none) (if va then a.1.length else b.1.length)
      (raiseAll (due ++ ck.2 ++ h.2 ++ fa.2 ++ fb.2 ++ ev ++ st.2) st.1)
    .next (operationDone 4 6 (operationDone 4 4 t))

/-! ### Opcodes -/

/-- Channels of an antenna cleared (07 R227, R229). -/
def clearAntenna (a : Nat) (s : State) : State :=
  (List.range 24).foldl (fun s n => updChanN (24 * a + n) (fun _ => GChan.idle) s) s

/-- An antenna whose bias bit is clear: its state reads OFF and no test runs (07 R205). -/
def unbias (a : Fin 2) (s : State) : State :=
  if flag s 0x4000 (8 + a.val) then s
  else updGnss (fun g => { g with antShort := vset g.antShort a none }) (wrFld s (0x4010 + a.val) 15 0 0)

/-- What a commit to GNSS settings does beside the settings (07 R229, R230): channels of an antenna whose enable was cleared
stop; an antenna whose bias bit is clear reads OFF (R205); a changed LENGTH or ANGLE puts heading into OFF. before: the state before the commit. -/
def gnssEffect (before : State) (s : State) : State :=
  let off (a : Nat) (s : State) : State := if flag before 0x4000 a && !flag s 0x4000 a then clearAntenna a s else s
  let s1 := unbias 1 (unbias 0 (off 1 (off 0 s)))
  if rd before 0x4004 != rd s 0x4004 || rd before 0x4006 != rd s 0x4006 || !headingOn s then
    showHeading 0 0 0 (updGnss (fun g => { g with cand := none, ints := [] }) s1)
  else s1

/-- GNSS_CONFIG in either form (07 R229). -/
def gnssConfig (expert : Bool) (code : Nat) : OpSpec where
  code := code
  check _ p _ :=
    let b := byteAt p
    firstBad ([(decide (b 0 < 32), 0), (decide (b 1 ≤ 3), 1), (decide (3 ≤ b 2) && decide (b 2 ≤ 64), 2),
        (decide (b 3 ≤ 30), 3), (decide (25 ≤ b 4) && decide (b 4 ≤ 40), 4), (zerosAt p 5 11, 5)] ++
      (if expert then [(decide (5 ≤ b 16) && decide (b 16 ≤ 200), 16), (decide (5 ≤ b 17) && decide (b 17 ≤ 30), 17),
        (decide (1 ≤ b 18) && decide (b 18 ≤ 10), 18), (decide (b 19 < 64), 19), (decide (b 20 ≤ 1), 20), (zerosAt p 21 1, 21),
        (decide (100 ≤ leAt p 22 2) && decide (leAt p 22 2 ≤ 2000), 22), (zerosAt p 24 24, 24)] else []))
  internal _ s := yardFenced s 4
  targets _ _ := if expert then [0x4000, 0x4001, 0x4002, 0x4003, 0x4007, 0x4008] else [0x4000, 0x4001, 0x4003]
  tied _ _ := [0x4010, 0x4011, 0x4014]
  commit _ p s :=
    let b := byteAt p
    let ctrl := putBits (putBits (putBits (rd s 0x4000) 2 0 (b 0 % 8)) 9 8 (b 0 / 8)) 5 4 (b 1)
    let s1 := wrFld (wrFld (wrFld (wr s 0x4000 ctrl) 0x4001 6 0 (b 2)) 0x4003 7 0 (b 3)) 0x4003 15 8 (b 4)
    let s2 := if expert then
        wrFld (wrFlag (wrFld (wr s1 0x4002 (BitVec.ofNat 32 (b 16 + 256 * b 17 + 65536 * b 18))) 0x4007 5 0 (b 19))
          0x4007 8 (b 20 == 1)) 0x4008 15 0 (leAt p 22 2)
      else s1
    okResult (gnssEffect s s2)

/-- GNSS_CONFIG basic (07 R229). -/
def opGnssConfigBasic : OpSpec := gnssConfig false 0x78

/-- GNSS_CONFIG basic. -/
def execGnssConfigBasic (r : Req) (s : State) : Out := .next (serve opGnssConfigBasic r s)

/-- GNSS_CONFIG expert (07 R229). -/
def opGnssConfigExpert : OpSpec := gnssConfig true 0x79

/-- GNSS_CONFIG expert. -/
def execGnssConfigExpert (r : Req) (s : State) : Out := .next (serve opGnssConfigExpert r s)

/-- HEADING_BASELINE_SET (07 R230). -/
def opHeadingBaselineSet : OpSpec where
  code := 0x7C
  check _ p _ :=
    let n := leAt p 0 2
    firstBad [(n == 0 || (decide (1000 ≤ n) && decide (n ≤ 20000)), 0),
      (decide (5 ≤ leAt p 2 2) && decide (leAt p 2 2 ≤ 500), 2),
      (decide ((signedOf 16 (leAt p 4 2)).natAbs ≤ 31416), 4), (zerosAt p 6 10, 6)]
  internal _ s := yardFenced s 4
  targets _ _ := [0x4004, 0x4005, 0x4006]
  tied _ _ := [0x4014]
  commit _ p s :=
    okResult (gnssEffect s (wrFld (wrFld (wrFld s 0x4004 15 0 (leAt p 0 2)) 0x4005 15 0 (leAt p 2 2))
      0x4006 15 0 (leAt p 4 2)))

/-- HEADING_BASELINE_SET. -/
def execHeadingBaselineSet (r : Req) (s : State) : Out := .next (serve opHeadingBaselineSet r s)

/-- One entry of GNSS_STATUS_READ (07 R231). -/
def chanEntry (s : State) (i : Nat) : List Byte :=
  let t := chanAt s i
  let bad := t.prn != 0 && excluded (satAt s t.prn)
  let flags := b2n t.usedPos + 2 * b2n t.usedHdg + 4 * b2n t.raim + 8 * b2n t.slip + 16 * b2n bad +
    32 * b2n (t.prn != 0 && chanMasked s t)
  let lock := match t.lockAt with
    | some k => min 65535 ((s.clk.cycle - k) / 10000000)
    | none => 0
  leBytes 1 t.prn ++ leBytes 1 t.state ++ leBytes 1 t.cn0 ++ leBytes 1 flags ++ leBytes 2 (twosOf 16 (floorDiv t.dop 1000)) ++
    leBytes 1 (twosOf 8 (t.elev.getD (-128))) ++ leBytes 1 0 ++ leBytes 2 (t.az.getD 0xFFFF) ++ leBytes 2 lock ++
    wordBytes t.resid

/-- GNSS_STATUS_READ (07 R231): it addresses both banks of the antenna (01 R31). -/
def opGnssStatusRead : OpSpec where
  code := 0x7A
  check _ p _ := firstBad [(decide (byteAt p 0 ≤ 1), 0), (zerosAt p 1 3, 1)]
  internal p s := blockOut s 4 (2 * byteAt p 0) || blockOut s 4 (2 * byteAt p 0 + 1)
  commit _ p s := okData s ((List.range 24).flatMap fun n => chanEntry s (24 * (byteAt p 0) + n))

/-- GNSS_STATUS_READ. -/
def execGnssStatusRead (r : Req) (s : State) : Out := .next (serve opGnssStatusRead r s)

/-- What a restart discards (07 R227): channels of the named antennas; warm the ephemerides; cold the almanac, position and drift too; the
retained copy of the same. Heading drops to SEARCH; the next epoch strobe reports a drop from FIXED (R221, R233). -/
def restartGnss (ty mask : Nat) (s : State) : State :=
  let ch (a : Nat) (s : State) : State := if mask.testBit a then clearAntenna a s else s
  let s1 := ch 1 (ch 0 s)
  let s2 := if 1 ≤ ty then
      updGnss (fun g => { g with
        sats := g.sats.map fun x => { SatNav.empty with bad := x.bad, far := x.far }
        block := g.block.map fun b => { b with ephs := [] } }) s1
    else s1
  let s3 := if ty = 2 then
      updGnss (fun g => { g with alm := [], pos := none, drift := none, bias := none, gpsAt := none, block := none }) s2
    else s2
  let s4 :=
    if s3.gnss.heading = 0 then s3
    else
      let s := showHeading 1 0 0 (updGnss (fun g => { g with cand := none, ints := [] }) s3)
      if s3.gnss.heading = 2 then sticky (updGnss (fun g => { g with dropDue := true }) s) 0x4016 7 else s
  gnssStart s.clk.cycle s4

/-- GNSS_RESTART (07 R227). -/
def opGnssRestart : OpSpec where
  code := 0x7E
  check _ p _ :=
    firstBad [(decide (byteAt p 0 ≤ 2), 0), (decide (1 ≤ byteAt p 1) && decide (byteAt p 1 ≤ 3), 1), (zerosAt p 2 2, 2)]
  internal _ s := yardFenced s 4
  targets _ _ := [0x4018]
  tied _ _ := [0x4014]
  commit _ p s := okResult (restartGnss (byteAt p 0) (byteAt p 1) s)

/-- GNSS_RESTART. -/
def execGnssRestart (r : Req) (s : State) : Out := .next (serve opGnssRestart r s)

/-- Is the value of a GNSS parameter within its range (07 R232)? -/
def gnssParamOk (r : Regs) (id : Nat) : Bool :=
  let w := regGet r id
  let n (hi lo : Nat) : Nat := bitsOf w hi lo
  let within (x lo hi : Nat) : Bool := decide (lo ≤ x) && decide (x ≤ hi)
  if id = 0x4001 then within (n 6 0) 3 64
  else if id = 0x4002 then within (n 7 0) 5 200 && within (n 15 8) 5 30 && within (n 23 16) 1 10
  else if id = 0x4003 then within (n 7 0) 0 30 && within (n 15 8) 25 40
  else if id = 0x4004 then n 15 0 == 0 || within (n 15 0) 1000 20000
  else if id = 0x4005 then within (n 15 0) 5 500
  else if id = 0x4006 then decide ((signedOf 16 (n 15 0)).natAbs ≤ 31416)
  else if id = 0x4008 then within (n 15 0) 100 2000
  else true

end Sys2Proof.Machine
end

