-- ==== Sys2Proof/Machine/Power.lean ====
section
/-! DEFINITION. Supplies, sleep, waking, retention and the backup cell (16 R467-R481, R491, R492). -/
namespace Sys2Proof.Machine

/-- WAKE_CTRL bit i (16 R496). -/
def wakeOn (s : State) (i : Nat) : Bool := flag s 0x1502 i

/-- SUPPLIES bits 2:0 (16 R494, R497). -/
def supplyBits (s : State) : Nat := b2n s.power.mains + 2 * b2n s.power.dc + 4 * b2n s.power.dcInUse

/-- Write the state summary with a LOSS value (16 R491); nothing is retained while PD0 is fenced. sleep: the sleep state
being entered, for RESUME_SLEEP (R490). -/
def writeSummary (loss sleep : Nat) (s : State) : State :=
  if yardFenced s 0 then s else
  let x := some ⟨s.clk.beat, fld s 0x2000 2 0, s.twin.holds, moduleState s, loss, s.power.wakeMask, sleep⟩
  { s with power := { s.power with summary := x } }

/-- HOT_READY (16 R481): RTC_VALID, a good state summary, a valid GNSS block whose GPS time lies within 4 h of the RTC. -/
def hotReady (s : State) : Bool :=
  s.power.rtcValid && s.power.summary.isSome &&
  match goodBlock s with
  | none => false
  | some b =>
    let d : Int := (b.time : Int) - (s.power.rtc / 32768 : Nat)
    decide (d.natAbs ≤ 14400)

/-- A start request (16 R480): the start strobe follows 128 slow-clock periods later. The vessel's outputs and the beat
have stopped. -/
def requestStart (s : State) : State :=
  { s with
    clk := { s.clk with ticks := false, beats := false }
    power := { s.power with
      mode := .bringUp, startAt := some s.clk.cycle, entryCommit := none, entryEdge := none
      checkFrom := none, windowFrom := none } }

/-- A wake (16 R477): the wake mask is latched for the WAKE event and a bring-up is requested. -/
def wake (mask : Nat) (s : State) : State :=
  requestStart { s with power := { s.power with wakeMask := mask, byWake := true, byInput := false, latched := 0 } }

/-- The module sleeps: DOZE, WATCH or a watch window (16 R471). -/
def asleep (s : State) : Bool :=
  s.power.mode == .doze || s.power.mode == .watch || s.power.mode == .window

/-- The sleep state that a summary records: 1 DOZE, 2 WATCH, as TARGET has them (16 R474, R490). -/
def sleepCode (s : State) : Nat :=
  match s.power.mode with
  | .doze => 1
  | .watch => 2
  | .window => 2
  | _ => 0

/-- The entry sequence is abandoned by the loss of both inputs (16 R476): the module carries on in RUN, on the raster of its beats (R469). -/
def abandonEntry (s : State) : State :=
  let p := { s.power with entryCommit := none, entryEdge := none }
  match s.power.entryEdge with
  | none => { s with power := p }
  | some e =>
    let n := (s.clk.cycle - e) / 1000000
    { s with
      clk := { s.clk with beats := true, beatBase := e + 1000000 * n, beat := (s.clk.beat + n) % 2 ^ 32 }
      power := { p with mode := .run } }

/-- A supply input becomes valid or invalid (16 R467-R469, R480, R490): change-over by preference, SUPPLY, the sticky
bits; with both inputs invalid POWER_FAIL, LOSS 1, and an entry sequence or a sleep state is left; an input becoming
valid in RETAIN requests a bring-up. mainsV in V, dc in 10 mV and power in 0.1 W are the values the supply monitor measures with it. -/
def execSupplyInputChange (c : Nat) (input : SupplyInput) (valid : Bool) (mainsV : Nat) (dc : Nat) (power : Nat)
    (s : State) : Out :=
  let s := advance c s
  let was := match input with
    | .mains => s.power.mains
    | .dc => s.power.dc
  if was == valid then .next s else
  let m := if input == .mains then valid else s.power.mains
  let d := if input == .dc then valid else s.power.dc
  let use := if flag s 0x1500 0 then d || (!m && s.power.dcInUse) else d && !m || (!m && !d && s.power.dcInUse)
  let overB := use != s.power.dcInUse
  let s1 := wrFld (wrFld (wrFld { s with power := { s.power with mains := m, dc := d, dcInUse := use } }
    0x1507 31 16 mainsV) 0x1508 15 0 dc) 0x1508 31 16 power
  let s2 := if overB then sticky s1 0x150A 0 else s1
  let s3 := if valid then s2 else sticky s2 0x150A 1
  let s4 := raiseIf overB 8 (supplyBits s3) (raise 8 (supplyBits s3) s3)
  if !m && !d then
    let s5 := writeSummary 1 (sleepCode s4) (sticky (raise 9 0 s4) 0x150A 2)
    if asleep s5 then
      .next { s5 with
        clk := { s5.clk with core := false }
        power := { s5.power with mode := .retain, checkFrom := none, windowFrom := none } }
    else .next (settleLine (abandonEntry s5))
  else if valid && s4.power.mode == .retain then
    .next (requestStart { s4 with power := { s4.power with wakeMask := 0x40, byWake := true, byInput := true } })
  else .next s4

/-- The sleep entry sequence starts at the entry beat edge (16 R475): the first beat edge at least 100 000 cycles after
the commit of POWER_STATE_SET. Nothing more is released; sessions close; summary, GNSS block and bit timings of the wake
buses are written. -/
def execSleepEntry (s : State) : Out :=
  match s.power.entryCommit with
  | none => .next s
  | some k =>
    if s.clk.beatBase < k + 100000 ∨ s.power.mode ≠ .run then .next s else
    let e := s.clk.beatBase
    let s1 := closeSession 1 3 (closeSession 0 3 s)
    let s2 := raise 14 s.power.target s1
    let s3 := gnssBlockWrite (writeSummary 2 s.power.target s2)
    let timing := ((List.range 4).filter (fun b => wakeOn s (8 + b))).map fun b => (b, rd s (0x7001 + 64 * b))
    .next { s3 with
      clk := { s3.clk with beats := false }
      line := { s3.line with hrdy := false, due := [] }
      twin := { s3.twin with permit := false, withdrawn := true }
      power := { s3.power with mode := .entry, entryEdge := some e, entryCommit := none, wakeTiming := timing } }

/-- Switch yards off: they read YARD_STATE 0b11 (01 R41). -/
def powerOff (ys : List Nat) (s : State) : State := ys.foldl (fun s y => wrFld s (0x1000 * y + 0xFF2) 1 0 3) s

/-- Power yards up that are off. -/
def powerOn (ys : List Nat) (s : State) : State :=
  ys.foldl (fun s y => if yardState s y = 3 then wrFld s (0x1000 * y + 0xFF2) 1 0 0 else s) s

/-- The fast clocks stop at cycle 16 000 000 of the entry sequence (16 R475, R476): DOZE or WATCH begins, with the yards
PD2 to PD7 off and every field output de-energised (R472). Of the baseband only the GNSS block is left (R491). -/
def execSleepEntryDone (s : State) : Out :=
  match s.power.entryEdge with
  | none => .next s
  | some e =>
    let s1 := powerOff [2, 3, 4, 5, 6, 7] (advance (e + 16000000) s)
    .next { s1 with
      clk := { s1.clk with core := false, ticks := false }
      field := deEnergise s1.field
      gnss := gnssAfterRestart s1.gnss
      power := { s1.power with mode := if s1.power.target = 2 then .watch else .doze, entryEdge := none } }

/-- An enabled wake source meets its condition (16 R476, R477): latched from the commit of POWER_STATE_SET until the sleep
state is reached, and a wake in DOZE, WATCH or a watch window. sources: the sources of this wake edge, as WAKE_CTRL
bits 5:0. -/
def execWakeEvent (c : Nat) (sources : Nat) (s : State) : Out :=
  let s := advance c s
  let m := (sources &&& fld s 0x1502 5 0) ||| s.power.latched
  if m = 0 then .next s
  else if asleep s then .next (wake m s)
  else if s.power.entryCommit.isSome || s.power.entryEdge.isSome then
    .next { s with power := { s.power with latched := m } }
  else .next s

/-- A dominant edge on a wake bus in DOZE, or between the windows of WATCH, starts a wake check of 100 ms (16 R478, R477 and
the worked example of 16): the fast clocks start and PD7 powers up. -/
def execCanWakeCheck (c : Nat) (bus : Fin 4) (s : State) : Out :=
  if (s.power.mode ≠ .doze ∧ s.power.mode ≠ .watch) ∨ !wakeOn s 1 ∨ !wakeOn s (8 + bus.val) ∨ s.power.checkFrom.isSome then .next s else
  let s1 := advance c { s with clk := { s.clk with core := true } }
  .next (powerOn [7] { s1 with power := { s1.power with checkFrom := some s1.clk.cycle } })

/-- A wake check without a match returns to the sleep state it was made in (16 R478). -/
def execWakeCheckTimeout (c : Nat) (s : State) : Out :=
  match s.power.checkFrom with
  | none => .next s
  | some f =>
    let s := advance c s
    if (s.power.mode ≠ .doze ∧ s.power.mode ≠ .watch) ∨ s.clk.cycle < f + 10000000 then .next s else
    let s1 := sticky (bump (powerOff [7] s) 0x150C 15 0 1) 0x150A 4
    .next { s1 with clk := { s1.clk with core := false }, power := { s1.power with checkFrom := none } }

/-- A watch window opens (16 R479): PD4 and PD7 are powered and tested, and GNSS starts at cycle 20 000 000. -/
def execWatchWindowOpen (c : Nat) (s : State) : Out :=
  if s.power.mode ≠ .watch then .next s else
  let s1 := advance c { s with clk := { s.clk with core := true } }
  let s2 := powerOn [4, 7] { s1 with power := { s1.power with mode := .window, checkFrom := none, windowFrom := some s1.clk.cycle } }
  .next (gnssStart (s1.clk.cycle + 20000000) s2)

/-- The watch window ends (16 R479), or POWER_STATE_SET TARGET 1 ended it (R474): the GNSS block is written, PD4 and PD7
are switched off and the fast clocks stop. Of the baseband only that block is left (16 R491). -/
def execWatchWindowClose (c : Nat) (s : State) : Out :=
  if s.power.mode ≠ .window then .next s else
  let s1 := powerOff [4, 7] (gnssBlockWrite (advance c s))
  .next { s1 with
    clk := { s1.clk with core := false }
    gnss := gnssAfterRestart s1.gnss
    power := { s1.power with mode := if s1.power.target = 1 then .doze else .watch, windowFrom := none } }

/-- The PLL lock test at slow period 72 (16 R473): with lock the core clock is released, without it the start is repeated
1 s later and the failure counted. -/
def execClockStart (lock : Bool) (s : State) : Out :=
  if s.power.startAt.isNone ∨ s.clk.core then .next s
  else if lock then .next { s with clk := { s.clk with core := true }, power := { s.power with retryAt := none } }
  else
    let s1 := bump s 0x0003 15 8 1
    .next { s1 with power := { s1.power with retryAt := some 32768 } }

/-- The clock start is repeated 32 768 slow-clock periods after the failed lock (16 R473); the RTC has counted that
second. -/
def execClockStartRetry (s : State) : Out :=
  match s.power.retryAt with
  | none => .next s
  | some n => .next { s with power := { s.power with retryAt := none, rtc := s.power.rtc + n } }

/-- ALARM, 48 bits (16 R495). -/
def alarm (s : State) : Nat := (rd s 0x0004).toNat + 2 ^ 32 * fld s 0x0005 15 0

/-- The RTC reaches ALARM (16 R477, R491): RTC_ALARM in RUN, a wake in DOZE and WATCH with its bit set, and ALARM becomes
0. While the core clock is stopped the RTC has run to the alarm. -/
def execRtcAlarm (c : Nat) (s : State) : Out :=
  let s := advance c s
  if alarm s = 0 ∨ !s.power.rtcValid then .next s else
  let s1 := if s.clk.core then s else { s with power := { s.power with rtc := max s.power.rtc (32768 * alarm s) } }
  if s1.power.rtc / 32768 < alarm s then .next s1 else
  let s2 := wr (wr s1 0x0004 0) 0x0005 0
  if asleep s && wakeOn s 4 then .next (wake (0x10 ||| s.power.latched) s2)
  else
    let s3 := if s.power.mode == .run then raise 12 0 s2 else s2
    if (s.power.entryCommit.isSome || s.power.entryEdge.isSome) && wakeOn s 4 then
      .next { s3 with power := { s3.power with latched := s3.power.latched ||| 0x10 } }
    else .next s3

/-- The backup cell is measured while an input is valid (16 R492): LOW below 2 700 mV, ABSENT below 1 000 mV. -/
def execBackupCellMeasure (mV : Nat) (s : State) : Out :=
  if !s.power.mains && !s.power.dc then .next s else
  let cls := if mV < 1000 then 2 else if mV < 2700 then 1 else 0
  let s1 := wrFlag (wrFlag (wrFld s 0x0006 15 0 mV) 0x0006 16 (cls == 1)) 0x0006 17 (cls == 2)
  let s2 := { s1 with power := { s1.power with cellState := cls } }
  if cls = s.power.cellState then .next s2
  else if cls = 0 then .next (raise 13 0x8000 s2)
  else .next (raise 13 (b2n (cls == 2)) (sticky s2 0x150A 3))

/-- Everything retained in PD0 is lost (16 R489, R491): RTC_VALID, the state summary, the GNSS block, the history. -/
def loseRetention (s : State) : State :=
  { s with
    power := { s.power with rtcValid := false, summary := none }
    gnss := { s.gnss with block := none }
    ev := { s.ev with hist := Vector.replicate 64 none, nextSeq := 0 } }

/-- The backup cell is removed while both inputs are invalid (18 R534, 16 R491): PD0 loses power. -/
def execBackupCellRemoved (s : State) : Out :=
  if s.power.mains || s.power.dc then .next s else
  let s1 := loseRetention s
  let s2 := [0x0000, 0x0001, 0x0002, 0x0003, 0x0004, 0x0005, 0x0006].foldl (fun s i => wr s i 0) s1
  .next (wrFld { s2 with power := { s2.power with rtc := 0, rtcFrac := 0 } } 0x150B 15 0 0)

end Sys2Proof.Machine
end

