-- ==== Sys2Proof/Machine/Can.lean ====
section
/-! DEFINITION. The CAN controllers (13 R379-R406): timing limits and presets, transmit queue, thruster frame and heartbeat, error
confinement, ALONE, clashes, reception and the CAN commands. -/
namespace Sys2Proof.Machine

/-- Identifier of a parameter of controller b (13 R405). -/
def canId (b off : Nat) : Nat := 0x7000 + 64 * b + off

/-- Controller b. -/
def canAt (s : State) (b : Nat) : CanCtl := vgetD s.can b CanCtl.idle

/-- Change controller b. -/
def updCan (b : Nat) (f : CanCtl → CanCtl) (s : State) : State := { s with can := vupdN s.can b f }

/-- CRC-16 with polynomial 0x1021 and initial value 0xFFFF (13 R397), as a number. -/
def frameCrc (l : List Byte) : Nat := crc16 l

/-- Is the controller listen-only: by setting, in a bring-up, or in a sleep state's watch (13 R393, 16 R478, R482)? -/
def listenOnly (s : State) (b : Nat) : Bool := (canAt s b).boot || sflag s (canId b 0) 1 || s.power.mode != .run

/-- Error-passive (13 R388). -/
def passive (u : CanCtl) : Bool := decide (127 < u.tec) || decide (127 < u.rec_)

/-- ERR_STATE (13 R404). -/
def errState (s : State) (b : Nat) : Nat :=
  let u := canAt s b
  if !u.on || blockDown s 7 b then 3 else if u.busOff then 2 else b2n (passive u)

/-! ### Bit timing -/

/-- The words of the nominal presets (13 R382). -/
def nominalPreset (n : Nat) : Word :=
  let w (brp t1 t2 j : Nat) : Word := BitVec.ofNat 32 (brp + 256 * t1 + 65536 * t2 + 2 ^ 24 * j)
  match n with
  | 0 => w 4 159 40 40
  | 1 => w 2 159 40 40
  | 2 => w 1 159 40 40
  | _ => w 1 79 20 20

/-- The data presets (13 R382): CAN_DBT, TDCO and TDC_EN. -/
def dataPreset (n : Nat) : Word × Nat × Bool :=
  let w (brp t1 t2 j : Nat) : Word := BitVec.ofNat 32 (brp + 256 * t1 + 65536 * t2 + 2 ^ 24 * j)
  match n with
  | 0 => (w 4 18 6 6, 76, false)
  | 1 => (w 2 18 6 6, 38, true)
  | 2 => (w 1 18 6 6, 19, true)
  | _ => (w 1 14 5 5, 15, true)

/-- Core cycles of a nominal bit. -/
def nominalBit (w : Word) : Nat := bitsOf w 5 0 * (1 + bitsOf w 15 8 + bitsOf w 22 16)

/-- Core cycles of a data bit. -/
def dataBit (w : Word) : Nat := bitsOf w 3 0 * (1 + bitsOf w 12 8 + bitsOf w 19 16)

/-- Is a nominal timing within the limits of 13 R380? -/
def nominalOk (w : Word) : Bool :=
  let brp := bitsOf w 5 0
  let t1 := bitsOf w 15 8
  let t2 := bitsOf w 22 16
  let j := bitsOf w 30 24
  decide (1 ≤ brp) && decide (brp ≤ 32) && decide (2 ≤ t1) && decide (1 ≤ t2) && decide (1 ≤ j) && decide (j ≤ min t1 t2) &&
    decide (100 ≤ nominalBit w) && decide (nominalBit w ≤ 800)

/-- Is a data timing within the limits of 13 R380, beside a nominal one? -/
def dataOk (nom w : Word) : Bool :=
  let brp := bitsOf w 3 0
  let t1 := bitsOf w 12 8
  let t2 := bitsOf w 19 16
  let j := bitsOf w 27 24
  decide (1 ≤ brp) && decide (brp ≤ 8) && decide (1 ≤ t1) && decide (1 ≤ t2) && decide (1 ≤ j) && decide (j ≤ min t1 t2) &&
    decide (20 ≤ dataBit w) && decide (dataBit w ≤ nominalBit nom)

/-- A frame identifier base: bit 0 clear and well formed (13 R401). -/
def frameBaseOk (w : Word) : Bool := canIdOk w && !bitOf w 0

/-- Is the word of a CAN parameter in range (13 R380, R401, R405)? -/
def canParamOk (r : Regs) (id : Nat) : Bool :=
  if id < 0x7000 ∨ 0x7100 ≤ id then true else
  let w := regGet r id
  let b := (id - 0x7000) / 64
  match id % 64 with
  | 0 => bitOf w 2 || (bitsOf w 13 8 == 0 && !bitOf w 14)
  | 1 => nominalOk w && decide (dataBit (regGet r (canId b 2)) ≤ nominalBit w)
  | 2 => dataOk (regGet r (canId b 1)) w
  | 4 => frameBaseOk w
  | 5 => frameBaseOk w
  | _ => true

/-- Does a write of a CAN parameter meet an enabled controller that it may not change (13 R383)? -/
def canParamBusy (s : State) (r : Regs) (id : Nat) : Bool :=
  if id < 0x7000 ∨ 0x7100 ≤ id then false else
  let b := (id - 0x7000) / 64
  let old := rd s id
  let new := regGet r id
  let held := (canAt s b).on || flag s (canId b 0) 0
  held && (match id % 64 with
    | 0 => (old &&& 0x1E#32) != (new &&& 0x1E#32)
    | 1 => old != new
    | 2 => old != new
    | _ => false)

/-! ### The clash table -/

/-- Is an identifier disabled in a table (13 R391)? -/
def idDisabled (u : CanCtl) (id : Nat) (ext : Bool) : Bool :=
  u.table.toList.any fun e => match e with
    | some x => x.id == id && x.ext == ext && x.off
    | none => false

/-- The place a clash takes in the table (13 R391): the identifier's own, a free one, or the not disabled entry with the oldest latest
clash. -/
def clashPlace (now : Nat) (t : List (Option ClashEntry)) (id : Nat) (ext : Bool) : Option Nat :=
  let own (e : Option ClashEntry) : Bool := match e with
    | some x => x.id == id && x.ext == ext
    | none => false
  let age (e : Option ClashEntry) : Option Nat := match e with
    | some x => if x.off then none else some ((now + 2 ^ 32 - x.beats.headD now) % 2 ^ 32)
    | none => none
  match t.findIdx? own with
  | some i => some i
  | none => match t.findIdx? (·.isNone) with
    | some i => some i
    | none => (List.range t.length).foldl (fun (a : Option Nat) i =>
        match age (t.getD i none) with
        | none => a
        | some x => match a with
          | none => some i
          | some j => match age (t.getD j none) with
            | some y => if y < x then some i else some j
            | none => some i) none

/-- CLASH_ENTRY_e (13 R405). -/
def clashWord (u : CanCtl) (e : Nat) : Word :=
  match u.table.toList.getD e none with
  | some x => BitVec.ofNat 32 (x.id + 2 ^ 29 + 2 ^ 30 * b2n x.off + 2 ^ 31 * b2n x.ext)
  | none => 0

/-- CLASH_BEATS_e. -/
def clashBeat (u : CanCtl) (e : Nat) : Word :=
  match u.table.toList.getD e none with
  | some x => BitVec.ofNat 32 (x.beats.headD 0)
  | none => 0

/-- Clear the table entry of an identifier (13 R402). -/
def clearClash (b : Nat) (id : Nat) (ext : Bool) (s : State) : State :=
  updCan b (fun u => { u with table := u.table.map fun e => match e with
    | some x => if x.id = id ∧ x.ext = ext ∧ x.off then none else e
    | none => none }) s

/-! ### Transmission -/

/-- Count a dropped frame (13 R385, R389, R391). -/
def countDrop (b n : Nat) (s : State) : State := bump s (canId b 0x24) 15 0 n

/-- Take the offered frame off the controller; a controller that was only finishing it leaves the bus (13 R383). -/
def takeOffered (u : CanCtl) : CanCtl :=
  let q := match u.wire with
    | some _ => u.queue
    | none => match lowestTx u.queue with
      | some e => u.queue.erase e
      | none => u.queue
  { u with wire := none, queue := q, on := u.on && !u.leaving, leaving := false }

/-- Raise what a change of the error counts brings (13 R388). -/
def errChange (b : Nat) (was : CanCtl) (s : State) : State :=
  let u := canAt s b
  if u.busOff then s
  else if 255 < u.tec then
    raise 113 b (bump (sticky (updCan b (fun u => { u with busOff := true, integ := true }) s) (canId b 9) 1)
      (canId b 0x25) 15 0 1)
  else if passive u && !passive was then raise 112 b (sticky s (canId b 9) 0)
  else raiseIf (passive was && !passive u) 112 (b + 0x8000) s

/-- May the controller be sending (13 R383, R388, R393)? -/
def canSends (s : State) (b : Fin 4) : Bool :=
  canHears s b && s.clk.core && !(canAt s b.val).boot && !sflag s (canId b.val 0) 1 && (offered (canAt s b.val)).isSome

/-- An attempt has failed: one attempt is all that ALONE (13 R389) or the frame's own flag (R403) allows. -/
def attemptFailed (b : Nat) (e : TxEntry) (s : State) : State :=
  if (canAt s b).alone then countDrop b 1 (updCan b takeOffered s)
  else if e.once then updCan b takeOffered s else s

/-- The controller sends the frame (13 R387): the ESI bit of an FD frame is recessive while the controller is error-passive. -/
def sendEsi (e : TxEntry) (u : CanCtl) : CanCtl := { u with esi := if e.fd then passive u else u.esi }

/-- The controller has found an error in the frame it was sending (13 R388): counted, and the attempt has failed. -/
def sendError (b : Nat) (e : TxEntry) (code : Nat) (s : State) : State :=
  let u := canAt s b
  errChange b u (attemptFailed b e (updCan b (fun u => { u with tec := u.tec + 8, lastErr := code })
    (bump s (canId b 0x22) 15 0 1)))

/-- A frame the controller sent is acknowledged (13 R384, R389, 15 R453): counts, ALONE ends, an acknowledged heartbeat confirms its lease from
the next beat edge on, and the next entry is offered. An FD frame whose TDCV + TDCO exceeds 255 cycles is sent with a bit error at its ESI
instead (R381). -/
def execCanTxComplete (c : Nat) (bus : Fin 4) (tdcv : Nat) (s : State) : Out :=
  let s := operationDone 7 bus.val (advance c s)
  let b := bus.val
  let u := canAt s b
  match offered u with
  | none => .next s
  | some e =>
    if !canSends s bus then .next s else
    let tdc := e.fd && sflag s (canId b 0) 4
    let sent := updCan b (fun u => sendEsi e { u with tdcv := if tdc then tdcv else u.tdcv }) s
    if tdc && decide (255 < tdcv + sfld s (canId b 3) 6 0) then .next (sendError b e (if passive u then 4 else 5) sent) else
    let s1 := updCan b (fun u => { takeOffered u with tec := u.tec - 1, noAck := 0, alone := false })
      (bump sent (canId b 0x20) 31 0 1)
    let s2 := match e.kind, e.lease with
      | .heartbeat, some l => updTwin (fun t =>
          if t.holds then { t with lcNext := t.lcNext ++ [(beatAdd s.clk.beat 1, l)] } else t) s1
      | _, _ => s1
    .next (errChange b u (raiseIf u.alone 114 (b + 0x8000) s2))

/-- A transmission ends in an acknowledgment error (13 R388, R389). -/
def execCanAckError (c : Nat) (bus : Fin 4) (s : State) : Out :=
  let s := advance c s
  let b := bus.val
  let u := canAt s b
  match offered u with
  | none => .next s
  | some e =>
    if !canSends s bus then .next s else
    let n := min 16 (u.noAck + 1)
    let s1 := updCan b (fun x => { sendEsi e x with
      tec := if passive u then u.tec else u.tec + 8, noAck := n, lastErr := 3, alone := u.alone || n == 16 })
      (bump s (canId b 0x22) 15 0 1)
    let s2 := if n = 16 ∧ !u.alone then sticky s1 (canId b 9) 2 else s1
    .next (errChange b u (attemptFailed b e (raiseIf (n == 16 && !u.alone) 114 b s2)))

/-- Enter a clash in the table (13 R390, R391): the event's table bits, and whether the identifier is disabled by it. -/
def enterClash (b : Nat) (e : TxEntry) (s : State) : State × Nat × Bool :=
  let u := canAt s b
  let k := s.clk.beat
  match clashPlace k u.table.toList e.id e.ext with
  | none => (s, 0x40, false)
  | some i =>
    let old : List Nat := match u.table.toList.getD i none with
      | some x => if x.id = e.id ∧ x.ext = e.ext then x.beats else []
      | none => []
    let near := (old.filter fun x => decide ((k + 2 ^ 32 - x) % 2 ^ 32 ≤ 99)).length
    let off := decide (2 ≤ near) || idDisabled u e.id e.ext
    let x : ClashEntry := ⟨e.id, e.ext, off, (k :: old).take 3⟩
    (updCan b (fun u => { u with table := vupdN u.table i fun _ => some x }) s, 4 * i + 32 * b2n off, off)

/-- A clash (13 R390, R391): the error is counted, the identifier entered, and disabled at the third clash within 100 beats. -/
def execCanClash (c : Nat) (bus : Fin 4) (s : State) : Out :=
  let s := advance c s
  let b := bus.val
  let u := canAt s b
  match offered u with
  | none => .next s
  | some e =>
    if !canSends s bus then .next s else
    let s1 := updCan b (fun x => { sendEsi e x with tec := u.tec + 8, lastErr := 4 })
      (bump (bump (sticky s (canId b 9) 3) (canId b 0x22) 15 0 1) (canId b 0x23) 15 0 1)
    let r := enterClash b e s1
    let s2 := if r.2.2 then
        let rest := (canAt r.1 b).queue.filter fun x => x.id == e.id && x.ext == e.ext
        let gone := if u.wire.isSome then rest.length + 1 else rest.length
        countDrop b gone (sticky (updCan b (fun u => { takeOffered u with
          queue := u.queue.filter fun x => !(x.id == e.id && x.ext == e.ext) }) r.1) (canId b 9) 4)
      else attemptFailed b e r.1
    .next (errChange b u (raise 115 (b + r.2.1) s2))

/-- A bus error updates the error counts (13 R388, R393, ISO 11898-1). -/
def execCanBusError (c : Nat) (bus : Fin 4) (e : CanError) (s : State) : Out :=
  let s := advance c s
  let b := bus.val
  let u := canAt s b
  if !canHears s bus then .next s else
  let s1 := updCan b (fun u => { u with lastErr := e.code.val }) (bump s (canId b 0x22) 15 0 1)
  if listenOnly s b then .next s1
  else if e.sent then
    match offered u with
    | none => .next s1
    | some x => .next (sendError b x e.code.val (updCan b (fun u => sendEsi x { u with
        tdcv := match e.tdcv with
          | some d => d
          | none => u.tdcv }) s))
  else .next (errChange b u (updCan b (fun u => { u with rec_ := min 255 (u.rec_ + if e.dominant then 8 else 1) }) s1))

/-- A bus-off controller has seen 128 occurrences of 11 recessive bits (13 R388). -/
def execCanBusOffRecovery (c : Nat) (bus : Fin 4) (s : State) : Out :=
  let u := vget s.can bus
  if !u.busOff || blockDown s 7 bus.val then .next s else
  .next (raise 113 (bus.val + 0x8000) (updCan bus.val (fun u => { u with busOff := false, integ := false, tec := 0, rec_ := 0 })
    (advance c s)))

/-- An enable or disable takes effect at the beat edge, and the listen-only operation of a bring-up ends at the first RUN beat edge (13 R383, 16
R482). onWire: a frame of the module is in transmission, which it completes. -/
def execCanEnableEffect (bus : Fin 4) (onWire : Bool) (s : State) : Out :=
  if !s.clk.beats then .next s else
  let s := advance s.clk.beatBase s
  let b := bus.val
  let u := canAt s b
  if sflag s (canId b 0) 0 then
    if (u.on && !u.boot && !u.leaving) || blockDown s 7 b then .next s
    else if u.on && !u.boot then .next (updCan b (fun u => { u with leaving := false }) s)
    else .next (updCan b (fun u => { u with
      on := true, boot := false, leaving := false, integ := true, busOff := false, alone := false, noAck := 0, tec := 0, rec_ := 0
      wire := none, queue := [] }) s)
  else if !u.on then .next s
  else
    let w := if onWire then offered u else none
    .next (updCan b (fun u => { u with on := w.isSome, leaving := w.isSome, boot := false, integ := false, wire := w, queue := [] }) s)

/-- An enabled controller has seen 11 recessive bits and joins its bus (13 R383). -/
def execCanIntegrationDone (c : Nat) (bus : Fin 4) (s : State) : Out :=
  let u := vget s.can bus
  if !u.integ || u.busOff then .next s else .next (updCan bus.val (fun u => { u with integ := false }) (advance c s))

/-- The controllers start, in listen-only operation, as configured (16 R482). -/
def canBoot (s : State) : State :=
  let one (b : Fin 4) : CanCtl := { vget s.can b with on := flag s (canId b.val 0) 0, boot := true }
  { s with can := Vector.ofFn one }

/-- A valid CAN frame is received (13 R387, R392): counts and remote frames. What matches is passed on: the reference, power and heartbeat
frames have rows of their own, which follow this one. A receive error count above 127 goes to a value from 119 to 127 that ISO 11898-1 leaves
open. -/
def execCanFrameReceived (c : Nat) (bus : Fin 4) (f : CanFrame) (s : State) : Out :=
  let s := operationDone 7 bus.val (advance c s)
  let b := bus.val
  let u := canAt s b
  if !canHears s bus then .next s else
  let s1 := bump s (canId b 0x21) 31 0 1
  let fr := takeFree s1
  let s2 := if listenOnly s b then s1
    else if 127 < u.rec_ then updCan b (fun u => { u with rec_ := 119 + Config.freeNat 13 fr.1 % 9 }) fr.2
    else updCan b (fun u => { u with rec_ := u.rec_ - 1 }) s1
  let s3 := errChange b u s2
  .next (if f.remote then sticky (updCan b (fun u => { u with remote := satAdd 16 u.remote 1 }) s3) (canId b 9) 7 else s3)

/-! ### Frames of the beat -/

/-- The axis setpoint that the thruster frame carries (13 R395): that of the released result where the axis's variable is live; a live variable
without a held value carries thrust 0, or θ0. -/
def frameSetpoint (s : State) (a : Nat) : Option F32 :=
  match s.alc.rel.live.find? (·.2 == a) with
  | none => none
  | some v => match s.alc.rel.sp.getD a none with
    | some x => some (convertSp s a x)
    | none => if v.1 % 3 = 1 ∧ (axisCfg s.snap a).convert = 2 then
        some (thetaOf s (thrCfg s.snap (v.1 / 3)) (v.1 / 3)) else some 0

/-- SP_i of an axis (13 R395), as 16 bits. -/
def setpointBits (s : State) (a : Nat) : Option Nat :=
  match frameSetpoint s a with
  | none => none
  | some x =>
    let n := f32ToInt (f32Mul x (f32OfInt 10000))
    some (if (axisCfg s.snap a).convert = 2 then (n % 62832).toNat else twosOf 16 (clampI (-10000) 10000 n))

/-- The thruster frame of group g for beat k (13 R394); settings are those of the beat's snapshot. -/
def thrusterFrame (k g : Nat) (s : State) : List Byte :=
  let sp := (List.range 8).map fun i => setpointBits s (8 * g + i)
  let f := s.alc.rel.flags
  let body := leBytes 1 1 ++ leBytes 1 (unitNumber s) ++ leBytes 2 k ++ leBytes 4 k ++ leBytes 1 g ++
    leBytes 1 (s.ctl.mode + 8 * (f % 2) + 16 * (f / 2 % 2) + 32 * (f / 4 % 2)) ++ leBytes 1 (maskOf (sp.map (·.isSome))) ++
    zeroBytes 1 ++ (sp.flatMap fun x => leBytes 2 (match x with
      | some v => v
      | none => 0)) ++ zeroBytes 2
  body ++ leBytes 2 (frameCrc body)

/-- LEASE of the heartbeat of beat k (13 R399, 15 R452, R456). -/
def heartbeatLease (k : Nat) (s : State) : Option Nat := if s.twin.heldBeat then some (leaseEnd k 3) else none

/-- The halter heartbeat of beat k (13 R399). -/
def heartbeatFrame (k : Nat) (s : State) : List Byte :=
  let body := leBytes 1 1 ++ leBytes 1 (unitNumber s + 2 * b2n s.twin.heldBeat + 4 * b2n (linkState s != 2) +
      8 * b2n s.twin.lanes + 16 * b2n s.twin.units) ++ leBytes 2 k ++ leBytes 4 k ++
    leBytes 4 (match heartbeatLease k s with
      | some l => l
      | none => 0xFFFFFFFF) ++ leBytes 1 (s.ctl.mode + 8 * b2n s.ctl.degr) ++ zeroBytes 1
  body ++ leBytes 2 (frameCrc body)

/-- The release register of the thruster frame of group g: word g of memory 0 of PD7 (DESIGN CHOICE, log 31). -/
def frameStall (g : Nat) : Nat := memoryStall 7 0 g

/-- Is the thruster frame of a group not built for poison (01 R25)? -/
def framePoisoned (s : State) (g : Nat) : Bool := s.poison.contains (frameStall g)

/-- The frames of beat k on controller b (13 R385, R396, R399); old: the beat's setting snapshot. -/
def beatFrames (old : Regs) (k : Nat) (released : Bool) (b : Nat) (s : State) : List TxEntry :=
  let t : State := { s with snap := old }
  let ctrl := regGet old (canId b 0)
  let brs := bitOf ctrl 3
  let entry (kind : TxKind) (base : Word) (n : Nat) (d : List Byte) (l : Option Nat) : TxEntry :=
    ⟨kind, (bitsOf base 28 0 + n) % 2 ^ 29, bitOf base 31, true, brs, false, d, l⟩
  (if bitOf ctrl 14 then
    [entry .heartbeat (regGet old (canId b 5)) (unitNumber s) (heartbeatFrame k s) (heartbeatLease k s)] else []) ++
  (if released then ((List.range 6).filter fun g => bitOf ctrl (8 + g) && !framePoisoned s g).map fun g =>
    entry .thruster (regGet old (canId b 4)) (2 * g + unitNumber s) (thrusterFrame k g t) none else [])

/-- Place one frame (13 R385, R391): a disabled identifier's is dropped; a pending entry with the same identifier is replaced. -/
def placeFrame (b : Nat) (s : State) (e : TxEntry) : State :=
  let u := canAt s b
  if idDisabled u e.id e.ext then countDrop b 1 s else
  let same (x : TxEntry) : Bool := x.id == e.id && x.ext == e.ext
  let s1 := updCan b (fun u => { u with queue := u.queue.filter (fun x => !same x) ++ [e] }) s
  if u.queue.any same then countDrop b 1 (sticky s1 (canId b 9) 6) else s1

/-- The heartbeat and thruster frames of beat k are placed on cycle 2 400 after beat edge k+1 (13 R385, R386, R393). wire: the buses on which a
frame of the module is on the wire then. -/
def placeBeat (old : Regs) (k : Nat) (released : Bool) (wire : BitVec 4) (s : State) : State :=
  if failSilent s || s.power.mode != .run then s else
  (List.range 4).foldl (fun s b =>
    let u := canAt s b
    if !u.on || u.leaving || u.boot || blockDown s 7 b || sflag s (canId b 0) 1 then s else
    let s1 := updCan b (fun u => match wire.getLsbD b, u.wire, lowestTx u.queue with
      | true, none, some e => { u with wire := some e, queue := u.queue.erase e }
      | _, _, _ => u) s
    (beatFrames old k released b s).foldl (placeFrame b) s1) s

/-! ### Commands -/

/-- The identifier ranges of a controller do not overlap each other or the other reserved ones; the byte at fault otherwise (13 R401, R539). -/
def canOverlap (r : Regs) (b : Nat) : Option Nat :=
  let thr := (List.range 12).map fun i => regGet r (canId b 4) + BitVec.ofNat 32 i
  let hb := (List.range 2).map fun i => regGet r (canId b 5) + BitVec.ofNat 32 i
  let others := (reservedIds r b).drop 14
  if thr.any (fun x => hb.contains x || others.contains x) then some 4
  else if hb.any others.contains then some 8 else none

/-- The register file as CAN_CONFIG would leave it (13 R401). -/
def canConfigRegs (expert : Bool) (r : Regs) (p : List Byte) : Regs :=
  let b := byteAt p 0
  let c := byteAt p 1
  let w0 := regGet r (canId b 0)
  let dp := dataPreset (byteAt p 13)
  let w1 := putBits (putBits w0 3 0 (c % 16)) 5 5 (c / 16 % 2)
  let w2 := putBits (putBits w1 13 8 (byteAt p 2)) 14 14 (byteAt p 3)
  let w3 := if expert then w2 else putBit w2 4 dp.2.2
  let put (r : Regs) (x : Nat × Word) : Regs := regSet r (canId b x.1) x.2
  [(0, w3), (4, wordAt p 4), (5, wordAt p 8),
   (1, if expert then wordAt p 16 else nominalPreset (byteAt p 12)),
   (2, if expert then wordAt p 20 else dp.1),
   (3, if expert then wordAt p 24 else BitVec.ofNat 32 dp.2.1)].foldl put r

/-- CAN_CONFIG in its two forms (13 R383, R401). -/
def canConfig (expert : Bool) (opc : Nat) : OpSpec where
  code := opc
  check _ p s :=
    let b := byteAt p 0
    let n := canConfigRegs expert s.regs p
    let fd := byteAt p 1 / 4 % 2 == 1
    match firstBad ([(decide (b ≤ 3), 0), (decide (byteAt p 1 < 32), 1),
        (decide (byteAt p 2 < 64) && (fd || byteAt p 2 == 0), 2), (decide (byteAt p 3 ≤ 1) && (fd || byteAt p 3 == 0), 3),
        (frameBaseOk (wordAt p 4) && canOverlap n b != some 4, 4), (frameBaseOk (wordAt p 8) && canOverlap n b != some 8, 8),
        (decide (byteAt p 12 ≤ if expert then 0 else 3), 12),
        (if expert then byteAt p 13 == 0 else decide (byteAt p 13 ≤ 3) &&
          decide (dataBit (dataPreset (byteAt p 13)).1 ≤ nominalBit (nominalPreset (byteAt p 12))), 13),
        (zerosAt p 14 2, 14)] ++
        if expert then [(fitsMap (canId b 1) (wordAt p 16) && nominalOk (wordAt p 16), 16),
          (fitsMap (canId b 2) (wordAt p 20) && dataOk (wordAt p 16) (wordAt p 20), 20),
          (decide (leAt p 24 4 ≤ 127), 24), (zerosAt p 28 4, 28)] else []) with
    | some x => some x
    | none => none
  busy _ p s :=
    let n := canConfigRegs expert s.regs p
    (List.range 3).any fun i => canParamBusy s n (canId (byteAt p 0) i)
  halter _ _ := true
  internal p s := blockOut s 7 (byteAt p 0)
  targets p _ := (List.range 6).map (canId (byteAt p 0))
  commit _ p s := okResult { s with regs := canConfigRegs expert s.regs p }

/-- CAN_CONFIG, basic form. -/
def opCanConfigBasic : OpSpec := canConfig false 0x68

/-- CAN_CONFIG basic (13 R401). -/
def execCanConfigBasic (r : Req) (s : State) : Out := .next (serve opCanConfigBasic r s)

/-- CAN_CONFIG, expert form. -/
def opCanConfigExpert : OpSpec := canConfig true 0x69

/-- CAN_CONFIG expert (13 R401). -/
def execCanConfigExpert (r : Req) (s : State) : Out := .next (serve opCanConfigExpert r s)

/-- CAN_ID_ENABLE (13 R402). -/
def opCanIdEnable : OpSpec where
  code := 0x6A
  check _ p s :=
    let w := wordAt p 4
    let t := byteAt p 1
    firstBad [(decide (byteAt p 0 ≤ 3), 0), (decide (1 ≤ t) && decide (t ≤ 3), 1), (zerosAt p 2 2, 2),
      (bitsOf w 30 29 == 0 && (t % 2 == 0 || idDisabled (canAt s (byteAt p 0)) (bitsOf w 28 0) (bitOf w 31)), 4)]
  busy _ p s := byteAt p 1 / 2 == 1 && linkState s != 0
  halter _ _ := true
  internal p s := blockOut s 7 (byteAt p 0)
  targets p _ := [0x08007010 + byteAt p 0]
  commit _ p s :=
    let w := wordAt p 4
    let s1 := if byteAt p 1 % 2 = 1 then clearClash (byteAt p 0) (bitsOf w 28 0) (bitOf w 31) s else s
    okResult (if h : byteAt p 0 < 4 ∧ byteAt p 1 / 2 = 1 then { s1 with idReq := s1.idReq ++ [(⟨byteAt p 0, h.1⟩, w)] } else s1)

/-- CAN_ID_ENABLE. -/
def execCanIdEnable (r : Req) (s : State) : Out := .next (serve opCanIdEnable r s)

/-- Data bytes of a DLC (ISO 11898-1). -/
def dlcBytes (d : Nat) : Nat :=
  if d ≤ 8 then d else [12, 16, 20, 24, 32, 48, 64].getD (d - 9) 64

/-- The identifiers that the module sends on a controller, of either unit (13 R396, R399, R403). -/
def moduleIds (r : Regs) (b : Nat) : List Word := (reservedIds r b).take 14

/-- The CAN_SEND entries of a controller's transmit queue (13 R384); one whose frame is on the wire is still an entry (R385). -/
def sendEntries (u : CanCtl) : Nat := ((u.queue ++ u.wire.toList).filter (·.kind == .send)).length

/-- CAN_SEND (13 R403): queued on the commit cycle. -/
def opCanSend : OpSpec where
  code := 0x6F
  check _ p s :=
    let b := byteAt p 0
    let f := byteAt p 1
    let u := canAt s b
    let ext := f / 4 % 2 == 1
    let fd := f % 2 == 1
    let id := leAt p 4 4
    let word : Word := BitVec.ofNat 32 (id + 2 ^ 31 * b2n ext)
    let n := dlcBytes (byteAt p 2)
    firstBad [(decide (b ≤ 3) && u.on && !u.leaving && !blockDown s 7 b && !flag s (canId b 0) 1, 0),
      (decide (f < 16) && (f / 2 % 2 == 0 || fd) && (!fd || flag s (canId b 0) 2), 1),
      (decide (byteAt p 2 ≤ if fd then 15 else 8), 2), (zerosAt p 3 1, 3),
      (decide (id < if ext then 2 ^ 29 else 2 ^ 11) && !(moduleIds s.regs b).contains word && !idDisabled u id ext, 4),
      (zerosAt p (8 + n) (64 - n), 8 + n)]
  busy _ p s := decide (9 ≤ sendEntries (canAt s (byteAt p 0)))
  halter _ _ := true
  targets p _ := [0x08007000 + byteAt p 0]
  commit _ p s :=
    let f := byteAt p 1
    let e : TxEntry := ⟨.send, leAt p 4 4, f / 4 % 2 == 1, f % 2 == 1, f / 2 % 2 == 1, f / 8 % 2 == 1,
      (p.drop 8).take (dlcBytes (byteAt p 2)), none⟩
    okResult (updCan (byteAt p 0) (fun u => { u with queue := u.queue ++ [e] }) s)

/-- CAN_SEND. -/
def execCanSend (r : Req) (s : State) : Out := .next (serve opCanSend r s)

/-- REC as it is read (13 R404). -/
def recShown (u : CanCtl) : Nat := min 128 u.rec_

/-- CAN_STATUS_READ (13 R404). -/
def opCanStatusRead : OpSpec where
  code := 0x6C
  check _ p _ := firstBad [(decide (byteAt p 0 ≤ 3), 0), (decide (byteAt p 1 ≤ 1), 1), (zerosAt p 2 2, 2)]
  internal _ s := yardFenced s 7
  targets p _ := if byteAt p 1 = 1 then (List.range 6).map fun i => canId (byteAt p 0) (0x20 + i) else []
  commit _ p s :=
    let b := byteAt p 0
    let u := canAt s b
    let n (o k : Nat) : List Byte := leBytes k (rd s (canId b o)).toNat
    let d := leBytes 1 (errState s b) ++
      leBytes 1 (b2n u.alone + 2 * b2n ((u.on && u.boot) || flag s (canId b 0) 1) + 4 * b2n (blockDown s 7 b) + 8 * b2n u.integ) ++
      leBytes 2 (min 65535 u.tec) ++ leBytes 1 (recShown u) ++ leBytes 1 u.lastErr ++ n 0x25 2 ++ n 0x20 4 ++ n 0x21 4 ++
      n 0x22 2 ++ n 0x23 2 ++ n 0x24 2 ++ leBytes 2 u.remote ++ leBytes 2 u.tdcv ++ zeroBytes 2
    let s1 := if byteAt p 1 = 1 then
        updCan b (fun u => { u with remote := 0 }) (wrAll s ((List.range 6).map fun i => (canId b (0x20 + i), 0)))
      else s
    okData s1 d

/-- CAN_STATUS_READ. -/
def execCanStatusRead (r : Req) (s : State) : Out := .next (serve opCanStatusRead r s)

/-- CAN_STATE (13 R405). -/
def canStateWord (s : State) (b : Nat) : Word :=
  let u := canAt s b
  BitVec.ofNat 32 (errState s b + 4 * b2n u.alone + 8 * b2n u.integ + 256 * recShown u + 65536 * min 511 u.tec)

end Sys2Proof.Machine
end

