-- ==== Sys2Proof/Machine/Tables.lean ====
section
/-! DEFINITION. The tables of configuration files (04 R132, R134): kinds 1 to 3 replace live tables, at a commit or at bring-up. -/
namespace Sys2Proof.Machine

/-- A file's last 4 bytes are the CRC-32 of those before (04 R132). -/
def fileCrcOk (f : List Byte) : Bool :=
  decide (5 ≤ f.length) && crc32 (f.take (f.length - 4)) == leAt f (f.length - 4) 4

/-- The state with the tables of a file of kind 1 to 3 committed, used from the next beat edge (04 R134, 09 R283, 10 R316, 12 R368);
none where the file is rejected. -/
def commitTables (kind : Nat) (f : List Byte) (s : State) : Option State :=
  match kind with
  | 1 => match fallbackTable f with
    | some t => some { s with alc := { s.alc with tableNew := some t } }
    | none => none
  | 2 => match compTables f with
    | some l => some (loadTabs l s)
    | none => none
  | 3 => match firLibrary f with
    | some l => if libraryCovers s l then some { s with filt := { s.filt with libNew := some l } } else none
    | none => none
  | _ => some s

/-- The identifiers that stand for the tables of a kind in a commit's target set (01 R42). -/
def tableTargets (kind : Nat) : List Nat :=
  match kind with
  | 1 => [0x08000001]
  | 2 => (List.range 48).map (0x08005000 + ·)
  | 3 => [0x08000003]
  | _ => [0x08000004]

/-- Waiting tables become live. -/
def settleTables (s : State) : State :=
  let t := match s.alc.tableNew with
    | some t => t
    | none => s.alc.table
  let l := match s.filt.libNew with
    | some l => l
    | none => s.filt.lib
  { s with
    alc := { s.alc with table := t, tableNew := none }
    filt := { s.filt with lib := l, libNew := none }
    servo := { s.servo with
      tables := s.servo.newTabs.foldl (fun t z => vupdN t z.1 fun _ => z.2) s.servo.tables, newTabs := [] } }

/-- The stored tables of kinds 1 to 3 are loaded at bring-up (16 R482). -/
def loadTables (s : State) : State :=
  let one (s : State) (k : Nat) : State :=
    let f := s.nv.files.toList.getD k []
    if f.isEmpty then s else match commitTables k f s with
      | some t => t
      | none => s
  settleTables ([1, 2, 3].foldl one s)

end Sys2Proof.Machine
end

