-- ==== Sys2Proof/Machine/Twin.lean ====
section
/-! DEFINITION. Twin operation (15): the lane compare, the messages of the Fjozia link, the comparison between units,
re-mirror, beat alignment (02 R66-R70), the halter with its leases and hand-over, and the twin opcodes. Adoption of a mirror and
forwarded commits stand in Forward.lean. -/
namespace Sys2Proof.Machine

/-! ### Lane compare -/

/-- The state as the frames of the running beat see it: the latest result in place of the released one (13 R394). -/
def ofBeat (s : State) : State := { s with alc := { s.alc with rel := s.alc.res } }

/-- Is the identifier a setting that the lanes read: one with a writable field between DP_MODE_STATE and the power fits (01 R46)? -/
def laneSetting (id : Nat) : Bool :=
  decide (0x2000 ≤ id) && decide (id < 0x2600) && (match paramRow id with
    | some r => r.fields.any fun f => f.acc == .rw || f.acc == .rwx
    | none => false)

/-- Is the lanes' result of the beat invalid for poison (01 R25, R29): a faulted stage, a poisoned setting of the snapshot, poison that the
solver consumed, or the stall of a thruster frame? -/
def lanePoison (s : State) : Bool :=
  !s.twin.laneValid || s.alc.res.poison || s.snapPoison.any laneSetting || (List.range 6).any (framePoisoned s)

/-- What the primary lane has frozen for the beat (15 R437). -/
def primaryResult (s : State) : LaneResult :=
  let r := s.alc.res
  let x := s.fus.out.x
  let sp := tab 48 (setpointBits (ofBeat s))
  { held := r.flags % 2 == 1, fb := r.flags / 2 % 2 == 1, entry := if r.flags / 2 % 2 = 1 then s.alc.entry else 0
    poison := lanePoison s
    mode := s.ctl.mode, valid := s.fus.out.valid, posSt := s.fus.out.posSt, hdgSt := s.fus.out.hdgSt
    live := maskOf (tab 48 fun i => r.live.any (·.1 == i)), sets := maskOf (sp.map (·.isSome))
    n := fAt x 0, e := fAt x 1, psi := fAt x 2, u := fAt x 3, v := fAt x 4, r := fAt x 5
    tauD := s.ctl.tauD, tauA := r.tauA, sp := sp }

/-- |a − b| ≤ t in binary32. -/
def within (t a b : F32) : Bool := f32Le (f32Abs (f32Sub a b)) t

/-- The tolerance of a force axis (15 R437 item 7). -/
def forceTol (s : State) (k : Nat) : F32 :=
  let m := srd s (0x2020 + k)
  if f32IsZero m then f32One else f32Mul (f32OfRatio (sfld s 0x3004 15 0) 10000) m

/-- Two frame integers of an axis agree (15 R437 items 8, 9): angles modulo 62 832 on the shorter side. -/
def frameAgree (angle : Bool) (t : Nat) (a b : Option Nat) : Bool :=
  match a, b with
  | none, none => true
  | some x, some y =>
    if angle then
      let d := (x + 62832 - y % 62832) % 62832
      decide (min d (62832 - d) ≤ t)
    else decide ((signedOf 16 x - signedOf 16 y).natAbs ≤ t)
  | _, _ => false

/-- The items of 15 R437 in order, with the tolerances of the setting snapshot. -/
def laneItems (s : State) (a b : LaneResult) : List Bool :=
  let tol (i d : Nat) : F32 := f32OfRatio (sfld s (0x3000 + i) 15 0) d
  let axes (angle : Bool) : Bool := (List.range 48).all fun i =>
    ((axisCfg s.snap i).convert == 2) != angle ||
      frameAgree angle (sfld s (if angle then 0x3006 else 0x3005) 15 0) (a.sp.getD i none) (b.sp.getD i none)
  [a.held == b.held && a.fb == b.fb && a.entry == b.entry && !a.poison && !b.poison,
   a.mode == b.mode && a.valid == b.valid && a.posSt == b.posSt && a.hdgSt == b.hdgSt,
   a.live == b.live && a.sets == b.sets,
   within (tol 0 1000) a.n b.n && within (tol 0 1000) a.e b.e,
   f32Le (f32Abs (wrapPi (f32Sub a.psi b.psi))) (tol 1 1000000),
   within (tol 2 1000) a.u b.u && within (tol 2 1000) a.v b.v,
   within (tol 3 1000000) a.r b.r,
   (List.range 3).all fun k => within (forceTol s k) (fAt a.tauD k) (fAt b.tauD k) &&
     within (forceTol s k) (fAt a.tauA k) (fAt b.tauA k),
   axes false, axes true]

/-- The first item that disagrees. -/
def laneDisagree (s : State) (check : LaneResult) : Option Nat :=
  (laneItems s (primaryResult s) check).findIdx? (fun g => !g)

/-- Cycle 656 000 (15 R438, R439): the release permit, or fail-silence. check: what the check lane has frozen. -/
def execLaneCompare (check : LaneResult) (s : State) : Out :=
  if !s.clk.beats || !s.clk.core || yardFenced s 2 || yardFenced s 3 then .next s else
  let s := stageDone 4 (advance (beatCycle s 656000) s)
  match laneDisagree s check with
  | none => .next (updTwin (fun t => { t with
      lanes := true, item := 0xFF, permit := t.cause == 0 && !t.withdrawn }) s)
  | some i => .next (enterFailSilent 1 (raise 118 i (sticky (updTwin (fun t => { t with
      lanes := false, item := i, permit := false }) s) 0x1404 0)))

/-! ### Fibre pairs -/

/-- A pair is lost (15 R441): loss of alignment, 16 consecutive invalid code groups, or 3 consecutive beats without a valid message. -/
def execFjPairLost (c : Nat) (pair : Fin 2) (why : PairLoss) (s : State) : Out :=
  let s := advance c s
  if !s.clk.core || yardFenced s 7 then .next s else
  match why with
  | .align => .next (losePair pair s)
  | .codes n =>
    let s1 := bump s (0x7402 + pair.val) 15 0 n
    .next (if 16 ≤ n then losePair pair s1 else s1)
  | .silent => .next (if 3 ≤ (vget s.twin.pairs pair).miss then losePair pair s else s)

/-- A lost pair is regained after 100 consecutive beats of valid messages (15 R441). -/
def execFjPairRegained (c : Nat) (pair : Fin 2) (s : State) : Out :=
  let x := vget s.twin.pairs pair
  if x.up || decide (x.good < 100) || yardFenced s 7 then .next s else
  .next (showLink (updPair pair (fun x => { x with up := true, miss := 0 }) (advance c s)))

/-- A beat of the pairs ends (15 R441): valid messages without the receiver's own number count towards regaining, silence towards
loss. Before the first RUN beat edge only regaining is counted. -/
def pairBeat (run : Bool) (s : State) : State :=
  updTwin (fun t => { t with pairs := t.pairs.map fun x =>
    { x with seen := false, own := false, good := if x.seen && !x.own then x.good + 1 else 0
             miss := if x.seen || !run then 0 else x.miss + 1 } }) s

/-! ### Beat alignment -/

/-- Wire time of a beat marker and the 3 cycles of its crossing. -/
def markerFixed : Nat := wireCycles Config.markerBytes + 3

/-- The present unit's own beat edge of a beat number near the running one. -/
def edgeOf (s : State) (k : Nat) : Int := (s.clk.beatBase : Int) + 1000000 * beatDiff k s.clk.beat

/-- The one-way delay from the two units' intervals of a beat (15 R441). -/
def oneWayOf (own partner : Int) : Nat := (floorDiv (own + partner) 2 - markerFixed).toNat

/-- The partner's beat marker crosses (02 R67, 15 R441): first valid copy of a beat. A unit in RUN that has had no partner leads. -/
def execBeatMarker (c : Nat) (pair : Fin 2) (m : BeatMarkerMsg) (s : State) : Out :=
  let s := advance c s
  if !linkUsable s then .next s else
  if !m.crcOk then .next (msgCrcFail s) else
  if m.unit % 2 = unitNumber s then .next (ownMessage pair s) else
  let s := goodMessage pair s
  if s.power.mode = .bringUp then
    .next { s with power := { s.power with runSeen := some (c - (s.twin.oneWay + markerFixed), m.beat, 0) } }
  else if !s.clk.beats then .next s
  else if s.twin.marker.any (fun x => x.1 == m.beat) then .next s
  else
    let own : Int := (c : Int) - edgeOf s m.beat
    let s1 := match s.twin.interval with
      | some (k, i) =>
        if beatAdd k 1 = m.beat then
          let d := oneWayOf i m.interval
          let s1 := wrFld (updTwin (fun t => { t with oneWay := d }) s) 0x7400 31 16 (min d 65535)
          if 500 < d then sticky s1 0x7401 3 else s1
        else s
      | none => s
    let s2 := updTwin (fun t => { t with interval := some (m.beat, own), marker := some (m.beat, c) }) s1
    .next (if fld s2 0x1102 1 0 = 0 then wrFld s2 0x1102 1 0 1 else s2)

/-- PLL_STEER after a skew (02 R67). -/
def steerOf (old : Int) (prev : Option Int) (k : Int) : Int :=
  clampI (-10000) 10000 (old - 1000 * (match prev with
    | some p => k - p
    | none => 0) - 125 * k)

/-- Cycle 100 000 of a follower's beat (02 R67-R70): the skew and the steering, or an absent marker. -/
def execSkewRegister (s : State) : Out :=
  if !s.clk.beats || !s.clk.core || fld s 0x1102 1 0 < 2 then .next s else
  let s := advance (beatCycle s 100000) s
  match s.twin.marker.filter (fun x => x.1 == s.clk.beat) with
  | none => .next (updTwin (fun t => { t with missed := t.missed + 1 }) s)
  | some x =>
    let k : Int := (x.2 : Int) - (s.twin.oneWay + markerFixed : Nat) - s.clk.beatBase
    let overB := decide (fld s 0x1105 7 0 < k.natAbs)
    let steer := steerOf (signedOf 16 (fld s 0x1104 15 0)) s.twin.skewPrev k
    let first := overB && !s.twin.skewOver
    let s1 := wrFld (wrFld (wrFld s 0x1103 15 0 (twosOf 16 (clampI (-32767) 32767 k))) 0x1104 15 0 (twosOf 16 steer)) 0x1102 1 0 2
    let s2 := updTwin (fun t => { t with skewPrev := some k, missed := 0, skewOver := overB }) s1
    .next (raiseIf first 4 (min k.natAbs 0x7FFF + (if k < 0 then 0x8000 else 0)) (if overB then sticky s2 0x1106 0 else s2))

/-- Three beats without the leader's marker (02 R69): the steering freezes at its last value. -/
def execMarkerLoss (s : State) : Out :=
  if s.twin.missed < 3 ∨ fld s 0x1102 1 0 ≠ 2 then .next s else
  .next (updTwin (fun t => { t with skewPrev := none }) (wrFld s 0x1102 1 0 3))

/-! ### Digests and images -/

/-- OUT_DIGEST of the running beat (15 R445): the first 30 bytes of the six thruster frames with SOURCE 0. -/
def outDigest (s : State) : Nat :=
  let frame (g : Nat) : List Byte := ((thrusterFrame s.clk.beat g (ofBeat s)).take 30).set 1 0
  crc32 ((List.range 6).flatMap frame)

/-- What a mirror image holds of an axis. -/
def axisImage (x : AxisUnit) : AxisImage := ⟨x.state, x.code, x.pend, x.pendThr, x.join, x.parked⟩

/-- The mirror image of the present state (15 R445). -/
def mirrorImage (s : State) : MirrorImage :=
  { params := s.regs.filter (fun x => isMirrored x.1)
    axes := s.servo.axes.map axisImage, thr := s.alc.thr, fus := s.fus, ctl := s.ctl
    held := s.alc.res, warm := s.alc.valid, streak := s.alc.streak, fb := s.alc.fb, fbRun := s.alc.fbRun
    entry := s.alc.entry, idReq := s.idReq }

/-! ### The beat's messages -/

/-- The hand-over as the exchange message of beat k finds it (15 R458): the message's OFFER or COMMIT grant, and the hand-over after it. -/
def handoverSend (k : Nat) (t : Twin) : Bool × Option Nat × Handover :=
  match t.handover with
  | .released m => if t.holds && decide (0 ≤ beatDiff k m) then (true, none, .offered k) else (false, none, t.handover)
  | .accepted m => if t.holds && k == beatAdd m 1 then (false, some (leaseEnd m 4), .committed m)
    else (false, none, t.handover)
  | h => (false, none, h)

/-- A lease field. -/
def leaseField (l : Option Nat) : Nat :=
  match l with
  | some x => x
  | none => 0xFFFFFFFF

/-- The exchange message of the running beat (15 R443), without its CRC. -/
def exchangeBody (s : State) (offer : Bool) (grant : Option Nat) (lease : Option Nat) (od sd : Nat) : List Byte :=
  let t := s.twin
  let flags := unitNumber s + 2 * b2n t.heldBeat + 4 * b2n (failSilent s) + 8 * b2n t.lanes + 16 * b2n t.release +
    32 * b2n offer + 64 * b2n grant.isSome + 128 * b2n t.remirror
  leBytes 1 1 ++ leBytes 1 flags ++ leBytes 1 (b2n t.request.isSome) ++ leBytes 1 (s.ctl.mode + 8 * b2n s.ctl.degr) ++
    leBytes 4 s.clk.beat ++ leBytes 4 (leaseField lease) ++ leBytes 4 (leaseField grant) ++ leBytes 4 od ++ leBytes 4 sd ++ zeroBytes 36

/-- Cycle 660 000 (15 R443, R452, R455, R458): the exchange message of the beat. -/
def execExchangeSend (s : State) : Out :=
  if !s.clk.beats || !linkUsable s then .next s else
  let s := advance (beatCycle s 660000) s
  let k := s.clk.beat
  let h := handoverSend k s.twin
  let quiet := failSilent s
  let lease := if s.twin.heldBeat && !quiet && h.2.1.isNone then some (leaseEnd k 3) else none
  let od := if quiet then 0 else outDigest s
  let sd := if quiet || s.twin.firstBeat then 0 else s.twin.stDig
  let body := exchangeBody s h.1 h.2.1 lease od sd
  .next (updTwin (fun t => { t with
    handover := h.2.2, release := false, sentLease := lease, outDig := od
    exchangeOut := body ++ leBytes 4 (crc32 body) }) s)

/-- The fields of a received exchange message. -/
def exchangeOf (m : List Byte) : Exchange :=
  ⟨byteAt m 1, byteAt m 2, byteAt m 3, leAt m 4 4, leAt m 8 4, leAt m 12 4, leAt m 16 4, leAt m 20 4⟩

/-- What an accepted exchange message leaves in a unit in RUN (15 R454, R455, R457, R458). -/
def takeExchange (x : Exchange) (s : State) : State :=
  let next := beatAdd x.beat 1
  let quiet := x.flags / 4 % 2 == 1
  let s1 := updTwin (fun t => { t with
    partner := some x, msgEdge := some next, barred := false, pHolds := x.flags / 2 % 2 == 1 && !quiet
    aloneFrom := if quiet then t.aloneFrom else none
    lpNext := if x.lease = 0xFFFFFFFF then t.lpNext else t.lpNext ++ [(next, x.lease)] }) s
  let s2 := if x.flags / 16 % 2 = 1 then
      updTwin (fun t => { t with lp := some x.beat, lpNext := [], takeNext := some next }) s1 else s1
  let s3 := if x.flags / 64 % 2 = 1 ∧ x.grant ≠ 0xFFFFFFFF ∧ !s.twin.holds then
      updTwin (fun t => { t with handover := .granted x.beat x.grant }) s2 else s2
  if x.request % 2 = 1 ∧ s.twin.holds ∧ flag s 0x1400 0 ∧ s.twin.handover = .idle ∧ !failSilent s then
    updTwin (fun t => { t with handover := .released (beatAdd s.clk.beat 1) }) s3
  else s3

/-- The partner's exchange message crosses on a pair (15 R441, R443, R454, R455, R457, R458, 02 R70). -/
def execPartnerExchange (c : Nat) (pair : Fin 2) (msg : List Byte) (s : State) : Out :=
  let s := advance c s
  if !linkUsable s then .next s else
  if !msgCrcOk msg || msg.length ≠ 64 || byteAt msg 0 ≠ 1 then .next (msgCrcFail s) else
  let x := exchangeOf msg
  if x.flags % 2 = unitNumber s then .next (ownMessage pair s) else
  let s := goodMessage pair s
  if s.power.mode = .bringUp then
    .next (updTwin (fun t => { t with partner := some x, pHolds := x.flags / 2 % 2 == 1 && x.flags / 4 % 2 == 0 })
      { s with power := { s.power with runSeen := some (c - (transit s 64 + 660000), x.beat, 0) } })
  else if !s.clk.beats || s.twin.partner.any (fun p => p.beat == x.beat) then .next s
  else
    let d := beatDiff x.beat s.clk.beat
    let inTime := decide (0 < d) || (d == 0 && decide (c ≤ beatCycle s 689999))
    let s1 := if inTime then updTwin (fun t => { t with exch := some x }) s else sticky s 0x1106 1
    .next (takeExchange x s1)

/-- The partner's message of the running beat for the comparison of units (15 R446): none when it is absent. -/
def partnerNow (s : State) : Option Exchange :=
  s.twin.exch.filter fun x => x.beat == s.clk.beat && x.flags / 4 % 2 == 0

/-- Does the unit act as holder in the comparison of units (15 R446)? -/
def actsAsHolder (s : State) (x : Exchange) : Bool :=
  s.twin.heldBeat || (x.flags / 2 % 2 == 0 && unitNumber s == 0)

/-- A disagreement between units in the running beat (15 R446, R462, R465). -/
def unitDisagree (s : State) : State :=
  raise 120 (s.clk.beat % 2 ^ 15) (sticky (bump s 0x1405 15 0 1) 0x1404 1)

/-- Withdraw the permit of the beat; it is not restored within the beat (01 R49). -/
def withdraw (s : State) : State := updTwin (fun t => { t with permit := false, withdrawn := true }) s

/-- Enter re-mirror (15 R448). -/
def enterRemirror (s : State) : State := updTwin (fun t => { t with remirror := true, count := 0 }) (withdraw s)

/-- Cycle 696 000 (15 R446, R448): the verdict between units, and the count of re-mirror. -/
def execInterUnitCompare (s : State) : Out :=
  if !s.clk.beats || !s.clk.core then .next s else
  let s := advance (beatCycle s 696000) s
  if failSilent s then .next (updTwin (fun t => { t with units := false }) s) else
  match partnerNow s with
  | none =>
    let s1 := updTwin (fun t => { t with units := false, count := 0, remirror := t.remirror && t.joinWait }) s
    .next (if s1.twin.remirror then withdraw s1 else s1)
  | some x =>
    let holder := actsAsHolder s x
    let s0 := if holder then updTwin (fun t => { t with remirror := false, count := 0 }) s else s
    if x.outDig = s.twin.outDig then
      let s1 := updTwin (fun t => { t with units := true, lastAgree := s.clk.beat }) s0
      if s1.twin.remirror then
        let n := if s.twin.adoptedPrev then s.twin.count + 1 else 0
        let s2 := updTwin (fun t => { t with count := n }) s1
        .next (if n < 3 then withdraw s2 else s2)
      else .next s1
    else
      let s1 := unitDisagree (updTwin (fun t => { t with units := false }) s0)
      .next (if holder then s1 else enterRemirror s1)

/-- The count of agreeing beats has reached 3 (15 R448): the beat is released, and UNIT_DISAGREE says so. -/
def execRemirrorExit (s : State) : Out :=
  if !s.twin.remirror || decide (s.twin.count < 3) || failSilent s then .next s else
  .next (raise 120 (s.clk.beat % 2 ^ 15 + 0x8000) (updTwin (fun t => { t with remirror := false, joinWait := false }) s))

/-- Cycle 700 000 (15 R442, R445, R447): the holder sends its images while the link is UP; either unit takes the digest that goes
into its next exchange message. -/
def execMirrorSend (s : State) : Out :=
  if !s.clk.beats || !s.clk.core then .next s else
  let s := advance (beatCycle s 700000) s
  let f := takeFree s
  let up := linkState s == 0 && linkUsable s
  let sends := s.twin.heldBeat && s.twin.holds && !failSilent s && up
  .next (updTwin (fun t => { t with
    stDigNext := Config.stateDigest (mirrorImage s) f.1 % 2 ^ 32, mirrorOut := sends, mirrorDue := up
    idCarried := if sends then s.idReq.length else 0 }) f.2)

/-- The partner's exchange message of the running beat, in time or not. -/
def partnerOfBeat (s : State) : Option Exchange := s.twin.partner.filter (·.beat == s.clk.beat)

/-- Does the non-holder accept an offer in its acknowledgment (15 R458)? -/
def acceptsOffer (s : State) : Bool :=
  (match partnerOfBeat s with
   | some x => x.flags / 32 % 2 == 1
   | none => false) &&
  !failSilent s && !s.twin.remirror && s.twin.lanes && s.twin.units && linkState s == 0

/-- Cycle 750 000 (15 R444): the non-holder's acknowledgment. primary, check: the image is complete with a good CRC. -/
def execMirrorAckSend (primary check : Bool) (s : State) : Out :=
  if !s.clk.beats || !linkUsable s || s.twin.heldBeat || failSilent s then .next s else
  let s := advance (beatCycle s 750000) s
  let lease := match partnerOfBeat s with
    | some x => x.lease
    | none => 0xFFFFFFFF
  let body := leBytes 1 2 ++ leBytes 1 (unitNumber s + 2 * b2n primary + 4 * b2n check + 8 * b2n (acceptsOffer s)) ++
    zeroBytes 2 ++ leBytes 4 s.clk.beat ++ leBytes 4 lease
  .next (updTwin (fun t => { t with ackOut := body ++ leBytes 4 (crc32 body) }) s)

/-- The acknowledgment crosses (15 R444, R453, R458, 13 R402): it counts for the holder by cycle 759 999 of its beat. -/
def execPartnerAck (c : Nat) (pair : Fin 2) (msg : List Byte) (s : State) : Out :=
  let s := advance c s
  if !linkUsable s then .next s else
  if !msgCrcOk msg || msg.length ≠ 16 || byteAt msg 0 ≠ 2 then .next (msgCrcFail s) else
  let f := byteAt msg 1
  if f % 2 = unitNumber s then .next (ownMessage pair s) else
  let s := goodMessage pair s
  let k := s.clk.beat
  if !s.clk.beats || !s.twin.heldBeat || failSilent s || leAt msg 4 4 ≠ k || decide (beatCycle s 759999 < c) then .next s else
  let s1 := match s.twin.sentLease with
    | some l => if leAt msg 8 4 = l then updTwin (fun t => { t with lcNext := t.lcNext ++ [(beatAdd k 1, l)] }) s else s
    | none => s
  let s2 := if f / 8 % 2 = 1 ∧ s1.twin.handover = .offered k then updTwin (fun t => { t with handover := .accepted k }) s1 else s1
  .next (if f / 2 % 4 = 3 then
      updTwin (fun t => { t with idCarried := 0 }) { s2 with idReq := s2.idReq.drop s2.twin.idCarried }
    else s2)

/-! ### Heartbeats and presence -/

/-- The partner's heartbeat (13 R400), or in bring-up one on the unit's own identifier (16 R486). It follows its
CAN_FRAME_RECEIVED. -/
def execPartnerHeartbeat (c : Nat) (bus : Fin 4) (f : CanFrame) (s : State) : Out :=
  let s := advance c s
  let b := bus.val
  let id (n : Nat) : Word := rd s (canId b 5) + BitVec.ofNat 32 n
  let u := unitNumber s
  if !flag s (canId b 0) 14 || !canHears s bus || f.remote then .next s else
  let good := f.fd && f.data.length == 16 && byteAt f.data 0 == 1 && frameCrc (f.data.take 14) == leAt f.data 14 2
  if frameIdWord f = id u ∧ seeksDuplicate s then
    .next (if good then { sticky s 0x7401 4 with power := { s.power with duplicate := true } } else sticky s (canId b 9) 5)
  else if frameIdWord f ≠ id (1 - u) then .next s
  else if !good || byteAt f.data 1 % 2 == u then .next (sticky s (canId b 9) 5)
  else
    let k := leAt f.data 4 4
    let held := byteAt f.data 1 / 2 % 2 == 1
    if inBringUp s then
      .next (updTwin (fun t => { t with pHolds := held, hbBeat := some k })
        { s with power := { s.power with hbSeen := some (c - 2400, beatAdd k 1, 0) } })
    else if !s.clk.beats then .next s
    else
      let next := beatAdd s.clk.beat 1
      let lease := leAt f.data 8 4
      .next (updTwin (fun t => { t with
        hbEdge := vset t.hbEdge bus (some next), hbBeat := some k, pHolds := held, barred := false, aloneFrom := none
        lpNext := if lease = 0xFFFFFFFF then t.lpNext else t.lpNext ++ [(next, lease)] }) s)

/-- Presence of the partner changes at a beat edge (15 R459, R462, R465). -/
def execPartnerPresence (s : State) : Out :=
  if !s.clk.beats || !s.clk.core then .next s else
  let now := presentAt s.clk.beat s
  if now == s.twin.present then .next s else
  let s1 := updTwin (fun t => { t with present := now }) s
  let s2 := if now then s1 else sticky (if fld s1 0x1102 1 0 = 1 then wrFld s1 0x1102 1 0 0 else s1) 0x1404 4
  .next (raise 122 (if now then 0x8000 else 0) s2)

/-! ### The halter at a beat edge -/

/-- The heartbeats placed at the present beat edge follow a take or loss of the halter at it (13 R399). -/
def refreshHeartbeats (s : State) : State :=
  let k := beatAdd s.clk.beat (2 ^ 32 - 1)
  let one (e : TxEntry) : TxEntry := if e.kind = .heartbeat ∧ leAt e.data 4 4 = k then
    { e with data := heartbeatFrame k s, lease := heartbeatLease k s } else e
  { s with can := s.can.map fun u => { u with queue := u.queue.map one } }

/-- May the unit take at edge e by expiry (15 R454, R457)? -/
def mayExpire (e : Nat) (s : State) : Bool :=
  !s.twin.holds && !failSilent s && !s.twin.barred && (match s.twin.lp with
    | some l => decide (0 ≤ beatDiff e (beatAdd l 1))
    | none => false) && !(unitNumber s == 1 && hearsPartner e s && !partnerHolds s)

/-- Expiry (15 R454): at a beat edge past the partner's lease end the unit takes the halter. It follows BEAT_EDGE. -/
def execHalterExpiryTake (s : State) : Out :=
  if !s.clk.beats || !inRun s || !mayExpire s.clk.beat s then .next s else
  .next (refreshHeartbeats (takeHalter 1 (leaseEnd s.clk.beat 2) s))

/-- A holder whose lease is not confirmed stops one beat before it ends (15 R453). -/
def execHalterLeaseLapse (s : State) : Out :=
  if !s.clk.beats || !s.twin.holds || (match s.twin.lc with
    | some l => decide (beatDiff s.clk.beat l < 0)
    | none => false) then .next s else
  .next (refreshHeartbeats (dropHalter 4 (leaseEnd s.clk.beat 3) true s))

/-- A unit that has heard no partner for its ALONE_WAIT takes the halter (15 R457): unit 1 waits twice as long. -/
def execAloneWaitExpiry (s : State) : Out :=
  if !s.clk.beats || !inRun s || s.twin.holds || failSilent s || s.twin.lp.isSome then .next s else
  match s.twin.aloneFrom with
  | none => .next s
  | some f =>
    if beatDiff s.clk.beat f < (fld s 0x1400 15 8 : Int) * (1 + unitNumber s) then .next s else
    .next (refreshHeartbeats (takeHalter 3 (leaseEnd s.clk.beat 2) s))

/-- REQUEST bit 0 is withdrawn after 100 beats (15 R460). -/
def execHalterRequestExpiry (s : State) : Out :=
  match s.twin.request with
  | none => .next s
  | some k => if beatDiff s.clk.beat k < 100 then .next s else .next (updTwin (fun t => { t with request := none }) s)

/-- The takes and losses of a beat edge e that belong to the edge itself (15 R439, R455, R457, R458): the end of a hand-over, the event of a
loss by fail-silence, hand-over, release and start-up takes. -/
def halterEdge (e : Nat) (s : State) : State :=
  if s.twin.silentLoss then
    raise 121 5 (sticky (bump (updTwin (fun t => { t with silentLoss := false, handover := .idle }) s) 0x1407 15 0 1) 0x1404 3)
  else if failSilent s then s
  else match s.twin.handover with
    | .committed m => if e = beatAdd m 2 then dropHalter 2 (leaseEnd m 4) false s else s
    | h =>
      if s.twin.holds then s
      else match h with
        | .granted k g => if e = beatAdd k 1 then takeHalter 2 g s else updTwin (fun t => { t with handover := .idle }) s
        | _ =>
          if s.twin.takeNext = some e then takeHalter 0 (leaseEnd e 2) s
          else if unitNumber s = 0 ∧ hearsPartner e s ∧ !partnerHolds s ∧ s.twin.lp.isNone then takeHalter 3 (leaseEnd e 2) s
          else s

/-- The twin unit at beat edge e (15 R445-R458), once the beat counter has advanced: due leases, what the messages of the ended
beat leave, the halter. The permit of the ended beat must have been read. -/
def twinEdge (e : Nat) (s : State) : State :=
  let t := s.twin
  let lp := (dueLeases e t.lpNext).foldl (fun a x => laterLease a x.2) t.lp
  let lc := if t.holds then (dueLeases e t.lcNext).foldl (fun a x => laterLease a x.2) t.lc else t.lc
  let s1 := pairBeat true { s with twin := { t with
    lp := lp, lc := lc, lpNext := laterLeases e t.lpNext, lcNext := laterLeases e t.lcNext, heldBeat := t.holds
    adoptedPrev := t.adopted, adopted := false, mirrorDue := false, mirrorOut := false, idCarried := 0, idNext := []
    late := [], lateAxis := [], exch := t.exch.filter (·.beat == e), stDig := t.stDigNext, firstBeat := false
    permit := false, withdrawn := false, laneValid := true, sentLease := none
    takeNext := t.takeNext.filter (fun x => decide (0 ≤ beatDiff x e)) } }
  halterEdge e (t.idNext.foldl (fun s x => clearClash x.1.val (bitsOf x.2 28 0) (bitOf x.2 31) s) s1)

/-! ### Opcodes -/

/-- ROLE (15 R459), which TWIN_STATE bits 7:0 show as well. -/
def roleByte (s : State) : Nat :=
  let t := s.twin
  b2n t.holds + 2 * b2n (failSilent s) + 4 * b2n t.remirror + 8 * linkState s + 32 * b2n t.present +
    64 * b2n (partnerHolds s) + 128 * b2n (t.handover != .idle)

/-- HB_BUSES (15 R459). -/
def heartbeatBuses (s : State) : Nat := maskOf (tab 4 fun b => recentAt s.clk.beat (vgetD s.twin.hbEdge b none))

/-- TWIN_STATUS_READ (15 R459). -/
def opTwinStatusRead : OpSpec where
  code := 0x80
  commit _ _ s :=
    let t := s.twin
    okData s (leBytes 1 (roleByte s) ++ leBytes 1 (min 3 t.count) ++ zeroBytes 2 ++
      leBytes 4 (leaseField (if t.holds then t.lc else t.lp)) ++ leBytes 4 t.lastAgree ++
      leBytes 4 (match t.partner with
        | some x => x.beat
        | none => 0) ++
      leBytes 1 (match t.partner with
        | some x => x.flags
        | none => 0) ++ leBytes 1 (heartbeatBuses s) ++ leBytes 2 (fld s 0x1405 15 0) ++ leBytes 4 t.outDig ++
      leBytes 2 (fld s 0x1103 15 0) ++ zeroBytes 2)

/-- TWIN_STATUS_READ. -/
def execTwinStatusRead (r : Req) (s : State) : Out := .next (serve opTwinStatusRead r s)

/-- The first beat whose exchange message follows the present cycle (15 R458). -/
def nextMessageBeat (s : State) : Nat :=
  if s.clk.cycle < beatCycle s 660000 then s.clk.beat else beatAdd s.clk.beat 1

/-- HALTER_REQUEST (15 R460). -/
def opHalterRequest : OpSpec where
  code := 0x82
  check _ p s := firstBad [(byteAt p 0 == unitNumber s, 0), (zerosAt p 1 3, 1)]
  busy _ _ s := !s.twin.holds && (linkState s != 0 || s.twin.remirror)
  commit _ _ s := okResult (if s.twin.holds then s else
    updTwin (fun t => { t with request := some (nextMessageBeat s) }) s)

/-- HALTER_REQUEST. -/
def execHalterRequest (r : Req) (s : State) : Out := .next (serve opHalterRequest r s)

/-- Is the partner fit to take over (15 R460)? Its latest message shows neither fail-silence nor re-mirror, and lane agreement. -/
def partnerFit (s : State) : Bool :=
  s.twin.present && !partnerSilent s && (match s.twin.partner with
    | some x => x.flags / 4 % 2 == 0 && x.flags / 128 % 2 == 0 && x.flags / 8 % 2 == 1
    | none => false)

/-- HALTER_RELEASE (15 R458, R460). -/
def opHalterRelease : OpSpec where
  code := 0x84
  check _ p s := firstBad [(byteAt p 0 == 1 - unitNumber s, 0), (zerosAt p 1 3, 1)]
  busy _ _ s := s.twin.holds && (linkState s != 0 || !partnerFit s || s.twin.handover != .idle)
  halter _ _ := true
  commit _ _ s := okResult (updTwin (fun t => { t with handover := .released (nextMessageBeat s) }) s)

/-- HALTER_RELEASE. -/
def execHalterRelease (r : Req) (s : State) : Out := .next (serve opHalterRelease r s)

/-- The range of a lane compare tolerance (15 R463). -/
def tolRange (w : Nat) : Nat × Nat :=
  if w = 0 ∨ w = 2 ∨ w = 4 then (1, 10000) else if w = 1 ∨ w = 3 then (1, 65535)
  else if w = 5 then (0, 10000) else (0, 31416)

/-- Is a word in the range of tolerance w, its reserved bits zero (15 R463)? -/
def tolOk (w : Nat) (v : Word) : Bool :=
  decide ((tolRange w).1 ≤ v.toNat) && decide (v.toNat ≤ (tolRange w).2)

/-- TWIN_TOLERANCE_SET (15 R461). -/
def opTwinToleranceSet : OpSpec where
  code := 0x87
  check _ p _ := firstBad (((List.range 7).map fun w => (tolOk w (wordAt p (4 * w)), 4 * w)) ++ [(zerosAt p 28 4, 28)])
  halter _ _ := true
  internal _ s := yardFenced s 3
  targets _ _ := (List.range 7).map (0x3000 + ·)
  commit _ p s := okResult (wrAll s ((List.range 7).map fun w => (0x3000 + w, wordAt p (4 * w))))

/-- TWIN_TOLERANCE_SET. -/
def execTwinToleranceSet (r : Req) (s : State) : Out := .next (serve opTwinToleranceSet r s)

end Sys2Proof.Machine
end

