-- ==== Sys2Proof/Machine/BringUp.lean ====
section
/-! DEFINITION. Yard restarts, module reset and bring-up (04 R136, R137, 16 R480-R490, 02 R538). -/
namespace Sys2Proof.Machine

/-- Reset one yard, as its restart does (01 R24, R41): parameters, poison marks, and what the watchdog knows. -/
def clearYard (y : Nat) (s : State) : State :=
  { s with
    regs := s.regs.filter (fun x => yardOf x.1 != y)
    poison := s.poison.filter (fun i => stallYard i != y)
    yards := vupdN s.yards y fun _ => ⟨[], [], []⟩ }

/-- A waiting restart for which the first beat edge at least 100 000 cycles after its commit has come (04 R136). whole: a reset of the
module, not the restart of a yard. -/
def restartDue (whole : Bool) (s : State) : Option RestartPending :=
  s.restart.find? fun r => (r.yard == 8) == whole && decide (r.commit + 100000 ≤ s.clk.beatBase)

/-- A full bring-up begins (04 R136, R137): sessions close with reason 3, the state summary records the cause, and the
start is requested. -/
def beginReset (loss : Nat) (s : State) : State :=
  requestStart (writeSummary loss 0 (closeSession 1 3 (closeSession 0 3
    { s with restart := [], power := { s.power with byWake := false, byInput := false, wakeMask := 0 } })))

/-- An accepted yard restart begins (04 R136, 16 R489): PD0 and PD4 restart while RUN continues; any other yard needs a
full bring-up. -/
def execYardRestartBegin (s : State) : Out :=
  match restartDue false s with
  | none => .next s
  | some r =>
    let s1 := { s with restart := s.restart.erase r }
    if r.yard = 0 then .next (loseRetention (clearYard 0 s1))
    else if r.yard = 4 then
      .next (gnssStart (s.clk.cycle + 20000000) (clearYard 4 { s1 with gnss := gnssAfterRestart s.gnss }))
    else .next (beginReset 4 s1)

/-- An accepted module reset begins (04 R137, R117): it is followed by a bring-up. -/
def execModuleResetBegin (s : State) : Out :=
  match restartDue true s with
  | none => .next s
  | some _ => .next (beginReset 3 s)

/-- H, the end of the bring-up (16 R480). -/
def bringUpH (s : State) : Nat := 239609375 + bringUpX s

/-- Registers that a bring-up keeps: PD0's, and BRINGUP_COUNT, which counts since the cell was fitted (16 R495, R496). -/
def keptAtBringUp (id : Nat) : Bool := decide (id ≤ 0x0006) || id == 0x150B

/-- Slot times at a bring-up (14 R424): R equals the RTC time on the PTP timescale, or 0 when the RTC is not valid. -/
def mapToRtc (p : Power) (t : TimeKeeper) : TimeKeeper :=
  let r : Int := if p.rtcValid then floorDiv ((p.rtc : Int) * 1000000000 * 2 ^ 32) 32768 else 0
  { t with slot := t.slot.map fun x => { x with off := r } }

/-- The start strobe crosses: cycle 0 of a bring-up (16 R480-R482). Hot when HOT_READY is set, else cold. Everything but
what PD0 and the nonvolatile store retain starts from reset; yards 2 to 7 are off. slow: slow-clock periods since the
core clock last ran. -/
def execBringUpStart (slow : Nat) (s : State) : Out :=
  if s.power.startAt.isNone || !s.clk.core then .next s else
  let p0 := { s.power with rtc := s.power.rtc + slow }
  let cold := !hotReady { s with power := p0 }
  let p : Power := { State.reset.power with
    mains := p0.mains, dc := p0.dc, dcInUse := p0.dcInUse, mode := .bringUp, wakeMask := p0.wakeMask
    byWake := p0.byWake, byInput := p0.byInput, rtc := p0.rtc, rtcFrac := p0.rtcFrac, rtcValid := p0.rtcValid
    summary := p0.summary, found := p0.summary, cold := cold, cellState := p0.cellState }
  let s1 : State := { State.reset with
    pending := s.pending, free := s.free, nv := s.nv
    clk := { State.reset.clk with core := true }
    regs := s.regs.filter (fun x => keptAtBringUp x.1)
    power := p
    time := mapToRtc p State.reset.time
    gnss := { State.reset.gnss with block := s.gnss.block }
    ev := { State.reset.ev with hist := s.ev.hist.map (Option.map fun x => { x with edge := none }), nextSeq := s.ev.nextSeq, carried := s.ev.carried, holding := true } }
  .next (powerOff [2, 3, 4, 5, 6, 7] (wrFld (wrFld (wrFld (bump s1 0x150B 15 0 1) 0x1004 2 0 (b2n cold))
    0x1507 31 16 (fld s 0x1507 31 16)) 0x1003 0 0 (fld s 0x1003 0 0)))

/-- One yard's self-test results (16 R483): each failing run is a block fault, the second run its retry, and two failures
fence the block. SELFTEST_MAP shows the yards that end unfenced; a failed test sets POWER_STICKY bit 5. -/
def yardTests (ys : List Nat) (v : SelfTest) (s : State) : State :=
  let mine (x : Fin 8 × Fin 32) : Bool := ys.contains x.1.val
  let s1 := (v.once.filter mine).foldl (fun s x =>
    let s := blockFault x.1 x.2.val false s
    { s with yards := vupd s.yards x.1 fun u => { u with retry := u.retry.filter (·.1 != x.2.val) } }) s
  let s2 := (v.failed.filter mine).foldl (fun s x => blockFault x.1 x.2.val false (blockFault x.1 x.2.val false s)) s1
  let s3 := if (v.once.any mine) || (v.failed.any mine) then sticky s2 0x150A 5 else s2
  ys.foldl (fun s y => if yardFenced s y then s else wrFlag s 0x1509 y true) s3

/-- The newest valid slot's SEQ plus one, in 32 bits; 0 where there is none (17 R507, R509). -/
def nextSeqOf (h : Vector (Option HistSlot) 64) : Nat :=
  h.toList.foldl (fun m x => match x with
    | some y => if y.good then max m (y.seq + 1) else m
    | none => m) 0 % 2 ^ 32

/-- Written slots whose check failed (17 R499). -/
def badSlots (h : Vector (Option HistSlot) 64) : Nat :=
  h.toList.countP fun x => match x with
    | some y => !y.good
    | none => false

/-- Cycle 5 000 000 of a bring-up (16 R482, 17 R509): the PD1 verdict, the history is carried, WAKE after a wake, port 0
ready, PD4 powered. -/
def execPd1Verdict (v : SelfTest) (s : State) : Out :=
  if s.power.mode ≠ .bringUp then .next s else
  let s := yardTests [1] v (advance 5000000 s)
  let bad := badSlots s.ev.hist
  let s1 := { s with ev := { s.ev with carried := s.ev.hist, nextSeq := nextSeqOf s.ev.hist } }
  let s2 := raiseAll (eventsWhen [(decide (bad ≠ 0), 5, bad), (s.power.byWake, 10, s.power.wakeMask)]) s1
  .next (settleLine (powerOn [4] s2))

/-- Cycle 5 100 000 (17 R509, 16 R483): the PD0 test leaves retention RAM as it is in a hot bring-up and clears it in a
cold one; the slots held meanwhile are written. -/
def execHistoryFlush (s : State) : Out :=
  if !s.ev.holding || s.power.mode ≠ .bringUp then .next s else
  let s := advance 5100000 s
  let s1 := if s.power.cold then
      { s with
        ev := { s.ev with hist := Vector.replicate 64 none, nextSeq := 0 }
        power := { s.power with summary := none }
        gnss := { s.gnss with block := none } }
    else s
  let s2 := { s1 with ev := { s1.ev with holding := false, held := [] } }
  .next (s.ev.held.foldl (fun s h => histWrite h s) s2)

/-- Cycle 25 000 000 (16 R482): the PD4 verdict and the GNSS start. -/
def execPd4Verdict (v : SelfTest) (s : State) : Out :=
  if s.power.mode ≠ .bringUp then .next s else
  let s := yardTests [4] v (powerOn [2, 3, 5, 6, 7] (advance 25000000 s))
  .next (if yardFenced s 4 then s else gnssStart s.clk.cycle s)

/-- The settings of every identifier at their reset values; status, sticky and count fields stay (16 R482). -/
def resetSettings (s : State) : State :=
  { s with regs := s.regs.foldl (fun r x =>
      match paramRow x.1 with
      | none => r
      | some p =>
        let m := p.mask (fun a => a == .rw || a == .rwx)
        regSet r x.1 ((x.2 &&& ~~~m) ||| (resetWord x.1 &&& m))) s.regs }

/-- The stored module configuration (04 R132 kind 4): the manual gives its layout nowhere, so which settings it holds is
free; each goes into the writable bits of its identifier. -/
def loadModuleConfig (s : State) : State :=
  if (vget s.nv.files 4).isEmpty then s else
  (Config.moduleConfig (vget s.nv.files 4)).foldl (fun s x =>
    match paramRow x.1 with
    | none => s
    | some p =>
      let m := p.mask (fun a => a == .rw || a == .rwx)
      wr s x.1 ((rd s x.1 &&& ~~~m) ||| (x.2 &&& m))) s

/-- Start the servo tick, the modulator bit clock, the barrier links and the filter lanes on a cycle, in the phase of a
first RUN beat edge (02 R538): tick edges lie a whole multiple of 25 000 cycles before it. The clock stands one tick before the first
tick edge, which TICK_EDGE brings; bit 0 of a window is taken 1 151 cycles before the tick edge of its number (12 R362, R363). -/
def startTicks (runEdge beat : Nat) (s : State) : State :=
  let m := (runEdge - s.clk.cycle) / 25000
  let n := (40 * beat + 2 ^ 32 - m % 2 ^ 32) % 2 ^ 32
  let whole := decide (s.clk.cycle + 25000 * m + 1151 ≤ runEdge)
  let r := regSet s.regs 0x5409 (BitVec.ofNat 32 ((if whole then n else n + 1) % 2 ^ 32))
  { s with
    clk := { s.clk with
      ticks := true, runEdge := runEdge, beat := s.clk.beat
      tick := (n + 2 ^ 32 - 1) % 2 ^ 32, tickBase := runEdge - 25000 * (m + 1) }
    snap := r
    regs := r
    filt := lanesStart whole s.filt
    field := linksStart s.field }

/-- Cycle 55 000 000 + X (16 R482, R483): the remaining verdicts; settings reset, then the stored configuration and
tables; ports, link, CAN in listen-only operation, ticks and filter lanes start. strap: the unit number coded on X11. -/
def execSelftestVerdicts (v : SelfTest) (strap : Bool) (s : State) : Out :=
  if s.power.mode ≠ .bringUp then .next s else
  let s := yardTests [0, 2, 3, 5, 6, 7] v (powerOn [2, 3, 5, 6, 7] (advance (55000000 + bringUpX s) s))
  let s1 := wrFld (loadTables (loadModuleConfig (resetSettings s))) 0x1003 0 0 (b2n strap)
  let s2 := startTicks (bringUpH s) 0 s1
  let up := !yardFenced s2 7
  let s3 := wrFlag (wrFlag (wrFld s2 0x7400 1 0 (if up then 0 else 2)) 0x7400 2 up) 0x7400 3 up
  .next (refreshUtc (canBoot { s3 with twin := { s3.twin with pairs := Vector.replicate 2 ⟨up, 0, 0, false, false⟩ } }))

/-- Cycle 75 000 000 + X (16 R484): the lane cross-check; a disagreement makes the module fail-silent with cause 1 and
item 0xFF. -/
def execCrossCheckVerdict (agree : Bool) (s : State) : Out :=
  if s.power.mode ≠ .bringUp then .next s else
  let s := advance (75000000 + bringUpX s) s
  if agree then .next (wrFlag s 0x1509 8 true)
  else .next (enterFailSilent 1 { s with twin := { s.twin with item := 0xFF } })

/-- FILE_CRC of the stored module configuration; 0 when none (16 R485). -/
def configCrc (s : State) : Nat :=
  let f := vget s.nv.files 4
  if f.isEmpty then 0 else leAt f (f.length - 4) 4

/-- A handshake message is sent on both pairs every 1 000 000 cycles (16 R485); in these periods the pairs count towards regaining (15 R441). -/
def execHandshakeSend (c : Nat) (s : State) : Out :=
  let s := advance c s
  if s.power.mode ≠ .bringUp then .next s else
  let b := leBytes 1 3 ++ leBytes 1 (unitNumber s + 2 * b2n s.power.cold) ++ leBytes 2 (rd s 0x1002).toNat ++
    leBytes 4 (bringUpH s - s.clk.cycle) ++ leBytes 4 (configCrc s)
  .next (pairBeat false { s with twin := { s.twin with handOut := b ++ leBytes 4 (crc32 b) } })

/-- A running unit hears its partner in bring-up: it was in RUN first, so it leads (02 R66, R69), and a leader is never steered. -/
def leadJoiner (s : State) : State :=
  if s.power.mode = .run ∧ s.clk.beats ∧ 2 ≤ fld s 0x1102 1 0 then
    updTwin (fun t => { t with missed := 0, skewPrev := none, skewOver := false }) (wrFld (wrFld s 0x1102 1 0 1) 0x1104 15 0 0)
  else s

/-- A handshake message of the partner crosses (16 R485, R486): up to the verdict it is remembered, and a release or configuration other than
the unit's own noted. -/
def execHandshakeMessage (c : Nat) (pair : Fin 2) (msg : List Byte) (s : State) : Out :=
  let s := advance c s
  if !linkUsable s then .next s else
  if !msgCrcOk msg || msg.length ≠ 16 || byteAt msg 0 ≠ 3 then .next (msgCrcFail s) else
  if byteAt msg 1 % 2 = unitNumber s then .next (ownMessage pair s) else
  let s := goodMessage pair s
  if s.power.mode ≠ .bringUp ∨ verdictAt s < s.clk.cycle then .next (leadJoiner s) else
  let h : Handshake := ⟨s.clk.cycle, byteAt msg 1 / 2 % 2 == 1, leAt msg 2 2, leAt msg 4 4, leAt msg 8 4⟩
  .next { s with power := { s.power with
    hs := some h, mismatch := h.fw != fld s 0x1002 15 0 || h.crc != configCrc s } }

/-- The first edge of a raster of beats, from an edge with its beat number on, that lies at or after a cycle: edge and number (16 R485). -/
def alignedEdge (edge : Int) (beat after : Nat) : Nat × Nat :=
  let n := (floorDiv ((after : Int) - edge + 999999) 1000000).toNat
  ((edge + 1000000 * n).toNat, beatAdd beat n)

/-- A follower or joiner loads its beat count and phase, and restarts tick, barrier links and filter lanes on the first cycle after the
verdict in that phase (02 R538, R68). -/
def loadPhase (x : Nat × Nat) (s : State) : State :=
  let t := startTicks x.1 x.2 { s with clk := { s.clk with cycle := s.clk.cycle + 1 } }
  { t with clk := { t.clk with cycle := s.clk.cycle, beat := x.2 } }

/-- Record a verdict with BEAT_LEAD (16 R485, 02 R54). -/
def putVerdict (v lead : Nat) (s : State) : State :=
  wrFld { s with power := { s.power with verdict := v } } 0x1102 1 0 lead

/-- A unit that joins a running partner starts in re-mirror (15 R448); wait: which a missing message does not end (16 R485). -/
def joinPartner (wait : Bool) (s : State) : State :=
  updTwin (fun t => { t with remirror := true, count := 0, joinWait := wait }) s

/-- Cycle 230 000 000 + X (16 R485, R486): duplicate, join, lead, follow or alone. -/
def execHandshakeVerdict (s : State) : Out :=
  if s.power.mode ≠ .bringUp then .next s else
  let s := advance (verdictAt s) s
  let h := bringUpH s
  let at_ (x : Nat × Nat × Nat) : Nat × Nat := alignedEdge x.1 x.2.1 h
  if s.power.duplicate then .next (putVerdict 0 0 (enterFailSilent 0x20 (sticky s 0x7401 4)))
  else match s.power.runSeen, s.power.hbSeen, s.power.hs with
    | some x, _, _ => .next (loadPhase (at_ x) (joinPartner false (putVerdict 1 2 s)))
    | none, some x, none => .next (loadPhase (at_ x) (joinPartner true (putVerdict 1 3 s)))
    | none, _, some m =>
      if unitNumber s = 0 then .next (putVerdict 2 1 s) else
      let h2 := m.cross + m.remain - transit s 16
      .next (loadPhase (alignedEdge h2 0 (max h h2)) (putVerdict 3 2 s))
    | none, none, none => .next (putVerdict 0 0 s)

/-- Cycle H (16 R482): RUN, fail-silent or not, and BRING_UP. -/
def execBringUpEnd (s : State) : Out :=
  if s.power.mode ≠ .bringUp || !s.clk.core || s.power.startAt.isSome then .next s else
  let s := advance (bringUpH s) s
  let q := failSilent s
  let s1 := wrFld { s with power := { s.power with mode := .run, atH := true } } 0x1004 2 0 (if q then 3 else 2)
  .next (settleLine (raise 11 (b2n s.power.cold + 2 * b2n q + 4 * s.power.verdict + 16 * b2n s.power.mismatch +
    32 * b2n s.power.duplicate) s1))

end Sys2Proof.Machine
end

