-- ==== Sys2Proof/Machine/Flags.lean ====
section
/-! DEFINITION. Status words: the read-only registers whose value follows from the state (the parameter maps of 02, 03, 04, 11 to 17),
and the read of any identifier, which is either such a view or the stored word (04 R129). -/
namespace Sys2Proof.Machine

/-! ### Power -/

/-- STATE of POWER_STATUS_READ (16 R494). In DOZE, and between watch windows, nothing reads it. -/
def powerCode (s : State) : Nat :=
  match s.power.mode with
  | .run => 0
  | .window => 3
  | .entry => 4
  | _ => if s.power.cold then 2 else 1

/-- SUPPLIES (16 R494). -/
def suppliesByte (s : State) : Nat :=
  supplyBits s + 8 * b2n (s.power.cellState == 1) + 16 * b2n (s.power.cellState == 2) + 32 * b2n s.power.rtcValid +
    64 * b2n (hotReady s)

/-- RET_STATE (16 R495): bits 3:0 over the stored count of clock start failures. -/
def retState (s : State) : Word :=
  putBits (rd s 0x0003) 3 0
    (b2n s.power.rtcValid + 2 * b2n s.power.summary.isSome + 4 * b2n (goodBlock s).isSome + 8 * b2n (hotReady s))

/-! ### Events -/

/-- SEQ of the newest valid slot. -/
def newestSeq (h : Vector (Option HistSlot) 64) : Option Nat :=
  h.toList.foldl (fun m x => match x with
    | some y => if y.good then (match m with
      | some n => some (max n y.seq)
      | none => some y.seq) else m
    | none => m) none

/-- Valid slots. -/
def goodSlots (h : Vector (Option HistSlot) 64) : Nat :=
  h.toList.countP fun x => match x with
    | some y => y.good
    | none => false

/-- The valid slot of age a (17 R510). -/
def slotOfAge (h : Vector (Option HistSlot) 64) (a : Nat) : Option HistSlot :=
  match newestSeq h with
  | none => none
  | some n => if n < a then none else
    (h.toList.getD ((n - a) % 64) none).filter fun y => y.good && y.seq == n - a

/-- The 32 bytes of a slot (17 R507). A slot never written has NUMBER 0xFF; its other bytes are those of the cleared RAM (log 30). -/
def slotBytes (x : Option HistSlot) : List Byte :=
  match x with
  | none => leBytes 1 0xFF ++ zeroBytes 31
  | some y =>
    let b := leBytes 1 y.num ++ leBytes 1 y.flags ++ leBytes 2 y.arg ++ leBytes 4 y.time ++ leBytes 4 y.beat ++
      leBytes 4 y.seq ++ leBytes 4 y.rtc ++ leBytes 2 y.bringup ++ leBytes 1 y.state ++ zeroBytes 5
    b ++ leBytes 4 (crc32 b)

/-- The live history as a read on the present cycle finds it: the slots written before it (17 R510, 02 R73). -/
def liveHist (s : State) : Vector (Option HistSlot) 64 :=
  s.ev.hist.map fun h => h.filter fun x => match x.edge with
    | none => true
    | some e => decide (e + 64 < s.clk.cycle)

/-- HIST_VIEW_j (17 R510). -/
def histView (s : State) (j : Nat) : Word :=
  let h := if flag s 0x1310 8 then s.ev.carried else liveHist s
  wordAt (slotBytes (slotOfAge h (fld s 0x1310 5 0 + j / 8))) (4 * (j % 8))

/-- EVENT_STICKY_w (17 R503, R513): a bit is set 8 cycles after its event edge (02 R73). -/
def shownSticky (s : State) (w : Nat) : Word := rd s (0x1304 + w) &&& ~~~(stickLate true s (0x1304 + w))

/-- EVQ_STATE (17 R513). -/
def queueState (s : State) : Word :=
  BitVec.ofNat 32 ((readable s).length + 65536 * b2n (decide (256 ≤ (readable s).length)))

/-- The slot that the next entry goes to (17 R513): past the newest written one. -/
def nextSlot (s : State) : Nat :=
  match newestSeq (liveHist s) with
  | some n => (n + 1) % 64
  | none => (s.ev.nextSeq + 64 - goodSlots s.ev.hist % 64) % 64

/-- HIST_STATE (17 R513). -/
def histState (s : State) : Word :=
  let c := goodSlots s.ev.carried
  BitVec.ofNat 32 (nextSlot s + 64 * b2n (c != 0) + 256 * goodSlots (liveHist s) + 65536 * c)

/-- HIST_SEQ (17 R513); 0 where no live slot is valid. -/
def histSeq (s : State) : Word :=
  match newestSeq (liveHist s) with
  | some n => BitVec.ofNat 32 n
  | none => 0

/-- TICK_IN_BEAT (02 R53): before the first RUN beat edge ticks run in its phase (R538). -/
def tickInBeat (s : State) : Nat :=
  if !s.clk.ticks then 0
  else if s.clk.beats then tickJ s % 40
  else (40 - (s.clk.runEdge - s.clk.tickBase) / 25000 % 40) % 40

/-! ### Host port, twin -/

/-- INBOX_FILL (03 R102): bales in each lane. -/
def inboxFill (s : State) (p : Fin 2) : Word :=
  BitVec.ofNat 32 (leNat ((vget s.host p).inbox.toList.map fun l => BitVec.ofNat 8 l.length))

/-- TWIN_STATE (15 R462). -/
def twinState (s : State) : Word :=
  let t := s.twin
  BitVec.ofNat 32 (roleByte s + 256 * min 3 t.count + 1024 * b2n t.lanes + 2048 * b2n t.units + 65536 * t.item + 2 ^ 24 * t.cause)

/-! ### Time -/

/-- A value in ns as a saturating i32. -/
def satI32 (x : Int) : Word := BitVec.ofNat 32 (twosOf 32 (clampI (-2147483648) 2147483647 x))

/-- Is a step of R pending: a held switch difference, or a pending step of the active slot (14 R423, R425)? -/
def stepPending (s : State) : Bool := s.time.held || (vget s.time.slot s.time.active).step.isSome

/-- σ moves towards 0 (14 R425). -/
def slewing (s : State) : Bool := !s.time.held && sigmaNow s != 0

/-- TIME_STATE (14 R435). -/
def timeState (s : State) : Word :=
  BitVec.ofNat 32 (timeQ s + 4 * s.time.active.val + 8 * b2n (slewing s) + 16 * b2n (stepPending s) + 256 * twosOf 8 s.time.utc)

/-- σ in whole ns, saturating (14 R432, R435). -/
def sigmaWord (s : State) : Word := satI32 (floorDiv (sigmaNow s) (2 ^ 32))

/-- The status words of a slot, offsets 2 to 9 (14 R435). -/
def slotWord (s : State) (d : Fin 2) (off : Nat) : Word :=
  let t := vget s.time.slot d
  match off with
  | 2 =>
    let run := match t.run with
      | some r => min 10 ((s.clk.cycle - r.start) / secondCycles)
      | none => 0
    BitVec.ofNat 32 (t.state + 4 * b2n t.run.isSome + 8 * b2n t.step.isSome + 256 * run)
  | 3 => satI32 t.offset
  | 4 => satI32 (floorDiv (t.rate * 10 ^ 12) (2 ^ 40))
  | 5 => if slotSource s d = 1 then satI32 (match pathDelay t with
      | some x => x
      | none => 0) else 0
  | 6 => match t.parent with
    | some p => p.ann.clockId.setWidth 32
    | none => 0
  | 7 => match t.parent with
    | some p => (p.ann.clockId >>> 32).setWidth 32
    | none => 0
  | 8 => match t.parent with
    | some p => BitVec.ofNat 32 (p.ann.portNo.toNat + 65536 * (p.ann.clkClass % 256))
    | none => 0
  | _ => if t.state = 0 then 0 else match t.hold with
    | some h => BitVec.ofNat 32 ((s.clk.cycle - h) / secondCycles)
    | none => 0

/-! ### Any identifier -/

/-- YARD_STATE: a yard that powers up before the PD4 verdict of a bring-up reads on from its own cycle (16 R482). -/
def yardStateWord (s : State) (y : Nat) : Word :=
  let w := rd s (0x1000 * y + 0xFF2)
  match [7, 5, 6, 2, 3].findIdx? (· == y) with
  | some i => if inBringUp s && bitsOf w 1 0 == 3 && decide (6000000 + 1000000 * i ≤ s.clk.cycle) then putBits w 1 0 0 else w
  | none => w

/-- The words of PD0 and PD1 that are views. -/
def viewLow (s : State) (id : Nat) : Option Word :=
  match id with
  | 0x0000 => some (BitVec.ofNat 32 (s.power.rtc / 32768))
  | 0x0001 => some (BitVec.ofNat 32 (s.power.rtc / 32768 / 2 ^ 32 % 65536))
  | 0x0002 => some (BitVec.ofNat 32 (s.power.rtc % 32768))
  | 0x0003 => some (retState s)
  | 0x1000 => some Config.unitSerial
  | 0x1100 => some (BitVec.ofNat 32 s.clk.beat)
  | 0x1101 => some (BitVec.ofNat 32 (tickInBeat s))
  | 0x1207 => some (inboxFill s 0)
  | 0x1217 => some (inboxFill s 1)
  | 0x1304 => some (shownSticky s 0)
  | 0x1305 => some (shownSticky s 1)
  | 0x1306 => some (shownSticky s 2)
  | 0x1307 => some (shownSticky s 3)
  | 0x130C => some (queueState s)
  | 0x130E => some (histState s)
  | 0x130F => some (histSeq s)
  | 0x1401 => some (twinState s)
  | 0x1402 => some (BitVec.ofNat 32 (leaseField (if s.twin.holds then s.twin.lc else none)))
  | 0x1403 => some (BitVec.ofNat 32 (leaseField s.twin.lp))
  | 0x1506 => some (BitVec.ofNat 32 (powerCode s + 256 * s.power.wakeMask + 65536 * s.power.verdict))
  | 0x1507 => some (putBits (rd s 0x1507) 7 0 (suppliesByte s))
  | _ => if 0x1320 ≤ id ∧ id < 0x1340 then some (histView s (id - 0x1320)) else none

/-- The words of PD5 and PD6 that are views. -/
def viewField (s : State) (id : Nat) : Option Word :=
  if 0x5000 ≤ id ∧ id < 0x5300 then
    if id % 16 = 13 then some (axisStateWord (axisAt s ((id - 0x5000) / 16))) else none
  else if 0x5400 ≤ id ∧ id < 0x5700 then
    let l := (id - 0x5400) / 16
    let u := vgetD s.filt.lanes l LaneUnit.start
    match id % 16 with
    | 1 => some (filterPrivate s l)
    | 2 => some (filterStatus s l)
    | 3 => some (BitVec.ofNat 32 (twosOf 24 u.out))
    | 4 => some (BitVec.ofNat 32 u.outIdx)
    | 5 => some (BitVec.ofNat 32 (twosOf 24 (roundEven u.dc 16)))
    | _ => none
  else if 0x6000 ≤ id ∧ id < 0x6300 then
    if id % 16 = 4 then some (chanStatusWord s ((id - 0x6000) / 16)) else none
  else if id = 0x6401 ∨ id = 0x6411 then some (bankStatusWord s ((id - 0x6400) / 16))
  else if id = 0x6404 ∨ id = 0x6414 then some (BitVec.ofNat 32 (min 65535 (bankAt s ((id - 0x6400) / 16)).mA))
  else none

/-- The words of PD7 that are views. -/
def viewComms (s : State) (id : Nat) : Option Word :=
  if 0x7000 ≤ id ∧ id < 0x7100 then
    let b := (id - 0x7000) / 64
    let o := id % 64
    if o = 8 then some (canStateWord s b)
    else if 0x10 ≤ o ∧ o < 0x18 then some (clashWord (canAt s b) (o - 0x10))
    else if 0x18 ≤ o ∧ o < 0x20 then some (clashBeat (canAt s b) (o - 0x18))
    else none
  else match id with
    | 0x710A => some ((Config.mac 0).setWidth 32)
    | 0x710B => some (((Config.mac 0) >>> 32).setWidth 32)
    | 0x711A => some ((Config.mac 1).setWidth 32)
    | 0x711B => some (((Config.mac 1) >>> 32).setWidth 32)
    | 0x7204 => some (timeState s)
    | 0x7205 => some (sigmaWord s)
    | _ =>
      if 0x7212 ≤ id ∧ id ≤ 0x7219 then some (slotWord s 0 (id - 0x7210))
      else if 0x7222 ≤ id ∧ id ≤ 0x7229 then some (slotWord s 1 (id - 0x7220))
      else none

/-- The word that a read of an identifier returns (04 R129): a view, or the stored word. -/
def readParam (s : State) (id : Nat) : Word :=
  let v := if id % 0x1000 = 0xFF2 then some (yardStateWord s (id / 0x1000))
    else if id < 0x2000 then viewLow s id
    else if 0x5000 ≤ id ∧ id < 0x7000 then viewField s id
    else if 0x7000 ≤ id then viewComms s id
    else none
  match v with
  | some w => w
  | none => rd s id

/-! ### IDENT and STATUS -/

/-- PART, "TB-PDM48-AF" padded with zeros. -/
def partName : List Byte := asciiOf "TB-PDM48-AF" ++ zeroBytes 5

/-- The data of IDENT (04 R124). -/
def identData (s : State) : List Byte :=
  leBytes 1 (unitNumber s) ++ leBytes 1 (fld s 0x1001 7 0) ++ leBytes 2 (fld s 0x1002 15 0) ++ partName ++
    wordBytes Config.unitSerial ++ leBytes 2 48 ++ leBytes 1 16 ++ leBytes 1 48 ++ leBytes 4 0xF

/-- HALTER of STATUS (04 R125, 16 R487). -/
def halterByte (s : State) : Nat :=
  let run := !inBringUp s
  b2n (run && s.twin.holds) + 2 * b2n (if run then s.twin.present else s.twin.partner.isSome || s.twin.hbBeat.isSome) +
    4 * b2n (partnerHolds s) + 8 * b2n (run && s.twin.lanes) + 16 * b2n (run && s.twin.units)

/-- YARDS of STATUS. -/
def yardsHalf (s : State) : Nat :=
  (List.range 8).foldl (fun a y => a + 4 ^ y * bitsOf (yardStateWord s y) 1 0) 0

/-- ALLOC of STATUS (04 R125), from ALLOC_STATE's FLAGS. -/
def allocByte (s : State) : Nat :=
  fld s 0x24C0 4 0

/-- REFS of STATUS (04 R125). -/
def refsByte (s : State) : Nat :=
  let v (i : Fin 2) : VoteUnit := vget s.fus.votes i
  b2n ((v 0).hold.isSome || (v 1).hold.isSome) + 2 * b2n ((v 0).lost || (v 1).lost)

/-- STICKY of STATUS. -/
def stickyHalf (s : State) : Nat :=
  (List.range 8).foldl (fun a y => a + 2 ^ y * b2n (rd s (0x1000 * y + 0xFF5) != 0)) 0 +
    256 * b2n (rd s 0x1204 != 0) + 512 * b2n (rd s 0x1214 != 0) + 1024 * b2n (rd s 0x1007 != 0)

end Sys2Proof.Machine
end

