-- ==== Sys2Proof/Machine/ParamWrites.lean ====
section
/-! DEFINITION. PARAM_READ, PARAM_WRITE and PARAM_DESCRIBE (04 R129-R131): the checks of a write in ascending identifier order, the
value checks that the owning chapters name, the words a write stores, and what a write of some identifiers does beside storing
them. The rows that are a write of one setting are PARAM_WRITEs of it. -/
namespace Sys2Proof.Machine

/-- An entry of PARAM_WRITE: identifier and value. -/
abbrev Entry := Nat × Word

/-- The entries of a PARAM_WRITE payload, in payload order. -/
def payloadEntries (p : List Byte) : List Entry :=
  (List.range ((p.length - 4) / 6)).map fun i => (leAt p (4 + 6 * i) 2, wordAt p (6 + 6 * i))

/-- Insert an entry by identifier. -/
def entryInsert (e : Entry) : List Entry → List Entry
  | [] => [e]
  | x :: r => if e.1 < x.1 then e :: x :: r else x :: entryInsert e r

/-- Entries in ascending identifier order. -/
def ascending (l : List Entry) : List Entry := l.foldr entryInsert []

/-! ### Step 1: shape -/

/-- Does an entry name an identifier with a writable field, with zeros everywhere else (04 R130)? -/
def entryShape (e : Entry) : Bool :=
  match paramRow e.1 with
  | none => false
  | some r => writableMask e.1 r != 0 && zeroIn e.2 (~~~(writableMask e.1 r))

/-- Does the identifier hold an RWX field? -/
def idHasRwx (id : Nat) : Bool :=
  match paramRow id with
  | some r => r.hasRwx
  | none => false

/-! ### Stored words -/

/-- The word an identifier holds after an entry (04 R130, R14; 01 R24): RW and RWX fields replaced, W1C bits cleared where the entry has
1, except bits that the module sets in the same cycle; on a poisoned stall the other W1C bits become 0. HIST_CLEAR reads 0 (17 R513). -/
def writtenWord (s : State) (id : Nat) (v : Word) : Word :=
  match paramRow id with
  | none => rd s id
  | some r =>
    let w := rd s id
    let c := w1cMask r
    let m := writableMask id r &&& ~~~c
    if id = 0x1311 then 0
    else (w &&& ~~~m &&& ~~~c) ||| (v &&& m) ||| (if s.poison.contains id then 0 else w &&& c &&& ~~~v) ||| (setBitsNow s id &&& w &&& c)

/-- The register file after the entries. -/
def regsAfter (s : State) (l : List Entry) : Regs := l.foldl (fun r e => regSet r e.1 (writtenWord s e.1 e.2)) s.regs

/-! ### Step 3: values -/

/-- Is x within bounds? -/
def inRange (lo hi x : Nat) : Bool := decide (lo ≤ x) && decide (x ≤ hi)

/-- Lane sizes within 1 to 29 units, 4 to 32 together (03 R95). -/
def layoutOk (w : Word) : Bool :=
  let u := [bitsOf w 7 0, bitsOf w 15 8, bitsOf w 23 16, bitsOf w 31 24]
  u.all (inRange 1 29) && inRange 4 32 (u.foldl (· + ·) 0)

/-- No fill level above its lane's bales (03 R96). -/
def fillFits (layout fill : Word) : Bool :=
  (List.range 4).all fun l => decide (bitsOf fill (8 * l + 7) (8 * l) ≤ 8 * bitsOf layout (8 * l + 7) (8 * l))

/-- A subnet mask of prefix 8 to 30 (14 R430). -/
def maskOk (m : Word) : Bool := (List.range 23).any fun i => m == BitVec.ofNat 32 (2 ^ 32 - 2 ^ (24 - i))

/-- No multicast, network or broadcast address, nor one in the other port's subnet (14 R430); 0 is none. -/
def ipOk (r : Regs) (e : Nat) : Bool :=
  let ip := regGet r (0x7101 + 16 * e)
  let m := regGet r (0x7102 + 16 * e)
  let oip := regGet r (0x7101 + 16 * (1 - e))
  let om := regGet r (0x7102 + 16 * (1 - e))
  ip == 0 || (bitsOf ip 31 28 != 14 && (ip &&& ~~~m) != 0 && (ip ||| m) != 0xFFFFFFFF &&
    (oip == 0 || (ip &&& om) != (oip &&& om)))

/-- STATUS_GROUP is neither RCOM nor TIME (14 R412, R430). -/
def groupOk (g : Nat) : Bool := g != 5 && g != 6

/-- INC within 9.999 to 10.001 ns (14 R414). -/
def incOk (r : Regs) : Bool :=
  let x := bitsOf (regGet r 0x7202) 7 0 * 2 ^ 32 + (regGet r 0x7201).toNat
  inRange (9999 * 2 ^ 32) (10001 * 2 ^ 32) (1000 * x)

/-- SOURCE of a slot in a register file. -/
def cfgSource (r : Regs) (d : Nat) : Nat := bitsOf (regGet r (0x7210 + 16 * d)) 1 0

/-- At most one GNSS slot, and no two PTP slots of equal domain, transport and port (14 R417). -/
def slotsDiffer (r : Regs) : Bool :=
  let a := regGet r 0x7210
  let b := regGet r 0x7220
  let key (w : Word) : Nat × Nat × Nat := (bitsOf w 15 8, bitsOf w 2 2, bitsOf w 5 4)
  !(cfgSource r 0 == 2 && cfgSource r 1 == 2) && !(cfgSource r 0 == 1 && cfgSource r 1 == 1 && key a == key b)

/-- A slot on UDP names no port without an address (14 R431). -/
def slotPortOk (r : Regs) (d : Nat) : Bool :=
  let w := regGet r (0x7210 + 16 * d)
  bitOf w 2 || bitsOf w 5 4 == 0 || regGet r (0x7101 + 16 * (bitsOf w 5 4 - 1)) != 0

/-- The value checks of PD0 and PD1 (16 R495, R496; 04 R140; 02; 03 R102; 15 R462). -/
def lowParamOk (s : State) (r : Regs) (ids : List Nat) (id : Nat) : Bool :=
  let w := regGet r id
  let a := (regGet r 0x0004).toNat + 2 ^ 32 * bitsOf (regGet r 0x0005) 15 0
  let alarmOk := s.power.rtcValid && (a == 0 || decide (s.power.rtc / 32768 < a))
  match id with
  | 0x0004 => alarmOk
  | 0x0005 => ids.contains 0x0004 || alarmOk
  | 0x1006 => w == 0 || inRange 10 3600 w.toNat
  | 0x1105 => inRange 2 64 (bitsOf w 7 0)
  | 0x1200 => layoutOk w && fillFits w (regGet r 0x1202)
  | 0x1201 => layoutOk w
  | 0x1202 => fillFits (regGet r 0x1200) w
  | 0x1203 => bitsOf w 7 0 != 0
  | 0x1210 => layoutOk w && fillFits w (regGet r 0x1212)
  | 0x1211 => layoutOk w
  | 0x1212 => fillFits (regGet r 0x1210) w
  | 0x1213 => bitsOf w 7 0 != 0
  | 0x1219 => bitsOf w 15 0 != 0
  | 0x1400 => inRange 10 255 (bitsOf w 15 8)
  | 0x1500 => inRange 60 3600 (bitsOf w 31 16)
  | 0x1501 => inRange 10 300 (bitsOf w 15 0)
  | 0x1502 => bitsOf w 13 12 != 3 && (bitsOf w 11 8 == fld s 0x1502 11 8 ||
      (List.range 4).all fun b => !bitOf w (8 + b) || bitOf (regGet r (0x7000 + 64 * b)) 0)
  | 0x1503 => canIdOk w
  | _ => true

/-- The value checks of the Ethernet ports and the time keeper (14 R430, R431, R433-R435). -/
def timeParamOk (r : Regs) (ids : List Nat) (id : Nat) : Bool :=
  let w := regGet r id
  if 0x7100 ≤ id ∧ id < 0x7120 then
    let e := (id - 0x7100) / 16
    match id % 16 with
    | 0 => groupOk (bitsOf w 11 8)
    | 1 => ipOk r e
    | 2 => maskOk w && (ids.contains (id - 1) || ipOk r e)
    | 3 => inRange 1 9999 (bitsOf w 15 0)
    | _ => true
  else match id with
    | 0x7200 => inRange 1 1000 (bitsOf w 31 16) && cfgSource r (bitsOf w 0 0) != 0
    | 0x7201 => incOk r
    | 0x7202 => incOk r
    | _ =>
      if id = 0x7210 ∨ id = 0x7220 then
        let d := (id - 0x7210) / 16
        bitsOf w 1 0 != 3 && bitsOf w 5 4 != 3 && decide (bitsOf w 15 8 ≤ 127) && inRange 1 64 (bitsOf w 31 16) &&
          slotsDiffer r && slotPortOk r d
      else if id = 0x7211 ∨ id = 0x7221 then decide ((signedOf 32 w.toNat).natAbs ≤ 1000000)
      else true

/-- The source checks, with those of an enable (05 R167, R168, R170). -/
def sourceParamOk (s : State) (r : Regs) (id : Nat) : Bool :=
  if 0x2200 ≤ id ∧ id < 0x2300 then
    let q := (id - 0x2200) / 8
    srcParamOk r q (id % 8) && (id % 8 != 0 || !bitOf (regGet r id) 0 || flag s id 0 || enableOk r q)
  else true

/-- Does the identifier reserve identifiers of a bus (13 R539): a reference source's, the switchboard's, THR_FRAME_ID or HB_ID? -/
def reservesIds (r : Regs) (id : Nat) : Bool :=
  id == 0x2480 || id == 0x2481 ||
    (decide (0x7000 ≤ id) && decide (id < 0x7100) && (id % 64 == 4 || id % 64 == 5)) ||
    (decide (0x2200 ≤ id) && decide (id < 0x2300) && decide (id % 8 ≤ 1) &&
      (let c := regGet r (id / 8 * 8)
       bitOf c 0 && bitsOf c 5 4 == 2))

/-- Every value check of an identifier, on the register file as it stands after the request (04 R130 step 3). -/
def valueOk (s : State) (r : Regs) (ids : List Nat) (id : Nat) : Bool :=
  lowParamOk s r ids id && timeParamOk r ids id && sourceParamOk s r id && fusionParamOk r id && gnssParamOk r id &&
    controlParamOk r id && allocParamOk r id && filterParamOk s r id && axisParamOk r id && fieldParamOk ids r id &&
    canParamOk r id && (if 0x3000 ≤ id ∧ id ≤ 0x3006 then tolOk (id - 0x3000) (regGet r id) else true) &&
    (!reservesIds r id || idsDistinct r)

/-! ### The order of checks -/

/-- The first entry that fails, with the status its failed step gives (04 R130). dup: the identifiers named twice. -/
def firstFault (inS : Bool) (s : State) (r : Regs) (ids dup : List Nat) : List Entry → Option (Nat × Nat)
  | [] => none
  | e :: rest =>
    if dup.contains e.1 || !entryShape e then some (stBadParam, e.1)
    else if idHasRwx e.1 && !inS then some (stNotPermitted, e.1)
    else if !valueOk s r ids e.1 then some (stBadParam, e.1)
    else firstFault inS s r ids dup rest

/-- Identifiers that stand twice in a rising list. -/
def twice : List Nat → List Nat
  | a :: b :: r => if a = b then a :: twice (b :: r) else twice (b :: r)
  | _ => []

/-- The checks of a PARAM_WRITE (04 R130): reserved bytes, then the entries in ascending identifier order. -/
def writeCheck (port : Fin 2) (p : List Byte) (s : State) : Option (Nat × Nat) :=
  if !zerosAt p 2 2 then some (stBadParam, 0xFFFF) else
  let l := ascending (payloadEntries p)
  let ids := l.map (·.1)
  firstFault (inSession s port) s (regsAfter s l) ids (twice ids) l

/-! ### BUSY -/

/-- An enabled source's settings, ENABLE apart, do not change (05 R167). -/
def sourceBusy (s : State) (r : Regs) (id : Nat) : Bool :=
  decide (0x2200 ≤ id) && decide (id < 0x2300) && flag s (id / 8 * 8) 0 &&
    (rd s id ^^^ regGet r id) &&& (if id % 8 = 0 then 0xFFFFFFFE#32 else 0xFFFFFFFF#32) != 0

/-- Is the port free for a new layout (03 R95): every lane empty and no selection open? -/
def portIdle (s : State) (p : Fin 2) : Bool :=
  let h := vget s.host p
  h.inbox.toList.all (·.isEmpty) && h.outbox.toList.all (·.isEmpty) && !(p == 0 && s.line.sel.sel)

/-- Is what an identifier sets held elsewhere (04 R111 order 5; 03 R95, 05 R167, 06 R199, 10, 11 R346, 12 R370, 13 R383)? -/
def idBusy (s : State) (r : Regs) (id : Nat) : Bool :=
  sourceBusy s r id || ((id == 0x2301 || id == 0x2302) && fld s 0x2000 2 0 != 0) ||
    ((id == 0x1200 || id == 0x1201) && !portIdle s 0) || ((id == 0x1210 || id == 0x1211) && !portIdle s 1) ||
    filterParamBusy s r id || axisParamBusy s r id || fieldParamBusy s r id || canParamBusy s r id

/-! ### Fences and poison -/

/-- The block that an identifier addresses, where it is one block's (01 R31; the indices of log 12). -/
def blockOf (id : Nat) : Option (Nat × Nat) :=
  if isHealthId id then none
  else if 0x5000 ≤ id ∧ id < 0x5300 then some (5, 16 + (id - 0x5000) / 128)
  else if 0x5400 ≤ id ∧ id < 0x5700 then
    if 0x5408 ≤ id ∧ id ≤ 0x540A then none else some (5, (id - 0x5400) / 96)
  else if 0x6000 ≤ id ∧ id < 0x6300 then some (6, (id - 0x6000) / 384)
  else if 0x6400 ≤ id ∧ id < 0x6420 then some (6, (id - 0x6400) / 16)
  else if 0x7000 ≤ id ∧ id < 0x7100 then some (7, (id - 0x7000) / 64)
  else if 0x7100 ≤ id ∧ id < 0x7120 then some (7, 4 + (id - 0x7100) / 16)
  else if 0x7300 ≤ id ∧ id < 0x7340 then some (7, 6 + (id - 0x7300) / 16)
  else if 0x7400 ≤ id ∧ id < 0x7440 then some (7, 10)
  else none

/-- Does the identifier's block stand fenced, or in the reset after its first fault (01 R29, R31)? -/
def idBlocked (s : State) (id : Nat) : Bool :=
  match blockOf id with
  | some (y, b) => blockFenced s y b || blockResetting s y b
  | none => false

/-- Does the identifier show what a poisoned return frame would have brought (01 R25, 11 R324): CH_STATUS, BANK_STATUS, BANK_CURRENT? -/
def linkData (s : State) (id : Nat) : Bool :=
  (decide (0x6000 ≤ id) && decide (id < 0x6300) && id % 16 == 4 && linkPoison s ((id - 0x6000) / 384)) ||
    (decide (0x6400 ≤ id) && decide (id < 0x6420) && (id % 16 == 1 || id % 16 == 4) && linkPoison s ((id - 0x6400) / 16))

/-- A read finds a fenced yard, health parameters apart, a fenced block or a poisoned stall (04 R129, 01 R25, R31). -/
def readInternal (s : State) (id : Nat) : Bool :=
  (yardFenced s (yardOf id) && !isHealthId id) || idBlocked s id || linkData s id || s.poison.contains id

/-- Does the identifier hold an RO field? -/
def hasRo (id : Nat) : Bool :=
  match paramRow id with
  | some r => r.fields.any (·.acc == .ro)
  | none => false

/-- A write meets a fenced yard or block, or a poisoned stall with RO fields (04 R130, 01 R24, R31). -/
def writeInternal (s : State) (id : Nat) : Bool :=
  yardFenced s (yardOf id) || idBlocked s id || (s.poison.contains id && hasRo id)

/-! ### Effects beside the stored words -/

/-- A source is enabled or disabled as REF_ENABLE does (05 R170). -/
def sourceEffects (l : List Entry) (s : State) : State :=
  l.foldl (fun s e => if 0x2200 ≤ e.1 ∧ e.1 < 0x2300 ∧ e.1 % 8 = 0 then
    setEnable ((e.1 - 0x2200) / 8) (bitOf e.2 0) s else s) s

/-- The origin is written (06 R199): the next intake takes it, and a track of waypoints lapses (08 R259). -/
def originEffect (l : List Entry) (s : State) : State :=
  if l.any (fun e => e.1 == 0x2301 || e.1 == 0x2302) then
    clearTrack { s with fus := { s.fus with originMoved := some s.clk.beat } } else s

/-- A slot whose SOURCE, DOMAIN, TRANSPORT or PORT changes begins anew in NO_TIME (14 R422). -/
def slotEffect (before : State) (d : Fin 2) (s : State) : State :=
  let m : Word := 0xFF37
  if (rd before (slotId d 0) &&& m) = (rd s (slotId d 0) &&& m) then s else
  let s1 := updSlot d (fun t => { enterSlot s 3 t with
    run := none, step := none, foreign := [], parent := none, paths := [], diff := none, sync := none, respAt := none
    req := none, reqBeat := none, applied := none }) s
  refreshUtc (slotEvents before d [] s1)

/-- σ keeps its value when SWITCH_SLEW changes (14 R425). -/
def anchorSigma (s : State) : State :=
  { s with time := { s.time with sigma := sigmaNow s, sigmaAt := s.clk.lambda } }

/-- TIME_CTRL is written (14 R426, R433, R435): a SELECT that differs from the active slot switches. -/
def selectEffect (s : State) : State :=
  let b : Fin 2 := if flag s 0x7200 0 then 1 else 0
  if b = s.time.active then s else switchSlot b false s

/-- What a change of a port's address or groups sends (14 R409, R412): an announcement of a new address, and reports or leaves of the
groups. -/
def ethEffect (before : State) (e : Fin 2) (s : State) : State :=
  if !ethOn s e || rd s (ethId e 1) = 0 then s else
  let leaves := ((joinedGroups before e).filter fun g => ethOn before e && !groupJoined s e g).foldl
    (fun s g => ethQueue e s.clk.cycle (.igmpLeave g) s)
  if !ethOn before e || rd before (ethId e 1) != rd s (ethId e 1) then leaves (announceAddress e s)
  else leaves (((joinedGroups s e).filter fun g => !groupJoined before e g).foldl
    (fun s g => ethQueue e s.clk.cycle (.igmpReport g) s) s)

/-- SUPPLY_PREF changes the input that feeds the module (16 R468). -/
def supplyEffect (s : State) : State :=
  let p := s.power
  let use := if flag s 0x1500 0 then p.dc || (!p.mains && p.dcInUse) else p.dc && !p.mains || (!p.mains && !p.dc && p.dcInUse)
  if use == p.dcInUse then s else
  let s1 := sticky { s with power := { p with dcInUse := use } } 0x150A 0
  raise 8 (supplyBits s1) s1

/-- A fill level written down to a lane's fill is reached from below (03 R96). -/
def fillEffect (before : State) (p : Fin 2) (s : State) : State :=
  let id := portId p 2
  let lanes := (List.range 4).filter fun l =>
    let n := ((vget s.host p).inbox.toList.getD l []).length
    decide (n < fld before id (8 * l + 7) (8 * l)) && n == fld s id (8 * l + 7) (8 * l) && n != 0
  raiseAll (lanes.map fun l => (20, p.val + 256 * l)) s

/-- The effects of a write beside its stored words. before: the state before the commit. -/
def writeEffects (before : State) (l : List Entry) (s : State) : State :=
  let has (id : Nat) : Bool := l.any (·.1 == id)
  let on (b : Bool) (f : State → State) (s : State) : State := if b then f s else s
  let s1 := originEffect l s
  let s2 := on (has 0x7220) (slotEffect before 1) (on (has 0x7210) (slotEffect before 0) s1)
  let s3 := on (has 0x7203) refreshUtc (on (has 0x7200) selectEffect s2)
  let s4 := on (l.any fun e => decide (0x7100 ≤ e.1) && decide (e.1 < 0x7110)) (ethEffect before 0) s3
  let s5 := on (l.any fun e => decide (0x7110 ≤ e.1) && decide (e.1 < 0x7120)) (ethEffect before 1) s4
  let s6 := on (l.any fun e => decide (0x4000 ≤ e.1) && decide (e.1 ≤ 0x4008)) (gnssEffect before) s5
  let s7 := on (has 0x1219 || has 0x121A) (closeSession 1 2) s6
  let s8 := on (l.any fun e => e.1 == 0x1311 && bitOf e.2 0)
    (fun s => { s with ev := { s.ev with hist := Vector.replicate 64 none, nextSeq := 0 } }) s7
  on (has 0x1212) (fillEffect before 1) (on (has 0x1202) (fillEffect before 0) (on (has 0x1500) supplyEffect s8))

/-- Apply the entries of a write whose checks pass (04 R130). -/
def applyEntries (l : List Entry) (s : State) : State :=
  let s1 := if l.any (·.1 == 0x7200) then anchorSigma s else s
  writeEffects s1 l { sourceEffects l s1 with regs := l.foldl (fun r e => regSet r e.1 (writtenWord s1 e.1 e.2)) s1.regs }

/-! ### Opcodes -/

/-- The stalls that an effect tied to a write of the identifier writes (01 R535): the counters of a source enabled with SRC_CTRL, the track
and the picks that a new origin clears, the heading and antenna states of the baseband, the session of port 1, the history. -/
def tiedTargets (id : Nat) : List Nat :=
  if 0x2200 ≤ id ∧ id < 0x2300 then (if id % 8 = 0 then [0x20000 + (id - 0x2200) / 8] else [])
  else if id = 0x2301 ∨ id = 0x2302 then [0x2101, 0x2322]
  else if 0x4000 ≤ id ∧ id ≤ 0x4008 then [0x4010, 0x4011, 0x4014]
  else if id = 0x1219 ∨ id = 0x121A then [0x1005]
  else if id = 0x1311 then [0x08001300]
  else []

/-- PARAM_WRITE (04 R129, R130, R122). -/
def opParamWrite : OpSpec where
  code := 0x08
  count p := p.length == 4 + 6 * leAt p 0 2
  check := writeCheck
  busy _ p s :=
    let l := payloadEntries p
    let r := regsAfter s l
    l.any fun e => idBusy s r e.1
  halter p _ := (payloadEntries p).any fun e => isMirrored e.1
  halterAt p := match (ascending (payloadEntries p)).find? fun e => isMirrored e.1 with
    | some e => e.1
    | none => 0xFFFF
  internal p s := (payloadEntries p).any fun e => writeInternal s e.1
  targets p _ := (payloadEntries p).map (·.1)
  tied p _ := (payloadEntries p).flatMap fun e => tiedTargets e.1
  commit _ p s := okResult (applyEntries (payloadEntries p) s)

/-- PARAM_WRITE. -/
def execParamWrite (r : Req) (s : State) : Out := .next (serve opParamWrite r s)

/-- The identifiers of a PARAM_READ payload. -/
def readIds (p : List Byte) : List Nat := (List.range ((p.length - 4) / 2)).map fun i => leAt p (4 + 2 * i) 2

/-- The first of a list of identifiers outside the parameter space, the lowest. -/
def unknownId (l : List Nat) : Option Nat :=
  let bad := l.filter fun id => (paramRow id).isNone
  match bad with
  | [] => none
  | a :: r => some (r.foldl min a)

/-- The word of an identifier with its reserved bits zero (04 R129). -/
def shownWord (s : State) (id : Nat) : Word :=
  match paramRow id with
  | some r => readParam s id &&& r.mask fun _ => true
  | none => 0

/-- PARAM_READ (04 R129). parity: the identifiers in whose stall this read finds a parity error (01 R23). -/
def opParamRead (parity : List Nat) : OpSpec where
  code := 0x06
  count p := p.length == 4 + 2 * leAt p 0 2
  check _ p _ := if !zerosAt p 2 2 then some (stBadParam, 0xFFFF) else match unknownId (readIds p) with
    | some id => some (stBadParam, id)
    | none => none
  internal p s := (readIds p).any (readInternal s)
  commit _ p s :=
    let bad := (readIds p).filter parity.contains
    if bad.isEmpty then okData s ((readIds p).flatMap fun id => wordBytes (shownWord s id))
    else refuse (bad.foldl (fun s id => poisonStall (yardOf id) id s) s) stInternal 0xFFFF

/-- PARAM_READ. -/
def execParamRead (r : Req) (parity : List Nat) (s : State) : Out := .next (serve (opParamRead parity) r s)

/-- ACCESS of PARAM_DESCRIBE (04 R131). -/
def accessCode : Access → Nat
  | .ro => 0
  | .rw => 1
  | .rwx => 2
  | .w1c => 3

/-- The reset word that PARAM_DESCRIBE reports: factory values, the number coded on X11 and the kind of bring-up are the unit's own. -/
def describedReset (s : State) (id : Nat) : Word :=
  if id = 0x1004 then BitVec.ofNat 32 (b2n s.power.cold)
  else if id = 0x1000 ∨ id = 0x1003 ∨ id = 0x710A ∨ id = 0x710B ∨ id = 0x711A ∨ id = 0x711B then readParam s id
  else resetWord id

/-- The 8 bytes of a field (04 R131). -/
def fieldBytes (mirrored : Bool) (w : Word) (f : ParamField) : List Byte :=
  leBytes 1 f.hi ++ leBytes 1 f.lo ++ leBytes 1 (accessCode f.acc) ++ leBytes 1 (3 * b2n mirrored + 4 * b2n f.sat) ++
    leBytes 4 (bitsOf w f.hi f.lo)

/-- PARAM_DESCRIBE (04 R131). -/
def opParamDescribe : OpSpec where
  code := 0x0E
  check _ p _ :=
    if (paramRow (leAt p 0 2)).isNone then some (stBadParam, leAt p 0 2)
    else if !zerosAt p 2 2 then some (stBadParam, 0xFFFF) else none
  commit _ p s :=
    let id := leAt p 0 2
    match paramRow id with
    | none => refuse s stBadParam id
    | some r => okData s (leBytes 1 r.fields.length ++ zeroBytes 1 ++ leBytes 2 id ++
        r.fields.flatMap (fieldBytes r.mirrored (describedReset s id)))

/-- PARAM_DESCRIBE. -/
def execParamDescribe (r : Req) (s : State) : Out := .next (serve opParamDescribe r s)

/-! ### Writes of one setting -/

/-- The payload of a PARAM_WRITE of some entries (04 R129). -/
def writePayload (l : List Entry) : List Byte :=
  leBytes 2 l.length ++ zeroBytes 2 ++ l.flatMap fun e => leBytes 2 e.1 ++ wordBytes e.2

/-- A PARAM_WRITE of the entries. -/
def writeRow (h : ReqHead) (l : List Entry) (s : State) : Out := .next (serve opParamWrite ⟨h, writePayload l⟩ s)

/-- Entries that are present. -/
def someEntries (l : List (Nat × Option Word)) : List Entry :=
  l.filterMap fun x => match x.2 with
    | some w => some (x.1, w)
    | none => none

/-- SRC_CTRL of source q is written (05 R170). -/
def execSrcCtrlWrite (h : ReqHead) (q : Fin 32) (v : Word) (s : State) : Out := writeRow h [(0x2200 + 8 * q.val, v)] s

/-- TIME_CTRL is written (14 R435). -/
def execTimeCtrlWrite (h : ReqHead) (v : Word) (s : State) : Out := writeRow h [(0x7200, v)] s

/-- ORIGIN_LAT, ORIGIN_LON or both are written (06 R199). -/
def execOriginWrite (h : ReqHead) (lat lon : Option Word) (s : State) : Out :=
  writeRow h (someEntries [(0x2301, lat), (0x2302, lon)]) s

/-- HIST_SELECT is written (17 R510). -/
def execHistSelect (h : ReqHead) (v : Word) (s : State) : Out := writeRow h [(0x1310, v)] s

/-- HIST_CLEAR is written (17 R510). -/
def execHistClear (h : ReqHead) (v : Word) (s : State) : Out := writeRow h [(0x1311, v)] s

/-- BANK_LATCH of a bank is written (11 R339, R343). -/
def execBankLatchClear (h : ReqHead) (bank : Fin 2) (v : Word) (s : State) : Out :=
  writeRow h [(0x6402 + 16 * bank.val, v)] s

/-- INBOX_LAYOUT, OUTBOX_LAYOUT or both are written (03 R95). -/
def execInboxLayoutWrite (h : ReqHead) (port : Fin 2) (inbox outbox : Option Word) (s : State) : Out :=
  writeRow h (someEntries [(portId port 0, inbox), (portId port 1, outbox)]) s

/-- CMD_PEER, CMD_UDP_PORT or both are written (04 R118). -/
def execCmdPeerWrite (h : ReqHead) (peer udp : Option Word) (s : State) : Out :=
  writeRow h (someEntries [(0x1219, udp), (0x121A, peer)]) s

/-- CAN_CTRL of a bus is written (13 R383). -/
def execCanCtrlWrite (h : ReqHead) (bus : Fin 4) (v : Word) (s : State) : Out := writeRow h [(0x7000 + 64 * bus.val, v)] s

/-- BUS_PRESENT of a power bus is written (09 R294). -/
def execBusPresentWrite (h : ReqHead) (bus : Fin 4) (v : Word) (s : State) : Out := writeRow h [(0x2492 + 4 * bus.val, v)] s

/-- TIME_INC_LO, TIME_INC_HI or both are written (14 R414). -/
def execTimeIncWrite (h : ReqHead) (lo hi : Option Word) (s : State) : Out :=
  writeRow h (someEntries [(0x7201, lo), (0x7202, hi)]) s

end Sys2Proof.Machine
end

