-- ==== Sys2Proof/Machine/Command.lean ====
section
/-! DEFINITION. Identity, status, events, the expert session, configuration files, restarts, and the commands of Ethernet, time and power
(04 R115-R137, 14 R430-R433, 16 R474, R493, R494), with the firmware's repeat of a lost write (01 R43). -/
namespace Sys2Proof.Machine

/-! ### Command firmware -/

/-- A command firmware write that lost is repeated 8 cycles after the lost commit cycle (01 R43), counted (17 R512) and ranked with the
commits of its cycle as class 3, port 4. A repeat that loses again is kept, and the next of these rows repeats it 8 cycles after that
cycle. c: the cycle of the repeat of a write that the firmware lost on its own account. -/
def execFirmwareRepeat (c : Nat) (writes : List FwWrite) (s : State) : Out :=
  let due := match s.arb.fwLost with
    | some x => x
    | none => (c, writes)
  let s := bump (advance due.1 s) 0x1312 15 0 1
  let l := due.2.filterMap fun w => match paramRow w.id with
    | some r => some (w.id, w.value &&& r.mask fun _ => true)
    | none => none
  match arbitrate 3 4 (l.map (·.1)) s with
  | none => .next { s with arb := { s.arb with fwLost := some (s.clk.cycle + 8, due.2) } }
  | some s1 => .next (wrAll { s1 with arb := { s1.arb with fwLost := none } } l)

/-! ### Sessions -/

/-- The idle limit of a session passes (04 R118). -/
def execSessionIdleExpiry (p : Fin 2) (s : State) : Out :=
  let n := fld s 0x1006 15 0
  if n = 0 ∨ !sessionOpen s p then .next s else
  .next (closeSession p 1 (advance ((vget s.session p).lastEdge + n * 100000000) s))

/-- The mismatch count of a port in SESSION_STATE (04 R140). -/
def mismatchLo (p : Fin 2) : Nat := 8 + 2 * p.val

/-- The lock of EXPERT_OPEN ends (04 R117). -/
def execExpertLockEnd (p : Fin 2) (s : State) : Out :=
  match (vget s.session p).lockEnd with
  | none => .next s
  | some e =>
    .next (wrFld { advance e s with session := vupd s.session p fun x => { x with lockEnd := none } }
      0x1005 (mismatchLo p + 1) (mismatchLo p) 0)

/-- A mismatch (04 R116, R117): counted, sticky, EXPERT_DENIED; the third in a row locks the port for 10 s. -/
def expertDenied (p : Fin 2) (s : State) : State :=
  let n := min 3 (fld s 0x1005 (mismatchLo p + 1) (mismatchLo p) + 1)
  let s1 := sticky (wrFld s 0x1005 (mismatchLo p + 1) (mismatchLo p) n) 0x1007 0
  let s2 := if n = 3 then
      { s1 with session := vupd s1.session p fun x => { x with lockEnd := some (s.clk.cycle + 1000000000) } }
    else s1
  raise 22 p.val s2

/-- A match (04 R116): the session is open, its idle timer restarts, the mismatch count returns to 0. -/
def expertMatch (p : Fin 2) (s : State) : State :=
  let s1 := wrFld { s with session := vupd s.session p fun x => { x with lastEdge := s.clk.cycle } }
    0x1005 (mismatchLo p + 1) (mismatchLo p) 0
  if sessionOpen s p then s1 else raise 21 (p.val + 256 * 4) (wrFlag s1 0x1005 p.val true)

/-- EXPERT_OPEN (04 R116, R117). -/
def opExpertOpen : OpSpec where
  code := 0x0A
  check _ p _ := firstBad [(zerosAt p 2 2, 2)]
  targets _ _ := [0x1005]
  commit port p s :=
    if (vget s.session port).lockEnd.isSome then refuse s stNotPermitted 1
    else if leAt p 0 2 = s.nv.code.toNat then okResult (expertMatch port s)
    else refuse (expertDenied port s) stNotPermitted 0

/-- EXPERT_OPEN. -/
def execExpertOpen (r : Req) (s : State) : Out := .next (serve opExpertOpen r s)

/-- EXPERT_CLOSE (04 R118, R119). -/
def opExpertClose : OpSpec where
  code := 0x0B
  targets _ _ := [0x1005]
  commit port _ s := okResult (closeSession port 0 s)

/-- EXPERT_CLOSE. -/
def execExpertClose (r : Req) (s : State) : Out := .next (serve opExpertClose r s)

/-- EXPERT_CODE_SET (04 R120). -/
def opExpertCodeSet : OpSpec where
  code := 0x0F
  check _ p _ := firstBad [(zerosAt p 2 2, 2)]
  targets _ _ := [0x0800000F]
  commit _ p s := okResult { s with nv := { s.nv with code := BitVec.ofNat 16 (leAt p 0 2) } }

/-- EXPERT_CODE_SET. -/
def execExpertCodeSet (r : Req) (s : State) : Out := .next (serve opExpertCodeSet r s)

/-! ### Identity, status, echo -/

/-- IDENT (04 R124). -/
def opIdent : OpSpec where
  code := 0x00
  commit _ _ s := okData s (identData s)

/-- IDENT. -/
def execIdent (r : Req) (s : State) : Out := .next (serve opIdent r s)

/-- The data of STATUS (04 R125); during bring-up DP_MODE reads 0. -/
def statusData (port : Fin 2) (s : State) : List Byte :=
  leBytes 1 (moduleState s) ++ leBytes 1 (if inBringUp s then 0 else fld s 0x2000 2 0) ++ leBytes 1 (halterByte s) ++
    leBytes 1 (b2n (sessionOpen s 0) + 2 * b2n (sessionOpen s 1) + 4 * b2n (sessionOpen s port)) ++
    leBytes 4 s.clk.beat ++ leBytes 2 (yardsHalf s) ++ leBytes 1 (timeQ s) ++ leBytes 1 (allocByte s) ++
    leBytes 2 (readable s).length ++ leBytes 2 (stickyHalf s) ++ leBytes 4 (time32 s) ++ leBytes 1 (refsByte s) ++ zeroBytes 3

/-- STATUS (04 R125). -/
def opStatus : OpSpec where
  code := 0x02
  commit port _ s := okData s (statusData port s)

/-- STATUS. -/
def execStatus (r : Req) (s : State) : Out := .next (serve opStatus r s)

/-- ECHO (04 R126). -/
def opEcho : OpSpec where
  code := 0x0C
  commit _ p s := okData s p

/-- ECHO. -/
def execEcho (r : Req) (s : State) : Out := .next (serve opEcho r s)

/-! ### Events -/

/-- The 12 bytes of a queue entry (04 R127). -/
def entryBytes (e : QEntry) : List Byte :=
  leBytes 1 e.num ++ leBytes 1 e.flags ++ leBytes 2 e.arg ++ leBytes 4 e.time ++ leBytes 4 e.beat

/-- EVENTS_READ (04 R127, R128). -/
def opEventsRead : OpSpec where
  code := 0x04
  check _ p _ := firstBad [(inRange 1 32 (byteAt p 0), 0), (decide (byteAt p 1 ≤ 1), 1), (zerosAt p 2 2, 2)]
  targets p _ := if byteAt p 1 = 1 then [] else [0x08001300]
  commit _ p s :=
    let l := (readable s).take (byteAt p 0)
    let s1 := if byteAt p 1 = 1 then s else { s with ev := { s.ev with queue := s.ev.queue.drop l.length } }
    okData s1 (leBytes 1 l.length ++ zeroBytes 1 ++ leBytes 2 (readable s1).length ++ l.flatMap entryBytes)

/-- EVENTS_READ. -/
def execEventsRead (r : Req) (s : State) : Out := .next (serve opEventsRead r s)

/-! ### Configuration files -/

/-- KIND, CHUNK and TOTAL of a CONFIG_FILE_LOAD payload (04 R132). -/
def chunkHead (p : List Byte) : Nat × Nat × Nat := (leAt p 0 2, leAt p 2 2, leAt p 4 4)

/-- Bytes before chunk c. -/
def chunkAt (c : Nat) : Nat := 4076 * c

/-- The data length a chunk must carry (04 R132); a chunk beyond the file's end fails its own check. Another length answers BAD_LENGTH with
DETAIL 0xFFFF and leaves the open load open (DESIGN CHOICE, log 28). -/
def chunkLenOk (p : List Byte) : Bool :=
  let h := chunkHead p
  decide (h.2.2 ≤ chunkAt h.2.1) || p.length - 8 == min 4076 (h.2.2 - chunkAt h.2.1)

/-- Is it the last chunk of its file? -/
def lastChunk (p : List Byte) : Bool := decide ((chunkHead p).2.2 ≤ chunkAt (chunkHead p).2.1 + 4076)

/-- Is a load open that another port owns (04 R133)? -/
def otherLoad (port : Fin 2) (s : State) : Bool := s.load.load.any fun l => l.port != port

/-- The own port's open load. -/
def ownLoad (port : Fin 2) (s : State) : Option OpenLoad := s.load.load.filter fun l => l.port == port

/-- Does a chunk after the first fit the open load (04 R133)? By KIND, CHUNK and TOTAL. -/
def fitsLoad (l : Option OpenLoad) (h : Nat × Nat × Nat) : Bool × Bool × Bool :=
  match l with
  | none => (true, false, true)
  | some l => (h.1 == l.kind, h.2.1 == l.next, h.2.2 == l.total)

/-- The field checks of a chunk (04 R132, R133). -/
def chunkCheck (port : Fin 2) (p : List Byte) (s : State) : Option (Nat × Nat) :=
  let h := chunkHead p
  let f := if h.2.1 = 0 ∨ otherLoad port s then (true, true, true) else fitsLoad (ownLoad port s) h
  firstBad [(inRange 1 4 h.1 && f.1, 0), (decide (chunkAt h.2.1 < h.2.2) && f.2.1, 2), (inRange 5 262144 h.2.2 && f.2.2, 4)]

/-- The bytes received with this chunk. -/
def loadedBytes (l : Option OpenLoad) (p : List Byte) : List Byte :=
  (if (chunkHead p).2.1 = 0 then [] else match l with
    | some l => l.bytes
    | none => []) ++ p.drop 8

/-- What a chunk leaves in an open load. -/
def loadNext (port : Fin 2) (l : Option OpenLoad) (p : List Byte) (s : State) : OpenLoad :=
  let h := chunkHead p
  ⟨port, h.1, h.2.2, h.2.1 + 1, loadedBytes l p, s.clk.cycle⟩

/-- The commit of the last chunk (04 R134): the file's CRC, then its content; kinds 1 to 3 replace the live tables. A file that passes is
stored in the background. Tables of kind 2 raise COMP_TABLE for all axes (10 R319). -/
def loadDone (f : List Byte) (kind : Nat) (s : State) : Result :=
  let fail (st : Nat) : Result := refuse { s with load := { s.load with load := none, ended := 4 } } st 0xFFFF
  if !fileCrcOk f then fail stBadCrc
  else match commitTables kind f s with
    | none => fail stBadParam
    | some t => okResult (raiseIf (kind == 2) 84 0xFF { t with load := { t.load with load := none, storing := t.load.storing ++ [(kind, f)] } })

/-- CONFIG_FILE_LOAD (04 R132-R134). -/
def opConfigFileLoad : OpSpec where
  code := 0xF3
  count := chunkLenOk
  check := chunkCheck
  busy port _ s := otherLoad port s
  halter p _ := inRange 1 3 (leAt p 0 2)
  internal p s := (leAt p 0 2 == 1 && yardFenced s 2) || ((leAt p 0 2 == 2 || leAt p 0 2 == 3) && yardFenced s 5)
  targets p _ := 0x08000010 :: (if lastChunk p then tableTargets (leAt p 0 2) else [])
  commit port p s :=
    let l := loadNext port (ownLoad port s) p s
    let s1 := { s with load := { s.load with kind := l.kind, next := l.next, got := l.bytes.length } }
    if lastChunk p then loadDone l.bytes l.kind s1
    else okResult { s1 with load := { s1.load with load := some l } }

/-- Does a chunk abandon the open load (04 R133): refused with BAD_PARAM, and not what the load expects? -/
def loadBroken (r : Req) (s : State) : Bool :=
  match ownLoad r.head.port s with
  | none => false
  | some l =>
    let f := fitsLoad (some l) (chunkHead r.payload)
    !(f.1 && f.2.1 && f.2.2) && (match refusal opConfigFileLoad r s with
      | some x => x.1 == stBadParam
      | none => false)

/-- Abandon the open load; every live table stays (04 R133). NEXT and RECEIVED keep their last values while no load is open (04 R135; DESIGN
CHOICE, log 28). -/
def abandonLoad (s : State) : State := { s with load := { s.load with load := none, ended := 0 } }

/-- CONFIG_FILE_LOAD. -/
def execConfigFileLoad (r : Req) (s : State) : Out :=
  let t := serve opConfigFileLoad r s
  .next (if readyFor s r.head.port 0xF3 = some true ∧ loadBroken r (atCommit opConfigFileLoad r s) then abandonLoad t else t)

/-- No chunk has come for 10 s after the latest commit of the open load (04 R133). -/
def execConfigLoadTimeout (s : State) : Out :=
  match s.load.load with
  | none => .next s
  | some l => .next (abandonLoad (advance (l.latest + 1000000000) s))

/-- The background write of the oldest file to the configuration store ends (04 R134). -/
def execConfigFileStored (c : Nat) (ok : Bool) (s : State) : Out :=
  let s := advance c s
  match s.load.storing with
  | [] => .next s
  | (k, f) :: rest =>
    let s1 := { s with
      load := { s.load with storing := rest, ended := if ok then 3 else 4 }
      nv := if ok then { s.nv with files := vupdN s.nv.files k fun _ => f } else s.nv }
    .next (raise 23 (k + 0x8000 * b2n (!ok)) s1)

/-- STATE of CONFIG_FILE_STATUS (04 R135). -/
def loadState (s : State) : Nat :=
  if s.load.load.isSome then 1 else if !s.load.storing.isEmpty then 2 else s.load.ended

/-- FILE_CRC of the latest stored file of a kind; 0 where there is none. -/
def storedCrc (s : State) (kind : Nat) : Nat :=
  let f := s.nv.files.toList.getD kind []
  leAt f (f.length - 4) 4

/-- CONFIG_FILE_STATUS (04 R135). -/
def opConfigFileStatus : OpSpec where
  code := 0xF0
  commit _ _ s := okData s (leBytes 1 (loadState s) ++ leBytes 1 s.load.kind ++ leBytes 2 s.load.next ++
    leBytes 4 s.load.got ++ leBytes 4 (storedCrc s s.load.kind))

/-- CONFIG_FILE_STATUS. -/
def execConfigFileStatus (r : Req) (s : State) : Out := .next (serve opConfigFileStatus r s)

/-! ### Restarts -/

/-- YARD_RESTART (04 R136). -/
def opYardRestart : OpSpec where
  code := 0xF1
  check _ p s :=
    let y := byteAt p 0
    match firstBad [(decide (y ≤ 7) && y != 1, 0), (zerosAt p 1 3, 1)] with
    | some x => some x
    | none => if y != 0 && y != 4 && s.twin.holds && !failSilent s then some (stNotPermitted, 0xFFFF) else none
  targets _ _ := [0x08000011]
  commit _ p s := okResult { s with restart := s.restart ++ [⟨byteAt p 0, s.clk.cycle⟩] }

/-- YARD_RESTART. -/
def execYardRestart (r : Req) (s : State) : Out := .next (serve opYardRestart r s)

/-- MODULE_RESET (04 R137). -/
def opModuleReset : OpSpec where
  code := 0xF5
  check _ p s :=
    match firstBad [(byteAt p 0 == 0x5A, 0), (zerosAt p 1 3, 1)] with
    | some x => some x
    | none => if s.twin.holds && fld s 0x2000 2 0 != 0 then some (stNotPermitted, 0xFFFF) else none
  targets _ _ := [0x08000011]
  commit _ _ s := okResult { s with restart := s.restart ++ [⟨8, s.clk.cycle⟩] }

/-- MODULE_RESET. -/
def execModuleReset (r : Req) (s : State) : Out := .next (serve opModuleReset r s)

/-! ### Ethernet and time -/

/-- The register file as ETH_CONFIG would leave it (14 R430). -/
def ethConfigRegs (r : Regs) (p : List Byte) : Regs :=
  let b := 0x7100 + 16 * byteAt p 0
  let w := putBits (putBits (putBits (regGet r b) 2 0 (byteAt p 1)) 11 8 (byteAt p 12)) 31 16 (leAt p 2 2)
  regSet (regSet (regSet (regSet r b w) (b + 1) (wordAt p 4)) (b + 2) (wordAt p 8)) (b + 3) (BitVec.ofNat 32 (leAt p 14 2))

/-- ETH_CONFIG (14 R430). -/
def opEthConfig : OpSpec where
  code := 0x70
  check _ p s :=
    let e := byteAt p 0
    firstBad [(decide (e ≤ 1), 0), (decide (byteAt p 1 < 8), 1), (ipOk (ethConfigRegs s.regs p) e, 4), (maskOk (wordAt p 8), 8),
      (decide (byteAt p 12 ≤ 15) && groupOk (byteAt p 12), 12), (zerosAt p 13 1, 13), (inRange 1 9999 (leAt p 14 2), 14),
      (zerosAt p 16 16, 16)]
  internal p s := blockOut s 7 (4 + byteAt p 0)
  targets p _ := (List.range 4).map (0x7100 + 16 * byteAt p 0 + ·)
  commit _ p s :=
    let s1 := { s with regs := ethConfigRegs s.regs p }
    okResult (if byteAt p 0 = 0 then ethEffect s 0 s1 else ethEffect s 1 s1)

/-- ETH_CONFIG. -/
def execEthConfig (r : Req) (s : State) : Out := .next (serve opEthConfig r s)

/-- The register file as PTP_CONFIG would leave it (14 R431). -/
def ptpConfigRegs (expert : Bool) (r : Regs) (p : List Byte) : Regs :=
  let i := 0x7210 + 16 * byteAt p 0
  let w := putBits (putBits (putBits (putBits (regGet r i) 1 0 (byteAt p 1)) 2 2 (byteAt p 3)) 5 4 (byteAt p 4)) 15 8 (byteAt p 2)
  if expert then regSet (regSet r i (putBits w 31 16 (leAt p 16 2))) (i + 1) (wordAt p 20) else regSet r i w

/-- PTP_CONFIG in either form (14 R431). -/
def ptpConfig (expert : Bool) (code : Nat) : OpSpec where
  code := code
  check _ p s :=
    let d := byteAt p 0
    let r := ptpConfigRegs expert s.regs p
    firstBad ([(decide (d ≤ 1), 0), (decide (byteAt p 1 ≤ 2) && slotsDiffer r, 1), (decide (byteAt p 2 ≤ 127), 2),
        (decide (byteAt p 3 ≤ 1) && slotPortOk r d, 3), (decide (byteAt p 4 ≤ 2), 4), (zerosAt p 5 11, 5)] ++
      (if expert then [(inRange 1 64 (leAt p 16 2), 16), (zerosAt p 18 2, 18),
        (decide ((signedOf 32 (leAt p 20 4)).natAbs ≤ 1000000), 20), (zerosAt p 24 8, 24)] else []))
  internal _ s := yardFenced s 7
  targets p _ := let i := 0x7210 + 16 * byteAt p 0; if expert then [i, i + 1] else [i]
  commit _ p s :=
    let s1 := { s with regs := ptpConfigRegs expert s.regs p }
    okResult (if byteAt p 0 = 0 then slotEffect s 0 s1 else slotEffect s 1 s1)

/-- PTP_CONFIG basic (14 R431). -/
def opPtpConfigBasic : OpSpec := ptpConfig false 0x72

/-- PTP_CONFIG basic. -/
def execPtpConfigBasic (r : Req) (s : State) : Out := .next (serve opPtpConfigBasic r s)

/-- PTP_CONFIG expert (14 R431). -/
def opPtpConfigExpert : OpSpec := ptpConfig true 0x73

/-- PTP_CONFIG expert. -/
def execPtpConfigExpert (r : Req) (s : State) : Out := .next (serve opPtpConfigExpert r s)

/-- TIME_READ (14 R432). -/
def opTimeRead : OpSpec where
  code := 0x74
  internal _ s := yardFenced s 7
  commit _ _ s :=
    let ns := reportedNs s
    okData s (leBytes 8 (twosOf 64 (floorDiv ns 1000000000)) ++ leBytes 4 (ns % 1000000000).toNat ++ leBytes 8 s.clk.cycle ++
      leBytes 1 (timeQ s) ++
      leBytes 1 (s.time.active.val + 2 * b2n (slewing s) + 4 * b2n (stepPending s) + 8 * b2n (flag s 0x7200 1)) ++
      leBytes 2 (twosOf 16 s.time.utc) ++ wordBytes (sigmaWord s))

/-- TIME_READ. -/
def execTimeRead (r : Req) (s : State) : Out := .next (serve opTimeRead r s)

/-- TIME_DOMAIN_SELECT (14 R426, R433). -/
def opTimeDomainSelect : OpSpec where
  code := 0x76
  check _ p s := firstBad [(decide (byteAt p 0 ≤ 1) && cfgSource s.regs (byteAt p 0) != 0, 0),
    (decide (byteAt p 1 ≤ 1), 1), (zerosAt p 2 2, 2)]
  internal _ s := yardFenced s 7
  targets _ _ := [0x7200]
  commit _ p s := okResult (selectEffect (wrFld s 0x7200 1 0 (byteAt p 0 + 2 * byteAt p 1)))

/-- TIME_DOMAIN_SELECT. -/
def execTimeDomainSelect (r : Req) (s : State) : Out := .next (serve opTimeDomainSelect r s)

/-! ### Power -/

/-- POWER_STATE_SET (16 R474). -/
def opPowerStateSet : OpSpec where
  code := 0x90
  check _ p s :=
    match firstBad [(decide (byteAt p 0 ≤ 2), 0), (zerosAt p 1 3, 1)] with
    | some x => some x
    | none =>
      if s.power.mode == .run && byteAt p 0 == 0 then none
      else if s.twin.holds && fld s 0x2000 2 0 != 0 then some (stNotPermitted, 0xFFFF) else none
  busy _ p s := !(s.power.mode == .run && byteAt p 0 == 0) && !s.load.storing.isEmpty
  targets _ _ := [0x08000090]
  commit _ p s :=
    let t := byteAt p 0
    okResult (if s.power.mode == .run then
        if t = 0 then s
        else { s with power := { s.power with entryCommit := some s.clk.cycle, target := t, latched := 0 } }
      else if s.power.mode == .window then
        if t = 0 then wake 0x80 s
        else if t = 1 then { s with power := { s.power with target := 1 } }
        else s
      else s)

/-- POWER_STATE_SET. -/
def execPowerStateSet (r : Req) (s : State) : Out := .next (serve opPowerStateSet r s)

/-- The register file as WAKE_CONFIG would leave it (16 R493). -/
def wakeConfigRegs (r : Regs) (p : List Byte) : Regs :=
  regSet (regSet r 0x1502 (BitVec.ofNat 32 (leAt p 0 2))) 0x1503 (wordAt p 4)

/-- WAKE_CONFIG (16 R493). -/
def opWakeConfig : OpSpec where
  code := 0x92
  check _ p s :=
    let r := wakeConfigRegs s.regs p
    firstBad [(fitsMap 0x1502 (regGet r 0x1502) && lowParamOk s r [0x1502, 0x1503] 0x1502, 0), (zerosAt p 2 2, 2),
      (lowParamOk s r [0x1502, 0x1503] 0x1503, 4)]
  targets _ _ := [0x1502, 0x1503]
  commit _ p s := okResult { s with regs := wakeConfigRegs s.regs p }

/-- WAKE_CONFIG. -/
def execWakeConfig (r : Req) (s : State) : Out := .next (serve opWakeConfig r s)

/-- RTC_ALARM_SET (16 R493). -/
def opRtcAlarmSet : OpSpec where
  code := 0x94
  check _ p s :=
    let a := leAt p 0 8
    firstBad [(decide (a < 2 ^ 48) && (a == 0 || decide (s.power.rtc / 32768 < a)) && s.power.rtcValid, 0)]
  internal _ s := yardFenced s 0
  targets _ _ := [0x0004, 0x0005]
  commit _ p s := okResult (wr (wr s 0x0004 (wordAt p 0)) 0x0005 (BitVec.ofNat 32 (leAt p 4 2)))

/-- RTC_ALARM_SET. -/
def execRtcAlarmSet (r : Req) (s : State) : Out := .next (serve opRtcAlarmSet r s)

/-- POWER_STATUS_READ (16 R494). Where the latest bring-up found no good state summary, LAST_MODE and LAST_BEAT are open. -/
def opPowerStatusRead : OpSpec where
  code := 0x96
  commit _ _ s :=
    let a := takeFree s
    let b := takeFree a.2
    let x : Nat × Nat × Nat := match s.power.found with
      | some f => (f.mode, f.loss, f.beat)
      | none => (Config.freeNat 14 a.1, 0xFF, Config.freeNat 15 b.1)
    okData b.2 (leBytes 1 (powerCode s) ++ leBytes 1 (suppliesByte s) ++ leBytes 2 (fld s 0x1507 31 16) ++
      leBytes 2 (fld s 0x1508 15 0) ++ leBytes 2 (fld s 0x0006 15 0) ++ leBytes 1 s.power.wakeMask ++ leBytes 1 x.1 ++
      leBytes 1 x.2.1 ++ zeroBytes 1 ++ leBytes 4 x.2.2 ++ leBytes 2 (fld s 0x1508 31 16) ++ leBytes 2 (fld s 0x150B 15 0))

/-- POWER_STATUS_READ. -/
def execPowerStatusRead (r : Req) (s : State) : Out := .next (serve opPowerStatusRead r s)

end Sys2Proof.Machine
end

