-- ==== Sys2Proof/Machine/Forward.lean ====
section
/-! DEFINITION. What the non-holder does with the holder's commits and mirrors (15 R447-R450): forwarded requests applied on their
markers, forwarded axis transitions, the adoption of a mirror, and its miss. -/
namespace Sys2Proof.Machine

/-! ### Forwarded requests -/

/-- A PARAM_WRITE as the non-holder applies it: its mirrored entries (15 R449). -/
def opForwardedWrite : OpSpec where
  code := 0x08
  targets p _ := ((payloadEntries p).map (·.1)).filter isMirrored
  tied p _ := (((payloadEntries p).map (·.1)).filter isMirrored).flatMap tiedTargets
  commit _ p s := okResult (applyEntries ((payloadEntries p).filter fun e => isMirrored e.1) s)

/-- The forwarded load, of a chunk's kind and total. -/
def forwardedLoad (s : State) : Option OpenLoad := s.load.fwd

/-- A chunk of a forwarded file (15 R449): its last commits the tables and stores the file in this unit too. -/
def opForwardedLoad : OpSpec where
  code := 0xF3
  targets p _ := if lastChunk p then tableTargets (leAt p 0 2) else []
  commit port p s :=
    let l := loadNext port (forwardedLoad s) p s
    if !lastChunk p then okResult { s with load := { s.load with fwd := some l } }
    else
      let s1 := { s with load := { s.load with fwd := none } }
      match commitTables l.kind l.bytes s1 with
      | none => refuse s1 stBadParam 0xFFFF
      | some t => okResult { t with load := { t.load with storing := t.load.storing ++ [(l.kind, l.bytes)] } }

/-- What the non-holder applies of a forwarded opcode (15 R449). SYNC_FILTERS, CAN_ID_ENABLE and HALTER_RELEASE act on the unit that served
them: none. -/
def forwardSpec (op : Nat) : Option OpSpec :=
  match op with
  | 0x08 => some opForwardedWrite
  | 0x10 => some opModeSetBasic
  | 0x11 => some opModeSetExpert
  | 0x12 => some opSetpointSet
  | 0x14 => some opJoystickSet
  | 0x16 => some opBerthPushSet
  | 0x18 => some opTrackLoad
  | 0x1A => some opLossModeSet
  | 0x20 => some opRefConfigBasic
  | 0x21 => some opRefConfigExpert
  | 0x22 => some opRefEnable
  | 0x27 => some opSelectReference
  | 0x28 => some opReplayWindowSet
  | 0x30 => some opThrusterEnable
  | 0x32 => some opThrusterDisable
  | 0x34 => some opAllocConfigBasic
  | 0x35 => some opAllocConfigExpert
  | 0x36 => some opPowerLimitSet
  | 0x3B => some opCompatModeSet
  | 0x40 => some opAxisEnable
  | 0x42 => some opAxisDisable
  | 0x44 => some opAxisConfigBasic
  | 0x45 => some opAxisConfigExpert
  | 0x47 => some opCompTableLoad
  | 0x50 => some opChannelConfigBasic
  | 0x51 => some opChannelConfigExpert
  | 0x52 => some opOutputSet
  | 0x56 => some opSafeValueSet
  | 0x60 => some opFilterPreset
  | 0x61 => some opFilterCustom
  | 0x64 => some opDcBlockSet
  | 0x68 => some opCanConfigBasic
  | 0x69 => some opCanConfigExpert
  | 0x6F => some opCanSend
  | 0x87 => some opTwinToleranceSet
  | 0xF3 => some opForwardedLoad
  | _ => none

/-- The forwarded request of a marker, as one class 2 commit of the twin link (15 R449, 01 R16, R18). Only a marker with status OK is
applied. -/
def applyMarker (m : CommitMarker) (s : State) : State :=
  if m.status ≠ stOk then s else
  match forwardSpec m.opcode.toNat with
  | none => s
  | some o => match arbitrate 2 2 (commitTargets o m.payload s) s with
    | none => s
    | some s1 => (commitPoison o m.port m.payload s1).state

/-- A commit that came late in the beat counts as one of the holder's beat (15 R449): what it wrote in the running beat is dated to the
beat before. -/
def dateBack (old new : Nat) (s : State) : State :=
  let one (x : Option Nat) : Option Nat := if x = some old then some new else x
  { s with
    ctl := { s.ctl with modeAt := one s.ctl.modeAt }
    fus := { s.fus with
      originMoved := one s.fus.originMoved
      votes := s.fus.votes.map fun v => { v with newPick := v.newPick.map fun p => (if p.1 = old then new else p.1, p.2) } } }

/-- The identifiers whose words differ between two register files. -/
def changedIds (a b : Regs) : List Nat :=
  ((a ++ b).map (·.1)).filter fun i => regGet a i != regGet b i

/-- A marker that crosses in cycles 0 to 1 031 of the following beat: the commit also goes into the setting snapshot (15 R449). The targets
and deflections that the beat edge took are taken again with it. -/
def applyLateMarker (m : CommitMarker) (s : State) : State :=
  let b := s.clk.beat
  let t : State := { s with ctl := { s.ctl with posNew := s.ctl.posSet, hdgNew := s.ctl.hdgSet } }
  let x := dateBack b m.beat (applyMarker m (dateBack m.beat b t))
  let y := controlSnapshot { x with
    snap := (changedIds s.regs x.regs).foldl (fun r i => regSet r i (rd x i)) s.snap }
  settleTables (filterSnapshot s.snap y)

/-- A forwarded commit marker crosses, its first valid copy (15 R449): the non-holder applies the request, in the setting snapshot as well in
cycles 0 to 1 031 of the next beat, and counts it as late after that. Those of the cycles after the mirror images are kept for the adoption. -/
def execCommitMarker (c : Nat) (m : CommitMarker) (s : State) : Out :=
  let s := advance c s
  if s.twin.holds || failSilent s || s.power.mode != .run || !s.clk.beats || !linkUsable s then .next s else
  let d := beatDiff s.clk.beat m.beat
  let off := s.clk.cycle - s.clk.beatBase
  if d ≤ 0 then
    let s1 := applyMarker m s
    .next (if d = 0 ∧ 700000 ≤ m.cycle ∧ off ≤ 759999 then updTwin (fun t => { t with late := t.late ++ [m] }) s1 else s1)
  else if d = 1 ∧ off ≤ 1031 then .next (applyLateMarker m s)
  else .next (sticky (bump (applyMarker m s) 0x1408 15 0 1) 0x1404 6)

/-! ### Axis transitions -/

/-- An axis state change that the holder forwards (15 R450), registered on cycle 16 560 of the own tick. While the link is DOWN each unit
makes its own. -/
def execForwardedAxisTransition (c : Nat) (a : Fin 48) (t : AxisForward) (s : State) : Out :=
  let s := advance c s
  if s.twin.holds || failSilent s || s.power.mode != .run || !s.clk.beats || !linkUsable s || linkState s = 2 then .next s else
  let s1 := applyForward a t s
  let off := s.clk.cycle - s.clk.beatBase
  .next (if t.beat = s.clk.beat ∧ 700000 ≤ t.cycle ∧ off ≤ 759999 then
      updTwin (fun x => { x with lateAxis := x.lateAxis ++ [(a, t)] }) s1
    else s1)

/-! ### Adoption -/

/-- Is a mirror due (15 R447)? -/
def mirrorIsDue (s : State) : Bool :=
  s.twin.mirrorDue && !s.twin.heldBeat && (match partnerOfBeat s with
    | some x => x.flags / 2 % 2 == 1 && x.flags / 4 % 2 == 0
    | none => false)

/-- An axis takes the image's values, raising nothing. -/
def adoptAxis (s : State) (x : Fin 48 × AxisImage) : State :=
  let i := x.2
  updAxis x.1.val (fun u => { u with pend := i.pend, pendThr := i.pendThr, join := i.join, parked := i.parked })
    (applyForward x.1 ⟨0, 0, i.state, i.code, i.pend, some i.join, none⟩ s)

/-- Sources that the adopted SRC_CTRL words enable anew begin as enabled sources do (05 R164, R168, R170). -/
def freshSources (before : Regs) (s : State) : State :=
  { s with src := Vector.ofFn fun q =>
      let u := vget s.src q
      if flag s (srcId q.val 0) 0 && !bitOf (regGet before (srcId q.val 0)) 0 then freshSource u else u }

/-- Replace every live value that the images hold (15 R445, R447). A re-enable of identifiers waits for the next beat edge (13 R402). -/
def adoptImage (i : MirrorImage) (s : State) : State :=
  let s1 := ((List.finRange 48).map fun a => (a, vget i.axes a)).foldl adoptAxis s
  freshSources s.regs { s1 with
    regs := i.params.foldl (fun r x => if isMirrored x.1 then regSet r x.1 x.2 else r) (s1.regs.filter fun x => !isMirrored x.1)
    poison := s1.poison.filter fun p => decide (0x10000 ≤ p) || !isMirrored p
    fus := i.fus
    ctl := { i.ctl with joyMa := s.ctl.joyMa, joyBad := s.ctl.joyBad }
    alc := { s1.alc with thr := i.thr, res := i.held, valid := i.warm, streak := i.streak, fb := i.fb, fbRun := i.fbRun, entry := i.entry }
    twin := { s1.twin with idNext := i.idReq } }

/-- What a re-application within the adoption changes: what the images hold, and nothing that was done when the commit was first applied. -/
def quietly (f : State → State) (s : State) : State :=
  let t := f s
  { s with
    regs := (t.regs.filter fun x => isMirrored x.1).foldl (fun r x => regSet r x.1 x.2) (s.regs.filter fun x => !isMirrored x.1)
    servo := { t.servo with tables := s.servo.tables, newTabs := s.servo.newTabs }
    alc := { t.alc with table := s.alc.table, tableNew := s.alc.tableNew }
    fus := t.fus, ctl := t.ctl, poison := t.poison }

/-- The forwarded commits and transitions of the cycles from 700 000 on, in the order of the holder's cycles; those of one cycle as they
came, commits first. -/
def reapplyLate (s : State) : State :=
  let l : List (Nat × (State → State)) := (s.twin.late.map fun m => (m.cycle, applyMarker m)) ++
    (s.twin.lateAxis.map fun t => (t.2.cycle, applyForward t.1 t.2))
  let rec put (x : Nat × (State → State)) : List (Nat × (State → State)) → List (Nat × (State → State))
    | [] => [x]
    | y :: r => if x.1 ≤ y.1 then x :: y :: r else y :: put x r
  (l.foldr put []).foldl (fun s x => quietly (fun s => x.2 { s with arb := ⟨0, [], [], none⟩ }) s) s

/-- What an adoption writes, of that which commits of the same cycle have written (15 R447, 01 R42). -/
def adoptionTargets (i : MirrorImage) (s : State) : List Nat :=
  (i.params.map (·.1)) ++ (s.arb.applied.flatMap (·.targets)).filter isMirrored

/-- A due mirror is not adopted (15 R447). -/
def missMirror (complete : Bool) (s : State) : State :=
  let s1 := sticky (bump s 0x1406 15 0 1) 0x1404 5
  let s2 := if complete then s1 else sticky s1 0x1106 2
  let blk := s.clk.beat / 100
  if s.twin.missBlk = some blk then s2
  else raise 124 0 (updTwin (fun t => { t with missBlk := some blk }) s2)

/-- With nothing adopted, the state digests of both units are compared (15 R447); neither unit's first RUN beat, whose digest is 0, counts. -/
def hiddenDifference (s : State) : State :=
  match partnerOfBeat s with
  | some x =>
    if x.flags / 2 % 2 = 1 ∧ x.flags / 4 % 2 = 0 ∧ !s.twin.heldBeat ∧ !s.twin.firstBeat ∧ x.stDig ≠ 0 ∧ x.stDig ≠ s.twin.stDig then
      enterRemirror (unitDisagree s)
    else s
  | none => s

/-- An offer without ACCEPT lapses (15 R458): the holder keeps the halter. -/
def lapseOffer (s : State) : State :=
  match s.twin.handover with
  | .offered _ => raise 121 6 (updTwin (fun t => { t with handover := .idle }) s)
  | _ => s

/-- Cycle 759 999 (15 R447, R458): the holder's offer lapses; the non-holder adopts a due mirror, or records a miss and compares digests. -/
def execMirrorAdoption (rx : MirrorRx) (s : State) : Out :=
  if !s.clk.beats || !s.clk.core then .next s else
  let s := lapseOffer (advance (beatCycle s 759999) s)
  if s.twin.heldBeat || failSilent s then .next s else
  let due := mirrorIsDue s
  match due && rx.complete && rx.good, arbitrate 2 2 (adoptionTargets rx.image s) s with
  | true, some s1 =>
    .next (updTwin (fun t => { t with adopted := true, joinWait := false }) (reapplyLate (adoptImage rx.image s1)))
  | _, _ => .next (hiddenDifference (if due then missMirror rx.complete s else s))

end Sys2Proof.Machine
end

