-- ==== Sys2Proof/Machine/Beat.lean ====
section
/-! DEFINITION. The beat edge (02 R51-R55, R71, 01 R46-R50): everything that happens on cycle 0 of a beat and at the fixed cycles
up to 5 000 that follow from it. -/
namespace Sys2Proof.Machine

/-! ### The joystick inputs -/

/-- Bytes 3 072 to 3 084 of the input image (08 R243): current in mA and fault of one joystick channel. -/
def joyInput (s : State) (a : Nat) : F32 × Bool :=
  let ch := fld s 0x2019 (8 * a + 7) (8 * a)
  if 48 ≤ ch then (0, true) else
  let lane := vgetD s.filt.lanes ch LaneUnit.start
  let c := vgetD s.field.chan ch ChanUnit.off
  (laneMa lane.out, c.mode != 4 || c.flags != 0 || lane.poison || blockDown s 5 (ch / 6) || blockDown s 6 (ch / 24) || (bankAt s (ch / 24)).poison)

/-- The sample latch copies the joystick inputs (01 R47, 08 R243). -/
def latchJoystick (s : State) : State :=
  let j := (List.range 3).map (joyInput s)
  updCtl (fun c => { c with joyMa := j.map (·.1), joyBad := maskOf (j.map (·.2)) }) s

/-! ### The status datagram -/

/-- An uppercase hexadecimal digit. -/
def hexDigit (n : Nat) : Nat := if n < 10 then 48 + n else 55 + n

/-- Two uppercase hexadecimal digits. -/
def hex2 (n : Nat) : List Nat := [hexDigit (n / 16 % 16), hexDigit (n % 16)]

/-- The decimal digits of a number, least significant first, at least one. -/
def digitsLow : Nat → Nat → List Nat
  | 0, _ => []
  | f + 1, n => (48 + n % 10) :: (if n / 10 = 0 then [] else digitsLow f (n / 10))

/-- A number in decimal. -/
def decimalText (n : Nat) : List Nat := (digitsLow 20 n).reverse

/-- A number in four decimal digits. -/
def decimal4 (n : Nat) : List Nat := [48 + n / 1000 % 10, 48 + n / 100 % 10, 48 + n / 10 % 10, 48 + n % 10]

/-- A text between a lead and *hh with its checksum. -/
def checked (body : List Nat) : List Nat := body ++ [42] ++ hex2 (body.foldl (· ^^^ ·) 0)

/-- Characters as bytes. -/
def charBytes (l : List Nat) : List Byte := l.map (BitVec.ofNat 8)

/-- The characters of a text. -/
def charsOf (t : String) : List Nat := t.toList.map Char.toNat

/-- flags of $PTBDS (14 R413). -/
def statusFlags (s : State) : Nat :=
  b2n s.twin.holds + 2 * b2n s.twin.lanes + 4 * b2n s.twin.units + 8 * (allocByte s % 2) + 16 * (allocByte s / 2 % 2) +
    32 * (refsByte s / 2 % 2) + 64 * b2n (s.ctl.mode == 5 && s.ctl.degr)

/-- The sentence $PTBDS of beat k (14 R413). -/
def ptbdsText (k : Nat) (s : State) : List Byte :=
  let comma : List Nat := [44]
  charBytes (36 :: checked (charsOf "PTBDS" ++ comma ++ decimalText (unitNumber s) ++ comma ++ decimalText k ++ comma ++
    decimalText s.ctl.mode ++ comma ++ hex2 (statusFlags s) ++ comma ++ decimalText (timeQ s)))

/-- The tag block of line c on port e (14 R413). -/
def tagText (s : State) (e : Fin 2) (c : Nat) : List Byte :=
  charBytes (92 :: checked (charsOf "s:II" ++ decimal4 (fld s (ethId e 3) 15 0) ++ charsOf ",n:" ++ decimalText c) ++ [92])

/-- The sentences of the status datagram of beat k, in their order (14 R413). -/
def statusTexts (k : Nat) (s : State) : List StatusText :=
  let t := rNsAt s ((s.clk.beatBase : Int) - 1000000)
  [StatusText.ptbds (ptbdsText k s)] ++
    (if k % 10 = 0 ∧ s.fus.out.valid % 2 = 1 then [StatusText.talk (.hdt (some (fAt s.fus.out.x 2)))] else []) ++
    (if k % 100 = 0 ∧ timeQ s ≠ 3 then [StatusText.talk (zdaLine s t)] else [])

/-- The line count after n, from 1 to 999 (14 R413). -/
def nextLine (n : Nat) : Nat := if 999 ≤ n then 1 else n + 1

/-- Number the lines of a datagram from a port's count on. -/
def numberLines (s : State) (e : Fin 2) : Nat → List StatusText → List StatusLine × Nat
  | n, [] => ([], n)
  | n, x :: r =>
    let c := nextLine n
    let y := numberLines s e c r
    (⟨tagText s e c, x⟩ :: y.1, y.2)

/-- The status datagram of beat k is handed to the MAC of each port that sends it, on cycle 5 000 (14 R413, 02 R71). -/
def statusDatagrams (k : Nat) (s : State) : State :=
  if failSilent s then s else
  [0, 1].foldl (fun s (e : Fin 2) =>
    if !ethOn s e || !flag s (ethId e 0) 2 then s else
    let l := numberLines s e (vget s.eth e).lineNo (statusTexts k s)
    ethQueue e (beatCycle s 5000) (.status (fld s (ethId e 0) 11 8) l.1)
      { s with eth := vupd s.eth e fun p => { p with lineNo := l.2 } }) s

/-! ### Sleep -/

/-- Does the sleep entry sequence begin at a beat edge on this cycle (16 R475)? -/
def entering (s : State) (edge : Nat) : Bool :=
  match s.power.entryCommit with
  | some k => decide (k + 100000 ≤ edge)
  | none => false

/-- RESUME_SLEEP (16 R490): at the first RUN beat edge after a bring-up that the return of an input started, the recorded sleep state is
entered again, under the checks of R474. -/
def resumeSleep (s : State) : State :=
  match s.power.found with
  | none => s
  | some f =>
    if s.power.byInput && wakeOn s 6 && (f.sleep == 1 || f.sleep == 2) && !(s.twin.holds && fld s 0x2000 2 0 != 0) && s.load.storing.isEmpty then
      { s with power := { s.power with entryCommit := some (s.clk.beatBase - 100000), target := f.sleep, latched := 0 } }
    else s

/-! ### The edge -/

/-- The beat counter advances (02 R51): the first RUN beat edge takes the number loaded at bring-up (16 R484, R485). -/
def startBeat (edge : Nat) (s : State) : State :=
  let n := if s.clk.beats then beatAdd s.clk.beat 1 else s.clk.beat
  { s with clk := { s.clk with beat := n, beatBase := edge, beats := true } }

/-- The twin unit at the edge. A unit's first RUN beat starts its wait for a partner (15 R457), and its digest is 0 (R445). -/
def twinAtEdge (first : Bool) (s : State) : State :=
  let n := s.clk.beat
  if first then
    updTwin (fun t => { t with firstBeat := true })
      (twinEdge n (updTwin (fun t => { t with aloneFrom := if t.msgEdge.isNone then some n else none }) s))
  else twinEdge n s

/-- Latch, snapshot and release (01 R46, R47, R50): sources, joystick, settings, the live set, setpoints. released: the outputs of the ended beat are
permitted. -/
def latchAndRelease (released : Bool) (s : State) : State :=
  let tau := s.alc.rel.tauA
  let old := s.snap
  let s1 := latchJoystick (latchSources s.clk.beatBase s)
  let s2 := filterSnapshot old (controlSnapshot { s1 with snap := s1.regs, snapPoison := s1.poison })
  let s3 := settleTables (settleThrusters (servoRelease old released (allocEdge released (liveSet s2) s2)))
  { s3 with
    fus := { s3.fus with cur := { s3.fus.cur with tau := tau, wind := s3.ctl.w } }
    field := { s3.field with due := released } }

/-- What follows in the first 5 000 cycles from the end of beat k (02 R71): CAN frames, status datagram, talk sentences; and the state summary
at a beat number divisible by 100 (16 R491). -/
def afterEdge (old : Regs) (k : Nat) (released : Bool) (wire : BitVec 4) (s : State) : State :=
  let s1 := talkAll (statusDatagrams k (placeBeat old k released wire s))
  if s1.clk.beat % 100 = 0 then writeSummary 0 0 s1 else s1

/-- A beat edge (02 R51, R55, 01 R46-R50). wire: on which buses a frame of the module is on the wire at cycle 2 400. -/
def execBeatEdge (wire : BitVec 4) (s : State) : Out :=
  if s.power.mode != .run || !s.clk.core then .next s else
  let first := !s.clk.beats
  let edge := if first then s.clk.runEdge else s.clk.beatBase + 1000000
  let stop := entering s edge
  let released := !first && !stop && s.twin.permit && !failSilent s
  let k := s.clk.beat
  let old := s.snap
  let s1 := latchAndRelease released (twinAtEdge first (startBeat edge (advance edge s)))
  if first then .next (resumeSleep (if s1.clk.beat % 100 = 0 then writeSummary 0 0 s1 else s1))
  else if stop then .next s1
  else .next (afterEdge old k released wire s1)

end Sys2Proof.Machine
end

