-- ==== Sys2Proof/Machine/Yards.lean ====
section
/-! DEFINITION. Stalls, blocks and yards: scrub reads, block faults and resets, yard fences (01 R21-R23, R28-R40). -/
namespace Sys2Proof.Machine

/-- The scrubber's place in a memory of a yard: the first read takes word 0. -/
def scrubPlace (s : State) (yard : Fin 8) (mem : Nat) : Option ScrubPlace :=
  ((vget s.yards yard).scrub.find? (·.1 == mem)).map (·.2)

/-- The word that the scrubber reads next in a memory. -/
def scrubWord (s : State) (yard : Fin 8) (mem : Nat) : Nat :=
  match scrubPlace s yard mem with
  | some x => x.word
  | none => 0

/-- The scrubber's read of a memory (01 R22, 02 R75): 64 cycles after its latest, at the next word, and at word 0 after the last. -/
def scrubNext (yard : Fin 8) (mem : Nat) (s : State) : State :=
  let s1 := match scrubPlace s yard mem with
    | some x => advance (x.last + 64) s
    | none => s
  let next : ScrubPlace := ⟨(scrubWord s yard mem + 1) % Config.memoryWords yard.val mem, s1.clk.cycle⟩
  { s1 with yards := vupd s1.yards yard fun u => { u with scrub := (mem, next) :: u.scrub.filter (·.1 != mem) } }

/-- A scrub read of the next word of a memory of the yard, 64 cycles after the last (01 R21-R23): a single-bit error is
corrected and counted; a double-bit error poisons the stall. mem names the memory; the stall is its present word. -/
def execScrubRead (yard : Fin 8) (mem : Nat) (err : ReadError) (s : State) : Out :=
  let h := 0x1000 * yard.val
  let s1 := scrubNext yard mem s
  match err with
  | .none => .next s1
  | .single => .next (sticky (bump s1 (h + 0xFF0) 31 0 1) (h + 0xFF5) 0)
  | .double => .next (poisonStall yard.val (memoryStall yard.val mem (scrubWord s yard mem)) s1)

/-- Is the block a stage of the beat flow in a lane (01 R536)? -/
def beatFlowBlock (yard : Fin 8) (block : Fin 32) : Bool := (yard == 2 || yard == 3) && decide (block.val ≤ 4)

/-- The watchdog declares a block fault (01 R28-R32, R58): the first starts a retry with its result poisoned, a fault of
the retry fences the block. A faulted stage of the beat flow makes the lanes' result of the beat invalid; after the verdict it withdraws the
permit, so that the outputs of the beat are withheld all the same (02 R58). The row stands before that of the faulted operation's result. -/
def execBlockFault (c : Nat) (yard : Fin 8) (block : Fin 32) (s : State) : Out :=
  let s := blockFault yard block.val true (advance c s)
  if beatFlowBlock yard block then
    .next { s with twin := { s.twin with
      laneValid := false, permit := s.twin.permit && decide (s.clk.cycle < beatCycle s 656000)
      withdrawn := s.twin.withdrawn || decide (beatCycle s 656000 ≤ s.clk.cycle) } }
  else .next (settleLine s)

/-- A faulted block comes out of its 32-cycle reset (01 R29); while a block of PD1 is in it, HRDY is low (03 R81). -/
def execBlockResetDone (yard : Fin 8) (block : Fin 32) (s : State) : Out :=
  let u := vget s.yards yard
  match u.inReset.find? (·.1 == block.val) with
  | none => .next s
  | some x =>
    let s := advance x.2 s
    .next (settleLine { s with yards := vset s.yards yard { u with inReset := u.inReset.filter (·.1 != block.val) } })

/-- The cause code of 01 R36. -/
def causeCode : FenceCause → Nat
  | .block => 1
  | .bus => 2
  | .supply => 3
  | .marker => 4

/-- A yard is fenced (01 R36-R39). When PD1's supply leaves its window with both inputs invalid, the module is in RETAIN
(16 R469): the clocks stop. -/
def execYardFence (c : Nat) (yard : Fin 8) (cause : FenceCause) (s : State) : Out :=
  let s := fenceYard yard.val (causeCode cause) (advance c s)
  if yard == 1 && cause == .supply && !s.power.mains && !s.power.dc then
    .next { s with
      clk := { s.clk with core := false, ticks := false, beats := false }
      line := { s.line with hrdy := false, pulseEnd := none, due := [] }
      power := { s.power with mode := .retain, startAt := none, entryCommit := none, entryEdge := none } }
  else .next (settleLine s)

end Sys2Proof.Machine
end

