-- ==== Sys2Proof/Machine/Dispatch.lean ====
section
/-! DEFINITION. One arm per command: each calls its own meaning. -/
namespace Sys2Proof.Machine

/-- The effect of a command on everything but the queue. -/
def exec (i : Instr) (s : State) : Host.Outcome State Fault Refusal :=
  match i with
  | .hselNFall c => Sys2Proof.Machine.execHselNFall c s
  | .accessByte c b => Sys2Proof.Machine.execAccessByte c b s
  | .selectionGrant c => Sys2Proof.Machine.execSelectionGrant c s
  | .baleWrite c bale => Sys2Proof.Machine.execBaleWrite c bale s
  | .baleRead c => Sys2Proof.Machine.execBaleRead c s
  | .hselNRise c clocked => Sys2Proof.Machine.execHselNRise c clocked s
  | .attentionPulse c => Sys2Proof.Machine.execAttentionPulse c s
  | .attentionPulseEnd => Sys2Proof.Machine.execAttentionPulseEnd s
  | .baleDispatch c port => Sys2Proof.Machine.execBaleDispatch c port s
  | .baleDrain port => Sys2Proof.Machine.execBaleDrain port s
  | .packetGapExpiry port => Sys2Proof.Machine.execPacketGapExpiry port s
  | .replyBaleWrite c port => Sys2Proof.Machine.execReplyBaleWrite c port s
  | .cmdDatagram c dg => Sys2Proof.Machine.execCmdDatagram c dg s
  | .fragmentTimeout c => Sys2Proof.Machine.execFragmentTimeout c s
  | .firmwareRepeat c writes => Sys2Proof.Machine.execFirmwareRepeat c writes s
  | .sessionIdleExpiry port => Sys2Proof.Machine.execSessionIdleExpiry port s
  | .expertLockEnd port => Sys2Proof.Machine.execExpertLockEnd port s
  | .configLoadTimeout => Sys2Proof.Machine.execConfigLoadTimeout s
  | .configFileStored c ok => Sys2Proof.Machine.execConfigFileStored c ok s
  | .ident r => Sys2Proof.Machine.execIdent r s
  | .status r => Sys2Proof.Machine.execStatus r s
  | .eventsRead r => Sys2Proof.Machine.execEventsRead r s
  | .paramRead r parity => Sys2Proof.Machine.execParamRead r parity s
  | .paramWrite r => Sys2Proof.Machine.execParamWrite r s
  | .expertOpen r => Sys2Proof.Machine.execExpertOpen r s
  | .expertClose r => Sys2Proof.Machine.execExpertClose r s
  | .echo r => Sys2Proof.Machine.execEcho r s
  | .paramDescribe r => Sys2Proof.Machine.execParamDescribe r s
  | .expertCodeSet r => Sys2Proof.Machine.execExpertCodeSet r s
  | .modeSetBasic r => Sys2Proof.Machine.execModeSetBasic r s
  | .modeSetExpert r => Sys2Proof.Machine.execModeSetExpert r s
  | .setpointSet r => Sys2Proof.Machine.execSetpointSet r s
  | .joystickSet r => Sys2Proof.Machine.execJoystickSet r s
  | .berthPushSet r => Sys2Proof.Machine.execBerthPushSet r s
  | .trackLoad r => Sys2Proof.Machine.execTrackLoad r s
  | .lossModeSet r => Sys2Proof.Machine.execLossModeSet r s
  | .refConfigBasic r => Sys2Proof.Machine.execRefConfigBasic r s
  | .refConfigExpert r => Sys2Proof.Machine.execRefConfigExpert r s
  | .refEnable r => Sys2Proof.Machine.execRefEnable r s
  | .refStatusRead r => Sys2Proof.Machine.execRefStatusRead r s
  | .selectReference r => Sys2Proof.Machine.execSelectReference r s
  | .replayWindowSet r => Sys2Proof.Machine.execReplayWindowSet r s
  | .trackListRead r => Sys2Proof.Machine.execTrackListRead r s
  | .thrusterEnable r => Sys2Proof.Machine.execThrusterEnable r s
  | .thrusterDisable r => Sys2Proof.Machine.execThrusterDisable r s
  | .allocConfigBasic r => Sys2Proof.Machine.execAllocConfigBasic r s
  | .allocConfigExpert r => Sys2Proof.Machine.execAllocConfigExpert r s
  | .powerLimitSet r => Sys2Proof.Machine.execPowerLimitSet r s
  | .allocResultRead r => Sys2Proof.Machine.execAllocResultRead r s
  | .compatModeSet r => Sys2Proof.Machine.execCompatModeSet r s
  | .axisEnable r => Sys2Proof.Machine.execAxisEnable r s
  | .axisDisable r => Sys2Proof.Machine.execAxisDisable r s
  | .axisConfigBasic r => Sys2Proof.Machine.execAxisConfigBasic r s
  | .axisConfigExpert r => Sys2Proof.Machine.execAxisConfigExpert r s
  | .compTableLoad r => Sys2Proof.Machine.execCompTableLoad r s
  | .axisStatusRead r => Sys2Proof.Machine.execAxisStatusRead r s
  | .channelConfigBasic r => Sys2Proof.Machine.execChannelConfigBasic r s
  | .channelConfigExpert r => Sys2Proof.Machine.execChannelConfigExpert r s
  | .outputSet r => Sys2Proof.Machine.execOutputSet r s
  | .channelRead r => Sys2Proof.Machine.execChannelRead r s
  | .safeValueSet r => Sys2Proof.Machine.execSafeValueSet r s
  | .bankStatusRead r => Sys2Proof.Machine.execBankStatusRead r s
  | .filterPreset r => Sys2Proof.Machine.execFilterPreset r s
  | .filterCustom r => Sys2Proof.Machine.execFilterCustom r s
  | .syncFilters r => Sys2Proof.Machine.execSyncFilters r s
  | .dcBlockSet r => Sys2Proof.Machine.execDcBlockSet r s
  | .canConfigBasic r => Sys2Proof.Machine.execCanConfigBasic r s
  | .canConfigExpert r => Sys2Proof.Machine.execCanConfigExpert r s
  | .canIdEnable r => Sys2Proof.Machine.execCanIdEnable r s
  | .canStatusRead r => Sys2Proof.Machine.execCanStatusRead r s
  | .canSend r => Sys2Proof.Machine.execCanSend r s
  | .ethConfig r => Sys2Proof.Machine.execEthConfig r s
  | .ptpConfigBasic r => Sys2Proof.Machine.execPtpConfigBasic r s
  | .ptpConfigExpert r => Sys2Proof.Machine.execPtpConfigExpert r s
  | .timeRead r => Sys2Proof.Machine.execTimeRead r s
  | .timeDomainSelect r => Sys2Proof.Machine.execTimeDomainSelect r s
  | .gnssConfigBasic r => Sys2Proof.Machine.execGnssConfigBasic r s
  | .gnssConfigExpert r => Sys2Proof.Machine.execGnssConfigExpert r s
  | .gnssStatusRead r => Sys2Proof.Machine.execGnssStatusRead r s
  | .headingBaselineSet r => Sys2Proof.Machine.execHeadingBaselineSet r s
  | .gnssRestart r => Sys2Proof.Machine.execGnssRestart r s
  | .twinStatusRead r => Sys2Proof.Machine.execTwinStatusRead r s
  | .halterRequest r => Sys2Proof.Machine.execHalterRequest r s
  | .halterRelease r => Sys2Proof.Machine.execHalterRelease r s
  | .twinToleranceSet r => Sys2Proof.Machine.execTwinToleranceSet r s
  | .powerStateSet r => Sys2Proof.Machine.execPowerStateSet r s
  | .wakeConfig r => Sys2Proof.Machine.execWakeConfig r s
  | .rtcAlarmSet r => Sys2Proof.Machine.execRtcAlarmSet r s
  | .powerStatusRead r => Sys2Proof.Machine.execPowerStatusRead r s
  | .configFileStatus r => Sys2Proof.Machine.execConfigFileStatus r s
  | .yardRestart r => Sys2Proof.Machine.execYardRestart r s
  | .configFileLoad r => Sys2Proof.Machine.execConfigFileLoad r s
  | .moduleReset r => Sys2Proof.Machine.execModuleReset r s
  | .srcCtrlWrite h q v => Sys2Proof.Machine.execSrcCtrlWrite h q v s
  | .timeCtrlWrite h v => Sys2Proof.Machine.execTimeCtrlWrite h v s
  | .originWrite h lat lon => Sys2Proof.Machine.execOriginWrite h lat lon s
  | .histSelect h v => Sys2Proof.Machine.execHistSelect h v s
  | .histClear h v => Sys2Proof.Machine.execHistClear h v s
  | .bankLatchClear h bank v => Sys2Proof.Machine.execBankLatchClear h bank v s
  | .inboxLayoutWrite h port inbox outbox => Sys2Proof.Machine.execInboxLayoutWrite h port inbox outbox s
  | .cmdPeerWrite h peer udp => Sys2Proof.Machine.execCmdPeerWrite h peer udp s
  | .canCtrlWrite h bus v => Sys2Proof.Machine.execCanCtrlWrite h bus v s
  | .busPresentWrite h bus v => Sys2Proof.Machine.execBusPresentWrite h bus v s
  | .timeIncWrite h lo hi => Sys2Proof.Machine.execTimeIncWrite h lo hi s
  | .beatEdge wire => Sys2Proof.Machine.execBeatEdge wire s
  | .intakeSummary => Sys2Proof.Machine.execIntakeSummary s
  | .sourceLossTimeout q => Sys2Proof.Machine.execSourceLossTimeout q s
  | .loftReplayStep => Sys2Proof.Machine.execLoftReplayStep s
  | .fusionUpdate => Sys2Proof.Machine.execFusionUpdate s
  | .trackSilenceExpiry k => Sys2Proof.Machine.execTrackSilenceExpiry k s
  | .modelHoldEnd q => Sys2Proof.Machine.execModelHoldEnd q s
  | .votedOutReadmit k => Sys2Proof.Machine.execVotedOutReadmit k s
  | .refLost q => Sys2Proof.Machine.execRefLost q s
  | .controlLawOutput => Sys2Proof.Machine.execControlLawOutput s
  | .windStaleExpiry => Sys2Proof.Machine.execWindStaleExpiry s
  | .joyTimeoutExpiry => Sys2Proof.Machine.execJoyTimeoutExpiry s
  | .joyHeadingResume => Sys2Proof.Machine.execJoyHeadingResume s
  | .allocIteration => Sys2Proof.Machine.execAllocIteration s
  | .allocResult => Sys2Proof.Machine.execAllocResult s
  | .allocFallbackEntry => Sys2Proof.Machine.execAllocFallbackEntry s
  | .allocFallbackExit => Sys2Proof.Machine.execAllocFallbackExit s
  | .powerDataStale b => Sys2Proof.Machine.execPowerDataStale b s
  | .powerFrame c bus f => Sys2Proof.Machine.execPowerFrame c bus f s
  | .ptbmpSentence c eth chars => Sys2Proof.Machine.execPtbmpSentence c eth chars s
  | .laneCompare check => Sys2Proof.Machine.execLaneCompare check s
  | .exchangeSend => Sys2Proof.Machine.execExchangeSend s
  | .partnerExchange c pair msg => Sys2Proof.Machine.execPartnerExchange c pair msg s
  | .interUnitCompare => Sys2Proof.Machine.execInterUnitCompare s
  | .mirrorSend => Sys2Proof.Machine.execMirrorSend s
  | .mirrorAckSend primary check => Sys2Proof.Machine.execMirrorAckSend primary check s
  | .partnerAck c pair msg => Sys2Proof.Machine.execPartnerAck c pair msg s
  | .mirrorAdoption rx => Sys2Proof.Machine.execMirrorAdoption rx s
  | .remirrorExit => Sys2Proof.Machine.execRemirrorExit s
  | .commitMarker c m => Sys2Proof.Machine.execCommitMarker c m s
  | .forwardedAxisTransition c a t => Sys2Proof.Machine.execForwardedAxisTransition c a t s
  | .beatMarker c pair m => Sys2Proof.Machine.execBeatMarker c pair m s
  | .skewRegister => Sys2Proof.Machine.execSkewRegister s
  | .markerLoss => Sys2Proof.Machine.execMarkerLoss s
  | .fjPairLost c pair why => Sys2Proof.Machine.execFjPairLost c pair why s
  | .fjPairRegained c pair => Sys2Proof.Machine.execFjPairRegained c pair s
  | .halterExpiryTake => Sys2Proof.Machine.execHalterExpiryTake s
  | .halterLeaseLapse => Sys2Proof.Machine.execHalterLeaseLapse s
  | .aloneWaitExpiry => Sys2Proof.Machine.execAloneWaitExpiry s
  | .halterRequestExpiry => Sys2Proof.Machine.execHalterRequestExpiry s
  | .partnerPresence => Sys2Proof.Machine.execPartnerPresence s
  | .partnerHeartbeat c bus f => Sys2Proof.Machine.execPartnerHeartbeat c bus f s
  | .canTxComplete c bus tdcv => Sys2Proof.Machine.execCanTxComplete c bus tdcv s
  | .canAckError c bus => Sys2Proof.Machine.execCanAckError c bus s
  | .canClash c bus => Sys2Proof.Machine.execCanClash c bus s
  | .canBusError c bus e => Sys2Proof.Machine.execCanBusError c bus e s
  | .canBusOffRecovery c bus => Sys2Proof.Machine.execCanBusOffRecovery c bus s
  | .canEnableEffect bus onWire => Sys2Proof.Machine.execCanEnableEffect bus onWire s
  | .canIntegrationDone c bus => Sys2Proof.Machine.execCanIntegrationDone c bus s
  | .canFrameReceived c bus f => Sys2Proof.Machine.execCanFrameReceived c bus f s
  | .canReferenceFrame c sof bus f => Sys2Proof.Machine.execCanReferenceFrame c sof bus f s
  | .serialSentence c arrival port chars framing => Sys2Proof.Machine.execSerialSentence c arrival port chars framing s
  | .udpbcSentence c stamp eth group line => Sys2Proof.Machine.execUdpbcSentence c stamp eth group line s
  | .ethLinkChange c e up => Sys2Proof.Machine.execEthLinkChange c e up s
  | .ethFrameRx c e f => Sys2Proof.Machine.execEthFrameRx c e f s
  | .arpRequest c e target srcIp srcMac => Sys2Proof.Machine.execArpRequest c e target srcIp srcMac s
  | .icmpEcho c peer target data => Sys2Proof.Machine.execIcmpEcho c peer target data s
  | .igmpQuery c e group => Sys2Proof.Machine.execIgmpQuery c e group s
  | .ptpAnnounce c e slot m => Sys2Proof.Machine.execPtpAnnounce c e slot m s
  | .announceTimeout c slot => Sys2Proof.Machine.execAnnounceTimeout c slot s
  | .ptpSync c e slot m => Sys2Proof.Machine.execPtpSync c e slot m s
  | .ptpFollowUp c e slot m => Sys2Proof.Machine.execPtpFollowUp c e slot m s
  | .ptpDelayResp c e slot m => Sys2Proof.Machine.execPtpDelayResp c e slot m s
  | .delayReqSend slot draw => Sys2Proof.Machine.execDelayReqSend slot draw s
  | .acquisitionRunEnd slot => Sys2Proof.Machine.execAcquisitionRunEnd slot s
  | .slotHoldover slot => Sys2Proof.Machine.execSlotHoldover slot s
  | .slotFreeRun slot => Sys2Proof.Machine.execSlotFreeRun slot s
  | .slotStep c slot => Sys2Proof.Machine.execSlotStep c slot s
  | .timeSwitchAuto c => Sys2Proof.Machine.execTimeSwitchAuto c s
  | .switchStep c => Sys2Proof.Machine.execSwitchStep c s
  | .leapSecond c => Sys2Proof.Machine.execLeapSecond c s
  | .ppsPulse c => Sys2Proof.Machine.execPpsPulse c s
  | .ppsPulseEnd => Sys2Proof.Machine.execPpsPulseEnd s
  | .rtcAlarm c => Sys2Proof.Machine.execRtcAlarm c s
  | .antennaBiasClass ant mA => Sys2Proof.Machine.execAntennaBiasClass ant mA s
  | .antennaRetest ant mA => Sys2Proof.Machine.execAntennaRetest ant mA s
  | .gnssIntegration c ch corr => Sys2Proof.Machine.execGnssIntegration c ch corr s
  | .channelLossOfLock c ch => Sys2Proof.Machine.execChannelLossOfLock c ch s
  | .satelliteRelease c pair => Sys2Proof.Machine.execSatelliteRelease c pair s
  | .subframeReceived c ch words => Sys2Proof.Machine.execSubframeReceived c ch words s
  | .measurementTick c m => Sys2Proof.Machine.execMeasurementTick c m s
  | .epochStrobe c d => Sys2Proof.Machine.execEpochStrobe c d s
  | .checkClear c check => Sys2Proof.Machine.execCheckClear c check s
  | .gnssBlockWrite c => Sys2Proof.Machine.execGnssBlockWrite c s
  | .gnssStartTimeout => Sys2Proof.Machine.execGnssStartTimeout s
  | .tickEdge t => Sys2Proof.Machine.execTickEdge t s
  | .servoRegister => Sys2Proof.Machine.execServoRegister s
  | .axisFault a => Sys2Proof.Machine.execAxisFault a s
  | .axisShutdownComplete a => Sys2Proof.Machine.execAxisShutdownComplete a s
  | .axisCommandEffect a => Sys2Proof.Machine.execAxisCommandEffect a s
  | .pendingEnableEffect a => Sys2Proof.Machine.execPendingEnableEffect a s
  | .diagCommonEntry bank => Sys2Proof.Machine.execDiagCommonEntry bank s
  | .diagCommonExit bank => Sys2Proof.Machine.execDiagCommonExit bank s
  | .diDebounce ch => Sys2Proof.Machine.execDiDebounce ch s
  | .doOverloadCutoff ch thermal => Sys2Proof.Machine.execDoOverloadCutoff ch thermal s
  | .doRestart ch => Sys2Proof.Machine.execDoRestart ch s
  | .bankSupplyChange bank => Sys2Proof.Machine.execBankSupplyChange bank s
  | .bankOvercurrentTrip bank => Sys2Proof.Machine.execBankOvercurrentTrip bank s
  | .silenceTimeout bank => Sys2Proof.Machine.execSilenceTimeout bank s
  | .silenceResume bank => Sys2Proof.Machine.execSilenceResume bank s
  | .modeChangeEffect ch => Sys2Proof.Machine.execModeChangeEffect ch s
  | .sincOutput x => Sys2Proof.Machine.execSincOutput x s
  | .settlingEnd lane => Sys2Proof.Machine.execSettlingEnd lane s
  | .syncInEdge c rising => Sys2Proof.Machine.execSyncInEdge c rising s
  | .scrubRead yard mem err => Sys2Proof.Machine.execScrubRead yard mem err s
  | .blockFault c yard block => Sys2Proof.Machine.execBlockFault c yard block s
  | .blockResetDone yard block => Sys2Proof.Machine.execBlockResetDone yard block s
  | .yardFence c yard cause => Sys2Proof.Machine.execYardFence c yard cause s
  | .supplyInputChange c input valid mainsV dc power => Sys2Proof.Machine.execSupplyInputChange c input valid mainsV dc power s
  | .sleepEntry => Sys2Proof.Machine.execSleepEntry s
  | .sleepEntryDone => Sys2Proof.Machine.execSleepEntryDone s
  | .wakeEvent c sources => Sys2Proof.Machine.execWakeEvent c sources s
  | .canWakeCheck c bus => Sys2Proof.Machine.execCanWakeCheck c bus s
  | .wakeCheckTimeout c => Sys2Proof.Machine.execWakeCheckTimeout c s
  | .watchWindowOpen c => Sys2Proof.Machine.execWatchWindowOpen c s
  | .watchWindowClose c => Sys2Proof.Machine.execWatchWindowClose c s
  | .clockStart lock => Sys2Proof.Machine.execClockStart lock s
  | .clockStartRetry => Sys2Proof.Machine.execClockStartRetry s
  | .yardRestartBegin => Sys2Proof.Machine.execYardRestartBegin s
  | .moduleResetBegin => Sys2Proof.Machine.execModuleResetBegin s
  | .bringUpStart slow => Sys2Proof.Machine.execBringUpStart slow s
  | .pd1Verdict v => Sys2Proof.Machine.execPd1Verdict v s
  | .historyFlush => Sys2Proof.Machine.execHistoryFlush s
  | .pd4Verdict v => Sys2Proof.Machine.execPd4Verdict v s
  | .selftestVerdicts v strap => Sys2Proof.Machine.execSelftestVerdicts v strap s
  | .crossCheckVerdict agree => Sys2Proof.Machine.execCrossCheckVerdict agree s
  | .handshakeSend c => Sys2Proof.Machine.execHandshakeSend c s
  | .handshakeMessage c pair msg => Sys2Proof.Machine.execHandshakeMessage c pair msg s
  | .handshakeVerdict => Sys2Proof.Machine.execHandshakeVerdict s
  | .bringUpEnd => Sys2Proof.Machine.execBringUpEnd s
  | .backupCellMeasure mV => Sys2Proof.Machine.execBackupCellMeasure mV s
  | .switchSlewEnd c => Sys2Proof.Machine.execSwitchSlewEnd c s
  | .acquisitionRunBreak slot => Sys2Proof.Machine.execAcquisitionRunBreak slot s
  | .talkSentenceSent port => Sys2Proof.Machine.execTalkSentenceSent port s
  | .ethFrameTx c e => Sys2Proof.Machine.execEthFrameTx c e s
  | .backupCellRemoved => Sys2Proof.Machine.execBackupCellRemoved s

end Sys2Proof.Machine
end

