-- ==== Sys2Proof/Machine/Operands.lean ====
section
/-! DEFINITION. The operand forms of the commands: which commands are requests of the command set, with the opcode they serve
and their request packet (04 R123), and which bring their own cycle. -/
namespace Sys2Proof.Machine

/-- The opcode specification and the request of a command that the command engine serves: the opcodes of 04 R123's map, and the
writes of one setting, which are PARAM_WRITEs (04 R130); none for a command of another kind. -/
def requestOf (i : Instr) : Option (OpSpec × Req) :=
  match i with
  | .ident r => some (opIdent, r)
  | .status r => some (opStatus, r)
  | .eventsRead r => some (opEventsRead, r)
  | .paramRead r parity => some (opParamRead parity, r)
  | .paramWrite r => some (opParamWrite, r)
  | .expertOpen r => some (opExpertOpen, r)
  | .expertClose r => some (opExpertClose, r)
  | .echo r => some (opEcho, r)
  | .paramDescribe r => some (opParamDescribe, r)
  | .expertCodeSet r => some (opExpertCodeSet, r)
  | .modeSetBasic r => some (opModeSetBasic, r)
  | .modeSetExpert r => some (opModeSetExpert, r)
  | .setpointSet r => some (opSetpointSet, r)
  | .joystickSet r => some (opJoystickSet, r)
  | .berthPushSet r => some (opBerthPushSet, r)
  | .trackLoad r => some (opTrackLoad, r)
  | .lossModeSet r => some (opLossModeSet, r)
  | .refConfigBasic r => some (opRefConfigBasic, r)
  | .refConfigExpert r => some (opRefConfigExpert, r)
  | .refEnable r => some (opRefEnable, r)
  | .refStatusRead r => some (opRefStatusRead, r)
  | .selectReference r => some (opSelectReference, r)
  | .replayWindowSet r => some (opReplayWindowSet, r)
  | .trackListRead r => some (opTrackListRead, r)
  | .thrusterEnable r => some (opThrusterEnable, r)
  | .thrusterDisable r => some (opThrusterDisable, r)
  | .allocConfigBasic r => some (opAllocConfigBasic, r)
  | .allocConfigExpert r => some (opAllocConfigExpert, r)
  | .powerLimitSet r => some (opPowerLimitSet, r)
  | .allocResultRead r => some (opAllocResultRead, r)
  | .compatModeSet r => some (opCompatModeSet, r)
  | .axisEnable r => some (opAxisEnable, r)
  | .axisDisable r => some (opAxisDisable, r)
  | .axisConfigBasic r => some (opAxisConfigBasic, r)
  | .axisConfigExpert r => some (opAxisConfigExpert, r)
  | .compTableLoad r => some (opCompTableLoad, r)
  | .axisStatusRead r => some (opAxisStatusRead, r)
  | .channelConfigBasic r => some (opChannelConfigBasic, r)
  | .channelConfigExpert r => some (opChannelConfigExpert, r)
  | .outputSet r => some (opOutputSet, r)
  | .channelRead r => some (opChannelRead, r)
  | .safeValueSet r => some (opSafeValueSet, r)
  | .bankStatusRead r => some (opBankStatusRead, r)
  | .filterPreset r => some (opFilterPreset, r)
  | .filterCustom r => some (opFilterCustom, r)
  | .syncFilters r => some (opSyncFilters, r)
  | .dcBlockSet r => some (opDcBlockSet, r)
  | .canConfigBasic r => some (opCanConfigBasic, r)
  | .canConfigExpert r => some (opCanConfigExpert, r)
  | .canIdEnable r => some (opCanIdEnable, r)
  | .canStatusRead r => some (opCanStatusRead, r)
  | .canSend r => some (opCanSend, r)
  | .ethConfig r => some (opEthConfig, r)
  | .ptpConfigBasic r => some (opPtpConfigBasic, r)
  | .ptpConfigExpert r => some (opPtpConfigExpert, r)
  | .timeRead r => some (opTimeRead, r)
  | .timeDomainSelect r => some (opTimeDomainSelect, r)
  | .gnssConfigBasic r => some (opGnssConfigBasic, r)
  | .gnssConfigExpert r => some (opGnssConfigExpert, r)
  | .gnssStatusRead r => some (opGnssStatusRead, r)
  | .headingBaselineSet r => some (opHeadingBaselineSet, r)
  | .gnssRestart r => some (opGnssRestart, r)
  | .twinStatusRead r => some (opTwinStatusRead, r)
  | .halterRequest r => some (opHalterRequest, r)
  | .halterRelease r => some (opHalterRelease, r)
  | .twinToleranceSet r => some (opTwinToleranceSet, r)
  | .powerStateSet r => some (opPowerStateSet, r)
  | .wakeConfig r => some (opWakeConfig, r)
  | .rtcAlarmSet r => some (opRtcAlarmSet, r)
  | .powerStatusRead r => some (opPowerStatusRead, r)
  | .configFileStatus r => some (opConfigFileStatus, r)
  | .yardRestart r => some (opYardRestart, r)
  | .configFileLoad r => some (opConfigFileLoad, r)
  | .moduleReset r => some (opModuleReset, r)
  | .srcCtrlWrite h q v => some (opParamWrite, ⟨h, writePayload [(0x2200 + 8 * q.val, v)]⟩)
  | .timeCtrlWrite h v => some (opParamWrite, ⟨h, writePayload [(0x7200, v)]⟩)
  | .originWrite h lat lon => some (opParamWrite, ⟨h, writePayload (someEntries [(0x2301, lat), (0x2302, lon)])⟩)
  | .histSelect h v => some (opParamWrite, ⟨h, writePayload [(0x1310, v)]⟩)
  | .histClear h v => some (opParamWrite, ⟨h, writePayload [(0x1311, v)]⟩)
  | .bankLatchClear h bank v => some (opParamWrite, ⟨h, writePayload [(0x6402 + 16 * bank.val, v)]⟩)
  | .inboxLayoutWrite h port inbox outbox => some (opParamWrite, ⟨h, writePayload (someEntries [(portId port 0, inbox), (portId port 1, outbox)])⟩)
  | .cmdPeerWrite h peer udp => some (opParamWrite, ⟨h, writePayload (someEntries [(0x1219, udp), (0x121A, peer)])⟩)
  | .canCtrlWrite h bus v => some (opParamWrite, ⟨h, writePayload [(0x7000 + 64 * bus.val, v)]⟩)
  | .busPresentWrite h bus v => some (opParamWrite, ⟨h, writePayload [(0x2492 + 4 * bus.val, v)]⟩)
  | .timeIncWrite h lo hi => some (opParamWrite, ⟨h, writePayload (someEntries [(0x7201, lo), (0x7202, hi)])⟩)
  | .hselNFall _ | .accessByte _ _ | .selectionGrant _ | .baleWrite _ _ | .baleRead _ | .hselNRise _ _ |
    .attentionPulse _ | .attentionPulseEnd | .baleDispatch _ _ | .baleDrain _ | .packetGapExpiry _ |
    .replyBaleWrite _ _ | .cmdDatagram _ _ | .fragmentTimeout _ | .firmwareRepeat _ _ | .sessionIdleExpiry _ |
    .expertLockEnd _ | .configLoadTimeout | .configFileStored _ _ | .beatEdge _ | .intakeSummary |
    .sourceLossTimeout _ | .loftReplayStep | .fusionUpdate | .trackSilenceExpiry _ | .modelHoldEnd _ |
    .votedOutReadmit _ | .refLost _ | .controlLawOutput | .windStaleExpiry | .joyTimeoutExpiry | .joyHeadingResume |
    .allocIteration | .allocResult | .allocFallbackEntry | .allocFallbackExit | .powerDataStale _ |
    .powerFrame _ _ _ | .ptbmpSentence _ _ _ | .laneCompare _ | .exchangeSend | .partnerExchange _ _ _ |
    .interUnitCompare | .mirrorSend | .mirrorAckSend _ _ | .partnerAck _ _ _ | .mirrorAdoption _ | .remirrorExit |
    .commitMarker _ _ | .forwardedAxisTransition _ _ _ | .beatMarker _ _ _ | .skewRegister | .markerLoss |
    .fjPairLost _ _ _ | .fjPairRegained _ _ | .halterExpiryTake | .halterLeaseLapse | .aloneWaitExpiry |
    .halterRequestExpiry | .partnerPresence | .partnerHeartbeat _ _ _ | .canTxComplete _ _ _ | .canAckError _ _ |
    .canClash _ _ | .canBusError _ _ _ | .canBusOffRecovery _ _ | .canEnableEffect _ _ | .canIntegrationDone _ _ |
    .canFrameReceived _ _ _ | .canReferenceFrame _ _ _ _ | .serialSentence _ _ _ _ _ | .udpbcSentence _ _ _ _ _ |
    .ethLinkChange _ _ _ | .ethFrameRx _ _ _ | .arpRequest _ _ _ _ _ | .icmpEcho _ _ _ _ | .igmpQuery _ _ _ |
    .ptpAnnounce _ _ _ _ | .announceTimeout _ _ | .ptpSync _ _ _ _ | .ptpFollowUp _ _ _ _ | .ptpDelayResp _ _ _ _ |
    .delayReqSend _ _ | .acquisitionRunEnd _ | .slotHoldover _ | .slotFreeRun _ | .slotStep _ _ | .timeSwitchAuto _ |
    .switchStep _ | .leapSecond _ | .ppsPulse _ | .ppsPulseEnd | .rtcAlarm _ | .antennaBiasClass _ _ |
    .antennaRetest _ _ | .gnssIntegration _ _ _ | .channelLossOfLock _ _ | .satelliteRelease _ _ |
    .subframeReceived _ _ _ | .measurementTick _ _ | .epochStrobe _ _ | .checkClear _ _ | .gnssBlockWrite _ |
    .gnssStartTimeout | .tickEdge _ | .servoRegister | .axisFault _ | .axisShutdownComplete _ |
    .axisCommandEffect _ | .pendingEnableEffect _ | .diagCommonEntry _ | .diagCommonExit _ | .diDebounce _ |
    .doOverloadCutoff _ _ | .doRestart _ | .bankSupplyChange _ | .bankOvercurrentTrip _ | .silenceTimeout _ |
    .silenceResume _ | .modeChangeEffect _ | .sincOutput _ | .settlingEnd _ | .syncInEdge _ _ | .scrubRead _ _ _ |
    .blockFault _ _ _ | .blockResetDone _ _ | .yardFence _ _ _ | .supplyInputChange _ _ _ _ _ _ | .sleepEntry |
    .sleepEntryDone | .wakeEvent _ _ | .canWakeCheck _ _ | .wakeCheckTimeout _ | .watchWindowOpen _ |
    .watchWindowClose _ | .clockStart _ | .clockStartRetry | .yardRestartBegin | .moduleResetBegin |
    .bringUpStart _ | .pd1Verdict _ | .historyFlush | .pd4Verdict _ | .selftestVerdicts _ _ | .crossCheckVerdict _ |
    .handshakeSend _ | .handshakeMessage _ _ _ | .handshakeVerdict | .bringUpEnd | .backupCellMeasure _ |
    .switchSlewEnd _ | .acquisitionRunBreak _ | .talkSentenceSent _ | .ethFrameTx _ _ | .backupCellRemoved => none

/-- The cycle that a command brings with it, the value of the cycle counter at its own edge; none for a scheduled command. -/
def ownCycle (i : Instr) : Option Nat :=
  match i with
  | .hselNFall c => some c
  | .accessByte c _ => some c
  | .selectionGrant c => some c
  | .baleWrite c _ => some c
  | .baleRead c => some c
  | .hselNRise c _ => some c
  | .attentionPulse c => some c
  | .baleDispatch c _ => some c
  | .replyBaleWrite c _ => some c
  | .cmdDatagram c _ => some c
  | .fragmentTimeout c => some c
  | .firmwareRepeat c _ => some c
  | .configFileStored c _ => some c
  | .powerFrame c _ _ => some c
  | .ptbmpSentence c _ _ => some c
  | .partnerExchange c _ _ => some c
  | .partnerAck c _ _ => some c
  | .commitMarker c _ => some c
  | .forwardedAxisTransition c _ _ => some c
  | .beatMarker c _ _ => some c
  | .fjPairLost c _ _ => some c
  | .fjPairRegained c _ => some c
  | .partnerHeartbeat c _ _ => some c
  | .canTxComplete c _ _ => some c
  | .canAckError c _ => some c
  | .canClash c _ => some c
  | .canBusError c _ _ => some c
  | .canBusOffRecovery c _ => some c
  | .canIntegrationDone c _ => some c
  | .canFrameReceived c _ _ => some c
  | .canReferenceFrame c _ _ _ => some c
  | .serialSentence c _ _ _ _ => some c
  | .udpbcSentence c _ _ _ _ => some c
  | .ethLinkChange c _ _ => some c
  | .ethFrameRx c _ _ => some c
  | .arpRequest c _ _ _ _ => some c
  | .icmpEcho c _ _ _ => some c
  | .igmpQuery c _ _ => some c
  | .ptpAnnounce c _ _ _ => some c
  | .announceTimeout c _ => some c
  | .ptpSync c _ _ _ => some c
  | .ptpFollowUp c _ _ _ => some c
  | .ptpDelayResp c _ _ _ => some c
  | .slotStep c _ => some c
  | .timeSwitchAuto c => some c
  | .switchStep c => some c
  | .leapSecond c => some c
  | .ppsPulse c => some c
  | .rtcAlarm c => some c
  | .gnssIntegration c _ _ => some c
  | .channelLossOfLock c _ => some c
  | .satelliteRelease c _ => some c
  | .subframeReceived c _ _ => some c
  | .measurementTick c _ => some c
  | .epochStrobe c _ => some c
  | .checkClear c _ => some c
  | .gnssBlockWrite c => some c
  | .syncInEdge c _ => some c
  | .blockFault c _ _ => some c
  | .yardFence c _ _ => some c
  | .supplyInputChange c _ _ _ _ _ => some c
  | .wakeEvent c _ => some c
  | .canWakeCheck c _ => some c
  | .wakeCheckTimeout c => some c
  | .watchWindowOpen c => some c
  | .watchWindowClose c => some c
  | .handshakeSend c => some c
  | .handshakeMessage c _ _ => some c
  | .switchSlewEnd c => some c
  | .ethFrameTx c _ => some c
  | .attentionPulseEnd | .baleDrain _ | .packetGapExpiry _ | .sessionIdleExpiry _ | .expertLockEnd _ |
    .configLoadTimeout | .ident _ | .status _ | .eventsRead _ | .paramRead _ _ | .paramWrite _ | .expertOpen _ |
    .expertClose _ | .echo _ | .paramDescribe _ | .expertCodeSet _ | .modeSetBasic _ | .modeSetExpert _ |
    .setpointSet _ | .joystickSet _ | .berthPushSet _ | .trackLoad _ | .lossModeSet _ | .refConfigBasic _ |
    .refConfigExpert _ | .refEnable _ | .refStatusRead _ | .selectReference _ | .replayWindowSet _ |
    .trackListRead _ | .thrusterEnable _ | .thrusterDisable _ | .allocConfigBasic _ | .allocConfigExpert _ |
    .powerLimitSet _ | .allocResultRead _ | .compatModeSet _ | .axisEnable _ | .axisDisable _ | .axisConfigBasic _ |
    .axisConfigExpert _ | .compTableLoad _ | .axisStatusRead _ | .channelConfigBasic _ | .channelConfigExpert _ |
    .outputSet _ | .channelRead _ | .safeValueSet _ | .bankStatusRead _ | .filterPreset _ | .filterCustom _ |
    .syncFilters _ | .dcBlockSet _ | .canConfigBasic _ | .canConfigExpert _ | .canIdEnable _ | .canStatusRead _ |
    .canSend _ | .ethConfig _ | .ptpConfigBasic _ | .ptpConfigExpert _ | .timeRead _ | .timeDomainSelect _ |
    .gnssConfigBasic _ | .gnssConfigExpert _ | .gnssStatusRead _ | .headingBaselineSet _ | .gnssRestart _ |
    .twinStatusRead _ | .halterRequest _ | .halterRelease _ | .twinToleranceSet _ | .powerStateSet _ |
    .wakeConfig _ | .rtcAlarmSet _ | .powerStatusRead _ | .configFileStatus _ | .yardRestart _ | .configFileLoad _ |
    .moduleReset _ | .srcCtrlWrite _ _ _ | .timeCtrlWrite _ _ | .originWrite _ _ _ | .histSelect _ _ |
    .histClear _ _ | .bankLatchClear _ _ _ | .inboxLayoutWrite _ _ _ _ | .cmdPeerWrite _ _ _ | .canCtrlWrite _ _ _ |
    .busPresentWrite _ _ _ | .timeIncWrite _ _ _ | .beatEdge _ | .intakeSummary | .sourceLossTimeout _ |
    .loftReplayStep | .fusionUpdate | .trackSilenceExpiry _ | .modelHoldEnd _ | .votedOutReadmit _ | .refLost _ |
    .controlLawOutput | .windStaleExpiry | .joyTimeoutExpiry | .joyHeadingResume | .allocIteration | .allocResult |
    .allocFallbackEntry | .allocFallbackExit | .powerDataStale _ | .laneCompare _ | .exchangeSend |
    .interUnitCompare | .mirrorSend | .mirrorAckSend _ _ | .mirrorAdoption _ | .remirrorExit | .skewRegister |
    .markerLoss | .halterExpiryTake | .halterLeaseLapse | .aloneWaitExpiry | .halterRequestExpiry |
    .partnerPresence | .canEnableEffect _ _ | .delayReqSend _ _ | .acquisitionRunEnd _ | .slotHoldover _ |
    .slotFreeRun _ | .ppsPulseEnd | .antennaBiasClass _ _ | .antennaRetest _ _ | .gnssStartTimeout | .tickEdge _ |
    .servoRegister | .axisFault _ | .axisShutdownComplete _ | .axisCommandEffect _ | .pendingEnableEffect _ |
    .diagCommonEntry _ | .diagCommonExit _ | .diDebounce _ | .doOverloadCutoff _ _ | .doRestart _ |
    .bankSupplyChange _ | .bankOvercurrentTrip _ | .silenceTimeout _ | .silenceResume _ | .modeChangeEffect _ |
    .sincOutput _ | .settlingEnd _ | .scrubRead _ _ _ | .blockResetDone _ _ | .sleepEntry | .sleepEntryDone |
    .clockStart _ | .clockStartRetry | .yardRestartBegin | .moduleResetBegin | .bringUpStart _ | .pd1Verdict _ |
    .historyFlush | .pd4Verdict _ | .selftestVerdicts _ _ | .crossCheckVerdict _ | .handshakeVerdict | .bringUpEnd |
    .backupCellMeasure _ | .acquisitionRunBreak _ | .talkSentenceSent _ | .backupCellRemoved => none

/-- The families of commands, after the chapters that describe them. -/
inductive Family where
  /-- Selections, bales, dispatch, drains and command datagrams (03). -/
  | hostPort
  /-- What the command engine does by time (01 R43, 04 R117, R118, R133, R134). -/
  | session
  /-- The opcodes of the command set (04 R123). -/
  | request
  /-- Parameters whose write is a command of its own. -/
  | rowWrite
  /-- The beat edge (02). -/
  | beat
  /-- Reference intake and talk sentences (05). -/
  | intake
  /-- Estimator and votes (06). -/
  | fusion
  /-- The control law (08). -/
  | control
  /-- Thrust allocation and power data (09). -/
  | allocation
  /-- Comparison, exchange, mirror and halter (15). -/
  | twin
  /-- The mirror and what the holder forwards (15 R445-R450). -/
  | forwarded
  /-- Beat alignment and fibre pairs (02 R67-R70, 15 R441). -/
  | link
  /-- The CAN controllers (13). -/
  | can
  /-- The Ethernet ports (14 R407-R411). -/
  | ethernet
  /-- Time slots, reported time and the time pulse (14). -/
  | time
  /-- The GNSS baseband (07). -/
  | gnss
  /-- The servo tick edge (11). -/
  | tick
  /-- The thruster servo (10). -/
  | servo
  /-- The field channels (11). -/
  | field
  /-- The filter chain (12). -/
  | filter
  /-- Scrubbing, block faults and fences (01). -/
  | health
  /-- Supplies, sleep, wake and clocks (16). -/
  | power
  /-- Bring-up and restarts (16 R480-R490, 04 R136, R137). -/
  | bringUp
deriving DecidableEq, Repr

/-- The family of a command. -/
def familyOf (i : Instr) : Family :=
  match i with
  | .hselNFall _ | .accessByte _ _ | .selectionGrant _ | .baleWrite _ _ | .baleRead _ | .hselNRise _ _ |
    .attentionPulse _ | .attentionPulseEnd | .baleDispatch _ _ | .baleDrain _ | .packetGapExpiry _ |
    .replyBaleWrite _ _ | .cmdDatagram _ _ | .fragmentTimeout _ => .hostPort
  | .firmwareRepeat _ _ | .sessionIdleExpiry _ | .expertLockEnd _ | .configLoadTimeout |
    .configFileStored _ _ => .session
  | .ident _ | .status _ | .eventsRead _ | .paramRead _ _ | .paramWrite _ | .expertOpen _ | .expertClose _ |
    .echo _ | .paramDescribe _ | .expertCodeSet _ | .modeSetBasic _ | .modeSetExpert _ | .setpointSet _ |
    .joystickSet _ | .berthPushSet _ | .trackLoad _ | .lossModeSet _ | .refConfigBasic _ | .refConfigExpert _ |
    .refEnable _ | .refStatusRead _ | .selectReference _ | .replayWindowSet _ | .trackListRead _ |
    .thrusterEnable _ | .thrusterDisable _ | .allocConfigBasic _ | .allocConfigExpert _ | .powerLimitSet _ |
    .allocResultRead _ | .compatModeSet _ | .axisEnable _ | .axisDisable _ | .axisConfigBasic _ |
    .axisConfigExpert _ | .compTableLoad _ | .axisStatusRead _ | .channelConfigBasic _ | .channelConfigExpert _ |
    .outputSet _ | .channelRead _ | .safeValueSet _ | .bankStatusRead _ | .filterPreset _ | .filterCustom _ |
    .syncFilters _ | .dcBlockSet _ | .canConfigBasic _ | .canConfigExpert _ | .canIdEnable _ | .canStatusRead _ |
    .canSend _ | .ethConfig _ | .ptpConfigBasic _ | .ptpConfigExpert _ | .timeRead _ | .timeDomainSelect _ |
    .gnssConfigBasic _ | .gnssConfigExpert _ | .gnssStatusRead _ | .headingBaselineSet _ | .gnssRestart _ |
    .twinStatusRead _ | .halterRequest _ | .halterRelease _ | .twinToleranceSet _ | .powerStateSet _ |
    .wakeConfig _ | .rtcAlarmSet _ | .powerStatusRead _ | .configFileStatus _ | .yardRestart _ | .configFileLoad _ |
    .moduleReset _ => .request
  | .srcCtrlWrite _ _ _ | .timeCtrlWrite _ _ | .originWrite _ _ _ | .histSelect _ _ | .histClear _ _ |
    .bankLatchClear _ _ _ | .inboxLayoutWrite _ _ _ _ | .cmdPeerWrite _ _ _ | .canCtrlWrite _ _ _ |
    .busPresentWrite _ _ _ | .timeIncWrite _ _ _ => .rowWrite
  | .beatEdge _ => .beat
  | .intakeSummary | .sourceLossTimeout _ | .serialSentence _ _ _ _ _ | .udpbcSentence _ _ _ _ _ |
    .canReferenceFrame _ _ _ _ | .talkSentenceSent _ => .intake
  | .loftReplayStep | .fusionUpdate | .trackSilenceExpiry _ | .modelHoldEnd _ | .votedOutReadmit _ => .fusion
  | .refLost _ | .controlLawOutput | .windStaleExpiry | .joyTimeoutExpiry | .joyHeadingResume => .control
  | .allocIteration | .allocResult | .allocFallbackEntry | .allocFallbackExit | .powerDataStale _ |
    .powerFrame _ _ _ | .ptbmpSentence _ _ _ => .allocation
  | .laneCompare _ | .exchangeSend | .partnerExchange _ _ _ | .interUnitCompare | .mirrorSend | .mirrorAckSend _ _ |
    .partnerAck _ _ _ | .remirrorExit | .halterExpiryTake | .halterLeaseLapse | .aloneWaitExpiry |
    .halterRequestExpiry | .partnerPresence | .partnerHeartbeat _ _ _ => .twin
  | .mirrorAdoption _ | .commitMarker _ _ | .forwardedAxisTransition _ _ _ => .forwarded
  | .beatMarker _ _ _ | .skewRegister | .markerLoss | .fjPairLost _ _ _ | .fjPairRegained _ _ => .link
  | .canTxComplete _ _ _ | .canAckError _ _ | .canClash _ _ | .canBusError _ _ _ | .canBusOffRecovery _ _ |
    .canEnableEffect _ _ | .canIntegrationDone _ _ | .canFrameReceived _ _ _ => .can
  | .ethLinkChange _ _ _ | .ethFrameRx _ _ _ | .ethFrameTx _ _ | .arpRequest _ _ _ _ _ | .icmpEcho _ _ _ _ |
    .igmpQuery _ _ _ => .ethernet
  | .ptpAnnounce _ _ _ _ | .announceTimeout _ _ | .ptpSync _ _ _ _ | .ptpFollowUp _ _ _ _ | .ptpDelayResp _ _ _ _ |
    .delayReqSend _ _ | .acquisitionRunEnd _ | .slotHoldover _ | .slotFreeRun _ | .slotStep _ _ | .timeSwitchAuto _ |
    .switchStep _ | .leapSecond _ | .ppsPulse _ | .ppsPulseEnd | .switchSlewEnd _ | .acquisitionRunBreak _ => .time
  | .antennaBiasClass _ _ | .antennaRetest _ _ | .gnssIntegration _ _ _ | .channelLossOfLock _ _ |
    .satelliteRelease _ _ | .subframeReceived _ _ _ | .measurementTick _ _ | .epochStrobe _ _ | .checkClear _ _ |
    .gnssBlockWrite _ | .gnssStartTimeout => .gnss
  | .tickEdge _ => .tick
  | .servoRegister | .axisFault _ | .axisShutdownComplete _ | .axisCommandEffect _ | .pendingEnableEffect _ => .servo
  | .diagCommonEntry _ | .diagCommonExit _ | .diDebounce _ | .doOverloadCutoff _ _ | .doRestart _ |
    .bankSupplyChange _ | .bankOvercurrentTrip _ | .silenceTimeout _ | .silenceResume _ |
    .modeChangeEffect _ => .field
  | .sincOutput _ | .settlingEnd _ | .syncInEdge _ _ => .filter
  | .scrubRead _ _ _ | .blockFault _ _ _ | .blockResetDone _ _ | .yardFence _ _ _ => .health
  | .supplyInputChange _ _ _ _ _ _ | .sleepEntry | .sleepEntryDone | .wakeEvent _ _ | .canWakeCheck _ _ |
    .wakeCheckTimeout _ | .watchWindowOpen _ | .watchWindowClose _ | .clockStart _ | .clockStartRetry | .rtcAlarm _ |
    .backupCellMeasure _ | .backupCellRemoved => .power
  | .yardRestartBegin | .moduleResetBegin | .bringUpStart _ | .pd1Verdict _ | .historyFlush | .pd4Verdict _ |
    .selftestVerdicts _ _ | .crossCheckVerdict _ | .handshakeSend _ | .handshakeMessage _ _ _ | .handshakeVerdict |
    .bringUpEnd => .bringUp

end Sys2Proof.Machine
end

