-- ==== Sys2Proof/WellFormed.lean ====
section
/-! DEFINITION. Which commands can cross into the module at all: the lengths and ranges that its lines fix, whatever the module
then makes of the command. A bale and a subframe that fail here are the two faults of the model. -/
namespace Sys2Proof

/-- The data lengths of a CAN FD frame (13 R380, ISO 11898-1): the lengths that a DLC names. -/
def fdLengths : List Nat := [0, 1, 2, 3, 4, 5, 6, 7, 8, 12, 16, 20, 24, 32, 48, 64]

/-- A CAN frame that a bus can carry (13 R380): a base identifier has 11 bits; classic data has at most 8 bytes; a remote frame is
classic. -/
def CanFrame.wellFormed (f : CanFrame) : Bool :=
  (f.ext || decide (f.id.toNat < 2 ^ 11)) &&
  (if f.fd then fdLengths.contains f.data.length && !f.remote else decide (f.data.length ≤ 8))

/-- A command whose operands the lines can carry: a bale is 64 bytes (03 R84), a subframe ten words (07 R211), a CAN frame one
that its bus can carry. -/
def Instr.wellFormed (i : Instr) : Bool :=
  match i with
  | .baleWrite _ bale => bale.length == 64
  | .subframeReceived _ _ words => words.length == 10
  | .powerFrame _ _ f => f.wellFormed
  | .partnerHeartbeat _ _ f => f.wellFormed
  | .canFrameReceived _ _ f => f.wellFormed
  | .canReferenceFrame _ _ _ f => f.wellFormed
  | .hselNFall _ | .accessByte _ _ | .selectionGrant _ | .baleRead _ | .hselNRise _ _ | .attentionPulse _ |
    .attentionPulseEnd | .baleDispatch _ _ | .baleDrain _ | .packetGapExpiry _ | .replyBaleWrite _ _ |
    .cmdDatagram _ _ | .fragmentTimeout _ | .firmwareRepeat _ _ | .sessionIdleExpiry _ | .expertLockEnd _ |
    .configLoadTimeout | .configFileStored _ _ | .ident _ | .status _ | .eventsRead _ | .paramRead _ _ |
    .paramWrite _ | .expertOpen _ | .expertClose _ | .echo _ | .paramDescribe _ | .expertCodeSet _ |
    .modeSetBasic _ | .modeSetExpert _ | .setpointSet _ | .joystickSet _ | .berthPushSet _ | .trackLoad _ |
    .lossModeSet _ | .refConfigBasic _ | .refConfigExpert _ | .refEnable _ | .refStatusRead _ | .selectReference _ |
    .replayWindowSet _ | .trackListRead _ | .thrusterEnable _ | .thrusterDisable _ | .allocConfigBasic _ |
    .allocConfigExpert _ | .powerLimitSet _ | .allocResultRead _ | .compatModeSet _ | .axisEnable _ |
    .axisDisable _ | .axisConfigBasic _ | .axisConfigExpert _ | .compTableLoad _ | .axisStatusRead _ |
    .channelConfigBasic _ | .channelConfigExpert _ | .outputSet _ | .channelRead _ | .safeValueSet _ |
    .bankStatusRead _ | .filterPreset _ | .filterCustom _ | .syncFilters _ | .dcBlockSet _ | .canConfigBasic _ |
    .canConfigExpert _ | .canIdEnable _ | .canStatusRead _ | .canSend _ | .ethConfig _ | .ptpConfigBasic _ |
    .ptpConfigExpert _ | .timeRead _ | .timeDomainSelect _ | .gnssConfigBasic _ | .gnssConfigExpert _ |
    .gnssStatusRead _ | .headingBaselineSet _ | .gnssRestart _ | .twinStatusRead _ | .halterRequest _ |
    .halterRelease _ | .twinToleranceSet _ | .powerStateSet _ | .wakeConfig _ | .rtcAlarmSet _ | .powerStatusRead _ |
    .configFileStatus _ | .yardRestart _ | .configFileLoad _ | .moduleReset _ | .srcCtrlWrite _ _ _ |
    .timeCtrlWrite _ _ | .originWrite _ _ _ | .histSelect _ _ | .histClear _ _ | .bankLatchClear _ _ _ |
    .inboxLayoutWrite _ _ _ _ | .cmdPeerWrite _ _ _ | .canCtrlWrite _ _ _ | .busPresentWrite _ _ _ |
    .timeIncWrite _ _ _ | .beatEdge _ | .intakeSummary | .sourceLossTimeout _ | .loftReplayStep | .fusionUpdate |
    .trackSilenceExpiry _ | .modelHoldEnd _ | .votedOutReadmit _ | .refLost _ | .controlLawOutput |
    .windStaleExpiry | .joyTimeoutExpiry | .joyHeadingResume | .allocIteration | .allocResult | .allocFallbackEntry |
    .allocFallbackExit | .powerDataStale _ | .ptbmpSentence _ _ _ | .laneCompare _ | .exchangeSend |
    .partnerExchange _ _ _ | .interUnitCompare | .mirrorSend | .mirrorAckSend _ _ | .partnerAck _ _ _ |
    .mirrorAdoption _ | .remirrorExit | .commitMarker _ _ | .forwardedAxisTransition _ _ _ | .beatMarker _ _ _ |
    .skewRegister | .markerLoss | .fjPairLost _ _ _ | .fjPairRegained _ _ | .halterExpiryTake | .halterLeaseLapse |
    .aloneWaitExpiry | .halterRequestExpiry | .partnerPresence | .canTxComplete _ _ _ | .canAckError _ _ |
    .canClash _ _ | .canBusError _ _ _ | .canBusOffRecovery _ _ | .canEnableEffect _ _ | .canIntegrationDone _ _ |
    .serialSentence _ _ _ _ _ | .udpbcSentence _ _ _ _ _ | .ethLinkChange _ _ _ | .ethFrameRx _ _ _ |
    .arpRequest _ _ _ _ _ | .icmpEcho _ _ _ _ | .igmpQuery _ _ _ | .ptpAnnounce _ _ _ _ | .announceTimeout _ _ |
    .ptpSync _ _ _ _ | .ptpFollowUp _ _ _ _ | .ptpDelayResp _ _ _ _ | .delayReqSend _ _ | .acquisitionRunEnd _ |
    .slotHoldover _ | .slotFreeRun _ | .slotStep _ _ | .timeSwitchAuto _ | .switchStep _ | .leapSecond _ |
    .ppsPulse _ | .ppsPulseEnd | .rtcAlarm _ | .antennaBiasClass _ _ | .antennaRetest _ _ | .gnssIntegration _ _ _ |
    .channelLossOfLock _ _ | .satelliteRelease _ _ | .measurementTick _ _ | .epochStrobe _ _ | .checkClear _ _ |
    .gnssBlockWrite _ | .gnssStartTimeout | .tickEdge _ | .servoRegister | .axisFault _ | .axisShutdownComplete _ |
    .axisCommandEffect _ | .pendingEnableEffect _ | .diagCommonEntry _ | .diagCommonExit _ | .diDebounce _ |
    .doOverloadCutoff _ _ | .doRestart _ | .bankSupplyChange _ | .bankOvercurrentTrip _ | .silenceTimeout _ |
    .silenceResume _ | .modeChangeEffect _ | .sincOutput _ | .settlingEnd _ | .syncInEdge _ _ | .scrubRead _ _ _ |
    .blockFault _ _ _ | .blockResetDone _ _ | .yardFence _ _ _ | .supplyInputChange _ _ _ _ _ _ | .sleepEntry |
    .sleepEntryDone | .wakeEvent _ _ | .canWakeCheck _ _ | .wakeCheckTimeout _ | .watchWindowOpen _ |
    .watchWindowClose _ | .clockStart _ | .clockStartRetry | .yardRestartBegin | .moduleResetBegin |
    .bringUpStart _ | .pd1Verdict _ | .historyFlush | .pd4Verdict _ | .selftestVerdicts _ _ | .crossCheckVerdict _ |
    .handshakeSend _ | .handshakeMessage _ _ _ | .handshakeVerdict | .bringUpEnd | .backupCellMeasure _ |
    .switchSlewEnd _ | .acquisitionRunBreak _ | .talkSentenceSent _ | .ethFrameTx _ _ | .backupCellRemoved => true

end Sys2Proof
end

