-- ==== Sys2Proof/Safety.lean ====
section
/-! DEFINITION. The terms in which claims about the block are stated: the invariant that every step keeps, which parts of the
state an effect leaves alone, and when a request of the command set is served to its end. -/
namespace Sys2Proof.Machine

/-- Register file and setting snapshot are in canonical form: identifiers rise, and no entry equals its reset word. -/
def regsOk (s : State) : Prop := s.regs.wf = true ∧ s.snap.wf = true

/-- A fail-silent unit does not hold the halter (15 R439). -/
def halterOk (s : State) : Prop := failSilent s = true → s.twin.holds = false

/-- The event queue holds at most 256 entries (17 R505). -/
def queueOk (s : State) : Prop := s.ev.queue.length ≤ 256

/-- The invariant that every step keeps. -/
def Inv (s : State) : Prop := regsOk s ∧ halterOk s ∧ queueOk s

/-- Every command that waits can cross into the module, so no step of the run stops. -/
def safeQueue (s : State) : Bool := s.pending.all Instr.wellFormed

/-- The parts of the state of which a frame speaks. The register file is spoken of by identifier, and the passing of time (the
cycle counter, λ, the RTC, and which bits were set in the present cycle) belongs to every command. -/
inductive Part where
  | free | clk | snap | poison | arb | yards | restart | host | line | session | load | nv | src | ser | fus | gnss | ctl | alc
  | servo | field | filt | can | idReq | time | eth | twin | power | ev
deriving DecidableEq, Repr

/-- Does an effect leave a part as it was? Of the clocks, the beat and tick counters; of the power unit, all but the RTC. -/
def Part.same (s t : State) : Part → Prop
  | .free => t.free = s.free
  | .clk => { t.clk with cycle := s.clk.cycle, lambda := s.clk.lambda } = s.clk
  | .snap => t.snap = s.snap ∧ t.snapPoison = s.snapPoison
  | .poison => t.poison = s.poison
  | .arb => t.arb = s.arb
  | .yards => t.yards = s.yards
  | .restart => t.restart = s.restart
  | .host => t.host = s.host
  | .line => t.line = s.line
  | .session => t.session = s.session
  | .load => t.load = s.load
  | .nv => t.nv = s.nv
  | .src => t.src = s.src
  | .ser => t.ser = s.ser
  | .fus => t.fus = s.fus
  | .gnss => t.gnss = s.gnss
  | .ctl => t.ctl = s.ctl
  | .alc => t.alc = s.alc
  | .servo => t.servo = s.servo
  | .field => t.field = s.field
  | .filt => t.filt = s.filt
  | .can => t.can = s.can
  | .idReq => t.idReq = s.idReq
  | .time => t.time = s.time
  | .eth => t.eth = s.eth
  | .twin => t.twin = s.twin
  | .power => { t.power with rtc := s.power.rtc, rtcFrac := s.power.rtcFrac } = s.power
  | .ev => t.ev = s.ev

/-- The frame of an effect: nothing changes but the named parts, and no register but those of the named identifiers. The queue is
never touched. -/
def onlyChanges (parts : List Part) (ids : Nat → Bool) (s t : State) : Prop :=
  t.pending = s.pending ∧ (∀ p : Part, p ∉ parts → p.same s t) ∧ ∀ id, ids id = false → rd t id = rd s id

/-- The identifiers that raising an event with number n may write: its sticky word (17 R503) and EVENT_LOST_COUNT (R505). -/
def eventIds (n : Nat) : List Nat := [0x1304 + n / 32, 0x130D]

/-- The identifiers that raising any event may write: EVENT_STICKY_w and EVENT_LOST_COUNT. -/
def anyEventId (id : Nat) : Bool := [0x1304, 0x1305, 0x1306, 0x1307, 0x130D].contains id

/-- The state in which a served request's commit is made: at its commit cycle, with its targets noted by the arbiter. -/
def commitState (o : OpSpec) (r : Req) (s : State) : State :=
  let s1 := atCommit o r s
  noteCommit (hostClass s1 r.head.port) r.head.port.val (commitTargets o r.payload s1) s1

/-- The state whose stalls a served request reads: as the commits of its cycle found them (01 R20). -/
def readState (o : OpSpec) (r : Req) (s : State) : State := beforeCommits (commitState o r s)

/-- Is the request served to its end: the power state serves it, every check passes, no commit of the same cycle overlaps its
targets, and none of them is poisoned (04 R111, R121, 01 R24, R42)? Every clause speaks of the state and the request alone. -/
def served (o : OpSpec) (r : Req) (s : State) : Bool :=
  let s1 := atCommit o r s
  readyFor s r.head.port o.code == some true && (refusal o r s1).isNone &&
  (arbitrate (hostClass s1 r.head.port) r.head.port.val (commitTargets o r.payload s1) s1).isSome &&
  (poisonedTargets o r.payload (commitState o r s)).isEmpty

/-- An identifier from lo to hi. -/
def idsIn (lo hi id : Nat) : Bool := decide (lo ≤ id) && decide (id ≤ hi)

/-- The parts that serving any request may touch: the port's session timer, the arbiter, the reply's way out, what the holder forwards, and
poison marks that a whole write clears (04 R109, R114, 15 R449, 01 R24). -/
def replyParts : List Part := [.session, .arb, .host, .line, .eth, .twin, .poison]

/-- The identifiers that serving a request may write: CMD_STICKY, CONFLICT_COUNT and the stalls it commits. -/
def requestIds (o : OpSpec) (r : Req) (s : State) (id : Nat) : Bool :=
  [0x1007, 0x1008].contains id || (o.targets r.payload (atCommit o r s)).contains id

/-- The frame of a request: it answers a next state in every state, served or refused, and changes nothing but the parts that every reply
may touch, the parts named, the identifiers that serving it may write, and the further identifiers named. -/
def requestFrame (o : OpSpec) (cmd : Req → Instr) (parts : List Part) (more : Nat → Bool) : Prop :=
  ∀ (r : Req) (s : State), ∃ t, exec (cmd r) s = .next t ∧
    onlyChanges (replyParts ++ parts) (fun id => requestIds o r s id || more id) s t

/-- No further identifier. -/
def noId (_ : Nat) : Bool := false

/-- The reply cycle of an opcode's class, from the request edge (04 R114). -/
def replyCycle (o : OpSpec) (r : Req) : Nat := r.head.edge + (opClass o.code).replyAt

end Sys2Proof.Machine
end

