-- ==== Sys2Proof/Certificates/Slice0/Obligations.lean ====
section
/-! DEFINITION. The statements about the block that the provers settle, one definition each. Their docstrings name the rules they
rest on; where a clause rests on a reading of the model, the docstring names its log entry. -/

open Sys2Proof Sys2Proof.Machine

/-- One step is the effect of the command at the front of the queue on the state with the queue's rest. -/
def Obligations.StepRunsFront : Prop :=
  ∀ (c : Instr) (rest : List Instr) (s : State),
    step { s with pending := c :: rest } = exec c { s with pending := rest }

/-- With an empty queue the block idles (the model's choice, log 1). -/
def Obligations.EmptyQueueIdles : Prop :=
  ∀ (s : State), s.pending = [] →
    step s = .next s

/-- A command that its lines can carry never stops the block: whatever the state, it answers a next state. -/
def Obligations.WellFormedNeverStops : Prop :=
  ∀ (i : Instr) (s : State), i.wellFormed = true →
    ∃ t, exec i s = .next t

/-- The two commands with malformed operands stop with the one fault of the model (the model's choice, log 2). -/
def Obligations.IllFormedStops : Prop :=
  (∀ (c : Nat) (bale : List Byte) (s : State), bale.length ≠ 64 →
     exec (.baleWrite c bale) s = .fault .illFormed) ∧
  (∀ (c : Nat) (ch : Fin 48) (words : List Word) (s : State), words.length ≠ 10 →
     exec (.subframeReceived c ch words) s = .fault .illFormed)

/-- After reset every parameter reads its Reset column, no command waits, and the module runs nothing (04 R138; that the
state stands before the start strobe is the model's reading, log 3). -/
def Obligations.ResetState : Prop :=
  (∀ (id : Nat), rd State.reset id = resetWord id) ∧
  (State.reset.pending = [] ∧ State.reset.power.mode = .retain ∧ State.reset.clk.core = false ∧
   State.reset.twin.holds = false ∧ State.reset.ev.queue = []) ∧
  (resetWord 0x1501 = 45#32 ∧ resetWord 0x1503 = 0x2F0#32 ∧ resetWord 0x1200 = 0x04040404#32)

/-- The invariant holds right after reset. -/
def Obligations.InvAtReset : Prop :=
  Inv State.reset

/-- Every step keeps the invariant: register file and snapshot in canonical form, no halter held in fail-silence, at most
256 events queued. -/
def Obligations.InvEveryStep : Prop :=
  ∀ (s t : State), Inv s → step s = .next t →
    Inv t

/-- A selection of port 0 from HSEL_N's fall to its rise (03 R82, R78, R79, R83, R85): it opens with HRDY low; a write
access byte with room in its lane is granted at once, and HRDY goes high unless a pulse still runs; an invalid one is never
granted and is counted; a waiting write selection is granted when its lane has room; the rise ends it and releases its
grant, and a pulse may start 100 cycles later. -/
def Obligations.HostSelection : Prop :=
  (∀ (c : Nat) (s : State),
     ∃ t, exec (.hselNFall c) s = .next t ∧ t.line.hrdy = false ∧ t.line.sel.sel = true ∧ t.line.sel.access = none ∧
     t.line.sel.grant = none ∧ t.line.sel.ignored = !portUp (advance c s)) ∧
  (∀ (c : Nat) (b : Byte) (s : State),
     s.line.sel.sel = true → s.line.sel.ignored = false → s.line.sel.invalid = false → s.line.sel.access = none →
     s.line.sel.grant = none → accessInvalid b = false → b.getLsbD 7 = false → 1 ≤ inRoom s 0 (accessLane b) →
     ∃ t, exec (.accessByte c b) s = .next t ∧ t.line.hrdy = s.line.pulseEnd.isNone ∧ t.line.sel.access = some b ∧
     t.line.sel.grant = some (advance c s).clk.cycle ∧ t.line.lastLane = accessLane b) ∧
  (∀ (c : Nat) (b : Byte) (s : State),
     s.line.sel.sel = true → s.line.sel.ignored = false → s.line.sel.access = none → accessInvalid b = true →
     ∃ t, exec (.accessByte c b) s = .next t ∧ t.line.sel.invalid = true ∧ t.line.sel.grant = s.line.sel.grant ∧
     flag t 0x1204 0 = true ∧ fld t 0x1205 15 0 = satAdd 16 (fld s 0x1205 15 0) 1) ∧
  (∀ (c : Nat) (b : Byte) (s : State),
     s.line.sel.sel = true → s.line.sel.ignored = false → s.line.sel.invalid = false → s.line.sel.access = some b →
     s.line.sel.grant = none → b.getLsbD 7 = false → 1 ≤ inRoom s 0 (accessLane b) →
     ∃ t, exec (.selectionGrant c) s = .next t ∧ t.line.hrdy = s.line.pulseEnd.isNone ∧
     t.line.sel.grant = some (advance c s).clk.cycle) ∧
  (∀ (c clocked : Nat) (s : State), s.line.sel.sel = true →
     ∃ t, exec (.hselNRise c clocked) s = .next t ∧ t.line.sel.sel = false ∧ t.line.sel.grant = none ∧
     (∀ d : Nat, d ∈ s.line.due → d ≤ (advance c s).clk.cycle → (advance c s).clk.cycle + 100 ≤ t.line.nextPulse))

/-- Bales and attention pulses of port 0 (03 R84, R93, R100, 02 R74): a granted bale is appended to its lane with FIRST of
its access byte; a bale without a grant is discarded and counted; a read bale leaves its outbox lane; a pulse drives HRDY
low for exactly 100 cycles, and the next may begin 100 cycles after its end. Where the rules leave a reading open, the
clause states the model's choice, log 13. -/
def Obligations.HostBalesAndPulses : Prop :=
  (∀ (c : Nat) (bale : List Byte) (b : Byte) (s : State),
     bale.length = 64 → s.line.sel.sel = true → s.line.sel.ignored = false → s.line.sel.moved = false →
     s.line.sel.access = some b → b.getLsbD 7 = false → s.line.sel.grant.isSome = true →
     ∃ t, exec (.baleWrite c bale) s = .next t ∧ t.line.sel.moved = true ∧
     vget (vget t.host 0).inbox (accessLane b) = vget (vget s.host 0).inbox (accessLane b) ++ [⟨b.getLsbD 6, (advance c
         s).clk.cycle, bale, none, none⟩]) ∧
  (∀ (c : Nat) (bale : List Byte) (b : Byte) (s : State),
     bale.length = 64 → s.line.sel.sel = true → s.line.sel.ignored = false → s.line.sel.moved = false →
     s.line.sel.access = some b → b.getLsbD 7 = false → s.line.sel.grant = none →
     ∃ t, exec (.baleWrite c bale) s = .next t ∧ t.host = s.host ∧ flag t 0x1204 4 = true ∧
     fld t 0x1205 15 0 = satAdd 16 (fld s 0x1205 15 0) 1) ∧
  (∀ (c : Nat) (b : Byte) (l : Fin 4) (x : OutBale) (r : List OutBale) (s : State),
     s.line.sel.sel = true → s.line.sel.grant.isSome = true → s.line.sel.moved = false → s.line.sel.access = some b →
     b.getLsbD 7 = true → s.line.sel.lane = some l → vget (vget s.host 0).outbox l = x :: r →
     ∃ t, exec (.baleRead c) s = .next t ∧ vget (vget t.host 0).outbox l = r ∧
     (vget t.host 0).partRead = (if x.last then [] else [l]) ++ (vget s.host 0).partRead.filter (· != l)) ∧
  (∀ (c d : Nat) (s : State), d ∈ s.line.due → attentionWaits (advance c s) = true → d ≤ (advance c s).clk.cycle →
     s.line.nextPulse ≤ (advance c s).clk.cycle → s.line.sel.sel = false → s.line.pulseEnd = none →
     portReady (advance c s) = true →
     ∃ t, exec (.attentionPulse c) s = .next t ∧ t.line.hrdy = false ∧
     t.line.pulseEnd = some ((advance c s).clk.cycle + 100) ∧
     t.line.due = s.line.due.filter (fun x => decide ((advance c s).clk.cycle + 100 ≤ x))) ∧
  (∀ (e : Nat) (s : State), s.line.pulseEnd = some e → s.line.sel.sel = false →
     ∃ t, exec (.attentionPulseEnd) s = .next t ∧ t.line.pulseEnd = none ∧ t.line.nextPulse = e + 100 ∧
     t.line.hrdy = portReady (advance e s))

/-- The command engine and the Ethernet command channel (03 R90, R97-R100, R104, 14 R410): a free engine starts the drain of
the chosen lane's first bale; a one-bale packet that passes every check of R90 becomes the engine's request on the edge its
drain ends; an expired gap abandons the packet and counts it; a reply's next bale enters its outbox lane; a command datagram
of one bale enters the lane that its FLAGS name; an incomplete set of fragments is dropped and counted 10 ms after its first
fragment. Where the rules leave a reading open, the clause states the model's choice, log 13. -/
def Obligations.CommandEngine : Prop :=
  (∀ (c : Nat) (p : Fin 2) (l : Fin 4) (b : InBale) (r : List InBale) (s : State),
     (vget s.host p).engine.draining = none → (vget s.host p).engine.packet = none → (vget s.host p).engine.request = none →
     (vget s.host p).engine.rest = none → (vget s.host p).engine.freeAt ≤ (advance c s).clk.cycle →
     dispatchLane s p = some l → vget (vget s.host p).inbox l = b :: r →
     ∃ t, exec (.baleDispatch c p) s = .next t ∧
     (vget t.host p).engine.draining = some ⟨l, b, (advance c s).clk.cycle, !b.first⟩ ∧
     (vget t.host p).inbox = (vget s.host p).inbox) ∧
  (∀ (p : Fin 2) (d : Draining) (s : State),
     let n := leAt d.bale.bytes 4 2
     let op := byteAt d.bale.bytes 1
     (vget s.host p).engine.draining = some d → (vget s.host p).engine.packet = none → d.stray = false →
     headerFault d.lane d.bale.bytes = none → d.bale.dgram = none → 12 + n ≤ 64 →
     crc32 (d.bale.bytes.take (8 + n)) = leAt d.bale.bytes (8 + n) 4 → (opRow op).isSome = true →
     byteAt d.bale.bytes 2 / 4 % 2 = op % 2 →
     ∃ t, exec (.baleDrain p) s = .next t ∧ (vget t.host p).engine.draining = none ∧
     vget (vget t.host p).inbox d.lane = (vget (vget s.host p).inbox d.lane).drop 1 ∧
     (vget t.host p).engine.request = some ⟨BitVec.ofNat 8 op, ⟨⟨p, d.lane, BitVec.ofNat 8 (byteAt d.bale.bytes 3), byteAt
         d.bale.bytes 2 / 8 % 2 == 1, (advance (d.since + 320) s).clk.cycle, d.bale.peer⟩, (d.bale.bytes.drop 8).take n⟩⟩) ∧
  (∀ (p : Fin 2) (k : OpenPacket) (s : State),
     (vget s.host p).engine.packet = some k → k.bales + (waitingBales (vget (vget s.host p).inbox k.lane)).length < k.need →
     ∃ t, exec (.packetGapExpiry p) s = .next t ∧ (vget t.host p).engine.packet = none ∧
     fld t (portId p 8) 15 0 = satAdd 16 (fld s (portId p 8) 15 0) 1 ∧ flag t (portId p 4) 3 = true) ∧
  (∀ (c : Nat) (r : ReplyRest) (b : OutBale) (bs : List OutBale) (s : State),
     (vget s.host 0).engine.rest = some r → r.bales = b :: bs → r.nextAt ≤ (advance c s).clk.cycle →
     1 ≤ outRoom s 0 r.lane →
     ∃ t, exec (.replyBaleWrite c 0) s = .next t ∧
     vget (vget t.host 0).outbox r.lane = vget (vget s.host 0).outbox r.lane ++ [{ b with ready := (advance c s).clk.cycle }] ∧
     (vget t.host 0).engine.rest = (if bs.isEmpty then none else some
         { r with bales := bs, nextAt := (advance c s).clk.cycle + 320 })) ∧
  (∀ (c : Nat) (d : Datagram) (l : Fin 4) (s : State),
     port1Up (advance c s) = true → d.peer.dst.toNat = fld s 0x1219 15 0 → d.more = false → d.offset = 0 → rd s 0x121A = 0 →
     12 ≤ d.bytes.length → d.bytes.length ≤ 64 → l.val = byteAt d.bytes 2 % 4 → 1 ≤ inRoom s 1 l →
     ∃ t, exec (.cmdDatagram c d) s = .next t ∧
     vget (vget t.host 1).inbox l = vget (vget s.host 1).inbox l ++ [⟨true, (advance c s).clk.cycle, baleAt d.bytes 0, some
         d.peer, some d.bytes.length⟩]) ∧
  (∀ (c : Nat) (f : FragSet) (s : State), (vget s.host 1).frags = [f] → f.since + 1000000 ≤ (advance c s).clk.cycle →
     ∃ t, exec (.fragmentTimeout c) s = .next t ∧ (vget t.host 1).frags = [] ∧
     fld t 0x121B 15 0 = satAdd 16 (fld s 0x121B 15 0) 1 ∧ flag t 0x1214 5 = true)

/-- Frame of the host port's rows: they touch the port, its line, its counters and sticky bits, the transmit queue of a port
1 reply and the event unit, and nothing else. -/
def Obligations.HostPortFrame : Prop :=
  ∀ (i : Instr) (s t : State), familyOf i = .hostPort → exec i s = .next t →
    onlyChanges [.host, .line, .eth, .ev] (fun id => anyEventId id || [0x1204, 0x1205, 0x1206, 0x1208, 0x1214, 0x1215,
        0x1216, 0x1218, 0x121B].contains id) s t

/-- During bring-up every opcode but IDENT, STATUS and EVENTS_READ is answered NOT_READY after 1 280 cycles and has no
effect (04 R121, R114). -/
def Obligations.RequestInBringUp : Prop :=
  ∀ (i : Instr) (o : OpSpec) (r : Req) (s : State),
    requestOf i = some (o, r) → s.power.mode = .bringUp → o.code ≠ 0x00 → o.code ≠ 0x02 → o.code ≠ 0x04 →
    ∃ t, exec (i) s = .next t ∧ t = respond r.head o.code (r.head.edge + 1280) stNotReady 0xFFFF [] (touchSession r.head s)

/-- A request that fails a check of 04 R111 commits nothing: only its session's idle timer, the reply's way to the host, the
status counts of CMD_STICKY and CONFLICT_COUNT, the marker that the holder forwards, and for CONFIG_FILE_LOAD the open load
that a bad chunk abandons (R133), are touched. -/
def Obligations.RefusedRequest : Prop :=
  ∀ (i : Instr) (o : OpSpec) (r : Req) (x : Nat × Nat) (s t : State),
    requestOf i = some (o, r) → readyFor s r.head.port o.code = some true → refusal o r (atCommit o r s) = some x →
    exec i s = .next t →
    onlyChanges [.session, .host, .line, .eth, .twin, .load] [0x1007, 0x1008].contains s t

/-- A request whose checks all pass and whose targets meet no other commit of its cycle is committed on its class's commit
cycle and answered on its reply cycle with the status and data of its own commit (04 R111, R114); one that a commit of the
cycle bars is answered CONFLICT, counted, and applies nothing (01 R42). A request that writes no stall reads the stalls as
they stood before the commits of its cycle (01 R20). -/
def Obligations.ServedRequest : Prop :=
  (∀ (i : Instr) (o : OpSpec) (r : Req) (s : State),
     let x := o.commit r.head.port r.payload (commitState o r s)
     requestOf i = some (o, r) → served o r s = true →
     ∃ t, exec (i) s = .next t ∧
     t = respond r.head o.code (replyCycle o r) x.status x.detail (replyData o r.head.port r.payload (commitState o r s)
         x.data) (forward o r x.status (commitDone (atCommit o r s) x))) ∧
  (∀ (i : Instr) (o : OpSpec) (r : Req) (s : State),
     requestOf i = some (o, r) → readyFor s r.head.port o.code = some true → refusal o r (atCommit o r s) = none →
     arbitrate (hostClass (atCommit o r s) r.head.port) r.head.port.val (commitTargets o r.payload (atCommit o r s))
         (atCommit o r s) = none →
     ∃ t, exec (i) s = .next t ∧
     t = respond r.head o.code (replyCycle o r) stConflict 0xFFFF [] (forward o r stConflict (atCommit o r s)))

/-- ECHO returns its request payload unchanged and commits nothing (04 R126). -/
def Obligations.EchoReturnsPayload : Prop :=
  (∀ (r : Req) (s : State), served opEcho r s = true →
     ∃ t, exec (.echo r) s = .next t ∧
     t = respond r.head 0x0C (r.head.edge + 1280) stOk 0 r.payload (commitState opEcho r s)) ∧
  (∀ (r : Req) (s : State), onlyChanges [.session, .arb] (fun _ => false) s (commitState opEcho r s))

/-- What the reading opcodes answer (04 R124, R125, R131, R135, 05 R169, 06 R202, 09 R289, 10 R317, 16 R494): OK on the
reply cycle of their class, with reply data of the length and with the fields that their rules give, and a state in which
nothing has been committed. Where the rules leave a reading open, the clause states the model's choice, log 34. -/
def Obligations.ReadsAnswer : Prop :=
  (∀ (r : Req) (s : State),
     let x := opIdent.commit r.head.port r.payload (readState opIdent r s)
     served opIdent r s = true →
     ∃ t, exec (.ident r) s = .next t ∧
     t = respond r.head 0x00 (r.head.edge + 1280) stOk 0 x.data (commitState opIdent r s) ∧ x.data.length = 32 ∧
     byteAt x.data 0 = unitNumber (readState opIdent r s) ∧ byteAt x.data 1 = fld (readState opIdent r s) 0x1001 7 0 ∧
     leAt x.data 2 2 = fld (readState opIdent r s) 0x1002 15 0 ∧ leAt x.data 24 2 = 48) ∧
  (∀ (r : Req) (s : State),
     let x := opStatus.commit r.head.port r.payload (readState opStatus r s)
     served opStatus r s = true →
     ∃ t, exec (.status r) s = .next t ∧
     t = respond r.head 0x02 (r.head.edge + 1280) stOk 0 x.data (commitState opStatus r s) ∧ x.data.length = 24 ∧
     byteAt x.data 0 = moduleState (readState opStatus r s) ∧ leAt x.data 4 4 = s.clk.beat % 2 ^ 32 ∧
     leAt x.data 12 2 = (readable (readState opStatus r s)).length % 65536) ∧
  (∀ (r : Req) (s : State),
     let x := opParamDescribe.commit r.head.port r.payload (readState opParamDescribe r s)
     served opParamDescribe r s = true →
     ∃ t, exec (.paramDescribe r) s = .next t ∧
     t = respond r.head 0x0E (r.head.edge + 2560) stOk 0 x.data (commitState opParamDescribe r s) ∧
     leAt x.data 2 2 = leAt r.payload 0 2) ∧
  (∀ (r : Req) (s : State),
     let x := opConfigFileStatus.commit r.head.port r.payload (readState opConfigFileStatus r s)
     served opConfigFileStatus r s = true →
     ∃ t, exec (.configFileStatus r) s = .next t ∧
     t = respond r.head 0xF0 (r.head.edge + 2560) stOk 0 x.data (commitState opConfigFileStatus r s) ∧ x.data.length = 12 ∧
     byteAt x.data 0 = loadState (readState opConfigFileStatus r s) % 256) ∧
  (∀ (r : Req) (s : State),
     let x := opTrackListRead.commit r.head.port r.payload (readState opTrackListRead r s)
     served opTrackListRead r s = true →
     ∃ t, exec (.trackListRead r) s = .next t ∧
     t = respond r.head 0x2A (r.head.edge + 2560) stOk 0 x.data (commitState opTrackListRead r s) ∧
     x.data = s.fus.tracks.toList.flatMap (trackEntry (readState opTrackListRead r s))) ∧
  (∀ (r : Req) (s : State),
     let x := opAllocResultRead.commit r.head.port r.payload (readState opAllocResultRead r s)
     served opAllocResultRead r s = true →
     ∃ t, exec (.allocResultRead r) s = .next t ∧
     t = respond r.head 0x38 (r.head.edge + 2560) stOk 0 x.data (commitState opAllocResultRead r s) ∧
     x.data = allocResultData (readState opAllocResultRead r s)) ∧
  (∀ (r : Req) (s : State),
     let x := opAxisStatusRead.commit r.head.port r.payload (readState opAxisStatusRead r s)
     served opAxisStatusRead r s = true →
     ∃ t, exec (.axisStatusRead r) s = .next t ∧
     t = respond r.head 0x48 (r.head.edge + 2560) stOk 0 x.data (commitState opAxisStatusRead r s) ∧ x.data.length = 32 ∧
     byteAt x.data 0 = (axisAt s (byteAt r.payload 0)).shown.state % 256 ∧
     byteAt x.data 1 = (axisAt s (byteAt r.payload 0)).shown.code % 256 ∧
     wordAt x.data 12 = (axisAt s (byteAt r.payload 0)).shown.y) ∧
  (∀ (r : Req) (s : State),
     let x := opChannelRead.commit r.head.port r.payload (readState opChannelRead r s)
     served opChannelRead r s = true →
     ∃ t, exec (.channelRead r) s = .next t ∧
     t = respond r.head 0x54 (r.head.edge + 2560) stOk 0 x.data (commitState opChannelRead r s) ∧ x.data.length = 16 ∧
     byteAt x.data 0 = (fieldChan s (byteAt r.payload 0)).mode % 256 ∧
     byteAt x.data 1 = (fieldChan s (byteAt r.payload 0)).flags % 256) ∧
  (∀ (r : Req) (s : State),
     let x := opBankStatusRead.commit r.head.port r.payload (readState opBankStatusRead r s)
     served opBankStatusRead r s = true →
     ∃ t, exec (.bankStatusRead r) s = .next t ∧
     t = respond r.head 0x58 (r.head.edge + 2560) stOk 0 x.data (commitState opBankStatusRead r s) ∧ x.data.length = 20 ∧
     byteAt x.data 0 = (bankAt s (byteAt r.payload 0)).supply % 256)

/-- More reading opcodes (04 R128, R129, 05 R169, 07 R231, 13 R404, 14 R432, 15 R459, 16 R494): their replies, and the
counters or queue entries that a read with its clearing bit removes. Where the rules leave a reading open, the clause states
the model's choice, log 34. -/
def Obligations.ReadsAnswerMore : Prop :=
  (∀ (r : Req) (s : State),
     let x := opTimeRead.commit r.head.port r.payload (readState opTimeRead r s)
     served opTimeRead r s = true →
     ∃ t, exec (.timeRead r) s = .next t ∧
     t = respond r.head 0x74 (r.head.edge + 2560) stOk 0 x.data (commitState opTimeRead r s) ∧ x.data.length = 28 ∧
     leAt x.data 12 8 = (readState opTimeRead r s).clk.cycle % 2 ^ 64 ∧ byteAt x.data 20 = timeQ s % 256) ∧
  (∀ (r : Req) (s : State),
     let x := opGnssStatusRead.commit r.head.port r.payload (readState opGnssStatusRead r s)
     served opGnssStatusRead r s = true →
     ∃ t, exec (.gnssStatusRead r) s = .next t ∧
     t = respond r.head 0x7A (r.head.edge + 2560) stOk 0 x.data (commitState opGnssStatusRead r s) ∧
     x.data = (List.range 24).flatMap fun n => chanEntry (readState opGnssStatusRead r s) (24 * byteAt r.payload 0 + n)) ∧
  (∀ (r : Req) (s : State),
     let x := opTwinStatusRead.commit r.head.port r.payload (readState opTwinStatusRead r s)
     served opTwinStatusRead r s = true →
     ∃ t, exec (.twinStatusRead r) s = .next t ∧
     t = respond r.head 0x80 (r.head.edge + 2560) stOk 0 x.data (commitState opTwinStatusRead r s) ∧ x.data.length = 28 ∧
     leAt x.data 4 4 = leaseField (if s.twin.holds then s.twin.lc else s.twin.lp) % 2 ^ 32 ∧
     leAt x.data 8 4 = s.twin.lastAgree % 2 ^ 32) ∧
  (∀ (r : Req) (s : State),
     let x := opPowerStatusRead.commit r.head.port r.payload (commitState opPowerStatusRead r s)
     let y := opPowerStatusRead.commit r.head.port r.payload (readState opPowerStatusRead r s)
     served opPowerStatusRead r s = true →
     ∃ t, exec (.powerStatusRead r) s = .next t ∧ t = respond r.head 0x96 (r.head.edge + 2560) stOk 0 y.data x.state ∧
     y.data.length = 20 ∧ byteAt y.data 0 = powerCode s % 256 ∧
     x.state = { (commitState opPowerStatusRead r s) with free := s.free + 2 }) ∧
  (∀ (r : Req) (s : State),
     let u := commitState opEventsRead r s
     let q := s.ev.queue.drop (min (byteAt r.payload 0) (readable (commitState opEventsRead r s)).length)
     let x := opEventsRead.commit r.head.port r.payload (commitState opEventsRead r s)
     served opEventsRead r s = true → byteAt r.payload 1 = 0 →
     ∃ t, exec (.eventsRead r) s = .next t ∧ t = respond r.head 0x04 (r.head.edge + 3840) stOk 0 x.data x.state ∧
     x.state = { u with ev := { s.ev with queue := q } } ∧
     byteAt x.data 0 = min (byteAt r.payload 0) (readable (commitState opEventsRead r s)).length ∧
     leAt x.data 2 2 = (readable x.state).length % 65536) ∧
  (∀ (r : Req) (s : State),
     let x := opEventsRead.commit r.head.port r.payload (readState opEventsRead r s)
     served opEventsRead r s = true → byteAt r.payload 1 = 1 →
     ∃ t, exec (.eventsRead r) s = .next t ∧
     t = respond r.head 0x04 (r.head.edge + 3840) stOk 0 x.data (commitState opEventsRead r s) ∧
     byteAt x.data 0 = min (byteAt r.payload 0) (readable (readState opEventsRead r s)).length ∧
     leAt x.data 2 2 = (readable (readState opEventsRead r s)).length % 65536) ∧
  (∀ (r : Req) (s : State), served opCanStatusRead r s = true → byteAt r.payload 1 = 1 →
     ∃ t, exec (.canStatusRead r) s = .next t ∧ (∀ k : Fin 6, rd t (canId (byteAt r.payload 0) (0x20 + k.val)) = 0) ∧
     (canAt t (byteAt r.payload 0)).remote = 0) ∧
  (∀ (r : Req) (s : State),
     let x := opRefStatusRead.commit r.head.port r.payload (commitState opRefStatusRead r s)
     served opRefStatusRead r s = true → byteAt r.payload 1 = 1 →
     ∃ t, exec (.refStatusRead r) s = .next t ∧ t = respond r.head 0x24 (r.head.edge + 2560) stOk 0 x.data x.state ∧
     (srcUnit x.state (byteAt r.payload 0)).count = zeroCount ∧
     x.data = refStatusData (byteAt r.payload 0) (commitState opRefStatusRead r s)) ∧
  (∀ (r : Req) (s : State),
     let u := commitState (opParamRead []) r s
     served (opParamRead []) r s = true →
     ∃ t, exec (.paramRead r []) s = .next t ∧
     t = respond r.head 0x06 (r.head.edge + 2560) stOk 0 ((readIds r.payload).flatMap fun id => wordBytes (shownWord
         (readState (opParamRead []) r s) id)) u)

/-- Expert sessions (04 R116-R120): EXPERT_OPEN with the stored code opens the session of the port and zeroes its mismatch
count; with another code it counts a mismatch and opens nothing; EXPERT_CLOSE closes; EXPERT_CODE_SET stores a code;
SESSION_IDLE seconds without a request close the session; the end of the lock zeroes the mismatch count. -/
def Obligations.ExpertSessions : Prop :=
  (∀ (r : Req) (s : State),
     served opExpertOpen r s = true → (vget s.session r.head.port).lockEnd = none → leAt r.payload 0 2 = s.nv.code.toNat →
     ∃ t, exec (.expertOpen r) s = .next t ∧ sessionOpen t r.head.port = true ∧
     fld t 0x1005 (mismatchLo r.head.port + 1) (mismatchLo r.head.port) = 0) ∧
  (∀ (r : Req) (s : State),
     served opExpertOpen r s = true → (vget s.session r.head.port).lockEnd = none → leAt r.payload 0 2 ≠ s.nv.code.toNat →
     ∃ t, exec (.expertOpen r) s = .next t ∧ sessionOpen t r.head.port = sessionOpen s r.head.port ∧
     fld t 0x1005 (mismatchLo r.head.port + 1) (mismatchLo r.head.port) = min 3 (fld s 0x1005 (mismatchLo r.head.port + 1)
         (mismatchLo r.head.port) + 1) ∧
     flag t 0x1007 0 = true) ∧
  (∀ (r : Req) (s : State), served opExpertClose r s = true →
     ∃ t, exec (.expertClose r) s = .next t ∧ sessionOpen t r.head.port = false) ∧
  (∀ (r : Req) (s : State), served opExpertCodeSet r s = true →
     ∃ t, exec (.expertCodeSet r) s = .next t ∧ t.nv.code = BitVec.ofNat 16 (leAt r.payload 0 2)) ∧
  (∀ (p : Fin 2) (s : State), sessionOpen s p = true → fld s 0x1006 15 0 ≠ 0 →
     ∃ t, exec (.sessionIdleExpiry p) s = .next t ∧ sessionOpen t p = false ∧
     (vget t.session p).lastEdge = (vget s.session p).lastEdge) ∧
  (∀ (p : Fin 2) (e : Nat) (s : State), (vget s.session p).lockEnd = some e →
     ∃ t, exec (.expertLockEnd p) s = .next t ∧ (vget t.session p).lockEnd = none ∧
     fld t 0x1005 (mismatchLo p + 1) (mismatchLo p) = 0)

/-- Writes of parameters (04 R130 and the rules of the owning chapters): a served PARAM_WRITE of one identifier of the field
or servo yards stores the word that the access codes give and leaves every other register; each row that is a write of one
setting stores it and has the effect its rule gives beside it. Where the rules leave a reading open, the clause states the
model's choice, log 31. -/
def Obligations.ParameterWrites : Prop :=
  (∀ (r : Req) (e : Entry) (s : State),
     served opParamWrite r s = true → payloadEntries r.payload = [e] → 5 ≤ yardOf e.1 → yardOf e.1 ≤ 6 →
     ∃ t, exec (.paramWrite r) s = .next t ∧ rd t e.1 = writtenWord (commitState opParamWrite r s) e.1 e.2 ∧
     (∀ j, j ≠ e.1 → rd t j = rd s j)) ∧
  (∀ (h : ReqHead) (q : Fin 32) (v : Word) (s : State),
     let u := commitState opParamWrite ⟨h, writePayload [(0x2200 + 8 * q.val, v)]⟩ s
     served opParamWrite ⟨h, writePayload [(0x2200 + 8 * q.val, v)]⟩ s = true →
     ∃ t, exec (.srcCtrlWrite h q v) s = .next t ∧ rd t (0x2200 + 8 * q.val) = writtenWord u (0x2200 + 8 * q.val) v ∧
     (flag s (0x2200 + 8 * q.val) 0 = false → v.getLsbD 0 = true → (vget t.src q).count = zeroCount)) ∧
  (∀ (h : ReqHead) (v : Word) (s : State),
     let u := commitState opParamWrite ⟨h, writePayload [(0x7200, v)]⟩ s
     served opParamWrite ⟨h, writePayload [(0x7200, v)]⟩ s = true →
     ∃ t, exec (.timeCtrlWrite h v) s = .next t ∧ rd t 0x7200 = writtenWord u 0x7200 v ∧
     t.time.active = (if v.getLsbD 0 then 1 else 0)) ∧
  (∀ (h : ReqHead) (lat lon : Option Word) (s : State),
     let u := commitState opParamWrite ⟨h, writePayload (someEntries [(0x2301, lat), (0x2302, lon)])⟩ s
     served opParamWrite ⟨h, writePayload (someEntries [(0x2301, lat), (0x2302, lon)])⟩ s = true →
     ∃ t, exec (.originWrite h lat lon) s = .next t ∧ (∀ w ∈ lat, rd t 0x2301 = writtenWord u 0x2301 w) ∧
     (∀ w ∈ lon, rd t 0x2302 = writtenWord u 0x2302 w) ∧ t.fus.originMoved = some s.clk.beat ∧ rd t 0x2101 = 0) ∧
  (∀ (h : ReqHead) (v : Word) (s : State),
     let u := commitState opParamWrite ⟨h, writePayload [(0x1310, v)]⟩ s
     served opParamWrite ⟨h, writePayload [(0x1310, v)]⟩ s = true →
     ∃ t, exec (.histSelect h v) s = .next t ∧ rd t 0x1310 = writtenWord u 0x1310 v ∧ t.ev = s.ev) ∧
  (∀ (h : ReqHead) (v : Word) (s : State),
     served opParamWrite ⟨h, writePayload [(0x1311, v)]⟩ s = true → v.getLsbD 0 = true →
     ∃ t, exec (.histClear h v) s = .next t ∧ t.ev.hist = Vector.replicate 64 none ∧ t.ev.nextSeq = 0 ∧
     t.ev.queue = s.ev.queue) ∧
  (∀ (h : ReqHead) (bank : Fin 2) (v : Word) (s : State),
     let u := commitState opParamWrite ⟨h, writePayload [(0x6402 + 16 * bank.val, v)]⟩ s
     served opParamWrite ⟨h, writePayload [(0x6402 + 16 * bank.val, v)]⟩ s = true →
     ∃ t, exec (.bankLatchClear h bank v) s = .next t ∧
     rd t (0x6402 + 16 * bank.val) = writtenWord u (0x6402 + 16 * bank.val) v) ∧
  (∀ (h : ReqHead) (p : Fin 2) (i o : Option Word) (s : State),
     let u := commitState opParamWrite ⟨h, writePayload (someEntries [(portId p 0, i), (portId p 1, o)])⟩ s
     served opParamWrite ⟨h, writePayload (someEntries [(portId p 0, i), (portId p 1, o)])⟩ s = true →
     ∃ t, exec (.inboxLayoutWrite h p i o) s = .next t ∧ (∀ w ∈ i, rd t (portId p 0) = writtenWord u (portId p 0) w) ∧
     (∀ w ∈ o, rd t (portId p 1) = writtenWord u (portId p 1) w)) ∧
  (∀ (h : ReqHead) (peer udp : Option Word) (s : State),
     let u := commitState opParamWrite ⟨h, writePayload (someEntries [(0x1219, udp), (0x121A, peer)])⟩ s
     served opParamWrite ⟨h, writePayload (someEntries [(0x1219, udp), (0x121A, peer)])⟩ s = true →
     ∃ t, exec (.cmdPeerWrite h peer udp) s = .next t ∧ (∀ w ∈ peer, rd t 0x121A = writtenWord u 0x121A w) ∧
     (∀ w ∈ udp, rd t 0x1219 = writtenWord u 0x1219 w) ∧ sessionOpen t 1 = false) ∧
  (∀ (h : ReqHead) (bus : Fin 4) (v : Word) (s : State),
     let u := commitState opParamWrite ⟨h, writePayload [(0x7000 + 64 * bus.val, v)]⟩ s
     served opParamWrite ⟨h, writePayload [(0x7000 + 64 * bus.val, v)]⟩ s = true →
     ∃ t, exec (.canCtrlWrite h bus v) s = .next t ∧ rd t (0x7000 + 64 * bus.val) = writtenWord u (0x7000 + 64 * bus.val) v) ∧
  (∀ (h : ReqHead) (bus : Fin 4) (v : Word) (s : State),
     let u := commitState opParamWrite ⟨h, writePayload [(0x2492 + 4 * bus.val, v)]⟩ s
     served opParamWrite ⟨h, writePayload [(0x2492 + 4 * bus.val, v)]⟩ s = true →
     ∃ t, exec (.busPresentWrite h bus v) s = .next t ∧ rd t (0x2492 + 4 * bus.val) = writtenWord u (0x2492 + 4 * bus.val) v) ∧
  (∀ (h : ReqHead) (lo hi : Option Word) (s : State),
     let u := commitState opParamWrite ⟨h, writePayload (someEntries [(0x7201, lo), (0x7202, hi)])⟩ s
     served opParamWrite ⟨h, writePayload (someEntries [(0x7201, lo), (0x7202, hi)])⟩ s = true →
     ∃ t, exec (.timeIncWrite h lo hi) s = .next t ∧ (∀ w ∈ lo, rd t 0x7201 = writtenWord u 0x7201 w) ∧
     (∀ w ∈ hi, rd t 0x7202 = writtenWord u 0x7202 w))

/-- Configuration files, restarts and the firmware's repeat (04 R132-R137, 01 R43): a first chunk that is not the last opens
a load; ten seconds without a chunk abandon it; the background write stores the file; accepted restarts wait for their beat
edge; a lost firmware write is repeated, counted and applied, and one that meets another commit again is kept for its repeat
8 cycles later. Where the rules leave a reading open, the clause states the model's choice, log 34. -/
def Obligations.ConfigFilesAndRestarts : Prop :=
  (∀ (r : Req) (s : State), served opConfigFileLoad r s = true → leAt r.payload 2 2 = 0 → 4076 < leAt r.payload 4 4 →
     ∃ t, exec (.configFileLoad r) s = .next t ∧
     t.load.load = some ⟨r.head.port, leAt r.payload 0 2, leAt r.payload 4 4, 1, r.payload.drop 8, (commitState
         opConfigFileLoad r s).clk.cycle⟩ ∧
     t.nv = s.nv) ∧
  (∀ (l : OpenLoad) (s : State), s.load.load = some l →
     ∃ t, exec (.configLoadTimeout) s = .next t ∧ t.load.load = none ∧ t.load.ended = 0 ∧ t.nv = s.nv) ∧
  (∀ (c k : Nat) (f : List Byte) (q : List (Nat × List Byte)) (s : State), s.load.storing = (k, f) :: q → k < 5 →
     ∃ t, exec (.configFileStored c true) s = .next t ∧ t.load.storing = q ∧ t.load.ended = 3 ∧
     t.nv.files.toList.getD k [] = f) ∧
  (∀ (r : Req) (s : State), served opYardRestart r s = true →
     ∃ t, exec (.yardRestart r) s = .next t ∧
     t.restart = s.restart ++ [⟨byteAt r.payload 0, (commitState opYardRestart r s).clk.cycle⟩]) ∧
  (∀ (r : Req) (s : State), served opModuleReset r s = true →
     ∃ t, exec (.moduleReset r) s = .next t ∧ t.restart = s.restart ++ [⟨8, (commitState opModuleReset r s).clk.cycle⟩]) ∧
  (∀ (c : Nat) (w : FwWrite) (p : ParamRow) (s : State),
     paramRow w.id = some p → s.arb.fwLost = none → arbitrate 3 4 [w.id] (bump (advance c s) 0x1312 15 0 1) = none →
     ∃ t, exec (.firmwareRepeat c [w]) s = .next t ∧ t.arb.fwLost = some ((advance c s).clk.cycle + 8, [w]) ∧
     fld t 0x1312 15 0 = satAdd 16 (fld s 0x1312 15 0) 1 ∧ (w.id ≠ 0x1312 → rd t w.id = rd s w.id)) ∧
  (∀ (c id : Nat) (w : FwWrite) (p : ParamRow) (s : State),
     paramRow w.id = some p → s.arb.fwLost = none → w.id = id → id ≠ 0x1312 →
     (arbitrate 3 4 [id] (bump (advance c s) 0x1312 15 0 1)).isSome = true →
     ∃ t, exec (.firmwareRepeat c [w]) s = .next t ∧ fld t 0x1312 15 0 = satAdd 16 (fld s 0x1312 15 0) 1 ∧
     rd t id = w.value &&& p.mask (fun _ => true) ∧ id ∉ t.poison)

/-- Requests of the control law (08 R238, R240, R252, R254, R258, R259): what a served request leaves in the mode stall, the
targets, the joystick, the push and the track that the next setting snapshot takes. -/
def Obligations.ControlRequests : Prop :=
  (∀ (r : Req) (s : State),
     let p := r.payload
     served opModeSetBasic r s = true →
     ∃ t, exec (.modeSetBasic r) s = .next t ∧ fld t 0x2000 2 0 = byteAt p 0 ∧ flag t 0x2000 3 = (byteAt p 1 % 2 == 1) ∧
     fld t 0x2000 5 4 = presetOf s p ∧ flag t 0x2000 6 = false ∧ t.ctl.modeAt = some s.clk.beat ∧
     (byteAt p 7 = 1 → fld t 0x2010 15 0 = leAt p 4 2)) ∧
  (∀ (r : Req) (s : State),
     let p := r.payload
     served opModeSetExpert r s = true →
     ∃ t, exec (.modeSetExpert r) s = .next t ∧ fld t 0x2000 2 0 = byteAt p 0 ∧ fld t 0x2000 5 4 = 3 ∧
     (∀ k : Fin 27, rd t (0x2040 + k.val) = wordAt p (8 + 4 * k.val))) ∧
  (∀ (r : Req) (s : State),
     let p := r.payload
     served opSetpointSet r s = true →
     ∃ t, exec (.setpointSet r) s = .next t ∧
     (byteAt p 12 % 2 = 1 → rd t 0x2003 = wordAt p 0 ∧ rd t 0x2004 = wordAt p 4 ∧ t.ctl.posNew = some ⟨wordAt p 0, wordAt p
         4, s.ctl.modeAt == some s.clk.beat⟩) ∧
     (byteAt p 12 / 2 = 1 → rd t 0x2005 = wordAt p 8 ∧ t.ctl.hdgNew = some ⟨wordAt p 8, 0, s.ctl.modeAt == some s.clk.beat⟩) ∧
     (f32IsZero (wordAt p 16) = false → rd t 0x2008 = wordAt p 16) ∧
     (f32IsZero (wordAt p 20) = false → rd t 0x2009 = wordAt p 20)) ∧
  (∀ (r : Req) (s : State),
     let p := r.payload
     served opJoystickSet r s = true →
     ∃ t, exec (.joystickSet r) s = .next t ∧ t.ctl.joyNew = some [wordAt p 0, wordAt p 4, wordAt p 8]) ∧
  (∀ (r : Req) (s : State),
     let p := r.payload
     served opBerthPushSet r s = true →
     ∃ t, exec (.berthPushSet r) s = .next t ∧ fld t 0x2010 15 0 = leAt p 0 2 ∧ fld t 0x2010 16 16 = byteAt p 2 ∧
     fld t 0x2011 15 0 = leAt p 4 2) ∧
  (∀ (r : Req) (s : State),
     let p := r.payload
     served opTrackLoad r s = true →
     ∃ t, exec (.trackLoad r) s = .next t ∧
     t.ctl.trackNew = some ((List.range (leAt p 0 2)).map (waypointAt p), byteAt p 2) ∧ flag t 0x2101 7 = true ∧
     fld t 0x2101 14 8 = leAt p 0 2) ∧
  (∀ (r : Req) (s : State),
     let p := r.payload
     served opLossModeSet r s = true →
     ∃ t, exec (.lossModeSet r) s = .next t ∧ rd t 0x2001 = BitVec.ofNat 32 (byteAt p 0 + 4 * byteAt p 1 + 8 * byteAt p 2))

/-- Requests of intake and fusion (05 R166, R168, 06 R196, R201): REF_CONFIG stores every setting of its payload, the basic
form keeping the expert ones; REF_ENABLE sets ENABLE, and an enable of a disabled source clears its counters;
SELECT_REFERENCE leaves a pick, or its clearing, for the vote; REPLAY_WINDOW_SET stores W. -/
def Obligations.ReferenceRequests : Prop :=
  (∀ (r : Req) (s : State),
     let p := r.payload
     served opRefConfigBasic r s = true →
     ∃ t, exec (.refConfigBasic r) s = .next t ∧
     srcCfg t.regs (byteAt p 0) = payloadCfg false p (srcCfg s.regs (byteAt p 0)) ∧ t.src = s.src) ∧
  (∀ (r : Req) (s : State),
     let p := r.payload
     served opRefConfigExpert r s = true →
     ∃ t, exec (.refConfigExpert r) s = .next t ∧
     srcCfg t.regs (byteAt p 0) = payloadCfg true p (srcCfg s.regs (byteAt p 0)) ∧ t.src = s.src) ∧
  (∀ (r : Req) (s : State),
     let p := r.payload
     served opRefEnable r s = true →
     ∃ t, exec (.refEnable r) s = .next t ∧ flag t (srcId (byteAt p 0) 0) 0 = (byteAt p 1 == 1) ∧
     (flag s (srcId (byteAt p 0) 0) 0 = false → byteAt p 1 = 1 → (srcUnit t (byteAt p 0)).count = zeroCount)) ∧
  (∀ (r : Req) (s : State),
     let p := r.payload
     served opSelectReference r s = true →
     ∃ t, exec (.selectReference r) s = .next t ∧
     (vget t.fus.votes (if byteAt p 0 = 1 then 1 else 0)).newPick = some (s.clk.beat, if byteAt p 1 = 0xFF then none else
         some (byteAt p 1))) ∧
  (∀ (r : Req) (s : State),
     let p := r.payload
     served opReplayWindowSet r s = true →
     ∃ t, exec (.replayWindowSet r) s = .next t ∧ fld t 0x2300 6 0 = byteAt p 0)

/-- Requests of thrust allocation (09 R287, R290-R293, 10 R310): the stored settings, and an enabled or disabled thruster
with the requests its axes take at the next beat; an enable that one axis makes wait is answered ACCEPTED_PENDING and leaves
the thruster as it was. -/
def Obligations.AllocationRequests : Prop :=
  (∀ (r : Req) (s : State),
     let p := r.payload
     served opThrusterEnable r s = true → (thrusterAxes s.regs (byteAt p 0)).all (fun a => enableRow s a == .ok) = true →
     ∃ t, exec (.thrusterEnable r) s = .next t ∧ vgetD t.alc.thr (byteAt p 0) .off = .on ∧
     (∀ a ∈ thrusterAxes s.regs (byteAt p 0), (axisAt t a).reqNew = some ⟨true, true, (axisAt s a).state == 4⟩)) ∧
  (∀ (r : Req) (s : State),
     let p := r.payload
     served opThrusterEnable r s = true →
     (thrusterAxes s.regs (byteAt p 0)).any (fun a => enableRow s a == .pending) = true →
     ∃ t, exec (.thrusterEnable r) s = .next t ∧ t.alc.thr = s.alc.thr ∧
     (∀ a ∈ thrusterAxes s.regs (byteAt p 0), (axisAt t a).pend = true)) ∧
  (∀ (r : Req) (s : State),
     let p := r.payload
     served opThrusterDisable r s = true →
     ∃ t, exec (.thrusterDisable r) s = .next t ∧
     vgetD t.alc.thr (byteAt p 0) .off = (if vgetD s.alc.thr (byteAt p 0) .off = .on then .shutting else vgetD s.alc.thr
         (byteAt p 0) .off)) ∧
  (∀ (r : Req) (s : State),
     let p := r.payload
     served opAllocConfigBasic r s = true →
     ∃ t, exec (.allocConfigBasic r) s = .next t ∧ fld t 0x2480 2 0 = byteAt p 0 ∧ fld t 0x2480 5 4 = byteAt p 1 ∧
     fld t 0x2480 15 8 = byteAt p 3 ∧ rd t 0x2481 = wordAt p 4 ∧ rd t 0x2484 = wordAt p 16 ∧ rd t 0x2491 = wordAt p 24 ∧
     rd t 0x249E = wordAt p 52) ∧
  (∀ (r : Req) (s : State),
     let p := r.payload
     served opAllocConfigExpert r s = true →
     ∃ t, exec (.allocConfigExpert r) s = .next t ∧ (∀ k : Fin 128, rd t (0x2400 + k.val) = wordAt p (4 * k.val))) ∧
  (∀ (r : Req) (s : State),
     let p := r.payload
     served opPowerLimitSet r s = true →
     ∃ t, exec (.powerLimitSet r) s = .next t ∧
     (∀ b : Fin 4, fld t (0x2490 + 4 * b.val) 15 0 = leAt p (2 * b.val) 2 ∧ fld t (0x2490 + 4 * b.val) 31 16 = leAt p (8 + 2
         * b.val) 2)) ∧
  (∀ (r : Req) (s : State),
     let p := r.payload
     served opCompatModeSet r s = true →
     ∃ t, exec (.compatModeSet r) s = .next t ∧ flag t 0x2480 3 = (byteAt p 0 == 1))

/-- Requests of the servo (10 R310, R314, R315): an enable of an axis that is OFF or ACTIVE is taken at the next beat, one
of an axis that shuts down or parks becomes pending and is answered ACCEPTED_PENDING; a disable is taken at the next beat;
AXIS_CONFIG stores its words; a compensation table waits for the next beat edge and raises COMP_TABLE. -/
def Obligations.AxisRequests : Prop :=
  (∀ (r : Req) (s : State),
     let p := r.payload
     served opAxisEnable r s = true → enableRow s (byteAt p 0) = .ok →
     ∃ t, exec (.axisEnable r) s = .next t ∧
     (axisAt t (byteAt p 0)).reqNew = some ⟨true, false, (axisAt s (byteAt p 0)).state == 4⟩) ∧
  (∀ (r : Req) (s : State),
     let p := r.payload
     served opAxisEnable r s = true → enableRow s (byteAt p 0) = .pending →
     ∃ t, exec (.axisEnable r) s = .next t ∧ (axisAt t (byteAt p 0)).pend = true) ∧
  (∀ (r : Req) (s : State),
     let p := r.payload
     served opAxisDisable r s = true →
     ∃ t, exec (.axisDisable r) s = .next t ∧ (axisAt t (byteAt p 0)).reqNew = some ⟨false, false, false⟩) ∧
  (∀ (r : Req) (s : State),
     let p := r.payload
     served opAxisConfigBasic r s = true →
     ∃ t, exec (.axisConfigBasic r) s = .next t ∧
     (∀ k : Fin 5, rd t (0x5008 + 16 * byteAt p 0 + k.val) = wordAt p (4 + 4 * k.val))) ∧
  (∀ (r : Req) (s : State),
     let p := r.payload
     served opAxisConfigExpert r s = true →
     ∃ t, exec (.axisConfigExpert r) s = .next t ∧
     (∀ k : Fin 5, rd t (0x5008 + 16 * byteAt p 0 + k.val) = wordAt p (4 + 4 * k.val)) ∧
     (∀ k : Fin 8, rd t (0x5000 + 16 * byteAt p 0 + k.val) = wordAt p (32 + 4 * k.val))) ∧
  (∀ (r : Req) (s : State),
     let p := r.payload
     served opCompTableLoad r s = true →
     ∃ t, exec (.compTableLoad r) s = .next t ∧ t.servo.newTabs = s.servo.newTabs ++ [(byteAt p 0, tableAt p 4)] ∧
     (s.clk.core = true → flag t 0x1306 20 = true))

/-- Requests of the field channels and the filter chain (11 R346, R348, R349, 12 R374-R376): stored settings, the private
set that waits for the beat edge, and the sync edge of SYNC_FILTERS on its commit cycle. -/
def Obligations.FieldAndFilterRequests : Prop :=
  (∀ (r : Req) (s : State),
     let p := r.payload
     served opChannelConfigBasic r s = true →
     ∃ t, exec (.channelConfigBasic r) s = .next t ∧ fld t (0x6000 + 16 * byteAt p 0) 2 0 = byteAt p 1 ∧
     fld t (0x6000 + 16 * byteAt p 0) 15 8 = byteAt p 3 ∧ rd t (0x6001 + 16 * byteAt p 0) = wordAt p 4) ∧
  (∀ (r : Req) (s : State),
     let p := r.payload
     served opChannelConfigExpert r s = true →
     ∃ t, exec (.channelConfigExpert r) s = .next t ∧ fld t (0x6000 + 16 * byteAt p 0) 2 0 = byteAt p 1 ∧
     rd t (0x6001 + 16 * byteAt p 0) = wordAt p 4 ∧ rd t (0x6003 + 16 * byteAt p 0) = wordAt p 16) ∧
  (∀ (r : Req) (s : State),
     let p := r.payload
     served opOutputSet r s = true →
     ∃ t, exec (.outputSet r) s = .next t ∧
     (if fld s (0x6000 + 16 * byteAt p 0) 2 0 = 3 then fld t (0x6002 + 16 * byteAt p 0) 0 0 = leAt p 4 4 else fld t (0x6002
         + 16 * byteAt p 0) 31 16 = leAt p 4 4)) ∧
  (∀ (r : Req) (s : State),
     let p := r.payload
     served opSafeValueSet r s = true →
     ∃ t, exec (.safeValueSet r) s = .next t ∧
     rd t (0x6001 + 16 * byteAt p 0) = BitVec.ofNat 32 (byteAt p 1 + 65536 * leAt p 4 4)) ∧
  (∀ (r : Req) (s : State),
     let p := r.payload
     served opFilterPreset r s = true → byteAt p 0 < 48 →
     ∃ t, exec (.filterPreset r) s = .next t ∧ fld t (0x5400 + 16 * byteAt p 0) 1 0 = byteAt p 1 ∧
     fld t (0x5400 + 16 * byteAt p 0) 7 4 = 0) ∧
  (∀ (r : Req) (s : State),
     let p := r.payload
     served opFilterPreset r s = true → byteAt p 0 = 0xFF →
     ∃ t, exec (.filterPreset r) s = .next t ∧
     (∀ l : Fin 48, fld t (0x5400 + 16 * l.val) 1 0 = byteAt p 1 ∧ fld t (0x5400 + 16 * l.val) 7 4 = 0)) ∧
  (∀ (r : Req) (s : State),
     let p := r.payload
     served opFilterCustom r s = true →
     ∃ t, exec (.filterCustom r) s = .next t ∧
     (vgetD t.filt.lanes (byteAt p 0) LaneUnit.start).privNew = some ⟨leAt p 2 2, tapsAt p 8 (leAt p 4 2)⟩ ∧
     (byteAt p 1 = 1 → fld t (0x5400 + 16 * byteAt p 0) 7 4 = 1)) ∧
  (∀ (r : Req) (s : State),
     served opSyncFilters r s = true → s.clk.core = true →
     ∃ t, exec (.syncFilters r) s = .next t ∧ flag t 0x1307 6 = true ∧ t.filt.sync.isSome = true) ∧
  (∀ (r : Req) (s : State),
     let p := r.payload
     served opDcBlockSet r s = true →
     ∃ t, exec (.dcBlockSet r) s = .next t ∧ fld t (0x5400 + 16 * byteAt p 0) 9 8 = byteAt p 1 ∧
     fld t (0x5400 + 16 * byteAt p 0) 20 16 = byteAt p 2)

/-- Requests of the CAN buses, Ethernet and time (13 R401-R403, 14 R430, R431, R433): stored settings, a re-enabled
identifier, a queued frame, a slot configuration and the active slot. -/
def Obligations.BusAndTimeRequests : Prop :=
  (∀ (r : Req) (s : State),
     let p := r.payload
     served opCanConfigBasic r s = true →
     ∃ t, exec (.canConfigBasic r) s = .next t ∧ fld t (canId (byteAt p 0) 0) 3 0 = byteAt p 1 % 16 ∧
     rd t (canId (byteAt p 0) 4) = wordAt p 4 ∧ rd t (canId (byteAt p 0) 5) = wordAt p 8 ∧
     rd t (canId (byteAt p 0) 1) = nominalPreset (byteAt p 12)) ∧
  (∀ (r : Req) (s : State),
     let p := r.payload
     served opCanConfigExpert r s = true →
     ∃ t, exec (.canConfigExpert r) s = .next t ∧ rd t (canId (byteAt p 0) 4) = wordAt p 4 ∧
     rd t (canId (byteAt p 0) 5) = wordAt p 8 ∧ rd t (canId (byteAt p 0) 1) = wordAt p 16 ∧
     rd t (canId (byteAt p 0) 2) = wordAt p 20 ∧ rd t (canId (byteAt p 0) 3) = wordAt p 24) ∧
  (∀ (r : Req) (s : State),
     let p := r.payload
     served opCanIdEnable r s = true → byteAt p 1 = 1 →
     ∃ t, exec (.canIdEnable r) s = .next t ∧
     idDisabled (canAt t (byteAt p 0)) (bitsOf (wordAt p 4) 28 0) (bitOf (wordAt p 4) 31) = false ∧ t.idReq = s.idReq) ∧
  (∀ (r : Req) (s : State),
     let p := r.payload
     served opCanSend r s = true →
     ∃ t, exec (.canSend r) s = .next t ∧
     (canAt t (byteAt p 0)).queue = (canAt s (byteAt p 0)).queue ++ [⟨.send, leAt p 4 4, byteAt p 1 / 4 % 2 == 1, byteAt p 1
         % 2 == 1, byteAt p 1 / 2 % 2 == 1, byteAt p 1 / 8 % 2 == 1, (p.drop 8).take (dlcBytes (byteAt p 2)), none⟩]) ∧
  (∀ (r : Req) (s : State),
     let p := r.payload
     served opEthConfig r s = true →
     ∃ t, exec (.ethConfig r) s = .next t ∧ fld t (0x7100 + 16 * byteAt p 0) 2 0 = byteAt p 1 ∧
     rd t (0x7101 + 16 * byteAt p 0) = wordAt p 4 ∧ rd t (0x7102 + 16 * byteAt p 0) = wordAt p 8 ∧
     fld t (0x7103 + 16 * byteAt p 0) 15 0 = leAt p 14 2) ∧
  (∀ (r : Req) (s : State),
     let p := r.payload
     served opPtpConfigBasic r s = true →
     ∃ t, exec (.ptpConfigBasic r) s = .next t ∧ fld t (0x7210 + 16 * byteAt p 0) 1 0 = byteAt p 1 ∧
     fld t (0x7210 + 16 * byteAt p 0) 15 8 = byteAt p 2 ∧ fld t (0x7210 + 16 * byteAt p 0) 2 2 = byteAt p 3 ∧
     fld t (0x7210 + 16 * byteAt p 0) 5 4 = byteAt p 4) ∧
  (∀ (r : Req) (s : State),
     let p := r.payload
     served opPtpConfigExpert r s = true →
     ∃ t, exec (.ptpConfigExpert r) s = .next t ∧ fld t (0x7210 + 16 * byteAt p 0) 1 0 = byteAt p 1 ∧
     fld t (0x7210 + 16 * byteAt p 0) 31 16 = leAt p 16 2 ∧ rd t (0x7211 + 16 * byteAt p 0) = wordAt p 20) ∧
  (∀ (r : Req) (s : State),
     let p := r.payload
     served opTimeDomainSelect r s = true →
     ∃ t, exec (.timeDomainSelect r) s = .next t ∧ fld t 0x7200 1 0 = byteAt p 0 + 2 * byteAt p 1 ∧
     t.time.active = (if byteAt p 0 = 1 then 1 else 0))

/-- Requests of the GNSS baseband, the power unit and the twin pair (07 R227, R229, R230, 15 R458, R460, R461, 16 R474,
R493): stored settings, a restart of the baseband, a sleep entry that waits for its beat edge, and the start of a hand-over.
-/
def Obligations.GnssPowerTwinRequests : Prop :=
  (∀ (r : Req) (s : State),
     let p := r.payload
     served opGnssConfigBasic r s = true →
     ∃ t, exec (.gnssConfigBasic r) s = .next t ∧ fld t 0x4000 2 0 = byteAt p 0 % 8 ∧ fld t 0x4000 5 4 = byteAt p 1 ∧
     fld t 0x4001 6 0 = byteAt p 2 ∧ fld t 0x4003 7 0 = byteAt p 3 ∧ fld t 0x4003 15 8 = byteAt p 4) ∧
  (∀ (r : Req) (s : State),
     let p := r.payload
     served opGnssConfigExpert r s = true →
     ∃ t, exec (.gnssConfigExpert r) s = .next t ∧ fld t 0x4000 2 0 = byteAt p 0 % 8 ∧
     rd t 0x4002 = BitVec.ofNat 32 (byteAt p 16 + 256 * byteAt p 17 + 65536 * byteAt p 18) ∧
     fld t 0x4007 5 0 = byteAt p 19 ∧ fld t 0x4008 15 0 = leAt p 22 2) ∧
  (∀ (r : Req) (s : State),
     let p := r.payload
     served opHeadingBaselineSet r s = true →
     ∃ t, exec (.headingBaselineSet r) s = .next t ∧ fld t 0x4004 15 0 = leAt p 0 2 ∧ fld t 0x4005 15 0 = leAt p 2 2 ∧
     fld t 0x4006 15 0 = leAt p 4 2) ∧
  (∀ (r : Req) (s : State),
     let p := r.payload
     served opGnssRestart r s = true →
     ∃ t, exec (.gnssRestart r) s = .next t ∧ (byteAt p 1 % 2 = 1 → ∀ n : Fin 24, chanAt t n.val = GChan.idle) ∧
     (1 ≤ byteAt p 0 → t.gnss.sats = s.gnss.sats.map (fun x => { SatNav.empty with bad := x.bad, far := x.far })) ∧
     (byteAt p 0 = 2 → t.gnss.alm = [] ∧ t.gnss.pos = none)) ∧
  (∀ (r : Req) (s : State),
     let p := r.payload
     served opPowerStateSet r s = true → s.power.mode = .run → 1 ≤ byteAt p 0 →
     ∃ t, exec (.powerStateSet r) s = .next t ∧ t.power.entryCommit = some (commitState opPowerStateSet r s).clk.cycle ∧
     t.power.target = byteAt p 0 ∧ t.power.mode = .run) ∧
  (∀ (r : Req) (s : State),
     let p := r.payload
     served opWakeConfig r s = true →
     ∃ t, exec (.wakeConfig r) s = .next t ∧ fld t 0x1502 15 0 = leAt p 0 2 ∧ rd t 0x1503 = wordAt p 4) ∧
  (∀ (r : Req) (s : State),
     let p := r.payload
     served opRtcAlarmSet r s = true →
     ∃ t, exec (.rtcAlarmSet r) s = .next t ∧ rd t 0x0004 = wordAt p 0 ∧ fld t 0x0005 15 0 = leAt p 4 2) ∧
  (∀ (r : Req) (s : State),
     served opHalterRequest r s = true →
     ∃ t, exec (.halterRequest r) s = .next t ∧
     t.twin.request = (if s.twin.holds then s.twin.request else some (nextMessageBeat (commitState opHalterRequest r s))) ∧
     t.twin.holds = s.twin.holds) ∧
  (∀ (r : Req) (s : State),
     served opHalterRelease r s = true →
     ∃ t, exec (.halterRelease r) s = .next t ∧
     t.twin.handover = .released (nextMessageBeat (commitState opHalterRelease r s)) ∧ t.twin.holds = true) ∧
  (∀ (r : Req) (s : State),
     let p := r.payload
     served opTwinToleranceSet r s = true →
     ∃ t, exec (.twinToleranceSet r) s = .next t ∧ (∀ k : Fin 7, rd t (0x3000 + k.val) = wordAt p (4 * k.val)))

/-- A beat edge in RUN (02 R51, 01 R46, R47, 16 R485): the first RUN beat keeps the number loaded at bring-up and releases
no outputs; every later edge is the next of beats 1 000 000 cycles long. The outputs of the ended beat are released where
the twin unit permits them, the unit is not fail-silent and no sleep entry begins. The latch freezes, for each enabled
source, the records that were available before the edge. -/
def Obligations.BeatEdges : Prop :=
  (∀ (wire : BitVec 4) (s : State), s.power.mode = .run → s.clk.core = true → s.clk.beats = true →
     ∃ t, exec (.beatEdge wire) s = .next t ∧ t.clk.beat = beatAdd s.clk.beat 1 ∧
     t.clk.beatBase = s.clk.beatBase + 1000000 ∧
     t.field.due = (s.twin.permit && !failSilent s && !entering s (s.clk.beatBase + 1000000)) ∧
     (∀ q : Fin 32, flag s (srcId q.val 0) 0 = true → (vget t.src q).image = (vget s.src q).buf.filter (fun x => decide
         (x.avail < s.clk.beatBase + 1000000)))) ∧
  (∀ (wire : BitVec 4) (s : State), s.power.mode = .run → s.clk.core = true → s.clk.beats = false →
     ∃ t, exec (.beatEdge wire) s = .next t ∧ t.clk.beat = s.clk.beat ∧ t.clk.beatBase = s.clk.runEdge ∧
     t.clk.beats = true ∧ t.field.due = false ∧ t.twin.firstBeat = true) ∧
  (∀ (wire : BitVec 4) (s : State), s.power.mode ≠ .run ∨ s.clk.core = false →
     ∃ t, exec (.beatEdge wire) s = .next t ∧ t = s)

/-- Reception of reference samples (05 R145-R149, R154, R155): a sentence or frame that matches an enabled source and parses
becomes a record behind the records that wait, of which the earliest gives way when three wait already; a sentence of
another kind, or one that does not parse, is a reject FORMAT; a sentence that fails its checks is discarded and counted at
its port; one that no enabled source matches is counted as unmatched. Where the rules leave a reading open, the clause
states the model's choice, log 14. -/
def Obligations.SentencesAndFrames : Prop :=
  (∀ (c a : Nat) (port : Fin 4) (l : List Byte) (fr : Bool) (b : List Nat) (q : Nat) (utc : Option Int) (la lo : Int) (v w : F32) (z : Option F32) (s : State),
     flag s (serId port 0) 2 = true → blockDown s 7 (6 + port.val) = false → fr = false → l.length ≤ 82 →
     checkedBody l = some b →
     matchSource s 0 (· == port.val) (sentenceParts b).1 (sentenceParts b).2.1 (sentenceParts b).2.2.2 = some q →
     kindOfFmt (sentenceParts b).2.1 = (srcCfg s.regs q).kind → (srcCfg s.regs q).stamp ≠ 1 →
     parseSentence (sentenceParts b).2.1 (sentenceParts b).2.2.1 = .values utc la lo v w z →
     ∃ t, exec (.serialSentence c a port l fr) s = .next t ∧
     (srcUnit t q).buf = (if 3 ≤ (srcUnit s q).buf.length then (srcUnit s q).buf.drop 1 else (srcUnit s q).buf) ++
         [⟨(advance c s).clk.cycle, a, none, la, lo, v, w, z⟩]) ∧
  (∀ (c a : Nat) (port : Fin 4) (l : List Byte) (fr : Bool) (b : List Nat) (q : Nat) (s : State),
     flag s (serId port 0) 2 = true → blockDown s 7 (6 + port.val) = false → fr = false → l.length ≤ 82 →
     checkedBody l = some b →
     matchSource s 0 (· == port.val) (sentenceParts b).1 (sentenceParts b).2.1 (sentenceParts b).2.2.2 = some q →
     kindOfFmt (sentenceParts b).2.1 ≠ (srcCfg s.regs q).kind ∨ parseSentence (sentenceParts b).2.1 (sentenceParts b).2.2.1
         = .format →
     ∃ t, exec (.serialSentence c a port l fr) s = .next t ∧ (srcUnit t q).pend = (srcUnit s q).pend ++ [.format] ∧
     (srcUnit t q).buf = (srcUnit s q).buf) ∧
  (∀ (c a : Nat) (port : Fin 4) (l : List Byte) (fr : Bool) (s : State),
     flag s (serId port 0) 2 = true → blockDown s 7 (6 + port.val) = false → fr = true →
     ∃ t, exec (.serialSentence c a port l fr) s = .next t ∧
     fld t (serId port 0x2) 15 0 = satAdd 16 (fld s (serId port 0x2) 15 0) 1 ∧ flag t (serId port 1) 0 = true ∧
     t.src = s.src) ∧
  (∀ (c a : Nat) (port : Fin 4) (l : List Byte) (fr : Bool) (b : List Nat) (s : State),
     flag s (serId port 0) 2 = true → blockDown s 7 (6 + port.val) = false → fr = false → l.length ≤ 82 →
     checkedBody l = some b →
     matchSource s 0 (· == port.val) (sentenceParts b).1 (sentenceParts b).2.1 (sentenceParts b).2.2.2 = none →
     ∃ t, exec (.serialSentence c a port l fr) s = .next t ∧
     fld t (serId port 4) 15 0 = satAdd 16 (fld s (serId port 4) 15 0) 1 ∧ flag t (serId port 1) 3 = true ∧ t.src = s.src) ∧
  (∀ (c a : Nat) (e : Fin 2) (g : Fin 16) (l : List Byte) (b : List Nat) (q : Nat) (utc : Option Int) (la lo : Int) (v w : F32) (z : Option F32) (s : State),
     ethOn s e = true → groupJoined s e g.val = true → (stripTag l).length ≤ 82 → checkedBody (stripTag l) = some b →
     matchSource s 1 (fun x => x == 0 || x == e.val + 1) (sentenceParts b).1 (sentenceParts b).2.1 (sentenceParts b).2.2.2 =
         some q →
     (srcCfg s.regs q).port ≠ 0 → kindOfFmt (sentenceParts b).2.1 = (srcCfg s.regs q).kind → (srcCfg s.regs q).stamp ≠ 1 →
     parseSentence (sentenceParts b).2.1 (sentenceParts b).2.2.1 = .values utc la lo v w z →
     ∃ t, exec (.udpbcSentence c a e g l) s = .next t ∧
     (srcUnit t q).buf = (if 3 ≤ (srcUnit s q).buf.length then (srcUnit s q).buf.drop 1 else (srcUnit s q).buf) ++
         [⟨(advance c s).clk.cycle, a, none, la, lo, v, w, z⟩]) ∧
  (∀ (c a : Nat) (bus : Fin 4) (f : CanFrame) (q : Fin 32) (s : State),
     canHears s bus = true → f.remote = false → flag s (srcId q.val 0) 0 = true → (srcCfg s.regs q.val).trans = 2 →
     (srcCfg s.regs q.val).port = bus.val → (srcCfg s.regs q.val).mtch = frameIdWord f →
     (∀ j : Fin 32, j < q → flag s (srcId j.val 0) 0 = false ∨ (srcCfg s.regs j.val).mtch ≠ frameIdWord f) → f.fd = true →
     f.data.length = 20 → byteAt f.data 0 = (srcCfg s.regs q.val).kind → byteAt f.data 1 / 8 = 0 → byteAt f.data 1 % 2 = 1 →
     (srcUnit s q.val).counter ≠ some (leAt f.data 2 2) → (srcCfg s.regs q.val).stamp ≠ 2 →
     ∃ t, exec (.canReferenceFrame c a bus f) s = .next t ∧ (srcUnit t q.val).counter = some (leAt f.data 2 2) ∧
     (∃ x : SampleRec, (srcUnit t q.val).buf = (if 3 ≤ (srcUnit s q.val).buf.length then (srcUnit s q.val).buf.drop 1 else
         (srcUnit s q.val).buf) ++ [x] ∧ x.arrival = a ∧ x.v1 = (frameRec (srcCfg s.regs q.val).kind f.data).2.2.1 ∧ x.v2 =
         (frameRec (srcCfg s.regs q.val).kind f.data).2.2.2.1)) ∧
  (∀ (port : Fin 4) (x : TalkLine) (s : State), (vget s.ser port).sending = some x →
     ∃ t, exec (.talkSentenceSent port) s = .next t ∧ (vget t.ser port).sending = (vget s.ser port).waiting ∧
     (vget t.ser port).waiting = none)

/-- The end of intake (05 R157, R163): every frozen record and reject has been handled; a source that is not enabled is OFF;
an enabled one without a record, whose carrier is not fenced, keeps its state while its AGE grows; AGE at LOSS_TIMEOUT in
LIVE or WAIT makes it LOST and counts the loss. -/
def Obligations.IntakeEnds : Prop :=
  (∀ (q : Fin 32) (s : State), s.clk.beats = true →
     ∃ t, exec (.intakeSummary) s = .next t ∧ (vget t.src q).image = [] ∧ (vget t.src q).rejects = [] ∧
     (vget t.src q).on = flag s (srcId q.val 0) 0 ∧ (flag s (srcId q.val 0) 0 = false → (vget t.src q).state = 0) ∧
     ((vget s.src q).image = [] → flag s (srcId q.val 0) 0 = true → (vget s.src q).on = true → (vget s.src q).cut = false →
         (vget t.src q).age = min ((vget s.src q).age + 1) 65535 ∧ (vget t.src q).state = (vget s.src q).state)) ∧
  (∀ (q : Fin 32) (s : State),
     (vget s.src q).state = 1 ∨ (vget s.src q).state = 2 → sfld s (srcId q.val 2) 25 16 ≤ (vget s.src q).age →
     flag s (srcId q.val 0) 0 = true →
     ∃ t, exec (.sourceLossTimeout q) s = .next t ∧ (vget t.src q).state = 3 ∧
     (vget t.src q).count = { (vget s.src q).count with loss := satAdd 16 (vget s.src q).count.loss 1 } ∧
     (s.clk.core = true → flag t 0x1305 0 = true))

/-- Fusion (06 R181, R184, R189, R192, R194, R200, R203): a replay step of the schedule; at the end of the update phase the
state registers hold the fused state of the beat, which also enters the next beat, and the loft slot of the beat keeps its
measurements; a track silent for 500 beats is marked, for that update to delete it after the births; the end of a hold
clears its timer and its contradict marks; a voted-out track is used again. Where the rules leave a reading open, the clause
states the model's choice, log 17. -/
def Obligations.FusionEvents : Prop :=
  (∀ (s : State), s.clk.beats = true → s.fus.step < 64 → min 64 (sfld s 0x2300 6 0) < 64 - s.fus.step →
     ∃ t, exec (.loftReplayStep) s = .next t ∧ t.fus.step = s.fus.step + 1 ∧ t.fus.loft = s.fus.loft ∧ t.fus.cur = s.fus.cur) ∧
  (∀ (s : State), s.clk.beats = true → s.fus.step < 64 → 64 - s.fus.step ≤ min 64 (sfld s 0x2300 6 0) →
     ∃ t, exec (.loftReplayStep) s = .next t ∧ t.fus.step = s.fus.step + 1 ∧
     t.fus.tracks.toList.map (fun x => x.map (·.src)) = s.fus.tracks.toList.map (fun x => x.map (·.src)) ∧
     t.fus.votes = s.fus.votes ∧ (loftAt t (64 - s.fus.step)).meas = (loftAt s (64 - s.fus.step)).meas) ∧
  (∀ (s : State), s.clk.beats = true →
     ∃ t, exec (.fusionUpdate) s = .next t ∧ (∀ k : Fin 15, rd t (0x2330 + k.val) = fAt t.fus.out.x k.val) ∧
     rd t 0x233F = BitVec.ofNat 32 s.clk.beat ∧ t.fus.cur.x = t.fus.out.x ∧ t.fus.cur.iniH = t.fus.hdg ∧
     t.fus.cur.iniP = t.fus.pos ∧ t.fus.cur.iniT = t.fus.tgt ∧ t.fus.out.valid = fusedValid t ∧
     (vgetD t.fus.loft (s.clk.beat % 64) LoftSlot.empty).meas = s.fus.cur.meas) ∧
  (∀ (k : Fin 48) (x y : Track) (s : State), trackAt (fusionPrelude s).1.1 k.val = some x → trackAt s k.val = some y →
     500 ≤ (s.clk.beat + 2 ^ 32 - x.lastBeat) % 2 ^ 32 →
     ∃ t, exec (.trackSilenceExpiry k) s = .next t ∧ trackAt t k.val = some { y with silent := true } ∧
     (∀ j : Fin 48, j ≠ k → trackAt t j.val = trackAt s j.val) ∧
     (x.confirmed = true → s.clk.core = true → flag t 0x1305 9 = true)) ∧
  (∀ (q : Quantity) (k : Fin 2) (s : State),
     (q = .position ∧ k = 0) ∨ (q = .heading ∧ k = 1) → holdEnds s k = true → (vget s.fus.votes k).hold ≠ none →
     ∃ t, exec (.modelHoldEnd q) s = .next t ∧ (vget t.fus.votes k).hold = none ∧ (vget t.fus.votes k).timer = 0 ∧
     (vget t.fus.votes k).lost = false ∧
     (∀ j : Fin 48, ∀ x, trackAt t j.val = some x → quantityOf x.last.kind = some k → x.contra = false)) ∧
  (∀ (k : Fin 48) (x y : Track) (q : Fin 2) (d : Nat × F32) (s : State),
     trackAt (fusionPrelude s).1.1 k.val = some x → trackAt s k.val = some y → quantityOf x.last.kind = some q →
     (findVote (fusionPrelude s).1.1 q).dists.find? (·.1 == k.val) = some d → f32Le d.2 (f32OfInt 4) = true →
     x.votedOut = true → 99 ≤ x.near →
     ∃ t, exec (.votedOutReadmit k) s = .next t ∧ trackAt t k.val = some { y with votedOut := false, near := 0 } ∧
     (∀ j : Fin 48, j ≠ k → trackAt t j.val = trackAt s j.val))

/-- The control law (06 R195, 08 R239, R242, R246, R249, R253, R255, R261): its output takes the mode of the beat, and no
component of the demand exceeds its limit; in STANDBY the demand is zero; the demand, the beat and the mode stand in the
registers. REF_LOST sets its bits, and for a mode that needs heading the safety supervisor commits the heading loss mode.
Wind becomes stale, an old joystick is zeroed, and the heading law takes yaw again at the fused heading. Where the rules
leave a reading open, the clause states the model's choice, log 19. -/
def Obligations.ControlEvents : Prop :=
  (∀ (s : State), s.clk.beats = true →
     ∃ t, exec (.controlLawOutput) s = .next t ∧ t.ctl.mode = sfld s 0x2000 2 0 ∧
     (∀ k : Fin 3, rd t (0x2102 + k.val) = fAt t.ctl.tauD k.val) ∧
     (∀ k : Fin 3, f32Le 0 (srd s (0x2020 + k.val)) = true → f32Lt (srd s (0x2020 + k.val)) (f32Abs (fAt t.ctl.tauD k.val))
         = false) ∧
     (sfld s 0x2000 2 0 = 0 → ∀ k : Fin 3, f32Le 0 (srd s (0x2020 + k.val)) = true → f32IsZero (fAt t.ctl.tauD k.val) = true) ∧
     rd t 0x210B = BitVec.ofNat 32 s.clk.beat ∧ fld t 0x2100 2 0 = sfld s 0x2000 2 0) ∧
  (∀ (q : Quantity) (k : Fin 2) (s : State),
     (q = .position ∧ k = 0) ∨ (q = .heading ∧ k = 1) → (vget s.fus.votes k).lost = false →
     (vget s.fus.votes k).hold ≠ none → 3000 ≤ (vget s.fus.votes k).timer →
     ∃ t, exec (.refLost q) s = .next t ∧ (vget t.fus.votes k).lost = true ∧ flag t 0x2320 (14 + k.val) = true ∧
     flag t 0x2323 4 = true ∧ (s.clk.core = true → flag t 0x1305 6 = true)) ∧
  (∀ (q : Quantity) (s : State), q = .heading → (vget s.fus.votes 1).lost = false → (vget s.fus.votes 1).hold ≠ none →
     3000 ≤ (vget s.fus.votes 1).timer → needsHeading (fld s 0x2000 2 0) (flag s 0x2000 3) = true → s.clk.core = true →
     s.clk.cycle ≤ beatCycle s 420000 → s.arb.cycle < beatCycle s 420000 →
     ∃ t, exec (.refLost q) s = .next t ∧ fld t 0x2000 2 0 = fld s 0x2001 2 2 ∧ flag t 0x2000 3 = false ∧
     flag t 0x210C 0 = true) ∧
  (∀ (s : State),
     s.clk.beats = true → s.ctl.stale = false → windMeas s = none → sfld s 0x2029 31 16 ≤ s.ctl.windAge + 1 →
     ∃ t, exec (.windStaleExpiry) s = .next t ∧ t.ctl = { s.ctl with stale := true } ∧ flag t 0x210C 2 = true) ∧
  (∀ (s : State), s.clk.beats = true → sflag s 0x2018 0 = false → (joyRaw s).2 = 7 → s.ctl.joyZero ≠ 7 →
     ∃ t, exec (.joyTimeoutExpiry) s = .next t ∧ t.ctl = { s.ctl with joyZero := 7 } ∧ flag t 0x210C 3 = true) ∧
  (∀ (s : State),
     modeEnters s = false → (modeNow s).1 = 1 → (modeNow s).2.1 = true → s.ctl.autoYaw = false → 199 ≤ s.ctl.joyRest →
     f32IsZero (fAt (joyNow s) 2) = true →
     ∃ t, exec (.joyHeadingResume) s = .next t ∧
     t.ctl =
         { s.ctl with autoYaw := true, tgtPsi := wrapTwoPi (fAt s.fus.out.x 2), refPsi := wrapTwoPi (fAt s.fus.out.x 2), vPsi := 0, velPsi := 0 })

/-- Thrust allocation (09 R272-R274, R276, R281, R282, R289): an iteration advances the count of the beat's iterations on a
standing problem; the result carries the beat, is the solver's after a valid solve and the released one after an invalid
one, and clears or advances INVALID_STREAK; the third invalid beat enters fallback and the tenth valid one leaves it; power
data go stale; a power frame or sentence leaves its record for the next latch, a malformed frame is counted. Where the rules
leave a reading open, the clause states the model's choice, log 20. -/
def Obligations.AllocationEvents : Prop :=
  (∀ (s : State), s.clk.beats = true → s.alc.done < 20 →
     ∃ t, exec (.allocIteration) s = .next t ∧ t.alc.done = s.alc.done + 1 ∧ t.alc.prob.isSome = true ∧
     t.alc.res = s.alc.res) ∧
  (∀ (p : AProb) (s : State), s.clk.beats = true → s.alc.done < 20 → s.alc.prob = some p →
     ∃ t, exec (.allocIteration) s = .next t ∧ t.alc.prob = some p ∧ t.alc.iter = (ipmStep p s.alc.iter).1) ∧
  (∀ (p : AProb) (s : State), s.alc.done = 20 → s.clk.beats = true → s.alc.prob = some p →
     ∃ t, exec (.allocResult) s = .next t ∧ t.alc.res.beat = s.clk.beat ∧ rd t 0x24C1 = BitVec.ofNat 32 s.clk.beat ∧
     t.alc.prob = none ∧ t.alc.streak = (if resultValid p s.alc.iter then 0 else satAdd 8 s.alc.streak 1) ∧
     (s.alc.fb = false → resultValid p s.alc.iter = true → t.alc.res.x = spread48 p (powerTrim p s.alc.iter.x).1) ∧
     (s.alc.fb = false → resultValid p s.alc.iter = false → t.alc.res.x = s.alc.rel.x ∧ t.alc.res.sp = s.alc.rel.sp) ∧
     (s.alc.fb = true → t.alc.res.x = (fallbackOf s p).1)) ∧
  (∀ (p : AProb) (s : State),
     s.alc.done = 20 → s.clk.beats = true → s.alc.prob = some p → s.alc.fb = false → resultValid p s.alc.iter = false →
     2 ≤ s.alc.streak →
     ∃ t, exec (.allocFallbackEntry) s = .next t ∧ t.alc = { s.alc with fb := true, fbRun := 0 } ∧ flag t 0x24C5 1 = true) ∧
  (∀ (p : AProb) (s : State),
     s.alc.done = 20 → s.clk.beats = true → s.alc.prob = some p → s.alc.fb = true → resultValid p s.alc.iter = true →
     9 ≤ s.alc.fbRun →
     ∃ t, exec (.allocFallbackExit) s = .next t ∧ t.alc = { s.alc with fb := false, fbRun := 0 }) ∧
  (∀ (b : Fin 4) (s : State), s.clk.beats = true → (vget s.alc.bus b).stale = false → busStale s b.val = true →
     ∃ t, exec (.powerDataStale b) s = .next t ∧ (vget t.alc.bus b).stale = true ∧
     (vget t.alc.bus b).data = (vget s.alc.bus b).data ∧ (busPresent s b.val = true → flag t 0x24C5 4 = true)) ∧
  (∀ (c : Nat) (bus : Fin 4) (f : CanFrame) (b : Fin 4) (s : State),
     fld s 0x2480 5 4 = 0 → fld s 0x2480 7 6 = bus.val → frameIdWord f = rd s 0x2481 → canHears s bus = true →
     f.remote = false → f.fd = true → f.data.length = 12 → byteAt f.data 0 = b.val → byteAt f.data 1 = 1 →
     leAt f.data 10 2 = 0 → (vget s.alc.bus b).count ≠ some (leAt f.data 2 2) →
     ∃ t, exec (.powerFrame c bus f) s = .next t ∧ (vget t.alc.bus b).rx = some ⟨leAt f.data 4 2, none, none⟩ ∧
     (vget t.alc.bus b).count = some (leAt f.data 2 2) ∧ t.regs = s.regs) ∧
  (∀ (c : Nat) (bus : Fin 4) (f : CanFrame) (s : State),
     fld s 0x2480 5 4 = 0 → fld s 0x2480 7 6 = bus.val → frameIdWord f = rd s 0x2481 → canHears s bus = true →
     f.remote = false → f.fd = false ∨ f.data.length ≠ 12 ∨ 3 < byteAt f.data 0 ∨ 3 < byteAt f.data 1 →
     ∃ t, exec (.powerFrame c bus f) s = .next t ∧ fld t 0x2486 15 0 = satAdd 16 (fld s 0x2486 15 0) 1 ∧ t.alc = s.alc) ∧
  (∀ (c : Nat) (e : Fin 2) (l : List Byte) (x : List Nat) (b : Fin 4) (v : Nat) (s : State),
     fld s 0x2480 5 4 = 1 → blockDown s 7 (4 + e.val) = false → l.length ≤ 82 → checkedBody l = some x →
     (splitFields x).length = 6 → fieldOf (splitFields x) 0 = charsOf "PTBMP" →
     wholeField (fieldOf (splitFields x) 1) 3 = some b.val → wholeField (fieldOf (splitFields x) 2) 65535 = some v →
     fieldOf (splitFields x) 3 = [] → fieldOf (splitFields x) 4 = [] → fieldOf (splitFields x) 5 = charsOf "A" →
     ∃ t, exec (.ptbmpSentence c e l) s = .next t ∧ (vget t.alc.bus b).rx = some ⟨v, none, none⟩ ∧ t.regs = s.regs)

/-- The lane compare (15 R437-R439): lanes that agree in every item permit the release of the beat, unless the unit is
fail-silent or has withdrawn it; the first item that differs is recorded, LANE_DISAGREE is counted in TWIN_STICKY, and the
unit becomes fail-silent and gives up the halter. Where the rules leave a reading open, the clause states the model's
choice, log 25. -/
def Obligations.LaneCompare : Prop :=
  (∀ (x : LaneResult) (s : State),
     s.clk.beats = true → s.clk.core = true → yardFenced s 2 = false → yardFenced s 3 = false →
     laneDisagree (advance (beatCycle s 656000) s) x = none →
     ∃ t, exec (.laneCompare x) s = .next t ∧ t.twin.lanes = true ∧ t.twin.item = 0xFF ∧
     t.twin.permit = (s.twin.cause == 0 && !s.twin.withdrawn) ∧ t.twin.holds = s.twin.holds ∧ t.regs = s.regs) ∧
  (∀ (x : LaneResult) (k : Nat) (s : State),
     s.clk.beats = true → s.clk.core = true → yardFenced s 2 = false → yardFenced s 3 = false → failSilent s = false →
     laneDisagree (advance (beatCycle s 656000) s) x = some k →
     ∃ t, exec (.laneCompare x) s = .next t ∧ failSilent t = true ∧ t.twin.cause = 1 ∧ t.twin.holds = false ∧
     t.twin.permit = false ∧ t.twin.lanes = false ∧ t.twin.item = k ∧ t.idReq = [] ∧ flag t 0x1404 0 = true ∧
     (s.power.mode = .run → fld t 0x1004 2 0 = 3))

/-- The comparison of units (15 R446, R448): equal output digests agree; a holder whose partner differs raises UNIT_DISAGREE
and goes on; a non-holder that differs enters re-mirror, withdraws its release and counts its agreeing beats from 0; three
of them end re-mirror. Where the rules leave a reading open, the clause states the model's choice, log 25. -/
def Obligations.UnitCompare : Prop :=
  (∀ (x : Exchange) (s : State),
     s.clk.beats = true → s.clk.core = true → failSilent s = false → partnerNow s = some x → x.outDig = s.twin.outDig →
     s.twin.remirror = false →
     ∃ t, exec (.interUnitCompare) s = .next t ∧ t.twin.units = true ∧ t.twin.lastAgree = s.clk.beat ∧
     t.twin.remirror = false ∧ t.twin.permit = s.twin.permit ∧ t.regs = s.regs) ∧
  (∀ (x : Exchange) (s : State),
     s.clk.beats = true → s.clk.core = true → failSilent s = false → partnerNow s = some x → x.outDig ≠ s.twin.outDig →
     actsAsHolder s x = true →
     ∃ t, exec (.interUnitCompare) s = .next t ∧ t.twin.units = false ∧ t.twin.remirror = false ∧
     t.twin.permit = s.twin.permit ∧ fld t 0x1405 15 0 = satAdd 16 (fld s 0x1405 15 0) 1 ∧ flag t 0x1404 1 = true) ∧
  (∀ (x : Exchange) (s : State),
     s.clk.beats = true → s.clk.core = true → failSilent s = false → partnerNow s = some x → x.outDig ≠ s.twin.outDig →
     actsAsHolder s x = false →
     ∃ t, exec (.interUnitCompare) s = .next t ∧ t.twin.units = false ∧ t.twin.remirror = true ∧ t.twin.count = 0 ∧
     t.twin.permit = false ∧ t.twin.withdrawn = true ∧ fld t 0x1405 15 0 = satAdd 16 (fld s 0x1405 15 0) 1) ∧
  (∀ (s : State), s.twin.remirror = true → 3 ≤ s.twin.count → failSilent s = false →
     ∃ t, exec (.remirrorExit) s = .next t ∧ t.twin.remirror = false ∧ t.twin.permit = s.twin.permit ∧
     (s.clk.core = true → flag t 0x1307 24 = true))

/-- The beat's messages (15 R442-R445, R453, R458): the exchange message carries the digest of the beat's frames, a lease
while the unit holds, and its CRC; one that arrives in RUN is kept as the partner's latest; the acknowledgment carries the
holder's lease back, and confirms it for the next beat edge; a message with a bad CRC is discarded and counted; the images
are sent by the holder while the link is UP. Where the rules leave a reading open, the clause states the model's choice, log
25. -/
def Obligations.ExchangeMessages : Prop :=
  (∀ (s : State), s.clk.beats = true → linkUsable s = true →
     ∃ t, exec (.exchangeSend) s = .next t ∧ t.twin.exchangeOut.length = 64 ∧ msgCrcOk t.twin.exchangeOut = true ∧
     byteAt t.twin.exchangeOut 0 = 1 ∧ leAt t.twin.exchangeOut 4 4 = s.clk.beat % 2 ^ 32 ∧
     leAt t.twin.exchangeOut 16 4 = t.twin.outDig % 2 ^ 32 ∧
     (failSilent s = false → s.twin.heldBeat = true → s.twin.handover = .idle → t.twin.sentLease = some (leaseEnd s.clk.beat 3))) ∧
  (∀ (c : Nat) (pair : Fin 2) (m : List Byte) (s : State),
     linkUsable s = true → s.power.mode ≠ .bringUp → s.clk.beats = true → msgCrcOk m = true → m.length = 64 →
     byteAt m 0 = 1 → byteAt m 1 % 2 ≠ unitNumber s → (∀ x, s.twin.partner = some x → x.beat ≠ leAt m 4 4) →
     ∃ t, exec (.partnerExchange c pair m) s = .next t ∧ t.twin.partner = some (exchangeOf m) ∧
     t.twin.msgEdge = some (beatAdd (leAt m 4 4) 1) ∧ (vget t.twin.pairs pair).seen = true ∧
     t.twin.pHolds = (byteAt m 1 / 2 % 2 == 1 && byteAt m 1 / 4 % 2 == 0)) ∧
  (∀ (c : Nat) (pair : Fin 2) (m : List Byte) (s : State), linkUsable s = true → msgCrcOk m = false →
     ∃ t, exec (.partnerExchange c pair m) s = .next t ∧ fld t 0x7404 15 0 = satAdd 16 (fld s 0x7404 15 0) 1 ∧
     flag t 0x7401 2 = true ∧ t.twin = s.twin) ∧
  (∀ (a b : Bool) (s : State),
     s.clk.beats = true → linkUsable s = true → s.twin.heldBeat = false → failSilent s = false →
     ∃ t, exec (.mirrorAckSend a b) s = .next t ∧ t.twin.ackOut.length = 16 ∧ msgCrcOk t.twin.ackOut = true ∧
     byteAt t.twin.ackOut 0 = 2 ∧ byteAt t.twin.ackOut 1 / 2 % 2 = b2n a ∧ byteAt t.twin.ackOut 1 / 4 % 2 = b2n b ∧
     leAt t.twin.ackOut 4 4 = s.clk.beat % 2 ^ 32 ∧
     (∀ x, partnerOfBeat s = some x → leAt t.twin.ackOut 8 4 = x.lease % 2 ^ 32)) ∧
  (∀ (c : Nat) (pair : Fin 2) (m : List Byte) (l : Nat) (s : State),
     linkUsable s = true → s.clk.beats = true → s.twin.heldBeat = true → failSilent s = false → c ≤ beatCycle s 759999 →
     msgCrcOk m = true → m.length = 16 → byteAt m 0 = 2 → byteAt m 1 % 2 ≠ unitNumber s → leAt m 4 4 = s.clk.beat →
     s.twin.sentLease = some l → leAt m 8 4 = l →
     ∃ t, exec (.partnerAck c pair m) s = .next t ∧ t.twin.lcNext = s.twin.lcNext ++ [(beatAdd s.clk.beat 1, l)] ∧
     (byteAt m 1 / 8 % 2 = 1 → s.twin.handover = .offered s.clk.beat → t.twin.handover = .accepted s.clk.beat)) ∧
  (∀ (s : State), s.clk.beats = true → s.clk.core = true →
     ∃ t, exec (.mirrorSend) s = .next t ∧ t.twin.mirrorDue = (linkState s == 0 && linkUsable s) ∧
     t.twin.mirrorOut = (s.twin.heldBeat && s.twin.holds && !failSilent s && (linkState s == 0 && linkUsable s)) ∧
     t.free = s.free + 1)

/-- The non-holder (15 R447, R449, R450). Each clause says that its row completes, for every state and operands with the
conditions that the rule names. It adopts a mirror that is due, complete and good, whose estimator, allocation result,
thruster states and streak it then has where no forwarded commit or transition of the cycles after the images is applied
again; a due mirror that is not adopted changes none of them and is counted. A forwarded request with status OK is applied
as a class 2 commit of its port, here in a cycle in which nothing else commits; one that comes in cycles 0 to 1 031 of the
following beat goes into the setting snapshot too, and one after that is counted as late; one with another status applies
nothing. A forwarded axis transition gives the axis its state, code and pending flag. Where the rules leave a reading open,
the clause states the model's choice, log 25. -/
def Obligations.MirrorAndForwarded : Prop :=
  (∀ (x : MirrorRx) (s : State),
     s.clk.beats = true → s.clk.core = true → s.twin.heldBeat = false → failSilent s = false → mirrorIsDue s = true →
     x.complete = true → x.good = true → s.clk.cycle ≤ beatCycle s 759999 → s.arb.cycle < beatCycle s 759999 →
     ∃ t, exec (.mirrorAdoption x) s = .next t ∧ t.twin.adopted = true ∧ t.twin.joinWait = false ∧
     (s.twin.late = [] → s.twin.lateAxis = [] → t.fus = x.image.fus ∧ t.alc.res = x.image.held ∧ t.alc.thr = x.image.thr ∧
         t.alc.streak = x.image.streak)) ∧
  (∀ (x : MirrorRx) (s : State),
     s.clk.beats = true → s.clk.core = true → s.twin.heldBeat = false → failSilent s = false → mirrorIsDue s = true →
     x.complete = false ∨ x.good = false →
     ∃ t, exec (.mirrorAdoption x) s = .next t ∧ t.twin.adopted = s.twin.adopted ∧ t.fus = s.fus ∧ t.alc = s.alc ∧
     t.servo = s.servo ∧ fld t 0x1406 15 0 = satAdd 16 (fld s 0x1406 15 0) 1 ∧ flag t 0x1404 5 = true) ∧
  (∀ (c : Nat) (x : CommitMarker) (o : OpSpec) (s : State),
     s.twin.holds = false → failSilent s = false → s.power.mode = .run → s.clk.beats = true → linkUsable s = true →
     x.status = stOk → forwardSpec x.opcode.toNat = some o → s.arb.cycle ≠ (advance c s).clk.cycle →
     beatDiff s.clk.beat x.beat ≤ 0 →
     ∃ t, exec (.commitMarker c x) s = .next t ∧
     t.regs = (commitPoison o x.port x.payload (noteCommit 2 2 (commitTargets o x.payload (advance c s)) (advance c
         s))).state.regs ∧
     t.ctl = (commitPoison o x.port x.payload (noteCommit 2 2 (commitTargets o x.payload (advance c s)) (advance c
         s))).state.ctl ∧
     t.servo = (commitPoison o x.port x.payload (noteCommit 2 2 (commitTargets o x.payload (advance c s)) (advance c
         s))).state.servo ∧
     t.alc = (commitPoison o x.port x.payload (noteCommit 2 2 (commitTargets o x.payload (advance c s)) (advance c
         s))).state.alc ∧
     t.fus = (commitPoison o x.port x.payload (noteCommit 2 2 (commitTargets o x.payload (advance c s)) (advance c
         s))).state.fus) ∧
  (∀ (c : Nat) (x : CommitMarker) (s : State),
     s.twin.holds = false → failSilent s = false → s.power.mode = .run → s.clk.beats = true → linkUsable s = true →
     beatDiff s.clk.beat x.beat = 1 → (advance c s).clk.cycle - s.clk.beatBase ≤ 1031 →
     ∃ t, exec (.commitMarker c x) s = .next t ∧ t = applyLateMarker x (advance c s)) ∧
  (∀ (c : Nat) (x : CommitMarker) (s : State),
     s.twin.holds = false → failSilent s = false → s.power.mode = .run → s.clk.beats = true → linkUsable s = true →
     1 ≤ beatDiff s.clk.beat x.beat → 2 ≤ beatDiff s.clk.beat x.beat ∨ 1031 < (advance c s).clk.cycle - s.clk.beatBase →
     ∃ t, exec (.commitMarker c x) s = .next t ∧ flag t 0x1404 6 = true ∧
     (x.status ≠ stOk → t.ctl = s.ctl ∧ fld t 0x1408 15 0 = satAdd 16 (fld s 0x1408 15 0) 1)) ∧
  (∀ (c : Nat) (x : CommitMarker) (s : State),
     s.twin.holds = false → failSilent s = false → s.power.mode = .run → s.clk.beats = true → linkUsable s = true →
     x.status ≠ stOk → beatDiff s.clk.beat x.beat ≤ 0 →
     ∃ t, exec (.commitMarker c x) s = .next t ∧ t.regs = s.regs ∧ t.ctl = s.ctl ∧ t.servo = s.servo ∧ t.alc = s.alc ∧
     t.fus = s.fus) ∧
  (∀ (c : Nat) (a : Fin 48) (x : AxisForward) (s : State),
     s.twin.holds = false → failSilent s = false → s.power.mode = .run → s.clk.beats = true → linkUsable s = true →
     linkState s ≠ 2 →
     ∃ t, exec (.forwardedAxisTransition c a x) s = .next t ∧ (axisAt t a.val).state = x.state ∧
     (axisAt t a.val).code = x.code ∧ (axisAt t a.val).pend = x.pending ∧
     (x.event = some (80, 4) → s.clk.core = true → flag t 0x1306 16 = true))

/-- The fibre pairs and beat alignment (15 R441, 02 R67-R70): a pair that loses alignment is lost, and FJ_STATE shows it;
100 good beats regain it; the partner's beat marker leaves its crossing; a follower steers by the skew it registers, counts
an absent marker, and freezes its steering after three. Where the rules leave a reading open, the clause states the model's
choice, log 25. -/
def Obligations.LinkAndAlignment : Prop :=
  (∀ (c : Nat) (pair : Fin 2) (w : PairLoss) (s : State),
     s.clk.core = true → yardFenced s 7 = false → w = .align → (vget s.twin.pairs pair).up = true →
     ∃ t, exec (.fjPairLost c pair w) s = .next t ∧ (vget t.twin.pairs pair).up = false ∧
     (vget t.twin.pairs pair).good = 0 ∧ fld t 0x7400 1 0 = linkState s + 1 ∧ flag t 0x7400 (2 + pair.val) = false ∧
     flag t 0x7401 pair.val = true ∧ t.idReq = []) ∧
  (∀ (c : Nat) (pair : Fin 2) (w : PairLoss) (n : Nat) (s : State),
     s.clk.core = true → yardFenced s 7 = false → w = .codes n → n < 16 →
     ∃ t, exec (.fjPairLost c pair w) s = .next t ∧
     fld t (0x7402 + pair.val) 15 0 = satAdd 16 (fld s (0x7402 + pair.val) 15 0) n ∧ t.twin = s.twin) ∧
  (∀ (c : Nat) (pair : Fin 2) (s : State),
     (vget s.twin.pairs pair).up = false → 100 ≤ (vget s.twin.pairs pair).good → yardFenced s 7 = false →
     ∃ t, exec (.fjPairRegained c pair) s = .next t ∧ (vget t.twin.pairs pair).up = true ∧
     flag t 0x7400 (2 + pair.val) = true) ∧
  (∀ (c : Nat) (pair : Fin 2) (m : BeatMarkerMsg) (s : State),
     linkUsable s = true → m.crcOk = true → m.unit % 2 ≠ unitNumber s → s.power.mode ≠ .bringUp → s.clk.beats = true →
     (∀ x, s.twin.marker = some x → x.1 ≠ m.beat) →
     ∃ t, exec (.beatMarker c pair m) s = .next t ∧ t.twin.marker = some (m.beat, c) ∧
     t.twin.interval = some (m.beat, (c : Int) - edgeOf s m.beat) ∧ (vget t.twin.pairs pair).seen = true ∧
     (fld s 0x1102 1 0 = 0 → fld t 0x1102 1 0 = 1)) ∧
  (∀ (x : Nat × Nat) (s : State),
     let k := (x.2 : Int) - (s.twin.oneWay + markerFixed : Nat) - s.clk.beatBase
     s.clk.beats = true → s.clk.core = true → 2 ≤ fld s 0x1102 1 0 → s.twin.marker = some x → x.1 = s.clk.beat →
     ∃ t, exec (.skewRegister) s = .next t ∧ fld t 0x1103 15 0 = twosOf 16 (clampI (-32767) 32767 k) ∧
     fld t 0x1104 15 0 = twosOf 16 (steerOf (signedOf 16 (fld s 0x1104 15 0)) s.twin.skewPrev k) ∧ fld t 0x1102 1 0 = 2 ∧
     t.twin.missed = 0 ∧ t.twin.skewPrev = some k) ∧
  (∀ (s : State),
     s.clk.beats = true → s.clk.core = true → 2 ≤ fld s 0x1102 1 0 → (∀ x, s.twin.marker = some x → x.1 ≠ s.clk.beat) →
     ∃ t, exec (.skewRegister) s = .next t ∧ t.twin.missed = s.twin.missed + 1 ∧ t.regs = s.regs) ∧
  (∀ (s : State), 3 ≤ s.twin.missed → fld s 0x1102 1 0 = 2 →
     ∃ t, exec (.markerLoss) s = .next t ∧ fld t 0x1102 1 0 = 3 ∧ fld t 0x1104 15 0 = fld s 0x1104 15 0 ∧
     t.twin.skewPrev = none)

/-- The halter and presence (15 R453, R454, R457, R459, R460, 13 R400): a unit takes the halter by expiry past the partner's
lease end, or alone when its wait is over; a holder without a confirmed lease drops it; a take or a loss counts in
HALTER_COUNT; a request lapses after 100 beats; presence follows the messages, of which a valid heartbeat is one. Where the
rules leave a reading open, the clause states the model's choice, log 25. -/
def Obligations.HalterEvents : Prop :=
  (∀ (s : State), s.clk.beats = true → inRun s = true → mayExpire s.clk.beat s = true →
     ∃ t, exec (.halterExpiryTake) s = .next t ∧ t.twin.holds = true ∧ t.twin.lc = some (leaseEnd s.clk.beat 2) ∧
     t.twin.handover = .idle ∧ fld t 0x1407 15 0 = satAdd 16 (fld s 0x1407 15 0) 1 ∧ flag t 0x1404 2 = true) ∧
  (∀ (s : State), s.clk.beats = true → s.twin.holds = true → (∀ x, s.twin.lc = some x → 0 ≤ beatDiff s.clk.beat x) →
     ∃ t, exec (.halterLeaseLapse) s = .next t ∧ t.twin.holds = false ∧ t.twin.lc = none ∧
     t.twin.lp = laterLease s.twin.lp (leaseEnd s.clk.beat 3) ∧ t.twin.barred = true ∧
     fld t 0x1407 15 0 = satAdd 16 (fld s 0x1407 15 0) 1 ∧ flag t 0x1404 3 = true) ∧
  (∀ (k : Nat) (s : State),
     s.clk.beats = true → inRun s = true → s.twin.holds = false → failSilent s = false → s.twin.lp = none →
     s.twin.aloneFrom = some k → (fld s 0x1400 15 8 : Int) * (1 + unitNumber s) ≤ beatDiff s.clk.beat k →
     ∃ t, exec (.aloneWaitExpiry) s = .next t ∧ t.twin.holds = true ∧ t.twin.lc = some (leaseEnd s.clk.beat 2) ∧
     t.twin.aloneFrom = none ∧ fld t 0x1407 15 0 = satAdd 16 (fld s 0x1407 15 0) 1) ∧
  (∀ (k : Nat) (s : State), s.twin.request = some k → 100 ≤ beatDiff s.clk.beat k →
     ∃ t, exec (.halterRequestExpiry) s = .next t ∧ t.twin = { s.twin with request := none }) ∧
  (∀ (s : State), s.clk.beats = true → s.clk.core = true → presentAt s.clk.beat s ≠ s.twin.present →
     ∃ t, exec (.partnerPresence) s = .next t ∧ t.twin = { s.twin with present := presentAt s.clk.beat s } ∧
     (s.twin.present = true → flag t 0x1404 4 = true) ∧ flag t 0x1307 26 = true) ∧
  (∀ (c : Nat) (bus : Fin 4) (f : CanFrame) (s : State),
     flag s (canId bus.val 0) 14 = true → canHears s bus = true → f.remote = false → s.power.mode ≠ .bringUp →
     s.clk.beats = true → frameIdWord f = rd s (canId bus.val 5) + BitVec.ofNat 32 (1 - unitNumber s) → f.fd = true →
     f.data.length = 16 → byteAt f.data 0 = 1 → frameCrc (f.data.take 14) = leAt f.data 14 2 →
     byteAt f.data 1 % 2 ≠ unitNumber s →
     ∃ t, exec (.partnerHeartbeat c bus f) s = .next t ∧ vget t.twin.hbEdge bus = some (beatAdd s.clk.beat 1) ∧
     t.twin.hbBeat = some (leAt f.data 4 4) ∧ t.twin.pHolds = (byteAt f.data 1 / 2 % 2 == 1) ∧ t.twin.barred = false ∧
     t.twin.aloneFrom = none)

/-- The CAN controllers (13 R383, R388-R392): an acknowledged frame lowers the transmit error count by one and ends ALONE,
unless transmitter delay compensation is on and the measured delay with its offset exceeds 255 cycles, which is an error at
the ESI bit (R381); an acknowledgment error raises it by 8, unless the controller is error-passive; a clash raises it by 8,
enters the identifier, and disables it at the third clash within 100 beats; a bus error is counted; recovery ends bus-off
with both counts 0; a controller joins its bus, and an enable or disable takes effect at the beat edge; a valid frame is
counted and lowers the receive error count, and a remote frame is counted and set sticky. Where the rules leave a reading
open, the clause states the model's choice, log 24. -/
def Obligations.CanControllers : Prop :=
  (∀ (c : Nat) (bus : Fin 4) (d : Nat) (e : TxEntry) (s : State),
     canSends s bus = true → offered (canAt s bus.val) = some e →
     e.fd = false ∨ sflag s (canId bus.val 0) 4 = false ∨ d + sfld s (canId bus.val 3) 6 0 ≤ 255 →
     ∃ t, exec (.canTxComplete c bus d) s = .next t ∧ (canAt t bus.val).tec = (canAt s bus.val).tec - 1 ∧
     (canAt t bus.val).noAck = 0 ∧ (canAt t bus.val).alone = false ∧
     (canAt t bus.val).queue = (takeOffered (canAt s bus.val)).queue ∧
     fld t (canId bus.val 0x20) 31 0 = satAdd 32 (fld s (canId bus.val 0x20) 31 0) 1) ∧
  (∀ (c : Nat) (bus : Fin 4) (d : Nat) (e : TxEntry) (s : State),
     canSends s bus = true → offered (canAt s bus.val) = some e → e.fd = true → sflag s (canId bus.val 0) 4 = true →
     255 < d + sfld s (canId bus.val 3) 6 0 → (canAt s bus.val).tec + 8 ≤ 255 →
     ∃ t, exec (.canTxComplete c bus d) s = .next t ∧ (canAt t bus.val).tec = (canAt s bus.val).tec + 8 ∧
     (canAt t bus.val).lastErr = (if passive (canAt s bus.val) then 4 else 5) ∧ (canAt t bus.val).tdcv = d ∧
     fld t (canId bus.val 0x22) 15 0 = satAdd 16 (fld s (canId bus.val 0x22) 15 0) 1) ∧
  (∀ (c : Nat) (bus : Fin 4) (e : TxEntry) (s : State),
     canSends s bus = true → offered (canAt s bus.val) = some e → passive (canAt s bus.val) = false →
     (canAt s bus.val).tec + 8 ≤ 255 →
     ∃ t, exec (.canAckError c bus) s = .next t ∧ (canAt t bus.val).tec = (canAt s bus.val).tec + 8 ∧
     (canAt t bus.val).lastErr = 3 ∧ (canAt t bus.val).noAck = min 16 ((canAt s bus.val).noAck + 1) ∧
     fld t (canId bus.val 0x22) 15 0 = satAdd 16 (fld s (canId bus.val 0x22) 15 0) 1) ∧
  (∀ (c : Nat) (bus : Fin 4) (e : TxEntry) (s : State),
     canSends s bus = true → offered (canAt s bus.val) = some e → (enterClash bus.val e (advance c s)).2.2 = false →
     (canAt s bus.val).tec + 8 ≤ 255 →
     ∃ t, exec (.canClash c bus) s = .next t ∧ (canAt t bus.val).tec = (canAt s bus.val).tec + 8 ∧
     (canAt t bus.val).lastErr = 4 ∧ idDisabled (canAt t bus.val) e.id e.ext = idDisabled (canAt s bus.val) e.id e.ext ∧
     fld t (canId bus.val 0x23) 15 0 = satAdd 16 (fld s (canId bus.val 0x23) 15 0) 1 ∧ flag t (canId bus.val 9) 3 = true) ∧
  (∀ (c : Nat) (bus : Fin 4) (e : TxEntry) (s : State),
     canSends s bus = true → offered (canAt s bus.val) = some e → (enterClash bus.val e (advance c s)).2.2 = true →
     ∃ t, exec (.canClash c bus) s = .next t ∧ idDisabled (canAt t bus.val) e.id e.ext = true ∧
     (∀ x ∈ (canAt t bus.val).queue, x.id ≠ e.id ∨ x.ext ≠ e.ext) ∧ flag t (canId bus.val 9) 4 = true) ∧
  (∀ (c : Nat) (bus : Fin 4) (x : CanError) (s : State),
     canHears s bus = true → listenOnly s bus.val = false → x.sent = false →
     ∃ t, exec (.canBusError c bus x) s = .next t ∧
     (canAt t bus.val).rec_ = min 255 ((canAt s bus.val).rec_ + if x.dominant then 8 else 1) ∧
     (canAt t bus.val).lastErr = x.code.val ∧ (canAt t bus.val).tec = (canAt s bus.val).tec ∧
     fld t (canId bus.val 0x22) 15 0 = satAdd 16 (fld s (canId bus.val 0x22) 15 0) 1) ∧
  (∀ (c : Nat) (bus : Fin 4) (s : State), (vget s.can bus).busOff = true → blockDown s 7 bus.val = false →
     ∃ t, exec (.canBusOffRecovery c bus) s = .next t ∧
     vget t.can bus = { vget s.can bus with busOff := false, integ := false, tec := 0, rec_ := 0 }) ∧
  (∀ (c : Nat) (bus : Fin 4) (s : State), (vget s.can bus).integ = true → (vget s.can bus).busOff = false →
     ∃ t, exec (.canIntegrationDone c bus) s = .next t ∧ vget t.can bus = { vget s.can bus with integ := false } ∧
     t.regs = s.regs) ∧
  (∀ (bus : Fin 4) (w : Bool) (s : State),
     s.clk.beats = true → sflag s (canId bus.val 0) 0 = true → (vget s.can bus).on = false → blockDown s 7 bus.val = false →
     ∃ t, exec (.canEnableEffect bus w) s = .next t ∧ (vget t.can bus).on = true ∧ (vget t.can bus).integ = true ∧
     (vget t.can bus).busOff = false ∧ (vget t.can bus).tec = 0 ∧ (vget t.can bus).rec_ = 0 ∧ (vget t.can bus).queue = [] ∧
     (vget t.can bus).table = (vget s.can bus).table) ∧
  (∀ (bus : Fin 4) (w : Bool) (s : State),
     s.clk.beats = true → sflag s (canId bus.val 0) 0 = false → (vget s.can bus).on = true → w = false →
     ∃ t, exec (.canEnableEffect bus w) s = .next t ∧ (vget t.can bus).on = false ∧ (vget t.can bus).queue = []) ∧
  (∀ (c : Nat) (bus : Fin 4) (f : CanFrame) (s : State),
     canHears s bus = true → listenOnly s bus.val = false → (canAt s bus.val).rec_ ≤ 127 →
     ∃ t, exec (.canFrameReceived c bus f) s = .next t ∧ (canAt t bus.val).rec_ = (canAt s bus.val).rec_ - 1 ∧
     fld t (canId bus.val 0x21) 31 0 = satAdd 32 (fld s (canId bus.val 0x21) 31 0) 1 ∧
     (canAt t bus.val).remote = (if f.remote then satAdd 16 (canAt s bus.val).remote 1 else (canAt s bus.val).remote) ∧
     (f.remote = true → flag t (canId bus.val 9) 7 = true) ∧ t.free = s.free) ∧
  (∀ (c : Nat) (bus : Fin 4) (f : CanFrame) (s : State),
     canHears s bus = true → listenOnly s bus.val = false → 127 < (canAt s bus.val).rec_ →
     ∃ t, exec (.canFrameReceived c bus f) s = .next t ∧ 119 ≤ (canAt t bus.val).rec_ ∧ (canAt t bus.val).rec_ ≤ 127 ∧
     t.free = s.free + 1)

/-- The Ethernet ports (14 R407-R411, R436): a lost or gained link is shown and raises ETH_LINK; an acceptable frame is
counted, one with a bad FCS is discarded and counted, one that meets a full buffer is dropped with ETH_STICKY bit 1; ARP,
echo and membership queries for the port's address are answered; the frame at the head of the queue leaves and is counted.
Where the rules leave a reading open, the clause states the model's choice, log 33. -/
def Obligations.EthernetPorts : Prop :=
  (∀ (c : Nat) (e : Fin 2) (u : Bool) (s : State), flag s (ethId e 5) 0 ≠ u →
     ∃ t, exec (.ethLinkChange c e u) s = .next t ∧ flag t (ethId e 5) 0 = u ∧ (u = false → flag t (ethId e 6) 0 = true) ∧
     (s.clk.core = true → flag t 0x1307 20 = true)) ∧
  (∀ (c : Nat) (e : Fin 2) (f : EthFrame) (s : State),
     ethOn s e = true → f.length ≤ 1518 → f.vlan = false → f.fcsOk = true → ethAccepts s e f.dest = true → f.held < 32 →
     f.sumsOk = true → f.fragOther = false →
     ∃ t, exec (.ethFrameRx c e f) s = .next t ∧ fld t (ethId e 7) 31 0 = satAdd 32 (fld s (ethId e 7) 31 0) 1 ∧
     fld t (ethId e 9) 15 0 = fld s (ethId e 9) 15 0) ∧
  (∀ (c : Nat) (e : Fin 2) (f : EthFrame) (s : State),
     ethOn s e = true → 1518 < f.length ∨ f.vlan = true ∨ f.fcsOk = false →
     ∃ t, exec (.ethFrameRx c e f) s = .next t ∧ fld t (ethId e 9) 15 0 = satAdd 16 (fld s (ethId e 9) 15 0) 1 ∧
     fld t (ethId e 7) 31 0 = fld s (ethId e 7) 31 0 ∧ t.ev = s.ev) ∧
  (∀ (c : Nat) (e : Fin 2) (f : EthFrame) (s : State),
     ethOn s e = true → f.length ≤ 1518 → f.vlan = false → f.fcsOk = true → ethAccepts s e f.dest = true → 32 ≤ f.held →
     ∃ t, exec (.ethFrameRx c e f) s = .next t ∧ fld t (ethId e 9) 15 0 = satAdd 16 (fld s (ethId e 9) 15 0) 1 ∧
     flag t (ethId e 6) 1 = true ∧ fld t (ethId e 7) 31 0 = fld s (ethId e 7) 31 0) ∧
  (∀ (c : Nat) (e : Fin 2) (a ip : Word) (mac : BitVec 48) (s : State),
     ethOn s e = true → a ≠ 0 → rd s (ethId e 1) = a →
     ∃ t, exec (.arpRequest c e a ip mac) s = .next t ∧
     (vget t.eth e).txq = (vget s.eth e).txq ++ [((advance c s).clk.cycle, .arp ip mac)] ∧ t.regs = s.regs) ∧
  (∀ (c : Nat) (p : Peer) (a : Word) (d : List Byte) (s : State),
     ethOn s p.eth = true → flag s (ethId p.eth 0) 1 = true → a ≠ 0 → rd s (ethId p.eth 1) = a → d.length ≤ 1472 →
     ∃ t, exec (.icmpEcho c p a d) s = .next t ∧
     (vget t.eth p.eth).txq = (vget s.eth p.eth).txq ++ [((advance c s).clk.cycle, .echo p d)] ∧ t.regs = s.regs) ∧
  (∀ (c : Nat) (e : Fin 2) (g : Option (Fin 16)) (s : State), ethOn s e = true → rd s (ethId e 1) ≠ 0 →
     ∃ t, exec (.igmpQuery c e g) s = .next t ∧
     (vget t.eth e).txq = (vget s.eth e).txq ++ ((joinedGroups s e).filter fun x => g.isNone || g.map (·.val) == some x).map
         (fun x => ((advance c s).clk.cycle, .igmpReport x)) ∧
     t.regs = s.regs) ∧
  (∀ (c : Nat) (e : Fin 2) (x : Nat × EthTx) (l : List (Nat × EthTx)) (s : State), (vget s.eth e).txq = x :: l →
     ∃ t, exec (.ethFrameTx c e) s = .next t ∧ (vget t.eth e).txq = l ∧
     fld t (ethId e 8) 31 0 = satAdd 32 (fld s (ethId e 8) 31 0) 1 ∧
     (∀ d q, x.2 = .delayReq d q → ∀ y, (vget s.time.slot d).req = some y → y.seq = q → (vget t.time.slot d).req = some
         { y with t3 := some (slotNsAt (advance c s) d (advance c s).clk.cycle + (fld s (ethId e 4) 31 16 : Int)) }))

/-- PTP (14 R418, R419): an Announce enters its transmitter, of which the best qualified one becomes the parent; a message
of a wrong format is counted; a two-step Sync waits for its Follow_Up, which is used only with the same sequence number
within 10 000 000 cycles; a Delay_Resp to the slot's own request gives one path sample; a Delay_Req leaves in its beat; a
parent that falls silent for three intervals is dropped. Where the rules leave a reading open, the clause states the model's
choice, log 33. -/
def Obligations.PtpMessages : Prop :=
  (∀ (c : Nat) (e d : Fin 2) (m : AnnounceMsg) (s : State),
     ptpHears s d e m.transport = true → m.formatOk = true → m.domain = slotDomain s d →
     ∃ t, exec (.ptpAnnounce c e d m) s = .next t ∧
     (vget t.time.slot d).parent = bestForeign (advance c s).clk.cycle (vget t.time.slot d).foreign ∧
     (vget t.time.slot d).foreign.head? = some ⟨m, e, (advance c s).clk.cycle, ((vget s.time.slot d).foreign.find?
         (sameForeign ⟨m, e, 0, none⟩)).map (·.latest)⟩) ∧
  (∀ (c : Nat) (e d : Fin 2) (m : AnnounceMsg) (s : State), ptpHears s d e m.transport = true → m.formatOk = false →
     ∃ t, exec (.ptpAnnounce c e d m) s = .next t ∧ fld t (slotId d 10) 31 16 = satAdd 16 (fld s (slotId d 10) 31 16) 1 ∧
     t.time = s.time) ∧
  (∀ (c : Nat) (d : Fin 2) (x : Foreign) (s : State),
     (vget s.time.slot d).parent = some x → x.latest + 3 * logCycles x.ann.logInt ≤ (advance c s).clk.cycle →
     ∃ t, exec (.announceTimeout c d) s = .next t ∧
     (vget t.time.slot d).foreign = (vget s.time.slot d).foreign.filter (fun g => !sameForeign x g) ∧
     (vget t.time.slot d).parent = bestForeign (advance c s).clk.cycle ((vget s.time.slot d).foreign.filter (fun g =>
         !sameForeign x g))) ∧
  (∀ (c : Nat) (e d : Fin 2) (m : PtpMsg) (s : State),
     ptpHears s d e m.transport = true → m.formatOk = true → m.domain = slotDomain s d →
     fromParent (vget s.time.slot d) e m = true → m.twoStep = true →
     ∃ t, exec (.ptpSync c e d m) s = .next t ∧
     (vget t.time.slot d).sync = some ⟨m.seq, (advance c s).clk.cycle, slotNsAt (advance c s) d m.stamp - (fld s (ethId e 4)
         15 0 : Int), m.corr⟩ ∧
     (vget t.time.slot d).diff = (vget s.time.slot d).diff) ∧
  (∀ (c : Nat) (e d : Fin 2) (m : PtpMsg) (p : PendingSync) (s : State),
     ptpHears s d e m.transport = true → m.formatOk = true → m.domain = slotDomain s d →
     fromParent (vget s.time.slot d) e m = true → (vget s.time.slot d).sync = some p → p.seq = m.seq →
     (advance c s).clk.cycle ≤ p.cross + 10000000 →
     ∃ t, exec (.ptpFollowUp c e d m) s = .next t ∧ (vget t.time.slot d).diff = some (p.t2 - m.time - p.corr - m.corr) ∧
     (vget t.time.slot d).sync = none) ∧
  (∀ (c : Nat) (e d : Fin 2) (m : PtpMsg) (p : PendingSync) (s : State),
     ptpHears s d e m.transport = true → m.formatOk = true → m.domain = slotDomain s d →
     fromParent (vget s.time.slot d) e m = true → (vget s.time.slot d).sync = some p →
     p.seq ≠ m.seq ∨ p.cross + 10000000 < (advance c s).clk.cycle →
     ∃ t, exec (.ptpFollowUp c e d m) s = .next t ∧ t.time = s.time ∧ t.regs = s.regs) ∧
  (∀ (c : Nat) (e d : Fin 2) (m : PtpMsg) (q : DelayReq) (x y : Int) (s : State),
     ptpHears s d e m.transport = true → m.formatOk = true → m.domain = slotDomain s d →
     fromParent (vget s.time.slot d) e m = true → m.toSlot = true → (vget s.time.slot d).req = some q → q.seq = m.seq →
     q.t3 = some x → (vget s.time.slot d).diff = some y →
     ∃ t, exec (.ptpDelayResp c e d m) s = .next t ∧
     (vget t.time.slot d).paths = (floorDiv (y + (m.time - x - m.corr)) 2 :: (vget s.time.slot d).paths).take 8 ∧
     (vget t.time.slot d).req = none ∧ (vget t.time.slot d).interval = m.logMin ∧
     (vget t.time.slot d).respAt = some (advance c s).clk.cycle) ∧
  (∀ (d : Fin 2) (n : Nat) (x : Foreign) (s : State),
     (vget s.time.slot d).parent = some x → (vget s.time.slot d).reqBeat = some s.clk.beat → s.clk.beats = true →
     ∃ t, exec (.delayReqSend d n) s = .next t ∧ (vget t.time.slot d).req = some ⟨(vget s.time.slot d).reqSeq, none⟩ ∧
     (vget t.time.slot d).reqSeq = ((vget s.time.slot d).reqSeq + 1) % 65536 ∧
     (∃ k, (vget t.time.slot d).reqBeat = some k ∧ s.clk.beat < k ∧ k ≤ s.clk.beat + max 1 (2 * (logCycles (vget s.time.slot
         d).interval / 1000000))))

/-- The time slots (14 R421-R423, R425-R427, R429): the end of a run of 10 s locks a slot within 50 µs, and otherwise leaves
a step that waits; a second without a measurement is HOLDOVER, 600 s of it FREE_RUN; a step locks; a held switch difference,
and a slewed one, end at 0; automatic switching selects the slot that alone is LOCKED; a leap second changes the UTC offset;
PPS_OUT has the width of its TIME_Q and ends. Where the rules leave a reading open, the clause states the model's choice,
log 33. -/
def Obligations.TimeSlots : Prop :=
  (∀ (d : Fin 2) (r : AcqRun) (s : State),
     (vget s.time.slot d).run = some r → (advance (r.start + 1000000000) s).clk.cycle < r.latest + 100000000 →
     r.start + 1000000000 ≤ (advance (r.start + 1000000000) s).clk.cycle → (vget s.time.slot d).state ≠ 3 →
     r.theta.natAbs ≤ 50000 →
     ∃ t, exec (.acquisitionRunEnd d) s = .next t ∧ (vget t.time.slot d).state = 0 ∧ (vget t.time.slot d).run = none ∧
     (vget t.time.slot d).ppb = clampI (-200000000000) 200000000000 (runSlope r) ∧
     (vget t.time.slot d).step = (vget s.time.slot d).step) ∧
  (∀ (d : Fin 2) (r : AcqRun) (s : State),
     (vget s.time.slot d).run = some r → (advance (r.start + 1000000000) s).clk.cycle < r.latest + 100000000 →
     r.start + 1000000000 ≤ (advance (r.start + 1000000000) s).clk.cycle →
     (vget s.time.slot d).state = 3 ∨ 50000 < r.theta.natAbs →
     ∃ t, exec (.acquisitionRunEnd d) s = .next t ∧ (vget t.time.slot d).state = (vget s.time.slot d).state ∧
     (vget t.time.slot d).run = none ∧ (vget t.time.slot d).step = some (r.theta, r.latest, runSlope r)) ∧
  (∀ (d : Fin 2) (r : AcqRun) (s : State), (vget s.time.slot d).run = some r →
     ∃ t, exec (.acquisitionRunBreak d) s = .next t ∧ (vget t.time.slot d).run = none ∧
     (vget t.time.slot d).state = (vget s.time.slot d).state) ∧
  (∀ (d : Fin 2) (s : State), (vget s.time.slot d).state = 0 →
     ∃ t, exec (.slotHoldover d) s = .next t ∧ (vget t.time.slot d).state = 1 ∧
     (vget t.time.slot d).rate = rateUnits (-(vget s.time.slot d).ppb) ∧ flag t 0x7206 2 = true) ∧
  (∀ (d : Fin 2) (s : State), (vget s.time.slot d).state = 1 →
     ∃ t, exec (.slotFreeRun d) s = .next t ∧ (vget t.time.slot d).state = 2 ∧
     (vget t.time.slot d).rate = rateUnits (-(vget s.time.slot d).ppb) ∧ flag t 0x7206 3 = true) ∧
  (∀ (c : Nat) (d : Fin 2) (x : Int × Nat × Int) (s : State),
     (vget s.time.slot d).step = some x → atWholeSecond (advance c s) (slotTime (advance c s) d) = true →
     ∃ t, exec (.slotStep c d) s = .next t ∧ (vget t.time.slot d).state = 0 ∧ (vget t.time.slot d).step = none ∧
     (vget t.time.slot d).off = (vget s.time.slot d).off - (x.1 * 2 ^ 32 + floorDiv (x.2.2 * (10 * (((advance c s).clk.cycle
         : Int) - x.2.1)) * 2 ^ 32) (10 ^ 15)) ∧
     (s.time.active = d → flag t 0x7206 0 = true ∧ t.time.stepped = some (advance c s).clk.cycle)) ∧
  (∀ (c : Nat) (b : Fin 2) (s : State),
     flag s 0x7200 1 = true → (vget s.time.slot s.time.active).state ≠ 0 → b ≠ s.time.active →
     (vget s.time.slot b).state = 0 →
     ∃ t, exec (.timeSwitchAuto c) s = .next t ∧ t.time.active = b ∧ flag t 0x7206 1 = true ∧
     reported t = reported (advance c s)) ∧
  (∀ (c : Nat) (s : State),
     s.time.held = true → atWholeSecond (advance c s) (slotTime (advance c s) s.time.active) = true →
     ∃ t, exec (.switchStep c) s = .next t ∧ t.time.held = false ∧ t.time.sigma = 0 ∧ flag t 0x7206 0 = true ∧
     reported t = slotTime (advance c s) s.time.active) ∧
  (∀ (c : Nat) (s : State), s.time.held = false → sigmaNow (advance c s) = 0 →
     ∃ t, exec (.switchSlewEnd c) s = .next t ∧ t.time.sigma = 0 ∧ reported t = reported (advance c s)) ∧
  (∀ (c : Nat) (x : Int × Int) (s : State), s.time.leap = some x → x.1 ≤ reportedSec (advance c s) →
     ∃ t, exec (.leapSecond c) s = .next t ∧ t.time.utc = s.time.utc + x.2 ∧ t.time.leap = none ∧
     reported t = reported (advance c s)) ∧
  (∀ (c : Nat) (w : Nat) (s : State),
     reachesSecond (advance c s) = true → flag s 0x7207 0 = true → yardFenced s 4 = false → ppsWidth (timeQ s) = some w →
     (∀ x, s.time.ppsLead = some x → x + 50000000 ≤ (advance c s).clk.cycle) →
     ∃ t, exec (.ppsPulse c) s = .next t ∧ t.time.pps = true ∧ t.time.ppsEnd = some ((advance c s).clk.cycle + 2 + w) ∧
     (timeQ s = 0 → t.power.rtc = (reportedSec (advance c s)).toNat * 32768 % 2 ^ 63) ∧ t.regs = s.regs) ∧
  (∀ (k : Nat) (s : State), s.time.ppsEnd = some k →
     ∃ t, exec (.ppsPulseEnd) s = .next t ∧ t.time.pps = false ∧ t.time.ppsEnd = none)

/-- The GNSS baseband (07 R205, R207-R214, R224, R225, R233): an antenna's bias current gives its class; an integration
assigns a free satellite to a channel pair, or to the idle half beside a partner that has it, ends a search at a peak within
its window, locks a channel after 100 ms and completes the 20 ms sums; a channel whose lock indicator stays low for 20 ms
goes back to ACQ with its Doppler as search centre; a pair without signal for 30 s is released; a subframe whose words all
pass their parity and whose first opens with the preamble leaves its time of week, one with a wrong parity is counted and
not used; channels latch on the tick; a check clears after 10 s; the hot-start block is written every 60 s; 120 s without a
fix are marked for the next epoch strobe. Where the rules leave a reading open, the clause states the model's choice, log
18. -/
def Obligations.GnssEvents : Prop :=
  (∀ (a : Fin 2) (x : Nat) (s : State),
     yardFenced s 4 = false → flag s 0x4000 (8 + a.val) = true → fld s (0x4010 + a.val) 1 0 ≠ 3 →
     ∃ t, exec (.antennaBiasClass a x) s = .next t ∧ fld t (0x4010 + a.val) 1 0 = biasClass x ∧
     fld t (0x4010 + a.val) 15 8 = min x 255) ∧
  (∀ (a : Fin 2) (x k : Nat) (s : State),
     vget s.gnss.antShort a = some k → 110 ≤ (s.clk.beat + 2 ^ 32 - k) % 2 ^ 32 → flag s 0x4000 (8 + a.val) = true →
     ∃ t, exec (.antennaRetest a x) s = .next t ∧ fld t (0x4010 + a.val) 1 0 = biasClass x ∧
     (biasClass x ≠ 3 → vget t.gnss.antShort a = none)) ∧
  (∀ (c : Nat) (ch : Fin 48) (x : CorrelatorSums) (p : Fin 32) (s : State),
     gnssRuns (advance c s) = true → chanOn s ch.val = true → (vget s.gnss.ch ch).state = 0 → x.assign = some p →
     (∀ j : Fin 48, (vget s.gnss.ch j).prn ≠ p.val + 1) →
     (∀ j : Fin 48, j.val % 24 = ch.val % 24 → (vget s.gnss.ch j).prn = 0) → searchable (advance c s) (p.val + 1) = true →
     ∃ t, exec (.gnssIntegration c ch x) s = .next t ∧
     (∀ j : Fin 48, j.val % 24 = ch.val % 24 → chanOn s j.val = true → (vget t.gnss.ch j).prn = p.val + 1 ∧ (vget t.gnss.ch
         j).state = 1)) ∧
  (∀ (c : Nat) (ch o : Fin 48) (x : CorrelatorSums) (p : Fin 32) (s : State),
     gnssRuns (advance c s) = true → chanOn s ch.val = true → (vget s.gnss.ch ch).state = 0 → x.assign = some p →
     o.val = (if ch.val < 24 then ch.val + 24 else ch.val - 24) → (vget s.gnss.ch o).prn = p.val + 1 →
     (∀ j : Fin 48, j ≠ o → (vget s.gnss.ch j).prn ≠ p.val + 1) →
     ∃ t, exec (.gnssIntegration c ch x) s = .next t ∧ (vget t.gnss.ch ch).prn = p.val + 1 ∧ (vget t.gnss.ch ch).state = 1 ∧
     vget t.gnss.ch o = vget s.gnss.ch o ∧
     (3 ≤ (vget s.gnss.ch o).state → (vget t.gnss.ch ch).aid = some (vget s.gnss.ch o).ncoCode)) ∧
  (∀ (c : Nat) (ch : Fin 48) (x : CorrelatorSums) (d : Int) (z : Int × Nat) (s : State),
     gnssRuns (advance c s) = true → chanOn s ch.val = true → (vget s.gnss.ch ch).state = 1 → x.peak = some d →
     z = searchWindow (advance c s) (vget s.gnss.ch ch) → (d - z.1).natAbs ≤ z.2 → blockDown s 4 5 = false →
     resultFaulted s 4 5 = false →
     ∃ t, exec (.gnssIntegration c ch x) s = .next t ∧ (vget t.gnss.ch ch).state = 2 ∧ (vget t.gnss.ch ch).dop = d ∧
     (vget t.gnss.ch ch).goodMs = 0 ∧ (vget t.gnss.ch ch).spacing = fld s 0x4001 6 0) ∧
  (∀ (c : Nat) (ch : Fin 48) (x : CorrelatorSums) (s : State),
     gnssRuns (advance c s) = true → chanOn s ch.val = true → (vget s.gnss.ch ch).state = 2 →
     lockIndicator 8 x.ip x.qp = true →
     ∃ t, exec (.gnssIntegration c ch x) s = .next t ∧
     (vget t.gnss.ch ch).state = (if 99 ≤ (vget s.gnss.ch ch).goodMs then 3 else 2) ∧
     (vget t.gnss.ch ch).goodMs = (vget s.gnss.ch ch).goodMs + 1) ∧
  (∀ (c : Nat) (ch : Fin 48) (x : CorrelatorSums) (s : State),
     gnssRuns (advance c s) = true → chanOn s ch.val = true → 4 ≤ (vget s.gnss.ch ch).state →
     19 ≤ (vget s.gnss.ch ch).sumN →
     ∃ t, exec (.gnssIntegration c ch x) s = .next t ∧
     (vget t.gnss.ch ch).bit = ((vget s.gnss.ch ch).sumI + x.ip, (vget s.gnss.ch ch).sumQ + x.qp) ∧
     (vget t.gnss.ch ch).sumN = 0 ∧ (vget t.gnss.ch ch).state = (vget s.gnss.ch ch).state) ∧
  (∀ (c : Nat) (ch : Fin 48) (s : State), 2 ≤ (vget s.gnss.ch ch).state → 20 ≤ (vget s.gnss.ch ch).badMs →
     ∃ t, exec (.channelLossOfLock c ch) s = .next t ∧ (vget t.gnss.ch ch).state = 1 ∧
     (vget t.gnss.ch ch).centre = some ((vget s.gnss.ch ch).dop, (advance c s).clk.cycle) ∧
     (vget t.gnss.ch ch).prn = (vget s.gnss.ch ch).prn) ∧
  (∀ (c : Nat) (p : Fin 24) (s : State), (chanAt s p.val).prn ≠ 0 ∨ (chanAt s (p.val + 24)).prn ≠ 0 →
     max (chanAt s p.val).signal (chanAt s (p.val + 24)).signal + 3000000000 ≤ (advance c s).clk.cycle →
     ∃ t, exec (.satelliteRelease c p) s = .next t ∧ chanAt t p.val = GChan.idle ∧ chanAt t (p.val + 24) = GChan.idle) ∧
  (∀ (c : Nat) (ch : Fin 48) (w : List Word) (z : List Nat × Nat) (s : State),
     w.length = 10 → gnssRuns (advance c s) = true → chanOn s ch.val = true → 4 ≤ (vget s.gnss.ch ch).state →
     z = navWords (wordBefore (advance c s) (vget s.gnss.ch ch) ((w.map fun x => x.toNat % 2 ^ 30).getD 0 0)).1 (wordBefore
         (advance c s) (vget s.gnss.ch ch) ((w.map fun x => x.toNat % 2 ^ 30).getD 0 0)).2 (w.map fun x => x.toNat % 2 ^ 30)
         →
     z.2 = 0 → dataBits (dataWord z.1 1) 1 8 = 0x8B →
     ∃ t, exec (.subframeReceived c ch w) s = .next t ∧ (vget t.gnss.ch ch).lastTow = some (towOf z.1) ∧
     fld t 0x4017 15 0 = fld s 0x4017 15 0 ∧
     ((vget s.gnss.ch ch).state = 4 → (∃ x, (vget s.gnss.ch ch).lastTow = some x ∧ (x + 1) % 100800 = towOf z.1) → 5 ≤ (vget
         t.gnss.ch ch).state)) ∧
  (∀ (c : Nat) (ch : Fin 48) (w : List Word) (z : List Nat × Nat) (s : State),
     w.length = 10 → gnssRuns (advance c s) = true → chanOn s ch.val = true → 4 ≤ (vget s.gnss.ch ch).state →
     z = navWords (wordBefore (advance c s) (vget s.gnss.ch ch) ((w.map fun x => x.toNat % 2 ^ 30).getD 0 0)).1 (wordBefore
         (advance c s) (vget s.gnss.ch ch) ((w.map fun x => x.toNat % 2 ^ 30).getD 0 0)).2 (w.map fun x => x.toNat % 2 ^ 30)
         →
     z.2 ≠ 0 →
     ∃ t, exec (.subframeReceived c ch w) s = .next t ∧ fld t 0x4017 15 0 = satAdd 16 (fld s 0x4017 15 0) z.2 ∧
     flag t 0x4016 1 = true ∧ (vget t.gnss.ch ch).lastTow = (vget s.gnss.ch ch).lastTow ∧ t.gnss.sats = s.gnss.sats ∧
     t.gnss.alm = s.gnss.alm ∧ t.gnss.week = s.gnss.week) ∧
  (∀ (c : Nat) (m : List ChannelLatch) (ch : Fin 48) (x : ChannelLatch) (s : State), gnssRuns (advance c s) = true →
     (gpsEstimate (advance c s) (advance c s).clk.cycle).all (fun e => atMultiple e (epochInterval (rateOn (advance c s)
         (some e)))) = true →
     m.find? (fun y => y.ch == ch) = some x → 2 ≤ (vget s.gnss.ch ch).state →
     ∃ t, exec (.measurementTick c m) s = .next t ∧ (vget t.gnss.ch ch).cn0 = x.cn0 ∧ (vget t.gnss.ch ch).dop = x.dop ∧
     (vget t.gnss.ch ch).phase = x.phase ∧ (vget t.gnss.ch ch).prev = some x.phase ∧
     t.gnss.tick = some (advance c s).clk.cycle ∧ t.gnss.tickDue = true ∧ t.gnss.prevTick = s.gnss.tick ∧
     t.gnss.cfg = epochSet s) ∧
  (∀ (c : Nat) (k : Fin 6) (s : State),
     (vget s.gnss.checks k).stands = true → (vget s.gnss.checks k).met + 1000000000 ≤ s.gnss.epoch →
     ∃ t, exec (.checkClear c k) s = .next t ∧ (vget t.gnss.checks k).stands = false ∧ (vget t.gnss.checks k).mask = 0 ∧
     flag t 0x4015 k.val = false) ∧
  (∀ (c : Nat) (s : State), inRun s = true → yardFenced s 0 = false → yardFenced s 4 = false →
     s.gnss.blockAt.all (fun k => decide (k + 6000000000 ≤ (advance c s).clk.cycle)) = true →
     ∃ t, exec (.gnssBlockWrite c) s = .next t ∧
     t.gnss.block.map (·.alm) = some ((s.gnss.alm.filter fun x => decide (ageSec (advance c s) x.2.2 < thirtyDays)).map fun
         x => (x.1, x.2.1, ageSec (advance c s) x.2.2)) ∧
     t.gnss.block.map (·.week) = some s.gnss.week ∧ t.gnss.block.map (·.pos) = some s.gnss.pos ∧
     t.gnss.block.map (·.good) = some true ∧ t.gnss.blockAt = some (advance c s).clk.cycle ∧ t.gnss.ch = s.gnss.ch ∧
     t.regs = s.regs) ∧
  (∀ (k : Nat) (s : State), s.gnss.startAt = some k → s.gnss.firstFix = false → s.gnss.timedOut = false →
     ∃ t, exec (.gnssStartTimeout) s = .next t ∧ t.gnss = { s.gnss with timedOut := true, timeoutDue := true })

/-- An epoch, on the strobe that follows a tick by 500 002 or 500 003 cycles (07 R215-R219, R232): with fewer than four
channels that take part, antenna A has no fix; with a solution of four satellites or more, those left after an exclusion, of
PDOP at most 6, and where flagged fixes are not withheld, antenna A's fix is valid, the module's position is the solution's,
and an enabled source 0 takes its record; with heading off, HEADING_STATE reads 0; the tick is used up. Where the rules
leave a reading open, the clause states the model's choice, log 18. -/
def Obligations.GnssEpochs : Prop :=
  (∀ (c k : Nat) (d : EpochData) (s : State),
     gnssRuns (advance c s) = true → blockDown s 4 6 = false → s.gnss.tick = some k → s.gnss.tickDue = true →
     (advance c s).clk.cycle = k + 500002 ∨ (advance c s).clk.cycle = k + 500003 →
     ∃ t, exec (.epochStrobe c d) s = .next t ∧ t.gnss.epoch = (advance c s).clk.cycle ∧ t.gnss.tickDue = false ∧
     ((antennaReady s 0).length < 4 → flag t 0x4012 0 = false) ∧
     (headingOn s = false → t.gnss.heading = 0 ∧ rd t 0x4014 = 0)) ∧
  (∀ (c k : Nat) (d : EpochData) (l : List Nat) (x : Option Nat) (f : NavFix) (s : State),
     gnssRuns (advance c s) = true → blockDown s 4 6 = false → s.gnss.tick = some k → s.gnss.tickDue = true →
     (advance c s).clk.cycle = k + 500002 ∨ (advance c s).clk.cycle = k + 500003 → resultFaulted s 4 6 = false →
     solveAntenna s 0 d.fixA d.fixA2 = (l, x, some f) → 4 ≤ l.length → f.pdop ≤ 600 → s.gnss.cfg.spoof = false →
     ∃ t, exec (.epochStrobe c d) s = .next t ∧ flag t 0x4012 0 = true ∧ fld t 0x4012 15 8 = l.length ∧
     t.gnss.pos = some (f.lat, f.lon) ∧
     (flag s (srcId 0 0) 0 = true → (srcUnit t 0).buf.getLast? = some ⟨(advance c s).clk.cycle, k, none, f.lat, f.lon, 0, 0,
         none⟩))

/-- The servo engine (02 R53, R62, 10 R300, R304-R309, R311, R312, 15 R450): a tick edge is the next of ticks 25 000 cycles
long; an axis that is OFF commands 0, one that runs commands a value limited to its OUT_MAX, and a steering axis whose
thrust is at rest goes on to PARK; a faulting axis is in FAULT with the command of its safe mode, counted, where its unit
makes transitions of its own, and else only commands so; a completed shut-down is OFF; requests and pending enables take
effect at tick edges. Where the rules leave a reading open, the clause states the model's choice, log 22. -/
def Obligations.ServoEvents : Prop :=
  (∀ (i : TickIn) (s : State), s.clk.core = true → s.clk.ticks = true →
     ∃ t, exec (.tickEdge i) s = .next t ∧ t.clk.tick = (s.clk.tick + 1) % 2 ^ 32 ∧
     t.clk.tickBase = s.clk.tickBase + 25000 ∧ t.servo.fwd = [] ∧
     (∀ a : Fin 48, (axisAt t a.val).state = (axisAt s a.val).state ∧ (axisAt t a.val).u = (axisAt s a.val).u)) ∧
  (∀ (s : State), s.clk.core = true → s.clk.ticks = true →
     ∃ t, exec (.servoRegister) s = .next t ∧
     (∀ a : Fin 48, (axisAt t a.val).tick = s.clk.tick ∧ (axisAt t a.val).state = (if parkStarts s a.val (axisAt s a.val)
         then 3 else (axisAt s a.val).state) ∧ ((axisAt s a.val).state = 0 → (axisAt t a.val).u = 0) ∧ ((axisAt s
         a.val).state = 1 → (axisAt s a.val).locFault = false → ∃ raw : F32, (axisAt t a.val).u = f32Clamp (f32Neg (axisCfg
         s.snap a.val).outMax) (axisCfg s.snap a.val).outMax raw))) ∧
  (∀ (a : Fin 48) (n : Nat) (s : State),
     s.clk.core = true → s.clk.ticks = true → faultCode s a.val (axisAt s a.val) = n → n ≠ 0 → ownTransitions s = true →
     ∃ t, exec (.axisFault a) s = .next t ∧ (axisAt t a.val).state = 4 ∧ (axisAt t a.val).code = n ∧
     (axisAt t a.val).u = faultCommand (axisCfg s.snap a.val) (axisAt s a.val).uPrev ∧ (axisAt t a.val).sNew = none ∧
     fld t (0x500F + 16 * a.val) 15 0 = satAdd 16 (fld s (0x500F + 16 * a.val) 15 0) 1 ∧
     flag t (0x500E + 16 * a.val) 0 = true ∧ flag t 0x1306 16 = true) ∧
  (∀ (a : Fin 48) (s : State),
     s.clk.core = true → s.clk.ticks = true → faultCode s a.val (axisAt s a.val) ≠ 0 → ownTransitions s = false →
     (axisAt s a.val).locFault = false →
     ∃ t, exec (.axisFault a) s = .next t ∧ (axisAt t a.val).state = (axisAt s a.val).state ∧
     (axisAt t a.val).locFault = true ∧ (axisAt t a.val).u = faultCommand (axisCfg s.snap a.val) (axisAt s a.val).uPrev ∧
     flag t 0x1306 16 = true) ∧
  (∀ (a : Fin 48) (s : State), s.clk.core = true → s.clk.ticks = true →
     (axisAt s a.val).state = 3 ∨ ((axisAt s a.val).state = 2 ∧ (axisCfg s.snap a.val).convert ≠ 2) →
     (axisCfg s.snap a.val).settle ≤ (axisAt s a.val).settle → ownTransitions s = true →
     faultCode s a.val (axisAt s a.val) = 0 →
     ∃ t, exec (.axisShutdownComplete a) s = .next t ∧ (axisAt t a.val).state = 0 ∧ (axisAt t a.val).u = 0 ∧
     (axisAt t a.val).parked = decide ((axisAt s a.val).state = 3) ∧ (axisAt t a.val).pend = (axisAt s a.val).pend ∧
     flag t 0x1306 17 = true) ∧
  (∀ (a : Fin 48) (q : AxisReq) (s : State),
     s.clk.core = true → s.clk.ticks = true → (axisAt s a.val).reqDue = some q → q.on = true → q.thr = false →
     (axisAt s a.val).state = 0 → ownTransitions s = true →
     ∃ t, exec (.axisCommandEffect a) s = .next t ∧ (axisAt t a.val).state = 1 ∧ (axisAt t a.val).reqDue = none ∧
     (axisAt t a.val).integ = 0 ∧ (axisAt t a.val).sNew = none ∧ (axisAt t a.val).yPrev = (axisAt s a.val).y ∧
     (axisAt t a.val).ref = (if (axisCfg s.snap a.val).convert = 2 then (axisAt s a.val).y else 0)) ∧
  (∀ (a : Fin 48) (q : AxisReq) (s : State),
     s.clk.core = true → s.clk.ticks = true → (axisAt s a.val).reqDue = some q → q.on = false →
     (axisAt s a.val).state = 1 ∨ (axisAt s a.val).state = 4 → ownTransitions s = true →
     ∃ t, exec (.axisCommandEffect a) s = .next t ∧ (axisAt t a.val).state = (if (axisAt s a.val).state = 1 then 2 else 0) ∧
     (axisAt t a.val).reqDue = none) ∧
  (∀ (a : Fin 48) (s : State),
     s.clk.core = true → s.clk.ticks = true → (axisAt s a.val).reqDue ≠ none → ownTransitions s = false →
     ∃ t, exec (.axisCommandEffect a) s = .next t ∧ (axisAt t a.val).state = (axisAt s a.val).state ∧
     (axisAt t a.val).reqDue = none) ∧
  (∀ (a : Fin 48) (s : State),
     s.clk.core = true → s.clk.ticks = true → (axisAt s a.val).pend = true → (axisAt s a.val).pendThr = false →
     (axisAt s a.val).state = 0 → ownTransitions s = true →
     ∃ t, exec (.pendingEnableEffect a) s = .next t ∧ (axisAt t a.val).state = 1 ∧ (axisAt t a.val).pend = false)

/-- The field channels (11 R323-R325, R328, R329, R333, R338, R339, R342-R344, R347): a good return frame is latched where
no faulted operation of the link is due, a bad one counted and its data poisoned; diagnostics, supply class and overcurrent
of a bank; debounced inputs; cut-off of a DO switch that delivers, and its restart; silence puts a bank in its safe values
and 40 valid markers end them; a new mode takes effect from tick 4 of the beat. Where the rules leave a reading open, the
clause states the model's choice, log 23. -/
def Obligations.FieldEvents : Prop :=
  (∀ (i : TickIn) (k : Fin 2) (s : State),
     s.clk.core = true → s.clk.ticks = true → blockDown s 6 k.val = false → (vget s.field.bank k).first = false →
     resultFaulted s 6 k.val = false → (withSegments s k (if k = 0 then i.a else i.b)).frameOk = true →
     ∃ t, exec (.tickEdge i) s = .next t ∧ (vget t.field.bank k).poison = false ∧
     (vget t.field.bank k).volts = (if k = 0 then i.a else i.b).volts ∧
     (vget t.field.bank k).mA = min 65535 (if k = 0 then i.a else i.b).mA ∧
     (vget t.field.bank k).fault = (if k = 0 then i.a else i.b).fault ∧
     (vget t.field.bank k).tick = (s.clk.tick + 1) % 2 ^ 32 ∧
     (∀ ch : Fin 48, ch.val / 24 = k.val → (vget t.field.chan ch).lvl = (if k = 0 then i.a else i.b).levels.getLsbD (ch.val
         % 24))) ∧
  (∀ (i : TickIn) (k : Fin 2) (s : State),
     s.clk.core = true → s.clk.ticks = true → blockDown s 6 k.val = false → (vget s.field.bank k).first = false →
     (withSegments s k (if k = 0 then i.a else i.b)).frameOk = false →
     ∃ t, exec (.tickEdge i) s = .next t ∧ (vget t.field.bank k).poison = true ∧
     (vget t.field.bank k).volts = (vget s.field.bank k).volts ∧ (vget t.field.bank k).tick = (vget s.field.bank k).tick ∧
     flag t (0x6403 + 16 * k.val) 5 = true ∧ vget t.filt.carry k = 3) ∧
  (∀ (k : Fin 2) (s : State), (vget s.field.bank k).common = false → 3 ≤ (vget s.field.bank k).badDiag →
     ∃ t, exec (.diagCommonEntry k) s = .next t ∧ (vget t.field.bank k).common = true ∧
     flag t (0x6403 + 16 * k.val) 3 = true) ∧
  (∀ (k : Fin 2) (s : State), (vget s.field.bank k).common = true → 400 ≤ (vget s.field.bank k).goodDiag →
     ∃ t, exec (.diagCommonExit k) s = .next t ∧ (vget t.field.bank k).common = false ∧ t.field.chan = s.field.chan) ∧
  (∀ (ch : Fin 48) (s : State), (vget s.field.chan ch).cand ≠ (vget s.field.chan ch).di →
     bitsOf (vget s.field.chan ch).cfg 15 8 + 1 ≤ (vget s.field.chan ch).run → (vget s.field.chan ch).quiet = none →
     ∃ t, exec (.diDebounce ch) s = .next t ∧ (vget t.field.chan ch).di = (vget s.field.chan ch).cand ∧
     (vget t.field.chan ch).run = 0) ∧
  (∀ (ch : Fin 48) (th : Bool) (s : State), (vget s.field.chan ch).mode = 3 → delivered s ch.val ≠ 0 →
     ∃ t, exec (.doOverloadCutoff ch th) s = .next t ∧ (vget t.field.chan ch).cut = some th ∧
     (vget t.field.chan ch).cutTick = s.clk.tick ∧ (vget t.field.chan ch).needOff = true) ∧
  (∀ (ch : Fin 48) (s : State), (vget s.field.chan ch).cut ≠ none → (vget s.field.chan ch).eff ≠ 0 →
     (bitOf (vget s.field.chan ch).cfg 5 = true ∧ 400 ≤ (s.clk.tick + 2 ^ 32 - (vget s.field.chan ch).cutTick) % 2 ^ 32) ∨
         (bitOf (vget s.field.chan ch).cfg 5 = false ∧ (vget s.field.chan ch).needOff = false) →
     ∃ t, exec (.doRestart ch) s = .next t ∧ (vget t.field.chan ch).cut = none ∧
     (vget t.field.chan ch).mode = (vget s.field.chan ch).mode) ∧
  (∀ (k : Fin 2) (s : State),
     (vget s.field.bank k).clsRun = 4 → (vget s.field.bank k).cls ≠ (vget s.field.bank k).supply →
     ∃ t, exec (.bankSupplyChange k) s = .next t ∧ (vget t.field.bank k).supply = (vget s.field.bank k).cls ∧
     ((vget s.field.bank k).supply = 0 → flag t (0x6403 + 16 * k.val) 0 = true) ∧
     ((vget s.field.bank k).cls = 4 → flag t (0x6403 + 16 * k.val) 1 = true) ∧ (s.clk.core = true → flag t 0x1307 1 = true)) ∧
  (∀ (k : Fin 2) (s : State), (vget s.field.bank k).trip = false → 40 ≤ (vget s.field.bank k).overRun →
     ∃ t, exec (.bankOvercurrentTrip k) s = .next t ∧ (vget t.field.bank k).trip = true ∧
     flag t (0x6402 + 16 * k.val) 1 = true ∧ flag t (0x6403 + 16 * k.val) 2 = true) ∧
  (∀ (k : Fin 2) (s : State), (vget s.field.bank k).inSafe = false →
     4 * (vget s.field.bank k).silence ≤ (vget s.field.bank k).missing ∨ s.clk.core = false ∨ s.clk.ticks = false →
     ∃ t, exec (.silenceTimeout k) s = .next t ∧ (vget t.field.bank k).inSafe = true ∧
     (vget t.field.bank k).latched = (vget s.field.bank k).resume ∧
     (∀ ch : Fin 48, ch.val / 24 = k.val → (vget t.field.chan ch).safe = true ∧ (vget t.field.chan ch).eff = commandOf (vget
         t.field.chan ch) ∧ (bitOf (vget s.field.chan ch).cfg 4 = true → (vget t.field.chan ch).drive = false)) ∧
     (∀ ch : Fin 48, ch.val / 24 ≠ k.val → (vget t.field.chan ch) = (vget s.field.chan ch))) ∧
  (∀ (k : Fin 2) (s : State),
     (vget s.field.bank k).inSafe = true → (vget s.field.bank k).latched = false → 40 ≤ (vget s.field.bank k).valid →
     ∃ t, exec (.silenceResume k) s = .next t ∧ (vget t.field.bank k).inSafe = false ∧
     (∀ ch : Fin 48, ch.val / 24 = k.val → (vget t.field.chan ch).safe = if servoOwned s.snap ch.val then false else (vget
         s.field.chan ch).safe)) ∧
  (∀ (ch : Fin 48) (m : Nat) (s : State), (vget s.field.chan ch).modeNew = some m → 4 ≤ tickJ s →
     ∃ t, exec (.modeChangeEffect ch) s = .next t ∧ (vget t.field.chan ch).mode = m ∧
     (vget t.field.chan ch).modeNew = none ∧ (vget t.field.chan ch).di = false ∧ (vget t.field.chan ch).cut = none ∧
     (vget t.field.chan ch).eff = commandOf (vget t.field.chan ch))

/-- The filter engine (12 R359, R360, R363, R364, R371, R373): every lane takes each sinc output into its history of 384 and
into the mean of the tick, which the sixteenth output completes; after 387 outputs a lane leaves SETTLING; an enabled edge
of SYNC_IN one cycle later makes a window the origin, counted and reported; an edge of the other kind does nothing. Where
the rules leave a reading open, the clause states the model's choice, log 21. -/
def Obligations.FilterEvents : Prop :=
  (∀ (x : SincIn) (s : State), s.clk.core = true → s.clk.ticks = true →
     ∃ t, exec (.sincOutput x) s = .next t ∧ t.filt.seg = (if s.filt.seg = 15 then 0 else s.filt.seg + 1) ∧
     (∀ l : Fin 48, (vget t.filt.lanes l).done = min 387 ((vget s.filt.lanes l).done + 1) ∧ (vget t.filt.lanes l).hist.map
         (·.1) = (sincOut (vget x.bits l :: (vget s.filt.lanes l).bits)) :: ((vget s.filt.lanes l).hist.take 383).map (·.1)
         ∧ (s.filt.seg ≠ 15 → (vget t.filt.lanes l).sum = (vget s.filt.lanes l).sum + sincOut (vget x.bits l :: (vget
         s.filt.lanes l).bits)) ∧ (s.filt.seg = 15 → (vget t.filt.lanes l).sum = 0 ∧ vget t.filt.means l = (vget
         s.filt.lanes l).sum + sincOut (vget x.bits l :: (vget s.filt.lanes l).bits)))) ∧
  (∀ (l : Fin 48) (s : State), 387 ≤ (vget s.filt.lanes l).done →
     ∃ t, exec (.settlingEnd l) s = .next t ∧ (vget t.filt.lanes l).settled = true ∧
     (∀ j : Fin 48, j ≠ l → vget t.filt.lanes j = vget s.filt.lanes j)) ∧
  (∀ (l : Fin 48) (s : State), (vget s.filt.lanes l).done < 387 →
     ∃ t, exec (.settlingEnd l) s = .next t ∧ t = s) ∧
  (∀ (c : Nat) (r : Bool) (s : State),
     s.clk.core = true → s.clk.ticks = true → flag s 0x5408 0 = true → r ≠ flag s 0x5408 1 →
     ∀ x, s.filt.sync = some x → x.1 ≠ c + 1 →
     ∃ t, exec (.syncInEdge c r) s = .next t ∧ rd t 0x5409 = BitVec.ofNat 32 (originOfEdge s (c + 1)) ∧
     t.filt.newOrigin.contains (originOfEdge s (c + 1)) = true ∧ t.filt.sync = some (c + 1, 1) ∧
     fld t 0x540A 15 0 = satAdd 16 (fld s 0x540A 15 0) 1 ∧ flag t 0x1307 6 = true) ∧
  (∀ (c : Nat) (r : Bool) (s : State), s.clk.ticks = false ∨ flag s 0x5408 0 = false ∨ r = flag s 0x5408 1 →
     ∃ t, exec (.syncInEdge c r) s = .next t ∧ t = advance c s)

/-- Stalls, blocks and yards (01 R21-R23, R28-R32, R36-R40, 16 R469): a scrub read moves on to the next word, 64 cycles
after the last of its memory, counts a corrected error, and poisons the stall of an uncorrectable one; the first fault of a
block starts a counted retry with a reset of 32 cycles, a fault of the retry fences the block, and one of a stage of the
beat flow withholds the release of its beat; an unused index of PD2 or PD3 names no block; a fenced yard reads so with its
cause, makes the module fail-silent unless it is PD0 or PD4, and stays; the loss of both inputs with PD1 is RETAIN. Where
the rules leave a reading open, the clause states the model's choice, log 12 and 31. -/
def Obligations.HealthEvents : Prop :=
  (∀ (y : Fin 8) (mem : Nat) (s : State), ∃ t, exec (.scrubRead y mem .none) s = .next t ∧
     scrubWord t y mem = (scrubWord s y mem + 1) % Config.memoryWords y.val mem ∧
     (∀ m, m ≠ mem → scrubPlace t y m = scrubPlace s y m) ∧
     (∀ x, scrubPlace s y mem = some x → s.clk.core = true → x.last + 64 ≤ t.clk.cycle) ∧ t.poison = s.poison ∧
     t.regs = s.regs) ∧
  (∀ (y : Fin 8) (mem : Nat) (s : State), ∃ t, exec (.scrubRead y mem .single) s = .next t ∧
     scrubWord t y mem = (scrubWord s y mem + 1) % Config.memoryWords y.val mem ∧
     fld t (0x1000 * y.val + 0xFF0) 31 0 = satAdd 32 (fld s (0x1000 * y.val + 0xFF0) 31 0) 1 ∧
     flag t (0x1000 * y.val + 0xFF5) 0 = true ∧ t.poison = s.poison) ∧
  (∀ (y : Fin 8) (mem : Nat) (s : State), s.poison.contains (memoryStall y.val mem (scrubWord s y mem)) = false →
     ∃ t, exec (.scrubRead y mem .double) s = .next t ∧ t.poison = memoryStall y.val mem (scrubWord s y mem) :: s.poison ∧
     fld t (0x1000 * y.val + 0xFF1) 15 0 = satAdd 16 (fld s (0x1000 * y.val + 0xFF1) 15 0) 1 ∧
     flag t (0x1000 * y.val + 0xFF5) 1 = true ∧ (s.clk.core = true → flag t 0x1304 0 = true)) ∧
  (∀ (c : Nat) (y : Fin 8) (b : Fin 32) (s : State),
     blockFenced s y.val b.val = false → blockExists y.val b.val = true →
     (vget s.yards y).retry.any (·.1 == b.val) = false →
     ∃ t, exec (.blockFault c y b) s = .next t ∧ (vget t.yards y).retry = (vget s.yards y).retry ++ [(b.val, true)] ∧
     (vget t.yards y).inReset = (vget s.yards y).inReset ++ [(b.val, (advance c s).clk.cycle + 32)] ∧
     fld t (0x1000 * y.val + 0xFF6) 15 0 = satAdd 16 (fld s (0x1000 * y.val + 0xFF6) 15 0) 1 ∧
     flag t (0x1000 * y.val + 0xFF5) 2 = true ∧ blockFenced t y.val b.val = false ∧
     ((y = 2 ∨ y = 3) → b.val ≤ 4 → t.twin.laneValid = false ∧ (beatCycle s 656000 ≤ (advance c s).clk.cycle → t.twin.permit
         = false))) ∧
  (∀ (c : Nat) (y : Fin 8) (b : Fin 32) (s : State),
     blockFenced s y.val b.val = false → blockExists y.val b.val = true → (vget s.yards y).retry.any (·.1 == b.val) = true →
     ∃ t, exec (.blockFault c y b) s = .next t ∧ blockFenced t y.val b.val = true ∧
     flag t (0x1000 * y.val + 0xFF5) 3 = true ∧ yardState t y.val ≠ 0 ∧
     (criticalBlock y.val b.val = true → yardState t y.val = 2)) ∧
  (∀ (c : Nat) (y : Fin 8) (b : Fin 32) (s : State), blockFenced s y.val b.val = true →
     ∃ t, exec (.blockFault c y b) s = .next t ∧ t.yards = s.yards ∧ t.regs = s.regs) ∧
  (∀ (c : Nat) (y : Fin 8) (b : Fin 32) (s : State), blockExists y.val b.val = false →
     ∃ t, exec (.blockFault c y b) s = .next t ∧ t = settleLine (advance c s)) ∧
  (∀ (y : Fin 8) (b : Fin 32) (x : Nat × Nat) (s : State), (vget s.yards y).inReset.find? (·.1 == b.val) = some x →
     ∃ t, exec (.blockResetDone y b) s = .next t ∧
     (vget t.yards y).inReset = (vget s.yards y).inReset.filter (·.1 != b.val) ∧
     (vget t.yards y).retry = (vget s.yards y).retry ∧ (s.clk.core = true → x.2 ≤ t.clk.cycle)) ∧
  (∀ (c : Nat) (y : Fin 8) (x : FenceCause) (s : State), yardFenced s y.val = false →
     ∃ t, exec (.yardFence c y x) s = .next t ∧ yardState t y.val = 2 ∧ fld t (0x1000 * y.val + 0xFF3) 3 0 = causeCode x ∧
     flag t (0x1000 * y.val + 0xFF5) 4 = true ∧ (y ≠ 0 → y ≠ 4 → failSilent t = true) ∧ (y = 0 → t.power.rtcValid = false) ∧
     (y = 4 → t.time.pps = false) ∧
     (y = 1 → x = .supply → s.power.mains = false → s.power.dc = false → t.power.mode = .retain ∧ t.clk.core = false)) ∧
  (∀ (c : Nat) (y : Fin 8) (x : FenceCause) (s : State), yardFenced s y.val = true → y ≠ 1 →
     ∃ t, exec (.yardFence c y x) s = .next t ∧ t = settleLine (advance c s))

/-- Supplies, sleep and waking (16 R467-R469, R473-R480, R491, R492): the state of the inputs and the loss of both, which
ends an entry sequence in RUN and a sleep state in RETAIN; entry to a sleep state with its yards off and clocks stopped;
wakes that request a bring-up; wake checks and watch windows; the clock start and its repetition; the alarm; the backup
cell. Where the rules leave a reading open, the clause states the model's choice, log 32. -/
def Obligations.PowerEvents : Prop :=
  (∀ (c : Nat) (i : SupplyInput) (v : Bool) (mv dv pw : Nat) (s : State),
     v ≠ (if i = .mains then s.power.mains else s.power.dc) →
     ∃ t, exec (.supplyInputChange c i v mv dv pw) s = .next t ∧ t.power.mains = (if i = .mains then v else s.power.mains) ∧
     t.power.dc = (if i = .dc then v else s.power.dc) ∧ (v = false → flag t 0x150A 1 = true)) ∧
  (∀ (c : Nat) (i : SupplyInput) (mv dv pw : Nat) (s : State),
     (i = .mains ∧ s.power.mains = true ∧ s.power.dc = false) ∨ (i = .dc ∧ s.power.dc = true ∧ s.power.mains = false) →
     ∃ t, exec (.supplyInputChange c i false mv dv pw) s = .next t ∧ flag t 0x150A 2 = true ∧
     (yardFenced s 0 = false → t.power.summary.map (·.loss) = some 1) ∧ (s.clk.core = true → flag t 0x1304 9 = true) ∧
     t.power.entryEdge = (if asleep s then s.power.entryEdge else none) ∧
     t.power.mode = (if asleep s then .retain else if s.power.entryEdge.isSome then .run else s.power.mode)) ∧
  (∀ (c : Nat) (i : SupplyInput) (mv dv pw : Nat) (s : State),
     (if i = .mains then s.power.mains else s.power.dc) = false → s.power.mode = .retain →
     ∃ t, exec (.supplyInputChange c i true mv dv pw) s = .next t ∧ t.power.mode = .bringUp ∧
     t.power.startAt = some t.clk.cycle ∧ t.power.wakeMask = 0x40 ∧ t.clk.ticks = false ∧ t.clk.beats = false) ∧
  (∀ (k : Nat) (s : State), s.power.entryCommit = some k → k + 100000 ≤ s.clk.beatBase → s.power.mode = .run →
     ∃ t, exec (.sleepEntry) s = .next t ∧ t.power.mode = .entry ∧ t.power.entryEdge = some s.clk.beatBase ∧
     t.power.entryCommit = none ∧ t.clk.beats = false ∧ t.twin.permit = false ∧ t.line.hrdy = false ∧
     flag t 0x1005 0 = false ∧ flag t 0x1005 1 = false ∧ (yardFenced s 0 = false → t.power.summary.map (·.loss) = some 2)) ∧
  (∀ (e : Nat) (s : State), s.power.entryEdge = some e →
     ∃ t, exec (.sleepEntryDone) s = .next t ∧ t.power.mode = (if s.power.target = 2 then .watch else .doze) ∧
     t.power.entryEdge = none ∧ t.clk.core = false ∧ t.clk.ticks = false ∧
     (∀ y : Fin 8, 2 ≤ y.val → yardState t y.val = 3) ∧ t.field = linksStart s.field) ∧
  (∀ (c n : Nat) (s : State), (n &&& fld s 0x1502 5 0) ||| s.power.latched ≠ 0 → asleep s = true →
     ∃ t, exec (.wakeEvent c n) s = .next t ∧ t.power.mode = .bringUp ∧ t.power.startAt = some t.clk.cycle ∧
     t.power.wakeMask = ((n &&& fld s 0x1502 5 0) ||| s.power.latched) ∧ t.power.latched = 0) ∧
  (∀ (c n : Nat) (s : State), asleep s = false → s.power.entryCommit.isSome || s.power.entryEdge.isSome = true →
     ∃ t, exec (.wakeEvent c n) s = .next t ∧ t.power.latched = ((n &&& fld s 0x1502 5 0) ||| s.power.latched) ∧
     t.power.mode = s.power.mode) ∧
  (∀ (c : Nat) (b : Fin 4) (s : State),
     s.power.mode = .doze ∨ s.power.mode = .watch → wakeOn s 1 = true → wakeOn s (8 + b.val) = true →
     s.power.checkFrom = none →
     ∃ t, exec (.canWakeCheck c b) s = .next t ∧ t.clk.core = true ∧ t.power.checkFrom = some t.clk.cycle ∧
     c ≤ t.clk.cycle ∧ yardState t 7 ≠ 3 ∧ t.power.mode = s.power.mode) ∧
  (∀ (c f : Nat) (s : State),
     s.power.checkFrom = some f → s.power.mode = .doze ∨ s.power.mode = .watch → s.clk.core = true → f + 10000000 ≤ c →
     ∃ t, exec (.wakeCheckTimeout c) s = .next t ∧ t.power.mode = s.power.mode ∧ t.clk.core = false ∧
     t.power.checkFrom = none ∧ yardState t 7 = 3 ∧ fld t 0x150C 15 0 = satAdd 16 (fld s 0x150C 15 0) 1 ∧
     flag t 0x150A 4 = true) ∧
  (∀ (c : Nat) (s : State), s.power.mode = .watch →
     ∃ t, exec (.watchWindowOpen c) s = .next t ∧ t.power.mode = .window ∧ t.clk.core = true ∧
     t.power.windowFrom = some t.clk.cycle ∧ yardState t 4 ≠ 3 ∧ yardState t 7 ≠ 3 ∧
     (yardFenced s 4 = false → t.gnss.startAt = some (t.clk.cycle + 20000000))) ∧
  (∀ (c : Nat) (s : State), s.power.mode = .window →
     ∃ t, exec (.watchWindowClose c) s = .next t ∧ t.power.mode = (if s.power.target = 1 then .doze else .watch) ∧
     t.clk.core = false ∧ t.power.windowFrom = none ∧ yardState t 4 = 3 ∧ yardState t 7 = 3) ∧
  (∀ (l : Bool) (s : State), s.power.startAt ≠ none → s.clk.core = false →
     ∃ t, exec (.clockStart l) s = .next t ∧ t.clk.core = l ∧ t.power.retryAt = (if l then none else some 32768) ∧
     (l = false → fld t 0x0003 15 8 = satAdd 8 (fld s 0x0003 15 8) 1)) ∧
  (∀ (n : Nat) (s : State), s.power.retryAt = some n →
     ∃ t, exec (.clockStartRetry) s = .next t ∧ t.power.retryAt = none ∧ t.power.rtc = s.power.rtc + n) ∧
  (∀ (c : Nat) (s : State), alarm s ≠ 0 → s.power.rtcValid = true → s.clk.core = true → s.power.mode = .run →
     alarm s ≤ (advance c s).power.rtc / 32768 →
     ∃ t, exec (.rtcAlarm c) s = .next t ∧ alarm t = 0 ∧ flag t 0x1304 12 = true ∧ t.power.mode = .run) ∧
  (∀ (c : Nat) (s : State),
     alarm s ≠ 0 → s.power.rtcValid = true → s.clk.core = false → asleep s = true → wakeOn s 4 = true →
     ∃ t, exec (.rtcAlarm c) s = .next t ∧ alarm t = 0 ∧ t.power.mode = .bringUp ∧
     t.power.wakeMask = (0x10 ||| s.power.latched) ∧ t.power.rtc = max s.power.rtc (32768 * alarm s)) ∧
  (∀ (mv : Nat) (s : State), s.power.mains = true ∨ s.power.dc = true →
     ∃ t, exec (.backupCellMeasure mv) s = .next t ∧ fld t 0x0006 15 0 = mv % 65536 ∧
     flag t 0x0006 16 = decide (1000 ≤ mv ∧ mv < 2700) ∧ flag t 0x0006 17 = decide (mv < 1000) ∧
     t.power.cellState = (if mv < 1000 then 2 else if mv < 2700 then 1 else 0)) ∧
  (∀ (s : State), s.power.mains = false → s.power.dc = false →
     ∃ t, exec (.backupCellRemoved) s = .next t ∧ t.power.rtcValid = false ∧ t.power.summary = none ∧ t.power.rtc = 0 ∧
     t.gnss.block = none ∧ (∀ i : Fin 64, vget t.ev.hist i = none) ∧ (∀ i : Fin 7, rd t i.val = 0))

/-- Restarts and bring-up (04 R136, R137, 16 R480, R482-R486, R489, 17 R509): an accepted restart begins at its beat edge;
the start strobe clears all that is not retained; the verdicts power yards, start ticks and note unit number and
cross-check; handshake messages are sent, taken and decided on; at H the module is in RUN. Where the rules leave a reading
open, the clause states the model's choice, log 32. -/
def Obligations.BringUpEvents : Prop :=
  (∀ (r : RestartPending) (s : State), restartDue false s = some r →
     ∃ t, exec (.yardRestartBegin) s = .next t ∧
     (r.yard = 0 → t.power.rtcValid = false ∧ t.power.summary = none ∧ t.restart = s.restart.erase r ∧ t.power.mode =
         s.power.mode) ∧
     (r.yard = 4 → t.restart = s.restart.erase r ∧ t.power.mode = s.power.mode ∧ t.gnss.startAt = some (s.clk.cycle +
         20000000) ∧ ∀ id : Fin 0x1000, id.val ≠ 0x18 → rd t (0x4000 + id.val) = resetWord (0x4000 + id.val)) ∧
     (r.yard ≠ 0 → r.yard ≠ 4 → t.power.mode = .bringUp ∧ t.power.startAt = some s.clk.cycle ∧ t.clk.ticks = false ∧
         t.clk.beats = false ∧ t.restart = [])) ∧
  (∀ (s : State), restartDue true s ≠ none →
     ∃ t, exec (.moduleResetBegin) s = .next t ∧ t.power.mode = .bringUp ∧ t.power.startAt = some s.clk.cycle ∧
     t.clk.ticks = false ∧ t.clk.beats = false ∧ t.restart = [] ∧ t.power.byWake = false ∧ flag t 0x1005 0 = false ∧
     (yardFenced s 0 = false → t.power.summary.map (·.loss) = some 3)) ∧
  (∀ (n : Nat) (s : State), s.power.startAt ≠ none → s.clk.core = true →
     ∃ t, exec (.bringUpStart n) s = .next t ∧ t.power.mode = .bringUp ∧ t.power.startAt = none ∧
     t.power.rtc = s.power.rtc + n ∧ t.power.cold = !hotReady { s with power := { s.power with rtc := s.power.rtc + n } } ∧
     t.clk.cycle = 0 ∧ t.clk.core = true ∧ t.clk.ticks = false ∧ t.clk.beats = false ∧ t.nv = s.nv ∧
     t.ev.hist = s.ev.hist.map (Option.map fun x => { x with edge := none }) ∧ t.ev.holding = true ∧
     fld t 0x150B 15 0 = satAdd 16 (fld s 0x150B 15 0) 1 ∧ (∀ y : Fin 8, yardState t y.val = if 2 ≤ y.val then 3 else 0) ∧
     (∀ id : Nat, keptAtBringUp id = false → id % 0x1000 ≠ 0xFF2 → id ≠ 0x1003 → id ≠ 0x1004 → id ≠ 0x1507 → rd t id =
         resetWord id)) ∧
  (∀ (v : SelfTest) (s : State), s.power.mode = .bringUp → s.ev.holding = true →
     ∃ t, exec (.pd1Verdict v) s = .next t ∧ t.ev.carried = s.ev.hist ∧ t.ev.nextSeq = nextSeqOf s.ev.hist ∧
     yardState t 4 ≠ 3 ∧ (s.power.byWake = true → s.clk.core = true → flag t 0x1304 10 = true) ∧
     (v.failed = [] → v.once = [] → yardFenced s 1 = false → flag t 0x1509 1 = true)) ∧
  (∀ (s : State), s.ev.holding = true → s.power.mode = .bringUp →
     ∃ t, exec (.historyFlush) s = .next t ∧ t.ev.holding = false ∧ t.ev.held = [] ∧
     (s.power.cold = true → t.power.summary = none ∧ t.gnss.block = none)) ∧
  (∀ (v : SelfTest) (s : State), s.power.mode = .bringUp →
     ∃ t, exec (.pd4Verdict v) s = .next t ∧ (∀ y : Fin 8, 2 ≤ y.val → y ≠ 4 → yardState t y.val ≠ 3) ∧
     (yardFenced t 4 = false → t.gnss.startAt = some t.clk.cycle ∧ flag t 0x1509 4 = true)) ∧
  (∀ (v : SelfTest) (x : Bool) (s : State), s.power.mode = .bringUp →
     ∃ t, exec (.selftestVerdicts v x) s = .next t ∧ unitNumber t = b2n x ∧ t.clk.ticks = true ∧
     t.clk.runEdge = bringUpH s ∧ t.field = linksStart t.field ∧ (∀ b : Fin 4, (vget t.can b).boot = true)) ∧
  (∀ (a : Bool) (s : State), s.power.mode = .bringUp →
     ∃ t, exec (.crossCheckVerdict a) s = .next t ∧ (a = true → flag t 0x1509 8 = true ∧ t.twin.cause = s.twin.cause) ∧
     (a = false → failSilent s = false → t.twin.cause = 1 ∧ t.twin.item = 0xFF)) ∧
  (∀ (c : Nat) (s : State),
     let b := leBytes 1 3 ++ leBytes 1 (unitNumber s + 2 * b2n s.power.cold) ++ leBytes 2 (rd s 0x1002).toNat ++ leBytes 4
         (bringUpH s - (advance c s).clk.cycle) ++ leBytes 4 (configCrc s)
     s.power.mode = .bringUp →
     ∃ t, exec (.handshakeSend c) s = .next t ∧ t.twin.handOut = b ++ leBytes 4 (crc32 b)) ∧
  (∀ (c : Nat) (p : Fin 2) (m : List Byte) (s : State),
     linkUsable s = true → msgCrcOk m = true → m.length = 16 → byteAt m 0 = 3 → byteAt m 1 % 2 ≠ unitNumber s →
     s.power.mode = .bringUp → (advance c s).clk.cycle ≤ verdictAt s →
     ∃ t, exec (.handshakeMessage c p m) s = .next t ∧
     t.power.hs = some ⟨(advance c s).clk.cycle, byteAt m 1 / 2 % 2 == 1, leAt m 2 2, leAt m 4 4, leAt m 8 4⟩ ∧
     t.power.mismatch = (leAt m 2 2 != fld s 0x1002 15 0 || leAt m 8 4 != configCrc s) ∧ (vget t.twin.pairs p).seen = true) ∧
  (∀ (c : Nat) (p : Fin 2) (m : List Byte) (s : State),
     linkUsable s = true → msgCrcOk m = true → m.length = 16 → byteAt m 0 = 3 → byteAt m 1 % 2 = unitNumber s →
     s.power.mode = .bringUp →
     ∃ t, exec (.handshakeMessage c p m) s = .next t ∧ ((advance c s).clk.cycle ≤ verdictAt s → t.power.duplicate = true) ∧
     (verdictAt s < (advance c s).clk.cycle → t.power.duplicate = s.power.duplicate) ∧ flag t 0x7401 4 = true ∧
     t.power.hs = s.power.hs) ∧
  (∀ (s : State), s.power.mode = .bringUp → s.power.duplicate = false → s.power.runSeen = none →
     ∃ t, exec (.handshakeVerdict) s = .next t ∧
     (s.power.hs = none → s.power.hbSeen = none → t.power.verdict = 0 ∧ fld t 0x1102 1 0 = 0) ∧
     (s.power.hs ≠ none → unitNumber s = 0 → t.power.verdict = 2 ∧ fld t 0x1102 1 0 = 1) ∧
     (s.power.hs ≠ none → unitNumber s = 1 → t.power.verdict = 3 ∧ fld t 0x1102 1 0 = 2) ∧
     (s.power.hs = none → s.power.hbSeen ≠ none → t.power.verdict = 1 ∧ fld t 0x1102 1 0 = 3 ∧ t.twin.remirror = true)) ∧
  (∀ (s : State), s.power.mode = .bringUp → s.power.duplicate = true → failSilent s = false →
     ∃ t, exec (.handshakeVerdict) s = .next t ∧ t.twin.cause = 0x20 ∧ flag t 0x7401 4 = true ∧ t.power.verdict = 0) ∧
  (∀ (s : State), s.power.mode = .bringUp → s.clk.core = true → s.power.startAt = none →
     ∃ t, exec (.bringUpEnd) s = .next t ∧ t.power.mode = .run ∧ moduleState t = (if failSilent s then 3 else 2) ∧
     flag t 0x1304 11 = true ∧ bringUpH s ≤ t.clk.cycle)

/-- Frames of intake, fusion, control and allocation events: each answers a next state in every state, and leaves every part
of the state and every register but the named ones as they were (01 R27, 05 R163, R171, 06 R180, R184, 08 R234, 09 R276). -/
def Obligations.IntakeAndFusionFrames : Prop :=
  (∀ (q : Fin 32) (s : State),
     ∃ t, exec (.sourceLossTimeout q) s = .next t ∧ onlyChanges [.src, .line, .ev] anyEventId s t) ∧
  (∀ (s : State), ∃ t, exec (.intakeSummary) s = .next t ∧
     onlyChanges [.snap, .src, .fus, .line, .ev, .poison, .yards] (fun id => anyEventId id || [0x2301, 0x2302,
         0x2303].contains id) s t) ∧
  (∀ (c a : Nat) (p : Fin 4) (l : List Byte) (f : Bool) (s : State),
     ∃ t, exec (.serialSentence c a p l f) s = .next t ∧
     onlyChanges [.ser, .src, .line, .ev] (fun id => anyEventId id || idsIn (serId p 1) (serId p 5) id) s t) ∧
  (∀ (c a : Nat) (e : Fin 2) (g : Fin 16) (l : List Byte) (s : State),
     ∃ t, exec (.udpbcSentence c a e g l) s = .next t ∧ onlyChanges [.src] (fun _ => false) s t) ∧
  (∀ (c a : Nat) (b : Fin 4) (f : CanFrame) (s : State),
     ∃ t, exec (.canReferenceFrame c a b f) s = .next t ∧ onlyChanges [.src] (fun _ => false) s t) ∧
  (∀ (p : Fin 4) (s : State), ∃ t, exec (.talkSentenceSent p) s = .next t ∧ onlyChanges [.ser] (fun _ => false) s t) ∧
  (∀ (s : State), ∃ t, exec (.loftReplayStep) s = .next t ∧ onlyChanges [.fus, .yards] (fun id => id == 0x2323) s t) ∧
  (∀ (s : State), ∃ t, exec (.fusionUpdate) s = .next t ∧
     onlyChanges [.fus, .line, .ev, .poison, .yards] (fun id => anyEventId id || (idsIn 0x2320 0x2324 id || idsIn 0x2330
         0x233F id)) s t) ∧
  (∀ (k : Fin 48) (s : State), ∃ t, exec (.trackSilenceExpiry k) s = .next t ∧
     onlyChanges [.fus, .line, .ev] (fun id => anyEventId id || [0x2323, 0x2324].contains id) s t) ∧
  (∀ (q : Quantity) (s : State), ∃ t, exec (.modelHoldEnd q) s = .next t ∧
     onlyChanges [.fus, .line, .ev] (fun id => anyEventId id || [0x2320, 0x2323, 0x2324].contains id) s t) ∧
  (∀ (k : Fin 48) (s : State), ∃ t, exec (.votedOutReadmit k) s = .next t ∧
     onlyChanges [.fus, .line, .ev] (fun id => anyEventId id || [0x2323, 0x2324].contains id) s t) ∧
  (∀ (q : Quantity) (s : State), ∃ t, exec (.refLost q) s = .next t ∧
     onlyChanges [.arb, .fus, .ctl, .line, .ev] (fun id => anyEventId id || [0x2000, 0x210C, 0x2320, 0x2323].contains id) s t) ∧
  (∀ (s : State), ∃ t, exec (.controlLawOutput) s = .next t ∧
     onlyChanges [.ctl, .line, .ev, .poison, .yards] (fun id => anyEventId id || (idsIn 0x2003 0x2005 id || idsIn 0x2100
         0x210F id)) s t) ∧
  (∀ (s : State), ∃ t, exec (.windStaleExpiry) s = .next t ∧
     onlyChanges [.ctl, .line, .ev] (fun id => anyEventId id || (id == 0x210C)) s t) ∧
  (∀ (s : State), ∃ t, exec (.joyTimeoutExpiry) s = .next t ∧
     onlyChanges [.ctl, .line, .ev] (fun id => anyEventId id || (id == 0x210C)) s t) ∧
  (∀ (s : State), ∃ t, exec (.joyHeadingResume) s = .next t ∧ onlyChanges [.ctl] (fun _ => false) s t) ∧
  (∀ (s : State), ∃ t, exec (.allocIteration) s = .next t ∧ onlyChanges [.alc, .yards] (fun _ => false) s t) ∧
  (∀ (s : State), ∃ t, exec (.allocResult) s = .next t ∧
     onlyChanges [.alc, .line, .ev, .poison, .yards] (fun id => anyEventId id || (idsIn 0x24C0 0x24C7 id || [0x2493, 0x2497,
         0x249B, 0x249F].contains id)) s t) ∧
  (∀ (s : State), ∃ t, exec (.allocFallbackEntry) s = .next t ∧
     onlyChanges [.alc, .line, .ev] (fun id => anyEventId id || (id == 0x24C5)) s t) ∧
  (∀ (s : State), ∃ t, exec (.allocFallbackExit) s = .next t ∧ onlyChanges [.alc, .line, .ev] anyEventId s t) ∧
  (∀ (b : Fin 4) (s : State), ∃ t, exec (.powerDataStale b) s = .next t ∧
     onlyChanges [.alc, .line, .ev] (fun id => anyEventId id || (id == 0x24C5)) s t) ∧
  (∀ (c : Nat) (b : Fin 4) (f : CanFrame) (s : State),
     ∃ t, exec (.powerFrame c b f) s = .next t ∧ onlyChanges [.alc] (fun id => id == 0x2486) s t) ∧
  (∀ (c : Nat) (e : Fin 2) (l : List Byte) (s : State),
     ∃ t, exec (.ptbmpSentence c e l) s = .next t ∧ onlyChanges [.alc] (fun id => id == 0x2486) s t)

/-- Frames of servo, field channel and filter events: each answers a next state in every state, and leaves every part of the
state and every register but the named ones as they were (02 R62, 10 R307, 11 R336, 12 R360). -/
def Obligations.FieldSideFrames : Prop :=
  (∀ (i : TickIn) (s : State), ∃ t, exec (.tickEdge i) s = .next t ∧
     onlyChanges [.clk, .yards, .filt, .field, .servo, .line, .ev] (fun id => anyEventId id || ((idsIn 0x6005 0x62F6 id &&
         (id % 16 == 5 || id % 16 == 6)) || [0x6402, 0x6403, 0x6405, 0x6412, 0x6413, 0x6415].contains id || idsIn 0x6FF2
         0x6FF6 id)) s t) ∧
  (∀ (s : State), ∃ t, exec (.servoRegister) s = .next t ∧
     onlyChanges [.arb, .servo, .line, .ev, .yards] (fun id => anyEventId id || (idsIn 0x500E 0x52FE id && id % 16 == 14)) s t) ∧
  (∀ (a : Fin 48) (s : State), ∃ t, exec (.axisFault a) s = .next t ∧
     onlyChanges [.arb, .servo, .alc, .line, .ev] (fun id => anyEventId id || (id == 0x500F + 16 * a.val || (idsIn 0x500E
         0x52FE id && id % 16 == 14))) s t) ∧
  (∀ (a : Fin 48) (s : State),
     ∃ t, exec (.axisShutdownComplete a) s = .next t ∧ onlyChanges [.arb, .servo, .alc, .line, .ev] anyEventId s t) ∧
  (∀ (a : Fin 48) (s : State),
     ∃ t, exec (.axisCommandEffect a) s = .next t ∧ onlyChanges [.arb, .servo, .alc] (fun _ => false) s t) ∧
  (∀ (a : Fin 48) (s : State),
     ∃ t, exec (.pendingEnableEffect a) s = .next t ∧ onlyChanges [.arb, .servo, .alc] (fun _ => false) s t) ∧
  (∀ (k : Fin 2) (s : State), ∃ t, exec (.diagCommonEntry k) s = .next t ∧
     onlyChanges [.field, .line, .ev] (fun id => anyEventId id || (id == 0x6403 + 16 * k.val)) s t) ∧
  (∀ (k : Fin 2) (s : State),
     ∃ t, exec (.diagCommonExit k) s = .next t ∧ onlyChanges [.field, .line, .ev] anyEventId s t) ∧
  (∀ (c : Fin 48) (s : State), ∃ t, exec (.diDebounce c) s = .next t ∧ onlyChanges [.field] (fun _ => false) s t) ∧
  (∀ (c : Fin 48) (x : Bool) (s : State),
     ∃ t, exec (.doOverloadCutoff c x) s = .next t ∧ onlyChanges [.field] (fun _ => false) s t) ∧
  (∀ (c : Fin 48) (s : State), ∃ t, exec (.doRestart c) s = .next t ∧ onlyChanges [.field] (fun _ => false) s t) ∧
  (∀ (k : Fin 2) (s : State), ∃ t, exec (.bankSupplyChange k) s = .next t ∧
     onlyChanges [.field, .line, .ev] (fun id => anyEventId id || (id == 0x6403 + 16 * k.val)) s t) ∧
  (∀ (k : Fin 2) (s : State), ∃ t, exec (.bankOvercurrentTrip k) s = .next t ∧
     onlyChanges [.field, .line, .ev] (fun id => anyEventId id || [0x6402 + 16 * k.val, 0x6403 + 16 * k.val].contains id) s t) ∧
  (∀ (k : Fin 2) (s : State), ∃ t, exec (.silenceTimeout k) s = .next t ∧ onlyChanges [.field] (fun _ => false) s t) ∧
  (∀ (k : Fin 2) (s : State), ∃ t, exec (.silenceResume k) s = .next t ∧ onlyChanges [.field] (fun _ => false) s t) ∧
  (∀ (c : Fin 48) (s : State), ∃ t, exec (.modeChangeEffect c) s = .next t ∧ onlyChanges [.field] (fun _ => false) s t) ∧
  (∀ (x : SincIn) (s : State), ∃ t, exec (.sincOutput x) s = .next t ∧
     onlyChanges [.filt, .line, .ev, .yards] (fun id => anyEventId id || (idsIn 0x5406 0x56F7 id && (id % 16 == 6 || id % 16
         == 7))) s t) ∧
  (∀ (l : Fin 48) (s : State), ∃ t, exec (.settlingEnd l) s = .next t ∧ onlyChanges [.filt] (fun _ => false) s t) ∧
  (∀ (c : Nat) (r : Bool) (s : State), ∃ t, exec (.syncInEdge c r) s = .next t ∧
     onlyChanges [.filt, .line, .ev] (fun id => anyEventId id || [0x5409, 0x540A].contains id) s t)

/-- Frames of beat edge and twin events: each answers a next state in every state, and leaves every part of the state and
every register but the named ones as they were; MIRROR_ADOPTION and COMMIT_MARKER may write any register that a mirror or a
command carries (01 R46, 15 R441-R459). -/
def Obligations.TwinFrames : Prop :=
  (∀ (w : BitVec 4) (s : State), ∃ t, exec (.beatEdge w) s = .next t ∧
     onlyChanges [.ser, .snap, .idReq, .twin, .line, .ev, .power, .clk, .src, .can, .fus, .filt, .field, .servo, .eth, .ctl,
         .alc, .poison] (fun id => anyEventId id || ([0x1404, 0x1407].contains id || (idsIn 0x5406 0x56F6 id && id % 16 ==
         6) || (idsIn 0x7009 0x70E4 id && (id % 64 == 9 || id % 64 == 36)) || (idsIn 0x7301 0x7336 id && (id % 16 == 1 || id
         % 16 == 6)))) s t) ∧
  (∀ (x : LaneResult) (s : State), ∃ t, exec (.laneCompare x) s = .next t ∧
     onlyChanges [.idReq, .twin, .can, .line, .ev, .yards] (fun id => anyEventId id || [0x1004, 0x1404].contains id) s t) ∧
  (∀ (s : State), ∃ t, exec (.exchangeSend) s = .next t ∧ onlyChanges [.twin] (fun _ => false) s t) ∧
  (∀ (c : Nat) (p : Fin 2) (m : List Byte) (s : State), ∃ t, exec (.partnerExchange c p m) s = .next t ∧
     onlyChanges [.idReq, .twin, .power, .line, .ev] (fun id => anyEventId id || [0x1106, 0x7400, 0x7401, 0x7404].contains
         id) s t) ∧
  (∀ (s : State), ∃ t, exec (.interUnitCompare) s = .next t ∧
     onlyChanges [.twin, .line, .ev] (fun id => anyEventId id || [0x1404, 0x1405].contains id) s t) ∧
  (∀ (s : State), ∃ t, exec (.mirrorSend) s = .next t ∧ onlyChanges [.twin, .free] (fun _ => false) s t) ∧
  (∀ (p k : Bool) (s : State), ∃ t, exec (.mirrorAckSend p k) s = .next t ∧ onlyChanges [.twin] (fun _ => false) s t) ∧
  (∀ (c : Nat) (p : Fin 2) (m : List Byte) (s : State), ∃ t, exec (.partnerAck c p m) s = .next t ∧
     onlyChanges [.idReq, .twin, .power, .line, .ev] (fun id => anyEventId id || [0x7400, 0x7401, 0x7404].contains id) s t) ∧
  (∀ (x : MirrorRx) (s : State), ∃ t, exec (.mirrorAdoption x) s = .next t ∧
     onlyChanges [.arb, .time, .twin, .load, .gnss, .line, .ev, .power, .src, .can, .fus, .filt, .servo, .eth, .ctl,
         .session, .poison, .alc] (fun _ => true) s t) ∧
  (∀ (s : State), ∃ t, exec (.remirrorExit) s = .next t ∧ onlyChanges [.twin, .line, .ev] anyEventId s t) ∧
  (∀ (c : Nat) (m : CommitMarker) (s : State), ∃ t, exec (.commitMarker c m) s = .next t ∧
     onlyChanges [.snap, .arb, .time, .twin, .load, .gnss, .line, .ev, .power, .src, .can, .fus, .filt, .servo, .eth, .ctl,
         .session, .poison, .alc] (fun _ => true) s t) ∧
  (∀ (c : Nat) (a : Fin 48) (x : AxisForward) (s : State), ∃ t, exec (.forwardedAxisTransition c a x) s = .next t ∧
     onlyChanges [.twin, .servo, .alc, .line, .ev] (fun id => anyEventId id || [0x500E + 16 * a.val, 0x500F + 16 *
         a.val].contains id) s t) ∧
  (∀ (c : Nat) (p : Fin 2) (m : BeatMarkerMsg) (s : State), ∃ t, exec (.beatMarker c p m) s = .next t ∧
     onlyChanges [.idReq, .twin, .power, .line, .ev] (fun id => anyEventId id || [0x1102, 0x7400, 0x7401, 0x7404].contains
         id) s t) ∧
  (∀ (s : State), ∃ t, exec (.skewRegister) s = .next t ∧
     onlyChanges [.twin, .line, .ev] (fun id => anyEventId id || [0x1102, 0x1103, 0x1104, 0x1106].contains id) s t) ∧
  (∀ (s : State), ∃ t, exec (.markerLoss) s = .next t ∧ onlyChanges [.twin] (fun id => id == 0x1102) s t) ∧
  (∀ (c : Nat) (p : Fin 2) (w : PairLoss) (s : State), ∃ t, exec (.fjPairLost c p w) s = .next t ∧
     onlyChanges [.idReq, .twin, .line, .ev] (fun id => anyEventId id || [0x7400, 0x7401, 0x7402 + p.val].contains id) s t) ∧
  (∀ (c : Nat) (p : Fin 2) (s : State), ∃ t, exec (.fjPairRegained c p) s = .next t ∧
     onlyChanges [.twin, .line, .ev] (fun id => anyEventId id || (id == 0x7400)) s t) ∧
  (∀ (s : State), ∃ t, exec (.halterExpiryTake) s = .next t ∧
     onlyChanges [.twin, .can, .line, .ev] (fun id => anyEventId id || [0x1404, 0x1407].contains id) s t) ∧
  (∀ (s : State), ∃ t, exec (.halterLeaseLapse) s = .next t ∧
     onlyChanges [.idReq, .twin, .can, .line, .ev] (fun id => anyEventId id || [0x1404, 0x1407].contains id) s t) ∧
  (∀ (s : State), ∃ t, exec (.aloneWaitExpiry) s = .next t ∧
     onlyChanges [.twin, .can, .line, .ev] (fun id => anyEventId id || [0x1404, 0x1407].contains id) s t) ∧
  (∀ (s : State), ∃ t, exec (.halterRequestExpiry) s = .next t ∧ onlyChanges [.twin] (fun _ => false) s t) ∧
  (∀ (s : State), ∃ t, exec (.partnerPresence) s = .next t ∧
     onlyChanges [.twin, .line, .ev] (fun id => anyEventId id || [0x1102, 0x1404].contains id) s t) ∧
  (∀ (c : Nat) (b : Fin 4) (f : CanFrame) (s : State), ∃ t, exec (.partnerHeartbeat c b f) s = .next t ∧
     onlyChanges [.twin, .power] (fun id => [canId b.val 9, 0x7401].contains id) s t)

/-- Frames of CAN, Ethernet, PTP and slot events: each answers a next state in every state, and leaves every part of the
state and every register but the named ones as they were (13 R388, R392, 14 R407-R428). -/
def Obligations.NetworkFrames : Prop :=
  (∀ (c : Nat) (b : Fin 4) (d : Nat) (s : State), ∃ t, exec (.canTxComplete c b d) s = .next t ∧
     onlyChanges [.twin, .can, .line, .ev, .yards] (fun id => anyEventId id || [canId b.val 9, canId b.val 0x20, canId b.val
         0x22, canId b.val 0x24, canId b.val 0x25].contains id) s t) ∧
  (∀ (c : Nat) (b : Fin 4) (s : State), ∃ t, exec (.canAckError c b) s = .next t ∧
     onlyChanges [.can, .line, .ev] (fun id => anyEventId id || [canId b.val 9, canId b.val 0x22, canId b.val 0x24, canId
         b.val 0x25].contains id) s t) ∧
  (∀ (c : Nat) (b : Fin 4) (s : State), ∃ t, exec (.canClash c b) s = .next t ∧
     onlyChanges [.can, .line, .ev] (fun id => anyEventId id || [canId b.val 9, canId b.val 0x22, canId b.val 0x23, canId
         b.val 0x24, canId b.val 0x25].contains id) s t) ∧
  (∀ (c : Nat) (b : Fin 4) (e : CanError) (s : State), ∃ t, exec (.canBusError c b e) s = .next t ∧
     onlyChanges [.can, .line, .ev] (fun id => anyEventId id || [canId b.val 9, canId b.val 0x22, canId b.val 0x24, canId
         b.val 0x25].contains id) s t) ∧
  (∀ (c : Nat) (b : Fin 4) (s : State),
     ∃ t, exec (.canBusOffRecovery c b) s = .next t ∧ onlyChanges [.can, .line, .ev] anyEventId s t) ∧
  (∀ (b : Fin 4) (w : Bool) (s : State),
     ∃ t, exec (.canEnableEffect b w) s = .next t ∧ onlyChanges [.can] (fun _ => false) s t) ∧
  (∀ (c : Nat) (b : Fin 4) (s : State),
     ∃ t, exec (.canIntegrationDone c b) s = .next t ∧ onlyChanges [.can] (fun _ => false) s t) ∧
  (∀ (c : Nat) (b : Fin 4) (f : CanFrame) (s : State), ∃ t, exec (.canFrameReceived c b f) s = .next t ∧
     onlyChanges [.free, .can, .line, .ev, .yards] (fun id => anyEventId id || [canId b.val 9, canId b.val 0x21, canId b.val
         0x25].contains id) s t) ∧
  (∀ (c : Nat) (e : Fin 2) (u : Bool) (s : State), ∃ t, exec (.ethLinkChange c e u) s = .next t ∧
     onlyChanges [.eth, .line, .ev] (fun id => anyEventId id || [ethId e 5, ethId e 6].contains id) s t) ∧
  (∀ (c : Nat) (e : Fin 2) (f : EthFrame) (s : State), ∃ t, exec (.ethFrameRx c e f) s = .next t ∧
     onlyChanges [.eth, .line, .ev] (fun id => anyEventId id || [ethId e 6, ethId e 7, ethId e 9].contains id) s t) ∧
  (∀ (c : Nat) (e : Fin 2) (s : State),
     ∃ t, exec (.ethFrameTx c e) s = .next t ∧ onlyChanges [.time, .eth] (fun id => id == ethId e 8) s t) ∧
  (∀ (c : Nat) (e : Fin 2) (x i : Word) (m : BitVec 48) (s : State),
     ∃ t, exec (.arpRequest c e x i m) s = .next t ∧ onlyChanges [.eth] (fun _ => false) s t) ∧
  (∀ (c : Nat) (p : Peer) (x : Word) (d : List Byte) (s : State),
     ∃ t, exec (.icmpEcho c p x d) s = .next t ∧ onlyChanges [.eth] (fun _ => false) s t) ∧
  (∀ (c : Nat) (e : Fin 2) (g : Option (Fin 16)) (s : State),
     ∃ t, exec (.igmpQuery c e g) s = .next t ∧ onlyChanges [.eth] (fun _ => false) s t) ∧
  (∀ (c : Nat) (e d : Fin 2) (m : AnnounceMsg) (s : State), ∃ t, exec (.ptpAnnounce c e d m) s = .next t ∧
     onlyChanges [.time, .line, .ev] (fun id => anyEventId id || (id == slotId d 10)) s t) ∧
  (∀ (c : Nat) (d : Fin 2) (s : State),
     ∃ t, exec (.announceTimeout c d) s = .next t ∧ onlyChanges [.time, .line, .ev] anyEventId s t) ∧
  (∀ (c : Nat) (e d : Fin 2) (m : PtpMsg) (s : State),
     ∃ t, exec (.ptpSync c e d m) s = .next t ∧ onlyChanges [.time] (fun id => id == slotId d 10) s t) ∧
  (∀ (c : Nat) (e d : Fin 2) (m : PtpMsg) (s : State),
     ∃ t, exec (.ptpFollowUp c e d m) s = .next t ∧ onlyChanges [.time] (fun id => id == slotId d 10) s t) ∧
  (∀ (c : Nat) (e d : Fin 2) (m : PtpMsg) (s : State),
     ∃ t, exec (.ptpDelayResp c e d m) s = .next t ∧ onlyChanges [.time] (fun id => id == slotId d 10) s t) ∧
  (∀ (d : Fin 2) (n : Nat) (s : State),
     ∃ t, exec (.delayReqSend d n) s = .next t ∧ onlyChanges [.time, .eth] (fun _ => false) s t) ∧
  (∀ (d : Fin 2) (s : State),
     ∃ t, exec (.acquisitionRunEnd d) s = .next t ∧ onlyChanges [.time, .line, .ev] anyEventId s t) ∧
  (∀ (d : Fin 2) (s : State),
     ∃ t, exec (.acquisitionRunBreak d) s = .next t ∧ onlyChanges [.time] (fun _ => false) s t) ∧
  (∀ (d : Fin 2) (s : State), ∃ t, exec (.slotHoldover d) s = .next t ∧
     onlyChanges [.time, .line, .ev] (fun id => anyEventId id || (id == 0x7206)) s t) ∧
  (∀ (d : Fin 2) (s : State), ∃ t, exec (.slotFreeRun d) s = .next t ∧
     onlyChanges [.time, .line, .ev] (fun id => anyEventId id || (id == 0x7206)) s t) ∧
  (∀ (c : Nat) (d : Fin 2) (s : State),
     ∃ t, exec (.slotStep c d) s = .next t ∧ onlyChanges [.time, .line, .ev] (fun id => anyEventId id || (id == 0x7206)) s t) ∧
  (∀ (c : Nat) (s : State), ∃ t, exec (.timeSwitchAuto c) s = .next t ∧
     onlyChanges [.time, .line, .ev] (fun id => anyEventId id || (id == 0x7206)) s t) ∧
  (∀ (c : Nat) (s : State),
     ∃ t, exec (.switchStep c) s = .next t ∧ onlyChanges [.time, .line, .ev] (fun id => anyEventId id || (id == 0x7206)) s t) ∧
  (∀ (c : Nat) (s : State), ∃ t, exec (.switchSlewEnd c) s = .next t ∧ onlyChanges [.time] (fun _ => false) s t) ∧
  (∀ (c : Nat) (s : State), ∃ t, exec (.leapSecond c) s = .next t ∧ onlyChanges [.time] (fun _ => false) s t) ∧
  (∀ (c : Nat) (s : State), ∃ t, exec (.ppsPulse c) s = .next t ∧
     onlyChanges [.time, .power, .line, .ev] (fun id => anyEventId id || [0x7206, 0x7208].contains id) s t) ∧
  (∀ (s : State), ∃ t, exec (.ppsPulseEnd) s = .next t ∧ onlyChanges [.time] (fun _ => false) s t)

/-- Frames of GNSS, session, health, power and bring-up events: each answers a next state in every state, and leaves every
part of the state and every register but the named ones as they were; SUBFRAME_RECEIVED for its ten words; a restarted or
started module keeps its queue, its nonvolatile store and the registers of PD0 (01 R24, R41, 07 R215, 16 R475-R482). -/
def Obligations.GnssAndPowerFrames : Prop :=
  (∀ (a : Fin 2) (m : Nat) (s : State), ∃ t, exec (.antennaBiasClass a m) s = .next t ∧
     onlyChanges [.gnss, .line, .ev] (fun id => anyEventId id || [0x4010 + a.val, 0x4016].contains id) s t) ∧
  (∀ (a : Fin 2) (m : Nat) (s : State), ∃ t, exec (.antennaRetest a m) s = .next t ∧
     onlyChanges [.gnss, .line, .ev] (fun id => anyEventId id || [0x4010 + a.val, 0x4016].contains id) s t) ∧
  (∀ (c : Nat) (ch : Fin 48) (x : CorrelatorSums) (s : State),
     ∃ t, exec (.gnssIntegration c ch x) s = .next t ∧ onlyChanges [.gnss, .yards] (fun _ => false) s t) ∧
  (∀ (c : Nat) (ch : Fin 48) (s : State),
     ∃ t, exec (.channelLossOfLock c ch) s = .next t ∧ onlyChanges [.gnss] (fun _ => false) s t) ∧
  (∀ (c : Nat) (p : Fin 24) (s : State),
     ∃ t, exec (.satelliteRelease c p) s = .next t ∧ onlyChanges [.gnss] (fun _ => false) s t) ∧
  (∀ (c : Nat) (m : List ChannelLatch) (s : State),
     ∃ t, exec (.measurementTick c m) s = .next t ∧ onlyChanges [.gnss, .yards] (fun id => id == 0x4014) s t) ∧
  (∀ (c : Nat) (d : EpochData) (s : State), ∃ t, exec (.epochStrobe c d) s = .next t ∧
     onlyChanges [.time, .gnss, .src, .line, .ev, .yards] (fun id => anyEventId id || (idsIn 0x4012 0x4018 id || [slotId 0
         10, slotId 1 10].contains id)) s t) ∧
  (∀ (c : Nat) (k : Fin 6) (s : State), ∃ t, exec (.checkClear c k) s = .next t ∧
     onlyChanges [.gnss, .line, .ev] (fun id => anyEventId id || (id == 0x4015)) s t) ∧
  (∀ (c : Nat) (s : State), ∃ t, exec (.gnssBlockWrite c) s = .next t ∧ onlyChanges [.gnss] (fun _ => false) s t) ∧
  (∀ (s : State), ∃ t, exec (.gnssStartTimeout) s = .next t ∧ onlyChanges [.gnss] (fun _ => false) s t) ∧
  (∀ (c : Nat) (l : List FwWrite) (s : State), ∃ t, exec (.firmwareRepeat c l) s = .next t ∧
     onlyChanges [.arb, .poison] (fun id => (id == 0x1312 || ((s.arb.fwLost.elim l (·.2)).map (·.id)).contains id)) s t) ∧
  (∀ (p : Fin 2) (s : State), ∃ t, exec (.sessionIdleExpiry p) s = .next t ∧
     onlyChanges [.session, .line, .ev] (fun id => anyEventId id || (id == 0x1005)) s t) ∧
  (∀ (p : Fin 2) (s : State),
     ∃ t, exec (.expertLockEnd p) s = .next t ∧ onlyChanges [.session] (fun id => id == 0x1005) s t) ∧
  (∀ (s : State), ∃ t, exec (.configLoadTimeout) s = .next t ∧ onlyChanges [.load] (fun _ => false) s t) ∧
  (∀ (c : Nat) (b : Bool) (s : State),
     ∃ t, exec (.configFileStored c b) s = .next t ∧ onlyChanges [.load, .nv, .line, .ev] anyEventId s t) ∧
  (∀ (y : Fin 8) (m : Nat) (e : ReadError) (s : State), ∃ t, exec (.scrubRead y m e) s = .next t ∧
     onlyChanges [.yards, .poison, .line, .ev] (fun id => anyEventId id || idsIn (0x1000 * y.val + 0xFF0) (0x1000 * y.val +
         0xFF5) id) s t) ∧
  (∀ (c : Nat) (y : Fin 8) (b : Fin 32) (s : State), ∃ t, exec (.blockFault c y b) s = .next t ∧
     onlyChanges [.time, .idReq, .twin, .power, .yards, .can, .line, .ev, .src] (fun id => anyEventId id || (id == 0x1004 ||
         idsIn (0x1000 * y.val + 0xFF2) (0x1000 * y.val + 0xFF6) id)) s t) ∧
  (∀ (y : Fin 8) (b : Fin 32) (s : State),
     ∃ t, exec (.blockResetDone y b) s = .next t ∧ onlyChanges [.yards, .line] (fun _ => false) s t) ∧
  (∀ (c : Nat) (y : Fin 8) (x : FenceCause) (s : State), ∃ t, exec (.yardFence c y x) s = .next t ∧
     onlyChanges [.clk, .time, .idReq, .twin, .power, .can, .line, .ev, .src] (fun id => anyEventId id || (id == 0x1004 ||
         idsIn (0x1000 * y.val + 0xFF2) (0x1000 * y.val + 0xFF5) id)) s t) ∧
  (∀ (c : Nat) (i : SupplyInput) (v : Bool) (m d w : Nat) (s : State),
     ∃ t, exec (.supplyInputChange c i v m d w) s = .next t ∧
     onlyChanges [.clk, .power, .line, .ev] (fun id => anyEventId id || [0x1507, 0x1508, 0x150A].contains id) s t) ∧
  (∀ (s : State), ∃ t, exec (.sleepEntry) s = .next t ∧
     onlyChanges [.clk, .twin, .gnss, .session, .power, .line, .ev] (fun id => anyEventId id || (id == 0x1005)) s t) ∧
  (∀ (s : State), ∃ t, exec (.sleepEntryDone) s = .next t ∧
     onlyChanges [.clk, .gnss, .power, .field] (fun id => decide (0x2000 ≤ id) && id % 0x1000 == 0xFF2) s t) ∧
  (∀ (c n : Nat) (s : State), ∃ t, exec (.wakeEvent c n) s = .next t ∧ onlyChanges [.clk, .power] (fun _ => false) s t) ∧
  (∀ (c : Nat) (b : Fin 4) (s : State),
     ∃ t, exec (.canWakeCheck c b) s = .next t ∧ onlyChanges [.clk, .power] (fun id => id == 0x7FF2) s t) ∧
  (∀ (c : Nat) (s : State), ∃ t, exec (.wakeCheckTimeout c) s = .next t ∧
     onlyChanges [.clk, .power] (fun id => [0x7FF2, 0x150A, 0x150C].contains id) s t) ∧
  (∀ (c : Nat) (s : State), ∃ t, exec (.watchWindowOpen c) s = .next t ∧
     onlyChanges [.clk, .gnss, .power] (fun id => [0x4FF2, 0x7FF2, 0x4018].contains id) s t) ∧
  (∀ (c : Nat) (s : State), ∃ t, exec (.watchWindowClose c) s = .next t ∧
     onlyChanges [.clk, .gnss, .power] (fun id => [0x4FF2, 0x7FF2].contains id) s t) ∧
  (∀ (b : Bool) (s : State),
     ∃ t, exec (.clockStart b) s = .next t ∧ onlyChanges [.clk, .power] (fun id => id == 0x0003) s t) ∧
  (∀ (s : State), ∃ t, exec (.clockStartRetry) s = .next t ∧ onlyChanges [.power] (fun _ => false) s t) ∧
  (∀ (c : Nat) (s : State), ∃ t, exec (.rtcAlarm c) s = .next t ∧
     onlyChanges [.clk, .power, .line, .ev] (fun id => anyEventId id || [0x0004, 0x0005].contains id) s t) ∧
  (∀ (n : Nat) (s : State), ∃ t, exec (.backupCellMeasure n) s = .next t ∧
     onlyChanges [.power, .line, .ev] (fun id => anyEventId id || [0x0006, 0x150A].contains id) s t) ∧
  (∀ (s : State), ∃ t, exec (.backupCellRemoved) s = .next t ∧
     onlyChanges [.gnss, .power, .ev] (fun id => (idsIn 0 6 id || id == 0x150B)) s t) ∧
  (∀ (s : State), ∃ t, exec (.yardRestartBegin) s = .next t ∧
     onlyChanges [.clk, .gnss, .session, .poison, .yards, .restart, .power, .line, .ev] (fun id => anyEventId id || (id ==
         0x1005 || [0, 4].contains (yardOf id))) s t) ∧
  (∀ (s : State), ∃ t, exec (.moduleResetBegin) s = .next t ∧
     onlyChanges [.clk, .session, .restart, .power, .line, .ev] (fun id => anyEventId id || (id == 0x1005)) s t) ∧
  (∀ (n : Nat) (s : State), ∃ t, exec (.bringUpStart n) s = .next t ∧
     onlyChanges [.clk, .snap, .poison, .arb, .yards, .restart, .host, .line, .session, .load, .src, .ser, .fus, .gnss,
         .ctl, .alc, .servo, .field, .filt, .can, .idReq, .time, .eth, .twin, .power, .ev] (fun id => decide (6 < id)) s t) ∧
  (∀ (v : SelfTest) (s : State), ∃ t, exec (.pd1Verdict v) s = .next t ∧
     onlyChanges [.time, .idReq, .twin, .power, .yards, .can, .line, .ev] (fun id => anyEventId id || (decide (0x1000 ≤ id)
         && decide (id ≤ 0x1FFF) || id == 0x4FF2)) s t) ∧
  (∀ (s : State), ∃ t, exec (.historyFlush) s = .next t ∧ onlyChanges [.gnss, .power, .ev] (fun _ => false) s t) ∧
  (∀ (v : SelfTest) (s : State), ∃ t, exec (.pd4Verdict v) s = .next t ∧
     onlyChanges [.time, .idReq, .twin, .gnss, .power, .yards, .can, .line, .ev, .src] (fun id => anyEventId id || ([0x1004,
         0x1509, 0x150A, 0x4018].contains id || idsIn 0x4FF2 0x4FF6 id || id % 0x1000 == 0xFF2)) s t) ∧
  (∀ (v : SelfTest) (x : Bool) (s : State), ∃ t, exec (.selftestVerdicts v x) s = .next t ∧
     onlyChanges [.snap, .time, .idReq, .twin, .power, .clk, .yards, .can, .filt, .field, .servo, .alc, .line, .ev] (fun _
         => true) s t) ∧
  (∀ (b : Bool) (s : State), ∃ t, exec (.crossCheckVerdict b) s = .next t ∧
     onlyChanges [.idReq, .twin, .can, .line, .ev] (fun id => anyEventId id || [0x1004, 0x1509].contains id) s t) ∧
  (∀ (c : Nat) (s : State), ∃ t, exec (.handshakeSend c) s = .next t ∧ onlyChanges [.twin] (fun _ => false) s t) ∧
  (∀ (c : Nat) (p : Fin 2) (m : List Byte) (s : State), ∃ t, exec (.handshakeMessage c p m) s = .next t ∧
     onlyChanges [.idReq, .twin, .power, .line, .ev] (fun id => anyEventId id || [0x1102, 0x1104, 0x7400, 0x7401,
         0x7404].contains id) s t) ∧
  (∀ (s : State), ∃ t, exec (.handshakeVerdict) s = .next t ∧
     onlyChanges [.snap, .idReq, .twin, .power, .clk, .can, .filt, .field, .line, .ev] (fun id => anyEventId id || [0x1004,
         0x1102, 0x5409, 0x7401].contains id) s t) ∧
  (∀ (s : State),
     ∃ t, exec (.bringUpEnd) s = .next t ∧ onlyChanges [.power, .line, .ev] (fun id => anyEventId id || (id == 0x1004)) s t) ∧
  (∀ (c : Nat) (ch : Fin 48) (w : List Word) (s : State), w.length = 10 →
     ∃ t, exec (.subframeReceived c ch w) s = .next t ∧ onlyChanges [.time, .gnss] [0x4016, 0x4017].contains s t)

/-- Frames of the requests (04 R109, R111, R114, R126, R130, 01 R24): each request answers a next state in every state,
served or refused, and leaves every part of the state and every register but the named ones as they were; beside its effect
it touches only its session timer, the arbiter, its reply, what the holder forwards, and CMD_STICKY and CONFLICT_COUNT. -/
def Obligations.RequestFrames : Prop :=
  (requestFrame opIdent .ident [] noId) ∧
  (requestFrame opStatus .status [] noId) ∧
  (requestFrame opEventsRead .eventsRead [.ev] noId) ∧
  (requestFrame opExpertOpen .expertOpen [.ev] anyEventId) ∧
  (requestFrame opExpertClose .expertClose [.ev] anyEventId) ∧
  (requestFrame opEcho .echo [] noId) ∧
  (requestFrame opParamDescribe .paramDescribe [] noId) ∧
  (requestFrame opExpertCodeSet .expertCodeSet [.nv] noId) ∧
  (requestFrame opModeSetBasic .modeSetBasic [.ctl, .ev] anyEventId) ∧
  (requestFrame opModeSetExpert .modeSetExpert [.ctl, .ev] anyEventId) ∧
  (requestFrame opSetpointSet .setpointSet [.ctl] noId) ∧
  (requestFrame opJoystickSet .joystickSet [.ctl] noId) ∧
  (requestFrame opBerthPushSet .berthPushSet [] noId) ∧
  (requestFrame opTrackLoad .trackLoad [.ctl] noId) ∧
  (requestFrame opLossModeSet .lossModeSet [] noId) ∧
  (requestFrame opRefConfigBasic .refConfigBasic [] noId) ∧
  (requestFrame opRefConfigExpert .refConfigExpert [] noId) ∧
  (requestFrame opRefEnable .refEnable [.src] noId) ∧
  (requestFrame opRefStatusRead .refStatusRead [.src] noId) ∧
  (requestFrame opSelectReference .selectReference [.fus] noId) ∧
  (requestFrame opReplayWindowSet .replayWindowSet [] noId) ∧
  (requestFrame opTrackListRead .trackListRead [] noId) ∧
  (requestFrame opThrusterEnable .thrusterEnable [.servo, .alc] noId) ∧
  (requestFrame opThrusterDisable .thrusterDisable [.servo, .alc] (fun id => idsIn 0x500E 0x52FE id && id % 16 == 14)) ∧
  (requestFrame opAllocConfigBasic .allocConfigBasic [] noId) ∧
  (requestFrame opAllocConfigExpert .allocConfigExpert [] noId) ∧
  (requestFrame opPowerLimitSet .powerLimitSet [] noId) ∧
  (requestFrame opAllocResultRead .allocResultRead [] noId) ∧
  (requestFrame opCompatModeSet .compatModeSet [] noId) ∧
  (requestFrame opAxisEnable .axisEnable [.servo] noId) ∧
  (requestFrame opAxisDisable .axisDisable [.servo] (fun id => idsIn 0x500E 0x52FE id && id % 16 == 14)) ∧
  (requestFrame opAxisConfigBasic .axisConfigBasic [] noId) ∧
  (requestFrame opAxisConfigExpert .axisConfigExpert [] noId) ∧
  (requestFrame opCompTableLoad .compTableLoad [.servo, .ev] anyEventId) ∧
  (requestFrame opAxisStatusRead .axisStatusRead [] noId) ∧
  (requestFrame opChannelConfigBasic .channelConfigBasic [] noId) ∧
  (requestFrame opChannelConfigExpert .channelConfigExpert [] noId) ∧
  (requestFrame opOutputSet .outputSet [] noId) ∧
  (requestFrame opChannelRead .channelRead [] noId) ∧
  (requestFrame opSafeValueSet .safeValueSet [] noId) ∧
  (requestFrame opBankStatusRead .bankStatusRead [] noId) ∧
  (requestFrame opFilterPreset .filterPreset [] noId) ∧
  (requestFrame opFilterCustom .filterCustom [.filt] noId) ∧
  (requestFrame opSyncFilters .syncFilters [.filt, .ev] (fun id => anyEventId id || id == 0x540A)) ∧
  (requestFrame opDcBlockSet .dcBlockSet [] noId) ∧
  (requestFrame opCanConfigBasic .canConfigBasic [] noId) ∧
  (requestFrame opCanConfigExpert .canConfigExpert [] noId) ∧
  (requestFrame opCanIdEnable .canIdEnable [.idReq, .can] noId) ∧
  (requestFrame opCanStatusRead .canStatusRead [.can] noId) ∧
  (requestFrame opCanSend .canSend [.can] noId) ∧
  (requestFrame opEthConfig .ethConfig [] noId) ∧
  (requestFrame opPtpConfigBasic .ptpConfigBasic [.time, .ev] (fun id => anyEventId id || id == 0x7206)) ∧
  (requestFrame opPtpConfigExpert .ptpConfigExpert [.time, .ev] (fun id => anyEventId id || id == 0x7206)) ∧
  (requestFrame opTimeRead .timeRead [] noId) ∧
  (requestFrame opTimeDomainSelect .timeDomainSelect [.time, .ev] (fun id => anyEventId id || id == 0x7206)) ∧
  (requestFrame opGnssConfigBasic .gnssConfigBasic [.gnss] (fun id => [0x4010, 0x4011, 0x4014].contains id)) ∧
  (requestFrame opGnssConfigExpert .gnssConfigExpert [.gnss] (fun id => [0x4010, 0x4011, 0x4014].contains id)) ∧
  (requestFrame opGnssStatusRead .gnssStatusRead [] noId) ∧
  (requestFrame opHeadingBaselineSet .headingBaselineSet [.gnss] (fun id => [0x4010, 0x4011, 0x4014].contains id)) ∧
  (requestFrame opGnssRestart .gnssRestart [.gnss] (fun id => [0x4014, 0x4016].contains id)) ∧
  (requestFrame opTwinStatusRead .twinStatusRead [] noId) ∧
  (requestFrame opHalterRequest .halterRequest [] noId) ∧
  (requestFrame opHalterRelease .halterRelease [] noId) ∧
  (requestFrame opTwinToleranceSet .twinToleranceSet [] noId) ∧
  (requestFrame opPowerStateSet .powerStateSet [.clk, .power] noId) ∧
  (requestFrame opWakeConfig .wakeConfig [] noId) ∧
  (requestFrame opRtcAlarmSet .rtcAlarmSet [] noId) ∧
  (requestFrame opPowerStatusRead .powerStatusRead [.free] noId) ∧
  (requestFrame opConfigFileStatus .configFileStatus [] noId) ∧
  (requestFrame opYardRestart .yardRestart [.restart] noId) ∧
  (requestFrame opConfigFileLoad .configFileLoad [.load, .alc, .servo, .filt, .ev] anyEventId) ∧
  (requestFrame opModuleReset .moduleReset [.restart] noId) ∧
  (∀ (h : ReqHead) (q : Fin 32) (v : Word) (s : State), ∃ t, exec (.srcCtrlWrite h q v) s = .next t ∧
     onlyChanges (replyParts ++ [.src]) ([0x2200 + 8 * q.val] ++ [0x1007, 0x1008]).contains s t) ∧
  (∀ (h : ReqHead) (v : Word) (s : State), ∃ t, exec (.timeCtrlWrite h v) s = .next t ∧
     onlyChanges (replyParts ++ [.time, .ev]) (fun id => anyEventId id || ([0x7200, 0x7206] ++ [0x1007, 0x1008]).contains
         id) s t) ∧
  (∀ (h : ReqHead) (a b : Option Word) (s : State), ∃ t, exec (.originWrite h a b) s = .next t ∧
     onlyChanges (replyParts ++ [.fus, .ctl]) ([0x2301, 0x2302, 0x2101] ++ [0x1007, 0x1008]).contains s t) ∧
  (∀ (h : ReqHead) (v : Word) (s : State),
     ∃ t, exec (.histSelect h v) s = .next t ∧ onlyChanges replyParts ([0x1310] ++ [0x1007, 0x1008]).contains s t) ∧
  (∀ (h : ReqHead) (v : Word) (s : State),
     ∃ t, exec (.histClear h v) s = .next t ∧ onlyChanges (replyParts ++ [.ev]) ([0x1311] ++ [0x1007, 0x1008]).contains s t) ∧
  (∀ (h : ReqHead) (k : Fin 2) (v : Word) (s : State), ∃ t, exec (.bankLatchClear h k v) s = .next t ∧
     onlyChanges replyParts ([0x6402 + 16 * k.val] ++ [0x1007, 0x1008]).contains s t) ∧
  (∀ (h : ReqHead) (p : Fin 2) (a b : Option Word) (s : State), ∃ t, exec (.inboxLayoutWrite h p a b) s = .next t ∧
     onlyChanges replyParts ([portId p 0, portId p 1] ++ [0x1007, 0x1008]).contains s t) ∧
  (∀ (h : ReqHead) (a b : Option Word) (s : State), ∃ t, exec (.cmdPeerWrite h a b) s = .next t ∧
     onlyChanges (replyParts ++ [.ev]) (fun id => anyEventId id || ([0x1219, 0x121A, 0x1005] ++ [0x1007, 0x1008]).contains
         id) s t) ∧
  (∀ (h : ReqHead) (b : Fin 4) (v : Word) (s : State), ∃ t, exec (.canCtrlWrite h b v) s = .next t ∧
     onlyChanges replyParts ([0x7000 + 64 * b.val] ++ [0x1007, 0x1008]).contains s t) ∧
  (∀ (h : ReqHead) (b : Fin 4) (v : Word) (s : State), ∃ t, exec (.busPresentWrite h b v) s = .next t ∧
     onlyChanges replyParts ([0x2492 + 4 * b.val] ++ [0x1007, 0x1008]).contains s t) ∧
  (∀ (h : ReqHead) (a b : Option Word) (s : State), ∃ t, exec (.timeIncWrite h a b) s = .next t ∧
     onlyChanges replyParts ([0x7201, 0x7202] ++ [0x1007, 0x1008]).contains s t) ∧
  (∀ (r : Req) (l : List Nat) (s : State), ∃ t, exec (.paramRead r l) s = .next t ∧
     onlyChanges (replyParts ++ [.ev]) (fun id => anyEventId id || [0xFF1, 0xFF5].contains (id % 0x1000) || requestIds
         (opParamRead l) r s id) s t) ∧
  (∀ (r : Req) (s : State), ∃ t, exec (.paramWrite r) s = .next t ∧
     onlyChanges (replyParts ++ [.src, .fus, .ctl, .gnss, .time, .power, .ev]) (fun id => requestIds opParamWrite r s id ||
         anyEventId id || [0x1005, 0x150A, 0x2101, 0x4010, 0x4011, 0x4014, 0x7206].contains id) s t)

/-- The event queue (17 R505): it holds 256 entries in the form of R127 and either port reads the same one; while it is full
an event is not queued but counted in EVQ_LOST_COUNT, bit 16 of EVQ_STATE reads 1, and the event still sets its sticky bit
and goes to the history with FLAGS bit 2; the first entry written after that carries FLAGS bit 1. -/
def Obligations.FullQueueKeepsOldest : Prop :=
  (∀ (n a : Nat) (s : State), s.clk.core = true → n < 128 → s.ev.queue.length = 256 →
     (raise n a s).ev.queue = s.ev.queue ∧ (raise n a s).ev.lost = true ∧
     fld (raise n a s) 0x130D 15 0 = satAdd 16 (fld s 0x130D 15 0) 1 ∧
     ((∀ e ∈ s.ev.queue, e.edge + 24 < s.clk.cycle) → bitOf (shownWord (raise n a s) 0x130C) 16 = true) ∧
     flag (raise n a s) (0x1304 + n / 32) (n % 32) = true ∧
     (flag s (0x1308 + n / 32) (n % 32) = true → s.ev.holding = false → yardFenced s 0 = false → (∃ q : Nat, ∃ h : HistSlot,
         q < 64 ∧ vgetD (raise n a s).ev.hist q none = some h ∧ h.num = n ∧ h.arg = a % 65536 ∧ h.edge = some s.clk.cycle ∧
         h.flags / 4 % 2 = 1) ∧ ((∀ y : HistSlot, vgetD s.ev.hist ((s.ev.nextSeq + 63) % 64) none = some y → y.edge ≠ some
         s.clk.cycle) → ∃ h : HistSlot, vgetD (raise n a s).ev.hist (s.ev.nextSeq % 64) none = some h ∧ h.num = n ∧ h.flags
         / 4 % 2 = 1)) ∧
     (flag s (0x1308 + n / 32) (n % 32) = true → s.ev.holding = true → ∃ h : HistSlot, (raise n a s).ev.held = s.ev.held ++
         [h] ∧ h.num = n ∧ h.flags / 4 % 2 = 1)) ∧
  (∀ (n a : Nat) (s : State), s.clk.core = true → n < 128 → s.ev.queue.length < 256 →
     ∃ e : QEntry, (raise n a s).ev.queue = queueInsert e s.ev.queue ∧ e.edge = s.clk.cycle ∧ e.num = n ∧
     e.arg = a % 65536 ∧ e.flags / 2 = b2n s.ev.lost ∧ (raise n a s).ev.lost = false) ∧
  (∀ (e : QEntry),
     (entryBytes e).length = 12 ∧ byteAt (entryBytes e) 0 = e.num % 256 ∧ byteAt (entryBytes e) 1 = e.flags % 256 ∧
     leAt (entryBytes e) 2 2 = e.arg % 65536 ∧ leAt (entryBytes e) 4 4 = e.time % 2 ^ 32 ∧
     leAt (entryBytes e) 8 4 = e.beat % 2 ^ 32) ∧
  (∀ (p : List Byte) (s : State), (opEventsRead.commit 0 p s).data = (opEventsRead.commit 1 p s).data ∧
     (opEventsRead.commit 0 p s).state = (opEventsRead.commit 1 p s).state)

/-- The session code (04 R120): EXPERT_CODE_SET writes it on its commit cycle and leaves sessions as they are; an
EXPERT_OPEN after it opens a session exactly where it carries the stored code, the port not being locked; the code is 0 when
the module leaves the factory. -/
def Obligations.SessionCode : Prop :=
  (∀ (r : Req) (s : State), served opExpertCodeSet r s = true →
     ∃ t, exec (.expertCodeSet r) s = .next t ∧ t.nv.code = BitVec.ofNat 16 (leAt r.payload 0 2) ∧ rd t 0x1005 = rd s 0x1005) ∧
  (∀ (r : Req) (s : State),
     served opExpertOpen r s = true → (vget s.session r.head.port).lockEnd = none → leAt r.payload 0 2 = s.nv.code.toNat →
     ∃ t, exec (.expertOpen r) s = .next t ∧
     t = respond r.head 0x0A (replyCycle opExpertOpen r) stOk 0 [] (expertMatch r.head.port (commitState opExpertOpen r s)) ∧
     sessionOpen t r.head.port = true) ∧
  (∀ (r : Req) (s : State),
     served opExpertOpen r s = true → (vget s.session r.head.port).lockEnd = none → leAt r.payload 0 2 ≠ s.nv.code.toNat →
     ∃ t, exec (.expertOpen r) s = .next t ∧
     t = respond r.head 0x0A (replyCycle opExpertOpen r) stNotPermitted 0 [] (expertDenied r.head.port (commitState
         opExpertOpen r s)) ∧
     (∀ p : Fin 2, sessionOpen t p = sessionOpen s p)) ∧
  (State.reset.nv.code = 0#16)

/-- Fail-silence lasts until a full bring-up, and a fail-silent unit never takes the halter (15 R439, 01 R40): no command
but BRING_UP_START changes the cause of a unit that is fail-silent, whatever its state, or lets it hold the halter. -/
def Obligations.FailSilenceLasts : Prop :=
  ∀ (i : Instr) (s t : State), failSilent s = true → (∀ n, i ≠ .bringUpStart n) → exec i s = .next t →
    t.twin.cause = s.twin.cause ∧ (s.twin.holds = false → t.twin.holds = false)
end

