-- ==== Sys2Proof/Laws/State.lean ====
section
/-! SUPPORT. What each shared operation leaves alone, one lemma a field, so that no later proof unfolds a record update. -/
namespace Sys2Proof.Machine

/-! `wr` changes no part but regs. -/

@[simp] theorem wr_pending (s : State) (id : Nat) (w : Word) : (wr s id w).pending = s.pending := rfl
@[simp] theorem wr_free (s : State) (id : Nat) (w : Word) : (wr s id w).free = s.free := rfl
@[simp] theorem wr_clk (s : State) (id : Nat) (w : Word) : (wr s id w).clk = s.clk := rfl
@[simp] theorem wr_snap (s : State) (id : Nat) (w : Word) : (wr s id w).snap = s.snap := rfl
@[simp] theorem wr_snapPoison (s : State) (id : Nat) (w : Word) : (wr s id w).snapPoison = s.snapPoison := rfl
@[simp] theorem wr_poison (s : State) (id : Nat) (w : Word) : (wr s id w).poison = s.poison := rfl
@[simp] theorem wr_arb (s : State) (id : Nat) (w : Word) : (wr s id w).arb = s.arb := rfl
@[simp] theorem wr_now (s : State) (id : Nat) (w : Word) : (wr s id w).now = s.now := rfl
@[simp] theorem wr_yards (s : State) (id : Nat) (w : Word) : (wr s id w).yards = s.yards := rfl
@[simp] theorem wr_restart (s : State) (id : Nat) (w : Word) : (wr s id w).restart = s.restart := rfl
@[simp] theorem wr_host (s : State) (id : Nat) (w : Word) : (wr s id w).host = s.host := rfl
@[simp] theorem wr_line (s : State) (id : Nat) (w : Word) : (wr s id w).line = s.line := rfl
@[simp] theorem wr_session (s : State) (id : Nat) (w : Word) : (wr s id w).session = s.session := rfl
@[simp] theorem wr_load (s : State) (id : Nat) (w : Word) : (wr s id w).load = s.load := rfl
@[simp] theorem wr_nv (s : State) (id : Nat) (w : Word) : (wr s id w).nv = s.nv := rfl
@[simp] theorem wr_src (s : State) (id : Nat) (w : Word) : (wr s id w).src = s.src := rfl
@[simp] theorem wr_ser (s : State) (id : Nat) (w : Word) : (wr s id w).ser = s.ser := rfl
@[simp] theorem wr_fus (s : State) (id : Nat) (w : Word) : (wr s id w).fus = s.fus := rfl
@[simp] theorem wr_gnss (s : State) (id : Nat) (w : Word) : (wr s id w).gnss = s.gnss := rfl
@[simp] theorem wr_ctl (s : State) (id : Nat) (w : Word) : (wr s id w).ctl = s.ctl := rfl
@[simp] theorem wr_alc (s : State) (id : Nat) (w : Word) : (wr s id w).alc = s.alc := rfl
@[simp] theorem wr_servo (s : State) (id : Nat) (w : Word) : (wr s id w).servo = s.servo := rfl
@[simp] theorem wr_field (s : State) (id : Nat) (w : Word) : (wr s id w).field = s.field := rfl
@[simp] theorem wr_filt (s : State) (id : Nat) (w : Word) : (wr s id w).filt = s.filt := rfl
@[simp] theorem wr_can (s : State) (id : Nat) (w : Word) : (wr s id w).can = s.can := rfl
@[simp] theorem wr_idReq (s : State) (id : Nat) (w : Word) : (wr s id w).idReq = s.idReq := rfl
@[simp] theorem wr_time (s : State) (id : Nat) (w : Word) : (wr s id w).time = s.time := rfl
@[simp] theorem wr_eth (s : State) (id : Nat) (w : Word) : (wr s id w).eth = s.eth := rfl
@[simp] theorem wr_twin (s : State) (id : Nat) (w : Word) : (wr s id w).twin = s.twin := rfl
@[simp] theorem wr_power (s : State) (id : Nat) (w : Word) : (wr s id w).power = s.power := rfl
@[simp] theorem wr_ev (s : State) (id : Nat) (w : Word) : (wr s id w).ev = s.ev := rfl

/-! `wrFld` changes no part but regs. -/

@[simp] theorem wrFld_pending (s : State) (id hi lo v : Nat) : (wrFld s id hi lo v).pending = s.pending := rfl
@[simp] theorem wrFld_free (s : State) (id hi lo v : Nat) : (wrFld s id hi lo v).free = s.free := rfl
@[simp] theorem wrFld_clk (s : State) (id hi lo v : Nat) : (wrFld s id hi lo v).clk = s.clk := rfl
@[simp] theorem wrFld_snap (s : State) (id hi lo v : Nat) : (wrFld s id hi lo v).snap = s.snap := rfl
@[simp] theorem wrFld_snapPoison (s : State) (id hi lo v : Nat) : (wrFld s id hi lo v).snapPoison = s.snapPoison := rfl
@[simp] theorem wrFld_poison (s : State) (id hi lo v : Nat) : (wrFld s id hi lo v).poison = s.poison := rfl
@[simp] theorem wrFld_arb (s : State) (id hi lo v : Nat) : (wrFld s id hi lo v).arb = s.arb := rfl
@[simp] theorem wrFld_now (s : State) (id hi lo v : Nat) : (wrFld s id hi lo v).now = s.now := rfl
@[simp] theorem wrFld_yards (s : State) (id hi lo v : Nat) : (wrFld s id hi lo v).yards = s.yards := rfl
@[simp] theorem wrFld_restart (s : State) (id hi lo v : Nat) : (wrFld s id hi lo v).restart = s.restart := rfl
@[simp] theorem wrFld_host (s : State) (id hi lo v : Nat) : (wrFld s id hi lo v).host = s.host := rfl
@[simp] theorem wrFld_line (s : State) (id hi lo v : Nat) : (wrFld s id hi lo v).line = s.line := rfl
@[simp] theorem wrFld_session (s : State) (id hi lo v : Nat) : (wrFld s id hi lo v).session = s.session := rfl
@[simp] theorem wrFld_load (s : State) (id hi lo v : Nat) : (wrFld s id hi lo v).load = s.load := rfl
@[simp] theorem wrFld_nv (s : State) (id hi lo v : Nat) : (wrFld s id hi lo v).nv = s.nv := rfl
@[simp] theorem wrFld_src (s : State) (id hi lo v : Nat) : (wrFld s id hi lo v).src = s.src := rfl
@[simp] theorem wrFld_ser (s : State) (id hi lo v : Nat) : (wrFld s id hi lo v).ser = s.ser := rfl
@[simp] theorem wrFld_fus (s : State) (id hi lo v : Nat) : (wrFld s id hi lo v).fus = s.fus := rfl
@[simp] theorem wrFld_gnss (s : State) (id hi lo v : Nat) : (wrFld s id hi lo v).gnss = s.gnss := rfl
@[simp] theorem wrFld_ctl (s : State) (id hi lo v : Nat) : (wrFld s id hi lo v).ctl = s.ctl := rfl
@[simp] theorem wrFld_alc (s : State) (id hi lo v : Nat) : (wrFld s id hi lo v).alc = s.alc := rfl
@[simp] theorem wrFld_servo (s : State) (id hi lo v : Nat) : (wrFld s id hi lo v).servo = s.servo := rfl
@[simp] theorem wrFld_field (s : State) (id hi lo v : Nat) : (wrFld s id hi lo v).field = s.field := rfl
@[simp] theorem wrFld_filt (s : State) (id hi lo v : Nat) : (wrFld s id hi lo v).filt = s.filt := rfl
@[simp] theorem wrFld_can (s : State) (id hi lo v : Nat) : (wrFld s id hi lo v).can = s.can := rfl
@[simp] theorem wrFld_idReq (s : State) (id hi lo v : Nat) : (wrFld s id hi lo v).idReq = s.idReq := rfl
@[simp] theorem wrFld_time (s : State) (id hi lo v : Nat) : (wrFld s id hi lo v).time = s.time := rfl
@[simp] theorem wrFld_eth (s : State) (id hi lo v : Nat) : (wrFld s id hi lo v).eth = s.eth := rfl
@[simp] theorem wrFld_twin (s : State) (id hi lo v : Nat) : (wrFld s id hi lo v).twin = s.twin := rfl
@[simp] theorem wrFld_power (s : State) (id hi lo v : Nat) : (wrFld s id hi lo v).power = s.power := rfl
@[simp] theorem wrFld_ev (s : State) (id hi lo v : Nat) : (wrFld s id hi lo v).ev = s.ev := rfl

/-! `wrFlag` changes no part but regs. -/

@[simp] theorem wrFlag_pending (s : State) (id i : Nat) (b : Bool) : (wrFlag s id i b).pending = s.pending := rfl
@[simp] theorem wrFlag_free (s : State) (id i : Nat) (b : Bool) : (wrFlag s id i b).free = s.free := rfl
@[simp] theorem wrFlag_clk (s : State) (id i : Nat) (b : Bool) : (wrFlag s id i b).clk = s.clk := rfl
@[simp] theorem wrFlag_snap (s : State) (id i : Nat) (b : Bool) : (wrFlag s id i b).snap = s.snap := rfl
@[simp] theorem wrFlag_snapPoison (s : State) (id i : Nat) (b : Bool) : (wrFlag s id i b).snapPoison = s.snapPoison := rfl
@[simp] theorem wrFlag_poison (s : State) (id i : Nat) (b : Bool) : (wrFlag s id i b).poison = s.poison := rfl
@[simp] theorem wrFlag_arb (s : State) (id i : Nat) (b : Bool) : (wrFlag s id i b).arb = s.arb := rfl
@[simp] theorem wrFlag_now (s : State) (id i : Nat) (b : Bool) : (wrFlag s id i b).now = s.now := rfl
@[simp] theorem wrFlag_yards (s : State) (id i : Nat) (b : Bool) : (wrFlag s id i b).yards = s.yards := rfl
@[simp] theorem wrFlag_restart (s : State) (id i : Nat) (b : Bool) : (wrFlag s id i b).restart = s.restart := rfl
@[simp] theorem wrFlag_host (s : State) (id i : Nat) (b : Bool) : (wrFlag s id i b).host = s.host := rfl
@[simp] theorem wrFlag_line (s : State) (id i : Nat) (b : Bool) : (wrFlag s id i b).line = s.line := rfl
@[simp] theorem wrFlag_session (s : State) (id i : Nat) (b : Bool) : (wrFlag s id i b).session = s.session := rfl
@[simp] theorem wrFlag_load (s : State) (id i : Nat) (b : Bool) : (wrFlag s id i b).load = s.load := rfl
@[simp] theorem wrFlag_nv (s : State) (id i : Nat) (b : Bool) : (wrFlag s id i b).nv = s.nv := rfl
@[simp] theorem wrFlag_src (s : State) (id i : Nat) (b : Bool) : (wrFlag s id i b).src = s.src := rfl
@[simp] theorem wrFlag_ser (s : State) (id i : Nat) (b : Bool) : (wrFlag s id i b).ser = s.ser := rfl
@[simp] theorem wrFlag_fus (s : State) (id i : Nat) (b : Bool) : (wrFlag s id i b).fus = s.fus := rfl
@[simp] theorem wrFlag_gnss (s : State) (id i : Nat) (b : Bool) : (wrFlag s id i b).gnss = s.gnss := rfl
@[simp] theorem wrFlag_ctl (s : State) (id i : Nat) (b : Bool) : (wrFlag s id i b).ctl = s.ctl := rfl
@[simp] theorem wrFlag_alc (s : State) (id i : Nat) (b : Bool) : (wrFlag s id i b).alc = s.alc := rfl
@[simp] theorem wrFlag_servo (s : State) (id i : Nat) (b : Bool) : (wrFlag s id i b).servo = s.servo := rfl
@[simp] theorem wrFlag_field (s : State) (id i : Nat) (b : Bool) : (wrFlag s id i b).field = s.field := rfl
@[simp] theorem wrFlag_filt (s : State) (id i : Nat) (b : Bool) : (wrFlag s id i b).filt = s.filt := rfl
@[simp] theorem wrFlag_can (s : State) (id i : Nat) (b : Bool) : (wrFlag s id i b).can = s.can := rfl
@[simp] theorem wrFlag_idReq (s : State) (id i : Nat) (b : Bool) : (wrFlag s id i b).idReq = s.idReq := rfl
@[simp] theorem wrFlag_time (s : State) (id i : Nat) (b : Bool) : (wrFlag s id i b).time = s.time := rfl
@[simp] theorem wrFlag_eth (s : State) (id i : Nat) (b : Bool) : (wrFlag s id i b).eth = s.eth := rfl
@[simp] theorem wrFlag_twin (s : State) (id i : Nat) (b : Bool) : (wrFlag s id i b).twin = s.twin := rfl
@[simp] theorem wrFlag_power (s : State) (id i : Nat) (b : Bool) : (wrFlag s id i b).power = s.power := rfl
@[simp] theorem wrFlag_ev (s : State) (id i : Nat) (b : Bool) : (wrFlag s id i b).ev = s.ev := rfl

/-! `noteSet` changes no part but now. -/

@[simp] theorem noteSet_pending (id i : Nat) (s : State) : (noteSet id i s).pending = s.pending := by unfold noteSet; (repeat' split) <;> rfl
@[simp] theorem noteSet_free (id i : Nat) (s : State) : (noteSet id i s).free = s.free := by unfold noteSet; (repeat' split) <;> rfl
@[simp] theorem noteSet_clk (id i : Nat) (s : State) : (noteSet id i s).clk = s.clk := by unfold noteSet; (repeat' split) <;> rfl
@[simp] theorem noteSet_regs (id i : Nat) (s : State) : (noteSet id i s).regs = s.regs := by unfold noteSet; (repeat' split) <;> rfl
@[simp] theorem noteSet_snap (id i : Nat) (s : State) : (noteSet id i s).snap = s.snap := by unfold noteSet; (repeat' split) <;> rfl
@[simp] theorem noteSet_snapPoison (id i : Nat) (s : State) : (noteSet id i s).snapPoison = s.snapPoison := by unfold noteSet; (repeat' split) <;> rfl
@[simp] theorem noteSet_poison (id i : Nat) (s : State) : (noteSet id i s).poison = s.poison := by unfold noteSet; (repeat' split) <;> rfl
@[simp] theorem noteSet_arb (id i : Nat) (s : State) : (noteSet id i s).arb = s.arb := by unfold noteSet; (repeat' split) <;> rfl
@[simp] theorem noteSet_yards (id i : Nat) (s : State) : (noteSet id i s).yards = s.yards := by unfold noteSet; (repeat' split) <;> rfl
@[simp] theorem noteSet_restart (id i : Nat) (s : State) : (noteSet id i s).restart = s.restart := by unfold noteSet; (repeat' split) <;> rfl
@[simp] theorem noteSet_host (id i : Nat) (s : State) : (noteSet id i s).host = s.host := by unfold noteSet; (repeat' split) <;> rfl
@[simp] theorem noteSet_line (id i : Nat) (s : State) : (noteSet id i s).line = s.line := by unfold noteSet; (repeat' split) <;> rfl
@[simp] theorem noteSet_session (id i : Nat) (s : State) : (noteSet id i s).session = s.session := by unfold noteSet; (repeat' split) <;> rfl
@[simp] theorem noteSet_load (id i : Nat) (s : State) : (noteSet id i s).load = s.load := by unfold noteSet; (repeat' split) <;> rfl
@[simp] theorem noteSet_nv (id i : Nat) (s : State) : (noteSet id i s).nv = s.nv := by unfold noteSet; (repeat' split) <;> rfl
@[simp] theorem noteSet_src (id i : Nat) (s : State) : (noteSet id i s).src = s.src := by unfold noteSet; (repeat' split) <;> rfl
@[simp] theorem noteSet_ser (id i : Nat) (s : State) : (noteSet id i s).ser = s.ser := by unfold noteSet; (repeat' split) <;> rfl
@[simp] theorem noteSet_fus (id i : Nat) (s : State) : (noteSet id i s).fus = s.fus := by unfold noteSet; (repeat' split) <;> rfl
@[simp] theorem noteSet_gnss (id i : Nat) (s : State) : (noteSet id i s).gnss = s.gnss := by unfold noteSet; (repeat' split) <;> rfl
@[simp] theorem noteSet_ctl (id i : Nat) (s : State) : (noteSet id i s).ctl = s.ctl := by unfold noteSet; (repeat' split) <;> rfl
@[simp] theorem noteSet_alc (id i : Nat) (s : State) : (noteSet id i s).alc = s.alc := by unfold noteSet; (repeat' split) <;> rfl
@[simp] theorem noteSet_servo (id i : Nat) (s : State) : (noteSet id i s).servo = s.servo := by unfold noteSet; (repeat' split) <;> rfl
@[simp] theorem noteSet_field (id i : Nat) (s : State) : (noteSet id i s).field = s.field := by unfold noteSet; (repeat' split) <;> rfl
@[simp] theorem noteSet_filt (id i : Nat) (s : State) : (noteSet id i s).filt = s.filt := by unfold noteSet; (repeat' split) <;> rfl
@[simp] theorem noteSet_can (id i : Nat) (s : State) : (noteSet id i s).can = s.can := by unfold noteSet; (repeat' split) <;> rfl
@[simp] theorem noteSet_idReq (id i : Nat) (s : State) : (noteSet id i s).idReq = s.idReq := by unfold noteSet; (repeat' split) <;> rfl
@[simp] theorem noteSet_time (id i : Nat) (s : State) : (noteSet id i s).time = s.time := by unfold noteSet; (repeat' split) <;> rfl
@[simp] theorem noteSet_eth (id i : Nat) (s : State) : (noteSet id i s).eth = s.eth := by unfold noteSet; (repeat' split) <;> rfl
@[simp] theorem noteSet_twin (id i : Nat) (s : State) : (noteSet id i s).twin = s.twin := by unfold noteSet; (repeat' split) <;> rfl
@[simp] theorem noteSet_power (id i : Nat) (s : State) : (noteSet id i s).power = s.power := by unfold noteSet; (repeat' split) <;> rfl
@[simp] theorem noteSet_ev (id i : Nat) (s : State) : (noteSet id i s).ev = s.ev := by unfold noteSet; (repeat' split) <;> rfl

/-! `sticky` changes no part but regs, now. -/

@[simp] theorem sticky_pending (s : State) (id i : Nat) : (sticky s id i).pending = s.pending := by simp [sticky]
@[simp] theorem sticky_free (s : State) (id i : Nat) : (sticky s id i).free = s.free := by simp [sticky]
@[simp] theorem sticky_clk (s : State) (id i : Nat) : (sticky s id i).clk = s.clk := by simp [sticky]
@[simp] theorem sticky_snap (s : State) (id i : Nat) : (sticky s id i).snap = s.snap := by simp [sticky]
@[simp] theorem sticky_snapPoison (s : State) (id i : Nat) : (sticky s id i).snapPoison = s.snapPoison := by simp [sticky]
@[simp] theorem sticky_poison (s : State) (id i : Nat) : (sticky s id i).poison = s.poison := by simp [sticky]
@[simp] theorem sticky_arb (s : State) (id i : Nat) : (sticky s id i).arb = s.arb := by simp [sticky]
@[simp] theorem sticky_yards (s : State) (id i : Nat) : (sticky s id i).yards = s.yards := by simp [sticky]
@[simp] theorem sticky_restart (s : State) (id i : Nat) : (sticky s id i).restart = s.restart := by simp [sticky]
@[simp] theorem sticky_host (s : State) (id i : Nat) : (sticky s id i).host = s.host := by simp [sticky]
@[simp] theorem sticky_line (s : State) (id i : Nat) : (sticky s id i).line = s.line := by simp [sticky]
@[simp] theorem sticky_session (s : State) (id i : Nat) : (sticky s id i).session = s.session := by simp [sticky]
@[simp] theorem sticky_load (s : State) (id i : Nat) : (sticky s id i).load = s.load := by simp [sticky]
@[simp] theorem sticky_nv (s : State) (id i : Nat) : (sticky s id i).nv = s.nv := by simp [sticky]
@[simp] theorem sticky_src (s : State) (id i : Nat) : (sticky s id i).src = s.src := by simp [sticky]
@[simp] theorem sticky_ser (s : State) (id i : Nat) : (sticky s id i).ser = s.ser := by simp [sticky]
@[simp] theorem sticky_fus (s : State) (id i : Nat) : (sticky s id i).fus = s.fus := by simp [sticky]
@[simp] theorem sticky_gnss (s : State) (id i : Nat) : (sticky s id i).gnss = s.gnss := by simp [sticky]
@[simp] theorem sticky_ctl (s : State) (id i : Nat) : (sticky s id i).ctl = s.ctl := by simp [sticky]
@[simp] theorem sticky_alc (s : State) (id i : Nat) : (sticky s id i).alc = s.alc := by simp [sticky]
@[simp] theorem sticky_servo (s : State) (id i : Nat) : (sticky s id i).servo = s.servo := by simp [sticky]
@[simp] theorem sticky_field (s : State) (id i : Nat) : (sticky s id i).field = s.field := by simp [sticky]
@[simp] theorem sticky_filt (s : State) (id i : Nat) : (sticky s id i).filt = s.filt := by simp [sticky]
@[simp] theorem sticky_can (s : State) (id i : Nat) : (sticky s id i).can = s.can := by simp [sticky]
@[simp] theorem sticky_idReq (s : State) (id i : Nat) : (sticky s id i).idReq = s.idReq := by simp [sticky]
@[simp] theorem sticky_time (s : State) (id i : Nat) : (sticky s id i).time = s.time := by simp [sticky]
@[simp] theorem sticky_eth (s : State) (id i : Nat) : (sticky s id i).eth = s.eth := by simp [sticky]
@[simp] theorem sticky_twin (s : State) (id i : Nat) : (sticky s id i).twin = s.twin := by simp [sticky]
@[simp] theorem sticky_power (s : State) (id i : Nat) : (sticky s id i).power = s.power := by simp [sticky]
@[simp] theorem sticky_ev (s : State) (id i : Nat) : (sticky s id i).ev = s.ev := by simp [sticky]

/-! `noteStick` changes no part but ev. -/

@[simp] theorem noteStick_pending (n : Nat) (b : Bool) (s : State) : (noteStick n b s).pending = s.pending := rfl
@[simp] theorem noteStick_free (n : Nat) (b : Bool) (s : State) : (noteStick n b s).free = s.free := rfl
@[simp] theorem noteStick_clk (n : Nat) (b : Bool) (s : State) : (noteStick n b s).clk = s.clk := rfl
@[simp] theorem noteStick_regs (n : Nat) (b : Bool) (s : State) : (noteStick n b s).regs = s.regs := rfl
@[simp] theorem noteStick_snap (n : Nat) (b : Bool) (s : State) : (noteStick n b s).snap = s.snap := rfl
@[simp] theorem noteStick_snapPoison (n : Nat) (b : Bool) (s : State) : (noteStick n b s).snapPoison = s.snapPoison := rfl
@[simp] theorem noteStick_poison (n : Nat) (b : Bool) (s : State) : (noteStick n b s).poison = s.poison := rfl
@[simp] theorem noteStick_arb (n : Nat) (b : Bool) (s : State) : (noteStick n b s).arb = s.arb := rfl
@[simp] theorem noteStick_now (n : Nat) (b : Bool) (s : State) : (noteStick n b s).now = s.now := rfl
@[simp] theorem noteStick_yards (n : Nat) (b : Bool) (s : State) : (noteStick n b s).yards = s.yards := rfl
@[simp] theorem noteStick_restart (n : Nat) (b : Bool) (s : State) : (noteStick n b s).restart = s.restart := rfl
@[simp] theorem noteStick_host (n : Nat) (b : Bool) (s : State) : (noteStick n b s).host = s.host := rfl
@[simp] theorem noteStick_line (n : Nat) (b : Bool) (s : State) : (noteStick n b s).line = s.line := rfl
@[simp] theorem noteStick_session (n : Nat) (b : Bool) (s : State) : (noteStick n b s).session = s.session := rfl
@[simp] theorem noteStick_load (n : Nat) (b : Bool) (s : State) : (noteStick n b s).load = s.load := rfl
@[simp] theorem noteStick_nv (n : Nat) (b : Bool) (s : State) : (noteStick n b s).nv = s.nv := rfl
@[simp] theorem noteStick_src (n : Nat) (b : Bool) (s : State) : (noteStick n b s).src = s.src := rfl
@[simp] theorem noteStick_ser (n : Nat) (b : Bool) (s : State) : (noteStick n b s).ser = s.ser := rfl
@[simp] theorem noteStick_fus (n : Nat) (b : Bool) (s : State) : (noteStick n b s).fus = s.fus := rfl
@[simp] theorem noteStick_gnss (n : Nat) (b : Bool) (s : State) : (noteStick n b s).gnss = s.gnss := rfl
@[simp] theorem noteStick_ctl (n : Nat) (b : Bool) (s : State) : (noteStick n b s).ctl = s.ctl := rfl
@[simp] theorem noteStick_alc (n : Nat) (b : Bool) (s : State) : (noteStick n b s).alc = s.alc := rfl
@[simp] theorem noteStick_servo (n : Nat) (b : Bool) (s : State) : (noteStick n b s).servo = s.servo := rfl
@[simp] theorem noteStick_field (n : Nat) (b : Bool) (s : State) : (noteStick n b s).field = s.field := rfl
@[simp] theorem noteStick_filt (n : Nat) (b : Bool) (s : State) : (noteStick n b s).filt = s.filt := rfl
@[simp] theorem noteStick_can (n : Nat) (b : Bool) (s : State) : (noteStick n b s).can = s.can := rfl
@[simp] theorem noteStick_idReq (n : Nat) (b : Bool) (s : State) : (noteStick n b s).idReq = s.idReq := rfl
@[simp] theorem noteStick_time (n : Nat) (b : Bool) (s : State) : (noteStick n b s).time = s.time := rfl
@[simp] theorem noteStick_eth (n : Nat) (b : Bool) (s : State) : (noteStick n b s).eth = s.eth := rfl
@[simp] theorem noteStick_twin (n : Nat) (b : Bool) (s : State) : (noteStick n b s).twin = s.twin := rfl
@[simp] theorem noteStick_power (n : Nat) (b : Bool) (s : State) : (noteStick n b s).power = s.power := rfl

/-! `bump` changes no part but regs. -/

@[simp] theorem bump_pending (s : State) (id hi lo d : Nat) : (bump s id hi lo d).pending = s.pending := rfl
@[simp] theorem bump_free (s : State) (id hi lo d : Nat) : (bump s id hi lo d).free = s.free := rfl
@[simp] theorem bump_clk (s : State) (id hi lo d : Nat) : (bump s id hi lo d).clk = s.clk := rfl
@[simp] theorem bump_snap (s : State) (id hi lo d : Nat) : (bump s id hi lo d).snap = s.snap := rfl
@[simp] theorem bump_snapPoison (s : State) (id hi lo d : Nat) : (bump s id hi lo d).snapPoison = s.snapPoison := rfl
@[simp] theorem bump_poison (s : State) (id hi lo d : Nat) : (bump s id hi lo d).poison = s.poison := rfl
@[simp] theorem bump_arb (s : State) (id hi lo d : Nat) : (bump s id hi lo d).arb = s.arb := rfl
@[simp] theorem bump_now (s : State) (id hi lo d : Nat) : (bump s id hi lo d).now = s.now := rfl
@[simp] theorem bump_yards (s : State) (id hi lo d : Nat) : (bump s id hi lo d).yards = s.yards := rfl
@[simp] theorem bump_restart (s : State) (id hi lo d : Nat) : (bump s id hi lo d).restart = s.restart := rfl
@[simp] theorem bump_host (s : State) (id hi lo d : Nat) : (bump s id hi lo d).host = s.host := rfl
@[simp] theorem bump_line (s : State) (id hi lo d : Nat) : (bump s id hi lo d).line = s.line := rfl
@[simp] theorem bump_session (s : State) (id hi lo d : Nat) : (bump s id hi lo d).session = s.session := rfl
@[simp] theorem bump_load (s : State) (id hi lo d : Nat) : (bump s id hi lo d).load = s.load := rfl
@[simp] theorem bump_nv (s : State) (id hi lo d : Nat) : (bump s id hi lo d).nv = s.nv := rfl
@[simp] theorem bump_src (s : State) (id hi lo d : Nat) : (bump s id hi lo d).src = s.src := rfl
@[simp] theorem bump_ser (s : State) (id hi lo d : Nat) : (bump s id hi lo d).ser = s.ser := rfl
@[simp] theorem bump_fus (s : State) (id hi lo d : Nat) : (bump s id hi lo d).fus = s.fus := rfl
@[simp] theorem bump_gnss (s : State) (id hi lo d : Nat) : (bump s id hi lo d).gnss = s.gnss := rfl
@[simp] theorem bump_ctl (s : State) (id hi lo d : Nat) : (bump s id hi lo d).ctl = s.ctl := rfl
@[simp] theorem bump_alc (s : State) (id hi lo d : Nat) : (bump s id hi lo d).alc = s.alc := rfl
@[simp] theorem bump_servo (s : State) (id hi lo d : Nat) : (bump s id hi lo d).servo = s.servo := rfl
@[simp] theorem bump_field (s : State) (id hi lo d : Nat) : (bump s id hi lo d).field = s.field := rfl
@[simp] theorem bump_filt (s : State) (id hi lo d : Nat) : (bump s id hi lo d).filt = s.filt := rfl
@[simp] theorem bump_can (s : State) (id hi lo d : Nat) : (bump s id hi lo d).can = s.can := rfl
@[simp] theorem bump_idReq (s : State) (id hi lo d : Nat) : (bump s id hi lo d).idReq = s.idReq := rfl
@[simp] theorem bump_time (s : State) (id hi lo d : Nat) : (bump s id hi lo d).time = s.time := rfl
@[simp] theorem bump_eth (s : State) (id hi lo d : Nat) : (bump s id hi lo d).eth = s.eth := rfl
@[simp] theorem bump_twin (s : State) (id hi lo d : Nat) : (bump s id hi lo d).twin = s.twin := rfl
@[simp] theorem bump_power (s : State) (id hi lo d : Nat) : (bump s id hi lo d).power = s.power := rfl
@[simp] theorem bump_ev (s : State) (id hi lo d : Nat) : (bump s id hi lo d).ev = s.ev := rfl

/-! `advance` changes no part but clk, power. -/

@[simp] theorem advance_pending (c : Nat) (s : State) : (advance c s).pending = s.pending := by unfold advance; split <;> rfl
@[simp] theorem advance_free (c : Nat) (s : State) : (advance c s).free = s.free := by unfold advance; split <;> rfl
@[simp] theorem advance_regs (c : Nat) (s : State) : (advance c s).regs = s.regs := by unfold advance; split <;> rfl
@[simp] theorem advance_snap (c : Nat) (s : State) : (advance c s).snap = s.snap := by unfold advance; split <;> rfl
@[simp] theorem advance_snapPoison (c : Nat) (s : State) : (advance c s).snapPoison = s.snapPoison := by unfold advance; split <;> rfl
@[simp] theorem advance_poison (c : Nat) (s : State) : (advance c s).poison = s.poison := by unfold advance; split <;> rfl
@[simp] theorem advance_arb (c : Nat) (s : State) : (advance c s).arb = s.arb := by unfold advance; split <;> rfl
@[simp] theorem advance_now (c : Nat) (s : State) : (advance c s).now = s.now := by unfold advance; split <;> rfl
@[simp] theorem advance_yards (c : Nat) (s : State) : (advance c s).yards = s.yards := by unfold advance; split <;> rfl
@[simp] theorem advance_restart (c : Nat) (s : State) : (advance c s).restart = s.restart := by unfold advance; split <;> rfl
@[simp] theorem advance_host (c : Nat) (s : State) : (advance c s).host = s.host := by unfold advance; split <;> rfl
@[simp] theorem advance_line (c : Nat) (s : State) : (advance c s).line = s.line := by unfold advance; split <;> rfl
@[simp] theorem advance_session (c : Nat) (s : State) : (advance c s).session = s.session := by unfold advance; split <;> rfl
@[simp] theorem advance_load (c : Nat) (s : State) : (advance c s).load = s.load := by unfold advance; split <;> rfl
@[simp] theorem advance_nv (c : Nat) (s : State) : (advance c s).nv = s.nv := by unfold advance; split <;> rfl
@[simp] theorem advance_src (c : Nat) (s : State) : (advance c s).src = s.src := by unfold advance; split <;> rfl
@[simp] theorem advance_ser (c : Nat) (s : State) : (advance c s).ser = s.ser := by unfold advance; split <;> rfl
@[simp] theorem advance_fus (c : Nat) (s : State) : (advance c s).fus = s.fus := by unfold advance; split <;> rfl
@[simp] theorem advance_gnss (c : Nat) (s : State) : (advance c s).gnss = s.gnss := by unfold advance; split <;> rfl
@[simp] theorem advance_ctl (c : Nat) (s : State) : (advance c s).ctl = s.ctl := by unfold advance; split <;> rfl
@[simp] theorem advance_alc (c : Nat) (s : State) : (advance c s).alc = s.alc := by unfold advance; split <;> rfl
@[simp] theorem advance_servo (c : Nat) (s : State) : (advance c s).servo = s.servo := by unfold advance; split <;> rfl
@[simp] theorem advance_field (c : Nat) (s : State) : (advance c s).field = s.field := by unfold advance; split <;> rfl
@[simp] theorem advance_filt (c : Nat) (s : State) : (advance c s).filt = s.filt := by unfold advance; split <;> rfl
@[simp] theorem advance_can (c : Nat) (s : State) : (advance c s).can = s.can := by unfold advance; split <;> rfl
@[simp] theorem advance_idReq (c : Nat) (s : State) : (advance c s).idReq = s.idReq := by unfold advance; split <;> rfl
@[simp] theorem advance_time (c : Nat) (s : State) : (advance c s).time = s.time := by unfold advance; split <;> rfl
@[simp] theorem advance_eth (c : Nat) (s : State) : (advance c s).eth = s.eth := by unfold advance; split <;> rfl
@[simp] theorem advance_twin (c : Nat) (s : State) : (advance c s).twin = s.twin := by unfold advance; split <;> rfl
@[simp] theorem advance_ev (c : Nat) (s : State) : (advance c s).ev = s.ev := by unfold advance; split <;> rfl

/-! `attentionDue` changes no part but line. -/

@[simp] theorem attentionDue_pending (d : Nat) (s : State) : (attentionDue d s).pending = s.pending := by unfold attentionDue; split <;> split <;> rfl
@[simp] theorem attentionDue_free (d : Nat) (s : State) : (attentionDue d s).free = s.free := by unfold attentionDue; split <;> split <;> rfl
@[simp] theorem attentionDue_clk (d : Nat) (s : State) : (attentionDue d s).clk = s.clk := by unfold attentionDue; split <;> split <;> rfl
@[simp] theorem attentionDue_regs (d : Nat) (s : State) : (attentionDue d s).regs = s.regs := by unfold attentionDue; split <;> split <;> rfl
@[simp] theorem attentionDue_snap (d : Nat) (s : State) : (attentionDue d s).snap = s.snap := by unfold attentionDue; split <;> split <;> rfl
@[simp] theorem attentionDue_snapPoison (d : Nat) (s : State) : (attentionDue d s).snapPoison = s.snapPoison := by unfold attentionDue; split <;> split <;> rfl
@[simp] theorem attentionDue_poison (d : Nat) (s : State) : (attentionDue d s).poison = s.poison := by unfold attentionDue; split <;> split <;> rfl
@[simp] theorem attentionDue_arb (d : Nat) (s : State) : (attentionDue d s).arb = s.arb := by unfold attentionDue; split <;> split <;> rfl
@[simp] theorem attentionDue_now (d : Nat) (s : State) : (attentionDue d s).now = s.now := by unfold attentionDue; split <;> split <;> rfl
@[simp] theorem attentionDue_yards (d : Nat) (s : State) : (attentionDue d s).yards = s.yards := by unfold attentionDue; split <;> split <;> rfl
@[simp] theorem attentionDue_restart (d : Nat) (s : State) : (attentionDue d s).restart = s.restart := by unfold attentionDue; split <;> split <;> rfl
@[simp] theorem attentionDue_host (d : Nat) (s : State) : (attentionDue d s).host = s.host := by unfold attentionDue; split <;> split <;> rfl
@[simp] theorem attentionDue_session (d : Nat) (s : State) : (attentionDue d s).session = s.session := by unfold attentionDue; split <;> split <;> rfl
@[simp] theorem attentionDue_load (d : Nat) (s : State) : (attentionDue d s).load = s.load := by unfold attentionDue; split <;> split <;> rfl
@[simp] theorem attentionDue_nv (d : Nat) (s : State) : (attentionDue d s).nv = s.nv := by unfold attentionDue; split <;> split <;> rfl
@[simp] theorem attentionDue_src (d : Nat) (s : State) : (attentionDue d s).src = s.src := by unfold attentionDue; split <;> split <;> rfl
@[simp] theorem attentionDue_ser (d : Nat) (s : State) : (attentionDue d s).ser = s.ser := by unfold attentionDue; split <;> split <;> rfl
@[simp] theorem attentionDue_fus (d : Nat) (s : State) : (attentionDue d s).fus = s.fus := by unfold attentionDue; split <;> split <;> rfl
@[simp] theorem attentionDue_gnss (d : Nat) (s : State) : (attentionDue d s).gnss = s.gnss := by unfold attentionDue; split <;> split <;> rfl
@[simp] theorem attentionDue_ctl (d : Nat) (s : State) : (attentionDue d s).ctl = s.ctl := by unfold attentionDue; split <;> split <;> rfl
@[simp] theorem attentionDue_alc (d : Nat) (s : State) : (attentionDue d s).alc = s.alc := by unfold attentionDue; split <;> split <;> rfl
@[simp] theorem attentionDue_servo (d : Nat) (s : State) : (attentionDue d s).servo = s.servo := by unfold attentionDue; split <;> split <;> rfl
@[simp] theorem attentionDue_field (d : Nat) (s : State) : (attentionDue d s).field = s.field := by unfold attentionDue; split <;> split <;> rfl
@[simp] theorem attentionDue_filt (d : Nat) (s : State) : (attentionDue d s).filt = s.filt := by unfold attentionDue; split <;> split <;> rfl
@[simp] theorem attentionDue_can (d : Nat) (s : State) : (attentionDue d s).can = s.can := by unfold attentionDue; split <;> split <;> rfl
@[simp] theorem attentionDue_idReq (d : Nat) (s : State) : (attentionDue d s).idReq = s.idReq := by unfold attentionDue; split <;> split <;> rfl
@[simp] theorem attentionDue_time (d : Nat) (s : State) : (attentionDue d s).time = s.time := by unfold attentionDue; split <;> split <;> rfl
@[simp] theorem attentionDue_eth (d : Nat) (s : State) : (attentionDue d s).eth = s.eth := by unfold attentionDue; split <;> split <;> rfl
@[simp] theorem attentionDue_twin (d : Nat) (s : State) : (attentionDue d s).twin = s.twin := by unfold attentionDue; split <;> split <;> rfl
@[simp] theorem attentionDue_power (d : Nat) (s : State) : (attentionDue d s).power = s.power := by unfold attentionDue; split <;> split <;> rfl
@[simp] theorem attentionDue_ev (d : Nat) (s : State) : (attentionDue d s).ev = s.ev := by unfold attentionDue; split <;> split <;> rfl

/-! `histWrite` changes no part but ev. -/

@[simp] theorem histWrite_pending (h : HistSlot) (s : State) : (histWrite h s).pending = s.pending := by unfold histWrite; split <;> rfl
@[simp] theorem histWrite_free (h : HistSlot) (s : State) : (histWrite h s).free = s.free := by unfold histWrite; split <;> rfl
@[simp] theorem histWrite_clk (h : HistSlot) (s : State) : (histWrite h s).clk = s.clk := by unfold histWrite; split <;> rfl
@[simp] theorem histWrite_regs (h : HistSlot) (s : State) : (histWrite h s).regs = s.regs := by unfold histWrite; split <;> rfl
@[simp] theorem histWrite_snap (h : HistSlot) (s : State) : (histWrite h s).snap = s.snap := by unfold histWrite; split <;> rfl
@[simp] theorem histWrite_snapPoison (h : HistSlot) (s : State) : (histWrite h s).snapPoison = s.snapPoison := by unfold histWrite; split <;> rfl
@[simp] theorem histWrite_poison (h : HistSlot) (s : State) : (histWrite h s).poison = s.poison := by unfold histWrite; split <;> rfl
@[simp] theorem histWrite_arb (h : HistSlot) (s : State) : (histWrite h s).arb = s.arb := by unfold histWrite; split <;> rfl
@[simp] theorem histWrite_now (h : HistSlot) (s : State) : (histWrite h s).now = s.now := by unfold histWrite; split <;> rfl
@[simp] theorem histWrite_yards (h : HistSlot) (s : State) : (histWrite h s).yards = s.yards := by unfold histWrite; split <;> rfl
@[simp] theorem histWrite_restart (h : HistSlot) (s : State) : (histWrite h s).restart = s.restart := by unfold histWrite; split <;> rfl
@[simp] theorem histWrite_host (h : HistSlot) (s : State) : (histWrite h s).host = s.host := by unfold histWrite; split <;> rfl
@[simp] theorem histWrite_line (h : HistSlot) (s : State) : (histWrite h s).line = s.line := by unfold histWrite; split <;> rfl
@[simp] theorem histWrite_session (h : HistSlot) (s : State) : (histWrite h s).session = s.session := by unfold histWrite; split <;> rfl
@[simp] theorem histWrite_load (h : HistSlot) (s : State) : (histWrite h s).load = s.load := by unfold histWrite; split <;> rfl
@[simp] theorem histWrite_nv (h : HistSlot) (s : State) : (histWrite h s).nv = s.nv := by unfold histWrite; split <;> rfl
@[simp] theorem histWrite_src (h : HistSlot) (s : State) : (histWrite h s).src = s.src := by unfold histWrite; split <;> rfl
@[simp] theorem histWrite_ser (h : HistSlot) (s : State) : (histWrite h s).ser = s.ser := by unfold histWrite; split <;> rfl
@[simp] theorem histWrite_fus (h : HistSlot) (s : State) : (histWrite h s).fus = s.fus := by unfold histWrite; split <;> rfl
@[simp] theorem histWrite_gnss (h : HistSlot) (s : State) : (histWrite h s).gnss = s.gnss := by unfold histWrite; split <;> rfl
@[simp] theorem histWrite_ctl (h : HistSlot) (s : State) : (histWrite h s).ctl = s.ctl := by unfold histWrite; split <;> rfl
@[simp] theorem histWrite_alc (h : HistSlot) (s : State) : (histWrite h s).alc = s.alc := by unfold histWrite; split <;> rfl
@[simp] theorem histWrite_servo (h : HistSlot) (s : State) : (histWrite h s).servo = s.servo := by unfold histWrite; split <;> rfl
@[simp] theorem histWrite_field (h : HistSlot) (s : State) : (histWrite h s).field = s.field := by unfold histWrite; split <;> rfl
@[simp] theorem histWrite_filt (h : HistSlot) (s : State) : (histWrite h s).filt = s.filt := by unfold histWrite; split <;> rfl
@[simp] theorem histWrite_can (h : HistSlot) (s : State) : (histWrite h s).can = s.can := by unfold histWrite; split <;> rfl
@[simp] theorem histWrite_idReq (h : HistSlot) (s : State) : (histWrite h s).idReq = s.idReq := by unfold histWrite; split <;> rfl
@[simp] theorem histWrite_time (h : HistSlot) (s : State) : (histWrite h s).time = s.time := by unfold histWrite; split <;> rfl
@[simp] theorem histWrite_eth (h : HistSlot) (s : State) : (histWrite h s).eth = s.eth := by unfold histWrite; split <;> rfl
@[simp] theorem histWrite_twin (h : HistSlot) (s : State) : (histWrite h s).twin = s.twin := by unfold histWrite; split <;> rfl
@[simp] theorem histWrite_power (h : HistSlot) (s : State) : (histWrite h s).power = s.power := by unfold histWrite; split <;> rfl

/-! `histPut` changes no part but ev. -/

@[simp] theorem histPut_pending (h : HistSlot) (s : State) : (histPut h s).pending = s.pending := by unfold histPut; split <;> simp
@[simp] theorem histPut_free (h : HistSlot) (s : State) : (histPut h s).free = s.free := by unfold histPut; split <;> simp
@[simp] theorem histPut_clk (h : HistSlot) (s : State) : (histPut h s).clk = s.clk := by unfold histPut; split <;> simp
@[simp] theorem histPut_regs (h : HistSlot) (s : State) : (histPut h s).regs = s.regs := by unfold histPut; split <;> simp
@[simp] theorem histPut_snap (h : HistSlot) (s : State) : (histPut h s).snap = s.snap := by unfold histPut; split <;> simp
@[simp] theorem histPut_snapPoison (h : HistSlot) (s : State) : (histPut h s).snapPoison = s.snapPoison := by unfold histPut; split <;> simp
@[simp] theorem histPut_poison (h : HistSlot) (s : State) : (histPut h s).poison = s.poison := by unfold histPut; split <;> simp
@[simp] theorem histPut_arb (h : HistSlot) (s : State) : (histPut h s).arb = s.arb := by unfold histPut; split <;> simp
@[simp] theorem histPut_now (h : HistSlot) (s : State) : (histPut h s).now = s.now := by unfold histPut; split <;> simp
@[simp] theorem histPut_yards (h : HistSlot) (s : State) : (histPut h s).yards = s.yards := by unfold histPut; split <;> simp
@[simp] theorem histPut_restart (h : HistSlot) (s : State) : (histPut h s).restart = s.restart := by unfold histPut; split <;> simp
@[simp] theorem histPut_host (h : HistSlot) (s : State) : (histPut h s).host = s.host := by unfold histPut; split <;> simp
@[simp] theorem histPut_line (h : HistSlot) (s : State) : (histPut h s).line = s.line := by unfold histPut; split <;> simp
@[simp] theorem histPut_session (h : HistSlot) (s : State) : (histPut h s).session = s.session := by unfold histPut; split <;> simp
@[simp] theorem histPut_load (h : HistSlot) (s : State) : (histPut h s).load = s.load := by unfold histPut; split <;> simp
@[simp] theorem histPut_nv (h : HistSlot) (s : State) : (histPut h s).nv = s.nv := by unfold histPut; split <;> simp
@[simp] theorem histPut_src (h : HistSlot) (s : State) : (histPut h s).src = s.src := by unfold histPut; split <;> simp
@[simp] theorem histPut_ser (h : HistSlot) (s : State) : (histPut h s).ser = s.ser := by unfold histPut; split <;> simp
@[simp] theorem histPut_fus (h : HistSlot) (s : State) : (histPut h s).fus = s.fus := by unfold histPut; split <;> simp
@[simp] theorem histPut_gnss (h : HistSlot) (s : State) : (histPut h s).gnss = s.gnss := by unfold histPut; split <;> simp
@[simp] theorem histPut_ctl (h : HistSlot) (s : State) : (histPut h s).ctl = s.ctl := by unfold histPut; split <;> simp
@[simp] theorem histPut_alc (h : HistSlot) (s : State) : (histPut h s).alc = s.alc := by unfold histPut; split <;> simp
@[simp] theorem histPut_servo (h : HistSlot) (s : State) : (histPut h s).servo = s.servo := by unfold histPut; split <;> simp
@[simp] theorem histPut_field (h : HistSlot) (s : State) : (histPut h s).field = s.field := by unfold histPut; split <;> simp
@[simp] theorem histPut_filt (h : HistSlot) (s : State) : (histPut h s).filt = s.filt := by unfold histPut; split <;> simp
@[simp] theorem histPut_can (h : HistSlot) (s : State) : (histPut h s).can = s.can := by unfold histPut; split <;> simp
@[simp] theorem histPut_idReq (h : HistSlot) (s : State) : (histPut h s).idReq = s.idReq := by unfold histPut; split <;> simp
@[simp] theorem histPut_time (h : HistSlot) (s : State) : (histPut h s).time = s.time := by unfold histPut; split <;> simp
@[simp] theorem histPut_eth (h : HistSlot) (s : State) : (histPut h s).eth = s.eth := by unfold histPut; split <;> simp
@[simp] theorem histPut_twin (h : HistSlot) (s : State) : (histPut h s).twin = s.twin := by unfold histPut; split <;> simp
@[simp] theorem histPut_power (h : HistSlot) (s : State) : (histPut h s).power = s.power := by unfold histPut; split <;> simp

/-! `queuePut` changes no part but ev, regs. -/

@[simp] theorem queuePut_pending (n a : Nat) (m : Bool) (s : State) : (queuePut n a m s).1.pending = s.pending := by unfold queuePut; split <;> rfl
@[simp] theorem queuePut_free (n a : Nat) (m : Bool) (s : State) : (queuePut n a m s).1.free = s.free := by unfold queuePut; split <;> rfl
@[simp] theorem queuePut_clk (n a : Nat) (m : Bool) (s : State) : (queuePut n a m s).1.clk = s.clk := by unfold queuePut; split <;> rfl
@[simp] theorem queuePut_snap (n a : Nat) (m : Bool) (s : State) : (queuePut n a m s).1.snap = s.snap := by unfold queuePut; split <;> rfl
@[simp] theorem queuePut_snapPoison (n a : Nat) (m : Bool) (s : State) : (queuePut n a m s).1.snapPoison = s.snapPoison := by unfold queuePut; split <;> rfl
@[simp] theorem queuePut_poison (n a : Nat) (m : Bool) (s : State) : (queuePut n a m s).1.poison = s.poison := by unfold queuePut; split <;> rfl
@[simp] theorem queuePut_arb (n a : Nat) (m : Bool) (s : State) : (queuePut n a m s).1.arb = s.arb := by unfold queuePut; split <;> rfl
@[simp] theorem queuePut_now (n a : Nat) (m : Bool) (s : State) : (queuePut n a m s).1.now = s.now := by unfold queuePut; split <;> rfl
@[simp] theorem queuePut_yards (n a : Nat) (m : Bool) (s : State) : (queuePut n a m s).1.yards = s.yards := by unfold queuePut; split <;> rfl
@[simp] theorem queuePut_restart (n a : Nat) (m : Bool) (s : State) : (queuePut n a m s).1.restart = s.restart := by unfold queuePut; split <;> rfl
@[simp] theorem queuePut_host (n a : Nat) (m : Bool) (s : State) : (queuePut n a m s).1.host = s.host := by unfold queuePut; split <;> rfl
@[simp] theorem queuePut_line (n a : Nat) (m : Bool) (s : State) : (queuePut n a m s).1.line = s.line := by unfold queuePut; split <;> rfl
@[simp] theorem queuePut_session (n a : Nat) (m : Bool) (s : State) : (queuePut n a m s).1.session = s.session := by unfold queuePut; split <;> rfl
@[simp] theorem queuePut_load (n a : Nat) (m : Bool) (s : State) : (queuePut n a m s).1.load = s.load := by unfold queuePut; split <;> rfl
@[simp] theorem queuePut_nv (n a : Nat) (m : Bool) (s : State) : (queuePut n a m s).1.nv = s.nv := by unfold queuePut; split <;> rfl
@[simp] theorem queuePut_src (n a : Nat) (m : Bool) (s : State) : (queuePut n a m s).1.src = s.src := by unfold queuePut; split <;> rfl
@[simp] theorem queuePut_ser (n a : Nat) (m : Bool) (s : State) : (queuePut n a m s).1.ser = s.ser := by unfold queuePut; split <;> rfl
@[simp] theorem queuePut_fus (n a : Nat) (m : Bool) (s : State) : (queuePut n a m s).1.fus = s.fus := by unfold queuePut; split <;> rfl
@[simp] theorem queuePut_gnss (n a : Nat) (m : Bool) (s : State) : (queuePut n a m s).1.gnss = s.gnss := by unfold queuePut; split <;> rfl
@[simp] theorem queuePut_ctl (n a : Nat) (m : Bool) (s : State) : (queuePut n a m s).1.ctl = s.ctl := by unfold queuePut; split <;> rfl
@[simp] theorem queuePut_alc (n a : Nat) (m : Bool) (s : State) : (queuePut n a m s).1.alc = s.alc := by unfold queuePut; split <;> rfl
@[simp] theorem queuePut_servo (n a : Nat) (m : Bool) (s : State) : (queuePut n a m s).1.servo = s.servo := by unfold queuePut; split <;> rfl
@[simp] theorem queuePut_field (n a : Nat) (m : Bool) (s : State) : (queuePut n a m s).1.field = s.field := by unfold queuePut; split <;> rfl
@[simp] theorem queuePut_filt (n a : Nat) (m : Bool) (s : State) : (queuePut n a m s).1.filt = s.filt := by unfold queuePut; split <;> rfl
@[simp] theorem queuePut_can (n a : Nat) (m : Bool) (s : State) : (queuePut n a m s).1.can = s.can := by unfold queuePut; split <;> rfl
@[simp] theorem queuePut_idReq (n a : Nat) (m : Bool) (s : State) : (queuePut n a m s).1.idReq = s.idReq := by unfold queuePut; split <;> rfl
@[simp] theorem queuePut_time (n a : Nat) (m : Bool) (s : State) : (queuePut n a m s).1.time = s.time := by unfold queuePut; split <;> rfl
@[simp] theorem queuePut_eth (n a : Nat) (m : Bool) (s : State) : (queuePut n a m s).1.eth = s.eth := by unfold queuePut; split <;> rfl
@[simp] theorem queuePut_twin (n a : Nat) (m : Bool) (s : State) : (queuePut n a m s).1.twin = s.twin := by unfold queuePut; split <;> rfl
@[simp] theorem queuePut_power (n a : Nat) (m : Bool) (s : State) : (queuePut n a m s).1.power = s.power := by unfold queuePut; split <;> rfl

/-! `raiseWith` changes no part but ev, regs, line, now. -/

@[simp] theorem raiseWith_pending (f : Bool) (n a : Nat) (s : State) : (raiseWith f n a s).pending = s.pending := by unfold raiseWith; dsimp only; (repeat' split) <;> simp
@[simp] theorem raiseWith_free (f : Bool) (n a : Nat) (s : State) : (raiseWith f n a s).free = s.free := by unfold raiseWith; dsimp only; (repeat' split) <;> simp
@[simp] theorem raiseWith_clk (f : Bool) (n a : Nat) (s : State) : (raiseWith f n a s).clk = s.clk := by unfold raiseWith; dsimp only; (repeat' split) <;> simp
@[simp] theorem raiseWith_snap (f : Bool) (n a : Nat) (s : State) : (raiseWith f n a s).snap = s.snap := by unfold raiseWith; dsimp only; (repeat' split) <;> simp
@[simp] theorem raiseWith_snapPoison (f : Bool) (n a : Nat) (s : State) : (raiseWith f n a s).snapPoison = s.snapPoison := by unfold raiseWith; dsimp only; (repeat' split) <;> simp
@[simp] theorem raiseWith_poison (f : Bool) (n a : Nat) (s : State) : (raiseWith f n a s).poison = s.poison := by unfold raiseWith; dsimp only; (repeat' split) <;> simp
@[simp] theorem raiseWith_arb (f : Bool) (n a : Nat) (s : State) : (raiseWith f n a s).arb = s.arb := by unfold raiseWith; dsimp only; (repeat' split) <;> simp
@[simp] theorem raiseWith_yards (f : Bool) (n a : Nat) (s : State) : (raiseWith f n a s).yards = s.yards := by unfold raiseWith; dsimp only; (repeat' split) <;> simp
@[simp] theorem raiseWith_restart (f : Bool) (n a : Nat) (s : State) : (raiseWith f n a s).restart = s.restart := by unfold raiseWith; dsimp only; (repeat' split) <;> simp
@[simp] theorem raiseWith_host (f : Bool) (n a : Nat) (s : State) : (raiseWith f n a s).host = s.host := by unfold raiseWith; dsimp only; (repeat' split) <;> simp
@[simp] theorem raiseWith_session (f : Bool) (n a : Nat) (s : State) : (raiseWith f n a s).session = s.session := by unfold raiseWith; dsimp only; (repeat' split) <;> simp
@[simp] theorem raiseWith_load (f : Bool) (n a : Nat) (s : State) : (raiseWith f n a s).load = s.load := by unfold raiseWith; dsimp only; (repeat' split) <;> simp
@[simp] theorem raiseWith_nv (f : Bool) (n a : Nat) (s : State) : (raiseWith f n a s).nv = s.nv := by unfold raiseWith; dsimp only; (repeat' split) <;> simp
@[simp] theorem raiseWith_src (f : Bool) (n a : Nat) (s : State) : (raiseWith f n a s).src = s.src := by unfold raiseWith; dsimp only; (repeat' split) <;> simp
@[simp] theorem raiseWith_ser (f : Bool) (n a : Nat) (s : State) : (raiseWith f n a s).ser = s.ser := by unfold raiseWith; dsimp only; (repeat' split) <;> simp
@[simp] theorem raiseWith_fus (f : Bool) (n a : Nat) (s : State) : (raiseWith f n a s).fus = s.fus := by unfold raiseWith; dsimp only; (repeat' split) <;> simp
@[simp] theorem raiseWith_gnss (f : Bool) (n a : Nat) (s : State) : (raiseWith f n a s).gnss = s.gnss := by unfold raiseWith; dsimp only; (repeat' split) <;> simp
@[simp] theorem raiseWith_ctl (f : Bool) (n a : Nat) (s : State) : (raiseWith f n a s).ctl = s.ctl := by unfold raiseWith; dsimp only; (repeat' split) <;> simp
@[simp] theorem raiseWith_alc (f : Bool) (n a : Nat) (s : State) : (raiseWith f n a s).alc = s.alc := by unfold raiseWith; dsimp only; (repeat' split) <;> simp
@[simp] theorem raiseWith_servo (f : Bool) (n a : Nat) (s : State) : (raiseWith f n a s).servo = s.servo := by unfold raiseWith; dsimp only; (repeat' split) <;> simp
@[simp] theorem raiseWith_field (f : Bool) (n a : Nat) (s : State) : (raiseWith f n a s).field = s.field := by unfold raiseWith; dsimp only; (repeat' split) <;> simp
@[simp] theorem raiseWith_filt (f : Bool) (n a : Nat) (s : State) : (raiseWith f n a s).filt = s.filt := by unfold raiseWith; dsimp only; (repeat' split) <;> simp
@[simp] theorem raiseWith_can (f : Bool) (n a : Nat) (s : State) : (raiseWith f n a s).can = s.can := by unfold raiseWith; dsimp only; (repeat' split) <;> simp
@[simp] theorem raiseWith_idReq (f : Bool) (n a : Nat) (s : State) : (raiseWith f n a s).idReq = s.idReq := by unfold raiseWith; dsimp only; (repeat' split) <;> simp
@[simp] theorem raiseWith_time (f : Bool) (n a : Nat) (s : State) : (raiseWith f n a s).time = s.time := by unfold raiseWith; dsimp only; (repeat' split) <;> simp
@[simp] theorem raiseWith_eth (f : Bool) (n a : Nat) (s : State) : (raiseWith f n a s).eth = s.eth := by unfold raiseWith; dsimp only; (repeat' split) <;> simp
@[simp] theorem raiseWith_twin (f : Bool) (n a : Nat) (s : State) : (raiseWith f n a s).twin = s.twin := by unfold raiseWith; dsimp only; (repeat' split) <;> simp
@[simp] theorem raiseWith_power (f : Bool) (n a : Nat) (s : State) : (raiseWith f n a s).power = s.power := by unfold raiseWith; dsimp only; (repeat' split) <;> simp

/-! `raise` changes no part but ev, regs, line, now. -/

@[simp] theorem raise_pending (n a : Nat) (s : State) : (raise n a s).pending = s.pending := by simp [raise]
@[simp] theorem raise_free (n a : Nat) (s : State) : (raise n a s).free = s.free := by simp [raise]
@[simp] theorem raise_clk (n a : Nat) (s : State) : (raise n a s).clk = s.clk := by simp [raise]
@[simp] theorem raise_snap (n a : Nat) (s : State) : (raise n a s).snap = s.snap := by simp [raise]
@[simp] theorem raise_snapPoison (n a : Nat) (s : State) : (raise n a s).snapPoison = s.snapPoison := by simp [raise]
@[simp] theorem raise_poison (n a : Nat) (s : State) : (raise n a s).poison = s.poison := by simp [raise]
@[simp] theorem raise_arb (n a : Nat) (s : State) : (raise n a s).arb = s.arb := by simp [raise]
@[simp] theorem raise_yards (n a : Nat) (s : State) : (raise n a s).yards = s.yards := by simp [raise]
@[simp] theorem raise_restart (n a : Nat) (s : State) : (raise n a s).restart = s.restart := by simp [raise]
@[simp] theorem raise_host (n a : Nat) (s : State) : (raise n a s).host = s.host := by simp [raise]
@[simp] theorem raise_session (n a : Nat) (s : State) : (raise n a s).session = s.session := by simp [raise]
@[simp] theorem raise_load (n a : Nat) (s : State) : (raise n a s).load = s.load := by simp [raise]
@[simp] theorem raise_nv (n a : Nat) (s : State) : (raise n a s).nv = s.nv := by simp [raise]
@[simp] theorem raise_src (n a : Nat) (s : State) : (raise n a s).src = s.src := by simp [raise]
@[simp] theorem raise_ser (n a : Nat) (s : State) : (raise n a s).ser = s.ser := by simp [raise]
@[simp] theorem raise_fus (n a : Nat) (s : State) : (raise n a s).fus = s.fus := by simp [raise]
@[simp] theorem raise_gnss (n a : Nat) (s : State) : (raise n a s).gnss = s.gnss := by simp [raise]
@[simp] theorem raise_ctl (n a : Nat) (s : State) : (raise n a s).ctl = s.ctl := by simp [raise]
@[simp] theorem raise_alc (n a : Nat) (s : State) : (raise n a s).alc = s.alc := by simp [raise]
@[simp] theorem raise_servo (n a : Nat) (s : State) : (raise n a s).servo = s.servo := by simp [raise]
@[simp] theorem raise_field (n a : Nat) (s : State) : (raise n a s).field = s.field := by simp [raise]
@[simp] theorem raise_filt (n a : Nat) (s : State) : (raise n a s).filt = s.filt := by simp [raise]
@[simp] theorem raise_can (n a : Nat) (s : State) : (raise n a s).can = s.can := by simp [raise]
@[simp] theorem raise_idReq (n a : Nat) (s : State) : (raise n a s).idReq = s.idReq := by simp [raise]
@[simp] theorem raise_time (n a : Nat) (s : State) : (raise n a s).time = s.time := by simp [raise]
@[simp] theorem raise_eth (n a : Nat) (s : State) : (raise n a s).eth = s.eth := by simp [raise]
@[simp] theorem raise_twin (n a : Nat) (s : State) : (raise n a s).twin = s.twin := by simp [raise]
@[simp] theorem raise_power (n a : Nat) (s : State) : (raise n a s).power = s.power := by simp [raise]

/-! `raiseIf` changes no part but ev, regs, line, now. -/

@[simp] theorem raiseIf_pending (b : Bool) (n a : Nat) (s : State) : (raiseIf b n a s).pending = s.pending := by unfold raiseIf; split <;> simp
@[simp] theorem raiseIf_free (b : Bool) (n a : Nat) (s : State) : (raiseIf b n a s).free = s.free := by unfold raiseIf; split <;> simp
@[simp] theorem raiseIf_clk (b : Bool) (n a : Nat) (s : State) : (raiseIf b n a s).clk = s.clk := by unfold raiseIf; split <;> simp
@[simp] theorem raiseIf_snap (b : Bool) (n a : Nat) (s : State) : (raiseIf b n a s).snap = s.snap := by unfold raiseIf; split <;> simp
@[simp] theorem raiseIf_snapPoison (b : Bool) (n a : Nat) (s : State) : (raiseIf b n a s).snapPoison = s.snapPoison := by unfold raiseIf; split <;> simp
@[simp] theorem raiseIf_poison (b : Bool) (n a : Nat) (s : State) : (raiseIf b n a s).poison = s.poison := by unfold raiseIf; split <;> simp
@[simp] theorem raiseIf_arb (b : Bool) (n a : Nat) (s : State) : (raiseIf b n a s).arb = s.arb := by unfold raiseIf; split <;> simp
@[simp] theorem raiseIf_yards (b : Bool) (n a : Nat) (s : State) : (raiseIf b n a s).yards = s.yards := by unfold raiseIf; split <;> simp
@[simp] theorem raiseIf_restart (b : Bool) (n a : Nat) (s : State) : (raiseIf b n a s).restart = s.restart := by unfold raiseIf; split <;> simp
@[simp] theorem raiseIf_host (b : Bool) (n a : Nat) (s : State) : (raiseIf b n a s).host = s.host := by unfold raiseIf; split <;> simp
@[simp] theorem raiseIf_session (b : Bool) (n a : Nat) (s : State) : (raiseIf b n a s).session = s.session := by unfold raiseIf; split <;> simp
@[simp] theorem raiseIf_load (b : Bool) (n a : Nat) (s : State) : (raiseIf b n a s).load = s.load := by unfold raiseIf; split <;> simp
@[simp] theorem raiseIf_nv (b : Bool) (n a : Nat) (s : State) : (raiseIf b n a s).nv = s.nv := by unfold raiseIf; split <;> simp
@[simp] theorem raiseIf_src (b : Bool) (n a : Nat) (s : State) : (raiseIf b n a s).src = s.src := by unfold raiseIf; split <;> simp
@[simp] theorem raiseIf_ser (b : Bool) (n a : Nat) (s : State) : (raiseIf b n a s).ser = s.ser := by unfold raiseIf; split <;> simp
@[simp] theorem raiseIf_fus (b : Bool) (n a : Nat) (s : State) : (raiseIf b n a s).fus = s.fus := by unfold raiseIf; split <;> simp
@[simp] theorem raiseIf_gnss (b : Bool) (n a : Nat) (s : State) : (raiseIf b n a s).gnss = s.gnss := by unfold raiseIf; split <;> simp
@[simp] theorem raiseIf_ctl (b : Bool) (n a : Nat) (s : State) : (raiseIf b n a s).ctl = s.ctl := by unfold raiseIf; split <;> simp
@[simp] theorem raiseIf_alc (b : Bool) (n a : Nat) (s : State) : (raiseIf b n a s).alc = s.alc := by unfold raiseIf; split <;> simp
@[simp] theorem raiseIf_servo (b : Bool) (n a : Nat) (s : State) : (raiseIf b n a s).servo = s.servo := by unfold raiseIf; split <;> simp
@[simp] theorem raiseIf_field (b : Bool) (n a : Nat) (s : State) : (raiseIf b n a s).field = s.field := by unfold raiseIf; split <;> simp
@[simp] theorem raiseIf_filt (b : Bool) (n a : Nat) (s : State) : (raiseIf b n a s).filt = s.filt := by unfold raiseIf; split <;> simp
@[simp] theorem raiseIf_can (b : Bool) (n a : Nat) (s : State) : (raiseIf b n a s).can = s.can := by unfold raiseIf; split <;> simp
@[simp] theorem raiseIf_idReq (b : Bool) (n a : Nat) (s : State) : (raiseIf b n a s).idReq = s.idReq := by unfold raiseIf; split <;> simp
@[simp] theorem raiseIf_time (b : Bool) (n a : Nat) (s : State) : (raiseIf b n a s).time = s.time := by unfold raiseIf; split <;> simp
@[simp] theorem raiseIf_eth (b : Bool) (n a : Nat) (s : State) : (raiseIf b n a s).eth = s.eth := by unfold raiseIf; split <;> simp
@[simp] theorem raiseIf_twin (b : Bool) (n a : Nat) (s : State) : (raiseIf b n a s).twin = s.twin := by unfold raiseIf; split <;> simp
@[simp] theorem raiseIf_power (b : Bool) (n a : Nat) (s : State) : (raiseIf b n a s).power = s.power := by unfold raiseIf; split <;> simp

end Sys2Proof.Machine
end

