-- ==== Sys2Proof/Laws/Shared.lean ====
section
/-! SUPPORT. What the shared operations of requests, the host port and the twin link leave alone, one lemma a field. -/
namespace Sys2Proof.Machine

/-! `updPort` changes no part but host. -/

@[simp] theorem updPort_pending (p : Fin 2) (f : HostPort → HostPort) (s : State) : (updPort p f s).pending = s.pending := rfl
@[simp] theorem updPort_free (p : Fin 2) (f : HostPort → HostPort) (s : State) : (updPort p f s).free = s.free := rfl
@[simp] theorem updPort_clk (p : Fin 2) (f : HostPort → HostPort) (s : State) : (updPort p f s).clk = s.clk := rfl
@[simp] theorem updPort_regs (p : Fin 2) (f : HostPort → HostPort) (s : State) : (updPort p f s).regs = s.regs := rfl
@[simp] theorem updPort_snap (p : Fin 2) (f : HostPort → HostPort) (s : State) : (updPort p f s).snap = s.snap := rfl
@[simp] theorem updPort_snapPoison (p : Fin 2) (f : HostPort → HostPort) (s : State) : (updPort p f s).snapPoison = s.snapPoison := rfl
@[simp] theorem updPort_poison (p : Fin 2) (f : HostPort → HostPort) (s : State) : (updPort p f s).poison = s.poison := rfl
@[simp] theorem updPort_arb (p : Fin 2) (f : HostPort → HostPort) (s : State) : (updPort p f s).arb = s.arb := rfl
@[simp] theorem updPort_now (p : Fin 2) (f : HostPort → HostPort) (s : State) : (updPort p f s).now = s.now := rfl
@[simp] theorem updPort_yards (p : Fin 2) (f : HostPort → HostPort) (s : State) : (updPort p f s).yards = s.yards := rfl
@[simp] theorem updPort_restart (p : Fin 2) (f : HostPort → HostPort) (s : State) : (updPort p f s).restart = s.restart := rfl
@[simp] theorem updPort_line (p : Fin 2) (f : HostPort → HostPort) (s : State) : (updPort p f s).line = s.line := rfl
@[simp] theorem updPort_session (p : Fin 2) (f : HostPort → HostPort) (s : State) : (updPort p f s).session = s.session := rfl
@[simp] theorem updPort_load (p : Fin 2) (f : HostPort → HostPort) (s : State) : (updPort p f s).load = s.load := rfl
@[simp] theorem updPort_nv (p : Fin 2) (f : HostPort → HostPort) (s : State) : (updPort p f s).nv = s.nv := rfl
@[simp] theorem updPort_src (p : Fin 2) (f : HostPort → HostPort) (s : State) : (updPort p f s).src = s.src := rfl
@[simp] theorem updPort_ser (p : Fin 2) (f : HostPort → HostPort) (s : State) : (updPort p f s).ser = s.ser := rfl
@[simp] theorem updPort_fus (p : Fin 2) (f : HostPort → HostPort) (s : State) : (updPort p f s).fus = s.fus := rfl
@[simp] theorem updPort_gnss (p : Fin 2) (f : HostPort → HostPort) (s : State) : (updPort p f s).gnss = s.gnss := rfl
@[simp] theorem updPort_ctl (p : Fin 2) (f : HostPort → HostPort) (s : State) : (updPort p f s).ctl = s.ctl := rfl
@[simp] theorem updPort_alc (p : Fin 2) (f : HostPort → HostPort) (s : State) : (updPort p f s).alc = s.alc := rfl
@[simp] theorem updPort_servo (p : Fin 2) (f : HostPort → HostPort) (s : State) : (updPort p f s).servo = s.servo := rfl
@[simp] theorem updPort_field (p : Fin 2) (f : HostPort → HostPort) (s : State) : (updPort p f s).field = s.field := rfl
@[simp] theorem updPort_filt (p : Fin 2) (f : HostPort → HostPort) (s : State) : (updPort p f s).filt = s.filt := rfl
@[simp] theorem updPort_can (p : Fin 2) (f : HostPort → HostPort) (s : State) : (updPort p f s).can = s.can := rfl
@[simp] theorem updPort_idReq (p : Fin 2) (f : HostPort → HostPort) (s : State) : (updPort p f s).idReq = s.idReq := rfl
@[simp] theorem updPort_time (p : Fin 2) (f : HostPort → HostPort) (s : State) : (updPort p f s).time = s.time := rfl
@[simp] theorem updPort_eth (p : Fin 2) (f : HostPort → HostPort) (s : State) : (updPort p f s).eth = s.eth := rfl
@[simp] theorem updPort_twin (p : Fin 2) (f : HostPort → HostPort) (s : State) : (updPort p f s).twin = s.twin := rfl
@[simp] theorem updPort_power (p : Fin 2) (f : HostPort → HostPort) (s : State) : (updPort p f s).power = s.power := rfl
@[simp] theorem updPort_ev (p : Fin 2) (f : HostPort → HostPort) (s : State) : (updPort p f s).ev = s.ev := rfl

/-! `updEngine` changes no part but host. -/

@[simp] theorem updEngine_pending (p : Fin 2) (f : Engine → Engine) (s : State) : (updEngine p f s).pending = s.pending := rfl
@[simp] theorem updEngine_free (p : Fin 2) (f : Engine → Engine) (s : State) : (updEngine p f s).free = s.free := rfl
@[simp] theorem updEngine_clk (p : Fin 2) (f : Engine → Engine) (s : State) : (updEngine p f s).clk = s.clk := rfl
@[simp] theorem updEngine_regs (p : Fin 2) (f : Engine → Engine) (s : State) : (updEngine p f s).regs = s.regs := rfl
@[simp] theorem updEngine_snap (p : Fin 2) (f : Engine → Engine) (s : State) : (updEngine p f s).snap = s.snap := rfl
@[simp] theorem updEngine_snapPoison (p : Fin 2) (f : Engine → Engine) (s : State) : (updEngine p f s).snapPoison = s.snapPoison := rfl
@[simp] theorem updEngine_poison (p : Fin 2) (f : Engine → Engine) (s : State) : (updEngine p f s).poison = s.poison := rfl
@[simp] theorem updEngine_arb (p : Fin 2) (f : Engine → Engine) (s : State) : (updEngine p f s).arb = s.arb := rfl
@[simp] theorem updEngine_now (p : Fin 2) (f : Engine → Engine) (s : State) : (updEngine p f s).now = s.now := rfl
@[simp] theorem updEngine_yards (p : Fin 2) (f : Engine → Engine) (s : State) : (updEngine p f s).yards = s.yards := rfl
@[simp] theorem updEngine_restart (p : Fin 2) (f : Engine → Engine) (s : State) : (updEngine p f s).restart = s.restart := rfl
@[simp] theorem updEngine_line (p : Fin 2) (f : Engine → Engine) (s : State) : (updEngine p f s).line = s.line := rfl
@[simp] theorem updEngine_session (p : Fin 2) (f : Engine → Engine) (s : State) : (updEngine p f s).session = s.session := rfl
@[simp] theorem updEngine_load (p : Fin 2) (f : Engine → Engine) (s : State) : (updEngine p f s).load = s.load := rfl
@[simp] theorem updEngine_nv (p : Fin 2) (f : Engine → Engine) (s : State) : (updEngine p f s).nv = s.nv := rfl
@[simp] theorem updEngine_src (p : Fin 2) (f : Engine → Engine) (s : State) : (updEngine p f s).src = s.src := rfl
@[simp] theorem updEngine_ser (p : Fin 2) (f : Engine → Engine) (s : State) : (updEngine p f s).ser = s.ser := rfl
@[simp] theorem updEngine_fus (p : Fin 2) (f : Engine → Engine) (s : State) : (updEngine p f s).fus = s.fus := rfl
@[simp] theorem updEngine_gnss (p : Fin 2) (f : Engine → Engine) (s : State) : (updEngine p f s).gnss = s.gnss := rfl
@[simp] theorem updEngine_ctl (p : Fin 2) (f : Engine → Engine) (s : State) : (updEngine p f s).ctl = s.ctl := rfl
@[simp] theorem updEngine_alc (p : Fin 2) (f : Engine → Engine) (s : State) : (updEngine p f s).alc = s.alc := rfl
@[simp] theorem updEngine_servo (p : Fin 2) (f : Engine → Engine) (s : State) : (updEngine p f s).servo = s.servo := rfl
@[simp] theorem updEngine_field (p : Fin 2) (f : Engine → Engine) (s : State) : (updEngine p f s).field = s.field := rfl
@[simp] theorem updEngine_filt (p : Fin 2) (f : Engine → Engine) (s : State) : (updEngine p f s).filt = s.filt := rfl
@[simp] theorem updEngine_can (p : Fin 2) (f : Engine → Engine) (s : State) : (updEngine p f s).can = s.can := rfl
@[simp] theorem updEngine_idReq (p : Fin 2) (f : Engine → Engine) (s : State) : (updEngine p f s).idReq = s.idReq := rfl
@[simp] theorem updEngine_time (p : Fin 2) (f : Engine → Engine) (s : State) : (updEngine p f s).time = s.time := rfl
@[simp] theorem updEngine_eth (p : Fin 2) (f : Engine → Engine) (s : State) : (updEngine p f s).eth = s.eth := rfl
@[simp] theorem updEngine_twin (p : Fin 2) (f : Engine → Engine) (s : State) : (updEngine p f s).twin = s.twin := rfl
@[simp] theorem updEngine_power (p : Fin 2) (f : Engine → Engine) (s : State) : (updEngine p f s).power = s.power := rfl
@[simp] theorem updEngine_ev (p : Fin 2) (f : Engine → Engine) (s : State) : (updEngine p f s).ev = s.ev := rfl

/-! `ethQueue` changes no part but eth. -/

@[simp] theorem ethQueue_pending (e : Fin 2) (c : Nat) (f : EthTx) (s : State) : (ethQueue e c f s).pending = s.pending := by unfold ethQueue; split <;> rfl
@[simp] theorem ethQueue_free (e : Fin 2) (c : Nat) (f : EthTx) (s : State) : (ethQueue e c f s).free = s.free := by unfold ethQueue; split <;> rfl
@[simp] theorem ethQueue_clk (e : Fin 2) (c : Nat) (f : EthTx) (s : State) : (ethQueue e c f s).clk = s.clk := by unfold ethQueue; split <;> rfl
@[simp] theorem ethQueue_regs (e : Fin 2) (c : Nat) (f : EthTx) (s : State) : (ethQueue e c f s).regs = s.regs := by unfold ethQueue; split <;> rfl
@[simp] theorem ethQueue_snap (e : Fin 2) (c : Nat) (f : EthTx) (s : State) : (ethQueue e c f s).snap = s.snap := by unfold ethQueue; split <;> rfl
@[simp] theorem ethQueue_snapPoison (e : Fin 2) (c : Nat) (f : EthTx) (s : State) : (ethQueue e c f s).snapPoison = s.snapPoison := by unfold ethQueue; split <;> rfl
@[simp] theorem ethQueue_poison (e : Fin 2) (c : Nat) (f : EthTx) (s : State) : (ethQueue e c f s).poison = s.poison := by unfold ethQueue; split <;> rfl
@[simp] theorem ethQueue_arb (e : Fin 2) (c : Nat) (f : EthTx) (s : State) : (ethQueue e c f s).arb = s.arb := by unfold ethQueue; split <;> rfl
@[simp] theorem ethQueue_now (e : Fin 2) (c : Nat) (f : EthTx) (s : State) : (ethQueue e c f s).now = s.now := by unfold ethQueue; split <;> rfl
@[simp] theorem ethQueue_yards (e : Fin 2) (c : Nat) (f : EthTx) (s : State) : (ethQueue e c f s).yards = s.yards := by unfold ethQueue; split <;> rfl
@[simp] theorem ethQueue_restart (e : Fin 2) (c : Nat) (f : EthTx) (s : State) : (ethQueue e c f s).restart = s.restart := by unfold ethQueue; split <;> rfl
@[simp] theorem ethQueue_host (e : Fin 2) (c : Nat) (f : EthTx) (s : State) : (ethQueue e c f s).host = s.host := by unfold ethQueue; split <;> rfl
@[simp] theorem ethQueue_line (e : Fin 2) (c : Nat) (f : EthTx) (s : State) : (ethQueue e c f s).line = s.line := by unfold ethQueue; split <;> rfl
@[simp] theorem ethQueue_session (e : Fin 2) (c : Nat) (f : EthTx) (s : State) : (ethQueue e c f s).session = s.session := by unfold ethQueue; split <;> rfl
@[simp] theorem ethQueue_load (e : Fin 2) (c : Nat) (f : EthTx) (s : State) : (ethQueue e c f s).load = s.load := by unfold ethQueue; split <;> rfl
@[simp] theorem ethQueue_nv (e : Fin 2) (c : Nat) (f : EthTx) (s : State) : (ethQueue e c f s).nv = s.nv := by unfold ethQueue; split <;> rfl
@[simp] theorem ethQueue_src (e : Fin 2) (c : Nat) (f : EthTx) (s : State) : (ethQueue e c f s).src = s.src := by unfold ethQueue; split <;> rfl
@[simp] theorem ethQueue_ser (e : Fin 2) (c : Nat) (f : EthTx) (s : State) : (ethQueue e c f s).ser = s.ser := by unfold ethQueue; split <;> rfl
@[simp] theorem ethQueue_fus (e : Fin 2) (c : Nat) (f : EthTx) (s : State) : (ethQueue e c f s).fus = s.fus := by unfold ethQueue; split <;> rfl
@[simp] theorem ethQueue_gnss (e : Fin 2) (c : Nat) (f : EthTx) (s : State) : (ethQueue e c f s).gnss = s.gnss := by unfold ethQueue; split <;> rfl
@[simp] theorem ethQueue_ctl (e : Fin 2) (c : Nat) (f : EthTx) (s : State) : (ethQueue e c f s).ctl = s.ctl := by unfold ethQueue; split <;> rfl
@[simp] theorem ethQueue_alc (e : Fin 2) (c : Nat) (f : EthTx) (s : State) : (ethQueue e c f s).alc = s.alc := by unfold ethQueue; split <;> rfl
@[simp] theorem ethQueue_servo (e : Fin 2) (c : Nat) (f : EthTx) (s : State) : (ethQueue e c f s).servo = s.servo := by unfold ethQueue; split <;> rfl
@[simp] theorem ethQueue_field (e : Fin 2) (c : Nat) (f : EthTx) (s : State) : (ethQueue e c f s).field = s.field := by unfold ethQueue; split <;> rfl
@[simp] theorem ethQueue_filt (e : Fin 2) (c : Nat) (f : EthTx) (s : State) : (ethQueue e c f s).filt = s.filt := by unfold ethQueue; split <;> rfl
@[simp] theorem ethQueue_can (e : Fin 2) (c : Nat) (f : EthTx) (s : State) : (ethQueue e c f s).can = s.can := by unfold ethQueue; split <;> rfl
@[simp] theorem ethQueue_idReq (e : Fin 2) (c : Nat) (f : EthTx) (s : State) : (ethQueue e c f s).idReq = s.idReq := by unfold ethQueue; split <;> rfl
@[simp] theorem ethQueue_time (e : Fin 2) (c : Nat) (f : EthTx) (s : State) : (ethQueue e c f s).time = s.time := by unfold ethQueue; split <;> rfl
@[simp] theorem ethQueue_twin (e : Fin 2) (c : Nat) (f : EthTx) (s : State) : (ethQueue e c f s).twin = s.twin := by unfold ethQueue; split <;> rfl
@[simp] theorem ethQueue_power (e : Fin 2) (c : Nat) (f : EthTx) (s : State) : (ethQueue e c f s).power = s.power := by unfold ethQueue; split <;> rfl
@[simp] theorem ethQueue_ev (e : Fin 2) (c : Nat) (f : EthTx) (s : State) : (ethQueue e c f s).ev = s.ev := by unfold ethQueue; split <;> rfl

/-! `replyDatagram` changes no part but eth. -/

@[simp] theorem replyDatagram_pending (q : Option Peer) (b : List Byte) (c : Nat) (s : State) : (replyDatagram q b c s).pending = s.pending := by unfold replyDatagram; split <;> simp
@[simp] theorem replyDatagram_free (q : Option Peer) (b : List Byte) (c : Nat) (s : State) : (replyDatagram q b c s).free = s.free := by unfold replyDatagram; split <;> simp
@[simp] theorem replyDatagram_clk (q : Option Peer) (b : List Byte) (c : Nat) (s : State) : (replyDatagram q b c s).clk = s.clk := by unfold replyDatagram; split <;> simp
@[simp] theorem replyDatagram_regs (q : Option Peer) (b : List Byte) (c : Nat) (s : State) : (replyDatagram q b c s).regs = s.regs := by unfold replyDatagram; split <;> simp
@[simp] theorem replyDatagram_snap (q : Option Peer) (b : List Byte) (c : Nat) (s : State) : (replyDatagram q b c s).snap = s.snap := by unfold replyDatagram; split <;> simp
@[simp] theorem replyDatagram_snapPoison (q : Option Peer) (b : List Byte) (c : Nat) (s : State) : (replyDatagram q b c s).snapPoison = s.snapPoison := by unfold replyDatagram; split <;> simp
@[simp] theorem replyDatagram_poison (q : Option Peer) (b : List Byte) (c : Nat) (s : State) : (replyDatagram q b c s).poison = s.poison := by unfold replyDatagram; split <;> simp
@[simp] theorem replyDatagram_arb (q : Option Peer) (b : List Byte) (c : Nat) (s : State) : (replyDatagram q b c s).arb = s.arb := by unfold replyDatagram; split <;> simp
@[simp] theorem replyDatagram_now (q : Option Peer) (b : List Byte) (c : Nat) (s : State) : (replyDatagram q b c s).now = s.now := by unfold replyDatagram; split <;> simp
@[simp] theorem replyDatagram_yards (q : Option Peer) (b : List Byte) (c : Nat) (s : State) : (replyDatagram q b c s).yards = s.yards := by unfold replyDatagram; split <;> simp
@[simp] theorem replyDatagram_restart (q : Option Peer) (b : List Byte) (c : Nat) (s : State) : (replyDatagram q b c s).restart = s.restart := by unfold replyDatagram; split <;> simp
@[simp] theorem replyDatagram_host (q : Option Peer) (b : List Byte) (c : Nat) (s : State) : (replyDatagram q b c s).host = s.host := by unfold replyDatagram; split <;> simp
@[simp] theorem replyDatagram_line (q : Option Peer) (b : List Byte) (c : Nat) (s : State) : (replyDatagram q b c s).line = s.line := by unfold replyDatagram; split <;> simp
@[simp] theorem replyDatagram_session (q : Option Peer) (b : List Byte) (c : Nat) (s : State) : (replyDatagram q b c s).session = s.session := by unfold replyDatagram; split <;> simp
@[simp] theorem replyDatagram_load (q : Option Peer) (b : List Byte) (c : Nat) (s : State) : (replyDatagram q b c s).load = s.load := by unfold replyDatagram; split <;> simp
@[simp] theorem replyDatagram_nv (q : Option Peer) (b : List Byte) (c : Nat) (s : State) : (replyDatagram q b c s).nv = s.nv := by unfold replyDatagram; split <;> simp
@[simp] theorem replyDatagram_src (q : Option Peer) (b : List Byte) (c : Nat) (s : State) : (replyDatagram q b c s).src = s.src := by unfold replyDatagram; split <;> simp
@[simp] theorem replyDatagram_ser (q : Option Peer) (b : List Byte) (c : Nat) (s : State) : (replyDatagram q b c s).ser = s.ser := by unfold replyDatagram; split <;> simp
@[simp] theorem replyDatagram_fus (q : Option Peer) (b : List Byte) (c : Nat) (s : State) : (replyDatagram q b c s).fus = s.fus := by unfold replyDatagram; split <;> simp
@[simp] theorem replyDatagram_gnss (q : Option Peer) (b : List Byte) (c : Nat) (s : State) : (replyDatagram q b c s).gnss = s.gnss := by unfold replyDatagram; split <;> simp
@[simp] theorem replyDatagram_ctl (q : Option Peer) (b : List Byte) (c : Nat) (s : State) : (replyDatagram q b c s).ctl = s.ctl := by unfold replyDatagram; split <;> simp
@[simp] theorem replyDatagram_alc (q : Option Peer) (b : List Byte) (c : Nat) (s : State) : (replyDatagram q b c s).alc = s.alc := by unfold replyDatagram; split <;> simp
@[simp] theorem replyDatagram_servo (q : Option Peer) (b : List Byte) (c : Nat) (s : State) : (replyDatagram q b c s).servo = s.servo := by unfold replyDatagram; split <;> simp
@[simp] theorem replyDatagram_field (q : Option Peer) (b : List Byte) (c : Nat) (s : State) : (replyDatagram q b c s).field = s.field := by unfold replyDatagram; split <;> simp
@[simp] theorem replyDatagram_filt (q : Option Peer) (b : List Byte) (c : Nat) (s : State) : (replyDatagram q b c s).filt = s.filt := by unfold replyDatagram; split <;> simp
@[simp] theorem replyDatagram_can (q : Option Peer) (b : List Byte) (c : Nat) (s : State) : (replyDatagram q b c s).can = s.can := by unfold replyDatagram; split <;> simp
@[simp] theorem replyDatagram_idReq (q : Option Peer) (b : List Byte) (c : Nat) (s : State) : (replyDatagram q b c s).idReq = s.idReq := by unfold replyDatagram; split <;> simp
@[simp] theorem replyDatagram_time (q : Option Peer) (b : List Byte) (c : Nat) (s : State) : (replyDatagram q b c s).time = s.time := by unfold replyDatagram; split <;> simp
@[simp] theorem replyDatagram_twin (q : Option Peer) (b : List Byte) (c : Nat) (s : State) : (replyDatagram q b c s).twin = s.twin := by unfold replyDatagram; split <;> simp
@[simp] theorem replyDatagram_power (q : Option Peer) (b : List Byte) (c : Nat) (s : State) : (replyDatagram q b c s).power = s.power := by unfold replyDatagram; split <;> simp
@[simp] theorem replyDatagram_ev (q : Option Peer) (b : List Byte) (c : Nat) (s : State) : (replyDatagram q b c s).ev = s.ev := by unfold replyDatagram; split <;> simp

/-! `sendReply` changes no part but host, line, eth. -/

@[simp] theorem sendReply_pending (h : ReqHead) (op fl c : Nat) (p : List Byte) (s : State) : (sendReply h op fl c p s).pending = s.pending := by unfold sendReply; dsimp only; (repeat' split) <;> simp
@[simp] theorem sendReply_free (h : ReqHead) (op fl c : Nat) (p : List Byte) (s : State) : (sendReply h op fl c p s).free = s.free := by unfold sendReply; dsimp only; (repeat' split) <;> simp
@[simp] theorem sendReply_clk (h : ReqHead) (op fl c : Nat) (p : List Byte) (s : State) : (sendReply h op fl c p s).clk = s.clk := by unfold sendReply; dsimp only; (repeat' split) <;> simp
@[simp] theorem sendReply_regs (h : ReqHead) (op fl c : Nat) (p : List Byte) (s : State) : (sendReply h op fl c p s).regs = s.regs := by unfold sendReply; dsimp only; (repeat' split) <;> simp
@[simp] theorem sendReply_snap (h : ReqHead) (op fl c : Nat) (p : List Byte) (s : State) : (sendReply h op fl c p s).snap = s.snap := by unfold sendReply; dsimp only; (repeat' split) <;> simp
@[simp] theorem sendReply_snapPoison (h : ReqHead) (op fl c : Nat) (p : List Byte) (s : State) : (sendReply h op fl c p s).snapPoison = s.snapPoison := by unfold sendReply; dsimp only; (repeat' split) <;> simp
@[simp] theorem sendReply_poison (h : ReqHead) (op fl c : Nat) (p : List Byte) (s : State) : (sendReply h op fl c p s).poison = s.poison := by unfold sendReply; dsimp only; (repeat' split) <;> simp
@[simp] theorem sendReply_arb (h : ReqHead) (op fl c : Nat) (p : List Byte) (s : State) : (sendReply h op fl c p s).arb = s.arb := by unfold sendReply; dsimp only; (repeat' split) <;> simp
@[simp] theorem sendReply_now (h : ReqHead) (op fl c : Nat) (p : List Byte) (s : State) : (sendReply h op fl c p s).now = s.now := by unfold sendReply; dsimp only; (repeat' split) <;> simp
@[simp] theorem sendReply_yards (h : ReqHead) (op fl c : Nat) (p : List Byte) (s : State) : (sendReply h op fl c p s).yards = s.yards := by unfold sendReply; dsimp only; (repeat' split) <;> simp
@[simp] theorem sendReply_restart (h : ReqHead) (op fl c : Nat) (p : List Byte) (s : State) : (sendReply h op fl c p s).restart = s.restart := by unfold sendReply; dsimp only; (repeat' split) <;> simp
@[simp] theorem sendReply_session (h : ReqHead) (op fl c : Nat) (p : List Byte) (s : State) : (sendReply h op fl c p s).session = s.session := by unfold sendReply; dsimp only; (repeat' split) <;> simp
@[simp] theorem sendReply_load (h : ReqHead) (op fl c : Nat) (p : List Byte) (s : State) : (sendReply h op fl c p s).load = s.load := by unfold sendReply; dsimp only; (repeat' split) <;> simp
@[simp] theorem sendReply_nv (h : ReqHead) (op fl c : Nat) (p : List Byte) (s : State) : (sendReply h op fl c p s).nv = s.nv := by unfold sendReply; dsimp only; (repeat' split) <;> simp
@[simp] theorem sendReply_src (h : ReqHead) (op fl c : Nat) (p : List Byte) (s : State) : (sendReply h op fl c p s).src = s.src := by unfold sendReply; dsimp only; (repeat' split) <;> simp
@[simp] theorem sendReply_ser (h : ReqHead) (op fl c : Nat) (p : List Byte) (s : State) : (sendReply h op fl c p s).ser = s.ser := by unfold sendReply; dsimp only; (repeat' split) <;> simp
@[simp] theorem sendReply_fus (h : ReqHead) (op fl c : Nat) (p : List Byte) (s : State) : (sendReply h op fl c p s).fus = s.fus := by unfold sendReply; dsimp only; (repeat' split) <;> simp
@[simp] theorem sendReply_gnss (h : ReqHead) (op fl c : Nat) (p : List Byte) (s : State) : (sendReply h op fl c p s).gnss = s.gnss := by unfold sendReply; dsimp only; (repeat' split) <;> simp
@[simp] theorem sendReply_ctl (h : ReqHead) (op fl c : Nat) (p : List Byte) (s : State) : (sendReply h op fl c p s).ctl = s.ctl := by unfold sendReply; dsimp only; (repeat' split) <;> simp
@[simp] theorem sendReply_alc (h : ReqHead) (op fl c : Nat) (p : List Byte) (s : State) : (sendReply h op fl c p s).alc = s.alc := by unfold sendReply; dsimp only; (repeat' split) <;> simp
@[simp] theorem sendReply_servo (h : ReqHead) (op fl c : Nat) (p : List Byte) (s : State) : (sendReply h op fl c p s).servo = s.servo := by unfold sendReply; dsimp only; (repeat' split) <;> simp
@[simp] theorem sendReply_field (h : ReqHead) (op fl c : Nat) (p : List Byte) (s : State) : (sendReply h op fl c p s).field = s.field := by unfold sendReply; dsimp only; (repeat' split) <;> simp
@[simp] theorem sendReply_filt (h : ReqHead) (op fl c : Nat) (p : List Byte) (s : State) : (sendReply h op fl c p s).filt = s.filt := by unfold sendReply; dsimp only; (repeat' split) <;> simp
@[simp] theorem sendReply_can (h : ReqHead) (op fl c : Nat) (p : List Byte) (s : State) : (sendReply h op fl c p s).can = s.can := by unfold sendReply; dsimp only; (repeat' split) <;> simp
@[simp] theorem sendReply_idReq (h : ReqHead) (op fl c : Nat) (p : List Byte) (s : State) : (sendReply h op fl c p s).idReq = s.idReq := by unfold sendReply; dsimp only; (repeat' split) <;> simp
@[simp] theorem sendReply_time (h : ReqHead) (op fl c : Nat) (p : List Byte) (s : State) : (sendReply h op fl c p s).time = s.time := by unfold sendReply; dsimp only; (repeat' split) <;> simp
@[simp] theorem sendReply_twin (h : ReqHead) (op fl c : Nat) (p : List Byte) (s : State) : (sendReply h op fl c p s).twin = s.twin := by unfold sendReply; dsimp only; (repeat' split) <;> simp
@[simp] theorem sendReply_power (h : ReqHead) (op fl c : Nat) (p : List Byte) (s : State) : (sendReply h op fl c p s).power = s.power := by unfold sendReply; dsimp only; (repeat' split) <;> simp
@[simp] theorem sendReply_ev (h : ReqHead) (op fl c : Nat) (p : List Byte) (s : State) : (sendReply h op fl c p s).ev = s.ev := by unfold sendReply; dsimp only; (repeat' split) <;> simp

/-! `respond` changes no part but regs, now, host, line, eth. -/

@[simp] theorem respond_pending (h : ReqHead) (op c st det : Nat) (d : List Byte) (s : State) : (respond h op c st det d s).pending = s.pending := by unfold respond; dsimp only; (repeat' split) <;> simp
@[simp] theorem respond_free (h : ReqHead) (op c st det : Nat) (d : List Byte) (s : State) : (respond h op c st det d s).free = s.free := by unfold respond; dsimp only; (repeat' split) <;> simp
@[simp] theorem respond_clk (h : ReqHead) (op c st det : Nat) (d : List Byte) (s : State) : (respond h op c st det d s).clk = s.clk := by unfold respond; dsimp only; (repeat' split) <;> simp
@[simp] theorem respond_snap (h : ReqHead) (op c st det : Nat) (d : List Byte) (s : State) : (respond h op c st det d s).snap = s.snap := by unfold respond; dsimp only; (repeat' split) <;> simp
@[simp] theorem respond_snapPoison (h : ReqHead) (op c st det : Nat) (d : List Byte) (s : State) : (respond h op c st det d s).snapPoison = s.snapPoison := by unfold respond; dsimp only; (repeat' split) <;> simp
@[simp] theorem respond_poison (h : ReqHead) (op c st det : Nat) (d : List Byte) (s : State) : (respond h op c st det d s).poison = s.poison := by unfold respond; dsimp only; (repeat' split) <;> simp
@[simp] theorem respond_arb (h : ReqHead) (op c st det : Nat) (d : List Byte) (s : State) : (respond h op c st det d s).arb = s.arb := by unfold respond; dsimp only; (repeat' split) <;> simp
@[simp] theorem respond_yards (h : ReqHead) (op c st det : Nat) (d : List Byte) (s : State) : (respond h op c st det d s).yards = s.yards := by unfold respond; dsimp only; (repeat' split) <;> simp
@[simp] theorem respond_restart (h : ReqHead) (op c st det : Nat) (d : List Byte) (s : State) : (respond h op c st det d s).restart = s.restart := by unfold respond; dsimp only; (repeat' split) <;> simp
@[simp] theorem respond_session (h : ReqHead) (op c st det : Nat) (d : List Byte) (s : State) : (respond h op c st det d s).session = s.session := by unfold respond; dsimp only; (repeat' split) <;> simp
@[simp] theorem respond_load (h : ReqHead) (op c st det : Nat) (d : List Byte) (s : State) : (respond h op c st det d s).load = s.load := by unfold respond; dsimp only; (repeat' split) <;> simp
@[simp] theorem respond_nv (h : ReqHead) (op c st det : Nat) (d : List Byte) (s : State) : (respond h op c st det d s).nv = s.nv := by unfold respond; dsimp only; (repeat' split) <;> simp
@[simp] theorem respond_src (h : ReqHead) (op c st det : Nat) (d : List Byte) (s : State) : (respond h op c st det d s).src = s.src := by unfold respond; dsimp only; (repeat' split) <;> simp
@[simp] theorem respond_ser (h : ReqHead) (op c st det : Nat) (d : List Byte) (s : State) : (respond h op c st det d s).ser = s.ser := by unfold respond; dsimp only; (repeat' split) <;> simp
@[simp] theorem respond_fus (h : ReqHead) (op c st det : Nat) (d : List Byte) (s : State) : (respond h op c st det d s).fus = s.fus := by unfold respond; dsimp only; (repeat' split) <;> simp
@[simp] theorem respond_gnss (h : ReqHead) (op c st det : Nat) (d : List Byte) (s : State) : (respond h op c st det d s).gnss = s.gnss := by unfold respond; dsimp only; (repeat' split) <;> simp
@[simp] theorem respond_ctl (h : ReqHead) (op c st det : Nat) (d : List Byte) (s : State) : (respond h op c st det d s).ctl = s.ctl := by unfold respond; dsimp only; (repeat' split) <;> simp
@[simp] theorem respond_alc (h : ReqHead) (op c st det : Nat) (d : List Byte) (s : State) : (respond h op c st det d s).alc = s.alc := by unfold respond; dsimp only; (repeat' split) <;> simp
@[simp] theorem respond_servo (h : ReqHead) (op c st det : Nat) (d : List Byte) (s : State) : (respond h op c st det d s).servo = s.servo := by unfold respond; dsimp only; (repeat' split) <;> simp
@[simp] theorem respond_field (h : ReqHead) (op c st det : Nat) (d : List Byte) (s : State) : (respond h op c st det d s).field = s.field := by unfold respond; dsimp only; (repeat' split) <;> simp
@[simp] theorem respond_filt (h : ReqHead) (op c st det : Nat) (d : List Byte) (s : State) : (respond h op c st det d s).filt = s.filt := by unfold respond; dsimp only; (repeat' split) <;> simp
@[simp] theorem respond_can (h : ReqHead) (op c st det : Nat) (d : List Byte) (s : State) : (respond h op c st det d s).can = s.can := by unfold respond; dsimp only; (repeat' split) <;> simp
@[simp] theorem respond_idReq (h : ReqHead) (op c st det : Nat) (d : List Byte) (s : State) : (respond h op c st det d s).idReq = s.idReq := by unfold respond; dsimp only; (repeat' split) <;> simp
@[simp] theorem respond_time (h : ReqHead) (op c st det : Nat) (d : List Byte) (s : State) : (respond h op c st det d s).time = s.time := by unfold respond; dsimp only; (repeat' split) <;> simp
@[simp] theorem respond_twin (h : ReqHead) (op c st det : Nat) (d : List Byte) (s : State) : (respond h op c st det d s).twin = s.twin := by unfold respond; dsimp only; (repeat' split) <;> simp
@[simp] theorem respond_power (h : ReqHead) (op c st det : Nat) (d : List Byte) (s : State) : (respond h op c st det d s).power = s.power := by unfold respond; dsimp only; (repeat' split) <;> simp
@[simp] theorem respond_ev (h : ReqHead) (op c st det : Nat) (d : List Byte) (s : State) : (respond h op c st det d s).ev = s.ev := by unfold respond; dsimp only; (repeat' split) <;> simp

/-! `closeSession` changes no part but session, ev, regs, line, now. -/

@[simp] theorem closeSession_pending (p : Fin 2) (r : Nat) (s : State) : (closeSession p r s).pending = s.pending := by unfold closeSession; split <;> simp
@[simp] theorem closeSession_free (p : Fin 2) (r : Nat) (s : State) : (closeSession p r s).free = s.free := by unfold closeSession; split <;> simp
@[simp] theorem closeSession_clk (p : Fin 2) (r : Nat) (s : State) : (closeSession p r s).clk = s.clk := by unfold closeSession; split <;> simp
@[simp] theorem closeSession_snap (p : Fin 2) (r : Nat) (s : State) : (closeSession p r s).snap = s.snap := by unfold closeSession; split <;> simp
@[simp] theorem closeSession_snapPoison (p : Fin 2) (r : Nat) (s : State) : (closeSession p r s).snapPoison = s.snapPoison := by unfold closeSession; split <;> simp
@[simp] theorem closeSession_poison (p : Fin 2) (r : Nat) (s : State) : (closeSession p r s).poison = s.poison := by unfold closeSession; split <;> simp
@[simp] theorem closeSession_arb (p : Fin 2) (r : Nat) (s : State) : (closeSession p r s).arb = s.arb := by unfold closeSession; split <;> simp
@[simp] theorem closeSession_yards (p : Fin 2) (r : Nat) (s : State) : (closeSession p r s).yards = s.yards := by unfold closeSession; split <;> simp
@[simp] theorem closeSession_restart (p : Fin 2) (r : Nat) (s : State) : (closeSession p r s).restart = s.restart := by unfold closeSession; split <;> simp
@[simp] theorem closeSession_host (p : Fin 2) (r : Nat) (s : State) : (closeSession p r s).host = s.host := by unfold closeSession; split <;> simp
@[simp] theorem closeSession_load (p : Fin 2) (r : Nat) (s : State) : (closeSession p r s).load = s.load := by unfold closeSession; split <;> simp
@[simp] theorem closeSession_nv (p : Fin 2) (r : Nat) (s : State) : (closeSession p r s).nv = s.nv := by unfold closeSession; split <;> simp
@[simp] theorem closeSession_src (p : Fin 2) (r : Nat) (s : State) : (closeSession p r s).src = s.src := by unfold closeSession; split <;> simp
@[simp] theorem closeSession_ser (p : Fin 2) (r : Nat) (s : State) : (closeSession p r s).ser = s.ser := by unfold closeSession; split <;> simp
@[simp] theorem closeSession_fus (p : Fin 2) (r : Nat) (s : State) : (closeSession p r s).fus = s.fus := by unfold closeSession; split <;> simp
@[simp] theorem closeSession_gnss (p : Fin 2) (r : Nat) (s : State) : (closeSession p r s).gnss = s.gnss := by unfold closeSession; split <;> simp
@[simp] theorem closeSession_ctl (p : Fin 2) (r : Nat) (s : State) : (closeSession p r s).ctl = s.ctl := by unfold closeSession; split <;> simp
@[simp] theorem closeSession_alc (p : Fin 2) (r : Nat) (s : State) : (closeSession p r s).alc = s.alc := by unfold closeSession; split <;> simp
@[simp] theorem closeSession_servo (p : Fin 2) (r : Nat) (s : State) : (closeSession p r s).servo = s.servo := by unfold closeSession; split <;> simp
@[simp] theorem closeSession_field (p : Fin 2) (r : Nat) (s : State) : (closeSession p r s).field = s.field := by unfold closeSession; split <;> simp
@[simp] theorem closeSession_filt (p : Fin 2) (r : Nat) (s : State) : (closeSession p r s).filt = s.filt := by unfold closeSession; split <;> simp
@[simp] theorem closeSession_can (p : Fin 2) (r : Nat) (s : State) : (closeSession p r s).can = s.can := by unfold closeSession; split <;> simp
@[simp] theorem closeSession_idReq (p : Fin 2) (r : Nat) (s : State) : (closeSession p r s).idReq = s.idReq := by unfold closeSession; split <;> simp
@[simp] theorem closeSession_time (p : Fin 2) (r : Nat) (s : State) : (closeSession p r s).time = s.time := by unfold closeSession; split <;> simp
@[simp] theorem closeSession_eth (p : Fin 2) (r : Nat) (s : State) : (closeSession p r s).eth = s.eth := by unfold closeSession; split <;> simp
@[simp] theorem closeSession_twin (p : Fin 2) (r : Nat) (s : State) : (closeSession p r s).twin = s.twin := by unfold closeSession; split <;> simp
@[simp] theorem closeSession_power (p : Fin 2) (r : Nat) (s : State) : (closeSession p r s).power = s.power := by unfold closeSession; split <;> simp

/-! `touchSession` changes no part but session. -/

@[simp] theorem touchSession_pending (h : ReqHead) (s : State) : (touchSession h s).pending = s.pending := rfl
@[simp] theorem touchSession_free (h : ReqHead) (s : State) : (touchSession h s).free = s.free := rfl
@[simp] theorem touchSession_clk (h : ReqHead) (s : State) : (touchSession h s).clk = s.clk := rfl
@[simp] theorem touchSession_regs (h : ReqHead) (s : State) : (touchSession h s).regs = s.regs := rfl
@[simp] theorem touchSession_snap (h : ReqHead) (s : State) : (touchSession h s).snap = s.snap := rfl
@[simp] theorem touchSession_snapPoison (h : ReqHead) (s : State) : (touchSession h s).snapPoison = s.snapPoison := rfl
@[simp] theorem touchSession_poison (h : ReqHead) (s : State) : (touchSession h s).poison = s.poison := rfl
@[simp] theorem touchSession_arb (h : ReqHead) (s : State) : (touchSession h s).arb = s.arb := rfl
@[simp] theorem touchSession_now (h : ReqHead) (s : State) : (touchSession h s).now = s.now := rfl
@[simp] theorem touchSession_yards (h : ReqHead) (s : State) : (touchSession h s).yards = s.yards := rfl
@[simp] theorem touchSession_restart (h : ReqHead) (s : State) : (touchSession h s).restart = s.restart := rfl
@[simp] theorem touchSession_host (h : ReqHead) (s : State) : (touchSession h s).host = s.host := rfl
@[simp] theorem touchSession_line (h : ReqHead) (s : State) : (touchSession h s).line = s.line := rfl
@[simp] theorem touchSession_load (h : ReqHead) (s : State) : (touchSession h s).load = s.load := rfl
@[simp] theorem touchSession_nv (h : ReqHead) (s : State) : (touchSession h s).nv = s.nv := rfl
@[simp] theorem touchSession_src (h : ReqHead) (s : State) : (touchSession h s).src = s.src := rfl
@[simp] theorem touchSession_ser (h : ReqHead) (s : State) : (touchSession h s).ser = s.ser := rfl
@[simp] theorem touchSession_fus (h : ReqHead) (s : State) : (touchSession h s).fus = s.fus := rfl
@[simp] theorem touchSession_gnss (h : ReqHead) (s : State) : (touchSession h s).gnss = s.gnss := rfl
@[simp] theorem touchSession_ctl (h : ReqHead) (s : State) : (touchSession h s).ctl = s.ctl := rfl
@[simp] theorem touchSession_alc (h : ReqHead) (s : State) : (touchSession h s).alc = s.alc := rfl
@[simp] theorem touchSession_servo (h : ReqHead) (s : State) : (touchSession h s).servo = s.servo := rfl
@[simp] theorem touchSession_field (h : ReqHead) (s : State) : (touchSession h s).field = s.field := rfl
@[simp] theorem touchSession_filt (h : ReqHead) (s : State) : (touchSession h s).filt = s.filt := rfl
@[simp] theorem touchSession_can (h : ReqHead) (s : State) : (touchSession h s).can = s.can := rfl
@[simp] theorem touchSession_idReq (h : ReqHead) (s : State) : (touchSession h s).idReq = s.idReq := rfl
@[simp] theorem touchSession_time (h : ReqHead) (s : State) : (touchSession h s).time = s.time := rfl
@[simp] theorem touchSession_eth (h : ReqHead) (s : State) : (touchSession h s).eth = s.eth := rfl
@[simp] theorem touchSession_twin (h : ReqHead) (s : State) : (touchSession h s).twin = s.twin := rfl
@[simp] theorem touchSession_power (h : ReqHead) (s : State) : (touchSession h s).power = s.power := rfl
@[simp] theorem touchSession_ev (h : ReqHead) (s : State) : (touchSession h s).ev = s.ev := rfl

/-! `atCommit` changes no part but session, clk, power. -/

@[simp] theorem atCommit_pending (o : OpSpec) (r : Req) (s : State) : (atCommit o r s).pending = s.pending := by simp [atCommit]
@[simp] theorem atCommit_free (o : OpSpec) (r : Req) (s : State) : (atCommit o r s).free = s.free := by simp [atCommit]
@[simp] theorem atCommit_regs (o : OpSpec) (r : Req) (s : State) : (atCommit o r s).regs = s.regs := by simp [atCommit]
@[simp] theorem atCommit_snap (o : OpSpec) (r : Req) (s : State) : (atCommit o r s).snap = s.snap := by simp [atCommit]
@[simp] theorem atCommit_snapPoison (o : OpSpec) (r : Req) (s : State) : (atCommit o r s).snapPoison = s.snapPoison := by simp [atCommit]
@[simp] theorem atCommit_poison (o : OpSpec) (r : Req) (s : State) : (atCommit o r s).poison = s.poison := by simp [atCommit]
@[simp] theorem atCommit_arb (o : OpSpec) (r : Req) (s : State) : (atCommit o r s).arb = s.arb := by simp [atCommit]
@[simp] theorem atCommit_now (o : OpSpec) (r : Req) (s : State) : (atCommit o r s).now = s.now := by simp [atCommit]
@[simp] theorem atCommit_yards (o : OpSpec) (r : Req) (s : State) : (atCommit o r s).yards = s.yards := by simp [atCommit]
@[simp] theorem atCommit_restart (o : OpSpec) (r : Req) (s : State) : (atCommit o r s).restart = s.restart := by simp [atCommit]
@[simp] theorem atCommit_host (o : OpSpec) (r : Req) (s : State) : (atCommit o r s).host = s.host := by simp [atCommit]
@[simp] theorem atCommit_line (o : OpSpec) (r : Req) (s : State) : (atCommit o r s).line = s.line := by simp [atCommit]
@[simp] theorem atCommit_load (o : OpSpec) (r : Req) (s : State) : (atCommit o r s).load = s.load := by simp [atCommit]
@[simp] theorem atCommit_nv (o : OpSpec) (r : Req) (s : State) : (atCommit o r s).nv = s.nv := by simp [atCommit]
@[simp] theorem atCommit_src (o : OpSpec) (r : Req) (s : State) : (atCommit o r s).src = s.src := by simp [atCommit]
@[simp] theorem atCommit_ser (o : OpSpec) (r : Req) (s : State) : (atCommit o r s).ser = s.ser := by simp [atCommit]
@[simp] theorem atCommit_fus (o : OpSpec) (r : Req) (s : State) : (atCommit o r s).fus = s.fus := by simp [atCommit]
@[simp] theorem atCommit_gnss (o : OpSpec) (r : Req) (s : State) : (atCommit o r s).gnss = s.gnss := by simp [atCommit]
@[simp] theorem atCommit_ctl (o : OpSpec) (r : Req) (s : State) : (atCommit o r s).ctl = s.ctl := by simp [atCommit]
@[simp] theorem atCommit_alc (o : OpSpec) (r : Req) (s : State) : (atCommit o r s).alc = s.alc := by simp [atCommit]
@[simp] theorem atCommit_servo (o : OpSpec) (r : Req) (s : State) : (atCommit o r s).servo = s.servo := by simp [atCommit]
@[simp] theorem atCommit_field (o : OpSpec) (r : Req) (s : State) : (atCommit o r s).field = s.field := by simp [atCommit]
@[simp] theorem atCommit_filt (o : OpSpec) (r : Req) (s : State) : (atCommit o r s).filt = s.filt := by simp [atCommit]
@[simp] theorem atCommit_can (o : OpSpec) (r : Req) (s : State) : (atCommit o r s).can = s.can := by simp [atCommit]
@[simp] theorem atCommit_idReq (o : OpSpec) (r : Req) (s : State) : (atCommit o r s).idReq = s.idReq := by simp [atCommit]
@[simp] theorem atCommit_time (o : OpSpec) (r : Req) (s : State) : (atCommit o r s).time = s.time := by simp [atCommit]
@[simp] theorem atCommit_eth (o : OpSpec) (r : Req) (s : State) : (atCommit o r s).eth = s.eth := by simp [atCommit]
@[simp] theorem atCommit_twin (o : OpSpec) (r : Req) (s : State) : (atCommit o r s).twin = s.twin := by simp [atCommit]
@[simp] theorem atCommit_ev (o : OpSpec) (r : Req) (s : State) : (atCommit o r s).ev = s.ev := by simp [atCommit]

/-! `forward` changes no part but twin. -/

@[simp] theorem forward_pending (o : OpSpec) (r : Req) (st : Nat) (s : State) : (forward o r st s).pending = s.pending := by unfold forward; split <;> rfl
@[simp] theorem forward_free (o : OpSpec) (r : Req) (st : Nat) (s : State) : (forward o r st s).free = s.free := by unfold forward; split <;> rfl
@[simp] theorem forward_clk (o : OpSpec) (r : Req) (st : Nat) (s : State) : (forward o r st s).clk = s.clk := by unfold forward; split <;> rfl
@[simp] theorem forward_regs (o : OpSpec) (r : Req) (st : Nat) (s : State) : (forward o r st s).regs = s.regs := by unfold forward; split <;> rfl
@[simp] theorem forward_snap (o : OpSpec) (r : Req) (st : Nat) (s : State) : (forward o r st s).snap = s.snap := by unfold forward; split <;> rfl
@[simp] theorem forward_snapPoison (o : OpSpec) (r : Req) (st : Nat) (s : State) : (forward o r st s).snapPoison = s.snapPoison := by unfold forward; split <;> rfl
@[simp] theorem forward_poison (o : OpSpec) (r : Req) (st : Nat) (s : State) : (forward o r st s).poison = s.poison := by unfold forward; split <;> rfl
@[simp] theorem forward_arb (o : OpSpec) (r : Req) (st : Nat) (s : State) : (forward o r st s).arb = s.arb := by unfold forward; split <;> rfl
@[simp] theorem forward_now (o : OpSpec) (r : Req) (st : Nat) (s : State) : (forward o r st s).now = s.now := by unfold forward; split <;> rfl
@[simp] theorem forward_yards (o : OpSpec) (r : Req) (st : Nat) (s : State) : (forward o r st s).yards = s.yards := by unfold forward; split <;> rfl
@[simp] theorem forward_restart (o : OpSpec) (r : Req) (st : Nat) (s : State) : (forward o r st s).restart = s.restart := by unfold forward; split <;> rfl
@[simp] theorem forward_host (o : OpSpec) (r : Req) (st : Nat) (s : State) : (forward o r st s).host = s.host := by unfold forward; split <;> rfl
@[simp] theorem forward_line (o : OpSpec) (r : Req) (st : Nat) (s : State) : (forward o r st s).line = s.line := by unfold forward; split <;> rfl
@[simp] theorem forward_session (o : OpSpec) (r : Req) (st : Nat) (s : State) : (forward o r st s).session = s.session := by unfold forward; split <;> rfl
@[simp] theorem forward_load (o : OpSpec) (r : Req) (st : Nat) (s : State) : (forward o r st s).load = s.load := by unfold forward; split <;> rfl
@[simp] theorem forward_nv (o : OpSpec) (r : Req) (st : Nat) (s : State) : (forward o r st s).nv = s.nv := by unfold forward; split <;> rfl
@[simp] theorem forward_src (o : OpSpec) (r : Req) (st : Nat) (s : State) : (forward o r st s).src = s.src := by unfold forward; split <;> rfl
@[simp] theorem forward_ser (o : OpSpec) (r : Req) (st : Nat) (s : State) : (forward o r st s).ser = s.ser := by unfold forward; split <;> rfl
@[simp] theorem forward_fus (o : OpSpec) (r : Req) (st : Nat) (s : State) : (forward o r st s).fus = s.fus := by unfold forward; split <;> rfl
@[simp] theorem forward_gnss (o : OpSpec) (r : Req) (st : Nat) (s : State) : (forward o r st s).gnss = s.gnss := by unfold forward; split <;> rfl
@[simp] theorem forward_ctl (o : OpSpec) (r : Req) (st : Nat) (s : State) : (forward o r st s).ctl = s.ctl := by unfold forward; split <;> rfl
@[simp] theorem forward_alc (o : OpSpec) (r : Req) (st : Nat) (s : State) : (forward o r st s).alc = s.alc := by unfold forward; split <;> rfl
@[simp] theorem forward_servo (o : OpSpec) (r : Req) (st : Nat) (s : State) : (forward o r st s).servo = s.servo := by unfold forward; split <;> rfl
@[simp] theorem forward_field (o : OpSpec) (r : Req) (st : Nat) (s : State) : (forward o r st s).field = s.field := by unfold forward; split <;> rfl
@[simp] theorem forward_filt (o : OpSpec) (r : Req) (st : Nat) (s : State) : (forward o r st s).filt = s.filt := by unfold forward; split <;> rfl
@[simp] theorem forward_can (o : OpSpec) (r : Req) (st : Nat) (s : State) : (forward o r st s).can = s.can := by unfold forward; split <;> rfl
@[simp] theorem forward_idReq (o : OpSpec) (r : Req) (st : Nat) (s : State) : (forward o r st s).idReq = s.idReq := by unfold forward; split <;> rfl
@[simp] theorem forward_time (o : OpSpec) (r : Req) (st : Nat) (s : State) : (forward o r st s).time = s.time := by unfold forward; split <;> rfl
@[simp] theorem forward_eth (o : OpSpec) (r : Req) (st : Nat) (s : State) : (forward o r st s).eth = s.eth := by unfold forward; split <;> rfl
@[simp] theorem forward_power (o : OpSpec) (r : Req) (st : Nat) (s : State) : (forward o r st s).power = s.power := by unfold forward; split <;> rfl
@[simp] theorem forward_ev (o : OpSpec) (r : Req) (st : Nat) (s : State) : (forward o r st s).ev = s.ev := by unfold forward; split <;> rfl

/-! `noteCommit` changes no part but arb. -/

@[simp] theorem noteCommit_pending (c p : Nat) (l : List Nat) (s : State) : (noteCommit c p l s).pending = s.pending := rfl
@[simp] theorem noteCommit_free (c p : Nat) (l : List Nat) (s : State) : (noteCommit c p l s).free = s.free := rfl
@[simp] theorem noteCommit_clk (c p : Nat) (l : List Nat) (s : State) : (noteCommit c p l s).clk = s.clk := rfl
@[simp] theorem noteCommit_regs (c p : Nat) (l : List Nat) (s : State) : (noteCommit c p l s).regs = s.regs := rfl
@[simp] theorem noteCommit_snap (c p : Nat) (l : List Nat) (s : State) : (noteCommit c p l s).snap = s.snap := rfl
@[simp] theorem noteCommit_snapPoison (c p : Nat) (l : List Nat) (s : State) : (noteCommit c p l s).snapPoison = s.snapPoison := rfl
@[simp] theorem noteCommit_poison (c p : Nat) (l : List Nat) (s : State) : (noteCommit c p l s).poison = s.poison := rfl
@[simp] theorem noteCommit_now (c p : Nat) (l : List Nat) (s : State) : (noteCommit c p l s).now = s.now := rfl
@[simp] theorem noteCommit_yards (c p : Nat) (l : List Nat) (s : State) : (noteCommit c p l s).yards = s.yards := rfl
@[simp] theorem noteCommit_restart (c p : Nat) (l : List Nat) (s : State) : (noteCommit c p l s).restart = s.restart := rfl
@[simp] theorem noteCommit_host (c p : Nat) (l : List Nat) (s : State) : (noteCommit c p l s).host = s.host := rfl
@[simp] theorem noteCommit_line (c p : Nat) (l : List Nat) (s : State) : (noteCommit c p l s).line = s.line := rfl
@[simp] theorem noteCommit_session (c p : Nat) (l : List Nat) (s : State) : (noteCommit c p l s).session = s.session := rfl
@[simp] theorem noteCommit_load (c p : Nat) (l : List Nat) (s : State) : (noteCommit c p l s).load = s.load := rfl
@[simp] theorem noteCommit_nv (c p : Nat) (l : List Nat) (s : State) : (noteCommit c p l s).nv = s.nv := rfl
@[simp] theorem noteCommit_src (c p : Nat) (l : List Nat) (s : State) : (noteCommit c p l s).src = s.src := rfl
@[simp] theorem noteCommit_ser (c p : Nat) (l : List Nat) (s : State) : (noteCommit c p l s).ser = s.ser := rfl
@[simp] theorem noteCommit_fus (c p : Nat) (l : List Nat) (s : State) : (noteCommit c p l s).fus = s.fus := rfl
@[simp] theorem noteCommit_gnss (c p : Nat) (l : List Nat) (s : State) : (noteCommit c p l s).gnss = s.gnss := rfl
@[simp] theorem noteCommit_ctl (c p : Nat) (l : List Nat) (s : State) : (noteCommit c p l s).ctl = s.ctl := rfl
@[simp] theorem noteCommit_alc (c p : Nat) (l : List Nat) (s : State) : (noteCommit c p l s).alc = s.alc := rfl
@[simp] theorem noteCommit_servo (c p : Nat) (l : List Nat) (s : State) : (noteCommit c p l s).servo = s.servo := rfl
@[simp] theorem noteCommit_field (c p : Nat) (l : List Nat) (s : State) : (noteCommit c p l s).field = s.field := rfl
@[simp] theorem noteCommit_filt (c p : Nat) (l : List Nat) (s : State) : (noteCommit c p l s).filt = s.filt := rfl
@[simp] theorem noteCommit_can (c p : Nat) (l : List Nat) (s : State) : (noteCommit c p l s).can = s.can := rfl
@[simp] theorem noteCommit_idReq (c p : Nat) (l : List Nat) (s : State) : (noteCommit c p l s).idReq = s.idReq := rfl
@[simp] theorem noteCommit_time (c p : Nat) (l : List Nat) (s : State) : (noteCommit c p l s).time = s.time := rfl
@[simp] theorem noteCommit_eth (c p : Nat) (l : List Nat) (s : State) : (noteCommit c p l s).eth = s.eth := rfl
@[simp] theorem noteCommit_twin (c p : Nat) (l : List Nat) (s : State) : (noteCommit c p l s).twin = s.twin := rfl
@[simp] theorem noteCommit_power (c p : Nat) (l : List Nat) (s : State) : (noteCommit c p l s).power = s.power := rfl
@[simp] theorem noteCommit_ev (c p : Nat) (l : List Nat) (s : State) : (noteCommit c p l s).ev = s.ev := rfl

/-! `commitState` changes no part but session, clk, power, arb. -/

@[simp] theorem commitState_pending (o : OpSpec) (r : Req) (s : State) : (commitState o r s).pending = s.pending := by simp [commitState]
@[simp] theorem commitState_free (o : OpSpec) (r : Req) (s : State) : (commitState o r s).free = s.free := by simp [commitState]
@[simp] theorem commitState_regs (o : OpSpec) (r : Req) (s : State) : (commitState o r s).regs = s.regs := by simp [commitState]
@[simp] theorem commitState_snap (o : OpSpec) (r : Req) (s : State) : (commitState o r s).snap = s.snap := by simp [commitState]
@[simp] theorem commitState_snapPoison (o : OpSpec) (r : Req) (s : State) : (commitState o r s).snapPoison = s.snapPoison := by simp [commitState]
@[simp] theorem commitState_poison (o : OpSpec) (r : Req) (s : State) : (commitState o r s).poison = s.poison := by simp [commitState]
@[simp] theorem commitState_now (o : OpSpec) (r : Req) (s : State) : (commitState o r s).now = s.now := by simp [commitState]
@[simp] theorem commitState_yards (o : OpSpec) (r : Req) (s : State) : (commitState o r s).yards = s.yards := by simp [commitState]
@[simp] theorem commitState_restart (o : OpSpec) (r : Req) (s : State) : (commitState o r s).restart = s.restart := by simp [commitState]
@[simp] theorem commitState_host (o : OpSpec) (r : Req) (s : State) : (commitState o r s).host = s.host := by simp [commitState]
@[simp] theorem commitState_line (o : OpSpec) (r : Req) (s : State) : (commitState o r s).line = s.line := by simp [commitState]
@[simp] theorem commitState_load (o : OpSpec) (r : Req) (s : State) : (commitState o r s).load = s.load := by simp [commitState]
@[simp] theorem commitState_nv (o : OpSpec) (r : Req) (s : State) : (commitState o r s).nv = s.nv := by simp [commitState]
@[simp] theorem commitState_src (o : OpSpec) (r : Req) (s : State) : (commitState o r s).src = s.src := by simp [commitState]
@[simp] theorem commitState_ser (o : OpSpec) (r : Req) (s : State) : (commitState o r s).ser = s.ser := by simp [commitState]
@[simp] theorem commitState_fus (o : OpSpec) (r : Req) (s : State) : (commitState o r s).fus = s.fus := by simp [commitState]
@[simp] theorem commitState_gnss (o : OpSpec) (r : Req) (s : State) : (commitState o r s).gnss = s.gnss := by simp [commitState]
@[simp] theorem commitState_ctl (o : OpSpec) (r : Req) (s : State) : (commitState o r s).ctl = s.ctl := by simp [commitState]
@[simp] theorem commitState_alc (o : OpSpec) (r : Req) (s : State) : (commitState o r s).alc = s.alc := by simp [commitState]
@[simp] theorem commitState_servo (o : OpSpec) (r : Req) (s : State) : (commitState o r s).servo = s.servo := by simp [commitState]
@[simp] theorem commitState_field (o : OpSpec) (r : Req) (s : State) : (commitState o r s).field = s.field := by simp [commitState]
@[simp] theorem commitState_filt (o : OpSpec) (r : Req) (s : State) : (commitState o r s).filt = s.filt := by simp [commitState]
@[simp] theorem commitState_can (o : OpSpec) (r : Req) (s : State) : (commitState o r s).can = s.can := by simp [commitState]
@[simp] theorem commitState_idReq (o : OpSpec) (r : Req) (s : State) : (commitState o r s).idReq = s.idReq := by simp [commitState]
@[simp] theorem commitState_time (o : OpSpec) (r : Req) (s : State) : (commitState o r s).time = s.time := by simp [commitState]
@[simp] theorem commitState_eth (o : OpSpec) (r : Req) (s : State) : (commitState o r s).eth = s.eth := by simp [commitState]
@[simp] theorem commitState_twin (o : OpSpec) (r : Req) (s : State) : (commitState o r s).twin = s.twin := by simp [commitState]
@[simp] theorem commitState_ev (o : OpSpec) (r : Req) (s : State) : (commitState o r s).ev = s.ev := by simp [commitState]

/-! `settleLine` changes no part but line. -/

@[simp] theorem settleLine_pending (s : State) : (settleLine s).pending = s.pending := by unfold settleLine; (repeat' split) <;> rfl
@[simp] theorem settleLine_free (s : State) : (settleLine s).free = s.free := by unfold settleLine; (repeat' split) <;> rfl
@[simp] theorem settleLine_clk (s : State) : (settleLine s).clk = s.clk := by unfold settleLine; (repeat' split) <;> rfl
@[simp] theorem settleLine_regs (s : State) : (settleLine s).regs = s.regs := by unfold settleLine; (repeat' split) <;> rfl
@[simp] theorem settleLine_snap (s : State) : (settleLine s).snap = s.snap := by unfold settleLine; (repeat' split) <;> rfl
@[simp] theorem settleLine_snapPoison (s : State) : (settleLine s).snapPoison = s.snapPoison := by unfold settleLine; (repeat' split) <;> rfl
@[simp] theorem settleLine_poison (s : State) : (settleLine s).poison = s.poison := by unfold settleLine; (repeat' split) <;> rfl
@[simp] theorem settleLine_arb (s : State) : (settleLine s).arb = s.arb := by unfold settleLine; (repeat' split) <;> rfl
@[simp] theorem settleLine_now (s : State) : (settleLine s).now = s.now := by unfold settleLine; (repeat' split) <;> rfl
@[simp] theorem settleLine_yards (s : State) : (settleLine s).yards = s.yards := by unfold settleLine; (repeat' split) <;> rfl
@[simp] theorem settleLine_restart (s : State) : (settleLine s).restart = s.restart := by unfold settleLine; (repeat' split) <;> rfl
@[simp] theorem settleLine_host (s : State) : (settleLine s).host = s.host := by unfold settleLine; (repeat' split) <;> rfl
@[simp] theorem settleLine_session (s : State) : (settleLine s).session = s.session := by unfold settleLine; (repeat' split) <;> rfl
@[simp] theorem settleLine_load (s : State) : (settleLine s).load = s.load := by unfold settleLine; (repeat' split) <;> rfl
@[simp] theorem settleLine_nv (s : State) : (settleLine s).nv = s.nv := by unfold settleLine; (repeat' split) <;> rfl
@[simp] theorem settleLine_src (s : State) : (settleLine s).src = s.src := by unfold settleLine; (repeat' split) <;> rfl
@[simp] theorem settleLine_ser (s : State) : (settleLine s).ser = s.ser := by unfold settleLine; (repeat' split) <;> rfl
@[simp] theorem settleLine_fus (s : State) : (settleLine s).fus = s.fus := by unfold settleLine; (repeat' split) <;> rfl
@[simp] theorem settleLine_gnss (s : State) : (settleLine s).gnss = s.gnss := by unfold settleLine; (repeat' split) <;> rfl
@[simp] theorem settleLine_ctl (s : State) : (settleLine s).ctl = s.ctl := by unfold settleLine; (repeat' split) <;> rfl
@[simp] theorem settleLine_alc (s : State) : (settleLine s).alc = s.alc := by unfold settleLine; (repeat' split) <;> rfl
@[simp] theorem settleLine_servo (s : State) : (settleLine s).servo = s.servo := by unfold settleLine; (repeat' split) <;> rfl
@[simp] theorem settleLine_field (s : State) : (settleLine s).field = s.field := by unfold settleLine; (repeat' split) <;> rfl
@[simp] theorem settleLine_filt (s : State) : (settleLine s).filt = s.filt := by unfold settleLine; (repeat' split) <;> rfl
@[simp] theorem settleLine_can (s : State) : (settleLine s).can = s.can := by unfold settleLine; (repeat' split) <;> rfl
@[simp] theorem settleLine_idReq (s : State) : (settleLine s).idReq = s.idReq := by unfold settleLine; (repeat' split) <;> rfl
@[simp] theorem settleLine_time (s : State) : (settleLine s).time = s.time := by unfold settleLine; (repeat' split) <;> rfl
@[simp] theorem settleLine_eth (s : State) : (settleLine s).eth = s.eth := by unfold settleLine; (repeat' split) <;> rfl
@[simp] theorem settleLine_twin (s : State) : (settleLine s).twin = s.twin := by unfold settleLine; (repeat' split) <;> rfl
@[simp] theorem settleLine_power (s : State) : (settleLine s).power = s.power := by unfold settleLine; (repeat' split) <;> rfl
@[simp] theorem settleLine_ev (s : State) : (settleLine s).ev = s.ev := by unfold settleLine; (repeat' split) <;> rfl

/-! `framing` changes no part but regs, ev, line, now. -/

@[simp] theorem framing_pending (p : Fin 2) (l b : Nat) (s : State) : (framing p l b s).pending = s.pending := by simp [framing]
@[simp] theorem framing_free (p : Fin 2) (l b : Nat) (s : State) : (framing p l b s).free = s.free := by simp [framing]
@[simp] theorem framing_clk (p : Fin 2) (l b : Nat) (s : State) : (framing p l b s).clk = s.clk := by simp [framing]
@[simp] theorem framing_snap (p : Fin 2) (l b : Nat) (s : State) : (framing p l b s).snap = s.snap := by simp [framing]
@[simp] theorem framing_snapPoison (p : Fin 2) (l b : Nat) (s : State) : (framing p l b s).snapPoison = s.snapPoison := by simp [framing]
@[simp] theorem framing_poison (p : Fin 2) (l b : Nat) (s : State) : (framing p l b s).poison = s.poison := by simp [framing]
@[simp] theorem framing_arb (p : Fin 2) (l b : Nat) (s : State) : (framing p l b s).arb = s.arb := by simp [framing]
@[simp] theorem framing_yards (p : Fin 2) (l b : Nat) (s : State) : (framing p l b s).yards = s.yards := by simp [framing]
@[simp] theorem framing_restart (p : Fin 2) (l b : Nat) (s : State) : (framing p l b s).restart = s.restart := by simp [framing]
@[simp] theorem framing_host (p : Fin 2) (l b : Nat) (s : State) : (framing p l b s).host = s.host := by simp [framing]
@[simp] theorem framing_session (p : Fin 2) (l b : Nat) (s : State) : (framing p l b s).session = s.session := by simp [framing]
@[simp] theorem framing_load (p : Fin 2) (l b : Nat) (s : State) : (framing p l b s).load = s.load := by simp [framing]
@[simp] theorem framing_nv (p : Fin 2) (l b : Nat) (s : State) : (framing p l b s).nv = s.nv := by simp [framing]
@[simp] theorem framing_src (p : Fin 2) (l b : Nat) (s : State) : (framing p l b s).src = s.src := by simp [framing]
@[simp] theorem framing_ser (p : Fin 2) (l b : Nat) (s : State) : (framing p l b s).ser = s.ser := by simp [framing]
@[simp] theorem framing_fus (p : Fin 2) (l b : Nat) (s : State) : (framing p l b s).fus = s.fus := by simp [framing]
@[simp] theorem framing_gnss (p : Fin 2) (l b : Nat) (s : State) : (framing p l b s).gnss = s.gnss := by simp [framing]
@[simp] theorem framing_ctl (p : Fin 2) (l b : Nat) (s : State) : (framing p l b s).ctl = s.ctl := by simp [framing]
@[simp] theorem framing_alc (p : Fin 2) (l b : Nat) (s : State) : (framing p l b s).alc = s.alc := by simp [framing]
@[simp] theorem framing_servo (p : Fin 2) (l b : Nat) (s : State) : (framing p l b s).servo = s.servo := by simp [framing]
@[simp] theorem framing_field (p : Fin 2) (l b : Nat) (s : State) : (framing p l b s).field = s.field := by simp [framing]
@[simp] theorem framing_filt (p : Fin 2) (l b : Nat) (s : State) : (framing p l b s).filt = s.filt := by simp [framing]
@[simp] theorem framing_can (p : Fin 2) (l b : Nat) (s : State) : (framing p l b s).can = s.can := by simp [framing]
@[simp] theorem framing_idReq (p : Fin 2) (l b : Nat) (s : State) : (framing p l b s).idReq = s.idReq := by simp [framing]
@[simp] theorem framing_time (p : Fin 2) (l b : Nat) (s : State) : (framing p l b s).time = s.time := by simp [framing]
@[simp] theorem framing_eth (p : Fin 2) (l b : Nat) (s : State) : (framing p l b s).eth = s.eth := by simp [framing]
@[simp] theorem framing_twin (p : Fin 2) (l b : Nat) (s : State) : (framing p l b s).twin = s.twin := by simp [framing]
@[simp] theorem framing_power (p : Fin 2) (l b : Nat) (s : State) : (framing p l b s).power = s.power := by simp [framing]

/-! `fillEvent` changes no part but regs, ev, line, now. -/

@[simp] theorem fillEvent_pending (p : Fin 2) (l : Fin 4) (b : Nat) (s : State) : (fillEvent p l b s).pending = s.pending := by simp [fillEvent]
@[simp] theorem fillEvent_free (p : Fin 2) (l : Fin 4) (b : Nat) (s : State) : (fillEvent p l b s).free = s.free := by simp [fillEvent]
@[simp] theorem fillEvent_clk (p : Fin 2) (l : Fin 4) (b : Nat) (s : State) : (fillEvent p l b s).clk = s.clk := by simp [fillEvent]
@[simp] theorem fillEvent_snap (p : Fin 2) (l : Fin 4) (b : Nat) (s : State) : (fillEvent p l b s).snap = s.snap := by simp [fillEvent]
@[simp] theorem fillEvent_snapPoison (p : Fin 2) (l : Fin 4) (b : Nat) (s : State) : (fillEvent p l b s).snapPoison = s.snapPoison := by simp [fillEvent]
@[simp] theorem fillEvent_poison (p : Fin 2) (l : Fin 4) (b : Nat) (s : State) : (fillEvent p l b s).poison = s.poison := by simp [fillEvent]
@[simp] theorem fillEvent_arb (p : Fin 2) (l : Fin 4) (b : Nat) (s : State) : (fillEvent p l b s).arb = s.arb := by simp [fillEvent]
@[simp] theorem fillEvent_yards (p : Fin 2) (l : Fin 4) (b : Nat) (s : State) : (fillEvent p l b s).yards = s.yards := by simp [fillEvent]
@[simp] theorem fillEvent_restart (p : Fin 2) (l : Fin 4) (b : Nat) (s : State) : (fillEvent p l b s).restart = s.restart := by simp [fillEvent]
@[simp] theorem fillEvent_host (p : Fin 2) (l : Fin 4) (b : Nat) (s : State) : (fillEvent p l b s).host = s.host := by simp [fillEvent]
@[simp] theorem fillEvent_session (p : Fin 2) (l : Fin 4) (b : Nat) (s : State) : (fillEvent p l b s).session = s.session := by simp [fillEvent]
@[simp] theorem fillEvent_load (p : Fin 2) (l : Fin 4) (b : Nat) (s : State) : (fillEvent p l b s).load = s.load := by simp [fillEvent]
@[simp] theorem fillEvent_nv (p : Fin 2) (l : Fin 4) (b : Nat) (s : State) : (fillEvent p l b s).nv = s.nv := by simp [fillEvent]
@[simp] theorem fillEvent_src (p : Fin 2) (l : Fin 4) (b : Nat) (s : State) : (fillEvent p l b s).src = s.src := by simp [fillEvent]
@[simp] theorem fillEvent_ser (p : Fin 2) (l : Fin 4) (b : Nat) (s : State) : (fillEvent p l b s).ser = s.ser := by simp [fillEvent]
@[simp] theorem fillEvent_fus (p : Fin 2) (l : Fin 4) (b : Nat) (s : State) : (fillEvent p l b s).fus = s.fus := by simp [fillEvent]
@[simp] theorem fillEvent_gnss (p : Fin 2) (l : Fin 4) (b : Nat) (s : State) : (fillEvent p l b s).gnss = s.gnss := by simp [fillEvent]
@[simp] theorem fillEvent_ctl (p : Fin 2) (l : Fin 4) (b : Nat) (s : State) : (fillEvent p l b s).ctl = s.ctl := by simp [fillEvent]
@[simp] theorem fillEvent_alc (p : Fin 2) (l : Fin 4) (b : Nat) (s : State) : (fillEvent p l b s).alc = s.alc := by simp [fillEvent]
@[simp] theorem fillEvent_servo (p : Fin 2) (l : Fin 4) (b : Nat) (s : State) : (fillEvent p l b s).servo = s.servo := by simp [fillEvent]
@[simp] theorem fillEvent_field (p : Fin 2) (l : Fin 4) (b : Nat) (s : State) : (fillEvent p l b s).field = s.field := by simp [fillEvent]
@[simp] theorem fillEvent_filt (p : Fin 2) (l : Fin 4) (b : Nat) (s : State) : (fillEvent p l b s).filt = s.filt := by simp [fillEvent]
@[simp] theorem fillEvent_can (p : Fin 2) (l : Fin 4) (b : Nat) (s : State) : (fillEvent p l b s).can = s.can := by simp [fillEvent]
@[simp] theorem fillEvent_idReq (p : Fin 2) (l : Fin 4) (b : Nat) (s : State) : (fillEvent p l b s).idReq = s.idReq := by simp [fillEvent]
@[simp] theorem fillEvent_time (p : Fin 2) (l : Fin 4) (b : Nat) (s : State) : (fillEvent p l b s).time = s.time := by simp [fillEvent]
@[simp] theorem fillEvent_eth (p : Fin 2) (l : Fin 4) (b : Nat) (s : State) : (fillEvent p l b s).eth = s.eth := by simp [fillEvent]
@[simp] theorem fillEvent_twin (p : Fin 2) (l : Fin 4) (b : Nat) (s : State) : (fillEvent p l b s).twin = s.twin := by simp [fillEvent]
@[simp] theorem fillEvent_power (p : Fin 2) (l : Fin 4) (b : Nat) (s : State) : (fillEvent p l b s).power = s.power := by simp [fillEvent]

/-! `putBales` changes no part but host, regs, ev, line, now. -/

@[simp] theorem putBales_pending (p : Fin 2) (l : Fin 4) (b : List InBale) (s : State) : (putBales p l b s).pending = s.pending := by simp [putBales]
@[simp] theorem putBales_free (p : Fin 2) (l : Fin 4) (b : List InBale) (s : State) : (putBales p l b s).free = s.free := by simp [putBales]
@[simp] theorem putBales_clk (p : Fin 2) (l : Fin 4) (b : List InBale) (s : State) : (putBales p l b s).clk = s.clk := by simp [putBales]
@[simp] theorem putBales_snap (p : Fin 2) (l : Fin 4) (b : List InBale) (s : State) : (putBales p l b s).snap = s.snap := by simp [putBales]
@[simp] theorem putBales_snapPoison (p : Fin 2) (l : Fin 4) (b : List InBale) (s : State) : (putBales p l b s).snapPoison = s.snapPoison := by simp [putBales]
@[simp] theorem putBales_poison (p : Fin 2) (l : Fin 4) (b : List InBale) (s : State) : (putBales p l b s).poison = s.poison := by simp [putBales]
@[simp] theorem putBales_arb (p : Fin 2) (l : Fin 4) (b : List InBale) (s : State) : (putBales p l b s).arb = s.arb := by simp [putBales]
@[simp] theorem putBales_yards (p : Fin 2) (l : Fin 4) (b : List InBale) (s : State) : (putBales p l b s).yards = s.yards := by simp [putBales]
@[simp] theorem putBales_restart (p : Fin 2) (l : Fin 4) (b : List InBale) (s : State) : (putBales p l b s).restart = s.restart := by simp [putBales]
@[simp] theorem putBales_session (p : Fin 2) (l : Fin 4) (b : List InBale) (s : State) : (putBales p l b s).session = s.session := by simp [putBales]
@[simp] theorem putBales_load (p : Fin 2) (l : Fin 4) (b : List InBale) (s : State) : (putBales p l b s).load = s.load := by simp [putBales]
@[simp] theorem putBales_nv (p : Fin 2) (l : Fin 4) (b : List InBale) (s : State) : (putBales p l b s).nv = s.nv := by simp [putBales]
@[simp] theorem putBales_src (p : Fin 2) (l : Fin 4) (b : List InBale) (s : State) : (putBales p l b s).src = s.src := by simp [putBales]
@[simp] theorem putBales_ser (p : Fin 2) (l : Fin 4) (b : List InBale) (s : State) : (putBales p l b s).ser = s.ser := by simp [putBales]
@[simp] theorem putBales_fus (p : Fin 2) (l : Fin 4) (b : List InBale) (s : State) : (putBales p l b s).fus = s.fus := by simp [putBales]
@[simp] theorem putBales_gnss (p : Fin 2) (l : Fin 4) (b : List InBale) (s : State) : (putBales p l b s).gnss = s.gnss := by simp [putBales]
@[simp] theorem putBales_ctl (p : Fin 2) (l : Fin 4) (b : List InBale) (s : State) : (putBales p l b s).ctl = s.ctl := by simp [putBales]
@[simp] theorem putBales_alc (p : Fin 2) (l : Fin 4) (b : List InBale) (s : State) : (putBales p l b s).alc = s.alc := by simp [putBales]
@[simp] theorem putBales_servo (p : Fin 2) (l : Fin 4) (b : List InBale) (s : State) : (putBales p l b s).servo = s.servo := by simp [putBales]
@[simp] theorem putBales_field (p : Fin 2) (l : Fin 4) (b : List InBale) (s : State) : (putBales p l b s).field = s.field := by simp [putBales]
@[simp] theorem putBales_filt (p : Fin 2) (l : Fin 4) (b : List InBale) (s : State) : (putBales p l b s).filt = s.filt := by simp [putBales]
@[simp] theorem putBales_can (p : Fin 2) (l : Fin 4) (b : List InBale) (s : State) : (putBales p l b s).can = s.can := by simp [putBales]
@[simp] theorem putBales_idReq (p : Fin 2) (l : Fin 4) (b : List InBale) (s : State) : (putBales p l b s).idReq = s.idReq := by simp [putBales]
@[simp] theorem putBales_time (p : Fin 2) (l : Fin 4) (b : List InBale) (s : State) : (putBales p l b s).time = s.time := by simp [putBales]
@[simp] theorem putBales_eth (p : Fin 2) (l : Fin 4) (b : List InBale) (s : State) : (putBales p l b s).eth = s.eth := by simp [putBales]
@[simp] theorem putBales_twin (p : Fin 2) (l : Fin 4) (b : List InBale) (s : State) : (putBales p l b s).twin = s.twin := by simp [putBales]
@[simp] theorem putBales_power (p : Fin 2) (l : Fin 4) (b : List InBale) (s : State) : (putBales p l b s).power = s.power := by simp [putBales]

/-! `tryGrant` changes no part but line. -/

@[simp] theorem tryGrant_pending (s : State) : (tryGrant s).pending = s.pending := by unfold tryGrant; dsimp only; (repeat' split) <;> rfl
@[simp] theorem tryGrant_free (s : State) : (tryGrant s).free = s.free := by unfold tryGrant; dsimp only; (repeat' split) <;> rfl
@[simp] theorem tryGrant_clk (s : State) : (tryGrant s).clk = s.clk := by unfold tryGrant; dsimp only; (repeat' split) <;> rfl
@[simp] theorem tryGrant_regs (s : State) : (tryGrant s).regs = s.regs := by unfold tryGrant; dsimp only; (repeat' split) <;> rfl
@[simp] theorem tryGrant_snap (s : State) : (tryGrant s).snap = s.snap := by unfold tryGrant; dsimp only; (repeat' split) <;> rfl
@[simp] theorem tryGrant_snapPoison (s : State) : (tryGrant s).snapPoison = s.snapPoison := by unfold tryGrant; dsimp only; (repeat' split) <;> rfl
@[simp] theorem tryGrant_poison (s : State) : (tryGrant s).poison = s.poison := by unfold tryGrant; dsimp only; (repeat' split) <;> rfl
@[simp] theorem tryGrant_arb (s : State) : (tryGrant s).arb = s.arb := by unfold tryGrant; dsimp only; (repeat' split) <;> rfl
@[simp] theorem tryGrant_now (s : State) : (tryGrant s).now = s.now := by unfold tryGrant; dsimp only; (repeat' split) <;> rfl
@[simp] theorem tryGrant_yards (s : State) : (tryGrant s).yards = s.yards := by unfold tryGrant; dsimp only; (repeat' split) <;> rfl
@[simp] theorem tryGrant_restart (s : State) : (tryGrant s).restart = s.restart := by unfold tryGrant; dsimp only; (repeat' split) <;> rfl
@[simp] theorem tryGrant_host (s : State) : (tryGrant s).host = s.host := by unfold tryGrant; dsimp only; (repeat' split) <;> rfl
@[simp] theorem tryGrant_session (s : State) : (tryGrant s).session = s.session := by unfold tryGrant; dsimp only; (repeat' split) <;> rfl
@[simp] theorem tryGrant_load (s : State) : (tryGrant s).load = s.load := by unfold tryGrant; dsimp only; (repeat' split) <;> rfl
@[simp] theorem tryGrant_nv (s : State) : (tryGrant s).nv = s.nv := by unfold tryGrant; dsimp only; (repeat' split) <;> rfl
@[simp] theorem tryGrant_src (s : State) : (tryGrant s).src = s.src := by unfold tryGrant; dsimp only; (repeat' split) <;> rfl
@[simp] theorem tryGrant_ser (s : State) : (tryGrant s).ser = s.ser := by unfold tryGrant; dsimp only; (repeat' split) <;> rfl
@[simp] theorem tryGrant_fus (s : State) : (tryGrant s).fus = s.fus := by unfold tryGrant; dsimp only; (repeat' split) <;> rfl
@[simp] theorem tryGrant_gnss (s : State) : (tryGrant s).gnss = s.gnss := by unfold tryGrant; dsimp only; (repeat' split) <;> rfl
@[simp] theorem tryGrant_ctl (s : State) : (tryGrant s).ctl = s.ctl := by unfold tryGrant; dsimp only; (repeat' split) <;> rfl
@[simp] theorem tryGrant_alc (s : State) : (tryGrant s).alc = s.alc := by unfold tryGrant; dsimp only; (repeat' split) <;> rfl
@[simp] theorem tryGrant_servo (s : State) : (tryGrant s).servo = s.servo := by unfold tryGrant; dsimp only; (repeat' split) <;> rfl
@[simp] theorem tryGrant_field (s : State) : (tryGrant s).field = s.field := by unfold tryGrant; dsimp only; (repeat' split) <;> rfl
@[simp] theorem tryGrant_filt (s : State) : (tryGrant s).filt = s.filt := by unfold tryGrant; dsimp only; (repeat' split) <;> rfl
@[simp] theorem tryGrant_can (s : State) : (tryGrant s).can = s.can := by unfold tryGrant; dsimp only; (repeat' split) <;> rfl
@[simp] theorem tryGrant_idReq (s : State) : (tryGrant s).idReq = s.idReq := by unfold tryGrant; dsimp only; (repeat' split) <;> rfl
@[simp] theorem tryGrant_time (s : State) : (tryGrant s).time = s.time := by unfold tryGrant; dsimp only; (repeat' split) <;> rfl
@[simp] theorem tryGrant_eth (s : State) : (tryGrant s).eth = s.eth := by unfold tryGrant; dsimp only; (repeat' split) <;> rfl
@[simp] theorem tryGrant_twin (s : State) : (tryGrant s).twin = s.twin := by unfold tryGrant; dsimp only; (repeat' split) <;> rfl
@[simp] theorem tryGrant_power (s : State) : (tryGrant s).power = s.power := by unfold tryGrant; dsimp only; (repeat' split) <;> rfl
@[simp] theorem tryGrant_ev (s : State) : (tryGrant s).ev = s.ev := by unfold tryGrant; dsimp only; (repeat' split) <;> rfl

/-! `packetFault` changes no part but regs, ev, line, now. -/

@[simp] theorem packetFault_pending (p : Fin 2) (l b : Nat) (c : Bool) (s : State) : (packetFault p l b c s).pending = s.pending := by simp [packetFault]
@[simp] theorem packetFault_free (p : Fin 2) (l b : Nat) (c : Bool) (s : State) : (packetFault p l b c s).free = s.free := by simp [packetFault]
@[simp] theorem packetFault_clk (p : Fin 2) (l b : Nat) (c : Bool) (s : State) : (packetFault p l b c s).clk = s.clk := by simp [packetFault]
@[simp] theorem packetFault_snap (p : Fin 2) (l b : Nat) (c : Bool) (s : State) : (packetFault p l b c s).snap = s.snap := by simp [packetFault]
@[simp] theorem packetFault_snapPoison (p : Fin 2) (l b : Nat) (c : Bool) (s : State) : (packetFault p l b c s).snapPoison = s.snapPoison := by simp [packetFault]
@[simp] theorem packetFault_poison (p : Fin 2) (l b : Nat) (c : Bool) (s : State) : (packetFault p l b c s).poison = s.poison := by simp [packetFault]
@[simp] theorem packetFault_arb (p : Fin 2) (l b : Nat) (c : Bool) (s : State) : (packetFault p l b c s).arb = s.arb := by simp [packetFault]
@[simp] theorem packetFault_yards (p : Fin 2) (l b : Nat) (c : Bool) (s : State) : (packetFault p l b c s).yards = s.yards := by simp [packetFault]
@[simp] theorem packetFault_restart (p : Fin 2) (l b : Nat) (c : Bool) (s : State) : (packetFault p l b c s).restart = s.restart := by simp [packetFault]
@[simp] theorem packetFault_host (p : Fin 2) (l b : Nat) (c : Bool) (s : State) : (packetFault p l b c s).host = s.host := by simp [packetFault]
@[simp] theorem packetFault_session (p : Fin 2) (l b : Nat) (c : Bool) (s : State) : (packetFault p l b c s).session = s.session := by simp [packetFault]
@[simp] theorem packetFault_load (p : Fin 2) (l b : Nat) (c : Bool) (s : State) : (packetFault p l b c s).load = s.load := by simp [packetFault]
@[simp] theorem packetFault_nv (p : Fin 2) (l b : Nat) (c : Bool) (s : State) : (packetFault p l b c s).nv = s.nv := by simp [packetFault]
@[simp] theorem packetFault_src (p : Fin 2) (l b : Nat) (c : Bool) (s : State) : (packetFault p l b c s).src = s.src := by simp [packetFault]
@[simp] theorem packetFault_ser (p : Fin 2) (l b : Nat) (c : Bool) (s : State) : (packetFault p l b c s).ser = s.ser := by simp [packetFault]
@[simp] theorem packetFault_fus (p : Fin 2) (l b : Nat) (c : Bool) (s : State) : (packetFault p l b c s).fus = s.fus := by simp [packetFault]
@[simp] theorem packetFault_gnss (p : Fin 2) (l b : Nat) (c : Bool) (s : State) : (packetFault p l b c s).gnss = s.gnss := by simp [packetFault]
@[simp] theorem packetFault_ctl (p : Fin 2) (l b : Nat) (c : Bool) (s : State) : (packetFault p l b c s).ctl = s.ctl := by simp [packetFault]
@[simp] theorem packetFault_alc (p : Fin 2) (l b : Nat) (c : Bool) (s : State) : (packetFault p l b c s).alc = s.alc := by simp [packetFault]
@[simp] theorem packetFault_servo (p : Fin 2) (l b : Nat) (c : Bool) (s : State) : (packetFault p l b c s).servo = s.servo := by simp [packetFault]
@[simp] theorem packetFault_field (p : Fin 2) (l b : Nat) (c : Bool) (s : State) : (packetFault p l b c s).field = s.field := by simp [packetFault]
@[simp] theorem packetFault_filt (p : Fin 2) (l b : Nat) (c : Bool) (s : State) : (packetFault p l b c s).filt = s.filt := by simp [packetFault]
@[simp] theorem packetFault_can (p : Fin 2) (l b : Nat) (c : Bool) (s : State) : (packetFault p l b c s).can = s.can := by simp [packetFault]
@[simp] theorem packetFault_idReq (p : Fin 2) (l b : Nat) (c : Bool) (s : State) : (packetFault p l b c s).idReq = s.idReq := by simp [packetFault]
@[simp] theorem packetFault_time (p : Fin 2) (l b : Nat) (c : Bool) (s : State) : (packetFault p l b c s).time = s.time := by simp [packetFault]
@[simp] theorem packetFault_eth (p : Fin 2) (l b : Nat) (c : Bool) (s : State) : (packetFault p l b c s).eth = s.eth := by simp [packetFault]
@[simp] theorem packetFault_twin (p : Fin 2) (l b : Nat) (c : Bool) (s : State) : (packetFault p l b c s).twin = s.twin := by simp [packetFault]
@[simp] theorem packetFault_power (p : Fin 2) (l b : Nat) (c : Bool) (s : State) : (packetFault p l b c s).power = s.power := by simp [packetFault]

/-! `countAbandoned` changes no part but regs, ev, line, now. -/

@[simp] theorem countAbandoned_pending (p : Fin 2) (l : Fin 4) (s : State) : (countAbandoned p l s).pending = s.pending := by simp [countAbandoned]
@[simp] theorem countAbandoned_free (p : Fin 2) (l : Fin 4) (s : State) : (countAbandoned p l s).free = s.free := by simp [countAbandoned]
@[simp] theorem countAbandoned_clk (p : Fin 2) (l : Fin 4) (s : State) : (countAbandoned p l s).clk = s.clk := by simp [countAbandoned]
@[simp] theorem countAbandoned_snap (p : Fin 2) (l : Fin 4) (s : State) : (countAbandoned p l s).snap = s.snap := by simp [countAbandoned]
@[simp] theorem countAbandoned_snapPoison (p : Fin 2) (l : Fin 4) (s : State) : (countAbandoned p l s).snapPoison = s.snapPoison := by simp [countAbandoned]
@[simp] theorem countAbandoned_poison (p : Fin 2) (l : Fin 4) (s : State) : (countAbandoned p l s).poison = s.poison := by simp [countAbandoned]
@[simp] theorem countAbandoned_arb (p : Fin 2) (l : Fin 4) (s : State) : (countAbandoned p l s).arb = s.arb := by simp [countAbandoned]
@[simp] theorem countAbandoned_yards (p : Fin 2) (l : Fin 4) (s : State) : (countAbandoned p l s).yards = s.yards := by simp [countAbandoned]
@[simp] theorem countAbandoned_restart (p : Fin 2) (l : Fin 4) (s : State) : (countAbandoned p l s).restart = s.restart := by simp [countAbandoned]
@[simp] theorem countAbandoned_host (p : Fin 2) (l : Fin 4) (s : State) : (countAbandoned p l s).host = s.host := by simp [countAbandoned]
@[simp] theorem countAbandoned_session (p : Fin 2) (l : Fin 4) (s : State) : (countAbandoned p l s).session = s.session := by simp [countAbandoned]
@[simp] theorem countAbandoned_load (p : Fin 2) (l : Fin 4) (s : State) : (countAbandoned p l s).load = s.load := by simp [countAbandoned]
@[simp] theorem countAbandoned_nv (p : Fin 2) (l : Fin 4) (s : State) : (countAbandoned p l s).nv = s.nv := by simp [countAbandoned]
@[simp] theorem countAbandoned_src (p : Fin 2) (l : Fin 4) (s : State) : (countAbandoned p l s).src = s.src := by simp [countAbandoned]
@[simp] theorem countAbandoned_ser (p : Fin 2) (l : Fin 4) (s : State) : (countAbandoned p l s).ser = s.ser := by simp [countAbandoned]
@[simp] theorem countAbandoned_fus (p : Fin 2) (l : Fin 4) (s : State) : (countAbandoned p l s).fus = s.fus := by simp [countAbandoned]
@[simp] theorem countAbandoned_gnss (p : Fin 2) (l : Fin 4) (s : State) : (countAbandoned p l s).gnss = s.gnss := by simp [countAbandoned]
@[simp] theorem countAbandoned_ctl (p : Fin 2) (l : Fin 4) (s : State) : (countAbandoned p l s).ctl = s.ctl := by simp [countAbandoned]
@[simp] theorem countAbandoned_alc (p : Fin 2) (l : Fin 4) (s : State) : (countAbandoned p l s).alc = s.alc := by simp [countAbandoned]
@[simp] theorem countAbandoned_servo (p : Fin 2) (l : Fin 4) (s : State) : (countAbandoned p l s).servo = s.servo := by simp [countAbandoned]
@[simp] theorem countAbandoned_field (p : Fin 2) (l : Fin 4) (s : State) : (countAbandoned p l s).field = s.field := by simp [countAbandoned]
@[simp] theorem countAbandoned_filt (p : Fin 2) (l : Fin 4) (s : State) : (countAbandoned p l s).filt = s.filt := by simp [countAbandoned]
@[simp] theorem countAbandoned_can (p : Fin 2) (l : Fin 4) (s : State) : (countAbandoned p l s).can = s.can := by simp [countAbandoned]
@[simp] theorem countAbandoned_idReq (p : Fin 2) (l : Fin 4) (s : State) : (countAbandoned p l s).idReq = s.idReq := by simp [countAbandoned]
@[simp] theorem countAbandoned_time (p : Fin 2) (l : Fin 4) (s : State) : (countAbandoned p l s).time = s.time := by simp [countAbandoned]
@[simp] theorem countAbandoned_eth (p : Fin 2) (l : Fin 4) (s : State) : (countAbandoned p l s).eth = s.eth := by simp [countAbandoned]
@[simp] theorem countAbandoned_twin (p : Fin 2) (l : Fin 4) (s : State) : (countAbandoned p l s).twin = s.twin := by simp [countAbandoned]
@[simp] theorem countAbandoned_power (p : Fin 2) (l : Fin 4) (s : State) : (countAbandoned p l s).power = s.power := by simp [countAbandoned]

/-! `abandon` changes no part but host, regs, ev, line, eth, now. -/

@[simp] theorem abandon_pending (p : Fin 2) (s : State) : (abandon p s).pending = s.pending := by unfold abandon; dsimp only; (repeat' split) <;> simp
@[simp] theorem abandon_free (p : Fin 2) (s : State) : (abandon p s).free = s.free := by unfold abandon; dsimp only; (repeat' split) <;> simp
@[simp] theorem abandon_clk (p : Fin 2) (s : State) : (abandon p s).clk = s.clk := by unfold abandon; dsimp only; (repeat' split) <;> simp
@[simp] theorem abandon_snap (p : Fin 2) (s : State) : (abandon p s).snap = s.snap := by unfold abandon; dsimp only; (repeat' split) <;> simp
@[simp] theorem abandon_snapPoison (p : Fin 2) (s : State) : (abandon p s).snapPoison = s.snapPoison := by unfold abandon; dsimp only; (repeat' split) <;> simp
@[simp] theorem abandon_poison (p : Fin 2) (s : State) : (abandon p s).poison = s.poison := by unfold abandon; dsimp only; (repeat' split) <;> simp
@[simp] theorem abandon_arb (p : Fin 2) (s : State) : (abandon p s).arb = s.arb := by unfold abandon; dsimp only; (repeat' split) <;> simp
@[simp] theorem abandon_yards (p : Fin 2) (s : State) : (abandon p s).yards = s.yards := by unfold abandon; dsimp only; (repeat' split) <;> simp
@[simp] theorem abandon_restart (p : Fin 2) (s : State) : (abandon p s).restart = s.restart := by unfold abandon; dsimp only; (repeat' split) <;> simp
@[simp] theorem abandon_session (p : Fin 2) (s : State) : (abandon p s).session = s.session := by unfold abandon; dsimp only; (repeat' split) <;> simp
@[simp] theorem abandon_load (p : Fin 2) (s : State) : (abandon p s).load = s.load := by unfold abandon; dsimp only; (repeat' split) <;> simp
@[simp] theorem abandon_nv (p : Fin 2) (s : State) : (abandon p s).nv = s.nv := by unfold abandon; dsimp only; (repeat' split) <;> simp
@[simp] theorem abandon_src (p : Fin 2) (s : State) : (abandon p s).src = s.src := by unfold abandon; dsimp only; (repeat' split) <;> simp
@[simp] theorem abandon_ser (p : Fin 2) (s : State) : (abandon p s).ser = s.ser := by unfold abandon; dsimp only; (repeat' split) <;> simp
@[simp] theorem abandon_fus (p : Fin 2) (s : State) : (abandon p s).fus = s.fus := by unfold abandon; dsimp only; (repeat' split) <;> simp
@[simp] theorem abandon_gnss (p : Fin 2) (s : State) : (abandon p s).gnss = s.gnss := by unfold abandon; dsimp only; (repeat' split) <;> simp
@[simp] theorem abandon_ctl (p : Fin 2) (s : State) : (abandon p s).ctl = s.ctl := by unfold abandon; dsimp only; (repeat' split) <;> simp
@[simp] theorem abandon_alc (p : Fin 2) (s : State) : (abandon p s).alc = s.alc := by unfold abandon; dsimp only; (repeat' split) <;> simp
@[simp] theorem abandon_servo (p : Fin 2) (s : State) : (abandon p s).servo = s.servo := by unfold abandon; dsimp only; (repeat' split) <;> simp
@[simp] theorem abandon_field (p : Fin 2) (s : State) : (abandon p s).field = s.field := by unfold abandon; dsimp only; (repeat' split) <;> simp
@[simp] theorem abandon_filt (p : Fin 2) (s : State) : (abandon p s).filt = s.filt := by unfold abandon; dsimp only; (repeat' split) <;> simp
@[simp] theorem abandon_can (p : Fin 2) (s : State) : (abandon p s).can = s.can := by unfold abandon; dsimp only; (repeat' split) <;> simp
@[simp] theorem abandon_idReq (p : Fin 2) (s : State) : (abandon p s).idReq = s.idReq := by unfold abandon; dsimp only; (repeat' split) <;> simp
@[simp] theorem abandon_time (p : Fin 2) (s : State) : (abandon p s).time = s.time := by unfold abandon; dsimp only; (repeat' split) <;> simp
@[simp] theorem abandon_twin (p : Fin 2) (s : State) : (abandon p s).twin = s.twin := by unfold abandon; dsimp only; (repeat' split) <;> simp
@[simp] theorem abandon_power (p : Fin 2) (s : State) : (abandon p s).power = s.power := by unfold abandon; dsimp only; (repeat' split) <;> simp

/-! `dropDatagram` changes no part but regs, ev, line, now. -/

@[simp] theorem dropDatagram_pending (l : Nat) (s : State) : (dropDatagram l s).pending = s.pending := by simp [dropDatagram]
@[simp] theorem dropDatagram_free (l : Nat) (s : State) : (dropDatagram l s).free = s.free := by simp [dropDatagram]
@[simp] theorem dropDatagram_clk (l : Nat) (s : State) : (dropDatagram l s).clk = s.clk := by simp [dropDatagram]
@[simp] theorem dropDatagram_snap (l : Nat) (s : State) : (dropDatagram l s).snap = s.snap := by simp [dropDatagram]
@[simp] theorem dropDatagram_snapPoison (l : Nat) (s : State) : (dropDatagram l s).snapPoison = s.snapPoison := by simp [dropDatagram]
@[simp] theorem dropDatagram_poison (l : Nat) (s : State) : (dropDatagram l s).poison = s.poison := by simp [dropDatagram]
@[simp] theorem dropDatagram_arb (l : Nat) (s : State) : (dropDatagram l s).arb = s.arb := by simp [dropDatagram]
@[simp] theorem dropDatagram_yards (l : Nat) (s : State) : (dropDatagram l s).yards = s.yards := by simp [dropDatagram]
@[simp] theorem dropDatagram_restart (l : Nat) (s : State) : (dropDatagram l s).restart = s.restart := by simp [dropDatagram]
@[simp] theorem dropDatagram_host (l : Nat) (s : State) : (dropDatagram l s).host = s.host := by simp [dropDatagram]
@[simp] theorem dropDatagram_session (l : Nat) (s : State) : (dropDatagram l s).session = s.session := by simp [dropDatagram]
@[simp] theorem dropDatagram_load (l : Nat) (s : State) : (dropDatagram l s).load = s.load := by simp [dropDatagram]
@[simp] theorem dropDatagram_nv (l : Nat) (s : State) : (dropDatagram l s).nv = s.nv := by simp [dropDatagram]
@[simp] theorem dropDatagram_src (l : Nat) (s : State) : (dropDatagram l s).src = s.src := by simp [dropDatagram]
@[simp] theorem dropDatagram_ser (l : Nat) (s : State) : (dropDatagram l s).ser = s.ser := by simp [dropDatagram]
@[simp] theorem dropDatagram_fus (l : Nat) (s : State) : (dropDatagram l s).fus = s.fus := by simp [dropDatagram]
@[simp] theorem dropDatagram_gnss (l : Nat) (s : State) : (dropDatagram l s).gnss = s.gnss := by simp [dropDatagram]
@[simp] theorem dropDatagram_ctl (l : Nat) (s : State) : (dropDatagram l s).ctl = s.ctl := by simp [dropDatagram]
@[simp] theorem dropDatagram_alc (l : Nat) (s : State) : (dropDatagram l s).alc = s.alc := by simp [dropDatagram]
@[simp] theorem dropDatagram_servo (l : Nat) (s : State) : (dropDatagram l s).servo = s.servo := by simp [dropDatagram]
@[simp] theorem dropDatagram_field (l : Nat) (s : State) : (dropDatagram l s).field = s.field := by simp [dropDatagram]
@[simp] theorem dropDatagram_filt (l : Nat) (s : State) : (dropDatagram l s).filt = s.filt := by simp [dropDatagram]
@[simp] theorem dropDatagram_can (l : Nat) (s : State) : (dropDatagram l s).can = s.can := by simp [dropDatagram]
@[simp] theorem dropDatagram_idReq (l : Nat) (s : State) : (dropDatagram l s).idReq = s.idReq := by simp [dropDatagram]
@[simp] theorem dropDatagram_time (l : Nat) (s : State) : (dropDatagram l s).time = s.time := by simp [dropDatagram]
@[simp] theorem dropDatagram_eth (l : Nat) (s : State) : (dropDatagram l s).eth = s.eth := by simp [dropDatagram]
@[simp] theorem dropDatagram_twin (l : Nat) (s : State) : (dropDatagram l s).twin = s.twin := by simp [dropDatagram]
@[simp] theorem dropDatagram_power (l : Nat) (s : State) : (dropDatagram l s).power = s.power := by simp [dropDatagram]

/-! `updTwin` changes no part but twin. -/

@[simp] theorem updTwin_pending (f : Twin → Twin) (s : State) : (updTwin f s).pending = s.pending := rfl
@[simp] theorem updTwin_free (f : Twin → Twin) (s : State) : (updTwin f s).free = s.free := rfl
@[simp] theorem updTwin_clk (f : Twin → Twin) (s : State) : (updTwin f s).clk = s.clk := rfl
@[simp] theorem updTwin_regs (f : Twin → Twin) (s : State) : (updTwin f s).regs = s.regs := rfl
@[simp] theorem updTwin_snap (f : Twin → Twin) (s : State) : (updTwin f s).snap = s.snap := rfl
@[simp] theorem updTwin_snapPoison (f : Twin → Twin) (s : State) : (updTwin f s).snapPoison = s.snapPoison := rfl
@[simp] theorem updTwin_poison (f : Twin → Twin) (s : State) : (updTwin f s).poison = s.poison := rfl
@[simp] theorem updTwin_arb (f : Twin → Twin) (s : State) : (updTwin f s).arb = s.arb := rfl
@[simp] theorem updTwin_now (f : Twin → Twin) (s : State) : (updTwin f s).now = s.now := rfl
@[simp] theorem updTwin_yards (f : Twin → Twin) (s : State) : (updTwin f s).yards = s.yards := rfl
@[simp] theorem updTwin_restart (f : Twin → Twin) (s : State) : (updTwin f s).restart = s.restart := rfl
@[simp] theorem updTwin_host (f : Twin → Twin) (s : State) : (updTwin f s).host = s.host := rfl
@[simp] theorem updTwin_line (f : Twin → Twin) (s : State) : (updTwin f s).line = s.line := rfl
@[simp] theorem updTwin_session (f : Twin → Twin) (s : State) : (updTwin f s).session = s.session := rfl
@[simp] theorem updTwin_load (f : Twin → Twin) (s : State) : (updTwin f s).load = s.load := rfl
@[simp] theorem updTwin_nv (f : Twin → Twin) (s : State) : (updTwin f s).nv = s.nv := rfl
@[simp] theorem updTwin_src (f : Twin → Twin) (s : State) : (updTwin f s).src = s.src := rfl
@[simp] theorem updTwin_ser (f : Twin → Twin) (s : State) : (updTwin f s).ser = s.ser := rfl
@[simp] theorem updTwin_fus (f : Twin → Twin) (s : State) : (updTwin f s).fus = s.fus := rfl
@[simp] theorem updTwin_gnss (f : Twin → Twin) (s : State) : (updTwin f s).gnss = s.gnss := rfl
@[simp] theorem updTwin_ctl (f : Twin → Twin) (s : State) : (updTwin f s).ctl = s.ctl := rfl
@[simp] theorem updTwin_alc (f : Twin → Twin) (s : State) : (updTwin f s).alc = s.alc := rfl
@[simp] theorem updTwin_servo (f : Twin → Twin) (s : State) : (updTwin f s).servo = s.servo := rfl
@[simp] theorem updTwin_field (f : Twin → Twin) (s : State) : (updTwin f s).field = s.field := rfl
@[simp] theorem updTwin_filt (f : Twin → Twin) (s : State) : (updTwin f s).filt = s.filt := rfl
@[simp] theorem updTwin_can (f : Twin → Twin) (s : State) : (updTwin f s).can = s.can := rfl
@[simp] theorem updTwin_idReq (f : Twin → Twin) (s : State) : (updTwin f s).idReq = s.idReq := rfl
@[simp] theorem updTwin_time (f : Twin → Twin) (s : State) : (updTwin f s).time = s.time := rfl
@[simp] theorem updTwin_eth (f : Twin → Twin) (s : State) : (updTwin f s).eth = s.eth := rfl
@[simp] theorem updTwin_power (f : Twin → Twin) (s : State) : (updTwin f s).power = s.power := rfl
@[simp] theorem updTwin_ev (f : Twin → Twin) (s : State) : (updTwin f s).ev = s.ev := rfl

/-! `updPair` changes no part but twin. -/

@[simp] theorem updPair_pending (p : Fin 2) (f : FjPair → FjPair) (s : State) : (updPair p f s).pending = s.pending := rfl
@[simp] theorem updPair_free (p : Fin 2) (f : FjPair → FjPair) (s : State) : (updPair p f s).free = s.free := rfl
@[simp] theorem updPair_clk (p : Fin 2) (f : FjPair → FjPair) (s : State) : (updPair p f s).clk = s.clk := rfl
@[simp] theorem updPair_regs (p : Fin 2) (f : FjPair → FjPair) (s : State) : (updPair p f s).regs = s.regs := rfl
@[simp] theorem updPair_snap (p : Fin 2) (f : FjPair → FjPair) (s : State) : (updPair p f s).snap = s.snap := rfl
@[simp] theorem updPair_snapPoison (p : Fin 2) (f : FjPair → FjPair) (s : State) : (updPair p f s).snapPoison = s.snapPoison := rfl
@[simp] theorem updPair_poison (p : Fin 2) (f : FjPair → FjPair) (s : State) : (updPair p f s).poison = s.poison := rfl
@[simp] theorem updPair_arb (p : Fin 2) (f : FjPair → FjPair) (s : State) : (updPair p f s).arb = s.arb := rfl
@[simp] theorem updPair_now (p : Fin 2) (f : FjPair → FjPair) (s : State) : (updPair p f s).now = s.now := rfl
@[simp] theorem updPair_yards (p : Fin 2) (f : FjPair → FjPair) (s : State) : (updPair p f s).yards = s.yards := rfl
@[simp] theorem updPair_restart (p : Fin 2) (f : FjPair → FjPair) (s : State) : (updPair p f s).restart = s.restart := rfl
@[simp] theorem updPair_host (p : Fin 2) (f : FjPair → FjPair) (s : State) : (updPair p f s).host = s.host := rfl
@[simp] theorem updPair_line (p : Fin 2) (f : FjPair → FjPair) (s : State) : (updPair p f s).line = s.line := rfl
@[simp] theorem updPair_session (p : Fin 2) (f : FjPair → FjPair) (s : State) : (updPair p f s).session = s.session := rfl
@[simp] theorem updPair_load (p : Fin 2) (f : FjPair → FjPair) (s : State) : (updPair p f s).load = s.load := rfl
@[simp] theorem updPair_nv (p : Fin 2) (f : FjPair → FjPair) (s : State) : (updPair p f s).nv = s.nv := rfl
@[simp] theorem updPair_src (p : Fin 2) (f : FjPair → FjPair) (s : State) : (updPair p f s).src = s.src := rfl
@[simp] theorem updPair_ser (p : Fin 2) (f : FjPair → FjPair) (s : State) : (updPair p f s).ser = s.ser := rfl
@[simp] theorem updPair_fus (p : Fin 2) (f : FjPair → FjPair) (s : State) : (updPair p f s).fus = s.fus := rfl
@[simp] theorem updPair_gnss (p : Fin 2) (f : FjPair → FjPair) (s : State) : (updPair p f s).gnss = s.gnss := rfl
@[simp] theorem updPair_ctl (p : Fin 2) (f : FjPair → FjPair) (s : State) : (updPair p f s).ctl = s.ctl := rfl
@[simp] theorem updPair_alc (p : Fin 2) (f : FjPair → FjPair) (s : State) : (updPair p f s).alc = s.alc := rfl
@[simp] theorem updPair_servo (p : Fin 2) (f : FjPair → FjPair) (s : State) : (updPair p f s).servo = s.servo := rfl
@[simp] theorem updPair_field (p : Fin 2) (f : FjPair → FjPair) (s : State) : (updPair p f s).field = s.field := rfl
@[simp] theorem updPair_filt (p : Fin 2) (f : FjPair → FjPair) (s : State) : (updPair p f s).filt = s.filt := rfl
@[simp] theorem updPair_can (p : Fin 2) (f : FjPair → FjPair) (s : State) : (updPair p f s).can = s.can := rfl
@[simp] theorem updPair_idReq (p : Fin 2) (f : FjPair → FjPair) (s : State) : (updPair p f s).idReq = s.idReq := rfl
@[simp] theorem updPair_time (p : Fin 2) (f : FjPair → FjPair) (s : State) : (updPair p f s).time = s.time := rfl
@[simp] theorem updPair_eth (p : Fin 2) (f : FjPair → FjPair) (s : State) : (updPair p f s).eth = s.eth := rfl
@[simp] theorem updPair_power (p : Fin 2) (f : FjPair → FjPair) (s : State) : (updPair p f s).power = s.power := rfl
@[simp] theorem updPair_ev (p : Fin 2) (f : FjPair → FjPair) (s : State) : (updPair p f s).ev = s.ev := rfl

/-! `showLink` changes no part but regs, ev, line, now. -/

@[simp] theorem showLink_pending (s : State) : (showLink s).pending = s.pending := by simp [showLink]
@[simp] theorem showLink_free (s : State) : (showLink s).free = s.free := by simp [showLink]
@[simp] theorem showLink_clk (s : State) : (showLink s).clk = s.clk := by simp [showLink]
@[simp] theorem showLink_snap (s : State) : (showLink s).snap = s.snap := by simp [showLink]
@[simp] theorem showLink_snapPoison (s : State) : (showLink s).snapPoison = s.snapPoison := by simp [showLink]
@[simp] theorem showLink_poison (s : State) : (showLink s).poison = s.poison := by simp [showLink]
@[simp] theorem showLink_arb (s : State) : (showLink s).arb = s.arb := by simp [showLink]
@[simp] theorem showLink_yards (s : State) : (showLink s).yards = s.yards := by simp [showLink]
@[simp] theorem showLink_restart (s : State) : (showLink s).restart = s.restart := by simp [showLink]
@[simp] theorem showLink_host (s : State) : (showLink s).host = s.host := by simp [showLink]
@[simp] theorem showLink_session (s : State) : (showLink s).session = s.session := by simp [showLink]
@[simp] theorem showLink_load (s : State) : (showLink s).load = s.load := by simp [showLink]
@[simp] theorem showLink_nv (s : State) : (showLink s).nv = s.nv := by simp [showLink]
@[simp] theorem showLink_src (s : State) : (showLink s).src = s.src := by simp [showLink]
@[simp] theorem showLink_ser (s : State) : (showLink s).ser = s.ser := by simp [showLink]
@[simp] theorem showLink_fus (s : State) : (showLink s).fus = s.fus := by simp [showLink]
@[simp] theorem showLink_gnss (s : State) : (showLink s).gnss = s.gnss := by simp [showLink]
@[simp] theorem showLink_ctl (s : State) : (showLink s).ctl = s.ctl := by simp [showLink]
@[simp] theorem showLink_alc (s : State) : (showLink s).alc = s.alc := by simp [showLink]
@[simp] theorem showLink_servo (s : State) : (showLink s).servo = s.servo := by simp [showLink]
@[simp] theorem showLink_field (s : State) : (showLink s).field = s.field := by simp [showLink]
@[simp] theorem showLink_filt (s : State) : (showLink s).filt = s.filt := by simp [showLink]
@[simp] theorem showLink_can (s : State) : (showLink s).can = s.can := by simp [showLink]
@[simp] theorem showLink_idReq (s : State) : (showLink s).idReq = s.idReq := by simp [showLink]
@[simp] theorem showLink_time (s : State) : (showLink s).time = s.time := by simp [showLink]
@[simp] theorem showLink_eth (s : State) : (showLink s).eth = s.eth := by simp [showLink]
@[simp] theorem showLink_twin (s : State) : (showLink s).twin = s.twin := by simp [showLink]
@[simp] theorem showLink_power (s : State) : (showLink s).power = s.power := by simp [showLink]

/-! `losePair` changes no part but twin, idReq, regs, ev, line, now. -/

@[simp] theorem losePair_pending (p : Fin 2) (s : State) : (losePair p s).pending = s.pending := by unfold losePair; split <;> simp
@[simp] theorem losePair_free (p : Fin 2) (s : State) : (losePair p s).free = s.free := by unfold losePair; split <;> simp
@[simp] theorem losePair_clk (p : Fin 2) (s : State) : (losePair p s).clk = s.clk := by unfold losePair; split <;> simp
@[simp] theorem losePair_snap (p : Fin 2) (s : State) : (losePair p s).snap = s.snap := by unfold losePair; split <;> simp
@[simp] theorem losePair_snapPoison (p : Fin 2) (s : State) : (losePair p s).snapPoison = s.snapPoison := by unfold losePair; split <;> simp
@[simp] theorem losePair_poison (p : Fin 2) (s : State) : (losePair p s).poison = s.poison := by unfold losePair; split <;> simp
@[simp] theorem losePair_arb (p : Fin 2) (s : State) : (losePair p s).arb = s.arb := by unfold losePair; split <;> simp
@[simp] theorem losePair_yards (p : Fin 2) (s : State) : (losePair p s).yards = s.yards := by unfold losePair; split <;> simp
@[simp] theorem losePair_restart (p : Fin 2) (s : State) : (losePair p s).restart = s.restart := by unfold losePair; split <;> simp
@[simp] theorem losePair_host (p : Fin 2) (s : State) : (losePair p s).host = s.host := by unfold losePair; split <;> simp
@[simp] theorem losePair_session (p : Fin 2) (s : State) : (losePair p s).session = s.session := by unfold losePair; split <;> simp
@[simp] theorem losePair_load (p : Fin 2) (s : State) : (losePair p s).load = s.load := by unfold losePair; split <;> simp
@[simp] theorem losePair_nv (p : Fin 2) (s : State) : (losePair p s).nv = s.nv := by unfold losePair; split <;> simp
@[simp] theorem losePair_src (p : Fin 2) (s : State) : (losePair p s).src = s.src := by unfold losePair; split <;> simp
@[simp] theorem losePair_ser (p : Fin 2) (s : State) : (losePair p s).ser = s.ser := by unfold losePair; split <;> simp
@[simp] theorem losePair_fus (p : Fin 2) (s : State) : (losePair p s).fus = s.fus := by unfold losePair; split <;> simp
@[simp] theorem losePair_gnss (p : Fin 2) (s : State) : (losePair p s).gnss = s.gnss := by unfold losePair; split <;> simp
@[simp] theorem losePair_ctl (p : Fin 2) (s : State) : (losePair p s).ctl = s.ctl := by unfold losePair; split <;> simp
@[simp] theorem losePair_alc (p : Fin 2) (s : State) : (losePair p s).alc = s.alc := by unfold losePair; split <;> simp
@[simp] theorem losePair_servo (p : Fin 2) (s : State) : (losePair p s).servo = s.servo := by unfold losePair; split <;> simp
@[simp] theorem losePair_field (p : Fin 2) (s : State) : (losePair p s).field = s.field := by unfold losePair; split <;> simp
@[simp] theorem losePair_filt (p : Fin 2) (s : State) : (losePair p s).filt = s.filt := by unfold losePair; split <;> simp
@[simp] theorem losePair_can (p : Fin 2) (s : State) : (losePair p s).can = s.can := by unfold losePair; split <;> simp
@[simp] theorem losePair_time (p : Fin 2) (s : State) : (losePair p s).time = s.time := by unfold losePair; split <;> simp
@[simp] theorem losePair_eth (p : Fin 2) (s : State) : (losePair p s).eth = s.eth := by unfold losePair; split <;> simp
@[simp] theorem losePair_power (p : Fin 2) (s : State) : (losePair p s).power = s.power := by unfold losePair; split <;> simp

/-! `msgCrcFail` changes no part but regs, now. -/

@[simp] theorem msgCrcFail_pending (s : State) : (msgCrcFail s).pending = s.pending := by simp [msgCrcFail]
@[simp] theorem msgCrcFail_free (s : State) : (msgCrcFail s).free = s.free := by simp [msgCrcFail]
@[simp] theorem msgCrcFail_clk (s : State) : (msgCrcFail s).clk = s.clk := by simp [msgCrcFail]
@[simp] theorem msgCrcFail_snap (s : State) : (msgCrcFail s).snap = s.snap := by simp [msgCrcFail]
@[simp] theorem msgCrcFail_snapPoison (s : State) : (msgCrcFail s).snapPoison = s.snapPoison := by simp [msgCrcFail]
@[simp] theorem msgCrcFail_poison (s : State) : (msgCrcFail s).poison = s.poison := by simp [msgCrcFail]
@[simp] theorem msgCrcFail_arb (s : State) : (msgCrcFail s).arb = s.arb := by simp [msgCrcFail]
@[simp] theorem msgCrcFail_yards (s : State) : (msgCrcFail s).yards = s.yards := by simp [msgCrcFail]
@[simp] theorem msgCrcFail_restart (s : State) : (msgCrcFail s).restart = s.restart := by simp [msgCrcFail]
@[simp] theorem msgCrcFail_host (s : State) : (msgCrcFail s).host = s.host := by simp [msgCrcFail]
@[simp] theorem msgCrcFail_line (s : State) : (msgCrcFail s).line = s.line := by simp [msgCrcFail]
@[simp] theorem msgCrcFail_session (s : State) : (msgCrcFail s).session = s.session := by simp [msgCrcFail]
@[simp] theorem msgCrcFail_load (s : State) : (msgCrcFail s).load = s.load := by simp [msgCrcFail]
@[simp] theorem msgCrcFail_nv (s : State) : (msgCrcFail s).nv = s.nv := by simp [msgCrcFail]
@[simp] theorem msgCrcFail_src (s : State) : (msgCrcFail s).src = s.src := by simp [msgCrcFail]
@[simp] theorem msgCrcFail_ser (s : State) : (msgCrcFail s).ser = s.ser := by simp [msgCrcFail]
@[simp] theorem msgCrcFail_fus (s : State) : (msgCrcFail s).fus = s.fus := by simp [msgCrcFail]
@[simp] theorem msgCrcFail_gnss (s : State) : (msgCrcFail s).gnss = s.gnss := by simp [msgCrcFail]
@[simp] theorem msgCrcFail_ctl (s : State) : (msgCrcFail s).ctl = s.ctl := by simp [msgCrcFail]
@[simp] theorem msgCrcFail_alc (s : State) : (msgCrcFail s).alc = s.alc := by simp [msgCrcFail]
@[simp] theorem msgCrcFail_servo (s : State) : (msgCrcFail s).servo = s.servo := by simp [msgCrcFail]
@[simp] theorem msgCrcFail_field (s : State) : (msgCrcFail s).field = s.field := by simp [msgCrcFail]
@[simp] theorem msgCrcFail_filt (s : State) : (msgCrcFail s).filt = s.filt := by simp [msgCrcFail]
@[simp] theorem msgCrcFail_can (s : State) : (msgCrcFail s).can = s.can := by simp [msgCrcFail]
@[simp] theorem msgCrcFail_idReq (s : State) : (msgCrcFail s).idReq = s.idReq := by simp [msgCrcFail]
@[simp] theorem msgCrcFail_time (s : State) : (msgCrcFail s).time = s.time := by simp [msgCrcFail]
@[simp] theorem msgCrcFail_eth (s : State) : (msgCrcFail s).eth = s.eth := by simp [msgCrcFail]
@[simp] theorem msgCrcFail_twin (s : State) : (msgCrcFail s).twin = s.twin := by simp [msgCrcFail]
@[simp] theorem msgCrcFail_power (s : State) : (msgCrcFail s).power = s.power := by simp [msgCrcFail]
@[simp] theorem msgCrcFail_ev (s : State) : (msgCrcFail s).ev = s.ev := by simp [msgCrcFail]

/-! `goodMessage` changes no part but twin. -/

@[simp] theorem goodMessage_pending (p : Fin 2) (s : State) : (goodMessage p s).pending = s.pending := by simp [goodMessage]
@[simp] theorem goodMessage_free (p : Fin 2) (s : State) : (goodMessage p s).free = s.free := by simp [goodMessage]
@[simp] theorem goodMessage_clk (p : Fin 2) (s : State) : (goodMessage p s).clk = s.clk := by simp [goodMessage]
@[simp] theorem goodMessage_regs (p : Fin 2) (s : State) : (goodMessage p s).regs = s.regs := by simp [goodMessage]
@[simp] theorem goodMessage_snap (p : Fin 2) (s : State) : (goodMessage p s).snap = s.snap := by simp [goodMessage]
@[simp] theorem goodMessage_snapPoison (p : Fin 2) (s : State) : (goodMessage p s).snapPoison = s.snapPoison := by simp [goodMessage]
@[simp] theorem goodMessage_poison (p : Fin 2) (s : State) : (goodMessage p s).poison = s.poison := by simp [goodMessage]
@[simp] theorem goodMessage_arb (p : Fin 2) (s : State) : (goodMessage p s).arb = s.arb := by simp [goodMessage]
@[simp] theorem goodMessage_now (p : Fin 2) (s : State) : (goodMessage p s).now = s.now := by simp [goodMessage]
@[simp] theorem goodMessage_yards (p : Fin 2) (s : State) : (goodMessage p s).yards = s.yards := by simp [goodMessage]
@[simp] theorem goodMessage_restart (p : Fin 2) (s : State) : (goodMessage p s).restart = s.restart := by simp [goodMessage]
@[simp] theorem goodMessage_host (p : Fin 2) (s : State) : (goodMessage p s).host = s.host := by simp [goodMessage]
@[simp] theorem goodMessage_line (p : Fin 2) (s : State) : (goodMessage p s).line = s.line := by simp [goodMessage]
@[simp] theorem goodMessage_session (p : Fin 2) (s : State) : (goodMessage p s).session = s.session := by simp [goodMessage]
@[simp] theorem goodMessage_load (p : Fin 2) (s : State) : (goodMessage p s).load = s.load := by simp [goodMessage]
@[simp] theorem goodMessage_nv (p : Fin 2) (s : State) : (goodMessage p s).nv = s.nv := by simp [goodMessage]
@[simp] theorem goodMessage_src (p : Fin 2) (s : State) : (goodMessage p s).src = s.src := by simp [goodMessage]
@[simp] theorem goodMessage_ser (p : Fin 2) (s : State) : (goodMessage p s).ser = s.ser := by simp [goodMessage]
@[simp] theorem goodMessage_fus (p : Fin 2) (s : State) : (goodMessage p s).fus = s.fus := by simp [goodMessage]
@[simp] theorem goodMessage_gnss (p : Fin 2) (s : State) : (goodMessage p s).gnss = s.gnss := by simp [goodMessage]
@[simp] theorem goodMessage_ctl (p : Fin 2) (s : State) : (goodMessage p s).ctl = s.ctl := by simp [goodMessage]
@[simp] theorem goodMessage_alc (p : Fin 2) (s : State) : (goodMessage p s).alc = s.alc := by simp [goodMessage]
@[simp] theorem goodMessage_servo (p : Fin 2) (s : State) : (goodMessage p s).servo = s.servo := by simp [goodMessage]
@[simp] theorem goodMessage_field (p : Fin 2) (s : State) : (goodMessage p s).field = s.field := by simp [goodMessage]
@[simp] theorem goodMessage_filt (p : Fin 2) (s : State) : (goodMessage p s).filt = s.filt := by simp [goodMessage]
@[simp] theorem goodMessage_can (p : Fin 2) (s : State) : (goodMessage p s).can = s.can := by simp [goodMessage]
@[simp] theorem goodMessage_idReq (p : Fin 2) (s : State) : (goodMessage p s).idReq = s.idReq := by simp [goodMessage]
@[simp] theorem goodMessage_time (p : Fin 2) (s : State) : (goodMessage p s).time = s.time := by simp [goodMessage]
@[simp] theorem goodMessage_eth (p : Fin 2) (s : State) : (goodMessage p s).eth = s.eth := by simp [goodMessage]
@[simp] theorem goodMessage_power (p : Fin 2) (s : State) : (goodMessage p s).power = s.power := by simp [goodMessage]
@[simp] theorem goodMessage_ev (p : Fin 2) (s : State) : (goodMessage p s).ev = s.ev := by simp [goodMessage]

/-! `ownMessage` changes no part but twin, idReq, regs, ev, line, power, now. -/

@[simp] theorem ownMessage_pending (p : Fin 2) (s : State) : (ownMessage p s).pending = s.pending := by unfold ownMessage; dsimp only; split <;> simp
@[simp] theorem ownMessage_free (p : Fin 2) (s : State) : (ownMessage p s).free = s.free := by unfold ownMessage; dsimp only; split <;> simp
@[simp] theorem ownMessage_clk (p : Fin 2) (s : State) : (ownMessage p s).clk = s.clk := by unfold ownMessage; dsimp only; split <;> simp
@[simp] theorem ownMessage_snap (p : Fin 2) (s : State) : (ownMessage p s).snap = s.snap := by unfold ownMessage; dsimp only; split <;> simp
@[simp] theorem ownMessage_snapPoison (p : Fin 2) (s : State) : (ownMessage p s).snapPoison = s.snapPoison := by unfold ownMessage; dsimp only; split <;> simp
@[simp] theorem ownMessage_poison (p : Fin 2) (s : State) : (ownMessage p s).poison = s.poison := by unfold ownMessage; dsimp only; split <;> simp
@[simp] theorem ownMessage_arb (p : Fin 2) (s : State) : (ownMessage p s).arb = s.arb := by unfold ownMessage; dsimp only; split <;> simp
@[simp] theorem ownMessage_yards (p : Fin 2) (s : State) : (ownMessage p s).yards = s.yards := by unfold ownMessage; dsimp only; split <;> simp
@[simp] theorem ownMessage_restart (p : Fin 2) (s : State) : (ownMessage p s).restart = s.restart := by unfold ownMessage; dsimp only; split <;> simp
@[simp] theorem ownMessage_host (p : Fin 2) (s : State) : (ownMessage p s).host = s.host := by unfold ownMessage; dsimp only; split <;> simp
@[simp] theorem ownMessage_session (p : Fin 2) (s : State) : (ownMessage p s).session = s.session := by unfold ownMessage; dsimp only; split <;> simp
@[simp] theorem ownMessage_load (p : Fin 2) (s : State) : (ownMessage p s).load = s.load := by unfold ownMessage; dsimp only; split <;> simp
@[simp] theorem ownMessage_nv (p : Fin 2) (s : State) : (ownMessage p s).nv = s.nv := by unfold ownMessage; dsimp only; split <;> simp
@[simp] theorem ownMessage_src (p : Fin 2) (s : State) : (ownMessage p s).src = s.src := by unfold ownMessage; dsimp only; split <;> simp
@[simp] theorem ownMessage_ser (p : Fin 2) (s : State) : (ownMessage p s).ser = s.ser := by unfold ownMessage; dsimp only; split <;> simp
@[simp] theorem ownMessage_fus (p : Fin 2) (s : State) : (ownMessage p s).fus = s.fus := by unfold ownMessage; dsimp only; split <;> simp
@[simp] theorem ownMessage_gnss (p : Fin 2) (s : State) : (ownMessage p s).gnss = s.gnss := by unfold ownMessage; dsimp only; split <;> simp
@[simp] theorem ownMessage_ctl (p : Fin 2) (s : State) : (ownMessage p s).ctl = s.ctl := by unfold ownMessage; dsimp only; split <;> simp
@[simp] theorem ownMessage_alc (p : Fin 2) (s : State) : (ownMessage p s).alc = s.alc := by unfold ownMessage; dsimp only; split <;> simp
@[simp] theorem ownMessage_servo (p : Fin 2) (s : State) : (ownMessage p s).servo = s.servo := by unfold ownMessage; dsimp only; split <;> simp
@[simp] theorem ownMessage_field (p : Fin 2) (s : State) : (ownMessage p s).field = s.field := by unfold ownMessage; dsimp only; split <;> simp
@[simp] theorem ownMessage_filt (p : Fin 2) (s : State) : (ownMessage p s).filt = s.filt := by unfold ownMessage; dsimp only; split <;> simp
@[simp] theorem ownMessage_can (p : Fin 2) (s : State) : (ownMessage p s).can = s.can := by unfold ownMessage; dsimp only; split <;> simp
@[simp] theorem ownMessage_time (p : Fin 2) (s : State) : (ownMessage p s).time = s.time := by unfold ownMessage; dsimp only; split <;> simp
@[simp] theorem ownMessage_eth (p : Fin 2) (s : State) : (ownMessage p s).eth = s.eth := by unfold ownMessage; dsimp only; split <;> simp

/-! `takeHalter` changes no part but twin, regs, ev, line, now. -/

@[simp] theorem takeHalter_pending (c l : Nat) (s : State) : (takeHalter c l s).pending = s.pending := by simp [takeHalter]
@[simp] theorem takeHalter_free (c l : Nat) (s : State) : (takeHalter c l s).free = s.free := by simp [takeHalter]
@[simp] theorem takeHalter_clk (c l : Nat) (s : State) : (takeHalter c l s).clk = s.clk := by simp [takeHalter]
@[simp] theorem takeHalter_snap (c l : Nat) (s : State) : (takeHalter c l s).snap = s.snap := by simp [takeHalter]
@[simp] theorem takeHalter_snapPoison (c l : Nat) (s : State) : (takeHalter c l s).snapPoison = s.snapPoison := by simp [takeHalter]
@[simp] theorem takeHalter_poison (c l : Nat) (s : State) : (takeHalter c l s).poison = s.poison := by simp [takeHalter]
@[simp] theorem takeHalter_arb (c l : Nat) (s : State) : (takeHalter c l s).arb = s.arb := by simp [takeHalter]
@[simp] theorem takeHalter_yards (c l : Nat) (s : State) : (takeHalter c l s).yards = s.yards := by simp [takeHalter]
@[simp] theorem takeHalter_restart (c l : Nat) (s : State) : (takeHalter c l s).restart = s.restart := by simp [takeHalter]
@[simp] theorem takeHalter_host (c l : Nat) (s : State) : (takeHalter c l s).host = s.host := by simp [takeHalter]
@[simp] theorem takeHalter_session (c l : Nat) (s : State) : (takeHalter c l s).session = s.session := by simp [takeHalter]
@[simp] theorem takeHalter_load (c l : Nat) (s : State) : (takeHalter c l s).load = s.load := by simp [takeHalter]
@[simp] theorem takeHalter_nv (c l : Nat) (s : State) : (takeHalter c l s).nv = s.nv := by simp [takeHalter]
@[simp] theorem takeHalter_src (c l : Nat) (s : State) : (takeHalter c l s).src = s.src := by simp [takeHalter]
@[simp] theorem takeHalter_ser (c l : Nat) (s : State) : (takeHalter c l s).ser = s.ser := by simp [takeHalter]
@[simp] theorem takeHalter_fus (c l : Nat) (s : State) : (takeHalter c l s).fus = s.fus := by simp [takeHalter]
@[simp] theorem takeHalter_gnss (c l : Nat) (s : State) : (takeHalter c l s).gnss = s.gnss := by simp [takeHalter]
@[simp] theorem takeHalter_ctl (c l : Nat) (s : State) : (takeHalter c l s).ctl = s.ctl := by simp [takeHalter]
@[simp] theorem takeHalter_alc (c l : Nat) (s : State) : (takeHalter c l s).alc = s.alc := by simp [takeHalter]
@[simp] theorem takeHalter_servo (c l : Nat) (s : State) : (takeHalter c l s).servo = s.servo := by simp [takeHalter]
@[simp] theorem takeHalter_field (c l : Nat) (s : State) : (takeHalter c l s).field = s.field := by simp [takeHalter]
@[simp] theorem takeHalter_filt (c l : Nat) (s : State) : (takeHalter c l s).filt = s.filt := by simp [takeHalter]
@[simp] theorem takeHalter_can (c l : Nat) (s : State) : (takeHalter c l s).can = s.can := by simp [takeHalter]
@[simp] theorem takeHalter_idReq (c l : Nat) (s : State) : (takeHalter c l s).idReq = s.idReq := by simp [takeHalter]
@[simp] theorem takeHalter_time (c l : Nat) (s : State) : (takeHalter c l s).time = s.time := by simp [takeHalter]
@[simp] theorem takeHalter_eth (c l : Nat) (s : State) : (takeHalter c l s).eth = s.eth := by simp [takeHalter]
@[simp] theorem takeHalter_power (c l : Nat) (s : State) : (takeHalter c l s).power = s.power := by simp [takeHalter]

/-! `dropHalter` changes no part but twin, idReq, regs, ev, line, now. -/

@[simp] theorem dropHalter_pending (c l : Nat) (b : Bool) (s : State) : (dropHalter c l b s).pending = s.pending := by simp [dropHalter]
@[simp] theorem dropHalter_free (c l : Nat) (b : Bool) (s : State) : (dropHalter c l b s).free = s.free := by simp [dropHalter]
@[simp] theorem dropHalter_clk (c l : Nat) (b : Bool) (s : State) : (dropHalter c l b s).clk = s.clk := by simp [dropHalter]
@[simp] theorem dropHalter_snap (c l : Nat) (b : Bool) (s : State) : (dropHalter c l b s).snap = s.snap := by simp [dropHalter]
@[simp] theorem dropHalter_snapPoison (c l : Nat) (b : Bool) (s : State) : (dropHalter c l b s).snapPoison = s.snapPoison := by simp [dropHalter]
@[simp] theorem dropHalter_poison (c l : Nat) (b : Bool) (s : State) : (dropHalter c l b s).poison = s.poison := by simp [dropHalter]
@[simp] theorem dropHalter_arb (c l : Nat) (b : Bool) (s : State) : (dropHalter c l b s).arb = s.arb := by simp [dropHalter]
@[simp] theorem dropHalter_yards (c l : Nat) (b : Bool) (s : State) : (dropHalter c l b s).yards = s.yards := by simp [dropHalter]
@[simp] theorem dropHalter_restart (c l : Nat) (b : Bool) (s : State) : (dropHalter c l b s).restart = s.restart := by simp [dropHalter]
@[simp] theorem dropHalter_host (c l : Nat) (b : Bool) (s : State) : (dropHalter c l b s).host = s.host := by simp [dropHalter]
@[simp] theorem dropHalter_session (c l : Nat) (b : Bool) (s : State) : (dropHalter c l b s).session = s.session := by simp [dropHalter]
@[simp] theorem dropHalter_load (c l : Nat) (b : Bool) (s : State) : (dropHalter c l b s).load = s.load := by simp [dropHalter]
@[simp] theorem dropHalter_nv (c l : Nat) (b : Bool) (s : State) : (dropHalter c l b s).nv = s.nv := by simp [dropHalter]
@[simp] theorem dropHalter_src (c l : Nat) (b : Bool) (s : State) : (dropHalter c l b s).src = s.src := by simp [dropHalter]
@[simp] theorem dropHalter_ser (c l : Nat) (b : Bool) (s : State) : (dropHalter c l b s).ser = s.ser := by simp [dropHalter]
@[simp] theorem dropHalter_fus (c l : Nat) (b : Bool) (s : State) : (dropHalter c l b s).fus = s.fus := by simp [dropHalter]
@[simp] theorem dropHalter_gnss (c l : Nat) (b : Bool) (s : State) : (dropHalter c l b s).gnss = s.gnss := by simp [dropHalter]
@[simp] theorem dropHalter_ctl (c l : Nat) (b : Bool) (s : State) : (dropHalter c l b s).ctl = s.ctl := by simp [dropHalter]
@[simp] theorem dropHalter_alc (c l : Nat) (b : Bool) (s : State) : (dropHalter c l b s).alc = s.alc := by simp [dropHalter]
@[simp] theorem dropHalter_servo (c l : Nat) (b : Bool) (s : State) : (dropHalter c l b s).servo = s.servo := by simp [dropHalter]
@[simp] theorem dropHalter_field (c l : Nat) (b : Bool) (s : State) : (dropHalter c l b s).field = s.field := by simp [dropHalter]
@[simp] theorem dropHalter_filt (c l : Nat) (b : Bool) (s : State) : (dropHalter c l b s).filt = s.filt := by simp [dropHalter]
@[simp] theorem dropHalter_can (c l : Nat) (b : Bool) (s : State) : (dropHalter c l b s).can = s.can := by simp [dropHalter]
@[simp] theorem dropHalter_time (c l : Nat) (b : Bool) (s : State) : (dropHalter c l b s).time = s.time := by simp [dropHalter]
@[simp] theorem dropHalter_eth (c l : Nat) (b : Bool) (s : State) : (dropHalter c l b s).eth = s.eth := by simp [dropHalter]
@[simp] theorem dropHalter_power (c l : Nat) (b : Bool) (s : State) : (dropHalter c l b s).power = s.power := by simp [dropHalter]

/-! `enterFailSilent` changes no part but twin, idReq, can, regs, ev, line, now. -/

@[simp] theorem enterFailSilent_pending (c : Nat) (s : State) : (enterFailSilent c s).pending = s.pending := by unfold enterFailSilent; dsimp only; (repeat' split) <;> simp
@[simp] theorem enterFailSilent_free (c : Nat) (s : State) : (enterFailSilent c s).free = s.free := by unfold enterFailSilent; dsimp only; (repeat' split) <;> simp
@[simp] theorem enterFailSilent_clk (c : Nat) (s : State) : (enterFailSilent c s).clk = s.clk := by unfold enterFailSilent; dsimp only; (repeat' split) <;> simp
@[simp] theorem enterFailSilent_snap (c : Nat) (s : State) : (enterFailSilent c s).snap = s.snap := by unfold enterFailSilent; dsimp only; (repeat' split) <;> simp
@[simp] theorem enterFailSilent_snapPoison (c : Nat) (s : State) : (enterFailSilent c s).snapPoison = s.snapPoison := by unfold enterFailSilent; dsimp only; (repeat' split) <;> simp
@[simp] theorem enterFailSilent_poison (c : Nat) (s : State) : (enterFailSilent c s).poison = s.poison := by unfold enterFailSilent; dsimp only; (repeat' split) <;> simp
@[simp] theorem enterFailSilent_arb (c : Nat) (s : State) : (enterFailSilent c s).arb = s.arb := by unfold enterFailSilent; dsimp only; (repeat' split) <;> simp
@[simp] theorem enterFailSilent_yards (c : Nat) (s : State) : (enterFailSilent c s).yards = s.yards := by unfold enterFailSilent; dsimp only; (repeat' split) <;> simp
@[simp] theorem enterFailSilent_restart (c : Nat) (s : State) : (enterFailSilent c s).restart = s.restart := by unfold enterFailSilent; dsimp only; (repeat' split) <;> simp
@[simp] theorem enterFailSilent_host (c : Nat) (s : State) : (enterFailSilent c s).host = s.host := by unfold enterFailSilent; dsimp only; (repeat' split) <;> simp
@[simp] theorem enterFailSilent_session (c : Nat) (s : State) : (enterFailSilent c s).session = s.session := by unfold enterFailSilent; dsimp only; (repeat' split) <;> simp
@[simp] theorem enterFailSilent_load (c : Nat) (s : State) : (enterFailSilent c s).load = s.load := by unfold enterFailSilent; dsimp only; (repeat' split) <;> simp
@[simp] theorem enterFailSilent_nv (c : Nat) (s : State) : (enterFailSilent c s).nv = s.nv := by unfold enterFailSilent; dsimp only; (repeat' split) <;> simp
@[simp] theorem enterFailSilent_src (c : Nat) (s : State) : (enterFailSilent c s).src = s.src := by unfold enterFailSilent; dsimp only; (repeat' split) <;> simp
@[simp] theorem enterFailSilent_ser (c : Nat) (s : State) : (enterFailSilent c s).ser = s.ser := by unfold enterFailSilent; dsimp only; (repeat' split) <;> simp
@[simp] theorem enterFailSilent_fus (c : Nat) (s : State) : (enterFailSilent c s).fus = s.fus := by unfold enterFailSilent; dsimp only; (repeat' split) <;> simp
@[simp] theorem enterFailSilent_gnss (c : Nat) (s : State) : (enterFailSilent c s).gnss = s.gnss := by unfold enterFailSilent; dsimp only; (repeat' split) <;> simp
@[simp] theorem enterFailSilent_ctl (c : Nat) (s : State) : (enterFailSilent c s).ctl = s.ctl := by unfold enterFailSilent; dsimp only; (repeat' split) <;> simp
@[simp] theorem enterFailSilent_alc (c : Nat) (s : State) : (enterFailSilent c s).alc = s.alc := by unfold enterFailSilent; dsimp only; (repeat' split) <;> simp
@[simp] theorem enterFailSilent_servo (c : Nat) (s : State) : (enterFailSilent c s).servo = s.servo := by unfold enterFailSilent; dsimp only; (repeat' split) <;> simp
@[simp] theorem enterFailSilent_field (c : Nat) (s : State) : (enterFailSilent c s).field = s.field := by unfold enterFailSilent; dsimp only; (repeat' split) <;> simp
@[simp] theorem enterFailSilent_filt (c : Nat) (s : State) : (enterFailSilent c s).filt = s.filt := by unfold enterFailSilent; dsimp only; (repeat' split) <;> simp
@[simp] theorem enterFailSilent_time (c : Nat) (s : State) : (enterFailSilent c s).time = s.time := by unfold enterFailSilent; dsimp only; (repeat' split) <;> simp
@[simp] theorem enterFailSilent_eth (c : Nat) (s : State) : (enterFailSilent c s).eth = s.eth := by unfold enterFailSilent; dsimp only; (repeat' split) <;> simp
@[simp] theorem enterFailSilent_power (c : Nat) (s : State) : (enterFailSilent c s).power = s.power := by unfold enterFailSilent; dsimp only; (repeat' split) <;> simp

/-! `cutController` changes no part but can. -/

@[simp] theorem cutController_pending (b : Nat) (s : State) : (cutController b s).pending = s.pending := rfl
@[simp] theorem cutController_free (b : Nat) (s : State) : (cutController b s).free = s.free := rfl
@[simp] theorem cutController_clk (b : Nat) (s : State) : (cutController b s).clk = s.clk := rfl
@[simp] theorem cutController_regs (b : Nat) (s : State) : (cutController b s).regs = s.regs := rfl
@[simp] theorem cutController_snap (b : Nat) (s : State) : (cutController b s).snap = s.snap := rfl
@[simp] theorem cutController_snapPoison (b : Nat) (s : State) : (cutController b s).snapPoison = s.snapPoison := rfl
@[simp] theorem cutController_poison (b : Nat) (s : State) : (cutController b s).poison = s.poison := rfl
@[simp] theorem cutController_arb (b : Nat) (s : State) : (cutController b s).arb = s.arb := rfl
@[simp] theorem cutController_now (b : Nat) (s : State) : (cutController b s).now = s.now := rfl
@[simp] theorem cutController_yards (b : Nat) (s : State) : (cutController b s).yards = s.yards := rfl
@[simp] theorem cutController_restart (b : Nat) (s : State) : (cutController b s).restart = s.restart := rfl
@[simp] theorem cutController_host (b : Nat) (s : State) : (cutController b s).host = s.host := rfl
@[simp] theorem cutController_line (b : Nat) (s : State) : (cutController b s).line = s.line := rfl
@[simp] theorem cutController_session (b : Nat) (s : State) : (cutController b s).session = s.session := rfl
@[simp] theorem cutController_load (b : Nat) (s : State) : (cutController b s).load = s.load := rfl
@[simp] theorem cutController_nv (b : Nat) (s : State) : (cutController b s).nv = s.nv := rfl
@[simp] theorem cutController_src (b : Nat) (s : State) : (cutController b s).src = s.src := rfl
@[simp] theorem cutController_ser (b : Nat) (s : State) : (cutController b s).ser = s.ser := rfl
@[simp] theorem cutController_fus (b : Nat) (s : State) : (cutController b s).fus = s.fus := rfl
@[simp] theorem cutController_gnss (b : Nat) (s : State) : (cutController b s).gnss = s.gnss := rfl
@[simp] theorem cutController_ctl (b : Nat) (s : State) : (cutController b s).ctl = s.ctl := rfl
@[simp] theorem cutController_alc (b : Nat) (s : State) : (cutController b s).alc = s.alc := rfl
@[simp] theorem cutController_servo (b : Nat) (s : State) : (cutController b s).servo = s.servo := rfl
@[simp] theorem cutController_field (b : Nat) (s : State) : (cutController b s).field = s.field := rfl
@[simp] theorem cutController_filt (b : Nat) (s : State) : (cutController b s).filt = s.filt := rfl
@[simp] theorem cutController_idReq (b : Nat) (s : State) : (cutController b s).idReq = s.idReq := rfl
@[simp] theorem cutController_time (b : Nat) (s : State) : (cutController b s).time = s.time := rfl
@[simp] theorem cutController_eth (b : Nat) (s : State) : (cutController b s).eth = s.eth := rfl
@[simp] theorem cutController_twin (b : Nat) (s : State) : (cutController b s).twin = s.twin := rfl
@[simp] theorem cutController_power (b : Nat) (s : State) : (cutController b s).power = s.power := rfl
@[simp] theorem cutController_ev (b : Nat) (s : State) : (cutController b s).ev = s.ev := rfl

end Sys2Proof.Machine
end

