-- ==== Sys2Proof/Laws/Vec.lean ====
section
/-! SUPPORT. Elements of fixed-length vectors: reading after writing. -/
namespace Sys2Proof.Machine

theorem vget_vset {α : Type} {n : Nat} (v : Vector α n) (i j : Fin n) (x : α) :
    vget (vset v i x) j = if j = i then x else vget v j := by
  unfold vget vset
  rw [Vector.getElem_set]
  by_cases h : j = i
  · simp [h]
  · have : i.val ≠ j.val := fun e => h (Fin.ext e.symm)
    simp [h, this]

@[simp] theorem vget_vset_same {α : Type} {n : Nat} (v : Vector α n) (i : Fin n) (x : α) : vget (vset v i x) i = x := by
  simp [vget_vset]

@[simp] theorem vget_vupd_same {α : Type} {n : Nat} (v : Vector α n) (i : Fin n) (f : α → α) :
    vget (vupd v i f) i = f (vget v i) := by simp [vupd]

theorem vget_vupd_other {α : Type} {n : Nat} (v : Vector α n) (i j : Fin n) (f : α → α) (h : j ≠ i) :
    vget (vupd v i f) j = vget v j := by simp [vupd, vget_vset, h]

@[simp] theorem vget_map {α β : Type} {n : Nat} (v : Vector α n) (i : Fin n) (f : α → β) : vget (v.map f) i = f (vget v i) := by
  simp [vget]

@[simp] theorem vget_replicate {α : Type} {n : Nat} (i : Fin n) (x : α) : vget (Vector.replicate n x) i = x := by
  simp [vget]

end Sys2Proof.Machine
end

