-- ==== Sys2Proof/Laws/Regs.lean ====
section
/-! SUPPORT. The register file: reading after writing, bit fields of a word, and what raising events and answering requests do to
registers. -/
namespace Sys2Proof.Machine

/-! ### Bit fields -/

theorem getLsbD_putBits (w : Word) (hi lo v j : Nat) (hj : j < 32) :
    (putBits w hi lo v).getLsbD j =
      if lo ≤ j ∧ j < hi + 1 then v.testBit (j - lo) else w.getLsbD j := by
  unfold putBits
  simp only [BitVec.getLsbD_or, BitVec.getLsbD_and, BitVec.getLsbD_not, BitVec.getLsbD_ofNat, hj, decide_true,
    Bool.true_and, Nat.testBit_shiftLeft, Nat.testBit_two_pow_sub_one]
  by_cases h1 : lo ≤ j
  · by_cases h2 : j < hi + 1
    · have : j - lo < hi + 1 - lo := by omega
      simp [h1, h2, this]
    · have : ¬ j - lo < hi + 1 - lo := by omega
      simp [h1, h2, this]
  · simp [h1]

theorem testBit_bitsOf (w : Word) (hi lo j : Nat) :
    (bitsOf w hi lo).testBit j = (decide (j < hi + 1 - lo) && w.getLsbD (lo + j)) := by
  simp [bitsOf, Nat.testBit_mod_two_pow, Nat.testBit_shiftRight, BitVec.testBit_toNat]

/-- The field that was written reads the value, less its excess high bits. -/
theorem bitsOf_putBits_same (w : Word) (hi lo v : Nat) (h : hi < 32) :
    bitsOf (putBits w hi lo v) hi lo = v % 2 ^ (hi + 1 - lo) := by
  apply Nat.eq_of_testBit_eq
  intro j
  rw [testBit_bitsOf, Nat.testBit_mod_two_pow]
  by_cases hj : j < hi + 1 - lo
  · rw [getLsbD_putBits _ _ _ _ _ (by omega)]
    have : lo ≤ lo + j ∧ lo + j < hi + 1 := by omega
    simp [this]
  · simp [hj]

/-- A field that does not meet the written one reads as before. -/
theorem bitsOf_putBits_other (w : Word) (hi lo v hi' lo' : Nat) (h : hi' < lo ∨ hi < lo') (h' : hi' < 32) :
    bitsOf (putBits w hi lo v) hi' lo' = bitsOf w hi' lo' := by
  apply Nat.eq_of_testBit_eq
  intro j
  rw [testBit_bitsOf, testBit_bitsOf]
  by_cases hj : j < hi' + 1 - lo'
  · rw [getLsbD_putBits _ _ _ _ _ (by omega)]
    rw [if_neg (by omega)]
  · simp [hj]

theorem bitOf_putBits (w : Word) (hi lo v j : Nat) (hj : j < 32) :
    bitOf (putBits w hi lo v) j = if lo ≤ j ∧ j < hi + 1 then v.testBit (j - lo) else bitOf w j :=
  getLsbD_putBits w hi lo v j hj

@[simp] theorem bitOf_putBit_same (w : Word) (i : Nat) (b : Bool) (h : i < 32) : bitOf (putBit w i b) i = b := by
  unfold putBit
  rw [bitOf_putBits _ _ _ _ _ h]
  cases b <;> simp

theorem bitOf_putBit_other (w : Word) (i j : Nat) (b : Bool) (h : j < 32) (n : j ≠ i) :
    bitOf (putBit w i b) j = bitOf w j := by
  unfold putBit
  rw [bitOf_putBits _ _ _ _ _ h, if_neg (by omega)]

/-! ### The register file -/

theorem regDrop_find_same (id : Nat) (r : Regs) : (regDrop id r).find? (fun x => x.1 == id) = none := by
  simp [regDrop, List.find?_eq_none]

theorem regDrop_find_other (id j : Nat) (r : Regs) (h : j ≠ id) :
    (regDrop id r).find? (fun x => x.1 == j) = r.find? (fun x => x.1 == j) := by
  induction r with
  | nil => rfl
  | cons x r ih =>
    simp only [regDrop, List.filter_cons, List.find?_cons] at *
    by_cases hx : x.1 = id
    · have hj : (x.1 == j) = false := by simp; omega
      rw [hj]; simpa [hx] using ih
    · have hi : (x.1 != id) = true := by simpa using hx
      rw [if_pos hi, List.find?_cons, ih]

theorem regInsert_find (id : Nat) (w : Word) (r : Regs) (j : Nat) (h : r.find? (fun x => x.1 == id) = none) :
    (regInsert id w r).find? (fun x => x.1 == j) = if j = id then some (id, w) else r.find? (fun x => x.1 == j) := by
  induction r with
  | nil =>
    by_cases hj : j = id
    · simp [regInsert, hj]
    · simp [regInsert, hj, Ne.symm hj]
  | cons x r ih =>
    have hx : x.1 ≠ id := by
      intro e; simp [List.find?_cons, e] at h
    have hr : r.find? (fun x => x.1 == id) = none := by
      simpa [List.find?_cons, hx] using h
    simp only [regInsert]
    split
    · by_cases hj : j = id
      · simp [hj]
      · simp [List.find?_cons, hj, Ne.symm hj]
    · by_cases hj : x.1 = j
      · have : j ≠ id := by omega
        simp [List.find?_cons, hj, this]
      · simp [List.find?_cons, hj, ih hr]

/-- Reading after a write: the written identifier reads the written word, every other one as before. -/
theorem regGet_regSet (r : Regs) (id j : Nat) (w : Word) :
    regGet (regSet r id w) j = if j = id then w else regGet r j := by
  unfold regSet regGet
  by_cases hw : w = resetWord id
  · by_cases hj : j = id
    · subst hj; simp [hw, regDrop_find_same]
    · simp [hw, hj, regDrop_find_other _ _ _ hj]
  · simp only [if_neg hw]
    rw [regInsert_find _ _ _ _ (regDrop_find_same id r)]
    by_cases hj : j = id
    · simp [hj]
    · simp [hj, regDrop_find_other _ _ _ hj]

/-- Reading a register of the state after a write. -/
theorem rd_wr (s : State) (id j : Nat) (w : Word) : rd (wr s id w) j = if j = id then w else rd s j :=
  regGet_regSet s.regs id j w

@[simp] theorem rd_wr_same (s : State) (id : Nat) (w : Word) : rd (wr s id w) id = w := by simp [rd_wr]

theorem rd_wr_other (s : State) (id j : Nat) (w : Word) (h : j ≠ id) : rd (wr s id w) j = rd s j := by simp [rd_wr, h]

theorem rd_wrFld (s : State) (id hi lo v j : Nat) :
    rd (wrFld s id hi lo v) j = if j = id then putBits (rd s id) hi lo v else rd s j := rd_wr ..

theorem rd_wrFlag (s : State) (id i : Nat) (b : Bool) (j : Nat) :
    rd (wrFlag s id i b) j = if j = id then putBit (rd s id) i b else rd s j := rd_wr ..

theorem rd_sticky (s : State) (id i j : Nat) :
    rd (sticky s id i) j = if j = id then putBit (rd s id) i true else rd s j := by
  have h : rd (sticky s id i) j = rd (wrFlag s id i true) j := by unfold rd sticky; simp
  rw [h]; exact rd_wrFlag ..

theorem rd_bump (s : State) (id hi lo d j : Nat) :
    rd (bump s id hi lo d) j =
      if j = id then putBits (rd s id) hi lo (satAdd (hi + 1 - lo) (fld s id hi lo) d) else rd s j := rd_wr ..

/-- Reading does not see what is not the register file. -/
theorem rd_congr {s t : State} (h : t.regs = s.regs) (id : Nat) : rd t id = rd s id := by unfold rd; rw [h]

@[simp] theorem rd_advance (c : Nat) (s : State) (id : Nat) : rd (advance c s) id = rd s id := rd_congr (by simp) id
@[simp] theorem rd_attentionDue (d : Nat) (s : State) (id : Nat) : rd (attentionDue d s) id = rd s id := rd_congr (by simp) id
@[simp] theorem noteStick_queue (n : Nat) (b : Bool) (s : State) : (noteStick n b s).ev.queue = s.ev.queue := rfl
@[simp] theorem rd_noteStick (n : Nat) (b : Bool) (s : State) (id : Nat) : rd (noteStick n b s) id = rd s id := rd_congr (by simp) id
@[simp] theorem rd_histPut (h : HistSlot) (s : State) (id : Nat) : rd (histPut h s) id = rd s id := rd_congr (by simp) id

/-- The clock only moves forward, and with it λ and the RTC; nothing else of the clocks changes. -/
theorem advance_clk_same (c : Nat) (s : State) : Part.clk.same s (advance c s) := by
  unfold Part.same advance; dsimp only; split <;> rfl

theorem advance_power_same (c : Nat) (s : State) : Part.power.same s (advance c s) := by
  unfold Part.same advance; dsimp only; split <;> rfl

/-! ### Events -/

/-- One entry more. -/
@[simp] theorem queueInsert_length (e : QEntry) (q : List QEntry) : (queueInsert e q).length = q.length + 1 := by
  induction q with
  | nil => rfl
  | cons x r ih => unfold queueInsert; split <;> simp [ih]

theorem rd_queuePut (n a : Nat) (m : Bool) (s : State) (id : Nat) (h : id ≠ 0x130D) :
    rd (queuePut n a m s).1 id = rd s id := by
  unfold queuePut; split
  · simp only [rd_bump, if_neg h]; exact rd_congr rfl id
  · rfl

/-- Raising an event writes no register but its sticky word and EVENT_LOST_COUNT. -/
theorem rd_raise (n a : Nat) (s : State) (id : Nat) (h : id ∉ eventIds n) : rd (raise n a s) id = rd s id := by
  have h1 : id ≠ 0x1304 + n / 32 := by intro e; simp [eventIds, e] at h
  have h2 : id ≠ 0x130D := by intro e; simp [eventIds, e] at h
  unfold raise raiseWith; dsimp only
  (repeat' split) <;> simp [rd_queuePut _ _ _ _ _ h2, rd_sticky, h1]

/-- An event that is raised with the core clock running sets its sticky bit. -/
theorem raise_sticky (n a : Nat) (s : State) (h : s.clk.core = true) :
    flag (raise n a s) (0x1304 + n / 32) (n % 32) = true ∨ 0x1304 + n / 32 = 0x130D := by
  by_cases e : 0x1304 + n / 32 = 0x130D
  · exact .inr e
  · refine .inl ?_
    have : n % 32 < 32 := Nat.mod_lt _ (by decide)
    unfold flag raise raiseWith; dsimp only
    (repeat' split) <;> simp_all [rd_queuePut _ _ _ _ _ e, rd_sticky]

/-- Raising an event leaves clocks, power and everything but registers, the line and the event unit alone. -/
theorem raise_only (n a : Nat) (s : State) : onlyChanges [.line, .ev] (eventIds n).contains s (raise n a s) := by
  refine ⟨by simp, ?_, fun id h => rd_raise n a s id (by simpa using h)⟩
  intro p hp
  cases p <;> simp_all [Part.same]

/-- A queue of at most 256 entries stays so. -/
theorem raiseWith_queue (f : Bool) (n a : Nat) (s : State) (h : queueOk s) : queueOk (raiseWith f n a s) := by
  unfold queueOk at *
  have key : ∀ (x : State) (m : Bool), x.ev.queue = s.ev.queue → (queuePut n a m x).1.ev.queue.length ≤ 256 := by
    intro x m hx; unfold queuePut; split
    · simpa [hx] using h
    · simp; omega
  have hist : ∀ (x : State) (k : HistSlot), (histPut k x).ev.queue = x.ev.queue := by
    intro x k; unfold histPut; split
    · rfl
    · unfold histWrite; split <;> rfl
  unfold raiseWith; dsimp only
  split
  · exact h
  · generalize hq : (if (f && yardFenced s 1) = true then _ else _ : State × Bool) = q
    have hl : q.1.ev.queue.length ≤ 256 := by
      rw [← hq]; split
      · simpa using h
      · exact key _ _ (by rw [noteStick_queue, sticky_ev])
    (repeat' split) <;> simpa [hist] using hl

end Sys2Proof.Machine
end

