-- ==== Sys2Proof/Tests/Slice0.lean ====
section
/-! SUPPORT. The model's own tests: small states, the smoke tests of well-formedness, values that the spec's text gives, and for
each statement with premises a state and operands that meet them (the theorems named meets_). -/
set_option Elab.async false

namespace Sys2Proof
open Machine

/-- A module in RUN: core clock, ticks and beats running, in beat 7 of a run that began at cycle 0. -/
def runState : State :=
  { State.reset with
    clk := ⟨7500000, 75000000 * 2 ^ 32, 7, 7000000, 300, 7500000, true, true, true, 0⟩
    regs := [(0x1004, 2#32)]
    power := { State.reset.power with mode := .run, mains := true, dc := true, dcInUse := true, rtcValid := true } }

/-- A one-bale ECHO request without payload, for lane 2, tag 5. -/
def echoBale : List Byte := baleAt (packetOf 0x0C 2 5 []) 0

/-- A selection of port 0 with its access byte, its grant and the lane of a read. -/
def selected (access : Option Byte) (grant : Option Nat) (lane : Option (Fin 4)) : State :=
  { runState with line := { runState.line with sel := ⟨true, false, access, false, grant, lane, false⟩ } }

/-- A request of port 0, lane 1, tag 7, with request edge 7 600 000. -/
def rq (payload : List Byte) : Req := ⟨⟨0, 1, 7, false, 7600000, none⟩, payload⟩

/-- Bytes of numbers. -/
def bs (l : List Nat) : List Byte := l.map (BitVec.ofNat 8 ·)

/-- The module in RUN, holding the halter. -/
def holder (s : State) : State := { s with twin := { s.twin with holds := true } }

/-- The module with an expert session open on port 0. -/
def expert (s : State) : State := wrFlag s 0x1005 0 true

/-- The invariant holds right after reset, whatever waits. -/
theorem inv_reset (l : List Instr) : Inv { State.reset with pending := l } :=
  ⟨⟨show Regs.wf [] = true by decide, show Regs.wf [] = true by decide⟩, fun _ => rfl, show 0 ≤ 256 by decide⟩

/-- A holder with thruster 0 a tunnel thruster on axis 4, fed back by lane 4. -/
def thrState : State := wrAll (holder runState) [(0x2492, 0x10064#32), (0x2400, 0x3F3F0401#32), (0x5040, 0x3F3F0400#32)]

/-- The holder with a base identifier 0x100 disabled on bus 1 by clashes. -/
def clashState : State :=
  { holder runState with can := vupd runState.can 1 fun u => { u with table := vset u.table 0 (some ⟨0x100, false, true, [3]⟩) } }

/-- The holder with bus 1 enabled. -/
def busState : State := { wr (holder runState) 0x7040 1 with can := vupd runState.can 1 fun u => { u with on := true } }

/-- Not the holder, with both fibre pairs up. -/
def linkState2 : State :=
  { runState with twin := { runState.twin with pairs := Vector.replicate 2 ⟨true, 0, 0, true, false⟩, lp := some 9 } }

/-- The holder, with both pairs up and a partner that is fit to take over. -/
def fitState : State :=
  { linkState2 with twin := { linkState2.twin with
      holds := true, present := true, lc := some 9, partner := some ⟨8, 0, 0, 6, 0xFFFFFFFF, 0xFFFFFFFF, 0, 0⟩ } }

/-- ALLOC_CONFIG basic with the values that the registers hold at reset. -/
def allocPayload : List Byte :=
  bs [0, 0, 0, 100] ++ allocWords.flatMap (fun x => wordBytes (rd State.reset x.1 ||| if x.1 % 4 = 2 then 1 else if 0x2490 < x.1 then 0x10000 else 0)) ++ zeroBytes 8

/-- AXIS_CONFIG expert of axis 4 with the values that the registers hold at reset. -/
def axisPayload : List Byte :=
  bs [4, 0, 0, 0] ++ (List.range 5).flatMap (fun i => wordBytes (rd State.reset (0x5048 + i))) ++ zeroBytes 8 ++
    (List.range 8).flatMap (fun i => wordBytes (rd State.reset (0x5040 + i)))

/-- CAN_CONFIG basic of bus 1. -/
def canPayload : List Byte :=
  bs [1, 5, 0, 0] ++ wordBytes (rd State.reset 0x7044) ++ wordBytes (rd State.reset 0x7045) ++ bs [0, 0, 0, 0]

/-- $HEHDT,90.0,T with its checksum and line end. -/
def hdtLine : List Byte := charBytes (36 :: checked (charsOf "HEHDT,90.0,T") ++ [13, 10])

/-- Source 3 enabled for HDT sentences of RS-422 port 0, which receives. -/
def srcState : State := wrAll runState [(0x2218, 7#32), (0x2219, 0x544448#32), (0x7300, 4#32)]

/-- Source 3 enabled for HDT sentences of Ethernet port 1, on group 2. -/
def srcStateE : State := wrAll runState [(0x2218, 0x117#32), (0x2219, 0x544448#32), (0x7100, 0x40001#32)]

/-- Source 5 enabled for heading frames 0x2A0 of bus 1, which hears. -/
def srcStateC : State :=
  { wrAll runState [(0x2228, 0x127#32), (0x2229, 0x2A0#32)] with
    can := vupd runState.can 1 fun u => { u with on := true, integ := false } }

/-- Source 3 enabled and LIVE for 12 beats, with a loss timeout of 10. -/
def srcStateL : State :=
  { srcState with
    snap := [(0x2218, 7#32), (0x221A, 0xA0000#32)]
    src := vupd srcState.src 3 fun u => { u with on := true, state := 2, age := 12 } }

/-- A confirmed heading track of a source, near the vote for 99 beats. -/
def voteTrack (q : Nat) (out : Bool) : Track :=
  ⟨q, true, out, false, 0, 0, 30, 7, 1, 0, false, ⟨q, 3, f32One, 0, none, f32One, 0, 0, 0, 0, 0, 0, 0, 6999000⟩, some (0, 0), 99, true, false⟩

/-- A track that nothing has reached for 600 beats. -/
def trackOld : Track := { voteTrack 5 false with lastBeat := 2 ^ 32 - 593 }

/-- A module whose track 5 is silent. -/
def trackState : State := { runState with fus := { runState.fus with tracks := vset runState.fus.tracks 5 (some trackOld) } }

/-- Tracks 0 to 2 confirmed, the third of them voted out. -/
def voteTracks : Vector (Option Track) 48 :=
  let l := vset runState.fus.tracks 0 (some (voteTrack 0 false))
  vset (vset l 1 (some (voteTrack 1 false))) 2 (some (voteTrack 2 true))

/-- Three heading tracks of three groups, the third of them voted out. -/
def voteState : State :=
  { runState with
    snap := [(0x2300, 0x07D00040#32), (0x2305, 0x00000210#32)]
    fus := { runState.fus with hdg := true, tracks := voteTracks } }

/-- The same with heading in hold for want of references. -/
def holdState : State :=
  { voteState with fus := { voteState.fus with
      votes := vupd voteState.fus.votes 1 fun v => { v with hold := some .none, timer := 40, lost := true } } }

/-- JOYSTICK with auto heading since beat 3, the joystick never set. -/
def joyState : State :=
  { runState with
    snap := [(0x2000, 0x9#32), (0x2020, 0x447A0000#32), (0x2021, 0x447A0000#32), (0x2022, 0x447A0000#32), (0x2018, 0x00000400#32)]
    ctl := { runState.ctl with mode := 1, auto := true, degr := false, first := 3, autoYaw := false, joyZero := 0 } }

/-- Position and heading held for 30 s. -/
def lostState : State :=
  { holder runState with fus := { runState.fus with
      votes := Vector.replicate 2 { vget runState.fus.votes 0 with hold := some .none, timer := 3000 } } }

/-- All 20 iterations are done. -/
def solvedState : State :=
  { runState with alc := { runState.alc with
      done := 20, prob := some (startProblem runState).1, iter := (startProblem runState).2 } }

/-- A problem that met a detected memory error. -/
def badProblem : AProb := { (startProblem runState).1 with poison := true }

/-- Bus 2 present, its data just run stale. -/
def freshBus : State :=
  { runState with
    snap := [(0x249A, 0x10001#32)]
    alc := { runState.alc with bus := vupd runState.alc.bus 2 fun u => { u with stale := false } } }

/-- $PTBMP,2,350,,,A with its checksum and line end. -/
def ptbmpLine : List Byte := charBytes (36 :: checked (charsOf "PTBMP,2,350,,,A") ++ [13, 10])

/-- An exchange message of unit 1 for a beat, with FLAGS as its state gives them. -/
def exchangeMsg (s : State) : List Byte :=
  let b := exchangeBody (wr s 0x1003 1) false none (some 9) 1 2
  b ++ leBytes 4 (crc32 b)

/-- The holder of the beat, which has offered the halter and sent the lease 10. -/
def offeredState : State :=
  { linkState2 with twin := { linkState2.twin with
      holds := true, heldBeat := true, lc := some 9, sentLease := some 10, handover := .offered 7 } }

/-- The partner's acknowledgment of beat 7 with lease 10, both images good, the offer accepted. -/
def ackMsg : List Byte :=
  let b := bs [2, 15, 0, 0] ++ leBytes 4 7 ++ leBytes 4 10
  b ++ leBytes 4 (crc32 b)

/-- A unit whose partner held in this beat and whose mirror is due. -/
def mirrorState : State :=
  { linkState2 with
    clk := { linkState2.clk with cycle := 7700000 }
    twin := { linkState2.twin with
      mirrorDue := true, partner := some ⟨2, 0, 3, 7, 9, 0xFFFFFFFF, 0, 0⟩ } }

/-- The mirror of a partner in POSITION with a held result of beat 7. -/
def mirrorRx : MirrorRx :=
  ⟨mirrorImage { wr runState 0x2000 3 with alc := { runState.alc with res := { AResult.null with beat := 7 } } }, true, true⟩

/-- The heartbeat of a unit 1 that holds, of beat 6, on bus 1. -/
def hbFrame : CanFrame :=
  let b := bs [1, 3, 0, 0, 6, 0, 0, 0, 9, 0, 0, 0, 0, 0]
  ⟨((rd State.reset 0x7045).toNat + 1 : Nat), false, true, false, b ++ leBytes 2 (frameCrc b)⟩

/-- Bus 1 hears and takes heartbeats. -/
def hbState : State :=
  { wrFlag linkState2 0x7040 14 true with
    can := vupd linkState2.can 1 fun u => { u with on := true, integ := false } }

/-- A queued frame of CAN_SEND. -/
def sendEntry : TxEntry := ⟨.send, 0x123, false, true, false, false, [1, 2], none⟩

/-- Bus 1 enabled and joined, with one frame to send. -/
def txState : State :=
  { runState with can := vupd runState.can 1 fun u => { u with on := true, integ := false, queue := [sendEntry], tec := 16 } }

/-- A time slot's run of 10 s that ended within 50 µs, the slot LOCKED. -/
def slotState (st : Nat) : State :=
  { runState with
    clk := { runState.clk with cycle := 1002000000 }
    time := { runState.time with slot := vupd runState.time.slot 1 fun x =>
      { x with state := st, since := 5000, run := some ⟨2000000, 100, 1001000000, 300⟩ } } }

/-- PTP on slot 1 through Ethernet port 0. -/
def ptpState : State := wrAll runState [(0x7100, 1#32), (0x7220, 1#32)]

/-- An Announce of domain 0 with the UTC offset 37. -/
def annMsg : AnnounceMsg := ⟨5, 1, 0, 0, 128, 6, 0x21, 0x4E5D, 128, 9, 0, 37, true, false, false, 0, true⟩

/-- The transmitter of that Announce, heard twice. -/
def heard : Foreign := ⟨annMsg, 0, 7400000, some 7300000⟩

/-- The slot follows it. -/
def parentState : State :=
  { ptpState with time := { ptpState.time with slot := vupd ptpState.time.slot 1 fun x =>
      { x with parent := some heard, foreign := [heard], reqBeat := some 7 } } }

/-- A Sync of the parent. -/
def syncMsg : PtpMsg := ⟨5, 1, 0, 0, 77, true, 75000000, 0, 7599000, true, 0, true⟩

/-- A host that sends a ping through port 0. -/
def pingPeer : Peer := ⟨0, 0xC0A80001, 5, 1000, 0xB3E0⟩

/-- The baseband has started, antennas A and B enabled. -/
def gnssState : State := { wr runState 0x4000 3 with gnss := { runState.gnss with startAt := some 5000 } }

/-- Channel 2 in a state, with PRN 9. -/
def setChan (n st : Nat) : State :=
  updChanN n (fun g => { g with prn := 9, state := st, dop := 700, goodMs := 99, badMs := 20, signal := 7000000 }) gnssState

/-- Ten words of a subframe 4 with TOW 5 and a page of no known satellite, with their parity. -/
def goodSubframe : List Word := [0x22C00012, 0xA43C, 0xFC00028, 0, 0, 0, 0, 0, 0, 0]

/-- Channels 0 to 3 are READY for satellites 1 to 4, after a tick; source 0 is enabled, and no check flags fixes. -/
def epochState : State :=
  let s : State := wr (wr (wr gnssState 0x4003 0x0A0A) 0x4007 0) (srcId 0 0) 1
  let one (n : Fin 48) (v : Vector GChan 48) : Vector GChan 48 :=
    vset v n { GChan.idle with prn := n.val + 1, state := 6, cn0 := 80, elev := some 40, inEpoch := true }
  { s with gnss := { s.gnss with tick := some 7500000, tickDue := true, cfg := { s.gnss.cfg with spoof := false }, ch := one 0 (one 1 (one 2 (one 3 s.gnss.ch))) } }

/-- An axis in a state. -/
def axAt (st : Nat) : AxisUnit := { AxisUnit.off with state := st }

/-- A state with that axis 4. -/
def withAxis (x : AxisUnit) (s : State) : State := { s with servo := { s.servo with axes := vset s.servo.axes 4 x } }

/-- The holder of the beat. -/
def holds (s : State) : State := { s with twin := { s.twin with heldBeat := true, holds := true } }

/-- The holder in RUN with axis 4 in a state. -/
def axState (st : Nat) : State := withAxis (axAt st) (holds runState)

/-- A unit that is not the holder, its link up, with that axis 4. -/
def followState (x : AxisUnit) : State := withAxis x linkState2

/-- What a good bank brings. -/
def bankIn : BankIn := ⟨true, 5, true, 0, 0, false, 2400, 900, false, false, false⟩

/-- Good frames of both banks. -/
def tickIn : TickIn := ⟨bankIn, { bankIn with volts := 2390 }⟩

/-- Sixteen ones and sixteen zeros of every modulator. -/
def sincIn : SincIn := ⟨Vector.replicate 48 0xFFFF#32, true, true⟩

/-- The sixteenth segment is due, lane 7 in the midst of a tick. -/
def sincState : State := { runState with filt := { runState.filt with seg := 15, lanes := vupd runState.filt.lanes 7 fun u => { u with sum := 100 } } }

/-- A handshake message of unit 1, cold, 100 000 000 cycles before its edge. -/
def handMsg : List Byte :=
  let b := bs [3, 3, 2, 3] ++ leBytes 4 100000000 ++ leBytes 4 0
  b ++ leBytes 4 (crc32 b)

/-! ### Values that the spec's text gives -/

/-- 03 R89: HCRC of the nine digits. -/
theorem test_crc8_digits : crc8 ("123456789".toList.map fun c => BitVec.ofNat 8 c.toNat) = 0xF4 := by decide +kernel

/-- 03 R89: the CRC-32 of the nine digits. -/
theorem test_crc32_digits : crc32 ("123456789".toList.map fun c => BitVec.ofNat 8 c.toNat) = 0xCBF43926 := by decide +kernel

/-- 13 R397: the frame CRC of the nine digits. -/
theorem test_crc16_digits : crc16 ("123456789".toList.map fun c => BitVec.ofNat 8 c.toNat) = 0x29B1 := by decide +kernel

/-- 12 R359 and its worked example: the cycles of eight sinc outputs. -/
theorem test_sinc_cycles : [9, 3, 13, 7, 1, 11, 5, 15].map sincCycle =
    [14425, 5050, 20675, 11300, 1925, 17550, 8175, 23800] := by decide

/-- Tick 4 000 000, begun at cycle 0. -/
def tickState : State := { runState with clk := ⟨20000, 20000 * 2 ^ 32, 100000, 0, 4000000, 0, true, true, true, 0⟩ }

/-- 12's worked example: a sync edge on cycle 20 001 makes window 4 000 001 the origin. -/
theorem test_sync_origin_early : originOfEdge tickState 20001 = 4000001 := by decide

/-- 12's worked example: a sync edge on cycle 23 901 makes window 4 000 002 the origin. -/
theorem test_sync_origin_late : originOfEdge tickState 23901 = 4000002 := by decide

/-! ### binary32, values of IEEE 754-2019 -/

/-- 0.1 + 0.2, rounded. -/
theorem test_f32_add : f32Add 0x3DCCCCCD 0x3E4CCCCD = 0x3E99999A := by decide +kernel

/-- A difference of equal numbers is +0. -/
theorem test_f32_sub_zero : f32Sub 0x3F800000 0x3F800000 = 0 := by decide +kernel

/-- 1/3, rounded up. -/
theorem test_f32_div : f32Div 0x3F800000 0x40400000 = 0x3EAAAAAB := by decide +kernel

/-- The square root of 2. -/
theorem test_f32_sqrt : f32Sqrt 0x40000000 = 0x3FB504F3 := by decide +kernel

/-- The largest number doubled overflows. -/
theorem test_f32_overflow : f32Mul 0x7F7FFFFF 0x40000000 = 0x7F800000 := by decide +kernel

/-! ### Well-formedness -/

/-- A bale of 63 bytes cannot cross (03 R84). -/
theorem test_short_bale_refused : (Instr.baleWrite 0 (List.replicate 63 0)).wellFormed = false := by decide

/-- A short bale faults by name. -/
theorem test_short_bale_faults : exec (.baleWrite 0 (List.replicate 63 0)) State.reset = .fault .illFormed := rfl

/-- A subframe of nine words cannot arrive (07 R211). -/
theorem test_short_subframe_refused : (Instr.subframeReceived 0 0 (List.replicate 9 0)).wellFormed = false := by decide

/-- A base identifier has 11 bits (13 R380). -/
theorem test_long_base_id_refused : (CanFrame.mk 0x800 false false false []).wellFormed = false := by decide

/-- Classic data has at most 8 bytes. -/
theorem test_long_classic_refused : (CanFrame.mk 0x100 false false false (List.replicate 9 0)).wellFormed = false := by
  decide

/-- No DLC names nine FD bytes. -/
theorem test_fd_nine_refused : (CanFrame.mk 0x100 false true false (List.replicate 9 0)).wellFormed = false := by decide

/-- A remote frame is not an FD frame. -/
theorem test_fd_remote_refused : (CanFrame.mk 0x100 false true true []).wellFormed = false := by decide

/-! ### 04's worked example: a parameter write across the session boundary -/

/-- A request on lane 1 of port 0 with its edge at a cycle. -/
def rqAt (edge : Nat) (p : List Byte) : Req := ⟨⟨0, 1, 7, false, edge, none⟩, p⟩

/-- The reply head of the first reply in outbox lane 1. -/
def firstHead (s : State) : List Nat :=
  match vget (vget s.host 0).outbox 1 with
  | b :: _ => ((b.bytes.drop 8).take 4).map (·.toNat)
  | [] => []

/-- Requests 1 and 3 of the example. -/
def gapAndSkew : List Byte := bs [2, 0, 0, 0, 0x03, 0x12, 20, 0, 0, 0, 0x05, 0x11, 16, 0, 0, 0]

/-- Request 4 of the example. -/
def badGapAndSkew : List Byte := bs [2, 0, 0, 0, 0x03, 0x12, 0, 0, 0, 0, 0x05, 0x11, 80, 0, 0, 0]

/-- Request 1: no session, so the lower identifier is refused and nothing is written. -/
theorem test_write_without_session :
    (let t := serve opParamWrite (rqAt 7600000 gapAndSkew) (holder runState)
     (firstHead t, rd t 0x1203, rd t 0x1105 == rd runState 0x1105)) = ([0x24, 0, 0x05, 0x11], 10#32, true) := by decide +kernel

/-- Request 2: the stored code opens the session. -/
theorem test_open_session :
    (let t := serve opExpertOpen (rqAt 7600000 (bs [0x31, 0x5C, 0, 0]))
       { holder runState with nv := { runState.nv with code := 0x5C31 } }
     (firstHead t, sessionOpen t 0)) = ([0, 0, 0, 0], true) := by decide +kernel

/-- Request 3: in the session both values are written. -/
theorem test_write_in_session :
    (let t := serve opParamWrite (rqAt 7600000 gapAndSkew) (expert (holder runState))
     (firstHead t, rd t 0x1203, rd t 0x1105)) = ([0, 0, 0, 0], 20#32, 16#32) := by decide +kernel

/-- Request 4: of two values out of range the lower identifier is named. -/
theorem test_write_out_of_range :
    firstHead (serve opParamWrite (rqAt 7600000 badGapAndSkew) (expert (holder runState))) = [0x23, 0, 0x05, 0x11] := by
  decide +kernel

/-! ### Every premise can be met -/

theorem meets_EmptyQueueIdles_1 : (State.reset : State).pending = [] := by decide +kernel

theorem meets_WellFormedNeverStops_1 : (.baleWrite 0 (zeroBytes 64) : Instr).wellFormed = true := by decide +kernel

theorem meets_IllFormedStops_1 : ([] : List Byte).length ≠ 64 := by decide +kernel
theorem meets_IllFormedStops_2 : ([] : List Word).length ≠ 10 := by decide +kernel

theorem meets_InvEveryStep_1 : Inv ({ State.reset with pending := [.hselNFall 3] } : State) ∧
    (∃ t, step ({ State.reset with pending := [.hselNFall 3] } : State) = .next t) := ⟨inv_reset _, ⟨_, rfl⟩⟩

theorem meets_HostSelection_2 : (selected none none none : State).line.sel.sel = true ∧
    (selected none none none : State).line.sel.ignored = false ∧
    (selected none none none : State).line.sel.invalid = false ∧ (selected none none none : State).line.sel.access = none ∧
    (selected none none none : State).line.sel.grant = none ∧ accessInvalid (0x42#8 : Byte) = false ∧
    (0x42#8 : Byte).getLsbD 7 = false ∧ 1 ≤ inRoom (selected none none none : State) 0 (accessLane (0x42#8 : Byte))
    := by decide +kernel
theorem meets_HostSelection_3 : (selected none none none : State).line.sel.sel = true ∧
    (selected none none none : State).line.sel.ignored = false ∧ (selected none none none : State).line.sel.access = none ∧
    accessInvalid (0x04#8 : Byte) = true := by decide +kernel
theorem meets_HostSelection_4 : (selected (some 0x42#8) none none : State).line.sel.sel = true ∧
    (selected (some 0x42#8) none none : State).line.sel.ignored = false ∧
    (selected (some 0x42#8) none none : State).line.sel.invalid = false ∧
    (selected (some 0x42#8) none none : State).line.sel.access = some (0x42#8 : Byte) ∧
    (selected (some 0x42#8) none none : State).line.sel.grant = none ∧ (0x42#8 : Byte).getLsbD 7 = false ∧
    1 ≤ inRoom (selected (some 0x42#8) none none : State) 0 (accessLane (0x42#8 : Byte)) := by decide +kernel
theorem meets_HostSelection_5 : (selected (some 0x42#8) (some 7550000) none : State).line.sel.sel = true
    := by decide +kernel

theorem meets_HostBalesAndPulses_1 : (zeroBytes 64 : List Byte).length = 64 ∧
    (selected (some 0x42#8) (some 7550000) none : State).line.sel.sel = true ∧
    (selected (some 0x42#8) (some 7550000) none : State).line.sel.ignored = false ∧
    (selected (some 0x42#8) (some 7550000) none : State).line.sel.moved = false ∧
    (selected (some 0x42#8) (some 7550000) none : State).line.sel.access = some (0x42#8 : Byte) ∧
    (0x42#8 : Byte).getLsbD 7 = false ∧ (selected (some 0x42#8) (some 7550000) none : State).line.sel.grant.isSome = true
    := by decide +kernel
theorem meets_HostBalesAndPulses_2 : (zeroBytes 64 : List Byte).length = 64 ∧
    (selected (some 0x42#8) none none : State).line.sel.sel = true ∧
    (selected (some 0x42#8) none none : State).line.sel.ignored = false ∧
    (selected (some 0x42#8) none none : State).line.sel.moved = false ∧
    (selected (some 0x42#8) none none : State).line.sel.access = some (0x42#8 : Byte) ∧ (0x42#8 : Byte).getLsbD 7 = false ∧
    (selected (some 0x42#8) none none : State).line.sel.grant = none := by decide +kernel
theorem meets_HostBalesAndPulses_3 :
({ selected (some 0x82#8) (some 7550000) (some 2) with host := (updPort 0 (fun q => { q with outbox := vset q.outbox 2 [⟨0, true, []⟩, ⟨0, false, []⟩] }) runState).host }
        : State).line.sel.sel = true ∧
({ selected (some 0x82#8) (some 7550000) (some 2) with host := (updPort 0 (fun q => { q with outbox := vset q.outbox 2 [⟨0, true, []⟩, ⟨0, false, []⟩] }) runState).host }
        : State).line.sel.grant.isSome = true ∧
({ selected (some 0x82#8) (some 7550000) (some 2) with host := (updPort 0 (fun q => { q with outbox := vset q.outbox 2 [⟨0, true, []⟩, ⟨0, false, []⟩] }) runState).host }
        : State).line.sel.moved = false ∧
({ selected (some 0x82#8) (some 7550000) (some 2) with host := (updPort 0 (fun q => { q with outbox := vset q.outbox 2 [⟨0, true, []⟩, ⟨0, false, []⟩] }) runState).host }
        : State).line.sel.access = some (0x82#8 : Byte) ∧
    (0x82#8 : Byte).getLsbD 7 = true ∧
({ selected (some 0x82#8) (some 7550000) (some 2) with host := (updPort 0 (fun q => { q with outbox := vset q.outbox 2 [⟨0, true, []⟩, ⟨0, false, []⟩] }) runState).host }
        : State).line.sel.lane = some (2 : Fin 4) ∧
    vget (vget
        ({ selected (some 0x82#8) (some 7550000) (some 2) with host := (updPort 0 (fun q => { q with outbox := vset q.outbox 2 [⟨0, true, []⟩, ⟨0, false, []⟩] }) runState).host }
        : State).host 0).outbox (2 : Fin 4) = (⟨0, true, []⟩ : OutBale) :: ([⟨0, false, []⟩] : List OutBale)
    := by decide +kernel
theorem meets_HostBalesAndPulses_4 : (7500040 : Nat) ∈ (raise 16 0 runState : State).line.due ∧
    attentionWaits (advance (7600000 : Nat) (raise 16 0 runState : State)) = true ∧
    (7500040 : Nat) ≤ (advance (7600000 : Nat) (raise 16 0 runState : State)).clk.cycle ∧
    (raise 16 0 runState : State).line.nextPulse ≤ (advance (7600000 : Nat) (raise 16 0 runState : State)).clk.cycle ∧
    (raise 16 0 runState : State).line.sel.sel = false ∧ (raise 16 0 runState : State).line.pulseEnd = none ∧
    portReady (advance (7600000 : Nat) (raise 16 0 runState : State)) = true := by decide +kernel
theorem meets_HostBalesAndPulses_5 :
    ({ runState with line := { runState.line with pulseEnd := some 7600100 } } : State).line.pulseEnd = some (7600100 : Nat) ∧
    ({ runState with line := { runState.line with pulseEnd := some 7600100 } } : State).line.sel.sel = false
    := by decide +kernel

theorem meets_CommandEngine_1 :
    (vget (updPort 0 (fun q => { q with inbox := vset q.inbox 2 [⟨true, 7599990, echoBale, none, none⟩] }) runState :
        State).host (0 : Fin 2)).engine.draining = none ∧
    (vget (updPort 0 (fun q => { q with inbox := vset q.inbox 2 [⟨true, 7599990, echoBale, none, none⟩] }) runState :
        State).host (0 : Fin 2)).engine.packet = none ∧
    (vget (updPort 0 (fun q => { q with inbox := vset q.inbox 2 [⟨true, 7599990, echoBale, none, none⟩] }) runState :
        State).host (0 : Fin 2)).engine.request = none ∧
    (vget (updPort 0 (fun q => { q with inbox := vset q.inbox 2 [⟨true, 7599990, echoBale, none, none⟩] }) runState :
        State).host (0 : Fin 2)).engine.rest = none ∧
    (vget (updPort 0 (fun q => { q with inbox := vset q.inbox 2 [⟨true, 7599990, echoBale, none, none⟩] }) runState :
        State).host (0 : Fin 2)).engine.freeAt ≤ (advance (7600000 : Nat) (updPort 0 (fun q =>
        { q with inbox := vset q.inbox 2 [⟨true, 7599990, echoBale, none, none⟩] }) runState : State)).clk.cycle ∧
    dispatchLane (updPort 0 (fun q => { q with inbox := vset q.inbox 2 [⟨true, 7599990, echoBale, none, none⟩] }) runState :
        State) (0 : Fin 2) = some (2 : Fin 4) ∧
    vget (vget (updPort 0 (fun q => { q with inbox := vset q.inbox 2 [⟨true, 7599990, echoBale, none, none⟩] }) runState :
        State).host (0 : Fin 2)).inbox (2 : Fin 4) = (⟨true, 7599990, echoBale, none, none⟩ : InBale) :: ([] : List InBale)
    := by decide +kernel
theorem meets_CommandEngine_2 :
    (vget (updPort 0 (fun q =>
        { q with inbox := vset q.inbox 2 [⟨true, 7599990, echoBale, none, none⟩], engine := { q.engine with draining := some ⟨2, ⟨true, 7599990, echoBale, none, none⟩, 7600000, false⟩ } })
        runState : State).host (0 : Fin 2)).engine.draining = some (⟨2, ⟨true, 7599990, echoBale, none, none⟩, 7600000,
        false⟩ : Draining) ∧
    (vget (updPort 0 (fun q =>
        { q with inbox := vset q.inbox 2 [⟨true, 7599990, echoBale, none, none⟩], engine := { q.engine with draining := some ⟨2, ⟨true, 7599990, echoBale, none, none⟩, 7600000, false⟩ } })
        runState : State).host (0 : Fin 2)).engine.packet = none ∧
    (⟨2, ⟨true, 7599990, echoBale, none, none⟩, 7600000, false⟩ : Draining).stray = false ∧
    headerFault (⟨2, ⟨true, 7599990, echoBale, none, none⟩, 7600000, false⟩ : Draining).lane (⟨2, ⟨true, 7599990, echoBale,
        none, none⟩, 7600000, false⟩ : Draining).bale.bytes = none ∧
    (⟨2, ⟨true, 7599990, echoBale, none, none⟩, 7600000, false⟩ : Draining).bale.dgram = none ∧
    12 + (leAt (⟨2, ⟨true, 7599990, echoBale, none, none⟩, 7600000, false⟩ : Draining).bale.bytes 4 2) ≤ 64 ∧
    crc32 ((⟨2, ⟨true, 7599990, echoBale, none, none⟩, 7600000, false⟩ : Draining).bale.bytes.take (8 + (leAt (⟨2, ⟨true,
        7599990, echoBale, none, none⟩, 7600000, false⟩ : Draining).bale.bytes 4 2))) = leAt (⟨2, ⟨true, 7599990, echoBale,
        none, none⟩, 7600000, false⟩ : Draining).bale.bytes (8 + (leAt (⟨2, ⟨true, 7599990, echoBale, none, none⟩, 7600000,
        false⟩ : Draining).bale.bytes 4 2)) 4 ∧
    (opRow (byteAt (⟨2, ⟨true, 7599990, echoBale, none, none⟩, 7600000, false⟩ : Draining).bale.bytes 1)).isSome = true ∧
    byteAt (⟨2, ⟨true, 7599990, echoBale, none, none⟩, 7600000, false⟩ : Draining).bale.bytes 2 / 4 % 2 = (byteAt (⟨2,
        ⟨true, 7599990, echoBale, none, none⟩, 7600000, false⟩ : Draining).bale.bytes 1) % 2
    := by decide +kernel
theorem meets_CommandEngine_3 :
    (vget (updEngine 0 (fun e => { e with packet := some ⟨2, echoBale, 1, 3, 7000000, none⟩ }) runState : State).host (0 :
        Fin 2)).engine.packet = some (⟨2, echoBale, 1, 3, 7000000, none⟩ : OpenPacket) ∧
    (⟨2, echoBale, 1, 3, 7000000, none⟩ : OpenPacket).bales + (waitingBales (vget (vget (updEngine 0 (fun e =>
        { e with packet := some ⟨2, echoBale, 1, 3, 7000000, none⟩ }) runState : State).host (0 : Fin 2)).inbox (⟨2,
        echoBale, 1, 3, 7000000, none⟩ : OpenPacket).lane)).length < (⟨2, echoBale, 1, 3, 7000000, none⟩ : OpenPacket).need
    := by decide +kernel
theorem meets_CommandEngine_4 :
    (vget (updEngine 0 (fun e => { e with rest := some ⟨1, [⟨0, true, echoBale⟩], 7500000, none, []⟩ }) runState :
        State).host 0).engine.rest = some (⟨1, [⟨0, true, echoBale⟩], 7500000, none, []⟩ : ReplyRest) ∧
    (⟨1, [⟨0, true, echoBale⟩], 7500000, none, []⟩ : ReplyRest).bales = (⟨0, true, echoBale⟩ : OutBale) :: ([] : List OutBale) ∧
    (⟨1, [⟨0, true, echoBale⟩], 7500000, none, []⟩ : ReplyRest).nextAt ≤ (advance (7600000 : Nat) (updEngine 0 (fun e =>
        { e with rest := some ⟨1, [⟨0, true, echoBale⟩], 7500000, none, []⟩ }) runState : State)).clk.cycle ∧
    1 ≤ outRoom (updEngine 0 (fun e => { e with rest := some ⟨1, [⟨0, true, echoBale⟩], 7500000, none, []⟩ }) runState :
        State) 0 (⟨1, [⟨0, true, echoBale⟩], 7500000, none, []⟩ : ReplyRest).lane
    := by decide +kernel
theorem meets_CommandEngine_5 : port1Up (advance (7600000 : Nat) (runState : State)) = true ∧
    (⟨⟨0, 1, 2, 3, 0xB3E0⟩, 9, 0, false, echoBale.take 12⟩ : Datagram).peer.dst.toNat = fld (runState : State) 0x1219 15 0 ∧
    (⟨⟨0, 1, 2, 3, 0xB3E0⟩, 9, 0, false, echoBale.take 12⟩ : Datagram).more = false ∧
    (⟨⟨0, 1, 2, 3, 0xB3E0⟩, 9, 0, false, echoBale.take 12⟩ : Datagram).offset = 0 ∧ rd (runState : State) 0x121A = 0 ∧
    12 ≤ (⟨⟨0, 1, 2, 3, 0xB3E0⟩, 9, 0, false, echoBale.take 12⟩ : Datagram).bytes.length ∧
    (⟨⟨0, 1, 2, 3, 0xB3E0⟩, 9, 0, false, echoBale.take 12⟩ : Datagram).bytes.length ≤ 64 ∧
    (2 : Fin 4).val = byteAt (⟨⟨0, 1, 2, 3, 0xB3E0⟩, 9, 0, false, echoBale.take 12⟩ : Datagram).bytes 2 % 4 ∧
    1 ≤ inRoom (runState : State) 1 (2 : Fin 4) := by decide +kernel
theorem meets_CommandEngine_6 :
    (vget (updPort 1 (fun q => { q with frags := [⟨⟨0, 1, 2, 3, 0xB3E0⟩, 9, 7600000, []⟩] }) runState : State).host 1).frags
        = [(⟨⟨0, 1, 2, 3, 0xB3E0⟩, 9, 7600000, []⟩ : FragSet)] ∧
    (⟨⟨0, 1, 2, 3, 0xB3E0⟩, 9, 7600000, []⟩ : FragSet).since + 1000000 ≤ (advance (9000000 : Nat) (updPort 1 (fun q =>
        { q with frags := [⟨⟨0, 1, 2, 3, 0xB3E0⟩, 9, 7600000, []⟩] }) runState : State)).clk.cycle
    := by decide +kernel

theorem meets_HostPortFrame_1 : familyOf (.hselNFall 7600000 : Instr) = .hostPort ∧
    (∃ t, exec (.hselNFall 7600000 : Instr) (runState : State) = .next t) := ⟨by decide +kernel, ⟨_, rfl⟩⟩

theorem meets_RequestInBringUp_1 : requestOf (.echo (rq []) : Instr) = some ((opEcho : OpSpec), (rq [] : Req)) ∧
    ({ runState with power := { runState.power with mode := .bringUp } } : State).power.mode = .bringUp ∧
    (opEcho : OpSpec).code ≠ 0x00 ∧ (opEcho : OpSpec).code ≠ 0x02 ∧ (opEcho : OpSpec).code ≠ 0x04
    := ⟨rfl, by decide +kernel, by decide +kernel, by decide +kernel, by decide +kernel⟩

theorem meets_RefusedRequest_1 :
    requestOf (.timeDomainSelect (rq (bs [5, 0, 0, 0])) : Instr) = some ((opTimeDomainSelect : OpSpec), (rq (bs [5, 0, 0,
        0]) : Req)) ∧
    readyFor (runState : State) (rq (bs [5, 0, 0, 0]) : Req).head.port (opTimeDomainSelect : OpSpec).code = some true ∧
    refusal (opTimeDomainSelect : OpSpec) (rq (bs [5, 0, 0, 0]) : Req) (atCommit (opTimeDomainSelect : OpSpec) (rq (bs [5,
        0, 0, 0]) : Req) (runState : State)) = some ((0x23, 0) : Nat × Nat) ∧
    (∃ t, exec (.timeDomainSelect (rq (bs [5, 0, 0, 0])) : Instr) (runState : State) = .next t)
    := ⟨rfl, by decide +kernel, by decide +kernel, ⟨_, rfl⟩⟩

theorem meets_ServedRequest_1 : requestOf (.echo (rq []) : Instr) = some ((opEcho : OpSpec), (rq [] : Req)) ∧
    served (opEcho : OpSpec) (rq [] : Req) (runState : State) = true := ⟨rfl, by decide +kernel⟩
theorem meets_ServedRequest_2 :
    requestOf (.timeDomainSelect (rq (bs [0, 0, 0, 0])) : Instr) = some ((opTimeDomainSelect : OpSpec), (rq (bs [0, 0, 0,
        0]) : Req)) ∧
    readyFor ({ runState with arb := ⟨7601600, [⟨4, 1, [0x7200]⟩], [], none⟩ } : State) (rq (bs [0, 0, 0, 0]) :
        Req).head.port (opTimeDomainSelect : OpSpec).code = some true ∧
    refusal (opTimeDomainSelect : OpSpec) (rq (bs [0, 0, 0, 0]) : Req) (atCommit (opTimeDomainSelect : OpSpec) (rq (bs [0,
        0, 0, 0]) : Req) ({ runState with arb := ⟨7601600, [⟨4, 1, [0x7200]⟩], [], none⟩ } : State)) = none ∧
    arbitrate (hostClass (atCommit (opTimeDomainSelect : OpSpec) (rq (bs [0, 0, 0, 0]) : Req)
        ({ runState with arb := ⟨7601600, [⟨4, 1, [0x7200]⟩], [], none⟩ } : State)) (rq (bs [0, 0, 0, 0]) : Req).head.port)
        (rq (bs [0, 0, 0, 0]) : Req).head.port.val (commitTargets (opTimeDomainSelect : OpSpec) (rq (bs [0, 0, 0, 0]) :
        Req).payload (atCommit (opTimeDomainSelect : OpSpec) (rq (bs [0, 0, 0, 0]) : Req)
        ({ runState with arb := ⟨7601600, [⟨4, 1, [0x7200]⟩], [], none⟩ } : State))) (atCommit (opTimeDomainSelect : OpSpec)
        (rq (bs [0, 0, 0, 0]) : Req) ({ runState with arb := ⟨7601600, [⟨4, 1, [0x7200]⟩], [], none⟩ } : State)) = none
    := ⟨rfl, by decide +kernel, by decide +kernel, by decide +kernel⟩

theorem meets_EchoReturnsPayload_1 : served opEcho (rq (bs [1, 2, 3]) : Req) (runState : State) = true
    := by decide +kernel

theorem meets_ReadsAnswer_1 : served opIdent (rq ([]) : Req) (runState : State) = true := by decide +kernel
theorem meets_ReadsAnswer_2 : served opStatus (rq ([]) : Req) (runState : State) = true := by decide +kernel
theorem meets_ReadsAnswer_3 : served opParamDescribe (rq (bs [4, 0x10, 0, 0]) : Req) (runState : State) = true
    := by decide +kernel
theorem meets_ReadsAnswer_4 : served opConfigFileStatus (rq ([]) : Req) (runState : State) = true := by decide +kernel
theorem meets_ReadsAnswer_5 : served opTrackListRead (rq ([]) : Req) (runState : State) = true := by decide +kernel
theorem meets_ReadsAnswer_6 : served opAllocResultRead (rq ([]) : Req) (runState : State) = true := by decide +kernel
theorem meets_ReadsAnswer_7 : served opAxisStatusRead (rq (bs [3, 0, 0, 0]) : Req) (runState : State) = true
    := by decide +kernel
theorem meets_ReadsAnswer_8 : served opChannelRead (rq (bs [3, 0, 0, 0]) : Req) (runState : State) = true
    := by decide +kernel
theorem meets_ReadsAnswer_9 : served opBankStatusRead (rq (bs [1, 0, 0, 0]) : Req) (runState : State) = true
    := by decide +kernel

theorem meets_ReadsAnswerMore_1 : served opTimeRead (rq ([]) : Req) (runState : State) = true := by decide +kernel
theorem meets_ReadsAnswerMore_2 : served opGnssStatusRead (rq (bs [1, 0, 0, 0]) : Req) (runState : State) = true
    := by decide +kernel
theorem meets_ReadsAnswerMore_3 : served opTwinStatusRead (rq ([]) : Req) (runState : State) = true := by decide +kernel
theorem meets_ReadsAnswerMore_4 : served opPowerStatusRead (rq [] : Req) (runState : State) = true := by decide +kernel
theorem meets_ReadsAnswerMore_5 :
    served opEventsRead (rq (bs [2, 0, 0, 0]) : Req) (raise 3 4 (raise 2 3 (raise 1 2 runState)) : State) = true ∧
    byteAt (rq (bs [2, 0, 0, 0]) : Req).payload 1 = 0 := by decide +kernel
theorem meets_ReadsAnswerMore_6 :
    served opEventsRead (rq (bs [2, 1, 0, 0]) : Req) (raise 3 4 (raise 2 3 (raise 1 2 runState)) : State) = true ∧
    byteAt (rq (bs [2, 1, 0, 0]) : Req).payload 1 = 1 := by decide +kernel
theorem meets_ReadsAnswerMore_7 :
    served opCanStatusRead (rq (bs [2, 1, 0, 0]) : Req) (wrAll runState [(canId 2 0x20, 5), (canId 2 0x25, 6)] : State) = true ∧
    byteAt (rq (bs [2, 1, 0, 0]) : Req).payload 1 = 1 := by decide +kernel
theorem meets_ReadsAnswerMore_8 : served opRefStatusRead (rq (bs [5, 1, 0, 0]) : Req) (runState : State) = true ∧
    byteAt (rq (bs [5, 1, 0, 0]) : Req).payload 1 = 1 := by decide +kernel
theorem meets_ReadsAnswerMore_9 :
    served (opParamRead []) (rq (bs [2, 0, 0, 0, 4, 0x10, 5, 0x10]) : Req) (runState : State) = true := by decide +kernel

theorem meets_ExpertSessions_1 :
    served opExpertOpen (rq (bs [0, 0, 0, 0]) : Req) (wrFld runState 0x1005 9 8 2 : State) = true ∧
    (vget (wrFld runState 0x1005 9 8 2 : State).session (rq (bs [0, 0, 0, 0]) : Req).head.port).lockEnd = none ∧
    leAt (rq (bs [0, 0, 0, 0]) : Req).payload 0 2 = (wrFld runState 0x1005 9 8 2 : State).nv.code.toNat := by decide +kernel
theorem meets_ExpertSessions_2 :
    served opExpertOpen (rq (bs [9, 0, 0, 0]) : Req) (wrFld runState 0x1005 9 8 2 : State) = true ∧
    (vget (wrFld runState 0x1005 9 8 2 : State).session (rq (bs [9, 0, 0, 0]) : Req).head.port).lockEnd = none ∧
    leAt (rq (bs [9, 0, 0, 0]) : Req).payload 0 2 ≠ (wrFld runState 0x1005 9 8 2 : State).nv.code.toNat := by decide +kernel
theorem meets_ExpertSessions_3 : served opExpertClose (rq [] : Req) (expert runState : State) = true
    := by decide +kernel
theorem meets_ExpertSessions_4 : served opExpertCodeSet (rq (bs [9, 1, 0, 0]) : Req) (expert runState : State) = true
    := by decide +kernel
theorem meets_ExpertSessions_5 : sessionOpen (expert (wr runState 0x1006 300) : State) (0 : Fin 2) = true ∧
    fld (expert (wr runState 0x1006 300) : State) 0x1006 15 0 ≠ 0 := by decide +kernel
theorem meets_ExpertSessions_6 :
    (vget ({ wrFld runState 0x1005 11 10 3 with session := vset runState.session 1 ⟨0, some 8000000, 0, false⟩ } :
        State).session (1 : Fin 2)).lockEnd = some (8000000 : Nat)
    := by decide +kernel

theorem meets_ParameterWrites_1 :
    served opParamWrite (rq (bs [1, 0, 0, 0, 0x00, 0x60, 0x0A, 0, 0, 0]) : Req) (holder runState : State) = true ∧
    payloadEntries (rq (bs [1, 0, 0, 0, 0x00, 0x60, 0x0A, 0, 0, 0]) : Req).payload = [((0x6000, 0xA) : Entry)] ∧
    5 ≤ yardOf ((0x6000, 0xA) : Entry).1 ∧ yardOf ((0x6000, 0xA) : Entry).1 ≤ 6 := by decide +kernel
theorem meets_ParameterWrites_2 :
    served opParamWrite ⟨((rq []).head : ReqHead), writePayload [(0x2200 + 8 * (0 : Fin 32).val, (0x000000F3 : Word))]⟩
        (holder runState : State) = true
    := by decide +kernel
theorem meets_ParameterWrites_3 :
    served opParamWrite ⟨((rq []).head : ReqHead), writePayload [(0x7200, (0x00640001 : Word))]⟩ (wr runState 0x7220 1 :
        State) = true
    := by decide +kernel
theorem meets_ParameterWrites_4 :
    served opParamWrite ⟨((rq []).head : ReqHead), writePayload (someEntries [(0x2301, (some 5 : Option Word)), (0x2302,
        (some 6 : Option Word))])⟩ (holder runState : State) = true
    := by decide +kernel
theorem meets_ParameterWrites_5 :
    served opParamWrite ⟨((rq []).head : ReqHead), writePayload [(0x1310, (0x00000005 : Word))]⟩ (runState : State) = true
    := by decide +kernel
theorem meets_ParameterWrites_6 :
    served opParamWrite ⟨((rq []).head : ReqHead), writePayload [(0x1311, (1 : Word))]⟩ (expert (raise 3 4 runState) :
        State) = true ∧
    (1 : Word).getLsbD 0 = true := by decide +kernel
theorem meets_ParameterWrites_7 :
    served opParamWrite ⟨((rq []).head : ReqHead), writePayload [(0x6402 + 16 * (1 : Fin 2).val, (1 : Word))]⟩ (wr runState
        0x6412 3 : State) = true
    := by decide +kernel
theorem meets_ParameterWrites_8 :
    served opParamWrite ⟨((rq []).head : ReqHead), writePayload (someEntries [(portId (0 : Fin 2) 0, (some 0x08080808 :
        Option Word)), (portId (0 : Fin 2) 1, (some 0x02020202 : Option Word))])⟩ (runState : State) = true
    := by decide +kernel
theorem meets_ParameterWrites_9 :
    served opParamWrite ⟨((rq []).head : ReqHead), writePayload (someEntries [(0x1219, (some 5000 : Option Word)), (0x121A,
        (some 0x0A000001 : Option Word))])⟩ (wrFlag runState 0x1005 1 true : State) = true
    := by decide +kernel
theorem meets_ParameterWrites_10 :
    served opParamWrite ⟨((rq []).head : ReqHead), writePayload [(0x7000 + 64 * (1 : Fin 4).val, (0x1D : Word))]⟩ (expert
        (holder runState) : State) = true
    := by decide +kernel
theorem meets_ParameterWrites_11 :
    served opParamWrite ⟨((rq []).head : ReqHead), writePayload [(0x2492 + 4 * (1 : Fin 4).val, (1 : Word))]⟩ (holder
        runState : State) = true
    := by decide +kernel
theorem meets_ParameterWrites_12 :
    served opParamWrite ⟨((rq []).head : ReqHead), writePayload (someEntries [(0x7201, (some 7 : Option Word)), (0x7202,
        (some 10 : Option Word))])⟩ (expert runState : State) = true
    := by decide +kernel

theorem meets_ConfigFilesAndRestarts_1 :
    served opConfigFileLoad (rq (bs [4, 0, 0, 0, 0xF0, 0x0F, 0, 0] ++ zeroBytes 4076) : Req) (expert runState : State) = true ∧
    leAt (rq (bs [4, 0, 0, 0, 0xF0, 0x0F, 0, 0] ++ zeroBytes 4076) : Req).payload 2 2 = 0 ∧
    4076 < leAt (rq (bs [4, 0, 0, 0, 0xF0, 0x0F, 0, 0] ++ zeroBytes 4076) : Req).payload 4 4 := by decide +kernel
theorem meets_ConfigFilesAndRestarts_2 :
    ({ runState with load := { runState.load with load := some ⟨0, 4, 8000, 1, [], 7000000⟩ } } : State).load.load = some
        (⟨0, 4, 8000, 1, [], 7000000⟩ : OpenLoad)
    := by decide +kernel
theorem meets_ConfigFilesAndRestarts_3 :
    ({ runState with load := { runState.load with storing := [(4, bs [1, 2])] } } : State).load.storing = ((4 : Nat), (bs
        [1, 2] : List Byte)) :: ([] : List (Nat × List Byte)) ∧
    (4 : Nat) < 5 := by decide +kernel
theorem meets_ConfigFilesAndRestarts_4 :
    served opYardRestart (rq (bs [4, 0, 0, 0]) : Req) (expert runState : State) = true := by decide +kernel
theorem meets_ConfigFilesAndRestarts_5 :
    served opModuleReset (rq (bs [0x5A, 0, 0, 0]) : Req) (expert runState : State) = true := by decide +kernel
theorem meets_ConfigFilesAndRestarts_6 :
    paramRow (⟨0x1404, 5⟩ : FwWrite).id = some ((paramRow 0x1404).get (by decide) : ParamRow) ∧
    ({ runState with arb := ⟨7600000, [⟨2, 2, [0x1404]⟩], [], none⟩ } : State).arb.fwLost = none ∧
    arbitrate 3 4 [(⟨0x1404, 5⟩ : FwWrite).id] (bump (advance (7600000 : Nat)
        ({ runState with arb := ⟨7600000, [⟨2, 2, [0x1404]⟩], [], none⟩ } : State)) 0x1312 15 0 1) = none
    := by decide +kernel
theorem meets_ConfigFilesAndRestarts_7 :
    paramRow (⟨0x1404, 5⟩ : FwWrite).id = some ((paramRow 0x1404).get (by decide) : ParamRow) ∧
    (runState : State).arb.fwLost = none ∧ (⟨0x1404, 5⟩ : FwWrite).id = (0x1404 : Nat) ∧ (0x1404 : Nat) ≠ 0x1312 ∧
    (arbitrate 3 4 [(0x1404 : Nat)] (bump (advance (7600000 : Nat) (runState : State)) 0x1312 15 0 1)).isSome = true
    := by decide +kernel

theorem meets_ControlRequests_1 :
    served opModeSetBasic (rq (bs [0, 6, 0, 0, 0, 0, 0, 0]) : Req) (holder runState : State) = true := by decide +kernel
theorem meets_ControlRequests_2 :
    served opModeSetExpert (rq (bs [0, 6, 0, 0, 0, 0, 0, 0] ++ zeroBytes 108) : Req) (expert (holder runState) : State) = true
    := by decide +kernel
theorem meets_ControlRequests_3 :
    served opSetpointSet (rq (wordBytes 0x41200000 ++ wordBytes 0x41200000 ++ wordBytes 0x3F800000 ++ bs [3, 0, 0, 0] ++
        zeroBytes 8) : Req) (wr (holder runState) 0x2000 3 : State) = true
    := by decide +kernel
theorem meets_ControlRequests_4 :
    served opJoystickSet (rq (wordBytes 0x3F000000 ++ zeroBytes 12) : Req) (holder runState : State) = true
    := by decide +kernel
theorem meets_ControlRequests_5 :
    served opBerthPushSet (rq (bs [100, 0, 1, 0, 50, 0, 0, 0]) : Req) (holder runState : State) = true := by decide +kernel
theorem meets_ControlRequests_6 :
    served opTrackLoad (rq (bs [1, 0, 0, 0, 0, 0, 0, 0] ++ wordBytes 0 ++ wordBytes 0 ++ wordBytes 0x3F800000 ++ bs [0, 0,
        10, 0]) : Req) (holder runState : State) = true
    := by decide +kernel
theorem meets_ControlRequests_7 : served opLossModeSet (rq (bs [1, 1, 0, 0]) : Req) (holder runState : State) = true
    := by decide +kernel

theorem meets_ReferenceRequests_1 :
    served opRefConfigBasic (rq (bs [5, 2, 0, 0, 0xE1, 7, 0, 0, 0, 0, 0, 0, 0, 0, 50, 0, 10, 0, 10, 0, 0, 0, 0, 0, 0, 0, 10,
        0, 0, 0, 0, 0]) : Req) (holder runState : State) = true
    := by decide +kernel
theorem meets_ReferenceRequests_2 :
    served opRefConfigExpert (rq (bs ([5, 2, 0, 0, 0xE1, 7, 0, 0, 0, 0, 0, 0, 0, 0, 50, 0, 10, 0, 10, 0, 0, 0, 0, 0, 0, 0,
        10, 0, 0, 0, 0, 0] ++ [0, 0, 0, 0, 20, 0, 7, 0] ++ List.replicate 24 0)) : Req) (expert (holder runState) : State) =
        true
    := by decide +kernel
theorem meets_ReferenceRequests_3 : served opRefEnable (rq (bs [0, 1, 0, 0]) : Req) (holder runState : State) = true
    := by decide +kernel
theorem meets_ReferenceRequests_4 :
    served opSelectReference (rq (bs [1, 0xFF, 0, 0]) : Req) (expert (holder runState) : State) = true := by decide +kernel
theorem meets_ReferenceRequests_5 :
    served opReplayWindowSet (rq (bs [40, 0, 0, 0]) : Req) (holder runState : State) = true := by decide +kernel

theorem meets_AllocationRequests_1 : served opThrusterEnable (rq (bs [0, 0, 0, 0]) : Req) (thrState : State) = true ∧
    (thrusterAxes (thrState : State).regs (byteAt ((rq (bs [0, 0, 0, 0]) : Req).payload) 0)).all (fun a => enableRow
        (thrState : State) a == .ok) = true
    := by decide +kernel
theorem meets_AllocationRequests_2 :
    served opThrusterEnable (rq (bs [0, 0, 0, 0]) : Req)
        ({ thrState with servo := (updAxis 4 (fun x => { x with state := 2 }) thrState).servo } : State) = true ∧
    (thrusterAxes ({ thrState with servo := (updAxis 4 (fun x => { x with state := 2 }) thrState).servo } : State).regs
        (byteAt ((rq (bs [0, 0, 0, 0]) : Req).payload) 0)).any (fun a => enableRow
        ({ thrState with servo := (updAxis 4 (fun x => { x with state := 2 }) thrState).servo } : State) a == .pending) =
        true
    := by decide +kernel
theorem meets_AllocationRequests_3 :
    served opThrusterDisable (rq (bs [0, 0, 0, 0]) : Req) ({ thrState with alc := (setThr 0 (fun _ => .on) thrState).alc } :
        State) = true
    := by decide +kernel
theorem meets_AllocationRequests_4 :
    served opAllocConfigBasic (rq (allocPayload) : Req) (holder runState : State) = true := by decide +kernel
theorem meets_AllocationRequests_5 :
    served opAllocConfigExpert (rq ((List.range 16).flatMap fun _ => bs [0, 0x3F, 0x3F, 0x3F] ++ zeroBytes 20 ++ bs [1, 0,
        1, 0, 1, 0, 0, 0]) : Req) (expert (holder runState) : State) = true
    := by decide +kernel
theorem meets_AllocationRequests_6 :
    served opPowerLimitSet (rq (bs [1, 2, 3, 4, 5, 6, 7, 8, 9, 10, 11, 12, 13, 14, 15, 16]) : Req) (holder runState : State)
        = true
    := by decide +kernel
theorem meets_AllocationRequests_7 :
    served opCompatModeSet (rq (bs [1, 0, 0, 0]) : Req) (expert (holder runState) : State) = true := by decide +kernel

theorem meets_AxisRequests_1 : served opAxisEnable (rq (bs [4, 0, 0, 0]) : Req) (thrState : State) = true ∧
    enableRow (thrState : State) (byteAt ((rq (bs [4, 0, 0, 0]) : Req).payload) 0) = .ok := by decide +kernel
theorem meets_AxisRequests_2 :
    served opAxisEnable (rq (bs [4, 0, 0, 0]) : Req)
        ({ thrState with servo := (updAxis 4 (fun x => { x with state := 2 }) thrState).servo } : State) = true ∧
    enableRow ({ thrState with servo := (updAxis 4 (fun x => { x with state := 2 }) thrState).servo } : State) (byteAt ((rq
        (bs [4, 0, 0, 0]) : Req).payload) 0) = .pending
    := by decide +kernel
theorem meets_AxisRequests_3 : served opAxisDisable (rq (bs [4, 0, 0, 0]) : Req) (holder runState : State) = true
    := by decide +kernel
theorem meets_AxisRequests_4 :
    served opAxisConfigBasic (rq (axisPayload.take 32) : Req) (holder runState : State) = true := by decide +kernel
theorem meets_AxisRequests_5 :
    served opAxisConfigExpert (rq axisPayload : Req) (expert (holder runState) : State) = true := by decide +kernel
theorem meets_AxisRequests_6 :
    served opCompTableLoad (rq (bs [4, 0, 0, 0] ++ zeroBytes 512) : Req) (expert (holder runState) : State) = true
    := by decide +kernel

theorem meets_FieldAndFilterRequests_1 :
    served opChannelConfigBasic (rq (bs [3, 1, 0, 9, 0, 0, 0, 0] ++ zeroBytes 8) : Req) (holder runState : State) = true
    := by decide +kernel
theorem meets_FieldAndFilterRequests_2 :
    served opChannelConfigExpert (rq (bs [3, 1, 0, 9, 0, 0, 0, 0] ++ zeroBytes 8 ++ bs [100, 0, 1, 0] ++ zeroBytes 12) :
        Req) (expert (holder runState) : State) = true
    := by decide +kernel
theorem meets_FieldAndFilterRequests_3 :
    served opOutputSet (rq (bs [3, 0, 0, 0, 1, 0, 0, 0]) : Req) (wr (holder runState) 0x6030 3 : State) = true
    := by decide +kernel
theorem meets_FieldAndFilterRequests_4 :
    served opSafeValueSet (rq (bs [3, 2, 0, 0, 0, 16, 0, 0]) : Req) (wr (holder runState) 0x6030 5 : State) = true
    := by decide +kernel
theorem meets_FieldAndFilterRequests_5 :
    served opFilterPreset (rq (bs [3, 2, 0, 0]) : Req) (holder runState : State) = true ∧
    byteAt ((rq (bs [3, 2, 0, 0]) : Req).payload) 0 < 48 := by decide +kernel
theorem meets_FieldAndFilterRequests_6 :
    served opFilterPreset (rq (bs [0xFF, 2, 0, 0]) : Req) (holder runState : State) = true ∧
    byteAt ((rq (bs [0xFF, 2, 0, 0]) : Req).payload) 0 = 0xFF := by decide +kernel
theorem meets_FieldAndFilterRequests_7 :
    served opFilterCustom (rq (bs [3, 1, 4, 0, 1, 0, 0, 0, 5, 0, 0, 0]) : Req) (expert (holder runState) : State) = true
    := by decide +kernel
theorem meets_FieldAndFilterRequests_8 : served opSyncFilters (rq ([]) : Req) (holder runState : State) = true ∧
    (holder runState : State).clk.core = true := by decide +kernel
theorem meets_FieldAndFilterRequests_9 :
    served opDcBlockSet (rq (bs [3, 1, 7, 0]) : Req) (holder runState : State) = true := by decide +kernel

theorem meets_BusAndTimeRequests_1 : served opCanConfigBasic (rq (canPayload) : Req) (holder runState : State) = true
    := by decide +kernel
theorem meets_BusAndTimeRequests_2 :
    served opCanConfigExpert (rq (canPayload.take 12 ++ bs [0, 0, 0, 0] ++ wordBytes (nominalPreset 0) ++ wordBytes
        (dataPreset 0).1 ++ zeroBytes 8) : Req) (expert (holder runState) : State) = true
    := by decide +kernel
theorem meets_BusAndTimeRequests_3 :
    served opCanIdEnable (rq (bs [1, 1, 0, 0, 0, 1, 0, 0]) : Req) (clashState : State) = true ∧
    byteAt ((rq (bs [1, 1, 0, 0, 0, 1, 0, 0]) : Req).payload) 1 = 1 := by decide +kernel
theorem meets_BusAndTimeRequests_4 :
    served opCanSend (rq (bs [1, 0, 2, 0, 0, 4, 0, 0, 9, 9] ++ zeroBytes 62) : Req) (expert busState : State) = true
    := by decide +kernel
theorem meets_BusAndTimeRequests_5 :
    served opEthConfig (rq (bs [1, 3, 0, 0, 5, 1, 168, 192, 0, 255, 255, 255, 1, 0, 100, 0] ++ zeroBytes 16) : Req)
        (runState : State) = true
    := by decide +kernel
theorem meets_BusAndTimeRequests_6 :
    served opPtpConfigBasic (rq (bs [1, 1, 3, 1, 0] ++ zeroBytes 11) : Req) (runState : State) = true := by decide +kernel
theorem meets_BusAndTimeRequests_7 :
    served opPtpConfigExpert (rq (bs [1, 1, 3, 1, 0] ++ zeroBytes 11 ++ bs [20, 0, 0, 0, 5, 0, 0, 0] ++ zeroBytes 8) : Req)
        (expert runState : State) = true
    := by decide +kernel
theorem meets_BusAndTimeRequests_8 :
    served opTimeDomainSelect (rq (bs [1, 1, 0, 0]) : Req) (wr runState 0x7220 1 : State) = true := by decide +kernel

theorem meets_GnssPowerTwinRequests_1 :
    served opGnssConfigBasic (rq (bs [7, 1, 10, 10, 30] ++ zeroBytes 11) : Req) (runState : State) = true
    := by decide +kernel
theorem meets_GnssPowerTwinRequests_2 :
    served opGnssConfigExpert (rq (bs [7, 1, 10, 10, 30] ++ zeroBytes 11 ++ bs [20, 10, 2, 63, 1, 0, 200, 0] ++ zeroBytes
        24) : Req) (expert runState : State) = true
    := by decide +kernel
theorem meets_GnssPowerTwinRequests_3 :
    served opHeadingBaselineSet (rq (bs [0xE8, 3, 50, 0, 7, 0] ++ zeroBytes 10) : Req) (runState : State) = true
    := by decide +kernel
theorem meets_GnssPowerTwinRequests_4 : served opGnssRestart (rq (bs [2, 3, 0, 0]) : Req) (runState : State) = true
    := by decide +kernel
theorem meets_GnssPowerTwinRequests_5 : served opPowerStateSet (rq (bs [1, 0, 0, 0]) : Req) (runState : State) = true ∧
    (runState : State).power.mode = .run ∧ 1 ≤ byteAt ((rq (bs [1, 0, 0, 0]) : Req).payload) 0 := by decide +kernel
theorem meets_GnssPowerTwinRequests_6 :
    served opWakeConfig (rq (bs [0x31, 0, 0, 0, 0x10, 1, 0, 0]) : Req) (runState : State) = true := by decide +kernel
theorem meets_GnssPowerTwinRequests_7 :
    served opRtcAlarmSet (rq (bs [0, 0, 0, 9, 0, 0, 0, 0]) : Req) (runState : State) = true := by decide +kernel
theorem meets_GnssPowerTwinRequests_8 : served opHalterRequest (rq (bs [0, 0, 0, 0]) : Req) (linkState2 : State) = true
    := by decide +kernel
theorem meets_GnssPowerTwinRequests_9 : served opHalterRelease (rq (bs [1, 0, 0, 0]) : Req) (fitState : State) = true
    := by decide +kernel
theorem meets_GnssPowerTwinRequests_10 :
    served opTwinToleranceSet (rq ((List.range 7).flatMap (fun _ => wordBytes 7) ++ zeroBytes 4) : Req) (expert (holder
        runState) : State) = true
    := by decide +kernel

theorem meets_BeatEdges_1 : (srcState : State).power.mode = .run ∧ (srcState : State).clk.core = true ∧
    (srcState : State).clk.beats = true := by decide +kernel
theorem meets_BeatEdges_2 :
    ({ runState with clk := { runState.clk with beats := false, runEdge := 8000000 } } : State).power.mode = .run ∧
    ({ runState with clk := { runState.clk with beats := false, runEdge := 8000000 } } : State).clk.core = true ∧
    ({ runState with clk := { runState.clk with beats := false, runEdge := 8000000 } } : State).clk.beats = false
    := by decide +kernel
theorem meets_BeatEdges_3 : (State.reset : State).power.mode ≠ .run ∨ (State.reset : State).clk.core = false
    := by decide +kernel

theorem meets_SentencesAndFrames_1 : flag (srcState : State) (serId (0 : Fin 4) 0) 2 = true ∧
    blockDown (srcState : State) 7 (6 + (0 : Fin 4).val) = false ∧ (false : Bool) = false ∧
    (hdtLine : List Byte).length ≤ 82 ∧ checkedBody (hdtLine : List Byte) = some ((checkedBody hdtLine).get! : List Nat) ∧
    matchSource (srcState : State) 0 (· == (0 : Fin 4).val) (sentenceParts ((checkedBody hdtLine).get! : List Nat)).1
        (sentenceParts ((checkedBody hdtLine).get! : List Nat)).2.1 (sentenceParts ((checkedBody hdtLine).get! : List
        Nat)).2.2.2 = some (3 : Nat) ∧
    kindOfFmt (sentenceParts ((checkedBody hdtLine).get! : List Nat)).2.1 = (srcCfg (srcState : State).regs (3 : Nat)).kind ∧
    (srcCfg (srcState : State).regs (3 : Nat)).stamp ≠ 1 ∧
    parseSentence (sentenceParts ((checkedBody hdtLine).get! : List Nat)).2.1 (sentenceParts ((checkedBody hdtLine).get! :
        List Nat)).2.2.1 = .values (none : Option Int) (0 : Int) (0 : Int) ((match parseSentence (sentenceParts (checkedBody
        hdtLine).get!).2.1 (sentenceParts (checkedBody hdtLine).get!).2.2.1 with | .values _ _ _ v _ _ => v | _ => 0) : F32)
        (0 : F32) (none : Option F32)
    := by decide +kernel
theorem meets_SentencesAndFrames_2 : flag (wrFld srcState 0x2218 3 1 1 : State) (serId (0 : Fin 4) 0) 2 = true ∧
    blockDown (wrFld srcState 0x2218 3 1 1 : State) 7 (6 + (0 : Fin 4).val) = false ∧ (false : Bool) = false ∧
    (hdtLine : List Byte).length ≤ 82 ∧ checkedBody (hdtLine : List Byte) = some ((checkedBody hdtLine).get! : List Nat) ∧
    matchSource (wrFld srcState 0x2218 3 1 1 : State) 0 (· == (0 : Fin 4).val) (sentenceParts ((checkedBody hdtLine).get! :
        List Nat)).1 (sentenceParts ((checkedBody hdtLine).get! : List Nat)).2.1 (sentenceParts ((checkedBody hdtLine).get!
        : List Nat)).2.2.2 = some (3 : Nat) ∧
    kindOfFmt (sentenceParts ((checkedBody hdtLine).get! : List Nat)).2.1 ≠ (srcCfg (wrFld srcState 0x2218 3 1 1 :
        State).regs (3 : Nat)).kind ∨ parseSentence (sentenceParts ((checkedBody hdtLine).get! : List Nat)).2.1
        (sentenceParts ((checkedBody hdtLine).get! : List Nat)).2.2.1 = .format
    := by decide +kernel
theorem meets_SentencesAndFrames_3 : flag (srcState : State) (serId (0 : Fin 4) 0) 2 = true ∧
    blockDown (srcState : State) 7 (6 + (0 : Fin 4).val) = false ∧ (true : Bool) = true := by decide +kernel
theorem meets_SentencesAndFrames_4 : flag (wr runState 0x7300 4 : State) (serId (0 : Fin 4) 0) 2 = true ∧
    blockDown (wr runState 0x7300 4 : State) 7 (6 + (0 : Fin 4).val) = false ∧ (false : Bool) = false ∧
    (hdtLine : List Byte).length ≤ 82 ∧ checkedBody (hdtLine : List Byte) = some ((checkedBody hdtLine).get! : List Nat) ∧
    matchSource (wr runState 0x7300 4 : State) 0 (· == (0 : Fin 4).val) (sentenceParts ((checkedBody hdtLine).get! : List
        Nat)).1 (sentenceParts ((checkedBody hdtLine).get! : List Nat)).2.1 (sentenceParts ((checkedBody hdtLine).get! :
        List Nat)).2.2.2 = none
    := by decide +kernel
theorem meets_SentencesAndFrames_5 : ethOn (srcStateE : State) (0 : Fin 2) = true ∧
    groupJoined (srcStateE : State) (0 : Fin 2) (2 : Fin 16).val = true ∧ (stripTag (hdtLine : List Byte)).length ≤ 82 ∧
    checkedBody (stripTag (hdtLine : List Byte)) = some ((checkedBody hdtLine).get! : List Nat) ∧
    matchSource (srcStateE : State) 1 (fun x => x == 0 || x == (0 : Fin 2).val + 1) (sentenceParts ((checkedBody
        hdtLine).get! : List Nat)).1 (sentenceParts ((checkedBody hdtLine).get! : List Nat)).2.1 (sentenceParts
        ((checkedBody hdtLine).get! : List Nat)).2.2.2 = some (3 : Nat) ∧
    (srcCfg (srcStateE : State).regs (3 : Nat)).port ≠ 0 ∧
    kindOfFmt (sentenceParts ((checkedBody hdtLine).get! : List Nat)).2.1 = (srcCfg (srcStateE : State).regs (3 : Nat)).kind ∧
    (srcCfg (srcStateE : State).regs (3 : Nat)).stamp ≠ 1 ∧
    parseSentence (sentenceParts ((checkedBody hdtLine).get! : List Nat)).2.1 (sentenceParts ((checkedBody hdtLine).get! :
        List Nat)).2.2.1 = .values (none : Option Int) (0 : Int) (0 : Int) ((match parseSentence (sentenceParts (checkedBody
        hdtLine).get!).2.1 (sentenceParts (checkedBody hdtLine).get!).2.2.1 with | .values _ _ _ v _ _ => v | _ => 0) : F32)
        (0 : F32) (none : Option F32)
    := by decide +kernel
theorem meets_SentencesAndFrames_6 : canHears (srcStateC : State) (1 : Fin 4) = true ∧
    (⟨0x2A0#29, false, true, false, bs [3, 1, 9, 0] ++ zeroBytes 16⟩ : CanFrame).remote = false ∧
    flag (srcStateC : State) (srcId (5 : Fin 32).val 0) 0 = true ∧
    (srcCfg (srcStateC : State).regs (5 : Fin 32).val).trans = 2 ∧
    (srcCfg (srcStateC : State).regs (5 : Fin 32).val).port = (1 : Fin 4).val ∧
    (srcCfg (srcStateC : State).regs (5 : Fin 32).val).mtch = frameIdWord (⟨0x2A0#29, false, true, false, bs [3, 1, 9, 0] ++
        zeroBytes 16⟩ : CanFrame) ∧
    (∀ j : Fin 32, j < (5 : Fin 32) → flag (srcStateC : State) (srcId j.val 0) 0 = false ∨ (srcCfg (srcStateC : State).regs
        j.val).mtch ≠ frameIdWord (⟨0x2A0#29, false, true, false, bs [3, 1, 9, 0] ++ zeroBytes 16⟩ : CanFrame)) ∧
    (⟨0x2A0#29, false, true, false, bs [3, 1, 9, 0] ++ zeroBytes 16⟩ : CanFrame).fd = true ∧
    (⟨0x2A0#29, false, true, false, bs [3, 1, 9, 0] ++ zeroBytes 16⟩ : CanFrame).data.length = 20 ∧
    byteAt (⟨0x2A0#29, false, true, false, bs [3, 1, 9, 0] ++ zeroBytes 16⟩ : CanFrame).data 0 = (srcCfg (srcStateC :
        State).regs (5 : Fin 32).val).kind ∧
    byteAt (⟨0x2A0#29, false, true, false, bs [3, 1, 9, 0] ++ zeroBytes 16⟩ : CanFrame).data 1 / 8 = 0 ∧
    byteAt (⟨0x2A0#29, false, true, false, bs [3, 1, 9, 0] ++ zeroBytes 16⟩ : CanFrame).data 1 % 2 = 1 ∧
    (srcUnit (srcStateC : State) (5 : Fin 32).val).counter ≠ some (leAt (⟨0x2A0#29, false, true, false, bs [3, 1, 9, 0] ++
        zeroBytes 16⟩ : CanFrame).data 2 2) ∧
    (srcCfg (srcStateC : State).regs (5 : Fin 32).val).stamp ≠ 2 := by decide +kernel
theorem meets_SentencesAndFrames_7 :
    (vget ({ runState with ser := vset runState.ser 1 ⟨none, some (.hdt none), some (.zda 5 false)⟩ } : State).ser (1 : Fin
        4)).sending = some (.hdt none : TalkLine)
    := by decide +kernel

theorem meets_IntakeEnds_1 : (srcStateL : State).clk.beats = true := by decide +kernel
theorem meets_IntakeEnds_2 :
    (vget (srcStateL : State).src (3 : Fin 32)).state = 1 ∨ (vget (srcStateL : State).src (3 : Fin 32)).state = 2 ∧
    sfld (srcStateL : State) (srcId (3 : Fin 32).val 2) 25 16 ≤ (vget (srcStateL : State).src (3 : Fin 32)).age ∧
    flag (srcStateL : State) (srcId (3 : Fin 32).val 0) 0 = true := by decide +kernel

theorem meets_FusionEvents_1 : ({ runState with fus := { runState.fus with step := 3 } } : State).clk.beats = true ∧
    ({ runState with fus := { runState.fus with step := 3 } } : State).fus.step < 64 ∧
    min 64 (sfld ({ runState with fus := { runState.fus with step := 3 } } : State) 0x2300 6 0) < 64 -
        ({ runState with fus := { runState.fus with step := 3 } } : State).fus.step
    := by decide +kernel
theorem meets_FusionEvents_2 :
    ({ runState with fus := { runState.fus with step := 63 }, snap := [(0x2300, 0x07D00040#32)] } : State).clk.beats = true ∧
    ({ runState with fus := { runState.fus with step := 63 }, snap := [(0x2300, 0x07D00040#32)] } : State).fus.step < 64 ∧
    64 - ({ runState with fus := { runState.fus with step := 63 }, snap := [(0x2300, 0x07D00040#32)] } : State).fus.step ≤
        min 64 (sfld ({ runState with fus := { runState.fus with step := 63 }, snap := [(0x2300, 0x07D00040#32)] } : State)
        0x2300 6 0)
    := by decide +kernel
theorem meets_FusionEvents_3 : (runState : State).clk.beats = true := by decide +kernel
theorem meets_FusionEvents_4 :
    trackAt (fusionPrelude (trackState : State)).1.1 (5 : Fin 48).val = some (trackOld : Track) ∧
    trackAt (trackState : State) (5 : Fin 48).val = some (trackOld : Track) ∧
    500 ≤ ((trackState : State).clk.beat + 2 ^ 32 - (trackOld : Track).lastBeat) % 2 ^ 32 := by decide +kernel
theorem meets_FusionEvents_5 :
    ((.heading : Quantity) = .position ∧ (1 : Fin 2) = 0) ∨ ((.heading : Quantity) = .heading ∧ (1 : Fin 2) = 1) ∧
    holdEnds (holdState : State) (1 : Fin 2) = true ∧ (vget (holdState : State).fus.votes (1 : Fin 2)).hold ≠ none
    := by decide +kernel
theorem meets_FusionEvents_6 :
    trackAt (fusionPrelude (voteState : State)).1.1 (2 : Fin 48).val = some (voteTrack 2 true : Track) ∧
    trackAt (voteState : State) (2 : Fin 48).val = some (voteTrack 2 true : Track) ∧
    quantityOf (voteTrack 2 true : Track).last.kind = some (1 : Fin 2) ∧
    (findVote (fusionPrelude (voteState : State)).1.1 (1 : Fin 2)).dists.find? (·.1 == (2 : Fin 48).val) = some ((2, 0) :
        Nat × F32) ∧
    f32Le ((2, 0) : Nat × F32).2 (f32OfInt 4) = true ∧ (voteTrack 2 true : Track).votedOut = true ∧
    99 ≤ (voteTrack 2 true : Track).near := by decide +kernel

theorem meets_ControlEvents_1 : (joyState : State).clk.beats = true := by decide +kernel
theorem meets_ControlEvents_2 :
    ((.position : Quantity) = .position ∧ (0 : Fin 2) = 0) ∨ ((.position : Quantity) = .heading ∧ (0 : Fin 2) = 1) ∧
    (vget (lostState : State).fus.votes (0 : Fin 2)).lost = false ∧
    (vget (lostState : State).fus.votes (0 : Fin 2)).hold ≠ none ∧
    3000 ≤ (vget (lostState : State).fus.votes (0 : Fin 2)).timer := by decide +kernel
theorem meets_ControlEvents_3 : (.heading : Quantity) = .heading ∧
    (vget ({ (wr (wr lostState 0x2000 3) 0x2001 4) with clk := { runState.clk with cycle := 7400000 } } : State).fus.votes
        1).lost = false ∧
    (vget ({ (wr (wr lostState 0x2000 3) 0x2001 4) with clk := { runState.clk with cycle := 7400000 } } : State).fus.votes
        1).hold ≠ none ∧
    3000 ≤ (vget ({ (wr (wr lostState 0x2000 3) 0x2001 4) with clk := { runState.clk with cycle := 7400000 } } :
        State).fus.votes 1).timer ∧
    needsHeading (fld ({ (wr (wr lostState 0x2000 3) 0x2001 4) with clk := { runState.clk with cycle := 7400000 } } : State)
        0x2000 2 0) (flag ({ (wr (wr lostState 0x2000 3) 0x2001 4) with clk := { runState.clk with cycle := 7400000 } } :
        State) 0x2000 3) = true ∧
    ({ (wr (wr lostState 0x2000 3) 0x2001 4) with clk := { runState.clk with cycle := 7400000 } } : State).clk.core = true ∧
    ({ (wr (wr lostState 0x2000 3) 0x2001 4) with clk := { runState.clk with cycle := 7400000 } } : State).clk.cycle ≤
        beatCycle ({ (wr (wr lostState 0x2000 3) 0x2001 4) with clk := { runState.clk with cycle := 7400000 } } : State)
        420000 ∧
    ({ (wr (wr lostState 0x2000 3) 0x2001 4) with clk := { runState.clk with cycle := 7400000 } } : State).arb.cycle <
        beatCycle ({ (wr (wr lostState 0x2000 3) 0x2001 4) with clk := { runState.clk with cycle := 7400000 } } : State)
        420000
    := by decide +kernel
theorem meets_ControlEvents_4 :
    ({ runState with ctl := { runState.ctl with stale := false, windAge := 6000 } } : State).clk.beats = true ∧
    ({ runState with ctl := { runState.ctl with stale := false, windAge := 6000 } } : State).ctl.stale = false ∧
    windMeas ({ runState with ctl := { runState.ctl with stale := false, windAge := 6000 } } : State) = none ∧
    sfld ({ runState with ctl := { runState.ctl with stale := false, windAge := 6000 } } : State) 0x2029 31 16 ≤
        ({ runState with ctl := { runState.ctl with stale := false, windAge := 6000 } } : State).ctl.windAge + 1
    := by decide +kernel
theorem meets_ControlEvents_5 : (joyState : State).clk.beats = true ∧ sflag (joyState : State) 0x2018 0 = false ∧
    (joyRaw (joyState : State)).2 = 7 ∧ (joyState : State).ctl.joyZero ≠ 7 := by decide +kernel
theorem meets_ControlEvents_6 :
    modeEnters ({ joyState with ctl := { joyState.ctl with joyRest := 199 } } : State) = false ∧
    (modeNow ({ joyState with ctl := { joyState.ctl with joyRest := 199 } } : State)).1 = 1 ∧
    (modeNow ({ joyState with ctl := { joyState.ctl with joyRest := 199 } } : State)).2.1 = true ∧
    ({ joyState with ctl := { joyState.ctl with joyRest := 199 } } : State).ctl.autoYaw = false ∧
    199 ≤ ({ joyState with ctl := { joyState.ctl with joyRest := 199 } } : State).ctl.joyRest ∧
    f32IsZero (fAt (joyNow ({ joyState with ctl := { joyState.ctl with joyRest := 199 } } : State)) 2) = true
    := by decide +kernel

theorem meets_AllocationEvents_1 : (runState : State).clk.beats = true ∧ (runState : State).alc.done < 20
    := by decide +kernel
theorem meets_AllocationEvents_2 :
    ({ runState with alc := { runState.alc with done := 4, prob := some (startProblem runState).1 } } : State).clk.beats =
        true ∧
    ({ runState with alc := { runState.alc with done := 4, prob := some (startProblem runState).1 } } : State).alc.done < 20 ∧
    ({ runState with alc := { runState.alc with done := 4, prob := some (startProblem runState).1 } } : State).alc.prob =
        some ((startProblem runState).1 : AProb)
    := by decide +kernel
theorem meets_AllocationEvents_3 : (solvedState : State).alc.done = 20 ∧ (solvedState : State).clk.beats = true ∧
    (solvedState : State).alc.prob = some ((startProblem runState).1 : AProb) := by decide +kernel
theorem meets_AllocationEvents_4 :
    ({ solvedState with alc := { solvedState.alc with prob := some badProblem, streak := 2 } } : State).alc.done = 20 ∧
    ({ solvedState with alc := { solvedState.alc with prob := some badProblem, streak := 2 } } : State).clk.beats = true ∧
    ({ solvedState with alc := { solvedState.alc with prob := some badProblem, streak := 2 } } : State).alc.prob = some
        (badProblem : AProb) ∧
    ({ solvedState with alc := { solvedState.alc with prob := some badProblem, streak := 2 } } : State).alc.fb = false ∧
    resultValid (badProblem : AProb)
        ({ solvedState with alc := { solvedState.alc with prob := some badProblem, streak := 2 } } : State).alc.iter = false
        ∧
    2 ≤ ({ solvedState with alc := { solvedState.alc with prob := some badProblem, streak := 2 } } : State).alc.streak
    := by decide +kernel
theorem meets_AllocationEvents_5 :
    ({ solvedState with alc := { solvedState.alc with fb := true, fbRun := 9 } } : State).alc.done = 20 ∧
    ({ solvedState with alc := { solvedState.alc with fb := true, fbRun := 9 } } : State).clk.beats = true ∧
    ({ solvedState with alc := { solvedState.alc with fb := true, fbRun := 9 } } : State).alc.prob = some ((startProblem
        runState).1 : AProb) ∧
    ({ solvedState with alc := { solvedState.alc with fb := true, fbRun := 9 } } : State).alc.fb = true ∧
    resultValid ((startProblem runState).1 : AProb)
        ({ solvedState with alc := { solvedState.alc with fb := true, fbRun := 9 } } : State).alc.iter = true ∧
    9 ≤ ({ solvedState with alc := { solvedState.alc with fb := true, fbRun := 9 } } : State).alc.fbRun := by decide +kernel
theorem meets_AllocationEvents_6 : (freshBus : State).clk.beats = true ∧
    (vget (freshBus : State).alc.bus (2 : Fin 4)).stale = false ∧ busStale (freshBus : State) (2 : Fin 4).val = true
    := by decide +kernel
theorem meets_AllocationEvents_7 :
    fld ({ wr runState 0x2481 0x300 with can := vupd runState.can 0 fun u => { u with on := true, integ := false } } :
        State) 0x2480 5 4 = 0 ∧
    fld ({ wr runState 0x2481 0x300 with can := vupd runState.can 0 fun u => { u with on := true, integ := false } } :
        State) 0x2480 7 6 = (0 : Fin 4).val ∧
    frameIdWord (⟨0x300#29, false, true, false, bs [2, 1, 9, 0, 100, 0, 0, 0, 0, 0, 0, 0]⟩ : CanFrame) = rd
        ({ wr runState 0x2481 0x300 with can := vupd runState.can 0 fun u => { u with on := true, integ := false } } :
        State) 0x2481 ∧
    canHears ({ wr runState 0x2481 0x300 with can := vupd runState.can 0 fun u => { u with on := true, integ := false } } :
        State) (0 : Fin 4) = true ∧
    (⟨0x300#29, false, true, false, bs [2, 1, 9, 0, 100, 0, 0, 0, 0, 0, 0, 0]⟩ : CanFrame).remote = false ∧
    (⟨0x300#29, false, true, false, bs [2, 1, 9, 0, 100, 0, 0, 0, 0, 0, 0, 0]⟩ : CanFrame).fd = true ∧
    (⟨0x300#29, false, true, false, bs [2, 1, 9, 0, 100, 0, 0, 0, 0, 0, 0, 0]⟩ : CanFrame).data.length = 12 ∧
    byteAt (⟨0x300#29, false, true, false, bs [2, 1, 9, 0, 100, 0, 0, 0, 0, 0, 0, 0]⟩ : CanFrame).data 0 = (2 : Fin 4).val ∧
    byteAt (⟨0x300#29, false, true, false, bs [2, 1, 9, 0, 100, 0, 0, 0, 0, 0, 0, 0]⟩ : CanFrame).data 1 = 1 ∧
    leAt (⟨0x300#29, false, true, false, bs [2, 1, 9, 0, 100, 0, 0, 0, 0, 0, 0, 0]⟩ : CanFrame).data 10 2 = 0 ∧
    (vget ({ wr runState 0x2481 0x300 with can := vupd runState.can 0 fun u => { u with on := true, integ := false } } :
        State).alc.bus (2 : Fin 4)).count ≠ some (leAt (⟨0x300#29, false, true, false, bs [2, 1, 9, 0, 100, 0, 0, 0, 0, 0,
        0, 0]⟩ : CanFrame).data 2 2)
    := by decide +kernel
theorem meets_AllocationEvents_8 :
    fld ({ wr runState 0x2481 0x300 with can := vupd runState.can 0 fun u => { u with on := true, integ := false } } :
        State) 0x2480 5 4 = 0 ∧
    fld ({ wr runState 0x2481 0x300 with can := vupd runState.can 0 fun u => { u with on := true, integ := false } } :
        State) 0x2480 7 6 = (0 : Fin 4).val ∧
    frameIdWord (⟨0x300#29, false, true, false, bs [9, 1, 9, 0, 100, 0, 0, 0, 0, 0, 0, 0]⟩ : CanFrame) = rd
        ({ wr runState 0x2481 0x300 with can := vupd runState.can 0 fun u => { u with on := true, integ := false } } :
        State) 0x2481 ∧
    canHears ({ wr runState 0x2481 0x300 with can := vupd runState.can 0 fun u => { u with on := true, integ := false } } :
        State) (0 : Fin 4) = true ∧
    (⟨0x300#29, false, true, false, bs [9, 1, 9, 0, 100, 0, 0, 0, 0, 0, 0, 0]⟩ : CanFrame).remote = false ∧
    (⟨0x300#29, false, true, false, bs [9, 1, 9, 0, 100, 0, 0, 0, 0, 0, 0, 0]⟩ : CanFrame).fd = false ∨ (⟨0x300#29, false,
        true, false, bs [9, 1, 9, 0, 100, 0, 0, 0, 0, 0, 0, 0]⟩ : CanFrame).data.length ≠ 12 ∨ 3 < byteAt (⟨0x300#29, false,
        true, false, bs [9, 1, 9, 0, 100, 0, 0, 0, 0, 0, 0, 0]⟩ : CanFrame).data 0 ∨ 3 < byteAt (⟨0x300#29, false, true,
        false, bs [9, 1, 9, 0, 100, 0, 0, 0, 0, 0, 0, 0]⟩ : CanFrame).data 1
    := by decide +kernel
theorem meets_AllocationEvents_9 : fld (wrFld runState 0x2480 5 4 1 : State) 0x2480 5 4 = 1 ∧
    blockDown (wrFld runState 0x2480 5 4 1 : State) 7 (4 + (0 : Fin 2).val) = false ∧ (ptbmpLine : List Byte).length ≤ 82 ∧
    checkedBody (ptbmpLine : List Byte) = some ((checkedBody ptbmpLine).get! : List Nat) ∧
    (splitFields ((checkedBody ptbmpLine).get! : List Nat)).length = 6 ∧
    fieldOf (splitFields ((checkedBody ptbmpLine).get! : List Nat)) 0 = charsOf "PTBMP" ∧
    wholeField (fieldOf (splitFields ((checkedBody ptbmpLine).get! : List Nat)) 1) 3 = some (2 : Fin 4).val ∧
    wholeField (fieldOf (splitFields ((checkedBody ptbmpLine).get! : List Nat)) 2) 65535 = some (350 : Nat) ∧
    fieldOf (splitFields ((checkedBody ptbmpLine).get! : List Nat)) 3 = [] ∧
    fieldOf (splitFields ((checkedBody ptbmpLine).get! : List Nat)) 4 = [] ∧
    fieldOf (splitFields ((checkedBody ptbmpLine).get! : List Nat)) 5 = charsOf "A" := by decide +kernel

theorem meets_LaneCompare_1 : (linkState2 : State).clk.beats = true ∧ (linkState2 : State).clk.core = true ∧
    yardFenced (linkState2 : State) 2 = false ∧ yardFenced (linkState2 : State) 3 = false ∧
    laneDisagree (advance (beatCycle (linkState2 : State) 656000) (linkState2 : State)) (primaryResult linkState2 :
        LaneResult) = none
    := by decide +kernel
theorem meets_LaneCompare_2 : (holder linkState2 : State).clk.beats = true ∧
    (holder linkState2 : State).clk.core = true ∧ yardFenced (holder linkState2 : State) 2 = false ∧
    yardFenced (holder linkState2 : State) 3 = false ∧ failSilent (holder linkState2 : State) = false ∧
    laneDisagree (advance (beatCycle (holder linkState2 : State) 656000) (holder linkState2 : State))
        ({ primaryResult linkState2 with mode := 5 } : LaneResult) = some (1 : Nat)
    := by decide +kernel

theorem meets_UnitCompare_1 :
    ({ linkState2 with twin := { linkState2.twin with outDig := 5, exch := some ⟨0, 0, 0, 7, 0, 0, 5, 0⟩ } } :
        State).clk.beats = true ∧
    ({ linkState2 with twin := { linkState2.twin with outDig := 5, exch := some ⟨0, 0, 0, 7, 0, 0, 5, 0⟩ } } :
        State).clk.core = true ∧
    failSilent ({ linkState2 with twin := { linkState2.twin with outDig := 5, exch := some ⟨0, 0, 0, 7, 0, 0, 5, 0⟩ } } :
        State) = false ∧
    partnerNow ({ linkState2 with twin := { linkState2.twin with outDig := 5, exch := some ⟨0, 0, 0, 7, 0, 0, 5, 0⟩ } } :
        State) = some (⟨0, 0, 0, 7, 0, 0, 5, 0⟩ : Exchange) ∧
    (⟨0, 0, 0, 7, 0, 0, 5, 0⟩ : Exchange).outDig =
        ({ linkState2 with twin := { linkState2.twin with outDig := 5, exch := some ⟨0, 0, 0, 7, 0, 0, 5, 0⟩ } } :
        State).twin.outDig ∧
    ({ linkState2 with twin := { linkState2.twin with outDig := 5, exch := some ⟨0, 0, 0, 7, 0, 0, 5, 0⟩ } } :
        State).twin.remirror = false
    := by decide +kernel
theorem meets_UnitCompare_2 :
({ linkState2 with twin := { linkState2.twin with heldBeat := true, outDig := 5, exch := some ⟨0, 0, 0, 7, 0, 0, 6, 0⟩ } } :
        State).clk.beats = true ∧
({ linkState2 with twin := { linkState2.twin with heldBeat := true, outDig := 5, exch := some ⟨0, 0, 0, 7, 0, 0, 6, 0⟩ } } :
        State).clk.core = true ∧
    failSilent
        ({ linkState2 with twin := { linkState2.twin with heldBeat := true, outDig := 5, exch := some ⟨0, 0, 0, 7, 0, 0, 6, 0⟩ } }
        : State) = false ∧
    partnerNow
        ({ linkState2 with twin := { linkState2.twin with heldBeat := true, outDig := 5, exch := some ⟨0, 0, 0, 7, 0, 0, 6, 0⟩ } }
        : State) = some (⟨0, 0, 0, 7, 0, 0, 6, 0⟩ : Exchange) ∧
    (⟨0, 0, 0, 7, 0, 0, 6, 0⟩ : Exchange).outDig ≠
        ({ linkState2 with twin := { linkState2.twin with heldBeat := true, outDig := 5, exch := some ⟨0, 0, 0, 7, 0, 0, 6, 0⟩ } }
        : State).twin.outDig ∧
    actsAsHolder
        ({ linkState2 with twin := { linkState2.twin with heldBeat := true, outDig := 5, exch := some ⟨0, 0, 0, 7, 0, 0, 6, 0⟩ } }
        : State) (⟨0, 0, 0, 7, 0, 0, 6, 0⟩ : Exchange) = true
    := by decide +kernel
theorem meets_UnitCompare_3 :
    ({ linkState2 with twin := { linkState2.twin with permit := true, outDig := 5, exch := some ⟨2, 0, 0, 7, 0, 0, 6, 0⟩ } }
        : State).clk.beats = true ∧
    ({ linkState2 with twin := { linkState2.twin with permit := true, outDig := 5, exch := some ⟨2, 0, 0, 7, 0, 0, 6, 0⟩ } }
        : State).clk.core = true ∧
    failSilent
        ({ linkState2 with twin := { linkState2.twin with permit := true, outDig := 5, exch := some ⟨2, 0, 0, 7, 0, 0, 6, 0⟩ } }
        : State) = false ∧
    partnerNow
        ({ linkState2 with twin := { linkState2.twin with permit := true, outDig := 5, exch := some ⟨2, 0, 0, 7, 0, 0, 6, 0⟩ } }
        : State) = some (⟨2, 0, 0, 7, 0, 0, 6, 0⟩ : Exchange) ∧
    (⟨2, 0, 0, 7, 0, 0, 6, 0⟩ : Exchange).outDig ≠
        ({ linkState2 with twin := { linkState2.twin with permit := true, outDig := 5, exch := some ⟨2, 0, 0, 7, 0, 0, 6, 0⟩ } }
        : State).twin.outDig ∧
    actsAsHolder
        ({ linkState2 with twin := { linkState2.twin with permit := true, outDig := 5, exch := some ⟨2, 0, 0, 7, 0, 0, 6, 0⟩ } }
        : State) (⟨2, 0, 0, 7, 0, 0, 6, 0⟩ : Exchange) = false
    := by decide +kernel
theorem meets_UnitCompare_4 :
    ({ linkState2 with twin := { linkState2.twin with remirror := true, count := 3 } } : State).twin.remirror = true ∧
    3 ≤ ({ linkState2 with twin := { linkState2.twin with remirror := true, count := 3 } } : State).twin.count ∧
    failSilent ({ linkState2 with twin := { linkState2.twin with remirror := true, count := 3 } } : State) = false
    := by decide +kernel

theorem meets_ExchangeMessages_1 :
    ({ offeredState with twin := { offeredState.twin with handover := .idle } } : State).clk.beats = true ∧
    linkUsable ({ offeredState with twin := { offeredState.twin with handover := .idle } } : State) = true
    := by decide +kernel
theorem meets_ExchangeMessages_2 : linkUsable (linkState2 : State) = true ∧ (linkState2 : State).power.mode ≠ .bringUp ∧
    (linkState2 : State).clk.beats = true ∧ msgCrcOk (exchangeMsg runState : List Byte) = true ∧
    (exchangeMsg runState : List Byte).length = 64 ∧ byteAt (exchangeMsg runState : List Byte) 0 = 1 ∧
    byteAt (exchangeMsg runState : List Byte) 1 % 2 ≠ unitNumber (linkState2 : State) ∧
    (∀ x, (linkState2 : State).twin.partner = some x → x.beat ≠ leAt (exchangeMsg runState : List Byte) 4 4)
    := by decide +kernel
theorem meets_ExchangeMessages_3 : linkUsable (linkState2 : State) = true ∧
    msgCrcOk (zeroBytes 60 ++ bs [9, 9, 9, 9] : List Byte) = false := by decide +kernel
theorem meets_ExchangeMessages_4 : (linkState2 : State).clk.beats = true ∧ linkUsable (linkState2 : State) = true ∧
    (linkState2 : State).twin.heldBeat = false ∧ failSilent (linkState2 : State) = false := by decide +kernel
theorem meets_ExchangeMessages_5 : linkUsable (offeredState : State) = true ∧ (offeredState : State).clk.beats = true ∧
    (offeredState : State).twin.heldBeat = true ∧ failSilent (offeredState : State) = false ∧
    (7751000 : Nat) ≤ beatCycle (offeredState : State) 759999 ∧ msgCrcOk (ackMsg : List Byte) = true ∧
    (ackMsg : List Byte).length = 16 ∧ byteAt (ackMsg : List Byte) 0 = 2 ∧
    byteAt (ackMsg : List Byte) 1 % 2 ≠ unitNumber (offeredState : State) ∧
    leAt (ackMsg : List Byte) 4 4 = (offeredState : State).clk.beat ∧
    (offeredState : State).twin.sentLease = some (10 : Nat) ∧ leAt (ackMsg : List Byte) 8 4 = (10 : Nat)
    := by decide +kernel
theorem meets_ExchangeMessages_6 : (offeredState : State).clk.beats = true ∧ (offeredState : State).clk.core = true
    := by decide +kernel

theorem meets_MirrorAndForwarded_1 : (mirrorState : State).clk.beats = true ∧ (mirrorState : State).clk.core = true ∧
    (mirrorState : State).twin.heldBeat = false ∧ failSilent (mirrorState : State) = false ∧
    mirrorIsDue (mirrorState : State) = true ∧ (mirrorRx : MirrorRx).complete = true ∧ (mirrorRx : MirrorRx).good = true ∧
    (mirrorState : State).clk.cycle ≤ beatCycle (mirrorState : State) 759999 ∧
    (mirrorState : State).arb.cycle < beatCycle (mirrorState : State) 759999 := by decide +kernel
theorem meets_MirrorAndForwarded_2 : (mirrorState : State).clk.beats = true ∧ (mirrorState : State).clk.core = true ∧
    (mirrorState : State).twin.heldBeat = false ∧ failSilent (mirrorState : State) = false ∧
    mirrorIsDue (mirrorState : State) = true ∧
    ({ mirrorRx with good := false } : MirrorRx).complete = false ∨ ({ mirrorRx with good := false } : MirrorRx).good = false
    := by decide +kernel
theorem meets_MirrorAndForwarded_3 : (linkState2 : State).twin.holds = false ∧ failSilent (linkState2 : State) = false ∧
    (linkState2 : State).power.mode = .run ∧ (linkState2 : State).clk.beats = true ∧
    linkUsable (linkState2 : State) = true ∧ (⟨7, 590000, 0, 0, 0x1A, bs [1, 1, 0, 0]⟩ : CommitMarker).status = stOk ∧
    forwardSpec (⟨7, 590000, 0, 0, 0x1A, bs [1, 1, 0, 0]⟩ : CommitMarker).opcode.toNat = some (opLossModeSet : OpSpec) ∧
    (linkState2 : State).arb.cycle ≠ (advance (7600000 : Nat) (linkState2 : State)).clk.cycle ∧
    beatDiff (linkState2 : State).clk.beat (⟨7, 590000, 0, 0, 0x1A, bs [1, 1, 0, 0]⟩ : CommitMarker).beat ≤ 0
    := ⟨by decide +kernel, by decide +kernel, by decide +kernel, by decide +kernel, by decide +kernel, by decide +kernel,
        rfl, by decide +kernel, by decide +kernel⟩
theorem meets_MirrorAndForwarded_4 :
    ({ linkState2 with clk := { linkState2.clk with cycle := 7000000 } } : State).twin.holds = false ∧
    failSilent ({ linkState2 with clk := { linkState2.clk with cycle := 7000000 } } : State) = false ∧
    ({ linkState2 with clk := { linkState2.clk with cycle := 7000000 } } : State).power.mode = .run ∧
    ({ linkState2 with clk := { linkState2.clk with cycle := 7000000 } } : State).clk.beats = true ∧
    linkUsable ({ linkState2 with clk := { linkState2.clk with cycle := 7000000 } } : State) = true ∧
    beatDiff ({ linkState2 with clk := { linkState2.clk with cycle := 7000000 } } : State).clk.beat (⟨6, 990000, 0, 0, 0x1A,
        bs [1, 1, 0, 0]⟩ : CommitMarker).beat = 1 ∧
    (advance (7000900 : Nat) ({ linkState2 with clk := { linkState2.clk with cycle := 7000000 } } : State)).clk.cycle -
        ({ linkState2 with clk := { linkState2.clk with cycle := 7000000 } } : State).clk.beatBase ≤ 1031
    := by decide +kernel
theorem meets_MirrorAndForwarded_5 : (linkState2 : State).twin.holds = false ∧ failSilent (linkState2 : State) = false ∧
    (linkState2 : State).power.mode = .run ∧ (linkState2 : State).clk.beats = true ∧
    linkUsable (linkState2 : State) = true ∧
    1 ≤ beatDiff (linkState2 : State).clk.beat (⟨6, 590000, 0x24, 0, 0x1A, bs [1, 1, 0, 0]⟩ : CommitMarker).beat ∧
    2 ≤ beatDiff (linkState2 : State).clk.beat (⟨6, 590000, 0x24, 0, 0x1A, bs [1, 1, 0, 0]⟩ : CommitMarker).beat ∨ 1031 <
        (advance (7600000 : Nat) (linkState2 : State)).clk.cycle - (linkState2 : State).clk.beatBase
    := by decide +kernel
theorem meets_MirrorAndForwarded_6 : (linkState2 : State).twin.holds = false ∧ failSilent (linkState2 : State) = false ∧
    (linkState2 : State).power.mode = .run ∧ (linkState2 : State).clk.beats = true ∧
    linkUsable (linkState2 : State) = true ∧ (⟨7, 590000, 0x24, 0, 0x1A, bs [1, 1, 0, 0]⟩ : CommitMarker).status ≠ stOk ∧
    beatDiff (linkState2 : State).clk.beat (⟨7, 590000, 0x24, 0, 0x1A, bs [1, 1, 0, 0]⟩ : CommitMarker).beat ≤ 0
    := by decide +kernel
theorem meets_MirrorAndForwarded_7 : (linkState2 : State).twin.holds = false ∧ failSilent (linkState2 : State) = false ∧
    (linkState2 : State).power.mode = .run ∧ (linkState2 : State).clk.beats = true ∧
    linkUsable (linkState2 : State) = true ∧ linkState (linkState2 : State) ≠ 2 := by decide +kernel

theorem meets_LinkAndAlignment_1 : (linkState2 : State).clk.core = true ∧ yardFenced (linkState2 : State) 7 = false ∧
    (.align : PairLoss) = .align ∧ (vget (linkState2 : State).twin.pairs (1 : Fin 2)).up = true := by decide +kernel
theorem meets_LinkAndAlignment_2 : (linkState2 : State).clk.core = true ∧ yardFenced (linkState2 : State) 7 = false ∧
    (.codes 3 : PairLoss) = .codes (3 : Nat) ∧ (3 : Nat) < 16 := by decide +kernel
theorem meets_LinkAndAlignment_3 :
    (vget
        ({ linkState2 with twin := { linkState2.twin with pairs := vset linkState2.twin.pairs 1 ⟨false, 100, 0, true, false⟩ } }
        : State).twin.pairs (1 : Fin 2)).up = false ∧
    100 ≤ (vget
        ({ linkState2 with twin := { linkState2.twin with pairs := vset linkState2.twin.pairs 1 ⟨false, 100, 0, true, false⟩ } }
        : State).twin.pairs (1 : Fin 2)).good ∧
    yardFenced
        ({ linkState2 with twin := { linkState2.twin with pairs := vset linkState2.twin.pairs 1 ⟨false, 100, 0, true, false⟩ } }
        : State) 7 = false
    := by decide +kernel
theorem meets_LinkAndAlignment_4 : linkUsable (linkState2 : State) = true ∧
    (⟨true, 1, 7, 400⟩ : BeatMarkerMsg).crcOk = true ∧
    (⟨true, 1, 7, 400⟩ : BeatMarkerMsg).unit % 2 ≠ unitNumber (linkState2 : State) ∧
    (linkState2 : State).power.mode ≠ .bringUp ∧ (linkState2 : State).clk.beats = true ∧
    (∀ x, (linkState2 : State).twin.marker = some x → x.1 ≠ (⟨true, 1, 7, 400⟩ : BeatMarkerMsg).beat) := by decide +kernel
theorem meets_LinkAndAlignment_5 :
    ({ wrFld linkState2 0x1102 1 0 2 with twin := { linkState2.twin with marker := some (7, 7000020) } } : State).clk.beats
        = true ∧
    ({ wrFld linkState2 0x1102 1 0 2 with twin := { linkState2.twin with marker := some (7, 7000020) } } : State).clk.core =
        true ∧
    2 ≤ fld ({ wrFld linkState2 0x1102 1 0 2 with twin := { linkState2.twin with marker := some (7, 7000020) } } : State)
        0x1102 1 0 ∧
    ({ wrFld linkState2 0x1102 1 0 2 with twin := { linkState2.twin with marker := some (7, 7000020) } } :
        State).twin.marker = some ((7, 7000020) : Nat × Nat) ∧
    ((7, 7000020) : Nat × Nat).1 =
        ({ wrFld linkState2 0x1102 1 0 2 with twin := { linkState2.twin with marker := some (7, 7000020) } } :
        State).clk.beat
    := by decide +kernel
theorem meets_LinkAndAlignment_6 : (wrFld linkState2 0x1102 1 0 2 : State).clk.beats = true ∧
    (wrFld linkState2 0x1102 1 0 2 : State).clk.core = true ∧ 2 ≤ fld (wrFld linkState2 0x1102 1 0 2 : State) 0x1102 1 0 ∧
    (∀ x, (wrFld linkState2 0x1102 1 0 2 : State).twin.marker = some x → x.1 ≠ (wrFld linkState2 0x1102 1 0 2 : State).clk.beat)
    := by decide +kernel
theorem meets_LinkAndAlignment_7 :
    3 ≤ ({ wrFld linkState2 0x1102 1 0 2 with twin := { linkState2.twin with missed := 3 } } : State).twin.missed ∧
    fld ({ wrFld linkState2 0x1102 1 0 2 with twin := { linkState2.twin with missed := 3 } } : State) 0x1102 1 0 = 2
    := by decide +kernel

theorem meets_HalterEvents_1 :
    ({ linkState2 with twin := { linkState2.twin with lp := some 5 } } : State).clk.beats = true ∧
    inRun ({ linkState2 with twin := { linkState2.twin with lp := some 5 } } : State) = true ∧
    mayExpire ({ linkState2 with twin := { linkState2.twin with lp := some 5 } } : State).clk.beat
        ({ linkState2 with twin := { linkState2.twin with lp := some 5 } } : State) = true
    := by decide +kernel
theorem meets_HalterEvents_2 :
    ({ linkState2 with twin := { linkState2.twin with holds := true, lc := none } } : State).clk.beats = true ∧
    ({ linkState2 with twin := { linkState2.twin with holds := true, lc := none } } : State).twin.holds = true ∧
    (∀ x, ({ linkState2 with twin := { linkState2.twin with holds := true, lc := none } } : State).twin.lc = some x → 0 ≤
        beatDiff ({ linkState2 with twin := { linkState2.twin with holds := true, lc := none } } : State).clk.beat x)
    := by decide +kernel
theorem meets_HalterEvents_3 :
({ linkState2 with regs := regSet linkState2.regs 0x1400 0x300, twin := { linkState2.twin with lp := none, aloneFrom := some 2 } }
        : State).clk.beats = true ∧
    inRun
        ({ linkState2 with regs := regSet linkState2.regs 0x1400 0x300, twin := { linkState2.twin with lp := none, aloneFrom := some 2 } }
        : State) = true ∧
({ linkState2 with regs := regSet linkState2.regs 0x1400 0x300, twin := { linkState2.twin with lp := none, aloneFrom := some 2 } }
        : State).twin.holds = false ∧
    failSilent
        ({ linkState2 with regs := regSet linkState2.regs 0x1400 0x300, twin := { linkState2.twin with lp := none, aloneFrom := some 2 } }
        : State) = false ∧
({ linkState2 with regs := regSet linkState2.regs 0x1400 0x300, twin := { linkState2.twin with lp := none, aloneFrom := some 2 } }
        : State).twin.lp = none ∧
({ linkState2 with regs := regSet linkState2.regs 0x1400 0x300, twin := { linkState2.twin with lp := none, aloneFrom := some 2 } }
        : State).twin.aloneFrom = some (2 : Nat) ∧
    (fld
        ({ linkState2 with regs := regSet linkState2.regs 0x1400 0x300, twin := { linkState2.twin with lp := none, aloneFrom := some 2 } }
        : State) 0x1400 15 8 : Int) * (1 + unitNumber
        ({ linkState2 with regs := regSet linkState2.regs 0x1400 0x300, twin := { linkState2.twin with lp := none, aloneFrom := some 2 } }
        : State)) ≤ beatDiff
        ({ linkState2 with regs := regSet linkState2.regs 0x1400 0x300, twin := { linkState2.twin with lp := none, aloneFrom := some 2 } }
        : State).clk.beat (2 : Nat)
    := by decide +kernel
theorem meets_HalterEvents_4 :
    ({ linkState2 with clk := { linkState2.clk with beat := 104 }, twin := { linkState2.twin with request := some 3 } } :
        State).twin.request = some (3 : Nat) ∧
    100 ≤ beatDiff
        ({ linkState2 with clk := { linkState2.clk with beat := 104 }, twin := { linkState2.twin with request := some 3 } }
        : State).clk.beat (3 : Nat)
    := by decide +kernel
theorem meets_HalterEvents_5 :
    ({ linkState2 with twin := { linkState2.twin with present := true } } : State).clk.beats = true ∧
    ({ linkState2 with twin := { linkState2.twin with present := true } } : State).clk.core = true ∧
    presentAt ({ linkState2 with twin := { linkState2.twin with present := true } } : State).clk.beat
        ({ linkState2 with twin := { linkState2.twin with present := true } } : State) ≠
        ({ linkState2 with twin := { linkState2.twin with present := true } } : State).twin.present
    := by decide +kernel
theorem meets_HalterEvents_6 : flag (hbState : State) (canId (1 : Fin 4).val 0) 14 = true ∧
    canHears (hbState : State) (1 : Fin 4) = true ∧ (hbFrame : CanFrame).remote = false ∧
    (hbState : State).power.mode ≠ .bringUp ∧ (hbState : State).clk.beats = true ∧
    frameIdWord (hbFrame : CanFrame) = rd (hbState : State) (canId (1 : Fin 4).val 5) + BitVec.ofNat 32 (1 - unitNumber
        (hbState : State)) ∧
    (hbFrame : CanFrame).fd = true ∧ (hbFrame : CanFrame).data.length = 16 ∧ byteAt (hbFrame : CanFrame).data 0 = 1 ∧
    frameCrc ((hbFrame : CanFrame).data.take 14) = leAt (hbFrame : CanFrame).data 14 2 ∧
    byteAt (hbFrame : CanFrame).data 1 % 2 ≠ unitNumber (hbState : State) := by decide +kernel

theorem meets_CanControllers_1 : canSends (txState : State) (1 : Fin 4) = true ∧
    offered (canAt (txState : State) (1 : Fin 4).val) = some (sendEntry : TxEntry) ∧
    (sendEntry : TxEntry).fd = false ∨ sflag (txState : State) (canId (1 : Fin 4).val 0) 4 = false ∨ (9 : Nat) + sfld
        (txState : State) (canId (1 : Fin 4).val 3) 6 0 ≤ 255
    := by decide +kernel
theorem meets_CanControllers_2 :
    canSends
        ({ txState with snap := [(0x7040, 0x11#32), (0x7043, 0x14#32)], can := vupd txState.can 1 fun u => { u with queue := [{ sendEntry with fd := true }] } }
        : State) (1 : Fin 4) = true ∧
    offered (canAt
        ({ txState with snap := [(0x7040, 0x11#32), (0x7043, 0x14#32)], can := vupd txState.can 1 fun u => { u with queue := [{ sendEntry with fd := true }] } }
        : State) (1 : Fin 4).val) = some ({ sendEntry with fd := true } : TxEntry) ∧
    ({ sendEntry with fd := true } : TxEntry).fd = true ∧
    sflag
        ({ txState with snap := [(0x7040, 0x11#32), (0x7043, 0x14#32)], can := vupd txState.can 1 fun u => { u with queue := [{ sendEntry with fd := true }] } }
        : State) (canId (1 : Fin 4).val 0) 4 = true ∧
    255 < (250 : Nat) + sfld
        ({ txState with snap := [(0x7040, 0x11#32), (0x7043, 0x14#32)], can := vupd txState.can 1 fun u => { u with queue := [{ sendEntry with fd := true }] } }
        : State) (canId (1 : Fin 4).val 3) 6 0 ∧
    (canAt
        ({ txState with snap := [(0x7040, 0x11#32), (0x7043, 0x14#32)], can := vupd txState.can 1 fun u => { u with queue := [{ sendEntry with fd := true }] } }
        : State) (1 : Fin 4).val).tec + 8 ≤ 255
    := by decide +kernel
theorem meets_CanControllers_3 : canSends (txState : State) (1 : Fin 4) = true ∧
    offered (canAt (txState : State) (1 : Fin 4).val) = some (sendEntry : TxEntry) ∧
    passive (canAt (txState : State) (1 : Fin 4).val) = false ∧ (canAt (txState : State) (1 : Fin 4).val).tec + 8 ≤ 255
    := by decide +kernel
theorem meets_CanControllers_4 : canSends (txState : State) (1 : Fin 4) = true ∧
    offered (canAt (txState : State) (1 : Fin 4).val) = some (sendEntry : TxEntry) ∧
    (enterClash (1 : Fin 4).val (sendEntry : TxEntry) (advance (7600000 : Nat) (txState : State))).2.2 = false ∧
    (canAt (txState : State) (1 : Fin 4).val).tec + 8 ≤ 255 := by decide +kernel
theorem meets_CanControllers_5 :
    canSends
        ({ txState with can := vupd txState.can 1 fun u => { u with table := vset u.table 2 (some ⟨0x123, false, false, [6, 5]⟩) } }
        : State) (1 : Fin 4) = true ∧
    offered (canAt
        ({ txState with can := vupd txState.can 1 fun u => { u with table := vset u.table 2 (some ⟨0x123, false, false, [6, 5]⟩) } }
        : State) (1 : Fin 4).val) = some (sendEntry : TxEntry) ∧
    (enterClash (1 : Fin 4).val (sendEntry : TxEntry) (advance (7600000 : Nat)
        ({ txState with can := vupd txState.can 1 fun u => { u with table := vset u.table 2 (some ⟨0x123, false, false, [6, 5]⟩) } }
        : State))).2.2 = true
    := by decide +kernel
theorem meets_CanControllers_6 : canHears (txState : State) (1 : Fin 4) = true ∧
    listenOnly (txState : State) (1 : Fin 4).val = false ∧ (⟨2, false, true, none⟩ : CanError).sent = false
    := by decide +kernel
theorem meets_CanControllers_7 :
    (vget ({ txState with can := vupd txState.can 1 fun u => { u with busOff := true, tec := 256 } } : State).can (1 : Fin
        4)).busOff = true ∧
    blockDown ({ txState with can := vupd txState.can 1 fun u => { u with busOff := true, tec := 256 } } : State) 7 (1 : Fin
        4).val = false
    := by decide +kernel
theorem meets_CanControllers_8 :
    (vget ({ txState with can := vupd txState.can 1 fun u => { u with integ := true } } : State).can (1 : Fin 4)).integ = true ∧
    (vget ({ txState with can := vupd txState.can 1 fun u => { u with integ := true } } : State).can (1 : Fin 4)).busOff = false
    := by decide +kernel
theorem meets_CanControllers_9 :
    ({ runState with snap := [(0x7040, regGet [] 0x7040 ||| 1#32)] } : State).clk.beats = true ∧
    sflag ({ runState with snap := [(0x7040, regGet [] 0x7040 ||| 1#32)] } : State) (canId (1 : Fin 4).val 0) 0 = true ∧
    (vget ({ runState with snap := [(0x7040, regGet [] 0x7040 ||| 1#32)] } : State).can (1 : Fin 4)).on = false ∧
    blockDown ({ runState with snap := [(0x7040, regGet [] 0x7040 ||| 1#32)] } : State) 7 (1 : Fin 4).val = false
    := by decide +kernel
theorem meets_CanControllers_10 : (txState : State).clk.beats = true ∧
    sflag (txState : State) (canId (1 : Fin 4).val 0) 0 = false ∧ (vget (txState : State).can (1 : Fin 4)).on = true ∧
    (false : Bool) = false := by decide +kernel
theorem meets_CanControllers_11 : canHears (txState : State) (1 : Fin 4) = true ∧
    listenOnly (txState : State) (1 : Fin 4).val = false ∧ (canAt (txState : State) (1 : Fin 4).val).rec_ ≤ 127
    := by decide +kernel
theorem meets_CanControllers_12 :
    canHears ({ txState with can := vupd txState.can 1 fun u => { u with rec_ := 200 } } : State) (1 : Fin 4) = true ∧
    listenOnly ({ txState with can := vupd txState.can 1 fun u => { u with rec_ := 200 } } : State) (1 : Fin 4).val = false ∧
    127 < (canAt ({ txState with can := vupd txState.can 1 fun u => { u with rec_ := 200 } } : State) (1 : Fin 4).val).rec_
    := by decide +kernel

theorem meets_EthernetPorts_1 : flag (runState : State) (ethId (1 : Fin 2) 5) 0 ≠ (true : Bool) := by decide +kernel
theorem meets_EthernetPorts_2 : ethOn (ptpState : State) (0 : Fin 2) = true ∧
    (⟨.own, 100, false, true, true, false, 3⟩ : EthFrame).length ≤ 1518 ∧
    (⟨.own, 100, false, true, true, false, 3⟩ : EthFrame).vlan = false ∧
    (⟨.own, 100, false, true, true, false, 3⟩ : EthFrame).fcsOk = true ∧
    ethAccepts (ptpState : State) (0 : Fin 2) (⟨.own, 100, false, true, true, false, 3⟩ : EthFrame).dest = true ∧
    (⟨.own, 100, false, true, true, false, 3⟩ : EthFrame).held < 32 ∧
    (⟨.own, 100, false, true, true, false, 3⟩ : EthFrame).sumsOk = true ∧
    (⟨.own, 100, false, true, true, false, 3⟩ : EthFrame).fragOther = false := by decide +kernel
theorem meets_EthernetPorts_3 : ethOn (ptpState : State) (0 : Fin 2) = true ∧
    1518 < (⟨.own, 100, false, false, true, false, 3⟩ : EthFrame).length ∨ (⟨.own, 100, false, false, true, false, 3⟩ :
        EthFrame).vlan = true ∨ (⟨.own, 100, false, false, true, false, 3⟩ : EthFrame).fcsOk = false
    := by decide +kernel
theorem meets_EthernetPorts_4 : ethOn (ptpState : State) (0 : Fin 2) = true ∧
    (⟨.own, 100, false, true, true, false, 32⟩ : EthFrame).length ≤ 1518 ∧
    (⟨.own, 100, false, true, true, false, 32⟩ : EthFrame).vlan = false ∧
    (⟨.own, 100, false, true, true, false, 32⟩ : EthFrame).fcsOk = true ∧
    ethAccepts (ptpState : State) (0 : Fin 2) (⟨.own, 100, false, true, true, false, 32⟩ : EthFrame).dest = true ∧
    32 ≤ (⟨.own, 100, false, true, true, false, 32⟩ : EthFrame).held := by decide +kernel
theorem meets_EthernetPorts_5 : ethOn (wr ptpState 0x7101 0xC0A80005 : State) (0 : Fin 2) = true ∧
    (0xC0A80005 : Word) ≠ 0 ∧ rd (wr ptpState 0x7101 0xC0A80005 : State) (ethId (0 : Fin 2) 1) = (0xC0A80005 : Word)
    := by decide +kernel
theorem meets_EthernetPorts_6 :
    ethOn (wrAll ptpState [(0x7100, 3#32), (0x7101, 0xC0A80005#32)] : State) (pingPeer : Peer).eth = true ∧
    flag (wrAll ptpState [(0x7100, 3#32), (0x7101, 0xC0A80005#32)] : State) (ethId (pingPeer : Peer).eth 0) 1 = true ∧
    (0xC0A80005 : Word) ≠ 0 ∧
    rd (wrAll ptpState [(0x7100, 3#32), (0x7101, 0xC0A80005#32)] : State) (ethId (pingPeer : Peer).eth 1) = (0xC0A80005 :
        Word) ∧
    ([1, 2] : List Byte).length ≤ 1472 := by decide +kernel
theorem meets_EthernetPorts_7 :
    ethOn (wrAll ptpState [(0x7100, 0x50001#32), (0x7101, 0xC0A80005#32)] : State) (0 : Fin 2) = true ∧
    rd (wrAll ptpState [(0x7100, 0x50001#32), (0x7101, 0xC0A80005#32)] : State) (ethId (0 : Fin 2) 1) ≠ 0
    := by decide +kernel
theorem meets_EthernetPorts_8 :
    (vget ({ ptpState with eth := vupd ptpState.eth 0 fun p => { p with txq := [(7000000, .igmpReport 2)] } } : State).eth
        (0 : Fin 2)).txq = ((7000000, .igmpReport 2) : Nat × EthTx) :: ([] : List (Nat × EthTx))
    := by decide +kernel

theorem meets_PtpMessages_1 :
    ptpHears (parentState : State) (1 : Fin 2) (0 : Fin 2) (annMsg : AnnounceMsg).transport = true ∧
    (annMsg : AnnounceMsg).formatOk = true ∧ (annMsg : AnnounceMsg).domain = slotDomain (parentState : State) (1 : Fin 2)
    := by decide +kernel
theorem meets_PtpMessages_2 :
    ptpHears (parentState : State) (1 : Fin 2) (0 : Fin 2) ({ annMsg with formatOk := false } : AnnounceMsg).transport = true ∧
    ({ annMsg with formatOk := false } : AnnounceMsg).formatOk = false := by decide +kernel
theorem meets_PtpMessages_3 : (vget (parentState : State).time.slot (1 : Fin 2)).parent = some (heard : Foreign) ∧
    (heard : Foreign).latest + 3 * logCycles (heard : Foreign).ann.logInt ≤ (advance (400000000 : Nat) (parentState :
        State)).clk.cycle
    := by decide +kernel
theorem meets_PtpMessages_4 :
    ptpHears (parentState : State) (1 : Fin 2) (0 : Fin 2) (syncMsg : PtpMsg).transport = true ∧
    (syncMsg : PtpMsg).formatOk = true ∧ (syncMsg : PtpMsg).domain = slotDomain (parentState : State) (1 : Fin 2) ∧
    fromParent (vget (parentState : State).time.slot (1 : Fin 2)) (0 : Fin 2) (syncMsg : PtpMsg) = true ∧
    (syncMsg : PtpMsg).twoStep = true := by decide +kernel
theorem meets_PtpMessages_5 :
    ptpHears
        ({ parentState with time := { parentState.time with slot := vupd parentState.time.slot 1 fun x => { x with sync := some ⟨77, 7590000, 75900000, 3⟩ } } }
        : State) (1 : Fin 2) (0 : Fin 2) (syncMsg : PtpMsg).transport = true ∧
    (syncMsg : PtpMsg).formatOk = true ∧
    (syncMsg : PtpMsg).domain = slotDomain
        ({ parentState with time := { parentState.time with slot := vupd parentState.time.slot 1 fun x => { x with sync := some ⟨77, 7590000, 75900000, 3⟩ } } }
        : State) (1 : Fin 2) ∧
    fromParent (vget
        ({ parentState with time := { parentState.time with slot := vupd parentState.time.slot 1 fun x => { x with sync := some ⟨77, 7590000, 75900000, 3⟩ } } }
        : State).time.slot (1 : Fin 2)) (0 : Fin 2) (syncMsg : PtpMsg) = true ∧
    (vget
        ({ parentState with time := { parentState.time with slot := vupd parentState.time.slot 1 fun x => { x with sync := some ⟨77, 7590000, 75900000, 3⟩ } } }
        : State).time.slot (1 : Fin 2)).sync = some (⟨77, 7590000, 75900000, 3⟩ : PendingSync) ∧
    (⟨77, 7590000, 75900000, 3⟩ : PendingSync).seq = (syncMsg : PtpMsg).seq ∧
    (advance (7600000 : Nat)
        ({ parentState with time := { parentState.time with slot := vupd parentState.time.slot 1 fun x => { x with sync := some ⟨77, 7590000, 75900000, 3⟩ } } }
        : State)).clk.cycle ≤ (⟨77, 7590000, 75900000, 3⟩ : PendingSync).cross + 10000000
    := by decide +kernel
theorem meets_PtpMessages_6 :
    ptpHears
        ({ parentState with time := { parentState.time with slot := vupd parentState.time.slot 1 fun x => { x with sync := some ⟨77, 7590000, 75900000, 3⟩ } } }
        : State) (1 : Fin 2) (0 : Fin 2) ({ syncMsg with seq := 5 } : PtpMsg).transport = true ∧
    ({ syncMsg with seq := 5 } : PtpMsg).formatOk = true ∧
    ({ syncMsg with seq := 5 } : PtpMsg).domain = slotDomain
        ({ parentState with time := { parentState.time with slot := vupd parentState.time.slot 1 fun x => { x with sync := some ⟨77, 7590000, 75900000, 3⟩ } } }
        : State) (1 : Fin 2) ∧
    fromParent (vget
        ({ parentState with time := { parentState.time with slot := vupd parentState.time.slot 1 fun x => { x with sync := some ⟨77, 7590000, 75900000, 3⟩ } } }
        : State).time.slot (1 : Fin 2)) (0 : Fin 2) ({ syncMsg with seq := 5 } : PtpMsg) = true ∧
    (vget
        ({ parentState with time := { parentState.time with slot := vupd parentState.time.slot 1 fun x => { x with sync := some ⟨77, 7590000, 75900000, 3⟩ } } }
        : State).time.slot (1 : Fin 2)).sync = some (⟨77, 7590000, 75900000, 3⟩ : PendingSync) ∧
    (⟨77, 7590000, 75900000, 3⟩ : PendingSync).seq ≠ ({ syncMsg with seq := 5 } : PtpMsg).seq ∨ (⟨77, 7590000, 75900000, 3⟩
        : PendingSync).cross + 10000000 < (advance (7600000 : Nat)
        ({ parentState with time := { parentState.time with slot := vupd parentState.time.slot 1 fun x => { x with sync := some ⟨77, 7590000, 75900000, 3⟩ } } }
        : State)).clk.cycle
    := by decide +kernel
theorem meets_PtpMessages_7 :
    ptpHears
        ({ parentState with time := { parentState.time with slot := vupd parentState.time.slot 1 fun x => { x with req := some ⟨77, some 75000000⟩, diff := some 400 } } }
        : State) (1 : Fin 2) (0 : Fin 2) (syncMsg : PtpMsg).transport = true ∧
    (syncMsg : PtpMsg).formatOk = true ∧
    (syncMsg : PtpMsg).domain = slotDomain
        ({ parentState with time := { parentState.time with slot := vupd parentState.time.slot 1 fun x => { x with req := some ⟨77, some 75000000⟩, diff := some 400 } } }
        : State) (1 : Fin 2) ∧
    fromParent (vget
        ({ parentState with time := { parentState.time with slot := vupd parentState.time.slot 1 fun x => { x with req := some ⟨77, some 75000000⟩, diff := some 400 } } }
        : State).time.slot (1 : Fin 2)) (0 : Fin 2) (syncMsg : PtpMsg) = true ∧
    (syncMsg : PtpMsg).toSlot = true ∧
    (vget
        ({ parentState with time := { parentState.time with slot := vupd parentState.time.slot 1 fun x => { x with req := some ⟨77, some 75000000⟩, diff := some 400 } } }
        : State).time.slot (1 : Fin 2)).req = some (⟨77, some 75000000⟩ : DelayReq) ∧
    (⟨77, some 75000000⟩ : DelayReq).seq = (syncMsg : PtpMsg).seq ∧
    (⟨77, some 75000000⟩ : DelayReq).t3 = some (75000000 : Int) ∧
    (vget
        ({ parentState with time := { parentState.time with slot := vupd parentState.time.slot 1 fun x => { x with req := some ⟨77, some 75000000⟩, diff := some 400 } } }
        : State).time.slot (1 : Fin 2)).diff = some (400 : Int)
    := by decide +kernel
theorem meets_PtpMessages_8 : (vget (parentState : State).time.slot (1 : Fin 2)).parent = some (heard : Foreign) ∧
    (vget (parentState : State).time.slot (1 : Fin 2)).reqBeat = some (parentState : State).clk.beat ∧
    (parentState : State).clk.beats = true := by decide +kernel

theorem meets_TimeSlots_1 :
    (vget (slotState 2 : State).time.slot (1 : Fin 2)).run = some (⟨2000000, 100, 1001000000, 300⟩ : AcqRun) ∧
    (advance ((⟨2000000, 100, 1001000000, 300⟩ : AcqRun).start + 1000000000) (slotState 2 : State)).clk.cycle < (⟨2000000,
        100, 1001000000, 300⟩ : AcqRun).latest + 100000000 ∧
    (⟨2000000, 100, 1001000000, 300⟩ : AcqRun).start + 1000000000 ≤ (advance ((⟨2000000, 100, 1001000000, 300⟩ :
        AcqRun).start + 1000000000) (slotState 2 : State)).clk.cycle ∧
    (vget (slotState 2 : State).time.slot (1 : Fin 2)).state ≠ 3 ∧
    (⟨2000000, 100, 1001000000, 300⟩ : AcqRun).theta.natAbs ≤ 50000 := by decide +kernel
theorem meets_TimeSlots_2 :
    (vget (slotState 3 : State).time.slot (1 : Fin 2)).run = some (⟨2000000, 100, 1001000000, 300⟩ : AcqRun) ∧
    (advance ((⟨2000000, 100, 1001000000, 300⟩ : AcqRun).start + 1000000000) (slotState 3 : State)).clk.cycle < (⟨2000000,
        100, 1001000000, 300⟩ : AcqRun).latest + 100000000 ∧
    (⟨2000000, 100, 1001000000, 300⟩ : AcqRun).start + 1000000000 ≤ (advance ((⟨2000000, 100, 1001000000, 300⟩ :
        AcqRun).start + 1000000000) (slotState 3 : State)).clk.cycle ∧
    (vget (slotState 3 : State).time.slot (1 : Fin 2)).state = 3 ∨ 50000 < (⟨2000000, 100, 1001000000, 300⟩ :
        AcqRun).theta.natAbs
    := by decide +kernel
theorem meets_TimeSlots_3 :
    (vget (slotState 2 : State).time.slot (1 : Fin 2)).run = some (⟨2000000, 100, 1001000000, 300⟩ : AcqRun)
    := by decide +kernel
theorem meets_TimeSlots_4 : (vget (slotState 0 : State).time.slot (1 : Fin 2)).state = 0 := by decide +kernel
theorem meets_TimeSlots_5 : (vget (slotState 1 : State).time.slot (1 : Fin 2)).state = 1 := by decide +kernel
theorem meets_TimeSlots_6 :
    (vget
        ({ runState with clk := { runState.clk with lambda := 0 }, time := { runState.time with slot := vupd runState.time.slot 1 fun x => { x with step := some (500, 7400000, 0) } } }
        : State).time.slot (1 : Fin 2)).step = some ((500, 7400000, 0) : Int × Nat × Int) ∧
    atWholeSecond (advance (0 : Nat)
        ({ runState with clk := { runState.clk with lambda := 0 }, time := { runState.time with slot := vupd runState.time.slot 1 fun x => { x with step := some (500, 7400000, 0) } } }
        : State)) (slotTime (advance (0 : Nat)
        ({ runState with clk := { runState.clk with lambda := 0 }, time := { runState.time with slot := vupd runState.time.slot 1 fun x => { x with step := some (500, 7400000, 0) } } }
        : State)) (1 : Fin 2)) = true
    := by decide +kernel
theorem meets_TimeSlots_7 :
    flag
        ({ wr runState 0x7200 2 with time := { runState.time with slot := vset (vupd runState.time.slot 0 fun x => { x with state := 2 }) 1 { vget runState.time.slot 0 with state := 0 } } }
        : State) 0x7200 1 = true ∧
    (vget
        ({ wr runState 0x7200 2 with time := { runState.time with slot := vset (vupd runState.time.slot 0 fun x => { x with state := 2 }) 1 { vget runState.time.slot 0 with state := 0 } } }
        : State).time.slot
        ({ wr runState 0x7200 2 with time := { runState.time with slot := vset (vupd runState.time.slot 0 fun x => { x with state := 2 }) 1 { vget runState.time.slot 0 with state := 0 } } }
        : State).time.active).state ≠ 0 ∧
    (1 : Fin 2) ≠
        ({ wr runState 0x7200 2 with time := { runState.time with slot := vset (vupd runState.time.slot 0 fun x => { x with state := 2 }) 1 { vget runState.time.slot 0 with state := 0 } } }
        : State).time.active ∧
    (vget
        ({ wr runState 0x7200 2 with time := { runState.time with slot := vset (vupd runState.time.slot 0 fun x => { x with state := 2 }) 1 { vget runState.time.slot 0 with state := 0 } } }
        : State).time.slot (1 : Fin 2)).state = 0
    := by decide +kernel
theorem meets_TimeSlots_8 :
({ runState with clk := { runState.clk with lambda := 0 }, time := { runState.time with held := true, sigma := 5000000 } } :
        State).time.held = true ∧
    atWholeSecond (advance (0 : Nat)
        ({ runState with clk := { runState.clk with lambda := 0 }, time := { runState.time with held := true, sigma := 5000000 } }
        : State)) (slotTime (advance (0 : Nat)
        ({ runState with clk := { runState.clk with lambda := 0 }, time := { runState.time with held := true, sigma := 5000000 } }
        : State))
        ({ runState with clk := { runState.clk with lambda := 0 }, time := { runState.time with held := true, sigma := 5000000 } }
        : State).time.active) = true
    := by decide +kernel
theorem meets_TimeSlots_9 : (runState : State).time.held = false ∧
    sigmaNow (advance (7600000 : Nat) (runState : State)) = 0 := by decide +kernel
theorem meets_TimeSlots_10 :
    ({ runState with time := { runState.time with leap := some (0, 1) } } : State).time.leap = some ((0, 1) : Int × Int) ∧
    ((0, 1) : Int × Int).1 ≤ reportedSec (advance (7600000 : Nat)
        ({ runState with time := { runState.time with leap := some (0, 1) } } : State))
    := by decide +kernel
theorem meets_TimeSlots_11 :
    reachesSecond (advance (0 : Nat)
        ({ wr runState 0x7207 1 with clk := { runState.clk with lambda := 0 }, time := { runState.time with slot := vupd runState.time.slot 0 fun x => { x with state := 0 } } }
        : State)) = true ∧
    flag
        ({ wr runState 0x7207 1 with clk := { runState.clk with lambda := 0 }, time := { runState.time with slot := vupd runState.time.slot 0 fun x => { x with state := 0 } } }
        : State) 0x7207 0 = true ∧
    yardFenced
        ({ wr runState 0x7207 1 with clk := { runState.clk with lambda := 0 }, time := { runState.time with slot := vupd runState.time.slot 0 fun x => { x with state := 0 } } }
        : State) 4 = false ∧
    ppsWidth (timeQ
        ({ wr runState 0x7207 1 with clk := { runState.clk with lambda := 0 }, time := { runState.time with slot := vupd runState.time.slot 0 fun x => { x with state := 0 } } }
        : State)) = some (10000000 : Nat) ∧
    (∀ x,
        ({ wr runState 0x7207 1 with clk := { runState.clk with lambda := 0 }, time := { runState.time with slot := vupd runState.time.slot 0 fun x => { x with state := 0 } } }
        : State).time.ppsLead = some x → x + 50000000 ≤ (advance (0 : Nat)
        ({ wr runState 0x7207 1 with clk := { runState.clk with lambda := 0 }, time := { runState.time with slot := vupd runState.time.slot 0 fun x => { x with state := 0 } } }
        : State)).clk.cycle)
    := by decide +kernel
theorem meets_TimeSlots_12 :
    ({ runState with time := { runState.time with pps := true, ppsEnd := some 7600000 } } : State).time.ppsEnd = some
        (7600000 : Nat)
    := by decide +kernel

theorem meets_GnssEvents_1 : yardFenced (wr runState 0x4000 0x200 : State) 4 = false ∧
    flag (wr runState 0x4000 0x200 : State) 0x4000 (8 + (1 : Fin 2).val) = true ∧
    fld (wr runState 0x4000 0x200 : State) (0x4010 + (1 : Fin 2).val) 1 0 ≠ 3 := by decide +kernel
theorem meets_GnssEvents_2 :
    vget
        ({ wr runState 0x4000 0x200 with gnss := { runState.gnss with antShort := vset runState.gnss.antShort 1 (some 4294967100) } }
        : State).gnss.antShort (1 : Fin 2) = some (4294967100 : Nat) ∧
    110 ≤
        (({ wr runState 0x4000 0x200 with gnss := { runState.gnss with antShort := vset runState.gnss.antShort 1 (some 4294967100) } }
        : State).clk.beat + 2 ^ 32 - (4294967100 : Nat)) % 2 ^ 32 ∧
    flag
        ({ wr runState 0x4000 0x200 with gnss := { runState.gnss with antShort := vset runState.gnss.antShort 1 (some 4294967100) } }
        : State) 0x4000 (8 + (1 : Fin 2).val) = true
    := by decide +kernel
theorem meets_GnssEvents_3 : gnssRuns (advance (7600000 : Nat) (gnssState : State)) = true ∧
    chanOn (gnssState : State) (30 : Fin 48).val = true ∧ (vget (gnssState : State).gnss.ch (30 : Fin 48)).state = 0 ∧
    (⟨some 4, none, 0, 0, 0, 0, 0, 0, false⟩ : CorrelatorSums).assign = some (4 : Fin 32) ∧
    (∀ j : Fin 48, (vget (gnssState : State).gnss.ch j).prn ≠ (4 : Fin 32).val + 1) ∧
    (∀ j : Fin 48, j.val % 24 = (30 : Fin 48).val % 24 → (vget (gnssState : State).gnss.ch j).prn = 0) ∧
    searchable (advance (7600000 : Nat) (gnssState : State)) ((4 : Fin 32).val + 1) = true := by decide +kernel
theorem meets_GnssEvents_4 : gnssRuns (advance (7600000 : Nat) (setChan 2 4 : State)) = true ∧
    chanOn (setChan 2 4 : State) (26 : Fin 48).val = true ∧ (vget (setChan 2 4 : State).gnss.ch (26 : Fin 48)).state = 0 ∧
    (⟨some 8, none, 0, 0, 0, 0, 0, 0, false⟩ : CorrelatorSums).assign = some (8 : Fin 32) ∧
    (2 : Fin 48).val = (if (26 : Fin 48).val < 24 then (26 : Fin 48).val + 24 else (26 : Fin 48).val - 24) ∧
    (vget (setChan 2 4 : State).gnss.ch (2 : Fin 48)).prn = (8 : Fin 32).val + 1 ∧
    (∀ j : Fin 48, j ≠ (2 : Fin 48) → (vget (setChan 2 4 : State).gnss.ch j).prn ≠ (8 : Fin 32).val + 1)
    := by decide +kernel
theorem meets_GnssEvents_5 : gnssRuns (advance (7600000 : Nat) (setChan 2 1 : State)) = true ∧
    chanOn (setChan 2 1 : State) (2 : Fin 48).val = true ∧ (vget (setChan 2 1 : State).gnss.ch (2 : Fin 48)).state = 1 ∧
    (⟨none, some 5000, 0, 0, 0, 0, 0, 0, false⟩ : CorrelatorSums).peak = some (5000 : Int) ∧
    ((0, 10000000) : Int × Nat) = searchWindow (advance (7600000 : Nat) (setChan 2 1 : State)) (vget (setChan 2 1 :
        State).gnss.ch (2 : Fin 48)) ∧
    ((5000 : Int) - ((0, 10000000) : Int × Nat).1).natAbs ≤ ((0, 10000000) : Int × Nat).2 ∧
    blockDown (setChan 2 1 : State) 4 5 = false ∧ resultFaulted (setChan 2 1 : State) 4 5 = false := by decide +kernel
theorem meets_GnssEvents_6 : gnssRuns (advance (7600000 : Nat) (setChan 2 2 : State)) = true ∧
    chanOn (setChan 2 2 : State) (2 : Fin 48).val = true ∧ (vget (setChan 2 2 : State).gnss.ch (2 : Fin 48)).state = 2 ∧
    lockIndicator 8 (⟨none, none, 0, 0, 100, 0, 0, 0, false⟩ : CorrelatorSums).ip (⟨none, none, 0, 0, 100, 0, 0, 0, false⟩ :
        CorrelatorSums).qp = true
    := by decide +kernel
theorem meets_GnssEvents_7 :
    gnssRuns (advance (7600000 : Nat) (updChanN 2 (fun g => { g with sumN := 19, sumI := 7 }) (setChan 2 5) : State)) = true ∧
    chanOn (updChanN 2 (fun g => { g with sumN := 19, sumI := 7 }) (setChan 2 5) : State) (2 : Fin 48).val = true ∧
    4 ≤ (vget (updChanN 2 (fun g => { g with sumN := 19, sumI := 7 }) (setChan 2 5) : State).gnss.ch (2 : Fin 48)).state ∧
    19 ≤ (vget (updChanN 2 (fun g => { g with sumN := 19, sumI := 7 }) (setChan 2 5) : State).gnss.ch (2 : Fin 48)).sumN
    := by decide +kernel
theorem meets_GnssEvents_8 : 2 ≤ (vget (setChan 2 4 : State).gnss.ch (2 : Fin 48)).state ∧
    20 ≤ (vget (setChan 2 4 : State).gnss.ch (2 : Fin 48)).badMs := by decide +kernel
theorem meets_GnssEvents_9 :
    (chanAt (setChan 2 1 : State) (2 : Fin 24).val).prn ≠ 0 ∨ (chanAt (setChan 2 1 : State) ((2 : Fin 24).val + 24)).prn ≠ 0 ∧
    max (chanAt (setChan 2 1 : State) (2 : Fin 24).val).signal (chanAt (setChan 2 1 : State) ((2 : Fin 24).val + 24)).signal
        + 3000000000 ≤ (advance (3100000000 : Nat) (setChan 2 1 : State)).clk.cycle
    := by decide +kernel
theorem meets_GnssEvents_10 : (goodSubframe : List Word).length = 10 ∧
    gnssRuns (advance (7600000 : Nat) (setChan 2 4 : State)) = true ∧ chanOn (setChan 2 4 : State) (2 : Fin 48).val = true ∧
    4 ≤ (vget (setChan 2 4 : State).gnss.ch (2 : Fin 48)).state ∧
    ((navWords (wordBefore (advance 7600000 (setChan 2 4)) (vget (setChan 2 4).gnss.ch 2) ((goodSubframe.map fun x =>
        x.toNat % 2 ^ 30).getD 0 0)).1 (wordBefore (advance 7600000 (setChan 2 4)) (vget (setChan 2 4).gnss.ch 2)
        ((goodSubframe.map fun x => x.toNat % 2 ^ 30).getD 0 0)).2 (goodSubframe.map fun x => x.toNat % 2 ^ 30)) : List Nat
        × Nat) = navWords (wordBefore (advance (7600000 : Nat) (setChan 2 4 : State)) (vget (setChan 2 4 : State).gnss.ch (2
        : Fin 48)) (((goodSubframe : List Word).map fun x => x.toNat % 2 ^ 30).getD 0 0)).1 (wordBefore (advance (7600000 :
        Nat) (setChan 2 4 : State)) (vget (setChan 2 4 : State).gnss.ch (2 : Fin 48)) (((goodSubframe : List Word).map fun x
        => x.toNat % 2 ^ 30).getD 0 0)).2 ((goodSubframe : List Word).map fun x => x.toNat % 2 ^ 30) ∧
    ((navWords (wordBefore (advance 7600000 (setChan 2 4)) (vget (setChan 2 4).gnss.ch 2) ((goodSubframe.map fun x =>
        x.toNat % 2 ^ 30).getD 0 0)).1 (wordBefore (advance 7600000 (setChan 2 4)) (vget (setChan 2 4).gnss.ch 2)
        ((goodSubframe.map fun x => x.toNat % 2 ^ 30).getD 0 0)).2 (goodSubframe.map fun x => x.toNat % 2 ^ 30)) : List Nat
        × Nat).2 = 0 ∧
    dataBits (dataWord ((navWords (wordBefore (advance 7600000 (setChan 2 4)) (vget (setChan 2 4).gnss.ch 2)
        ((goodSubframe.map fun x => x.toNat % 2 ^ 30).getD 0 0)).1 (wordBefore (advance 7600000 (setChan 2 4)) (vget
        (setChan 2 4).gnss.ch 2) ((goodSubframe.map fun x => x.toNat % 2 ^ 30).getD 0 0)).2 (goodSubframe.map fun x =>
        x.toNat % 2 ^ 30)) : List Nat × Nat).1 1) 1 8 = 0x8B
    := by decide +kernel
theorem meets_GnssEvents_11 : (goodSubframe.set 5 0x155 : List Word).length = 10 ∧
    gnssRuns (advance (7600000 : Nat) (setChan 2 4 : State)) = true ∧ chanOn (setChan 2 4 : State) (2 : Fin 48).val = true ∧
    4 ≤ (vget (setChan 2 4 : State).gnss.ch (2 : Fin 48)).state ∧
    ((navWords (wordBefore (advance 7600000 (setChan 2 4)) (vget (setChan 2 4).gnss.ch 2) (((goodSubframe.set 5 0x155).map
        fun x => x.toNat % 2 ^ 30).getD 0 0)).1 (wordBefore (advance 7600000 (setChan 2 4)) (vget (setChan 2 4).gnss.ch 2)
        (((goodSubframe.set 5 0x155).map fun x => x.toNat % 2 ^ 30).getD 0 0)).2 ((goodSubframe.set 5 0x155).map fun x =>
        x.toNat % 2 ^ 30)) : List Nat × Nat) = navWords (wordBefore (advance (7600000 : Nat) (setChan 2 4 : State)) (vget
        (setChan 2 4 : State).gnss.ch (2 : Fin 48)) (((goodSubframe.set 5 0x155 : List Word).map fun x => x.toNat % 2 ^
        30).getD 0 0)).1 (wordBefore (advance (7600000 : Nat) (setChan 2 4 : State)) (vget (setChan 2 4 : State).gnss.ch (2
        : Fin 48)) (((goodSubframe.set 5 0x155 : List Word).map fun x => x.toNat % 2 ^ 30).getD 0 0)).2 ((goodSubframe.set 5
        0x155 : List Word).map fun x => x.toNat % 2 ^ 30) ∧
    ((navWords (wordBefore (advance 7600000 (setChan 2 4)) (vget (setChan 2 4).gnss.ch 2) (((goodSubframe.set 5 0x155).map
        fun x => x.toNat % 2 ^ 30).getD 0 0)).1 (wordBefore (advance 7600000 (setChan 2 4)) (vget (setChan 2 4).gnss.ch 2)
        (((goodSubframe.set 5 0x155).map fun x => x.toNat % 2 ^ 30).getD 0 0)).2 ((goodSubframe.set 5 0x155).map fun x =>
        x.toNat % 2 ^ 30)) : List Nat × Nat).2 ≠ 0
    := by decide +kernel
theorem meets_GnssEvents_12 : gnssRuns (advance (7600000 : Nat) (setChan 2 4 : State)) = true ∧
    (gpsEstimate (advance (7600000 : Nat) (setChan 2 4 : State)) (advance (7600000 : Nat) (setChan 2 4 :
        State)).clk.cycle).all (fun e => atMultiple e (epochInterval (rateOn (advance (7600000 : Nat) (setChan 2 4 : State))
        (some e)))) = true ∧
    ([⟨2, 80, 500, 9000, 3, some 30, some 90⟩] : List ChannelLatch).find? (fun y => y.ch == (2 : Fin 48)) = some (⟨2, 80,
        500, 9000, 3, some 30, some 90⟩ : ChannelLatch) ∧
    2 ≤ (vget (setChan 2 4 : State).gnss.ch (2 : Fin 48)).state := by decide +kernel
theorem meets_GnssEvents_13 :
    (vget
        ({ gnssState with gnss := { gnssState.gnss with epoch := 1000000005, checks := vset gnssState.gnss.checks 3 ⟨true, 3, 5⟩ } }
        : State).gnss.checks (3 : Fin 6)).stands = true ∧
    (vget
        ({ gnssState with gnss := { gnssState.gnss with epoch := 1000000005, checks := vset gnssState.gnss.checks 3 ⟨true, 3, 5⟩ } }
        : State).gnss.checks (3 : Fin 6)).met + 1000000000 ≤
        ({ gnssState with gnss := { gnssState.gnss with epoch := 1000000005, checks := vset gnssState.gnss.checks 3 ⟨true, 3, 5⟩ } }
        : State).gnss.epoch
    := by decide +kernel
theorem meets_GnssEvents_14 : inRun (gnssState : State) = true ∧ yardFenced (gnssState : State) 0 = false ∧
    yardFenced (gnssState : State) 4 = false ∧
    (gnssState : State).gnss.blockAt.all (fun k => decide (k + 6000000000 ≤ (advance (7600000 : Nat) (gnssState :
        State)).clk.cycle)) = true
    := by decide +kernel
theorem meets_GnssEvents_15 : (gnssState : State).gnss.startAt = some (5000 : Nat) ∧
    (gnssState : State).gnss.firstFix = false ∧ (gnssState : State).gnss.timedOut = false := by decide +kernel

theorem meets_GnssEpochs_1 : gnssRuns (advance (8000002 : Nat) (epochState : State)) = true ∧
    blockDown (epochState : State) 4 6 = false ∧ (epochState : State).gnss.tick = some (7500000 : Nat) ∧
    (epochState : State).gnss.tickDue = true ∧
    (advance (8000002 : Nat) (epochState : State)).clk.cycle = (7500000 : Nat) + 500002 ∨ (advance (8000002 : Nat)
        (epochState : State)).clk.cycle = (7500000 : Nat) + 500003
    := by decide +kernel
theorem meets_GnssEpochs_2 : gnssRuns (advance (8000003 : Nat) (epochState : State)) = true ∧
    blockDown (epochState : State) 4 6 = false ∧ (epochState : State).gnss.tick = some (7500000 : Nat) ∧
    (epochState : State).gnss.tickDue = true ∧
    (advance (8000003 : Nat) (epochState : State)).clk.cycle = (7500000 : Nat) + 500002 ∨ (advance (8000003 : Nat)
        (epochState : State)).clk.cycle = (7500000 : Nat) + 500003 ∧
    resultFaulted (epochState : State) 4 6 = false ∧
    solveAntenna (epochState : State) 0 (⟨some ⟨48000000000, 11000000000, 150, [], 40, 7⟩, none, none, none, none, 0, 0, 0⟩
        : EpochData).fixA (⟨some ⟨48000000000, 11000000000, 150, [], 40, 7⟩, none, none, none, none, 0, 0, 0⟩ :
        EpochData).fixA2 = (([0, 1, 2, 3] : List Nat), (none : Option Nat), some (⟨48000000000, 11000000000, 150, [], 40, 7⟩
        : NavFix)) ∧
    4 ≤ ([0, 1, 2, 3] : List Nat).length ∧ (⟨48000000000, 11000000000, 150, [], 40, 7⟩ : NavFix).pdop ≤ 600 ∧
    (epochState : State).gnss.cfg.spoof = false := by decide +kernel

theorem meets_ServoEvents_1 : (runState : State).clk.core = true ∧ (runState : State).clk.ticks = true
    := by decide +kernel
theorem meets_ServoEvents_2 : (axState 1 : State).clk.core = true ∧ (axState 1 : State).clk.ticks = true
    := by decide +kernel
theorem meets_ServoEvents_3 :
({ axState 1 with poison := [0x5040] , servo := { axes := vupd (axState 1).servo.axes 4 fun x => { x with poison := true }, tables := (axState 1).servo.tables, newTabs := [], fwd := [] } }
        : State).clk.core = true ∧
({ axState 1 with poison := [0x5040] , servo := { axes := vupd (axState 1).servo.axes 4 fun x => { x with poison := true }, tables := (axState 1).servo.tables, newTabs := [], fwd := [] } }
        : State).clk.ticks = true ∧
    faultCode
        ({ axState 1 with poison := [0x5040] , servo := { axes := vupd (axState 1).servo.axes 4 fun x => { x with poison := true }, tables := (axState 1).servo.tables, newTabs := [], fwd := [] } }
        : State) (4 : Fin 48).val (axisAt
        ({ axState 1 with poison := [0x5040] , servo := { axes := vupd (axState 1).servo.axes 4 fun x => { x with poison := true }, tables := (axState 1).servo.tables, newTabs := [], fwd := [] } }
        : State) (4 : Fin 48).val) = (4 : Nat) ∧
    (4 : Nat) ≠ 0 ∧
    ownTransitions
        ({ axState 1 with poison := [0x5040] , servo := { axes := vupd (axState 1).servo.axes 4 fun x => { x with poison := true }, tables := (axState 1).servo.tables, newTabs := [], fwd := [] } }
        : State) = true
    := by decide +kernel
theorem meets_ServoEvents_4 : (followState { axAt 1 with poison := true } : State).clk.core = true ∧
    (followState { axAt 1 with poison := true } : State).clk.ticks = true ∧
    faultCode (followState { axAt 1 with poison := true } : State) (4 : Fin 48).val (axisAt (followState
        { axAt 1 with poison := true } : State) (4 : Fin 48).val) ≠ 0 ∧
    ownTransitions (followState { axAt 1 with poison := true } : State) = false ∧
    (axisAt (followState { axAt 1 with poison := true } : State) (4 : Fin 48).val).locFault = false := by decide +kernel
theorem meets_ServoEvents_5 : (withAxis { axAt 2 with settle := 255 } (holds runState) : State).clk.core = true ∧
    (withAxis { axAt 2 with settle := 255 } (holds runState) : State).clk.ticks = true ∧
    (axisAt (withAxis { axAt 2 with settle := 255 } (holds runState) : State) (4 : Fin 48).val).state = 3 ∨ ((axisAt
        (withAxis { axAt 2 with settle := 255 } (holds runState) : State) (4 : Fin 48).val).state = 2 ∧ (axisCfg (withAxis
        { axAt 2 with settle := 255 } (holds runState) : State).snap (4 : Fin 48).val).convert ≠ 2) ∧
    (axisCfg (withAxis { axAt 2 with settle := 255 } (holds runState) : State).snap (4 : Fin 48).val).settle ≤ (axisAt
        (withAxis { axAt 2 with settle := 255 } (holds runState) : State) (4 : Fin 48).val).settle ∧
    ownTransitions (withAxis { axAt 2 with settle := 255 } (holds runState) : State) = true ∧
    faultCode (withAxis { axAt 2 with settle := 255 } (holds runState) : State) (4 : Fin 48).val (axisAt (withAxis
        { axAt 2 with settle := 255 } (holds runState) : State) (4 : Fin 48).val) = 0
    := by decide +kernel
theorem meets_ServoEvents_6 :
    (withAxis { axAt 0 with reqDue := some ⟨true, false, false⟩ } (holds runState) : State).clk.core = true ∧
    (withAxis { axAt 0 with reqDue := some ⟨true, false, false⟩ } (holds runState) : State).clk.ticks = true ∧
    (axisAt (withAxis { axAt 0 with reqDue := some ⟨true, false, false⟩ } (holds runState) : State) (4 : Fin 48).val).reqDue
        = some (⟨true, false, false⟩ : AxisReq) ∧
    (⟨true, false, false⟩ : AxisReq).on = true ∧ (⟨true, false, false⟩ : AxisReq).thr = false ∧
    (axisAt (withAxis { axAt 0 with reqDue := some ⟨true, false, false⟩ } (holds runState) : State) (4 : Fin 48).val).state
        = 0 ∧
    ownTransitions (withAxis { axAt 0 with reqDue := some ⟨true, false, false⟩ } (holds runState) : State) = true
    := by decide +kernel
theorem meets_ServoEvents_7 :
    (withAxis { axAt 4 with reqDue := some ⟨false, false, false⟩ } (holds runState) : State).clk.core = true ∧
    (withAxis { axAt 4 with reqDue := some ⟨false, false, false⟩ } (holds runState) : State).clk.ticks = true ∧
    (axisAt (withAxis { axAt 4 with reqDue := some ⟨false, false, false⟩ } (holds runState) : State) (4 : Fin
        48).val).reqDue = some (⟨false, false, false⟩ : AxisReq) ∧
    (⟨false, false, false⟩ : AxisReq).on = false ∧
    (axisAt (withAxis { axAt 4 with reqDue := some ⟨false, false, false⟩ } (holds runState) : State) (4 : Fin 48).val).state
        = 1 ∨ (axisAt (withAxis { axAt 4 with reqDue := some ⟨false, false, false⟩ } (holds runState) : State) (4 : Fin
        48).val).state = 4 ∧
    ownTransitions (withAxis { axAt 4 with reqDue := some ⟨false, false, false⟩ } (holds runState) : State) = true
    := by decide +kernel
theorem meets_ServoEvents_8 :
    (followState { axAt 1 with reqDue := some ⟨false, false, false⟩ } : State).clk.core = true ∧
    (followState { axAt 1 with reqDue := some ⟨false, false, false⟩ } : State).clk.ticks = true ∧
    (axisAt (followState { axAt 1 with reqDue := some ⟨false, false, false⟩ } : State) (4 : Fin 48).val).reqDue ≠ none ∧
    ownTransitions (followState { axAt 1 with reqDue := some ⟨false, false, false⟩ } : State) = false := by decide +kernel
theorem meets_ServoEvents_9 : (withAxis { axAt 0 with pend := true } (holds runState) : State).clk.core = true ∧
    (withAxis { axAt 0 with pend := true } (holds runState) : State).clk.ticks = true ∧
    (axisAt (withAxis { axAt 0 with pend := true } (holds runState) : State) (4 : Fin 48).val).pend = true ∧
    (axisAt (withAxis { axAt 0 with pend := true } (holds runState) : State) (4 : Fin 48).val).pendThr = false ∧
    (axisAt (withAxis { axAt 0 with pend := true } (holds runState) : State) (4 : Fin 48).val).state = 0 ∧
    ownTransitions (withAxis { axAt 0 with pend := true } (holds runState) : State) = true := by decide +kernel

theorem meets_FieldEvents_1 :
({ runState with field := { runState.field with bank := vupd runState.field.bank 1 fun x => { x with first := false } } } :
        State).clk.core = true ∧
({ runState with field := { runState.field with bank := vupd runState.field.bank 1 fun x => { x with first := false } } } :
        State).clk.ticks = true ∧
    blockDown
        ({ runState with field := { runState.field with bank := vupd runState.field.bank 1 fun x => { x with first := false } } }
        : State) 6 (1 : Fin 2).val = false ∧
    (vget
        ({ runState with field := { runState.field with bank := vupd runState.field.bank 1 fun x => { x with first := false } } }
        : State).field.bank (1 : Fin 2)).first = false ∧
    resultFaulted
        ({ runState with field := { runState.field with bank := vupd runState.field.bank 1 fun x => { x with first := false } } }
        : State) 6 (1 : Fin 2).val = false ∧
    (withSegments
        ({ runState with field := { runState.field with bank := vupd runState.field.bank 1 fun x => { x with first := false } } }
        : State) (1 : Fin 2) (if (1 : Fin 2) = 0 then (tickIn : TickIn).a else (tickIn : TickIn).b)).frameOk = true
    := by decide +kernel
theorem meets_FieldEvents_2 :
({ runState with field := { runState.field with bank := vupd runState.field.bank 1 fun x => { x with first := false } } } :
        State).clk.core = true ∧
({ runState with field := { runState.field with bank := vupd runState.field.bank 1 fun x => { x with first := false } } } :
        State).clk.ticks = true ∧
    blockDown
        ({ runState with field := { runState.field with bank := vupd runState.field.bank 1 fun x => { x with first := false } } }
        : State) 6 (1 : Fin 2).val = false ∧
    (vget
        ({ runState with field := { runState.field with bank := vupd runState.field.bank 1 fun x => { x with first := false } } }
        : State).field.bank (1 : Fin 2)).first = false ∧
    (withSegments
        ({ runState with field := { runState.field with bank := vupd runState.field.bank 1 fun x => { x with first := false } } }
        : State) (1 : Fin 2) (if (1 : Fin 2) = 0 then (⟨tickIn.a, { tickIn.b with frameOk := false }⟩ : TickIn).a else
        (⟨tickIn.a, { tickIn.b with frameOk := false }⟩ : TickIn).b)).frameOk = false
    := by decide +kernel
theorem meets_FieldEvents_3 :
    (vget
        ({ runState with field := { runState.field with bank := vupd runState.field.bank 1 fun x => { x with badDiag := 3 } } }
        : State).field.bank (1 : Fin 2)).common = false ∧
    3 ≤ (vget
        ({ runState with field := { runState.field with bank := vupd runState.field.bank 1 fun x => { x with badDiag := 3 } } }
        : State).field.bank (1 : Fin 2)).badDiag
    := by decide +kernel
theorem meets_FieldEvents_4 :
    (vget
        ({ runState with field := { runState.field with bank := vupd runState.field.bank 1 fun x => { x with common := true, goodDiag := 400 } } }
        : State).field.bank (1 : Fin 2)).common = true ∧
    400 ≤ (vget
        ({ runState with field := { runState.field with bank := vupd runState.field.bank 1 fun x => { x with common := true, goodDiag := 400 } } }
        : State).field.bank (1 : Fin 2)).goodDiag
    := by decide +kernel
theorem meets_FieldEvents_5 :
    (vget
        ({ runState with field := { runState.field with chan := vupd runState.field.chan 30 fun x => { x with mode := 1, cand := true, run := 1 } } }
        : State).field.chan (30 : Fin 48)).cand ≠ (vget
        ({ runState with field := { runState.field with chan := vupd runState.field.chan 30 fun x => { x with mode := 1, cand := true, run := 1 } } }
        : State).field.chan (30 : Fin 48)).di ∧
    bitsOf (vget
        ({ runState with field := { runState.field with chan := vupd runState.field.chan 30 fun x => { x with mode := 1, cand := true, run := 1 } } }
        : State).field.chan (30 : Fin 48)).cfg 15 8 + 1 ≤ (vget
        ({ runState with field := { runState.field with chan := vupd runState.field.chan 30 fun x => { x with mode := 1, cand := true, run := 1 } } }
        : State).field.chan (30 : Fin 48)).run ∧
    (vget
        ({ runState with field := { runState.field with chan := vupd runState.field.chan 30 fun x => { x with mode := 1, cand := true, run := 1 } } }
        : State).field.chan (30 : Fin 48)).quiet = none
    := by decide +kernel
theorem meets_FieldEvents_6 :
    (vget
        ({ runState with field := { runState.field with bank := vupd runState.field.bank 1 fun x => { x with supply := 0 }, chan := vupd runState.field.chan 30 fun x => { x with mode := 3, eff := 1 } } }
        : State).field.chan (30 : Fin 48)).mode = 3 ∧
    delivered
        ({ runState with field := { runState.field with bank := vupd runState.field.bank 1 fun x => { x with supply := 0 }, chan := vupd runState.field.chan 30 fun x => { x with mode := 3, eff := 1 } } }
        : State) (30 : Fin 48).val ≠ 0
    := by decide +kernel
theorem meets_FieldEvents_7 :
    (vget
        ({ runState with field := { runState.field with chan := vupd runState.field.chan 30 fun x => { x with mode := 3, eff := 1, cut := some false, cfg := 0x23#32, cutTick := 2 ^ 32 - 100 } } }
        : State).field.chan (30 : Fin 48)).cut ≠ none ∧
    (vget
        ({ runState with field := { runState.field with chan := vupd runState.field.chan 30 fun x => { x with mode := 3, eff := 1, cut := some false, cfg := 0x23#32, cutTick := 2 ^ 32 - 100 } } }
        : State).field.chan (30 : Fin 48)).eff ≠ 0 ∧
    (bitOf (vget
        ({ runState with field := { runState.field with chan := vupd runState.field.chan 30 fun x => { x with mode := 3, eff := 1, cut := some false, cfg := 0x23#32, cutTick := 2 ^ 32 - 100 } } }
        : State).field.chan (30 : Fin 48)).cfg 5 = true ∧ 400 ≤
        (({ runState with field := { runState.field with chan := vupd runState.field.chan 30 fun x => { x with mode := 3, eff := 1, cut := some false, cfg := 0x23#32, cutTick := 2 ^ 32 - 100 } } }
        : State).clk.tick + 2 ^ 32 - (vget
        ({ runState with field := { runState.field with chan := vupd runState.field.chan 30 fun x => { x with mode := 3, eff := 1, cut := some false, cfg := 0x23#32, cutTick := 2 ^ 32 - 100 } } }
        : State).field.chan (30 : Fin 48)).cutTick) % 2 ^ 32) ∨ (bitOf (vget
        ({ runState with field := { runState.field with chan := vupd runState.field.chan 30 fun x => { x with mode := 3, eff := 1, cut := some false, cfg := 0x23#32, cutTick := 2 ^ 32 - 100 } } }
        : State).field.chan (30 : Fin 48)).cfg 5 = false ∧ (vget
        ({ runState with field := { runState.field with chan := vupd runState.field.chan 30 fun x => { x with mode := 3, eff := 1, cut := some false, cfg := 0x23#32, cutTick := 2 ^ 32 - 100 } } }
        : State).field.chan (30 : Fin 48)).needOff = false)
    := by decide +kernel
theorem meets_FieldEvents_8 :
    (vget
        ({ runState with field := { runState.field with bank := vupd runState.field.bank 1 fun x => { x with clsRun := 4, cls := 4 } } }
        : State).field.bank (1 : Fin 2)).clsRun = 4 ∧
    (vget
        ({ runState with field := { runState.field with bank := vupd runState.field.bank 1 fun x => { x with clsRun := 4, cls := 4 } } }
        : State).field.bank (1 : Fin 2)).cls ≠ (vget
        ({ runState with field := { runState.field with bank := vupd runState.field.bank 1 fun x => { x with clsRun := 4, cls := 4 } } }
        : State).field.bank (1 : Fin 2)).supply
    := by decide +kernel
theorem meets_FieldEvents_9 :
    (vget
        ({ runState with field := { runState.field with bank := vupd runState.field.bank 1 fun x => { x with overRun := 40 } } }
        : State).field.bank (1 : Fin 2)).trip = false ∧
    40 ≤ (vget
        ({ runState with field := { runState.field with bank := vupd runState.field.bank 1 fun x => { x with overRun := 40 } } }
        : State).field.bank (1 : Fin 2)).overRun
    := by decide +kernel
theorem meets_FieldEvents_10 :
    (vget
        ({ runState with field := { runState.field with bank := vupd runState.field.bank 1 fun x => { x with inSafe := false, missing := 200 } } }
        : State).field.bank (1 : Fin 2)).inSafe = false ∧
    4 * (vget
        ({ runState with field := { runState.field with bank := vupd runState.field.bank 1 fun x => { x with inSafe := false, missing := 200 } } }
        : State).field.bank (1 : Fin 2)).silence ≤ (vget
        ({ runState with field := { runState.field with bank := vupd runState.field.bank 1 fun x => { x with inSafe := false, missing := 200 } } }
        : State).field.bank (1 : Fin 2)).missing ∨
        ({ runState with field := { runState.field with bank := vupd runState.field.bank 1 fun x => { x with inSafe := false, missing := 200 } } }
        : State).clk.core = false ∨
        ({ runState with field := { runState.field with bank := vupd runState.field.bank 1 fun x => { x with inSafe := false, missing := 200 } } }
        : State).clk.ticks = false
    := by decide +kernel
theorem meets_FieldEvents_11 :
    (vget
        ({ runState with field := { runState.field with bank := vupd runState.field.bank 1 fun x => { x with inSafe := true, valid := 40 } } }
        : State).field.bank (1 : Fin 2)).inSafe = true ∧
    (vget
        ({ runState with field := { runState.field with bank := vupd runState.field.bank 1 fun x => { x with inSafe := true, valid := 40 } } }
        : State).field.bank (1 : Fin 2)).latched = false ∧
    40 ≤ (vget
        ({ runState with field := { runState.field with bank := vupd runState.field.bank 1 fun x => { x with inSafe := true, valid := 40 } } }
        : State).field.bank (1 : Fin 2)).valid
    := by decide +kernel
theorem meets_FieldEvents_12 :
    (vget
        ({ runState with field := { runState.field with chan := vupd runState.field.chan 30 fun x => { x with modeNew := some 5 } } }
        : State).field.chan (30 : Fin 48)).modeNew = some (5 : Nat) ∧
    4 ≤ tickJ
        ({ runState with field := { runState.field with chan := vupd runState.field.chan 30 fun x => { x with modeNew := some 5 } } }
        : State)
    := by decide +kernel

theorem meets_FilterEvents_1 : (sincState : State).clk.core = true ∧ (sincState : State).clk.ticks = true
    := by decide +kernel
theorem meets_FilterEvents_2 :
    387 ≤ (vget
        ({ runState with filt := { runState.filt with lanes := vupd runState.filt.lanes 7 fun u => { u with done := 387 } } }
        : State).filt.lanes (7 : Fin 48)).done
    := by decide +kernel
theorem meets_FilterEvents_3 : (vget (runState : State).filt.lanes (7 : Fin 48)).done < 387 := by decide +kernel
theorem meets_FilterEvents_4 : (wr runState 0x5408 1 : State).clk.core = true ∧
    (wr runState 0x5408 1 : State).clk.ticks = true ∧ flag (wr runState 0x5408 1 : State) 0x5408 0 = true ∧
    (true : Bool) ≠ flag (wr runState 0x5408 1 : State) 0x5408 1 ∧
    ∀ x, (wr runState 0x5408 1 : State).filt.sync = some x → x.1 ≠ (7600000 : Nat) + 1 := by decide +kernel
theorem meets_FilterEvents_5 :
    (wr runState 0x5408 1 : State).clk.ticks = false ∨ flag (wr runState 0x5408 1 : State) 0x5408 0 = false ∨ (false : Bool)
        = flag (wr runState 0x5408 1 : State) 0x5408 1
    := by decide +kernel

theorem meets_HealthEvents_3 :
    (runState : State).poison.contains (memoryStall (5 : Fin 8).val (2 : Nat) (scrubWord (runState : State) (5 : Fin 8) (2 :
        Nat))) = false
    := by decide +kernel
theorem meets_HealthEvents_4 : blockFenced (runState : State) (5 : Fin 8).val (3 : Fin 32).val = false ∧
    blockExists (5 : Fin 8).val (3 : Fin 32).val = true ∧
    (vget (runState : State).yards (5 : Fin 8)).retry.any (·.1 == (3 : Fin 32).val) = false := by decide +kernel
theorem meets_HealthEvents_5 :
    blockFenced ({ runState with yards := vset runState.yards 5 ⟨[(3, false)], [], []⟩ } : State) (5 : Fin 8).val (3 : Fin
        32).val = false ∧
    blockExists (5 : Fin 8).val (3 : Fin 32).val = true ∧
    (vget ({ runState with yards := vset runState.yards 5 ⟨[(3, false)], [], []⟩ } : State).yards (5 : Fin 8)).retry.any
        (·.1 == (3 : Fin 32).val) = true
    := by decide +kernel
theorem meets_HealthEvents_6 : blockFenced (wr runState 0x5FF4 8 : State) (5 : Fin 8).val (3 : Fin 32).val = true
    := by decide +kernel
theorem meets_HealthEvents_7 : blockExists (3 : Fin 8).val (9 : Fin 32).val = false := by decide +kernel
theorem meets_HealthEvents_8 :
    (vget ({ runState with yards := vset runState.yards 5 ⟨[(3, true)], [(3, 7600032)], []⟩ } : State).yards (5 : Fin
        8)).inReset.find? (·.1 == (3 : Fin 32).val) = some ((3, 7600032) : Nat × Nat)
    := by decide +kernel
theorem meets_HealthEvents_9 : yardFenced (runState : State) (5 : Fin 8).val = false := by decide +kernel
theorem meets_HealthEvents_10 : yardFenced (wr runState 0x5FF2 2 : State) (5 : Fin 8).val = true ∧ (5 : Fin 8) ≠ 1
    := by decide +kernel

theorem meets_PowerEvents_1 :
    (false : Bool) ≠ (if (.mains : SupplyInput) = .mains then (runState : State).power.mains else (runState : State).power.dc)
    := by decide +kernel
theorem meets_PowerEvents_2 :
    ((.dc : SupplyInput) = .mains ∧ ({ runState with power := { runState.power with mains := false } } : State).power.mains
        = true ∧ ({ runState with power := { runState.power with mains := false } } : State).power.dc = false) ∨ ((.dc :
        SupplyInput) = .dc ∧ ({ runState with power := { runState.power with mains := false } } : State).power.dc = true ∧
        ({ runState with power := { runState.power with mains := false } } : State).power.mains = false)
    := by decide +kernel
theorem meets_PowerEvents_3 :
    (if (.mains : SupplyInput) = .mains then (State.reset : State).power.mains else (State.reset : State).power.dc) = false ∧
    (State.reset : State).power.mode = .retain := by decide +kernel
theorem meets_PowerEvents_4 :
    ({ (expert runState) with power := { (expert runState).power with entryCommit := some 6500000, target := 1 } } :
        State).power.entryCommit = some (6500000 : Nat) ∧
    (6500000 : Nat) + 100000 ≤
        ({ (expert runState) with power := { (expert runState).power with entryCommit := some 6500000, target := 1 } } :
        State).clk.beatBase ∧
    ({ (expert runState) with power := { (expert runState).power with entryCommit := some 6500000, target := 1 } } :
        State).power.mode = .run
    := by decide +kernel
theorem meets_PowerEvents_5 :
    ({ runState with power := { runState.power with mode := .entry, entryEdge := some 7000000, target := 2 } } :
        State).power.entryEdge = some (7000000 : Nat)
    := by decide +kernel
theorem meets_PowerEvents_6 :
    ((1 : Nat) &&& fld
        ({ (wr runState 0x1502 1) with power := { (wr runState 0x1502 1).power with mode := .doze }, clk := { (wr runState 0x1502 1).clk with core := false, ticks := false, beats := false } }
        : State) 0x1502 5 0) |||
        ({ (wr runState 0x1502 1) with power := { (wr runState 0x1502 1).power with mode := .doze }, clk := { (wr runState 0x1502 1).clk with core := false, ticks := false, beats := false } }
        : State).power.latched ≠ 0 ∧
    asleep
        ({ (wr runState 0x1502 1) with power := { (wr runState 0x1502 1).power with mode := .doze }, clk := { (wr runState 0x1502 1).clk with core := false, ticks := false, beats := false } }
        : State) = true
    := by decide +kernel
theorem meets_PowerEvents_7 :
    asleep ({ (wr runState 0x1502 1) with power := { (wr runState 0x1502 1).power with entryCommit := some 7400000 } } :
        State) = false ∧
    ({ (wr runState 0x1502 1) with power := { (wr runState 0x1502 1).power with entryCommit := some 7400000 } } :
        State).power.entryCommit.isSome ||
        ({ (wr runState 0x1502 1) with power := { (wr runState 0x1502 1).power with entryCommit := some 7400000 } } :
        State).power.entryEdge.isSome = true
    := by decide +kernel
theorem meets_PowerEvents_8 :
({ (wr runState 0x1502 0x202) with power := { (wr runState 0x1502 0x202).power with mode := .doze }, clk := { (wr runState 0x1502 0x202).clk with core := false, ticks := false, beats := false } }
        : State).power.mode = .doze ∨
        ({ (wr runState 0x1502 0x202) with power := { (wr runState 0x1502 0x202).power with mode := .doze }, clk := { (wr runState 0x1502 0x202).clk with core := false, ticks := false, beats := false } }
        : State).power.mode = .watch ∧
    wakeOn
        ({ (wr runState 0x1502 0x202) with power := { (wr runState 0x1502 0x202).power with mode := .doze }, clk := { (wr runState 0x1502 0x202).clk with core := false, ticks := false, beats := false } }
        : State) 1 = true ∧
    wakeOn
        ({ (wr runState 0x1502 0x202) with power := { (wr runState 0x1502 0x202).power with mode := .doze }, clk := { (wr runState 0x1502 0x202).clk with core := false, ticks := false, beats := false } }
        : State) (8 + (1 : Fin 4).val) = true ∧
({ (wr runState 0x1502 0x202) with power := { (wr runState 0x1502 0x202).power with mode := .doze }, clk := { (wr runState 0x1502 0x202).clk with core := false, ticks := false, beats := false } }
        : State).power.checkFrom = none
    := by decide +kernel
theorem meets_PowerEvents_9 :
    ({ runState with power := { runState.power with mode := .doze, checkFrom := some 9000000 } } : State).power.checkFrom =
        some (9000000 : Nat) ∧
    ({ runState with power := { runState.power with mode := .doze, checkFrom := some 9000000 } } : State).power.mode = .doze
        ∨ ({ runState with power := { runState.power with mode := .doze, checkFrom := some 9000000 } } : State).power.mode =
        .watch ∧
    ({ runState with power := { runState.power with mode := .doze, checkFrom := some 9000000 } } : State).clk.core = true ∧
    (9000000 : Nat) + 10000000 ≤ (19000000 : Nat) := by decide +kernel
theorem meets_PowerEvents_10 :
({ (wrAll runState [(0x4FF2, 3#32), (0x7FF2, 3#32)]) with power := { (wrAll runState [(0x4FF2, 3#32), (0x7FF2, 3#32)]).power with mode := .watch }, clk := { (wrAll runState [(0x4FF2, 3#32), (0x7FF2, 3#32)]).clk with core := false, ticks := false, beats := false } }
        : State).power.mode = .watch
    := by decide +kernel
theorem meets_PowerEvents_11 :
    ({ runState with power := { runState.power with mode := .window, windowFrom := some 7500000, target := 2 } } :
        State).power.mode = .window
    := by decide +kernel
theorem meets_PowerEvents_12 :
    ({ State.reset with power := { State.reset.power with mode := .bringUp, startAt := some 0 } } : State).power.startAt ≠
        none ∧
    ({ State.reset with power := { State.reset.power with mode := .bringUp, startAt := some 0 } } : State).clk.core = false
    := by decide +kernel
theorem meets_PowerEvents_13 :
    ({ State.reset with power := { State.reset.power with mode := .bringUp, startAt := some 0, retryAt := some 32768 } } :
        State).power.retryAt = some (32768 : Nat)
    := by decide +kernel
theorem meets_PowerEvents_14 :
    alarm ({ (wr runState 4 9) with power := { (wr runState 4 9).power with rtc := 327680 } } : State) ≠ 0 ∧
    ({ (wr runState 4 9) with power := { (wr runState 4 9).power with rtc := 327680 } } : State).power.rtcValid = true ∧
    ({ (wr runState 4 9) with power := { (wr runState 4 9).power with rtc := 327680 } } : State).clk.core = true ∧
    ({ (wr runState 4 9) with power := { (wr runState 4 9).power with rtc := 327680 } } : State).power.mode = .run ∧
    alarm ({ (wr runState 4 9) with power := { (wr runState 4 9).power with rtc := 327680 } } : State) ≤ (advance (7600000 :
        Nat) ({ (wr runState 4 9) with power := { (wr runState 4 9).power with rtc := 327680 } } : State)).power.rtc / 32768
    := by decide +kernel
theorem meets_PowerEvents_15 :
    alarm
        ({ (wrAll runState [(4, 9#32), (0x1502, 0x10#32)]) with power := { (wrAll runState [(4, 9#32), (0x1502, 0x10#32)]).power with mode := .doze, rtc := 5 }, clk := { (wrAll runState [(4, 9#32), (0x1502, 0x10#32)]).clk with core := false, ticks := false, beats := false } }
        : State) ≠ 0 ∧
({ (wrAll runState [(4, 9#32), (0x1502, 0x10#32)]) with power := { (wrAll runState [(4, 9#32), (0x1502, 0x10#32)]).power with mode := .doze, rtc := 5 }, clk := { (wrAll runState [(4, 9#32), (0x1502, 0x10#32)]).clk with core := false, ticks := false, beats := false } }
        : State).power.rtcValid = true ∧
({ (wrAll runState [(4, 9#32), (0x1502, 0x10#32)]) with power := { (wrAll runState [(4, 9#32), (0x1502, 0x10#32)]).power with mode := .doze, rtc := 5 }, clk := { (wrAll runState [(4, 9#32), (0x1502, 0x10#32)]).clk with core := false, ticks := false, beats := false } }
        : State).clk.core = false ∧
    asleep
        ({ (wrAll runState [(4, 9#32), (0x1502, 0x10#32)]) with power := { (wrAll runState [(4, 9#32), (0x1502, 0x10#32)]).power with mode := .doze, rtc := 5 }, clk := { (wrAll runState [(4, 9#32), (0x1502, 0x10#32)]).clk with core := false, ticks := false, beats := false } }
        : State) = true ∧
    wakeOn
        ({ (wrAll runState [(4, 9#32), (0x1502, 0x10#32)]) with power := { (wrAll runState [(4, 9#32), (0x1502, 0x10#32)]).power with mode := .doze, rtc := 5 }, clk := { (wrAll runState [(4, 9#32), (0x1502, 0x10#32)]).clk with core := false, ticks := false, beats := false } }
        : State) 4 = true
    := by decide +kernel
theorem meets_PowerEvents_16 : (runState : State).power.mains = true ∨ (runState : State).power.dc = true
    := by decide +kernel
theorem meets_PowerEvents_17 : (State.reset : State).power.mains = false ∧ (State.reset : State).power.dc = false
    := by decide +kernel

theorem meets_BringUpEvents_1 :
    restartDue false ({ runState with restart := [⟨4, 6000000⟩] } : State) = some (⟨4, 6000000⟩ : RestartPending)
    := by decide +kernel
theorem meets_BringUpEvents_2 : restartDue true ({ expert runState with restart := [⟨8, 6000000⟩] } : State) ≠ none
    := by decide +kernel
theorem meets_BringUpEvents_3 :
    ({ runState with power := { runState.power with mode := .bringUp, startAt := some 0 } } : State).power.startAt ≠ none ∧
    ({ runState with power := { runState.power with mode := .bringUp, startAt := some 0 } } : State).clk.core = true
    := by decide +kernel
theorem meets_BringUpEvents_4 :
({ runState with clk := { State.reset.clk with core := true }, power := { State.reset.power with mode := .bringUp, mains := true }, ev := { State.reset.ev with holding := true } }
        : State).power.mode = .bringUp ∧
({ runState with clk := { State.reset.clk with core := true }, power := { State.reset.power with mode := .bringUp, mains := true }, ev := { State.reset.ev with holding := true } }
        : State).ev.holding = true
    := by decide +kernel
theorem meets_BringUpEvents_5 :
({ runState with clk := { State.reset.clk with core := true }, power := { State.reset.power with mode := .bringUp, mains := true }, ev := { State.reset.ev with holding := true } }
        : State).ev.holding = true ∧
({ runState with clk := { State.reset.clk with core := true }, power := { State.reset.power with mode := .bringUp, mains := true }, ev := { State.reset.ev with holding := true } }
        : State).power.mode = .bringUp
    := by decide +kernel
theorem meets_BringUpEvents_6 :
({ runState with clk := { State.reset.clk with core := true }, power := { State.reset.power with mode := .bringUp, mains := true }, ev := { State.reset.ev with holding := true } }
        : State).power.mode = .bringUp
    := by decide +kernel
theorem meets_BringUpEvents_7 :
({ runState with clk := { State.reset.clk with core := true }, power := { State.reset.power with mode := .bringUp, mains := true }, ev := { State.reset.ev with holding := true } }
        : State).power.mode = .bringUp
    := by decide +kernel
theorem meets_BringUpEvents_8 :
({ runState with clk := { State.reset.clk with core := true }, power := { State.reset.power with mode := .bringUp, mains := true }, ev := { State.reset.ev with holding := true } }
        : State).power.mode = .bringUp
    := by decide +kernel
theorem meets_BringUpEvents_9 :
({ runState with clk := { State.reset.clk with core := true }, power := { State.reset.power with mode := .bringUp, mains := true }, ev := { State.reset.ev with holding := true } }
        : State).power.mode = .bringUp
    := by decide +kernel
theorem meets_BringUpEvents_10 :
    linkUsable
        ({ runState with clk := { State.reset.clk with core := true }, power := { State.reset.power with mode := .bringUp, mains := true }, ev := { State.reset.ev with holding := true } }
        : State) = true ∧
    msgCrcOk (handMsg : List Byte) = true ∧ (handMsg : List Byte).length = 16 ∧ byteAt (handMsg : List Byte) 0 = 3 ∧
    byteAt (handMsg : List Byte) 1 % 2 ≠ unitNumber
        ({ runState with clk := { State.reset.clk with core := true }, power := { State.reset.power with mode := .bringUp, mains := true }, ev := { State.reset.ev with holding := true } }
        : State) ∧
({ runState with clk := { State.reset.clk with core := true }, power := { State.reset.power with mode := .bringUp, mains := true }, ev := { State.reset.ev with holding := true } }
        : State).power.mode = .bringUp ∧
    (advance (80000000 : Nat)
        ({ runState with clk := { State.reset.clk with core := true }, power := { State.reset.power with mode := .bringUp, mains := true }, ev := { State.reset.ev with holding := true } }
        : State)).clk.cycle ≤ verdictAt
        ({ runState with clk := { State.reset.clk with core := true }, power := { State.reset.power with mode := .bringUp, mains := true }, ev := { State.reset.ev with holding := true } }
        : State)
    := by decide +kernel
theorem meets_BringUpEvents_11 :
    linkUsable
        ({ wr runState 0x1003 1 with clk := { State.reset.clk with core := true }, power := { State.reset.power with mode := .bringUp, mains := true }, ev := { State.reset.ev with holding := true } }
        : State) = true ∧
    msgCrcOk (handMsg : List Byte) = true ∧ (handMsg : List Byte).length = 16 ∧ byteAt (handMsg : List Byte) 0 = 3 ∧
    byteAt (handMsg : List Byte) 1 % 2 = unitNumber
        ({ wr runState 0x1003 1 with clk := { State.reset.clk with core := true }, power := { State.reset.power with mode := .bringUp, mains := true }, ev := { State.reset.ev with holding := true } }
        : State) ∧
({ wr runState 0x1003 1 with clk := { State.reset.clk with core := true }, power := { State.reset.power with mode := .bringUp, mains := true }, ev := { State.reset.ev with holding := true } }
        : State).power.mode = .bringUp
    := by decide +kernel
theorem meets_BringUpEvents_12 :
({ runState with clk := { State.reset.clk with core := true }, power := { State.reset.power with mode := .bringUp, mains := true }, ev := { State.reset.ev with holding := true } }
        : State).power.mode = .bringUp ∧
({ runState with clk := { State.reset.clk with core := true }, power := { State.reset.power with mode := .bringUp, mains := true }, ev := { State.reset.ev with holding := true } }
        : State).power.duplicate = false ∧
({ runState with clk := { State.reset.clk with core := true }, power := { State.reset.power with mode := .bringUp, mains := true }, ev := { State.reset.ev with holding := true } }
        : State).power.runSeen = none
    := by decide +kernel
theorem meets_BringUpEvents_13 :
({ { runState with clk := { State.reset.clk with core := true }, power := { State.reset.power with mode := .bringUp, mains := true }, ev := { State.reset.ev with holding := true } } with power := { { runState with clk := { State.reset.clk with core := true }, power := { State.reset.power with mode := .bringUp, mains := true }, ev := { State.reset.ev with holding := true } }.power with duplicate := true } }
        : State).power.mode = .bringUp ∧
({ { runState with clk := { State.reset.clk with core := true }, power := { State.reset.power with mode := .bringUp, mains := true }, ev := { State.reset.ev with holding := true } } with power := { { runState with clk := { State.reset.clk with core := true }, power := { State.reset.power with mode := .bringUp, mains := true }, ev := { State.reset.ev with holding := true } }.power with duplicate := true } }
        : State).power.duplicate = true ∧
    failSilent
        ({ { runState with clk := { State.reset.clk with core := true }, power := { State.reset.power with mode := .bringUp, mains := true }, ev := { State.reset.ev with holding := true } } with power := { { runState with clk := { State.reset.clk with core := true }, power := { State.reset.power with mode := .bringUp, mains := true }, ev := { State.reset.ev with holding := true } }.power with duplicate := true } }
        : State) = false
    := by decide +kernel
theorem meets_BringUpEvents_14 :
({ runState with clk := { State.reset.clk with core := true }, power := { State.reset.power with mode := .bringUp, mains := true }, ev := { State.reset.ev with holding := true } }
        : State).power.mode = .bringUp ∧
({ runState with clk := { State.reset.clk with core := true }, power := { State.reset.power with mode := .bringUp, mains := true }, ev := { State.reset.ev with holding := true } }
        : State).clk.core = true ∧
({ runState with clk := { State.reset.clk with core := true }, power := { State.reset.power with mode := .bringUp, mains := true }, ev := { State.reset.ev with holding := true } }
        : State).power.startAt = none
    := by decide +kernel

theorem meets_GnssAndPowerFrames_45 : (goodSubframe : List Word).length = 10 := by decide +kernel

theorem meets_FullQueueKeepsOldest_1 :
    ({ runState with ev := { runState.ev with queue := List.replicate 256 ⟨0, 7, 0, 0, 5, 6⟩ } } : State).clk.core = true ∧
    (9 : Nat) < 128 ∧
    ({ runState with ev := { runState.ev with queue := List.replicate 256 ⟨0, 7, 0, 0, 5, 6⟩ } } : State).ev.queue.length = 256
    := by decide +kernel
theorem meets_FullQueueKeepsOldest_2 :
    ({ runState with ev := { runState.ev with lost := true } } : State).clk.core = true ∧ (9 : Nat) < 128 ∧
    ({ runState with ev := { runState.ev with lost := true } } : State).ev.queue.length < 256 := by decide +kernel

theorem meets_SessionCode_1 : served opExpertCodeSet (rq (bs [5, 1, 0, 0]) : Req) (expert runState : State) = true
    := by decide +kernel
theorem meets_SessionCode_2 : served opExpertOpen (rq (bs [0, 0, 0, 0]) : Req) (runState : State) = true ∧
    (vget (runState : State).session (rq (bs [0, 0, 0, 0]) : Req).head.port).lockEnd = none ∧
    leAt (rq (bs [0, 0, 0, 0]) : Req).payload 0 2 = (runState : State).nv.code.toNat := by decide +kernel
theorem meets_SessionCode_3 : served opExpertOpen (rq (bs [1, 0, 0, 0]) : Req) (runState : State) = true ∧
    (vget (runState : State).session (rq (bs [1, 0, 0, 0]) : Req).head.port).lockEnd = none ∧
    leAt (rq (bs [1, 0, 0, 0]) : Req).payload 0 2 ≠ (runState : State).nv.code.toNat := by decide +kernel

theorem meets_FailSilenceLasts_1 :
    failSilent ({ runState with twin := { runState.twin with cause := 1 } } : State) = true ∧
    (∀ n, (.partnerPresence : Instr) ≠ .bringUpStart n) ∧
    (∃ t, exec (.partnerPresence : Instr) ({ runState with twin := { runState.twin with cause := 1 } } : State) = .next t)
    := ⟨by decide +kernel, (fun _ h => Instr.noConfusion h), ⟨_, rfl⟩⟩

end Sys2Proof
end

section
/-! SUPPORT. The frame relation `onlyChanges` as a calculus: it is reflexive and transitive, it widens with its parts and
identifiers, and each shared operation of the state is one step of it. -/
set_option Elab.async false

namespace Sys2Proof.Machine

/-! ### Parts -/

theorem Part.same_refl (p : Part) (s : State) : p.same s s := by
  cases p <;> simp [Part.same]

theorem Part.same_trans {p : Part} {s t u : State} (h : p.same s t) (k : p.same t u) : p.same s u := by
  cases p
  case clk =>
    simp only [Part.same] at h k ⊢
    rw [← k] at h
    exact h
  case power =>
    simp only [Part.same] at h k ⊢
    rw [← k] at h
    exact h
  case snap => exact ⟨k.1.trans h.1, k.2.trans h.2⟩
  all_goals exact Eq.trans k h

/-- A state with the named parts of another: what an effect on those parts alone may leave. -/
def overlay (P : List Part) (t u : State) : State where
  pending := t.pending
  free := bif P.contains .free then u.free else t.free
  clk := bif P.contains .clk then u.clk else t.clk
  regs := t.regs
  snap := bif P.contains .snap then u.snap else t.snap
  snapPoison := bif P.contains .snap then u.snapPoison else t.snapPoison
  poison := bif P.contains .poison then u.poison else t.poison
  arb := bif P.contains .arb then u.arb else t.arb
  now := u.now
  yards := bif P.contains .yards then u.yards else t.yards
  restart := bif P.contains .restart then u.restart else t.restart
  host := bif P.contains .host then u.host else t.host
  line := bif P.contains .line then u.line else t.line
  session := bif P.contains .session then u.session else t.session
  load := bif P.contains .load then u.load else t.load
  nv := bif P.contains .nv then u.nv else t.nv
  src := bif P.contains .src then u.src else t.src
  ser := bif P.contains .ser then u.ser else t.ser
  fus := bif P.contains .fus then u.fus else t.fus
  gnss := bif P.contains .gnss then u.gnss else t.gnss
  ctl := bif P.contains .ctl then u.ctl else t.ctl
  alc := bif P.contains .alc then u.alc else t.alc
  servo := bif P.contains .servo then u.servo else t.servo
  field := bif P.contains .field then u.field else t.field
  filt := bif P.contains .filt then u.filt else t.filt
  can := bif P.contains .can then u.can else t.can
  idReq := bif P.contains .idReq then u.idReq else t.idReq
  time := bif P.contains .time then u.time else t.time
  eth := bif P.contains .eth then u.eth else t.eth
  twin := bif P.contains .twin then u.twin else t.twin
  power := bif P.contains .power then u.power else t.power
  ev := bif P.contains .ev then u.ev else t.ev

theorem overlay_same {P : List Part} (t u : State) {p : Part} (h : p ∉ P) : p.same t (overlay P t u) := by
  have hc : P.contains p = false := by simpa using h
  cases p <;> simp only [Part.same, overlay, hc, cond_false, and_self]

/-! ### The calculus -/

@[simp] theorem noId_apply (id : Nat) : noId id = false := rfl

section
variable {P Q : List Part} {I J : Nat → Bool} {s t u : State}

theorem onlyChanges.refl : onlyChanges P I s s :=
  ⟨rfl, fun p _ => p.same_refl s, fun _ _ => rfl⟩

theorem onlyChanges.trans (h : onlyChanges P I s t) (k : onlyChanges P I t u) : onlyChanges P I s u := by
  obtain ⟨hpend, hpart, hreg⟩ := h
  obtain ⟨kpend, kpart, kreg⟩ := k
  exact ⟨kpend.trans hpend, fun p hp => Part.same_trans (hpart p hp) (kpart p hp),
    fun id hi => (kreg id hi).trans (hreg id hi)⟩

/-- A frame holds with more parts and more identifiers too. -/
theorem onlyChanges.widen (h : onlyChanges Q J s t) (hP : Q.all P.contains = true) (hI : ∀ id, J id = true → I id = true) :
    onlyChanges P I s t := by
  have hQ : ∀ p ∈ Q, p ∈ P := by simpa using hP
  obtain ⟨pending, parts, regs⟩ := h
  refine ⟨pending, fun p hp => parts p fun hq => hp (hQ p hq), fun id hi => regs id ?_⟩
  by_contra hj
  simp [hI id (by simpa using hj)] at hi

/-- One effect after another, where the frame of the second lies in that of the whole. -/
theorem onlyChanges.step (k : onlyChanges Q J t u) (h : onlyChanges P I s t) (hP : Q.all P.contains = true := by rfl)
    (hI : ∀ id, J id = true → I id = true := by simp +contextual [or_imp]) : onlyChanges P I s u :=
  h.trans (k.widen hP hI)

theorem onlyChanges.rd (h : onlyChanges P I s t) {id : Nat} (hi : I id = false) : rd t id = rd s id := by
  obtain ⟨-, -, regs⟩ := h
  exact regs id hi

/-- A part outside a frame is as it was. -/
theorem onlyChanges.part (h : onlyChanges P I s t) (p : Part) (hp : p ∉ P := by decide) : p.same s t := by
  obtain ⟨-, parts, -⟩ := h
  exact parts p hp

/-- An effect on parts that the frame names, and on no register. -/
theorem onlyChanges.set (hu : overlay P t u = u) (h : onlyChanges P I s t) : onlyChanges P I s u := by
  rw [← hu]
  exact h.trans ⟨rfl, fun _ hp => overlay_same t u hp, fun _ _ => rfl⟩

/-- An effect on register words that differ at most at the frame's identifiers. -/
theorem onlyChanges.regs {r : Regs} (h : onlyChanges P I s t) (hr : ∀ id, I id = false → regGet r id = regGet t.regs id) :
    onlyChanges P I s { t with regs := r } :=
  h.trans ⟨rfl, fun p _ => by cases p <;> simp [Part.same], hr⟩

theorem onlyChanges.ite {c : Prop} [Decidable c] (h : onlyChanges P I s t) (k : onlyChanges P I s u) :
    onlyChanges P I s (if c then t else u) := by split <;> assumption

/-- The two branches of a choice, where each may use its side of the condition. -/
theorem onlyChanges.iteOn {c : Prop} [Decidable c] (h : c → onlyChanges P I s t) (k : ¬c → onlyChanges P I s u) :
    onlyChanges P I s (if c then t else u) := by
  split
  next hc => exact h hc
  next hc => exact k hc

/-- An effect that is made only where a condition holds. -/
theorem onlyChanges.opt {c : Prop} [Decidable c] (h : onlyChanges P I s t) (k : c → onlyChanges P I t u) :
    onlyChanges P I s (if c then u else t) :=
  .iteOn (fun hc => h.trans (k hc)) fun _ => h

/-- An effect that is made unless a condition holds. -/
theorem onlyChanges.optNot {c : Prop} [Decidable c] (h : onlyChanges P I s t) (k : ¬c → onlyChanges P I t u) :
    onlyChanges P I s (if c then t else u) :=
  .iteOn (fun _ => h) fun hc => h.trans (k hc)

theorem onlyChanges.foldl {α : Type} {l : List α} {f : State → α → State} (h : onlyChanges P I s t)
    (hf : ∀ u, ∀ a ∈ l, onlyChanges P I u (f u a)) : onlyChanges P I s (l.foldl f t) := by
  induction l generalizing t with
  | nil => exact h
  | cons a l ih =>
    exact ih (h.trans (hf t a (by simp))) fun u b hb => hf u b (List.mem_cons_of_mem a hb)

/-! ### Registers and the clock -/

theorem onlyChanges.wr {id : Nat} {w : Word} (h : onlyChanges P I s t) (hi : I id = true := by simp) :
    onlyChanges P I s (wr t id w) := by
  refine h.trans ⟨rfl, fun p _ => ?_, fun j hj => rd_wr_other _ _ _ _ ?_⟩
  · cases p <;> simp [Part.same]
  · rintro rfl; simp [hi] at hj

theorem onlyChanges.wrFld {id hi lo v : Nat} (h : onlyChanges P I s t) (hid : I id = true := by simp) :
    onlyChanges P I s (wrFld t id hi lo v) := h.wr hid

theorem onlyChanges.wrFlag {id i : Nat} {b : Bool} (h : onlyChanges P I s t) (hi : I id = true := by simp) :
    onlyChanges P I s (wrFlag t id i b) := h.wr hi

theorem onlyChanges.bump {id hi lo d : Nat} (h : onlyChanges P I s t) (hid : I id = true := by simp) :
    onlyChanges P I s (bump t id hi lo d) := h.wr hid

theorem onlyChanges.sticky {id i : Nat} (h : onlyChanges P I s t) (hi : I id = true := by simp) :
    onlyChanges P I s (sticky t id i) := by
  refine h.trans ⟨by simp, fun p _ => ?_, fun j hj => ?_⟩
  · cases p <;> simp [Part.same]
  · rw [rd_sticky, if_neg]; rintro rfl; simp [hi] at hj

theorem onlyChanges.advance {c : Nat} (h : onlyChanges P I s t) : onlyChanges P I s (advance c t) := by
  refine h.trans ⟨by simp, fun p _ => ?_, fun j _ => by simp⟩
  cases p
  case clk => exact advance_clk_same c t
  case power => exact advance_power_same c t
  all_goals simp [Part.same]

theorem onlyChanges.wrAll {l : List (Nat × Word)} (h : onlyChanges P I s t) (hI : ∀ x ∈ l, I x.1 = true := by simp)
    (hP : P.contains .poison = true := by rfl) : onlyChanges P I s (wrAll t l) := by
  have hp : onlyChanges [.poison] I t { t with poison := t.poison.filter fun i => !(l.any (·.1 == i)) } := .set rfl .refl
  exact .foldl (hp.step h (by simpa using hP) fun _ => id) fun _ x hx => .wr .refl (hI x hx)

/-! ### Events -/

theorem raiseWith_only (f : Bool) (n a : Nat) (s : State) :
    onlyChanges [.line, .ev] (eventIds n).contains s (raiseWith f n a s) := by
  refine ⟨by simp, fun p hp => ?_, fun id h => ?_⟩
  · cases p <;> simp_all [Part.same]
  · have h' : id ∉ eventIds n := by simpa using h
    have h1 : id ≠ 0x1304 + n / 32 := by rintro rfl; simp [eventIds] at h'
    have h2 : id ≠ 0x130D := by rintro rfl; simp [eventIds] at h'
    unfold raiseWith; dsimp only
    (repeat' split) <;> simp [rd_queuePut _ _ _ _ _ h2, rd_sticky, h1]

theorem anyEventId_of_mem_eventIds {n id : Nat} (hn : n < 128) (h : (eventIds n).contains id = true) : anyEventId id = true := by
  simp only [eventIds, List.contains_eq_mem, List.mem_cons, List.not_mem_nil, or_false, decide_eq_true_eq] at h
  simp only [anyEventId, List.contains_eq_mem, List.mem_cons, List.not_mem_nil, or_false, decide_eq_true_eq]
  omega

theorem onlyChanges.raiseWith {f : Bool} {n a : Nat} (h : onlyChanges P I s t) (hn : n < 128 := by decide)
    (hP : [Part.line, .ev].all P.contains = true := by rfl)
    (hI : ∀ id, anyEventId id = true → I id = true := by simp +contextual) :
    onlyChanges P I s (raiseWith f n a t) :=
  (raiseWith_only f n a t).step h hP fun id hi => hI id (anyEventId_of_mem_eventIds hn hi)

theorem onlyChanges.raise {n a : Nat} (h : onlyChanges P I s t) (hn : n < 128 := by decide)
    (hP : [Part.line, .ev].all P.contains = true := by rfl)
    (hI : ∀ id, anyEventId id = true → I id = true := by simp +contextual) :
    onlyChanges P I s (raise n a t) := h.raiseWith hn hP hI

theorem onlyChanges.raiseIf {b : Bool} {n a : Nat} (h : onlyChanges P I s t) (hn : n < 128 := by decide)
    (hP : [Part.line, .ev].all P.contains = true := by rfl)
    (hI : ∀ id, anyEventId id = true → I id = true := by simp +contextual) :
    onlyChanges P I s (raiseIf b n a t) := by
  unfold Machine.raiseIf
  exact (h.raise hn hP hI).ite h

theorem mem_eventInsert {e x : Nat × Nat} {k : List (Nat × Nat)} (h : x ∈ eventInsert e k) : x = e ∨ x ∈ k := by
  induction k with
  | nil => simpa [eventInsert] using h
  | cons y k ih =>
    unfold eventInsert at h
    split at h
    · simpa using h
    · rcases List.mem_cons.1 h with rfl | h
      · simp
      · exact (ih h).imp_right (List.mem_cons_of_mem y)

/-- Sorting a list of events by their order brings no event into it. -/
theorem mem_of_mem_sorted {x : Nat × Nat} {l : List (Nat × Nat)} (h : x ∈ l.foldr eventInsert []) : x ∈ l := by
  induction l with
  | nil => exact h
  | cons y l ih =>
    rcases mem_eventInsert h with rfl | h
    · simp
    · exact List.mem_cons_of_mem _ (ih h)

theorem onlyChanges.raiseAll {l : List (Nat × Nat)} (h : onlyChanges P I s t) (hn : ∀ x ∈ l, x.1 < 128 := by simp)
    (hP : [Part.line, .ev].all P.contains = true := by rfl)
    (hI : ∀ id, anyEventId id = true → I id = true := by simp +contextual) : onlyChanges P I s (raiseAll l t) := by
  exact .foldl h fun u x hx => .raise .refl (hn x (mem_of_mem_sorted hx)) hP hI

end

/-! ### Answers of a command -/

/-- A command's answer is a next state within a frame. -/
def framed (P : List Part) (I : Nat → Bool) (s : State) (o : Out) : Prop := ∃ t, o = .next t ∧ onlyChanges P I s t

section
variable {P : List Part} {I : Nat → Bool} {s t : State} {a b : Out}

theorem framed.next (h : onlyChanges P I s t) : framed P I s (.next t) := ⟨t, rfl, h⟩

theorem framed.ite {c : Prop} [Decidable c] (h : framed P I s a) (k : framed P I s b) : framed P I s (if c then a else b) := by
  split <;> assumption

end

end Sys2Proof.Machine
end

section
/-! SUPPORT. The service of a request as one step of the frame calculus: what its checks, its arbitration, its reply and the forwarding
touch (04 R109, R111, R114, 15 R449), so that the frame of a request is that of its opcode's commit. -/
set_option Elab.async false

namespace Sys2Proof.Machine

section
variable {P Q : List Part} {I J : Nat → Bool} {s t : State}

/-! ### The reply -/

theorem attentionDue_only (d : Nat) (s : State) : onlyChanges [.line] noId s (attentionDue d s) :=
  .ite .refl (.set rfl .refl)

theorem ethQueue_only (e : Fin 2) (c : Nat) (f : EthTx) (s : State) : onlyChanges [.eth] noId s (ethQueue e c f s) :=
  .ite .refl (.set rfl .refl)

theorem onlyChanges.ethQueue {e : Fin 2} {c : Nat} {f : EthTx} (h : onlyChanges P I s t)
    (hP : [Part.eth].all P.contains = true := by rfl) :
    onlyChanges P I s (ethQueue e c f t) :=
  (ethQueue_only e c f t).step h hP

theorem replyDatagram_only (q : Option Peer) (p : List Byte) (c : Nat) (s : State) :
    onlyChanges [.eth] noId s (replyDatagram q p c s) := by
  cases q with
  | none => exact .refl
  | some q => exact ethQueue_only ..

theorem sendReply_only (h : ReqHead) (op fl c : Nat) (p : List Byte) (s : State) :
    onlyChanges [.host, .line, .eth] noId s (sendReply h op fl c p s) :=
  .ite ((attentionDue_only _ _).step (.set rfl (.set rfl .refl)))
    (.ite ((replyDatagram_only ..).step (.set rfl .refl)) (.set rfl .refl))

theorem respond_only (h : ReqHead) (op c st det : Nat) (d : List Byte) (s : State) :
    onlyChanges [.host, .line, .eth] [0x1007, 0x1008].contains s (respond h op c st det d s) := by
  have counted : onlyChanges [.host, .line, .eth] [0x1007, 0x1008].contains s
      (if st = stNotPermitted then sticky s 0x1007 1
       else if st = stConflict then bump (sticky s 0x1007 2) 0x1008 15 0 1
       else if st = stNotReady then sticky s 0x1007 3 else s) :=
    .ite (.sticky .refl) (.ite (.bump (.sticky .refl)) (.ite (.sticky .refl) .refl))
  exact .ite (.set rfl counted) ((sendReply_only ..).step counted rfl (by simp [noId]))

/-! ### Class, arbitration and forwarding -/

theorem atCommit_only (o : OpSpec) (r : Req) (s : State) : onlyChanges [.session] noId s (atCommit o r s) :=
  .advance (.set rfl .refl)

theorem forward_only (o : OpSpec) (r : Req) (st : Nat) (s : State) : onlyChanges [.twin] noId s (forward o r st s) :=
  .ite (.set rfl .refl) .refl

theorem noteCommit_only (cls port : Nat) (l : List Nat) (s : State) : onlyChanges [.arb] noId s (noteCommit cls port l s) :=
  .set rfl .refl

/-! ### The commit -/

/-- The frame of an opcode's commit, whatever the payload: the parts named, the stalls it writes and the further identifiers named. -/
def commitOnly (o : OpSpec) (parts : List Part) (more : Nat → Bool) : Prop :=
  ∀ (port : Fin 2) (p : List Byte) (s : State),
    onlyChanges parts (fun id => (o.targets p s).contains id || more id) s (o.commit port p s).state

/-- A commit answers whether it is applied or refused for poison, and a whole write clears marks (01 R24). -/
theorem commitPoison_only {o : OpSpec} {p : List Byte} {port : Fin 2}
    (h : onlyChanges P I s (o.commit port p s).state) (hP : [Part.poison].all P.contains = true := by rfl) :
    onlyChanges P I s (commitPoison o port p s).state := by
  unfold commitPoison
  dsimp only
  split
  · split
    · exact onlyChanges.step (Q := [.poison]) (J := noId) (.set rfl .refl) h hP
    · exact h
  · exact .refl

theorem commitDone_only {x : Result} {u : State} (h : onlyChanges P I s x.state) (hP : [Part.arb].all P.contains = true := by rfl) :
    onlyChanges P I s (commitDone u x) :=
  .ite h (onlyChanges.step (Q := [.arb]) (J := noId) (.set rfl .refl) h hP)

/-- The frame of the service of a request: that of the commit in a state with the same registers, with what every reply may touch. -/
theorem serve_within {o : OpSpec} {r : Req} (hP : replyParts.all P.contains = true)
    (hI : ∀ id, [0x1007, 0x1008].contains id = true → I id = true)
    (hc : ∀ t, t.regs = s.regs → onlyChanges P I t (o.commit r.head.port r.payload t).state) :
    onlyChanges P I s (serve o r s) := by
  have hR : ∀ {Q : List Part}, Q.all replyParts.contains = true → Q.all P.contains = true := by
    simp only [List.all_eq_true, List.contains_eq_mem, decide_eq_true_eq] at hP ⊢
    exact fun h p hp => hP p (h p hp)
  have answer : ∀ {t : State} (op c st det : Nat) (d : List Byte), onlyChanges P I s t →
      onlyChanges P I s (respond r.head op c st det d t) :=
    fun op c st det d h => (respond_only r.head op c st det d _).step h (hR rfl) hI
  have forwarded : ∀ {t : State} (st : Nat), onlyChanges P I s t → onlyChanges P I s (forward o r st t) :=
    fun st h => (forward_only o r st _).step h (hR rfl)
  have atIt : onlyChanges P I s (atCommit o r s) := (atCommit_only o r s).step .refl (hR rfl)
  unfold serve
  split
  · exact .refl
  · exact answer _ _ _ _ _ (.step (Q := [.session]) (J := noId) (.set rfl .refl) .refl (hR rfl))
  · dsimp only
    split
    · exact answer _ _ _ _ _ (forwarded _ atIt)
    · unfold commitRequest arbitrate
      dsimp only
      split
      · exact answer _ _ _ _ _ (forwarded _ atIt)
      next s1 hs =>
        split at hs
        · simp at hs
        · obtain rfl := Option.some.inj hs
          have noted := (noteCommit_only (hostClass (atCommit o r s) r.head.port) r.head.port.val
            (commitTargets o r.payload (atCommit o r s)) _).step atIt (hR rfl)
          refine answer _ _ _ _ _ (forwarded _ (commitDone_only ?_ (hR rfl)))
          exact noted.trans (commitPoison_only (hc _ (by simp)) (hR rfl))

end

/-- The frame of the service of a request of an opcode whose commit has a frame and whose target set follows from the registers. -/
theorem serve_only {o : OpSpec} {Q : List Part} {M : Nat → Bool} (h : commitOnly o Q M) (parts : List Part) (more : Nat → Bool)
    (r : Req) (s : State) (hQ : Q.all (replyParts ++ parts).contains = true := by rfl)
    (hM : ∀ id, M id = true → (requestIds o r s id || more id) = true := by simp +contextual [requestIds, or_imp])
    (ht : ∀ p s t, t.regs = s.regs → o.targets p t = o.targets p s := by intros; rfl) :
    onlyChanges (replyParts ++ parts) (fun id => requestIds o r s id || more id) s (serve o r s) := by
  refine serve_within ?_ ?_ fun t hr => ?_
  · simp only [List.all_eq_true, List.contains_eq_mem, decide_eq_true_eq, List.mem_append]
    exact fun p hp => .inl hp
  · intro id hid
    simp only [requestIds, hid, Bool.true_or]
  · refine (h r.head.port r.payload t).widen hQ fun id hid => ?_
    rw [ht r.payload (atCommit o r s) t (by simp [hr]), Bool.or_eq_true] at hid
    rcases hid with hid | hid
    · simp only [requestIds, hid, Bool.or_true, Bool.true_or]
    · exact hM id hid

/-- The frame of a request that is served and nothing else. -/
theorem requestFrame_of_commitOnly {o : OpSpec} {cmd : Req → Instr} {Q parts : List Part} {M more : Nat → Bool}
    (h : commitOnly o Q M) (hx : ∀ r s, exec (cmd r) s = .next (serve o r s) := by exact fun _ _ => rfl)
    (hQ : Q.all (replyParts ++ parts).contains = true := by rfl)
    (hM : ∀ r s id, M id = true → (requestIds o r s id || more id) = true := by simp +contextual [requestIds, or_imp])
    (ht : ∀ p s t, t.regs = s.regs → o.targets p t = o.targets p s := by intros; rfl) : requestFrame o cmd parts more :=
  fun r s => ⟨_, hx r s, serve_only h parts more r s hQ (hM r s) ht⟩

/-- The frame of a request whose commit leaves the state as it is. -/
theorem requestFrame_of_read {o : OpSpec} {cmd : Req → Instr} (h : ∀ port p s, (o.commit port p s).state = s := by intros; rfl)
    (hx : ∀ r s, exec (cmd r) s = .next (serve o r s) := by exact fun _ _ => rfl)
    (ht : ∀ p s t, t.regs = s.regs → o.targets p t = o.targets p s := by intros; rfl) : requestFrame o cmd [] noId :=
  requestFrame_of_commitOnly (Q := []) (M := noId) (fun port p s => by rw [h]; exact .refl) hx rfl (by simp) ht

end Sys2Proof.Machine
end

section
/-! SUPPORT. The frames of the commits of the opcodes (04 R115-R137 and the opcode sections of the other chapters), one lemma an opcode,
and of the operations that they share. Opcodes whose commit leaves the state as it is need none. -/
set_option Elab.async false

namespace Sys2Proof.Machine

section
variable {P : List Part} {I : Nat → Bool} {s t : State}

/-! ### Register files -/

/-- Writes of listed identifiers, one after another, change no other identifier's word. -/
theorem regGet_foldl_regSet {α : Type} (l : List α) (key : α → Nat) (val : Regs → α → Word) (r : Regs) (id : Nat)
    (h : ∀ x ∈ l, key x ≠ id) : regGet (l.foldl (fun r x => regSet r (key x) (val r x)) r) id = regGet r id := by
  induction l generalizing r with
  | nil => rfl
  | cons x l ih =>
    rw [List.foldl_cons, ih _ fun y hy => h y (List.mem_cons_of_mem x hy), regGet_regSet, if_neg (Ne.symm (h x (by simp)))]

/-! ### Sessions, the nonvolatile store and events -/

theorem closeSession_only (p : Fin 2) (reason : Nat) (s : State) :
    onlyChanges [.session, .line, .ev] (fun id => anyEventId id || id == 0x1005) s (closeSession p reason s) :=
  .ite (.raise (.wrFlag (.set rfl .refl))) .refl

theorem expertDenied_only (p : Fin 2) (s : State) :
    onlyChanges [.session, .line, .ev] (fun id => anyEventId id || [0x1005, 0x1007].contains id) s (expertDenied p s) :=
  .raise (.ite (.set rfl (.sticky (.wrFld .refl))) (.sticky (.wrFld .refl)))

theorem expertMatch_only (p : Fin 2) (s : State) :
    onlyChanges [.session, .line, .ev] (fun id => anyEventId id || id == 0x1005) s (expertMatch p s) :=
  .ite (.wrFld (.set rfl .refl)) (.raise (.wrFlag (.wrFld (.set rfl .refl))))

theorem opExpertOpen_commitOnly :
    commitOnly opExpertOpen [.session, .line, .ev] fun id => anyEventId id || id == 0x1007 := by
  intro port p s
  dsimp only [opExpertOpen]
  split
  · exact .refl
  · split
    · exact (expertMatch_only port s).step .refl
    · exact (expertDenied_only port s).step .refl

theorem opExpertClose_commitOnly : commitOnly opExpertClose [.session, .line, .ev] anyEventId :=
  fun port _ s => (closeSession_only port 0 s).step .refl rfl (by simp [opExpertClose, or_comm])

theorem opExpertCodeSet_commitOnly : commitOnly opExpertCodeSet [.nv] noId := fun _ _ _ => .set rfl .refl

theorem opEventsRead_commitOnly : commitOnly opEventsRead [.ev] noId := fun _ _ _ => .ite .refl (.set rfl .refl)

/-! ### Control modes -/

theorem writeMode_only (m : Nat) (a : Bool) (pr : Nat) (d : Bool) (c : Nat) (s : State) :
    onlyChanges [.ctl, .line, .ev] (fun id => anyEventId id || id == 0x2000) s (writeMode m a pr d c s) :=
  .raiseIf (.set rfl (.wr .refl))

theorem modeSet_commitOnly (expert : Bool) (code : Nat) :
    commitOnly (modeSet expert code) [.ctl, .line, .ev, .poison] anyEventId := by
  intro port p s
  dsimp only [modeSet, okResult]
  refine (writeMode_only ..).step ?_ rfl (by simp +contextual [or_imp])
  exact .opt (.opt .refl fun hf => .wr .refl (by simp [hf])) fun he => .wrAll .refl (by simp +contextual [he])

theorem opSetpointSet_commitOnly : commitOnly opSetpointSet [.ctl, .poison] noId := by
  intro port p s
  dsimp only [opSetpointSet, okResult]
  exact .optNot (.optNot (.opt (.opt .refl fun _ => .set rfl (.wrAll .refl)) fun _ => .set rfl (.wr .refl)) fun _ => .wr .refl)
    fun _ => .wr .refl

theorem opJoystickSet_commitOnly : commitOnly opJoystickSet [.ctl] noId := fun _ _ _ => .set rfl .refl

theorem opBerthPushSet_commitOnly : commitOnly opBerthPushSet [] noId :=
  fun _ _ _ => .wrFld (.wr .refl (by simp [opBerthPushSet])) (by simp [opBerthPushSet])

theorem opTrackLoad_commitOnly : commitOnly opTrackLoad [.ctl] noId := fun _ _ _ => .set rfl (.wr .refl (by simp [opTrackLoad]))

theorem opLossModeSet_commitOnly : commitOnly opLossModeSet [] noId := fun _ _ _ => .wr .refl (by simp [opLossModeSet])

/-! ### References -/

theorem storeCfg_only (q : Nat) (x : SrcCfg) (s : State) :
    onlyChanges [.poison] ((List.range 8).map (srcId q)).contains s (storeCfg q x s) :=
  .wrAll .refl (by simp [srcId])

theorem refConfig_commitOnly (expert : Bool) (code : Nat) : commitOnly (refConfig expert code) [.poison] noId :=
  fun _ _ _ => (storeCfg_only ..).step .refl rfl (by simp [refConfig])

theorem setEnable_only (q : Nat) (on : Bool) (s : State) : onlyChanges [.src] (fun id => id == srcId q 0) s (setEnable q on s) :=
  .ite (.set rfl (.wrFlag .refl)) (.wrFlag .refl)

theorem opRefEnable_commitOnly : commitOnly opRefEnable [.src] noId :=
  fun _ _ _ => (setEnable_only ..).step .refl rfl (by simp [opRefEnable])

theorem opRefStatusRead_commitOnly : commitOnly opRefStatusRead [.src] noId := fun _ _ _ => .ite (.set rfl .refl) .refl

theorem opSelectReference_commitOnly : commitOnly opSelectReference [.fus] noId := fun _ _ _ => .set rfl .refl

theorem opReplayWindowSet_commitOnly : commitOnly opReplayWindowSet [] noId :=
  fun _ _ _ => .wrFld .refl (by simp [opReplayWindowSet])

/-! ### Thrusters and axes -/

theorem allocBasicRegs_other (r : Regs) (p : List Byte) (id : Nat) (h : id ∉ 0x2480 :: allocWords.map (·.1)) :
    regGet (allocBasicRegs r p) id = regGet r id := by
  simp only [List.mem_cons, List.mem_map, not_or, not_exists, not_and] at h
  unfold allocBasicRegs
  dsimp only
  rw [regGet_foldl_regSet allocWords (·.1) (fun _ x => wordAt p x.2) _ _ h.2, regGet_regSet, if_neg h.1]

theorem opAllocConfigBasic_commitOnly : commitOnly opAllocConfigBasic [] noId :=
  fun _ p s => .regs .refl fun id hid => allocBasicRegs_other s.regs p id (by simpa [opAllocConfigBasic] using hid)

theorem opAllocConfigExpert_commitOnly : commitOnly opAllocConfigExpert [.poison] noId :=
  fun _ _ _ => .wrAll .refl (by simp [opAllocConfigExpert])

theorem opPowerLimitSet_commitOnly : commitOnly opPowerLimitSet [.poison] noId :=
  fun _ _ _ => .wrAll .refl (by simp [opPowerLimitSet])

theorem opCompatModeSet_commitOnly : commitOnly opCompatModeSet [] noId := fun _ _ _ => .wrFlag .refl (by simp [opCompatModeSet])

/-- An identifier of AXIS_STATUS (10 R301). -/
def isAxisState (id : Nat) : Bool := idsIn 0x500E 0x52FE id && id % 16 == 14

theorem pendingAxis_lt {s : State} {a : Nat} (h : (axisAt s a).pend = true) : a < 48 := by
  by_contra ha
  simp [axisAt, vgetD, ha, AxisUnit.off] at h

theorem isAxisState_of_lt {a : Nat} (h : a < 48) : isAxisState (0x500E + 16 * a) = true := by
  simp [isAxisState, idsIn]; omega

theorem dropPending_only (l : List Nat) (s : State) : onlyChanges [.servo] isAxisState s (dropPending l s) :=
  .foldl .refl fun _ _ _ => .iteOn (fun h => .sticky (.set rfl .refl) (isAxisState_of_lt (pendingAxis_lt h))) fun _ => .refl

theorem requestDisable_only (thr : Bool) (a : Nat) (s : State) : onlyChanges [.servo] isAxisState s (requestDisable thr a s) :=
  .set rfl (.ite (dropPending_only [a] s) .refl)

theorem requestEnable_only (thr : Bool) (a : Nat) (s : State) : onlyChanges [.servo] noId s (requestEnable thr a s) :=
  .set rfl .refl

theorem pendEnable_only (thr : Bool) (a : Nat) (s : State) : onlyChanges [.servo] noId s (pendEnable thr a s) :=
  .set rfl .refl

theorem opAxisEnable_commitOnly : commitOnly opAxisEnable [.servo] noId := by
  intro port p s
  dsimp only [opAxisEnable]
  split
  · exact .set rfl .refl
  · exact .set rfl .refl

theorem opAxisDisable_commitOnly : commitOnly opAxisDisable [.servo] isAxisState :=
  fun _ _ _ => (requestDisable_only ..).step .refl

theorem opThrusterEnable_commitOnly : commitOnly opThrusterEnable [.servo, .alc] noId := by
  intro port p s
  dsimp only [opThrusterEnable]
  split
  · exact .foldl .refl fun u a _ => .set rfl .refl
  · exact .set rfl (.foldl .refl fun u a _ => .set rfl .refl)

theorem opThrusterDisable_commitOnly : commitOnly opThrusterDisable [.servo, .alc] isAxisState :=
  fun _ _ _ => .set rfl (.foldl .refl fun _ _ _ => (requestDisable_only ..).step .refl)

theorem axisConfig_commitOnly (expert : Bool) (code : Nat) : commitOnly (axisConfig expert code) [.poison] noId :=
  fun _ _ _ => .wrAll .refl fun x hx => by
    obtain ⟨y, hy, rfl⟩ := List.mem_map.1 hx
    simpa [axisConfig] using ⟨_, hy⟩

theorem opCompTableLoad_commitOnly : commitOnly opCompTableLoad [.servo, .line, .ev] anyEventId :=
  fun _ _ _ => .raise (.set rfl .refl)

/-! ### Field channels and filters -/

theorem channelConfig_commitOnly (expert : Bool) (code : Nat) : commitOnly (channelConfig expert code) [.poison] noId := by
  intro port p s
  dsimp only [channelConfig, okResult]
  cases expert
  · exact .wrAll .refl
  · exact .wr (.wrAll .refl)

theorem opOutputSet_commitOnly : commitOnly opOutputSet [] noId :=
  fun _ _ _ => .ite (.wrFld .refl (by simp [opOutputSet]; omega)) (.wrFld .refl (by simp [opOutputSet]; omega))

theorem opSafeValueSet_commitOnly : commitOnly opSafeValueSet [] noId := fun _ _ _ => .wr .refl (by simp [opSafeValueSet])

theorem opFilterPreset_commitOnly : commitOnly opFilterPreset [] noId := by
  intro port p s
  have written : ∀ l ∈ (if byteAt p 0 = 0xFF then List.range 48 else [byteAt p 0]),
      ((opFilterPreset.targets p s).contains (0x5400 + 16 * l) || noId (0x5400 + 16 * l)) = true := by
    intro l hl
    by_cases h : byteAt p 0 = 0xFF <;> simp_all [opFilterPreset]
  exact .foldl .refl fun _ l hl => .wrFld (.wrFld .refl (written l hl)) (written l hl)

theorem opFilterCustom_commitOnly : commitOnly opFilterCustom [.filt] noId :=
  fun _ _ _ => .ite (.wrFld (.set rfl .refl) (by simp [opFilterCustom])) (.set rfl .refl)

theorem opDcBlockSet_commitOnly : commitOnly opDcBlockSet [] noId :=
  fun _ _ _ => .wrFld (.wrFld .refl (by simp [opDcBlockSet])) (by simp [opDcBlockSet])

theorem syncEdge_only (c src : Nat) (s : State) :
    onlyChanges [.filt, .line, .ev] (fun id => anyEventId id || [0x5409, 0x540A].contains id) s (syncEdge c src s) := by
  have go : ∀ e t, onlyChanges [.filt, .line, .ev] (fun id => anyEventId id || [0x5409, 0x540A].contains id) t
      (syncEdge.go src e t) :=
    fun _ _ => .raise (.bump (.wr (.set rfl .refl)))
  unfold syncEdge
  dsimp only
  split
  · exact .ite (.set rfl (.set rfl (.advance .refl))) ((go _ _).step (.advance .refl))
  · exact (go _ _).step (.advance .refl)

theorem opSyncFilters_commitOnly : commitOnly opSyncFilters [.filt, .line, .ev] fun id => anyEventId id || id == 0x540A :=
  fun _ _ _ => (syncEdge_only ..).step .refl rfl (by simp +contextual [opSyncFilters, or_imp])

/-! ### CAN, Ethernet and time -/

theorem canConfigRegs_other (expert : Bool) (r : Regs) (p : List Byte) (id : Nat) (h : ∀ i < 6, id ≠ canId (byteAt p 0) i) :
    regGet (canConfigRegs expert r p) id = regGet r id := by
  unfold canConfigRegs
  dsimp only
  refine regGet_foldl_regSet _ (fun x : Nat × Word => canId (byteAt p 0) x.1) (fun _ x => x.2) _ _ ?_
  have h' : ∀ i < 6, canId (byteAt p 0) i ≠ id := fun i hi => Ne.symm (h i hi)
  simp [h']

theorem canConfig_commitOnly (expert : Bool) (code : Nat) : commitOnly (canConfig expert code) [] noId :=
  fun _ p s => .regs .refl fun id hid => canConfigRegs_other expert s.regs p id (by
    have : ∀ i < 6, canId (byteAt p 0) i ≠ id := by simpa [canConfig] using hid
    exact fun i hi => Ne.symm (this i hi))

theorem opCanIdEnable_commitOnly : commitOnly opCanIdEnable [.idReq, .can] noId := by
  intro port p s
  have cleared : ∀ J, onlyChanges [.idReq, .can] J s
      (if byteAt p 1 % 2 = 1 then clearClash (byteAt p 0) (bitsOf (wordAt p 4) 28 0) (bitOf (wordAt p 4) 31) s else s) :=
    fun _ => .opt .refl fun _ => .set rfl .refl
  dsimp only [opCanIdEnable, okResult]
  split
  · exact .set rfl (cleared _)
  · exact cleared _

theorem opCanSend_commitOnly : commitOnly opCanSend [.can] noId := fun _ _ _ => .set rfl .refl

theorem opCanStatusRead_commitOnly : commitOnly opCanStatusRead [.can, .poison] noId :=
  fun _ _ _ => .opt .refl fun h => .set rfl (.wrAll .refl (by simp [opCanStatusRead, h, canId]))

theorem announceAddress_only (e : Fin 2) (s : State) : onlyChanges [.eth] noId s (announceAddress e s) :=
  .ite (.foldl (.ethQueue .refl) fun _ _ _ => .ethQueue .refl) .refl

theorem ethEffect_only (b : State) (e : Fin 2) (s : State) : onlyChanges [.eth] noId s (ethEffect b e s) :=
  .ite .refl (.ite (.foldl (announceAddress_only e s) fun _ _ _ => .ethQueue .refl)
    (.foldl (.foldl .refl fun _ _ _ => .ethQueue .refl) fun _ _ _ => .ethQueue .refl))

theorem opEthConfig_commitOnly : commitOnly opEthConfig [.eth] noId := by
  intro port p s
  have stored : onlyChanges [.eth] (fun id => (opEthConfig.targets p s).contains id || noId id) s
      { s with regs := ethConfigRegs s.regs p } := by
    refine .regs .refl fun id hid => ?_
    have h : ∀ i < 4, 0x7100 + 16 * byteAt p 0 + i ≠ id := by simpa [opEthConfig] using hid
    have h0 := h 0; have h1 := h 1; have h2 := h 2; have h3 := h 3
    simp only [ethConfigRegs, regGet_regSet]
    grind
  exact .ite ((ethEffect_only ..).step stored) ((ethEffect_only ..).step stored)

theorem slotEvents_only (b : State) (d : Fin 2) (s : State) :
    onlyChanges [.line, .ev] anyEventId s (slotEvents b d [] s) :=
  .raiseAll .refl (by simp [eventsWhen]; grind)

theorem slotEffect_only (b : State) (d : Fin 2) (s : State) : onlyChanges [.time, .line, .ev] anyEventId s (slotEffect b d s) :=
  .ite .refl (.set rfl ((slotEvents_only ..).step (.set rfl .refl)))

theorem ptpConfig_commitOnly (expert : Bool) (code : Nat) : commitOnly (ptpConfig expert code) [.time, .line, .ev] anyEventId := by
  intro port p s
  have stored : onlyChanges [.time, .line, .ev] (fun id => ((ptpConfig expert code).targets p s).contains id || anyEventId id) s
      { s with regs := ptpConfigRegs expert s.regs p } := by
    refine .regs .refl fun id hid => ?_
    cases expert <;> simp [ptpConfig] at hid <;> simp [ptpConfigRegs, regGet_regSet, hid]
  exact .ite ((slotEffect_only ..).step stored) ((slotEffect_only ..).step stored)

theorem switchSlot_only (d : Fin 2) (a : Bool) (s : State) :
    onlyChanges [.time, .line, .ev] (fun id => anyEventId id || id == 0x7206) s (switchSlot d a s) :=
  .raiseAll (.sticky (.set rfl (.set rfl .refl))) (by simp [eventsWhen]; grind)

theorem selectEffect_only (s : State) :
    onlyChanges [.time, .line, .ev] (fun id => anyEventId id || id == 0x7206) s (selectEffect s) :=
  .ite .refl (switchSlot_only ..)

theorem opTimeDomainSelect_commitOnly : commitOnly opTimeDomainSelect [.time, .line, .ev] fun id => anyEventId id || id == 0x7206 :=
  fun _ _ _ => (selectEffect_only _).step (.wrFld .refl (by simp [opTimeDomainSelect])) rfl (by simp +contextual)

/-! ### GNSS -/

theorem updGnss_only (f : Gnss → Gnss) (s : State) : onlyChanges [.gnss] noId s (updGnss f s) := .set rfl .refl

theorem clearAntenna_only (a : Nat) (s : State) : onlyChanges [.gnss] noId s (clearAntenna a s) :=
  .foldl .refl fun _ _ _ => .set rfl .refl

theorem unbias_only (a : Fin 2) (s : State) : onlyChanges [.gnss] (fun id => id == 0x4010 + a.val) s (unbias a s) :=
  .optNot .refl fun _ => .set rfl (.wrFld .refl)

theorem showHeading_only (st n l : Nat) (s : State) : onlyChanges [.gnss] (fun id => id == 0x4014) s (showHeading st n l s) :=
  .wr (.set rfl .refl)

theorem gnssEffect_only (b s : State) : onlyChanges [.gnss] [0x4010, 0x4011, 0x4014].contains s (gnssEffect b s) := by
  unfold gnssEffect
  dsimp only
  exact .opt ((unbias_only 1 _).step ((unbias_only 0 _).step (.opt (.opt .refl fun _ => (clearAntenna_only 0 s).step .refl)
    fun _ => (clearAntenna_only 1 _).step .refl))) fun _ => (showHeading_only ..).step (.set rfl .refl)

theorem gnssConfig_commitOnly (expert : Bool) (code : Nat) :
    commitOnly (gnssConfig expert code) [.gnss] [0x4010, 0x4011, 0x4014].contains := by
  intro port p s
  dsimp only [gnssConfig, okResult]
  cases expert
  · exact (gnssEffect_only ..).step (.wrFld (.wrFld (.wrFld (.wr .refl))))
  · exact (gnssEffect_only ..).step (.wrFld (.wrFlag (.wrFld (.wr (.wrFld (.wrFld (.wrFld (.wr .refl))))))))

theorem opHeadingBaselineSet_commitOnly :
    commitOnly opHeadingBaselineSet [.gnss] [0x4010, 0x4011, 0x4014].contains := by
  intro port p s
  dsimp only [opHeadingBaselineSet]
  exact (gnssEffect_only ..).step (.wrFld (.wrFld (.wrFld .refl)))

theorem loadBlock_only (ty : Nat) (s : State) : onlyChanges [.gnss] noId s (loadBlock ty s) := by
  unfold loadBlock
  split
  · exact .refl
  · exact .ite .refl (updGnss_only ..)

theorem gnssStart_only (c : Nat) (s : State) : onlyChanges [.gnss] (fun id => id == 0x4018) s (gnssStart c s) :=
  .ite .refl (.wr (.set rfl ((loadBlock_only ..).step .refl)))

theorem restartGnss_only (ty mask : Nat) (s : State) :
    onlyChanges [.gnss] [0x4014, 0x4016, 0x4018].contains s (restartGnss ty mask s) := by
  unfold restartGnss
  dsimp only
  refine (gnssStart_only ..).step (.optNot ?_ fun _ => .opt ((showHeading_only ..).step (.set rfl .refl)) fun _ =>
    .sticky (.set rfl .refl))
  exact .opt (.opt (.opt (.opt .refl fun _ => (clearAntenna_only 0 _).step .refl) fun _ => (clearAntenna_only 1 _).step .refl)
    fun _ => .set rfl .refl) fun _ => .set rfl .refl

theorem opGnssRestart_commitOnly : commitOnly opGnssRestart [.gnss] [0x4014, 0x4016].contains :=
  fun _ _ _ => (restartGnss_only ..).step .refl rfl (by simp +contextual [opGnssRestart, or_imp])

/-! ### Power, restarts and configuration files -/

theorem opPowerStateSet_commitOnly : commitOnly opPowerStateSet [.clk, .power] noId := by
  intro port p s
  dsimp only [opPowerStateSet, okResult]
  exact .ite (.ite .refl (.set rfl .refl)) (.ite (.ite (.set rfl (.set rfl .refl)) (.ite (.set rfl .refl) .refl)) .refl)

theorem opWakeConfig_commitOnly : commitOnly opWakeConfig [] noId := by
  intro port p s
  refine .regs .refl fun id hid => ?_
  simp [opWakeConfig] at hid
  simp [wakeConfigRegs, regGet_regSet, hid]

theorem opRtcAlarmSet_commitOnly : commitOnly opRtcAlarmSet [] noId := by
  intro port p s
  dsimp only [opRtcAlarmSet, okResult]
  exact .wr (.wr .refl)

theorem opPowerStatusRead_commitOnly : commitOnly opPowerStatusRead [.free] noId := fun _ _ _ => .set rfl (.set rfl .refl)

theorem opYardRestart_commitOnly : commitOnly opYardRestart [.restart] noId := fun _ _ _ => .set rfl .refl

theorem opModuleReset_commitOnly : commitOnly opModuleReset [.restart] noId := fun _ _ _ => .set rfl .refl

theorem opHalterRequest_commitOnly : commitOnly opHalterRequest [.twin] noId := fun _ _ _ => .optNot .refl fun _ => .set rfl .refl

theorem opHalterRelease_commitOnly : commitOnly opHalterRelease [.twin] noId := fun _ _ _ => .set rfl .refl

theorem opTwinToleranceSet_commitOnly : commitOnly opTwinToleranceSet [.poison] noId :=
  fun _ _ _ => .wrAll .refl (by simp [opTwinToleranceSet])

theorem commitTables_only {k : Nat} {f : List Byte} (h : commitTables k f s = some t) :
    onlyChanges [.alc, .servo, .filt] noId s t := by
  unfold commitTables at h
  (repeat' split at h) <;> cases h
  · exact .set rfl .refl
  · exact .set rfl .refl
  · exact .set rfl .refl
  · exact .refl

theorem loadDone_only (f : List Byte) (k : Nat) (s : State) :
    onlyChanges [.load, .alc, .servo, .filt, .line, .ev] anyEventId s (loadDone f k s).state := by
  unfold loadDone
  dsimp only
  split
  · exact .set rfl .refl
  · split
    · exact .set rfl .refl
    next t h => exact .raiseIf (.set rfl ((commitTables_only h).step .refl))

theorem opConfigFileLoad_commitOnly : commitOnly opConfigFileLoad [.load, .alc, .servo, .filt, .line, .ev] anyEventId := by
  intro port p s
  dsimp only [opConfigFileLoad, okResult]
  split
  · exact (loadDone_only ..).step (.set rfl .refl)
  · exact .set rfl .refl

theorem poisonStall_only (y id : Nat) (s : State) :
    onlyChanges [.poison, .line, .ev] (fun i => anyEventId i || [0x1000 * y + 0xFF1, 0x1000 * y + 0xFF5].contains i) s
      (poisonStall y id s) :=
  .ite .refl (.raise (.sticky (.bump (.set rfl .refl))))

theorem opParamRead_commitOnly (l : List Nat) : commitOnly (opParamRead l) [.poison, .line, .ev]
    fun id => anyEventId id || [0xFF1, 0xFF5].contains (id % 0x1000) := by
  intro port p s
  dsimp only [opParamRead, refuse]
  split
  · exact .refl
  · exact .foldl .refl fun _ _ _ => (poisonStall_only ..).step .refl rfl (by simp +contextual [or_imp])

end

end Sys2Proof.Machine
end

section
/-! SUPPORT. PARAM_WRITE and the rows that are a write of one setting: what a write of an identifier may touch beside its word (04 R130,
01 R535), and the entries that a row's payload carries. -/
set_option Elab.async false

namespace Sys2Proof.Machine

/-! ### What a write of an identifier may touch -/

/-- The parts that the effects of a write of the identifier may touch. -/
def effectParts (id : Nat) : List Part :=
  if 0x2200 ≤ id ∧ id < 0x2300 then [.src]
  else if id = 0x2301 ∨ id = 0x2302 then [.fus, .ctl]
  else if id = 0x7200 ∨ id = 0x7203 ∨ id = 0x7210 ∨ id = 0x7220 then [.time, .line, .ev]
  else if 0x7100 ≤ id ∧ id < 0x7120 then [.eth]
  else if 0x4000 ≤ id ∧ id ≤ 0x4008 then [.gnss]
  else if id = 0x1219 ∨ id = 0x121A then [.session, .line, .ev]
  else if id = 0x1311 then [.ev]
  else if id = 0x1202 ∨ id = 0x1212 then [.line, .ev]
  else if id = 0x1500 then [.power, .line, .ev]
  else []

/-- The identifiers that a write of the identifier and its effects may write. -/
def effectIds (id j : Nat) : Bool :=
  j == id ||
  (if id = 0x2301 ∨ id = 0x2302 then j == 0x2101
   else if id = 0x7200 then anyEventId j || j == 0x7206
   else if id = 0x7210 ∨ id = 0x7220 ∨ id = 0x1202 ∨ id = 0x1212 then anyEventId j
   else if 0x4000 ≤ id ∧ id ≤ 0x4008 then [0x4010, 0x4011, 0x4014].contains j
   else if id = 0x1219 ∨ id = 0x121A then anyEventId j || j == 0x1005
   else if id = 0x1500 then anyEventId j || j == 0x150A
   else false)

theorem supplyEffect_only (s : State) :
    onlyChanges [.power, .line, .ev] (fun id => anyEventId id || id == 0x150A) s (supplyEffect s) :=
  .ite .refl (.raise (.sticky (.set rfl .refl)))

theorem fillEffect_only (b : State) (p : Fin 2) (s : State) : onlyChanges [.line, .ev] anyEventId s (fillEffect b p s) :=
  .raiseAll .refl fun x hx => by
    obtain ⟨n, -, rfl⟩ := List.mem_map.1 hx
    simp

section
variable {P : List Part} {I : Nat → Bool} {l : List Entry} {s t : State}

/-- A part of a write's effects: made where the entries name one of its identifiers, whose effects the frame admits. -/
theorem onlyChanges.effect {Q : List Part} {J : Nat → Bool} {f : State → State} {b : Bool}
    (hP : ∀ e ∈ l, (effectParts e.1).all P.contains = true) (hI : ∀ e ∈ l, ∀ id, effectIds e.1 id = true → I id = true)
    (c : Nat → Prop) (hf : onlyChanges Q J t (f t)) (h : onlyChanges P I s t)
    (hb : b = true → ∃ e ∈ l, c e.1 := by grind [List.any_eq_true])
    (hQ : ∀ id, c id → Q.all (effectParts id).contains = true ∧ ∀ j, J j = true → effectIds id j = true := by
      simp +contextual [effectParts, effectIds, or_imp]) :
    onlyChanges P I s (if b then f t else t) := by
  refine .opt h fun hbt => ?_
  obtain ⟨e, he, hc⟩ := hb hbt
  obtain ⟨hq, hj⟩ := hQ e.1 hc
  refine hf.widen ?_ fun id hid => hI e he id (hj id hid)
  have := hP e he
  simp only [List.all_eq_true, List.contains_eq_mem, decide_eq_true_eq] at this hq ⊢
  exact fun p hp => this p (hq p hp)

theorem sourceEffects_only (hP : ∀ e ∈ l, (effectParts e.1).all P.contains = true)
    (hI : ∀ e ∈ l, ∀ id, effectIds e.1 id = true → I id = true) : onlyChanges P I s (sourceEffects l s) := by
  refine .foldl .refl fun u e he => .opt .refl fun ⟨hlo, hhi, h8⟩ => ?_
  refine (setEnable_only ..).step .refl ?_ ?_
  · simpa [effectParts, hlo, hhi] using hP e he
  · intro id hid
    refine hI e he id ?_
    have : id = e.1 := by
      simp only [srcId, beq_iff_eq] at hid
      omega
    simp [effectIds, this]

theorem originEffect_only (hP : ∀ e ∈ l, (effectParts e.1).all P.contains = true)
    (hI : ∀ e ∈ l, ∀ id, effectIds e.1 id = true → I id = true) (h : onlyChanges P I s t) :
    onlyChanges P I s (originEffect l t) :=
  .effect (f := fun s => clearTrack { s with fus := { s.fus with originMoved := some s.clk.beat } }) hP hI
    (fun i => i = 0x2301 ∨ i = 0x2302)
    (onlyChanges.set (P := [.fus, .ctl]) (I := (· == 0x2101)) rfl (.wr (.set rfl .refl))) h

theorem writeEffects_only (b : State) (hP : ∀ e ∈ l, (effectParts e.1).all P.contains = true)
    (hI : ∀ e ∈ l, ∀ id, effectIds e.1 id = true → I id = true) (h : onlyChanges P I s t) :
    onlyChanges P I s (writeEffects b l t) := by
  unfold writeEffects
  dsimp only
  refine .effect hP hI (· = 0x1212) (fillEffect_only b 1 _) ?_
  refine .effect hP hI (· = 0x1202) (fillEffect_only b 0 _) ?_
  refine .effect hP hI (· = 0x1500) (supplyEffect_only _) ?_
  refine .effect (f := fun s => { s with ev := { s.ev with hist := Vector.replicate 64 none, nextSeq := 0 } }) hP hI (· = 0x1311)
    (Q := [.ev]) (J := noId) (.set rfl .refl) ?_
  refine .effect hP hI (fun i => i = 0x1219 ∨ i = 0x121A) (closeSession_only 1 2 _) ?_
  refine .effect hP hI (fun i => 0x4000 ≤ i ∧ i ≤ 0x4008) (gnssEffect_only b _) ?_ (hQ := by grind [effectParts, effectIds])
  refine .effect hP hI (fun i => 0x7110 ≤ i ∧ i < 0x7120) (ethEffect_only b 1 _) ?_ (hQ := by grind [effectParts, noId])
  refine .effect hP hI (fun i => 0x7100 ≤ i ∧ i < 0x7110) (ethEffect_only b 0 _) ?_ (hQ := by grind [effectParts, noId])
  refine .effect hP hI (· = 0x7203) (Q := [.time]) (J := noId) (.set rfl .refl) ?_
  refine .effect hP hI (· = 0x7200) (selectEffect_only _) ?_
  refine .effect hP hI (· = 0x7220) (slotEffect_only b 1 _) ?_
  refine .effect hP hI (· = 0x7210) (slotEffect_only b 0 _) ?_
  exact originEffect_only hP hI h

/-- The frame of an applied write: what the writes of its entries may touch. -/
theorem applyEntries_only (hP : ∀ e ∈ l, (effectParts e.1).all P.contains = true)
    (hI : ∀ e ∈ l, ∀ id, effectIds e.1 id = true → I id = true) : onlyChanges P I s (applyEntries l s) := by
  unfold applyEntries
  dsimp only
  have anchored : onlyChanges P I s (if l.any (·.1 == 0x7200) then anchorSigma s else s) :=
    .effect hP hI (· = 0x7200) (Q := [.time]) (J := noId) (.set rfl .refl) .refl
  generalize (if l.any (·.1 == 0x7200) then anchorSigma s else s) = u at anchored ⊢
  have sourced : onlyChanges P I u (sourceEffects l u) := sourceEffects_only hP hI
  refine writeEffects_only u hP hI (.regs (anchored.trans sourced) fun id hid => ?_)
  have other : ∀ e ∈ l, e.1 ≠ id := by
    rintro e he rfl
    simp [hI e he e.1 (by simp [effectIds])] at hid
  rw [regGet_foldl_regSet l (·.1) (fun _ e => writtenWord u e.1 e.2) _ _ other]
  exact (sourced.rd hid).symm

/-! ### Requests that write settings -/

/-- A PARAM_WRITE, whose payload's entries have effects within the frame. -/
theorem serve_opParamWrite_only {r : Req} (hR : replyParts.all P.contains = true)
    (hC : ∀ id, [0x1007, 0x1008].contains id = true → I id = true)
    (hP : ∀ e ∈ payloadEntries r.payload, (effectParts e.1).all P.contains = true)
    (hI : ∀ e ∈ payloadEntries r.payload, ∀ id, effectIds e.1 id = true → I id = true) :
    onlyChanges P I s (serve opParamWrite r s) :=
  serve_within hR hC fun _ _ => applyEntries_only hP hI

end

/-- Everything but the identifiers written that a write may touch. -/
theorem effectIds_cases (id j : Nat) (h : effectIds id j = true) :
    j = id ∨ (anyEventId j || [0x1005, 0x150A, 0x2101, 0x4010, 0x4011, 0x4014, 0x7206].contains j) = true := by
  simp only [effectIds, Bool.or_eq_true, beq_iff_eq] at h
  refine h.imp_right fun h => ?_
  (repeat' split at h) <;> simp_all <;> grind

theorem effectParts_subset (id : Nat) :
    (effectParts id).all (replyParts ++ [Part.src, .fus, .ctl, .gnss, .time, .power, .ev]).contains = true := by
  unfold effectParts
  (repeat' split) <;> rfl

/-! ### The payload of a row -/

theorem leNat_leBytes (k n : Nat) : leNat (leBytes k n) = n % 256 ^ k := by
  induction k generalizing n with
  | zero => simp [leBytes, leNat, Nat.mod_one]
  | succ k ih =>
    rw [leBytes, leNat, ih, BitVec.toNat_ofNat, show 256 ^ (k + 1) = 256 * 256 ^ k from Nat.pow_succ', Nat.mod_mul]

@[simp] theorem leBytes_length (k n : Nat) : (leBytes k n).length = k := by
  induction k generalizing n with
  | zero => rfl
  | succ k ih => simp [leBytes, ih]

/-- The bytes of one entry. -/
def entryPayload (e : Entry) : List Byte := leBytes 2 e.1 ++ wordBytes e.2

@[simp] theorem entryPayload_length (e : Entry) : (entryPayload e).length = 6 := by
  simp [entryPayload, wordBytes]

theorem drop_flatMap_entryPayload (l : List Entry) (i : Nat) :
    (l.flatMap entryPayload).drop (6 * i) = (l.drop i).flatMap entryPayload := by
  induction i generalizing l with
  | zero => simp
  | succ i ih =>
    cases l with
    | nil => simp
    | cons e l =>
      rw [List.flatMap_cons, List.drop_append, entryPayload_length, List.drop_eq_nil_of_le (by simp)]
      rw [show 6 * (i + 1) - 6 = 6 * i by omega, ih l]
      simp

/-- A row's payload names the identifiers that the row writes. -/
theorem payloadEntries_writePayload {l : List Entry} (h : ∀ e ∈ l, e.1 < 65536) {e : Entry}
    (he : e ∈ payloadEntries (writePayload l)) : ∃ x ∈ l, x.1 = e.1 := by
  obtain ⟨i, hi, rfl⟩ := List.mem_map.1 he
  have hl : writePayload l = (leBytes 2 l.length ++ zeroBytes 2) ++ l.flatMap entryPayload := rfl
  have hi : i < l.length := by
    have h6 : (l.flatMap entryPayload).length = 6 * l.length := by simp [List.length_flatMap, mul_comm]
    rw [hl, List.mem_range] at hi
    simp [h6, zeroBytes] at hi
    omega
  refine ⟨l[i], List.getElem_mem hi, ?_⟩
  have at2 : (writePayload l).drop (4 + 6 * i) = (l.drop i).flatMap entryPayload := by
    rw [hl, List.drop_append, List.drop_eq_nil_of_le (by simp [zeroBytes]), ← drop_flatMap_entryPayload]
    simp [zeroBytes]
  simp only [leAt, at2]
  rw [List.drop_eq_getElem_cons hi, List.flatMap_cons, entryPayload, List.append_assoc, List.take_append_of_le_length (by simp),
    List.take_of_length_le (by simp), leNat_leBytes]
  exact (Nat.mod_eq_of_lt (h _ (List.getElem_mem hi))).symm

theorem mem_someEntries {l : List (Nat × Option Word)} {e : Entry} (h : e ∈ someEntries l) : e.1 ∈ l.map (·.1) := by
  obtain ⟨x, hx, hs⟩ := List.mem_filterMap.1 h
  refine List.mem_map.2 ⟨x, hx, ?_⟩
  split at hs
  · simp at hs; rw [← hs]
  · simp at hs

/-- The frame of a row that writes settings: that of its entries, with what every reply may touch. -/
theorem writeRow_framed {P : List Part} {I : Nat → Bool} (h : ReqHead) (l : List Entry) (ids : List Nat) (s : State)
    (hl : ∀ e ∈ l, e.1 ∈ ids := by simp) (hids : ∀ i ∈ ids, i < 65536 := by simp)
    (hP : ∀ i ∈ ids, (effectParts i).all P.contains = true := by grind [effectParts, replyParts])
    (hI : ∀ i ∈ ids, ∀ j, effectIds i j = true → I j = true := by grind [effectIds])
    (hR : replyParts.all P.contains = true := by rfl)
    (hC : ∀ id, [0x1007, 0x1008].contains id = true → I id = true := by simp +contextual [or_imp]) :
    ∃ t, writeRow h l s = .next t ∧ onlyChanges P I s t := by
  refine ⟨_, rfl, ?_⟩
  have named : ∀ e ∈ payloadEntries (writePayload l), e.1 ∈ ids := fun e he => by
    obtain ⟨x, hx, hxe⟩ := payloadEntries_writePayload (fun x hx => hids x.1 (hl x hx)) he
    exact hxe ▸ hl x hx
  exact serve_opParamWrite_only hR hC (fun e he => hP e.1 (named e he)) fun e he => hI e.1 (named e he)

end Sys2Proof.Machine
end

section
/-! SUPPORT. The requests whose frames need more than that of their commit, and the statement of the frames of the requests. -/
set_option Elab.async false

namespace Sys2Proof.Machine

theorem paramDescribe_requestFrame : requestFrame opParamDescribe .paramDescribe [] noId :=
  requestFrame_of_read fun port p s => by dsimp only [opParamDescribe]; split <;> rfl

/-- CONFIG_FILE_LOAD: a chunk that breaks the open load abandons it once it is answered (04 R133). -/
theorem configFileLoad_requestFrame :
    requestFrame opConfigFileLoad .configFileLoad [.load, .alc, .servo, .filt, .ev] anyEventId := fun r s =>
  ⟨_, rfl, .opt (serve_only opConfigFileLoad_commitOnly [.load, .alc, .servo, .filt, .ev] anyEventId r s) fun _ => .set rfl .refl⟩

/-- Settles O57: each request's frame is that of its opcode's commit with what every reply may touch; a row that writes settings is a
PARAM_WRITE of its entries. -/
theorem requestFrames : Obligations.RequestFrames := by
  unfold Obligations.RequestFrames
  refine ⟨requestFrame_of_read,
    requestFrame_of_read,
    requestFrame_of_commitOnly opEventsRead_commitOnly,
    requestFrame_of_commitOnly opExpertOpen_commitOnly,
    requestFrame_of_commitOnly opExpertClose_commitOnly,
    requestFrame_of_read,
    paramDescribe_requestFrame,
    requestFrame_of_commitOnly opExpertCodeSet_commitOnly,
    requestFrame_of_commitOnly (modeSet_commitOnly _ _),
    requestFrame_of_commitOnly (modeSet_commitOnly _ _),
    requestFrame_of_commitOnly opSetpointSet_commitOnly,
    requestFrame_of_commitOnly opJoystickSet_commitOnly,
    requestFrame_of_commitOnly opBerthPushSet_commitOnly,
    requestFrame_of_commitOnly opTrackLoad_commitOnly,
    requestFrame_of_commitOnly opLossModeSet_commitOnly,
    requestFrame_of_commitOnly (refConfig_commitOnly _ _),
    requestFrame_of_commitOnly (refConfig_commitOnly _ _),
    requestFrame_of_commitOnly opRefEnable_commitOnly,
    requestFrame_of_commitOnly opRefStatusRead_commitOnly,
    requestFrame_of_commitOnly opSelectReference_commitOnly,
    requestFrame_of_commitOnly opReplayWindowSet_commitOnly,
    requestFrame_of_read,
    requestFrame_of_commitOnly opThrusterEnable_commitOnly (ht := fun p s t h => by simp [opThrusterEnable, h]),
    requestFrame_of_commitOnly opThrusterDisable_commitOnly (hM := by simp +contextual [isAxisState])
      (ht := fun p s t h => by simp [opThrusterDisable, h]),
    requestFrame_of_commitOnly opAllocConfigBasic_commitOnly,
    requestFrame_of_commitOnly opAllocConfigExpert_commitOnly,
    requestFrame_of_commitOnly opPowerLimitSet_commitOnly,
    requestFrame_of_read,
    requestFrame_of_commitOnly opCompatModeSet_commitOnly,
    requestFrame_of_commitOnly opAxisEnable_commitOnly,
    requestFrame_of_commitOnly opAxisDisable_commitOnly (hM := by simp +contextual [isAxisState]),
    requestFrame_of_commitOnly (axisConfig_commitOnly _ _),
    requestFrame_of_commitOnly (axisConfig_commitOnly _ _),
    requestFrame_of_commitOnly opCompTableLoad_commitOnly,
    requestFrame_of_read,
    requestFrame_of_commitOnly (channelConfig_commitOnly _ _),
    requestFrame_of_commitOnly (channelConfig_commitOnly _ _),
    requestFrame_of_commitOnly opOutputSet_commitOnly,
    requestFrame_of_read,
    requestFrame_of_commitOnly opSafeValueSet_commitOnly,
    requestFrame_of_read,
    requestFrame_of_commitOnly opFilterPreset_commitOnly,
    requestFrame_of_commitOnly opFilterCustom_commitOnly,
    requestFrame_of_commitOnly opSyncFilters_commitOnly,
    requestFrame_of_commitOnly opDcBlockSet_commitOnly,
    requestFrame_of_commitOnly (canConfig_commitOnly _ _),
    requestFrame_of_commitOnly (canConfig_commitOnly _ _),
    requestFrame_of_commitOnly opCanIdEnable_commitOnly,
    requestFrame_of_commitOnly opCanStatusRead_commitOnly,
    requestFrame_of_commitOnly opCanSend_commitOnly,
    requestFrame_of_commitOnly opEthConfig_commitOnly,
    requestFrame_of_commitOnly (ptpConfig_commitOnly _ _),
    requestFrame_of_commitOnly (ptpConfig_commitOnly _ _),
    requestFrame_of_read,
    requestFrame_of_commitOnly opTimeDomainSelect_commitOnly,
    requestFrame_of_commitOnly (gnssConfig_commitOnly _ _),
    requestFrame_of_commitOnly (gnssConfig_commitOnly _ _),
    requestFrame_of_read,
    requestFrame_of_commitOnly opHeadingBaselineSet_commitOnly,
    requestFrame_of_commitOnly opGnssRestart_commitOnly,
    requestFrame_of_read,
    requestFrame_of_commitOnly opHalterRequest_commitOnly,
    requestFrame_of_commitOnly opHalterRelease_commitOnly,
    requestFrame_of_commitOnly opTwinToleranceSet_commitOnly,
    requestFrame_of_commitOnly opPowerStateSet_commitOnly,
    requestFrame_of_commitOnly opWakeConfig_commitOnly,
    requestFrame_of_commitOnly opRtcAlarmSet_commitOnly,
    requestFrame_of_commitOnly opPowerStatusRead_commitOnly,
    requestFrame_of_read,
    requestFrame_of_commitOnly opYardRestart_commitOnly,
    configFileLoad_requestFrame,
    requestFrame_of_commitOnly opModuleReset_commitOnly,
    fun h q v s => writeRow_framed h _ [0x2200 + 8 * q.val] s (hids := by simp; omega),
    fun h v s => writeRow_framed h _ [0x7200] s,
    fun h a b s => writeRow_framed h _ [0x2301, 0x2302] s (fun _ => mem_someEntries),
    fun h v s => writeRow_framed h _ [0x1310] s,
    fun h v s => writeRow_framed h _ [0x1311] s,
    fun h k v s => writeRow_framed h _ [0x6402 + 16 * k.val] s (hids := by simp; omega),
    fun h p a b s => writeRow_framed h _ [portId p 0, portId p 1] s (fun _ => mem_someEntries)
      (hids := by simp [portId]; omega) (hP := by fin_cases p <;> simp [portId, effectParts])
      (hI := by fin_cases p <;> simp +contextual [portId, effectIds, or_imp]),
    fun h a b s => writeRow_framed h _ [0x1219, 0x121A] s (fun _ => mem_someEntries),
    fun h b v s => writeRow_framed h _ [0x7000 + 64 * b.val] s (hids := by simp; omega),
    fun h b v s => writeRow_framed h _ [0x2492 + 4 * b.val] s (hids := by simp; omega),
    fun h a b s => writeRow_framed h _ [0x7201, 0x7202] s (fun _ => mem_someEntries),
    fun r l s => ⟨_, rfl, ?_⟩, fun r s => ⟨_, rfl, ?_⟩⟩
  · exact (serve_only (opParamRead_commitOnly l) [.ev] (fun id => anyEventId id || [0xFF1, 0xFF5].contains (id % 0x1000))
      r s).widen rfl (by simp +contextual [or_imp])
  · refine serve_opParamWrite_only rfl (by simp +contextual [requestIds]) (fun e _ => effectParts_subset e.1) fun e he id hid => ?_
    rcases effectIds_cases e.1 id hid with rfl | h
    · have : e.1 ∈ (payloadEntries r.payload).map (·.1) := List.mem_map_of_mem he
      simp [requestIds, opParamWrite, this]
    · simp only [Bool.or_assoc, h, Bool.or_true]

end Sys2Proof.Machine
end

section
/-! SUPPORT. The frames of the beat edge and the twin events (15 R450): a forwarded axis transition raises the event that it brings,
whose number the operand does not bound. -/
set_option Elab.async false

namespace Sys2Proof.Machine

/-- A non-holder in RUN with both fibre pairs up, in beat 7 of a run that began at cycle 0. -/
def followerState : State :=
  { State.reset with
    clk := ⟨7500000, 75000000 * 2 ^ 32, 7, 7000000, 300, 7500000, true, true, true, 0⟩
    regs := [(0x1004, 2#32)]
    power := { State.reset.power with mode := .run, mains := true, dc := true, dcInUse := true, rtcValid := true }
    twin := { State.reset.twin with pairs := Vector.replicate 2 ⟨true, 0, 0, true, false⟩ } }

/-- A forwarded transition of an axis to OFF, with an event of number 384: 17 R498 knows the numbers 0 to 127. -/
def strayForward : AxisForward := ⟨7, 500000, 0, 0, false, none, some (384, 0)⟩

/-- The event's sticky bit is that of the word 384 / 32 = 12 places after EVENT_STICKY_0: bit 0 of HIST_SELECT. -/
theorem strayForward_sets_histSelect :
    (match exec (.forwardedAxisTransition 7500000 0 strayForward) followerState with
     | .next t => flag t 0x1310 0
     | _ => false) = true := by decide +kernel

theorem followerState_histSelect : flag followerState 0x1310 0 = false := by decide +kernel

/-- Refutes O54: FORWARDED_AXIS_TRANSITION with an event number beyond 127 writes a register that its frame does not name. -/
theorem not_twinFrames : ¬ Obligations.TwinFrames := by
  unfold Obligations.TwinFrames
  rintro ⟨-, -, -, -, -, -, -, -, -, -, -, forwardedFrame, -⟩
  obtain ⟨t, ht, -, -, kept⟩ := forwardedFrame 7500000 0 strayForward followerState
  have set := strayForward_sets_histSelect
  have clear := followerState_histSelect
  simp only [ht, flag, kept 0x1310 (by decide)] at set
  rw [flag, set] at clear
  exact absurd clear (by decide)

end Sys2Proof.Machine
end

section
/-! SUPPORT. The frames of the GNSS events (07 R204-R234), and of the operations that they share. -/
set_option Elab.async false

namespace Sys2Proof.Machine

section
variable {P : List Part} {I : Nat → Bool} {s t : State}

/-! ### Antennas and channels -/

theorem antennaState_only (a : Fin 2) (cls mA : Nat) (s : State) :
    onlyChanges [.gnss, .line, .ev] (fun id => anyEventId id || [0x4010 + a.val, 0x4016].contains id) s
      (antennaState a cls mA s) := by
  unfold antennaState
  dsimp only
  have stored : onlyChanges [.gnss, .line, .ev] (fun id => anyEventId id || [0x4010 + a.val, 0x4016].contains id) s
      (updGnss (fun g => { g with antShort := vset g.antShort a (if cls = 3 then some s.clk.beat else none) })
        (wrFld (wrFld s (0x4010 + a.val) 1 0 cls) (0x4010 + a.val) 15 8 (min mA 255))) :=
    (updGnss_only ..).step (.wrFld (.wrFld .refl))
  exact .ite stored (.ite (.raiseIf stored) (.ite stored (.raise (.sticky stored))))

theorem execAntennaBiasClass_framed (a : Fin 2) (m : Nat) (s : State) :
    framed [.gnss, .line, .ev] (fun id => anyEventId id || [0x4010 + a.val, 0x4016].contains id) s (execAntennaBiasClass a m s) :=
  .ite (.next .refl) (.ite (.next ((updGnss_only ..).step (.wrFld .refl))) (.ite (.next .refl) (.next (antennaState_only ..))))

theorem execAntennaRetest_framed (a : Fin 2) (m : Nat) (s : State) :
    framed [.gnss, .line, .ev] (fun id => anyEventId id || [0x4010 + a.val, 0x4016].contains id) s (execAntennaRetest a m s) := by
  unfold execAntennaRetest
  split
  · exact .next .refl
  · exact .ite (.next .refl) (.next (antennaState_only ..))

theorem operationDone_only (y : Fin 8) (b : Nat) (s : State) : onlyChanges [.yards] noId s (operationDone y b s) := by
  unfold operationDone
  dsimp only
  split
  · exact .refl
  · exact .set rfl .refl

theorem assignPair_only (n prn : Nat) (s : State) : onlyChanges [.gnss] noId s (assignPair n prn s) :=
  .opt (.opt .refl fun _ => .set rfl .refl) fun _ => .set rfl .refl

theorem assignSat_only (ch : Fin 48) (prn : Nat) (s : State) : onlyChanges [.gnss] noId s (assignSat ch prn s) :=
  .ite .refl (.ite (.ite (assignPair_only ..) .refl) (.ite (.set rfl .refl) .refl))

theorem execGnssIntegration_framed (c : Nat) (ch : Fin 48) (x : CorrelatorSums) (s : State) :
    framed [.gnss, .yards] (fun _ => false) s (execGnssIntegration c ch x s) := by
  unfold execGnssIntegration
  dsimp only
  refine .ite (.next (.advance .refl)) ?_
  split
  · split
    · exact .next ((assignSat_only ..).step (.advance .refl))
    · exact .next (.advance .refl)
  · split
    · exact .ite (.next (.advance .refl)) (.ite (.next ((operationDone_only ..).step (.advance .refl)))
        (.next ((operationDone_only ..).step (.set rfl (.advance .refl)))))
    · exact .next (.advance .refl)
  · exact .ite (.next (.set rfl (.set rfl (.advance .refl)))) (.next (.set rfl (.advance .refl)))

theorem execChannelLossOfLock_framed (c : Nat) (ch : Fin 48) (s : State) :
    framed [.gnss] (fun _ => false) s (execChannelLossOfLock c ch s) :=
  .ite (.next (.set rfl (.advance .refl))) (.next (.advance .refl))

theorem execSatelliteRelease_framed (c : Nat) (p : Fin 24) (s : State) :
    framed [.gnss] (fun _ => false) s (execSatelliteRelease c p s) :=
  .ite (.next (.advance .refl)) (.next (.set rfl (.set rfl (.advance .refl))))

theorem execMeasurementTick_framed (c : Nat) (m : List ChannelLatch) (s : State) :
    framed [.gnss, .yards] (fun id => id == 0x4014) s (execMeasurementTick c m s) := by
  unfold execMeasurementTick
  dsimp only
  refine .ite (.next (.advance .refl)) (.next (.foldl (.ite ((showHeading_only ..).step ?_) ?_) fun _ _ _ =>
    (operationDone_only ..).step .refl))
  · exact (updGnss_only ..).step (.advance .refl)
  · exact (updGnss_only ..).step (.advance .refl)

/-! ### Navigation data -/

theorem gnssBlockWrite_only (s : State) : onlyChanges [.gnss] noId s (gnssBlockWrite s) := .ite .refl (.set rfl .refl)

theorem execGnssBlockWrite_framed (c : Nat) (s : State) : framed [.gnss] (fun _ => false) s (execGnssBlockWrite c s) := by
  unfold execGnssBlockWrite
  dsimp only
  exact .ite (.next (.set rfl ((gnssBlockWrite_only _).step (.advance .refl)))) (.next (.advance .refl))

theorem execGnssStartTimeout_framed (s : State) : framed [.gnss] (fun _ => false) s (execGnssStartTimeout s) := by
  unfold execGnssStartTimeout
  split
  · exact .next .refl
  · exact .ite (.next .refl) (.next (.set rfl (.advance .refl)))

theorem readyChans_only (n : Nat) (s : State) : onlyChanges [.gnss] noId s (readyChans n s) := .ite .refl (.set rfl .refl)

theorem judgeEph_only (n i : Nat) (d : List Nat) (s : State) : onlyChanges [.gnss] noId s (judgeEph n i d s) :=
  .ite (.set rfl (.set rfl .refl)) ((gnssBlockWrite_only _).step ((readyChans_only ..).step (.set rfl .refl)))

theorem acceptEph_only (n : Nat) (a : Fin 2) (i : Nat) (d : List Nat) (s : State) :
    onlyChanges [.gnss] (fun id => id == 0x4016) s (acceptEph n a i d s) := by
  unfold acceptEph
  extract_lets x other s1 differs both s2
  have h1 : onlyChanges [.gnss] (fun id => id == 0x4016) s s1 := .set rfl .refl
  have h2 : onlyChanges [.gnss] (fun id => id == 0x4016) s s2 := by
    unfold s2
    split
    · exact .ite (.set rfl h1) h1
    · exact h1
  exact .ite (.sticky (.set rfl (.set rfl h1))) (.ite h2 ((judgeEph_only ..).step h2))

theorem takePage_only (n : Nat) (d : List Nat) (s : State) : onlyChanges [.gnss] noId s (takePage n d s) := by
  unfold takePage
  extract_lets s1 x
  have h1 : onlyChanges [.gnss] noId s s1 := .set rfl .refl
  split
  · exact h1
  · split
    · split
      · exact (judgeEph_only ..).step h1
      · exact h1
    · exact h1

theorem utcPage_only (d : List Nat) (s : State) : onlyChanges [.time, .gnss] noId s (utcPage d s) :=
  .ite (.set rfl .refl) (.set rfl (.set rfl (.set rfl .refl)))

theorem takeSubframe_only (n : Nat) (a : Fin 2) (d : List Nat) (s : State) :
    onlyChanges [.time, .gnss] (fun id => id == 0x4016) s (takeSubframe n a d s) := by
  unfold takeSubframe
  split
  · exact .ite ((utcPage_only ..).step .refl) (.ite ((takePage_only ..).step .refl) .refl)
  · exact .ite ((takePage_only ..).step .refl) .refl
  · extract_lets s1 s2
    have h1 : onlyChanges [.time, .gnss] (fun id => id == 0x4016) s s1 := .set rfl .refl
    have h2 : onlyChanges [.time, .gnss] (fun id => id == 0x4016) s s2 := .ite (.set rfl h1) h1
    refine .ite .refl ?_
    split
    · exact .ite (.ite h2 ((acceptEph_only ..).step h2)) h2
    · exact h2

theorem execSubframeReceived_framed (c : Nat) (ch : Fin 48) (w : List Word) (s : State) (hw : w.length = 10) :
    framed [.time, .gnss] [0x4016, 0x4017].contains s (execSubframeReceived c ch w s) := by
  unfold execSubframeReceived
  rw [if_neg (not_not.2 hw)]
  dsimp only
  refine .ite (.next (.advance .refl)) (.ite (.next (.sticky (.bump (.set rfl (.advance .refl)))))
    (.ite (.next (.set rfl (.advance .refl))) ?_))
  exact .next ((readyChans_only ..).step ((takeSubframe_only ..).step (.set rfl (.set rfl (.advance .refl)))))

/-! ### The epoch -/

theorem mem_eventsWhen {l : List (Bool × Nat × Nat)} {x : Nat × Nat} (h : x ∈ eventsWhen l) : (true, x) ∈ l := by
  simpa [eventsWhen] using h

theorem eventsWhen_lt {l : List (Bool × Nat × Nat)} (h : ∀ x ∈ l, x.2.1 < 128) : ∀ x ∈ eventsWhen l, x.1 < 128 :=
  fun _ hx => h _ (mem_eventsWhen hx)

theorem checkEvent_lt (i : Nat) : (checkEvent i).1 < 128 := by
  unfold checkEvent
  split
  · decide
  · split <;> decide

theorem showChecks_only (s : State) : onlyChanges [] (fun id => id == 0x4015) s (showChecks s) := .wr .refl

theorem execCheckClear_framed (c : Nat) (k : Fin 6) (s : State) :
    framed [.gnss, .line, .ev] (fun id => anyEventId id || (id == 0x4015)) s (execCheckClear c k s) := by
  unfold execCheckClear
  dsimp only
  exact .ite (.next (.advance .refl)) (.next (.raise ((showChecks_only _).step (.set rfl (.advance .refl))) (checkEvent_lt _)))

/-- What the checks of an epoch leave: their unit and two registers, and events of the GNSS yard. -/
theorem runChecks_only (l : List (Bool × Nat)) (s : State) :
    onlyChanges [.gnss] [0x4015, 0x4016].contains s (runChecks l s).1 ∧ ∀ x ∈ (runChecks l s).2, x.1 < 128 := by
  unfold runChecks
  dsimp only
  refine And.imp_left (fun h => (showChecks_only _).step h) ?_
  refine List.foldlRecOn (motive := fun a : State × List (Nat × Nat) =>
    onlyChanges [.gnss] [0x4015, 0x4016].contains s a.1 ∧ ∀ x ∈ a.2, x.1 < 128) _ _ ⟨.refl, by simp⟩ ?_
  rintro a ⟨ha, hev⟩ i -
  have set : ∀ f, onlyChanges [.gnss] [0x4015, 0x4016].contains s (updGnss f a.1) := fun f => (updGnss_only f _).step ha
  split
  · split
    · exact ⟨set _, hev⟩
    · exact ⟨.sticky (set _), by simpa [or_imp, forall_and, checkEvent_lt] using fun a b h => hev _ h⟩
  · exact ⟨ha, hev⟩

theorem keepAgc_only (d : EpochData) (s : State) : onlyChanges [.gnss] noId s (keepAgc d s) := .set rfl .refl

theorem headingStep_only (b : Option BaselineFix) (s : State) :
    onlyChanges [.gnss] [0x4014, 0x4016].contains s (headingStep b s).1 ∧ ∀ x ∈ (headingStep b s).2, x.1 < 128 := by
  unfold headingStep
  dsimp only
  have shown : ∀ f st n l, onlyChanges [.gnss] [0x4014, 0x4016].contains s (showHeading st n l (updGnss f s)) :=
    fun _ _ _ _ => (showHeading_only ..).step (.set rfl .refl)
  have lost : ∀ f g st n l,
      onlyChanges [.gnss] [0x4014, 0x4016].contains s (sticky (showHeading st n l (updGnss f (updGnss g s))) 0x4016 7) :=
    fun _ _ _ _ _ => .sticky ((showHeading_only ..).step (.set rfl (.set rfl .refl)))
  (repeat' split) <;> simp only [shown, lost, true_and] <;> simp

theorem showFix_only (a : Nat) (v : Bool) (n p : Nat) (s : State) :
    onlyChanges [] (fun id => id == 0x4012 + a) s (showFix a v n p s).1 := .wr .refl

theorem showFix_events (a : Nat) (v : Bool) (n p : Nat) (s : State) : ∀ x ∈ (showFix a v n p s).2, x.1 < 128 :=
  eventsWhen_lt (by simp)

theorem markChans_only (a : Nat) (l : List Nat) (e : Option Nat) (f : Option NavFix) (h : List Nat) (s : State) :
    onlyChanges [.gnss] noId s (markChans a l e f h s) := .foldl .refl fun _ _ _ => .set rfl .refl

theorem sourceRecord_only (q : Nat) (v : Bool) (r : SampleRec) (s : State) : onlyChanges [.src] noId s (sourceRecord q v r s) :=
  .ite .refl (.ite (.ite (.set rfl .refl) .refl) (.set rfl .refl))

theorem firstFix_only (b : Bool) (s : State) :
    onlyChanges [.gnss] (fun id => id == 0x4018) s (firstFix b s).1 ∧ ∀ x ∈ (firstFix b s).2, x.1 < 128 := by
  unfold firstFix
  split
  · exact ⟨.refl, by simp⟩
  · split
    · exact ⟨.refl, by simp⟩
    · exact ⟨.wrFld (.set rfl .refl), by split <;> simp⟩

theorem slotMeasure_only (d : Fin 2) (o : Int) (n : Nat) (s : State) :
    onlyChanges [.time] (fun id => id == slotId d 10) s (slotMeasure d o n s) :=
  .ite (.bump (.set rfl .refl)) (.set rfl .refl)

theorem timeSolution_only (g : Option Int) (n : Nat) (s : State) :
    onlyChanges [.time] [slotId 0 10, slotId 1 10].contains s (timeSolution g n s) := by
  unfold timeSolution
  split
  · refine .ite .refl (.foldl .refl fun u d _ => .ite ((slotMeasure_only ..).step .refl rfl ?_) .refl)
    have hd : d = 0 ∨ d = 1 := by omega
    rcases hd with rfl | rfl <;> simp
  · exact .refl

/-- The parts and the registers of an epoch. -/
def epochParts : List Part := [.time, .gnss, .src, .line, .ev, .yards]

def epochIds (id : Nat) : Bool := anyEventId id || (idsIn 0x4012 0x4018 id || [slotId 0 10, slotId 1 10].contains id)

@[simp] theorem epochIds_apply (id : Nat) : epochIds id =
    (anyEventId id || (decide (0x4012 ≤ id) && decide (id ≤ 0x4018) || [slotId 0 10, slotId 1 10].contains id)) := rfl

theorem execEpochStrobe_framed (c : Nat) (d : EpochData) (s : State) : framed epochParts epochIds s (execEpochStrobe c d s) := by
  unfold execEpochStrobe
  extract_lets s0 _ _ _ _ _ _ _ _ _ s1 ck due
  have h0 : onlyChanges epochParts epochIds s s0 := .advance .refl
  refine .ite (.next h0) ?_
  split
  · exact .next h0
  extract_lets s2 hd _ _ _ fa fb _ s3 raim ev s4 s5 _ _ _ s6 st t
  refine .ite (.next h0) (.next ((operationDone_only ..).step ((operationDone_only ..).step ?_)))
  obtain ⟨ckOnly, ckEvents⟩ : _ ∧ ∀ e ∈ ck.2, e.1 < 128 := runChecks_only (checkConds s1 d _ _) s1
  have h2 : onlyChanges epochParts epochIds s s2 := (keepAgc_only ..).step (.set rfl (ckOnly.step (.set rfl h0)))
  obtain ⟨headingOnly, headingEvents⟩ : _ ∧ ∀ e ∈ hd.2, e.1 < 128 := headingStep_only _ s2
  have h3 : onlyChanges epochParts epochIds s s3 :=
    (markChans_only ..).step ((markChans_only ..).step ((showFix_only ..).step ((showFix_only ..).step (headingOnly.step h2))))
  have h5 : onlyChanges epochParts epochIds s s5 := .set rfl (.ite h3 (.sticky h3))
  obtain ⟨fixOnly, fixEvents⟩ : _ ∧ ∀ e ∈ st.2, e.1 < 128 := firstFix_only _ s6
  have h6 : onlyChanges epochParts epochIds s st.1 :=
    fixOnly.step ((sourceRecord_only ..).step ((sourceRecord_only ..).step ((sourceRecord_only ..).step h5)))
  have dueEvents : ∀ e ∈ due, e.1 < 128 := eventsWhen_lt (by simp)
  have raimEvents : ∀ i x, ∀ e ∈ raim i x, e.1 < 128 := by
    intro i x e he
    cases x <;> simp_all [raim]
  refine (timeSolution_only ..).step (.raiseAll h6 fun e he => ?_)
  simp only [List.mem_append, ev] at he
  rcases he with (((((he | he) | he) | he) | he) | (he | he)) | he
  · exact dueEvents e he
  · exact ckEvents e he
  · exact headingEvents e he
  · exact showFix_events _ _ _ _ _ e he
  · exact showFix_events _ _ _ _ _ e he
  · exact raimEvents _ _ e he
  · exact raimEvents _ _ e he
  · exact fixEvents e he

end

end Sys2Proof.Machine
end

section
/-! SUPPORT. The frames of the session, the stored configuration and the health events (01 R21-R40, 04 R116-R131), and of the
operations that they share. -/
set_option Elab.async false

namespace Sys2Proof.Machine

section
variable {P : List Part} {I : Nat → Bool} {s t : State}

/-! ### Firmware writes, sessions and configuration files -/

theorem execFirmwareRepeat_framed (c : Nat) (l : List FwWrite) (s : State) : framed [.arb, .poison]
    (fun id => (id == 0x1312 || ((s.arb.fwLost.elim l (·.2)).map (·.id)).contains id)) s (execFirmwareRepeat c l s) := by
  unfold execFirmwareRepeat
  extract_lets due s1 writes
  have hdue : due.2 = s.arb.fwLost.elim l (·.2) := by
    unfold due
    cases s.arb.fwLost <;> rfl
  rw [← hdue]
  have counted : onlyChanges [.arb, .poison] (fun id => (id == 0x1312 || (due.2.map (·.id)).contains id)) s s1 :=
    .bump (.advance .refl)
  have listed : ∀ x ∈ writes, (x.1 == 0x1312 || (due.2.map (·.id)).contains x.1) = true := by
    intro x hx
    obtain ⟨w, hw, h⟩ := List.mem_filterMap.1 hx
    split at h
    · cases h
      simpa using .inr ⟨w, hw, rfl⟩
    · cases h
  split
  · exact .next (.set rfl counted)
  next u hu =>
    refine .next (.wrAll (.set rfl ?_) listed)
    unfold arbitrate at hu
    split at hu
    · cases hu
    · cases hu
      exact .set rfl counted

theorem execSessionIdleExpiry_framed (p : Fin 2) (s : State) :
    framed [.session, .line, .ev] (fun id => anyEventId id || (id == 0x1005)) s (execSessionIdleExpiry p s) :=
  .ite (.next .refl) (.next ((closeSession_only ..).step (.advance .refl)))

theorem execExpertLockEnd_framed (p : Fin 2) (s : State) :
    framed [.session] (fun id => id == 0x1005) s (execExpertLockEnd p s) := by
  unfold execExpertLockEnd
  split
  · exact .next .refl
  · exact .next (.wrFld (.set rfl (.advance .refl)))

theorem execConfigLoadTimeout_framed (s : State) : framed [.load] (fun _ => false) s (execConfigLoadTimeout s) := by
  unfold execConfigLoadTimeout
  split
  · exact .next .refl
  · exact .next (.set rfl (.advance .refl))

theorem execConfigFileStored_framed (c : Nat) (b : Bool) (s : State) :
    framed [.load, .nv, .line, .ev] anyEventId s (execConfigFileStored c b s) := by
  unfold execConfigFileStored
  dsimp only
  split
  · exact .next (.advance .refl)
  · exact .next (.raise (.set rfl (.advance .refl)))

/-! ### Stalls, blocks and yards -/

@[simp] theorem idsIn_eq_true {a b id : Nat} : idsIn a b id = true ↔ a ≤ id ∧ id ≤ b := by simp [idsIn]

theorem scrubNext_only (y : Fin 8) (m : Nat) (s : State) : onlyChanges [.yards] noId s (scrubNext y m s) := by
  unfold scrubNext
  dsimp only
  split
  · exact .set rfl (.advance .refl)
  · exact .set rfl .refl

theorem execScrubRead_framed (y : Fin 8) (m : Nat) (e : ReadError) (s : State) : framed [.yards, .poison, .line, .ev]
    (fun id => anyEventId id || idsIn (0x1000 * y.val + 0xFF0) (0x1000 * y.val + 0xFF5) id) s (execScrubRead y m e s) := by
  unfold execScrubRead
  cases e
  case none => exact .next ((scrubNext_only ..).step .refl)
  case single => exact .next (.sticky (.bump ((scrubNext_only ..).step .refl)))
  case double => exact .next ((poisonStall_only ..).step ((scrubNext_only ..).step .refl))

theorem settleLine_only (s : State) : onlyChanges [.line] noId s (settleLine s) := .ite .refl (.ite .refl (.set rfl .refl))

theorem enterFailSilent_only (n : Nat) (s : State) : onlyChanges [.idReq, .twin, .can, .line, .ev]
    (fun id => anyEventId id || id == 0x1004) s (enterFailSilent n s) :=
  .ite .refl (.raise (.set rfl (.ite (.wrFld .refl) .refl)))

/-- The parts and the registers that a fenced yard or block may change. -/
def fenceParts : List Part := [.time, .idReq, .twin, .power, .can, .line, .ev, .src]

@[simp] def fenceIds (y id : Nat) : Bool :=
  anyEventId id || (id == 0x1004 || idsIn (0x1000 * y + 0xFF2) (0x1000 * y + 0xFF5) id)

theorem cutController_only (b : Nat) (s : State) : onlyChanges [.can] noId s (cutController b s) := .set rfl .refl

theorem withdrawRecords_only (l : List (Fin 32)) (s : State) : onlyChanges [.src] noId s (withdrawRecords l s) := .set rfl .refl

/-- A yard's state and cause with its sticky bit, as a fence of the yard writes them first. -/
def markYard (y cause : Nat) (s : State) : State :=
  sticky (wrFld (wrFld s (0x1000 * y + 0xFF2) 1 0 2) (0x1000 * y + 0xFF3) 3 0 cause) (0x1000 * y + 0xFF5) 4

theorem markYard_only (y n : Nat) (s : State) : onlyChanges [] (fenceIds y) s (markYard y n s) :=
  .sticky (.wrFld (.wrFld .refl))

theorem fenceYard_of_fenced {y n : Nat} {s : State} (h : yardFenced s y = true) : fenceYard y n s = s := if_pos h

/-- What a fence of a yard does after it has marked the yard. -/
theorem fenceYard_marked {y n : Nat} {s : State} (h : yardFenced s y = false) :
    onlyChanges fenceParts (fun id => anyEventId id || id == 0x1004) (markYard y n s) (fenceYard y n s) := by
  unfold fenceYard
  rw [if_neg (by simp [h])]
  extract_lets _ s1 s2 s3
  have marked : onlyChanges fenceParts (fun id => anyEventId id || id == 0x1004) (markYard y n s) s3 :=
    .opt (.raiseWith .refl) fun _ => (enterFailSilent_only ..).step .refl
  exact .ite (.set rfl marked) (.ite (.foldl marked fun _ _ _ => (cutController_only ..).step .refl)
    (.ite ((withdrawRecords_only ..).step (.set rfl marked)) marked))

theorem fenceYard_only (y n : Nat) (s : State) : onlyChanges fenceParts (fenceIds y) s (fenceYard y n s) := by
  cases h : yardFenced s y
  case true =>
    rw [fenceYard_of_fenced h]
    exact .refl
  case false => exact (fenceYard_marked h).step ((markYard_only ..).step .refl)

/-- A block's bit, the state and first block of its yard, and the sticky bit, as a fence of the block writes them first. -/
def markBlock (y b : Nat) (s : State) : State :=
  let s1 := wrFlag s (0x1000 * y + 0xFF4) b true
  let s2 := if yardState s1 y = 0 then wrFld s1 (0x1000 * y + 0xFF2) 1 0 1 else s1
  sticky (if fld s2 (0x1000 * y + 0xFF3) 15 8 = 0xFF then wrFld s2 (0x1000 * y + 0xFF3) 15 8 b else s2) (0x1000 * y + 0xFF5) 3

theorem markBlock_only (y b : Nat) (s : State) : onlyChanges [] (fenceIds y) s (markBlock y b s) :=
  .sticky (.opt (.opt (.wrFlag .refl) fun _ => .wrFld .refl) fun _ => .wrFld .refl)

/-- What a fence of a block does after it has marked the block, but for the fence of its yard. -/
theorem fenceBlock_marked (y b : Nat) (s : State) : ∃ t, onlyChanges fenceParts anyEventId (markBlock y b s) t ∧
    fenceBlock y b s = if criticalBlock y b then fenceYard y 1 t else t := by
  have raised : onlyChanges fenceParts anyEventId (markBlock y b s) (raise 2 (y + 256 * b + 0x2000) (markBlock y b s)) :=
    .raise .refl
  exact ⟨_, .ite ((cutController_only ..).step raised) (.ite ((withdrawRecords_only ..).step raised) raised), rfl⟩

theorem fenceBlock_only (y b : Nat) (s : State) : onlyChanges fenceParts (fenceIds y) s (fenceBlock y b s) := by
  obtain ⟨t, ht, h⟩ := fenceBlock_marked y b s
  have stopped : onlyChanges fenceParts (fenceIds y) s t := ht.step ((markBlock_only ..).step .refl)
  rw [h]
  exact .opt stopped fun _ => fenceYard_only ..

/-- The registers that a fault of a block may change: those of a fence, and the count of faults. -/
@[simp] def faultIds (y id : Nat) : Bool :=
  anyEventId id || (id == 0x1004 || idsIn (0x1000 * y + 0xFF2) (0x1000 * y + 0xFF6) id)

theorem blockFault_only (y : Fin 8) (b : Nat) (due : Bool) (s : State) :
    onlyChanges (.yards :: fenceParts) (faultIds y) s (blockFault y b due s) := by
  unfold blockFault
  dsimp only
  refine .ite .refl (.ite ((fenceBlock_only ..).step (.set rfl .refl) rfl ?_) (.raise (.sticky (.bump (.set rfl .refl)))))
  simp only [fenceIds, faultIds, Bool.or_eq_true, beq_iff_eq, idsIn_eq_true]
  exact fun id h => h.imp_right fun h => h.imp_right fun ⟨lo, hi⟩ => ⟨lo, hi.trans (Nat.le_succ _)⟩

theorem execBlockFault_framed (c : Nat) (y : Fin 8) (b : Fin 32) (s : State) : framed
    [.time, .idReq, .twin, .power, .yards, .can, .line, .ev, .src]
    (fun id => anyEventId id || (id == 0x1004 || idsIn (0x1000 * y.val + 0xFF2) (0x1000 * y.val + 0xFF6) id)) s
    (execBlockFault c y b s) :=
  .ite (.next (.set rfl ((blockFault_only ..).step (.advance .refl))))
    (.next ((settleLine_only _).step ((blockFault_only ..).step (.advance .refl))))

theorem execBlockResetDone_framed (y : Fin 8) (b : Fin 32) (s : State) :
    framed [.yards, .line] (fun _ => false) s (execBlockResetDone y b s) := by
  unfold execBlockResetDone
  dsimp only
  split
  · exact .next .refl
  · exact .next ((settleLine_only _).step (.set rfl (.advance .refl)))

theorem execYardFence_framed (c : Nat) (y : Fin 8) (x : FenceCause) (s : State) : framed
    [.clk, .time, .idReq, .twin, .power, .can, .line, .ev, .src]
    (fun id => anyEventId id || (id == 0x1004 || idsIn (0x1000 * y.val + 0xFF2) (0x1000 * y.val + 0xFF5) id)) s
    (execYardFence c y x s) := by
  have fenced : onlyChanges [.clk, .time, .idReq, .twin, .power, .can, .line, .ev, .src] (fenceIds y) s
      (fenceYard y (causeCode x) (advance c s)) := (fenceYard_only ..).step (.advance .refl)
  exact .ite (.next (.set rfl fenced)) (.next ((settleLine_only _).step fenced))

end

end Sys2Proof.Machine
end

section
/-! SUPPORT. The frames of the power, restart and bring-up events (01 R41, 16 R466-R509), and of the operations that they share. -/
set_option Elab.async false

namespace Sys2Proof.Machine

section
variable {P : List Part} {I : Nat → Bool} {s t : State}

/-! ### Supply, sleep and wake -/

theorem writeSummary_only (l z : Nat) (s : State) : onlyChanges [.power] noId s (writeSummary l z s) :=
  .ite .refl (.set rfl .refl)

theorem requestStart_only (s : State) : onlyChanges [.clk, .power] noId s (requestStart s) := .set rfl .refl

theorem wake_only (m : Nat) (s : State) : onlyChanges [.clk, .power] noId s (wake m s) := .set rfl (.set rfl .refl)

theorem abandonEntry_only (s : State) : onlyChanges [.clk, .power] noId s (abandonEntry s) := by
  unfold abandonEntry
  dsimp only
  split
  · exact .set rfl .refl
  · exact .set rfl .refl

theorem powerOff_only (l : List Nat) (s : State) :
    onlyChanges [] (fun id => l.any fun y => id == 0x1000 * y + 0xFF2) s (powerOff l s) :=
  .foldl .refl fun _ y hy => .wrFld .refl (by simpa using hy)

theorem powerOn_only (l : List Nat) (s : State) :
    onlyChanges [] (fun id => l.any fun y => id == 0x1000 * y + 0xFF2) s (powerOn l s) :=
  .foldl .refl fun _ y hy => .ite (.wrFld .refl (by simpa using hy)) .refl

/-- The parts and the registers of an input's change. -/
def supplyParts : List Part := [.clk, .power, .line, .ev]

@[simp] def supplyIds (id : Nat) : Bool := anyEventId id || [0x1507, 0x1508, 0x150A].contains id

theorem execSupplyInputChange_framed (c : Nat) (i : SupplyInput) (v : Bool) (m d w : Nat) (s : State) :
    framed supplyParts supplyIds s (execSupplyInputChange c i v m d w s) := by
  unfold execSupplyInputChange
  extract_lets s0 _ mains dc use overB _ s1 s2 s3 s4 s5
  have h0 : onlyChanges supplyParts supplyIds s s0 := .advance .refl
  have h1 : onlyChanges supplyParts supplyIds s s1 := .wrFld (.wrFld (.wrFld (.set rfl h0)))
  have h2 : onlyChanges supplyParts supplyIds s s2 := .ite (.sticky h1) h1
  have h4 : onlyChanges supplyParts supplyIds s s4 := .raiseIf (.raise (.ite h2 (.sticky h2)))
  have h5 : onlyChanges supplyParts supplyIds s s5 := (writeSummary_only ..).step (.sticky (.raise h4))
  refine .ite (.next h0) (.ite (.ite (.next (.set rfl h5)) (.next ?_)) (.ite (.next ?_) (.next h4)))
  · exact (settleLine_only _).step ((abandonEntry_only _).step h5)
  · exact (requestStart_only _).step (.set rfl h4)

theorem execSleepEntry_framed (s : State) : framed [.clk, .twin, .gnss, .session, .power, .line, .ev]
    (fun id => anyEventId id || (id == 0x1005)) s (execSleepEntry s) := by
  unfold execSleepEntry
  split
  · exact .next .refl
  · exact .ite (.next .refl) (.next (.set rfl ((gnssBlockWrite_only _).step ((writeSummary_only ..).step
      (.raise ((closeSession_only ..).step ((closeSession_only ..).step .refl)))))))

theorem execSleepEntryDone_framed (s : State) : framed [.clk, .gnss, .power, .field]
    (fun id => decide (0x2000 ≤ id) && id % 0x1000 == 0xFF2) s (execSleepEntryDone s) := by
  unfold execSleepEntryDone
  split
  · exact .next .refl
  · exact .next (.set rfl ((powerOff_only ..).step (.advance .refl)))

theorem execWakeEvent_framed (c n : Nat) (s : State) : framed [.clk, .power] (fun _ => false) s (execWakeEvent c n s) :=
  .ite (.next (.advance .refl)) (.ite (.next ((wake_only ..).step (.advance .refl)))
    (.ite (.next (.set rfl (.advance .refl))) (.next (.advance .refl))))

theorem execCanWakeCheck_framed (c : Nat) (b : Fin 4) (s : State) :
    framed [.clk, .power] (fun id => id == 0x7FF2) s (execCanWakeCheck c b s) :=
  .ite (.next .refl) (.next ((powerOn_only ..).step (.set rfl (.advance (.set rfl .refl)))))

theorem execWakeCheckTimeout_framed (c : Nat) (s : State) :
    framed [.clk, .power] (fun id => [0x7FF2, 0x150A, 0x150C].contains id) s (execWakeCheckTimeout c s) := by
  unfold execWakeCheckTimeout
  split
  · exact .next .refl
  · exact .ite (.next (.advance .refl)) (.next (.set rfl (.sticky (.bump ((powerOff_only ..).step (.advance .refl))))))

theorem execWatchWindowOpen_framed (c : Nat) (s : State) :
    framed [.clk, .gnss, .power] (fun id => [0x4FF2, 0x7FF2, 0x4018].contains id) s (execWatchWindowOpen c s) :=
  .ite (.next .refl) (.next ((gnssStart_only ..).step ((powerOn_only ..).step (.set rfl (.advance (.set rfl .refl))))))

theorem execWatchWindowClose_framed (c : Nat) (s : State) :
    framed [.clk, .gnss, .power] (fun id => [0x4FF2, 0x7FF2].contains id) s (execWatchWindowClose c s) :=
  .ite (.next .refl) (.next (.set rfl ((powerOff_only ..).step ((gnssBlockWrite_only _).step (.advance .refl)))))

theorem execClockStart_framed (b : Bool) (s : State) : framed [.clk, .power] (fun id => id == 0x0003) s (execClockStart b s) :=
  .ite (.next .refl) (.ite (.next (.set rfl .refl)) (.next (.set rfl (.bump .refl))))

theorem execClockStartRetry_framed (s : State) : framed [.power] (fun _ => false) s (execClockStartRetry s) := by
  unfold execClockStartRetry
  split
  · exact .next .refl
  · exact .next (.set rfl .refl)

theorem execRtcAlarm_framed (c : Nat) (s : State) : framed [.clk, .power, .line, .ev]
    (fun id => anyEventId id || [0x0004, 0x0005].contains id) s (execRtcAlarm c s) := by
  unfold execRtcAlarm
  extract_lets s0 _ s1 s2 s3
  have h0 : onlyChanges [.clk, .power, .line, .ev] (fun id => anyEventId id || [0x0004, 0x0005].contains id) s s0 :=
    .advance .refl
  have h1 : onlyChanges [.clk, .power, .line, .ev] _ s s1 := .optNot h0 fun _ => .set rfl .refl
  have h2 : onlyChanges [.clk, .power, .line, .ev] _ s s2 := .wr (.wr h1)
  have h3 : onlyChanges [.clk, .power, .line, .ev] _ s s3 := .ite (.raise h2) h2
  exact .ite (.next h0) (.ite (.next h1) (.ite (.next ((wake_only ..).step h2)) (.ite (.next (.set rfl h3)) (.next h3))))

theorem execBackupCellMeasure_framed (n : Nat) (s : State) : framed [.power, .line, .ev]
    (fun id => anyEventId id || [0x0006, 0x150A].contains id) s (execBackupCellMeasure n s) := by
  unfold execBackupCellMeasure
  extract_lets cls s1 _ s2
  have h2 : onlyChanges [.power, .line, .ev] (fun id => anyEventId id || [0x0006, 0x150A].contains id) s s2 :=
    .set rfl (.wrFlag (.wrFlag (.wrFld .refl)))
  exact .ite (.next .refl) (.ite (.next h2) (.ite (.next (.raise h2)) (.next (.raise (.sticky h2)))))

theorem loseRetention_only (s : State) : onlyChanges [.power, .gnss, .ev] noId s (loseRetention s) := .set rfl .refl

theorem execBackupCellRemoved_framed (s : State) : framed [.gnss, .power, .ev]
    (fun id => (idsIn 0 6 id || id == 0x150B)) s (execBackupCellRemoved s) :=
  .ite (.next .refl) (.next (.wrFld (.set rfl (.foldl ((loseRetention_only _).step .refl) fun _ i hi =>
    .wr .refl (by simp at hi ⊢; omega)))))

end

end Sys2Proof.Machine
end

section
/-! SUPPORT. The frames of the restart and the bring-up events (01 R24, R41, 16 R480-R509), and of the operations that they share. -/
set_option Elab.async false

namespace Sys2Proof.Machine

section
variable {P Q : List Part} {I : Nat → Bool} {s t : State}

/-! ### Restarts -/

/-- A register that a filter of identifiers keeps reads as before. -/
theorem regGet_filter (f : Nat → Bool) (r : Regs) (id : Nat) (h : f id = true) :
    regGet (r.filter fun x => f x.1) id = regGet r id := by
  have same : ∀ x : Nat × Word, (f x.1 && decide (x.1 = id)) = (x.1 == id) := by
    intro x
    by_cases hx : x.1 = id <;> simp [hx, h]
  simp [regGet, List.find?_filter, same]

theorem clearYard_only (y : Nat) (s : State) :
    onlyChanges [.poison, .yards] (fun id => yardOf id == y) s (clearYard y s) := by
  have cleared : onlyChanges [.poison, .yards] (fun id => yardOf id == y) s
      { s with regs := s.regs.filter fun x => yardOf x.1 != y } :=
    .regs .refl fun id hid => regGet_filter (fun i => yardOf i != y) s.regs id (by simpa using hid)
  exact .set rfl cleared

theorem beginReset_only (n : Nat) (s : State) : onlyChanges [.clk, .session, .restart, .power, .line, .ev]
    (fun id => anyEventId id || id == 0x1005) s (beginReset n s) :=
  (requestStart_only _).step ((writeSummary_only ..).step
    ((closeSession_only ..).step ((closeSession_only ..).step (.set rfl .refl))))

theorem execYardRestartBegin_framed (s : State) : framed
    [.clk, .gnss, .session, .poison, .yards, .restart, .power, .line, .ev]
    (fun id => anyEventId id || (id == 0x1005 || [0, 4].contains (yardOf id))) s (execYardRestartBegin s) := by
  unfold execYardRestartBegin
  split
  · exact .next .refl
  · dsimp only
    exact .ite (.next ((loseRetention_only _).step ((clearYard_only ..).step (.set rfl .refl))))
      (.ite (.next ((gnssStart_only ..).step ((clearYard_only ..).step (.set rfl .refl)) rfl (by simp +contextual [yardOf])))
        (.next ((beginReset_only ..).step (.set rfl .refl))))

theorem execModuleResetBegin_framed (s : State) : framed [.clk, .session, .restart, .power, .line, .ev]
    (fun id => anyEventId id || (id == 0x1005)) s (execModuleResetBegin s) := by
  unfold execModuleResetBegin
  split
  · exact .next .refl
  · exact .next (beginReset_only ..)

/-- The parts of a started module: all but the host's own and the nonvolatile store. -/
def startParts : List Part :=
  [.clk, .snap, .poison, .arb, .yards, .restart, .host, .line, .session, .load, .src, .ser, .fus, .gnss, .ctl, .alc, .servo, .field,
    .filt, .can, .idReq, .time, .eth, .twin, .power, .ev]

theorem execBringUpStart_framed (n : Nat) (s : State) :
    framed startParts (fun id => decide (6 < id)) s (execBringUpStart n s) := by
  unfold execBringUpStart
  refine .ite (.next .refl) ?_
  have kept : onlyChanges startParts (fun id => decide (6 < id)) s { s with regs := s.regs.filter fun x => keptAtBringUp x.1 } :=
    .regs .refl fun id hid => regGet_filter keptAtBringUp s.regs id (by simp_all [keptAtBringUp])
  exact .next ((powerOff_only ..).step (.wrFld (.wrFld (.wrFld (.bump (.set rfl kept))))))

/-! ### Self-tests -/

/-- A part that an effect keeps need not stand in its frame. -/
theorem onlyChanges.without {p : Part} (h : onlyChanges P I s t) (hp : p.same s t) (hQ : P.all (p :: Q).contains = true := by rfl) :
    onlyChanges Q I s t := by
  obtain ⟨pending, parts, regs⟩ := h
  refine ⟨pending, fun q hq => ?_, regs⟩
  by_cases hpq : q = p
  · exact hpq ▸ hp
  · refine parts q fun hm => ?_
    have := List.all_eq_true.1 hQ q hm
    simp_all

theorem fenceYard_src {y : Nat} (n : Nat) (s : State) (h : y ≠ 4) : (fenceYard y n s).src = s.src := by
  unfold fenceYard
  split
  · rfl
  · extract_lets _ s1 s2 s3
    have h3 : s3.src = s.src := by
      unfold s3
      split
      · simp [enterFailSilent_src, s2, s1]
      · simp [s2, s1]
    split
    · exact h3
    · split
      · exact List.foldlRecOn (motive := fun t : State => t.src = s.src) _ _ h3 fun _ ht _ _ => ht
      · exact h3

theorem fenceBlock_src {y : Nat} (b : Nat) (s : State) (h : y ≠ 4) : (fenceBlock y b s).src = s.src := by
  unfold fenceBlock
  extract_lets _ s1 s2 s3 s4 s5
  have h2 : s2.src = s.src := by
    unfold s2
    split <;> simp [s1]
  have h4 : s4.src = s.src := by
    unfold s4 s3
    split <;> simp [h2]
  have h5 : s5.src = s.src := by
    unfold s5
    split
    · exact h4
    · simpa [h] using h4
  split
  · rw [fenceYard_src _ _ h, h5]
  · exact h5

theorem blockFault_src {y : Fin 8} (b : Nat) (due : Bool) (s : State) (h : y.val ≠ 4) : (blockFault y b due s).src = s.src := by
  unfold blockFault
  dsimp only
  split
  · rfl
  · split
    · exact fenceBlock_src _ _ h
    · simp

/-- The registers that the self-tests of yards may change. -/
@[simp] def testIds (l : List Nat) (id : Nat) : Bool :=
  anyEventId id || ([0x1004, 0x1509, 0x150A].contains id || l.any fun y => idsIn (0x1000 * y + 0xFF2) (0x1000 * y + 0xFF6) id)

theorem faultIds_of_mem {l : List Nat} {y : Nat} (hy : y ∈ l) (id : Nat) (h : faultIds y id = true) : testIds l id = true := by
  simp only [faultIds, testIds, Bool.or_eq_true, beq_iff_eq, List.any_eq_true] at h ⊢
  exact h.imp_right (.imp (by rintro rfl; rfl) fun h => ⟨y, hy, h⟩)

/-- What the self-tests of yards leave, given what the faults of their blocks leave. -/
theorem yardTests_within {l : List Nat} {P : List Part} (v : SelfTest) (s : State)
    (hb : ∀ (y : Fin 8) b due t, y.val ∈ l → onlyChanges P (testIds l) t (blockFault y b due t))
    (hP : P.contains .yards = true) :
    onlyChanges P (testIds l) s (yardTests l v s) := by
  unfold yardTests
  extract_lets mine s1 s2 s3
  have within : ∀ (m : List (Fin 8 × Fin 32)), ∀ x ∈ m.filter mine, x.1.val ∈ l := fun m x hx => by
    simpa [mine] using (List.mem_filter.1 hx).2
  have retried : ∀ t y, onlyChanges [.yards] noId t { t with yards := y } := fun t y => .set rfl .refl
  have h1 : onlyChanges P (testIds l) s s1 :=
    .foldl .refl fun t x hx => (retried _ _).step (hb x.1 x.2.val false t (within _ x hx)) (by simpa using hP)
  have h2 : onlyChanges P (testIds l) s s2 :=
    .foldl h1 fun t x hx => (hb _ _ _ _ (within _ x hx)).trans (hb _ _ _ _ (within _ x hx))
  have h3 : onlyChanges P (testIds l) s s3 := .ite (.sticky h2) h2
  exact .foldl h3 fun _ _ _ => .ite .refl (.wrFlag .refl)

theorem yardTests_only (l : List Nat) (v : SelfTest) (s : State) :
    onlyChanges (.yards :: fenceParts) (testIds l) s (yardTests l v s) :=
  yardTests_within v s (fun y b due t hy => (blockFault_only y b due t).widen rfl (faultIds_of_mem hy)) rfl

/-- Only the tests of PD4 withdraw records of the sources. -/
theorem yardTests_keepsSources {l : List Nat} (v : SelfTest) (s : State) (h : 4 ∉ l) :
    onlyChanges [.yards, .time, .idReq, .twin, .power, .can, .line, .ev] (testIds l) s (yardTests l v s) :=
  yardTests_within v s (fun y b due t hy => by
    have fault := (blockFault_only y b due t).widen (P := .yards :: fenceParts) rfl (faultIds_of_mem hy)
    exact fault.without (p := .src) (blockFault_src b due t fun h4 => h (h4 ▸ hy))) rfl

end

end Sys2Proof.Machine
end

section
/-! SUPPORT. The frames of the verdicts and the handshake of a bring-up (16 R480-R509), and O56. -/
set_option Elab.async false

namespace Sys2Proof.Machine

section
variable {P Q : List Part} {I : Nat → Bool} {s t : State}

/-- The parts and the registers of PD1's verdict. -/
def pd1Parts : List Part := [.time, .idReq, .twin, .power, .yards, .can, .line, .ev]

def pd1Ids (id : Nat) : Bool := anyEventId id || (decide (0x1000 ≤ id) && decide (id ≤ 0x1FFF) || id == 0x4FF2)

theorem pd1Ids_of_testIds (id : Nat) (h : testIds [1] id = true) : pd1Ids id = true := by
  simp only [testIds, pd1Ids, Bool.or_eq_true, List.contains_eq_mem, List.mem_cons, List.not_mem_nil, or_false,
    decide_eq_true_eq, List.any_cons, List.any_nil, Bool.or_false, idsIn_eq_true, Bool.and_eq_true, beq_iff_eq] at h ⊢
  exact h.imp_right fun h => .inl (by omega)

theorem execPd1Verdict_framed (v : SelfTest) (s : State) : framed pd1Parts pd1Ids s (execPd1Verdict v s) := by
  unfold execPd1Verdict
  extract_lets s0 bad _ s1 s2
  have h0 : onlyChanges pd1Parts pd1Ids s s0 :=
    (yardTests_keepsSources v _ (by decide)).step (.advance .refl) rfl pd1Ids_of_testIds
  have h2 : onlyChanges pd1Parts pd1Ids s s2 :=
    .raiseAll (.set rfl h0) (eventsWhen_lt (by simp)) rfl (by simp +contextual [pd1Ids])
  exact .ite (.next .refl) (.next ((settleLine_only _).step ((powerOn_only ..).step h2 rfl (by simp [pd1Ids]))))

theorem execHistoryFlush_framed (s : State) : framed [.gnss, .power, .ev] (fun _ => false) s (execHistoryFlush s) := by
  unfold execHistoryFlush
  extract_lets s0 _ _ _ s1 _ s2
  have h0 : onlyChanges [.gnss, .power, .ev] (fun _ => false) s s0 := .advance .refl
  have h1 : onlyChanges [.gnss, .power, .ev] (fun _ => false) s s1 := .ite (.set rfl h0) h0
  exact .ite (.next .refl) (.next (.foldl (.set rfl h1) fun _ _ _ => .ite .refl (.set rfl .refl)))

/-- The parts and the registers of PD4's verdict. -/
def pd4Parts : List Part := [.time, .idReq, .twin, .gnss, .power, .yards, .can, .line, .ev, .src]

@[simp] def pd4Ids (id : Nat) : Bool :=
  anyEventId id || ([0x1004, 0x1509, 0x150A, 0x4018].contains id || idsIn 0x4FF2 0x4FF6 id || id % 0x1000 == 0xFF2)

theorem execPd4Verdict_framed (v : SelfTest) (s : State) : framed pd4Parts pd4Ids s (execPd4Verdict v s) := by
  unfold execPd4Verdict
  extract_lets s0
  have h0 : onlyChanges pd4Parts pd4Ids s s0 := (yardTests_only ..).step ((powerOn_only ..).step (.advance .refl))
  exact .ite (.next .refl) (.next (.ite h0 ((gnssStart_only ..).step h0)))

theorem settleTables_only (s : State) : onlyChanges [.alc, .filt, .servo] noId s (settleTables s) := .set rfl .refl

theorem loadTables_only (s : State) : onlyChanges [.alc, .filt, .servo] noId s (loadTables s) := by
  unfold loadTables
  refine (settleTables_only _).step (.foldl .refl fun t k _ => ?_)
  dsimp only
  refine .ite .refl ?_
  split
  next u hu => exact (commitTables_only hu).step .refl
  · exact .refl

theorem loadModuleConfig_only (s : State) : onlyChanges [] (fun _ => true) s (loadModuleConfig s) := by
  unfold loadModuleConfig
  refine .ite .refl (.foldl .refl fun t x _ => ?_)
  split
  · exact .refl
  · exact .wr .refl

theorem resetSettings_only (s : State) : onlyChanges [] (fun _ => true) s (resetSettings s) := .regs .refl (by simp)

theorem startTicks_only (h b : Nat) (s : State) :
    onlyChanges [.clk, .snap, .filt, .field] (fun id => id == 0x5409) s (startTicks h b s) := by
  unfold startTicks
  extract_lets m n whole r
  have stored : onlyChanges [.clk, .snap, .filt, .field] (fun id => id == 0x5409) s { s with regs := r } :=
    .regs .refl fun id hid => by simp [r, regGet_regSet, show id ≠ 0x5409 by simpa using hid]
  exact .set rfl stored

theorem canBoot_only (s : State) : onlyChanges [.can] noId s (canBoot s) := .set rfl .refl

theorem refreshUtc_only (s : State) : onlyChanges [.time] noId s (refreshUtc s) := .set rfl .refl

/-- The parts of the self-tests' verdicts. -/
def testParts : List Part :=
  [.snap, .time, .idReq, .twin, .power, .clk, .yards, .can, .filt, .field, .servo, .alc, .line, .ev]

theorem execSelftestVerdicts_framed (v : SelfTest) (x : Bool) (s : State) :
    framed testParts (fun _ => true) s (execSelftestVerdicts v x s) := by
  unfold execSelftestVerdicts
  extract_lets s0 s1 s2 up s3
  have h0 : onlyChanges testParts (fun _ => true) s s0 :=
    (yardTests_keepsSources v _ (by decide)).step ((powerOn_only ..).step (.advance .refl))
  have h1 : onlyChanges testParts (fun _ => true) s s1 :=
    .wrFld ((loadTables_only _).step ((loadModuleConfig_only _).step ((resetSettings_only _).step h0)))
  have h3 : onlyChanges testParts (fun _ => true) s s3 := .wrFlag (.wrFlag (.wrFld ((startTicks_only ..).step h1)))
  have paired : ∀ t x, onlyChanges [.twin] noId t { t with twin := x } := fun _ _ => .set rfl .refl
  exact .ite (.next .refl) (.next ((refreshUtc_only _).step ((canBoot_only _).step ((paired ..).step h3))))

theorem execCrossCheckVerdict_framed (b : Bool) (s : State) : framed [.idReq, .twin, .can, .line, .ev]
    (fun id => anyEventId id || [0x1004, 0x1509].contains id) s (execCrossCheckVerdict b s) :=
  .ite (.next .refl) (.ite (.next (.wrFlag (.advance .refl)))
    (.next ((enterFailSilent_only ..).step (.set rfl (.advance .refl)))))

theorem execHandshakeSend_framed (c : Nat) (s : State) : framed [.twin] (fun _ => false) s (execHandshakeSend c s) :=
  .ite (.next (.advance .refl)) (.next (.set rfl (.set rfl (.advance .refl))))

/-! ### Messages of the partner -/

theorem showLink_only (s : State) : onlyChanges [.line, .ev] (fun id => anyEventId id || id == 0x7400) s (showLink s) :=
  .raiseIf (.wrFlag (.wrFlag (.wrFld .refl)))

theorem losePair_only (p : Fin 2) (s : State) :
    onlyChanges [.idReq, .twin, .line, .ev] (fun id => anyEventId id || [0x7400, 0x7401].contains id) s (losePair p s) :=
  .ite ((showLink_only _).step (.sticky (.set rfl (.set rfl .refl)))) (.set rfl .refl)

theorem ownMessage_only (p : Fin 2) (s : State) : onlyChanges [.idReq, .twin, .power, .line, .ev]
    (fun id => anyEventId id || [0x7400, 0x7401].contains id) s (ownMessage p s) := by
  unfold ownMessage
  extract_lets s1
  have h1 : onlyChanges [.idReq, .twin, .power, .line, .ev] (fun id => anyEventId id || [0x7400, 0x7401].contains id) s s1 :=
    .sticky ((losePair_only p _).step (.set rfl .refl))
  exact .ite (.set rfl h1) h1

theorem leadJoiner_only (s : State) : onlyChanges [.twin] [0x1102, 0x1104].contains s (leadJoiner s) :=
  .ite (.set rfl (.wrFld (.wrFld .refl))) .refl

theorem execHandshakeMessage_framed (c : Nat) (p : Fin 2) (m : List Byte) (s : State) : framed
    [.idReq, .twin, .power, .line, .ev] (fun id => anyEventId id || [0x1102, 0x1104, 0x7400, 0x7401, 0x7404].contains id) s
    (execHandshakeMessage c p m s) :=
  .ite (.next (.advance .refl)) (.ite (.next (.sticky (.bump (.advance .refl))))
    (.ite (.next ((ownMessage_only ..).step (.advance .refl)))
      (.ite (.next ((leadJoiner_only _).step (.set rfl (.advance .refl)))) (.next (.set rfl (.set rfl (.advance .refl)))))))

theorem loadPhase_only (x : Nat × Nat) (s : State) :
    onlyChanges [.clk, .snap, .filt, .field] (fun id => id == 0x5409) s (loadPhase x s) :=
  .set rfl ((startTicks_only ..).step (.set rfl .refl))

theorem putVerdict_only (v l : Nat) (s : State) : onlyChanges [.power] (fun id => id == 0x1102) s (putVerdict v l s) :=
  .wrFld (.set rfl .refl)

/-- The parts and the registers of the handshake's verdict. -/
def verdictParts : List Part := [.snap, .idReq, .twin, .power, .clk, .can, .filt, .field, .line, .ev]

@[simp] def verdictIds (id : Nat) : Bool := anyEventId id || [0x1004, 0x1102, 0x5409, 0x7401].contains id

theorem execHandshakeVerdict_framed (s : State) : framed verdictParts verdictIds s (execHandshakeVerdict s) := by
  unfold execHandshakeVerdict
  extract_lets s0 h edge
  have shown : ∀ v l, onlyChanges verdictParts verdictIds s (putVerdict v l s0) := fun _ _ =>
    (putVerdict_only ..).step (.advance .refl)
  refine .ite (.next .refl) (.ite (.next ?_) ?_)
  · exact (putVerdict_only ..).step ((enterFailSilent_only ..).step (.sticky (.advance .refl)))
  split
  · exact .next ((loadPhase_only ..).step (.set rfl (shown _ _)))
  · exact .next ((loadPhase_only ..).step (.set rfl (shown _ _)))
  · exact .ite (.next (shown _ _)) (.next ((loadPhase_only ..).step (shown _ _)))
  · exact .next (shown _ _)

theorem execBringUpEnd_framed (s : State) : framed [.power, .line, .ev] (fun id => anyEventId id || (id == 0x1004)) s
    (execBringUpEnd s) :=
  .ite (.next .refl) (.next ((settleLine_only _).step (.raise (.wrFld (.set rfl (.advance .refl))))))

end

/-- Settles O56: the frame of each command's exec function, proved by the calculus of frames. -/
theorem gnssAndPowerFrames : Obligations.GnssAndPowerFrames :=
  ⟨execAntennaBiasClass_framed, execAntennaRetest_framed, execGnssIntegration_framed, execChannelLossOfLock_framed,
    execSatelliteRelease_framed, execMeasurementTick_framed, execEpochStrobe_framed, execCheckClear_framed,
    execGnssBlockWrite_framed, execGnssStartTimeout_framed, execFirmwareRepeat_framed, execSessionIdleExpiry_framed,
    execExpertLockEnd_framed, execConfigLoadTimeout_framed, execConfigFileStored_framed, execScrubRead_framed,
    execBlockFault_framed, execBlockResetDone_framed, execYardFence_framed, execSupplyInputChange_framed,
    execSleepEntry_framed, execSleepEntryDone_framed, execWakeEvent_framed, execCanWakeCheck_framed,
    execWakeCheckTimeout_framed, execWatchWindowOpen_framed, execWatchWindowClose_framed, execClockStart_framed,
    execClockStartRetry_framed, execRtcAlarm_framed, execBackupCellMeasure_framed, execBackupCellRemoved_framed,
    execYardRestartBegin_framed, execModuleResetBegin_framed, execBringUpStart_framed, execPd1Verdict_framed,
    execHistoryFlush_framed, execPd4Verdict_framed, execSelftestVerdicts_framed, execCrossCheckVerdict_framed,
    execHandshakeSend_framed, execHandshakeMessage_framed, execHandshakeVerdict_framed, execBringUpEnd_framed,
    execSubframeReceived_framed⟩

end Sys2Proof.Machine
end

section
/-! SUPPORT. What the health events leave (01 R21-R40): the words of marks and counters, the scrub's places, blocks and
yards, and O49. -/
set_option Elab.async false

namespace Sys2Proof.Machine

section
variable {P : List Part} {I : Nat → Bool} {s t : State}

/-! ### Fields and flags -/

theorem fld_congr {id hi lo : Nat} (h : rd t id = rd s id) : fld t id hi lo = fld s id hi lo := by simp [fld, h]

theorem flag_congr {id i : Nat} (h : rd t id = rd s id) : flag t id i = flag s id i := by simp [flag, h]

theorem satAdd_mod (n c d : Nat) : satAdd n c d % 2 ^ n = satAdd n c d := by
  have : 0 < 2 ^ n := Nat.two_pow_pos n
  exact Nat.mod_eq_of_lt (by unfold satAdd; omega)

theorem fld_bump_same (s : State) (id hi lo d : Nat) (h : hi < 32) :
    fld (bump s id hi lo d) id hi lo = satAdd (hi + 1 - lo) (fld s id hi lo) d := by
  rw [fld, rd_bump, if_pos rfl, bitsOf_putBits_same _ _ _ _ h, satAdd_mod]

theorem fld_wrFld_same (s : State) (id hi lo v : Nat) (h : hi < 32) :
    fld (wrFld s id hi lo v) id hi lo = v % 2 ^ (hi + 1 - lo) := by
  rw [fld, rd_wrFld, if_pos rfl, bitsOf_putBits_same _ _ _ _ h]

theorem flag_wrFlag_same (s : State) (id i : Nat) (b : Bool) (h : i < 32) : flag (wrFlag s id i b) id i = b := by
  rw [flag, rd_wrFlag, if_pos rfl, bitOf_putBit_same _ _ _ h]

theorem flag_sticky_same (s : State) (id i : Nat) (h : i < 32) : flag (sticky s id i) id i = true := by
  rw [flag, rd_sticky, if_pos rfl, bitOf_putBit_same _ _ _ h]

theorem flag_sticky_of_flag (id i j : Nat) (hj : j < 32) (h : flag s id j = true) : flag (sticky s id i) id j = true := by
  rw [flag, rd_sticky, if_pos rfl]
  by_cases e : j = i
  · subst e
    exact bitOf_putBit_same _ _ _ hj
  · rw [bitOf_putBit_other _ _ _ _ hj e]
    exact h

theorem rd_sticky_other {id j : Nat} (s : State) (i : Nat) (h : j ≠ id) : rd (sticky s id i) j = rd s j := by
  rw [rd_sticky, if_neg h]

theorem rd_bump_other {id j : Nat} (s : State) (hi lo d : Nat) (h : j ≠ id) :
    rd (bump s id hi lo d) j = rd s j := by
  rw [rd_bump, if_neg h]

theorem rd_wrFld_other {id j : Nat} (s : State) (hi lo v : Nat) (h : j ≠ id) :
    rd (wrFld s id hi lo v) j = rd s j := by
  rw [rd_wrFld, if_neg h]

/-- The health registers of a yard are none of the event registers. -/
theorem anyEventId_health {y k : Nat} (hk : 0xFF0 ≤ k) (hk' : k ≤ 0xFFF) : anyEventId (0x1000 * y + k) = false := by
  simp only [anyEventId, List.contains_eq_mem, List.mem_cons, List.not_mem_nil, or_false, decide_eq_false_iff_not]
  omega

theorem eventIds_health {n y k : Nat} (hn : n < 128) (hk : 0xFF0 ≤ k) (hk' : k ≤ 0xFFF) :
    (eventIds n).contains (0x1000 * y + k) = false := by
  by_contra h
  have := anyEventId_of_mem_eventIds hn (by simpa using h)
  simp [anyEventId_health hk hk'] at this

/-- Raising an event leaves the health registers. -/
theorem rd_raise_health {n a y k : Nat} (s : State) (hn : n < 128 := by decide) (hk : 0xFF0 ≤ k := by decide)
    (hk' : k ≤ 0xFFF := by decide) : rd (raise n a s) (0x1000 * y + k) = rd s (0x1000 * y + k) :=
  (raise_only n a s).rd (eventIds_health hn hk hk')

/-! ### The scrub -/

theorem scrubPlace_congr {y : Fin 8} {m : Nat} (h : t.yards = s.yards) : scrubPlace t y m = scrubPlace s y m := by
  simp [scrubPlace, h]

theorem scrubWord_congr {y : Fin 8} {m : Nat} (h : t.yards = s.yards) : scrubWord t y m = scrubWord s y m := by
  simp [scrubWord, scrubPlace_congr h]

theorem scrubNext_yards (y : Fin 8) (m : Nat) (s : State) : ∃ c, (scrubNext y m s).yards = vupd s.yards y fun u =>
    { u with scrub := (m, ⟨(scrubWord s y m + 1) % Config.memoryWords y.val m, c⟩) :: u.scrub.filter (·.1 != m) } := by
  unfold scrubNext
  extract_lets s1
  have h1 : s1.yards = s.yards := by
    unfold s1
    split <;> simp
  exact ⟨s1.clk.cycle, by rw [← h1]⟩

theorem scrubPlace_scrubNext_other {y : Fin 8} {m n : Nat} (s : State) (h : n ≠ m) :
    scrubPlace (scrubNext y m s) y n = scrubPlace s y n := by
  obtain ⟨c, hc⟩ := scrubNext_yards y m s
  have away : ∀ x : Nat × ScrubPlace, (!decide (x.1 = m) && decide (x.1 = n)) = (x.1 == n) := fun x => by
    by_cases hx : x.1 = n <;> simp [hx, h]
  have first : (m == n) = false := by simpa using Ne.symm h
  simp [scrubPlace, hc, List.find?_filter, first, away]

theorem scrubWord_scrubNext (y : Fin 8) (m : Nat) (s : State) :
    scrubWord (scrubNext y m s) y m = (scrubWord s y m + 1) % Config.memoryWords y.val m := by
  obtain ⟨c, hc⟩ := scrubNext_yards y m s
  rw [scrubWord, scrubPlace, hc]
  simp

theorem scrubNext_regs (y : Fin 8) (m : Nat) (s : State) : (scrubNext y m s).regs = s.regs := by
  unfold scrubNext
  dsimp only
  split <;> simp

theorem scrubNext_poison (y : Fin 8) (m : Nat) (s : State) : (scrubNext y m s).poison = s.poison :=
  (scrubNext_only y m s).part .poison

/-- A frame that keeps the clock unit keeps whether the core clock runs. -/
theorem core_of_same (h : Part.clk.same s t) : t.clk.core = s.clk.core := by
  have hc := congrArg Clock.core h
  exact hc

theorem scrubNext_core (y : Fin 8) (m : Nat) (s : State) : (scrubNext y m s).clk.core = s.clk.core :=
  core_of_same ((scrubNext_only y m s).part .clk)

theorem le_advance (c : Nat) (s : State) (h : s.clk.core = true) : c ≤ (advance c s).clk.cycle := by
  unfold advance
  split
  · exact le_rfl
  · simp_all

theorem le_scrubNext {y : Fin 8} {m : Nat} {x : ScrubPlace} (hx : scrubPlace s y m = some x) (h : s.clk.core = true) :
    x.last + 64 ≤ (scrubNext y m s).clk.cycle := by
  unfold scrubNext
  simp only [hx]
  exact le_advance _ _ h

/-- A double error of a word that is not marked: the mark, the count, the sticky bit and the event. -/
theorem poisonStall_unmarked {y id : Nat} (h : s.poison.contains id = false) : ∃ t, poisonStall y id s = t ∧
    t.poison = id :: s.poison ∧ fld t (0x1000 * y + 0xFF1) 15 0 = satAdd 16 (fld s (0x1000 * y + 0xFF1) 15 0) 1 ∧
    flag t (0x1000 * y + 0xFF5) 1 = true ∧ (s.clk.core = true → flag t 0x1304 0 = true) := by
  refine ⟨_, rfl, ?_⟩
  unfold poisonStall
  rw [if_neg (by rw [h]; decide)]
  dsimp only
  refine ⟨by simp, ?_, ?_, fun hc => ?_⟩
  · rw [fld_congr (rd_raise_health _), fld_congr (rd_sticky_other _ _ (by simp)), fld_bump_same _ _ _ _ _ (by decide)]
    rfl
  · rw [flag_congr (rd_raise_health _), flag_sticky_same _ _ _ (by decide)]
  · exact (raise_sticky 0 _ _ (by simpa using hc)).resolve_right (by decide)

/-! ### Blocks -/

theorem blockFault_of_fenced {y : Fin 8} {b : Nat} {due : Bool} (h : blockFenced s y b = true) : blockFault y b due s = s :=
  if_pos (by simp [h])

theorem blockFault_of_not_exists {y : Fin 8} {b : Nat} {due : Bool} (h : blockExists y b = false) : blockFault y b due s = s :=
  if_pos (by simp [h])

/-- The first fault of a block in service: it is tried again after its reset of 32 cycles. -/
theorem blockFault_first {y : Fin 8} {b : Nat} {due : Bool} (hf : blockFenced s y b = false) (he : blockExists y b = true)
    (hr : (vget s.yards y).retry.any (·.1 == b) = false) : ∃ t, blockFault y b due s = t ∧
    (vget t.yards y).retry = (vget s.yards y).retry ++ [(b, due)] ∧
    (vget t.yards y).inReset = (vget s.yards y).inReset ++ [(b, s.clk.cycle + 32)] ∧
    fld t (0x1000 * y.val + 0xFF6) 15 0 = satAdd 16 (fld s (0x1000 * y.val + 0xFF6) 15 0) 1 ∧
    flag t (0x1000 * y.val + 0xFF5) 2 = true ∧ blockFenced t y b = false ∧ t.clk = s.clk := by
  refine ⟨_, rfl, ?_⟩
  unfold blockFault
  rw [if_neg (by simp [hf, he]), if_neg (by simp [hr])]
  dsimp only
  refine ⟨by simp, by simp, ?_, ?_, ?_, by simp⟩
  · rw [fld_congr (rd_raise_health _), fld_congr (rd_sticky_other _ _ (by simp)), fld_bump_same _ _ _ _ _ (by decide)]
    rfl
  · rw [flag_congr (rd_raise_health _), flag_sticky_same _ _ _ (by decide)]
  · rw [blockFenced, flag_congr (rd_raise_health _), flag_congr (rd_sticky_other _ _ (by simp)),
      flag_congr (rd_bump_other _ _ _ _ (by simp))]
    exact hf

/-- A second fault of a block that is being tried again fences it. -/
theorem blockFault_retried {y : Fin 8} {b : Nat} {due : Bool} (hf : blockFenced s y b = false) (he : blockExists y b = true)
    (hr : (vget s.yards y).retry.any (·.1 == b) = true) :
    ∃ u, u.regs = s.regs ∧ blockFault y b due s = fenceBlock y b u := by
  unfold blockFault
  rw [if_neg (by simp [hf, he]), if_pos hr]
  refine ⟨_, ?_, rfl⟩
  rfl

/-- A fenced block: its bit, the yard's sticky bit, and the yard at least limited. -/
theorem markBlock_marks {y b : Nat} (hb : b < 32) (s : State) : blockFenced (markBlock y b s) y b = true ∧
    flag (markBlock y b s) (0x1000 * y + 0xFF5) 3 = true ∧ yardState (markBlock y b s) y ≠ 0 := by
  unfold markBlock
  extract_lets s1 s2
  have bit : flag s1 (0x1000 * y + 0xFF4) b = true := flag_wrFlag_same _ _ _ _ hb
  have limited : onlyChanges [] (fun id => id == 0x1000 * y + 0xFF2) s1 s2 := .opt .refl fun _ => .wrFld .refl
  have state : fld s2 (0x1000 * y + 0xFF2) 1 0 ≠ 0 := by
    unfold s2
    split
    · rw [fld_wrFld_same _ _ _ _ _ (by decide)]
      decide
    · assumption
  generalize hs3 : (if fld s2 (0x1000 * y + 0xFF3) 15 8 = 0xFF then wrFld s2 (0x1000 * y + 0xFF3) 15 8 b else s2) = s3
  have named : onlyChanges [] (fun id => id == 0x1000 * y + 0xFF3) s2 s3 := hs3 ▸ .opt .refl fun _ => .wrFld .refl
  refine ⟨?_, flag_sticky_same _ _ _ (by decide), ?_⟩
  · rw [blockFenced, flag_congr (rd_sticky_other _ _ (by simp)), flag_congr (named.rd (by simp)),
      flag_congr (limited.rd (by simp))]
    exact bit
  · rw [yardState, fld_congr (rd_sticky_other _ _ (by simp)), fld_congr (named.rd (by simp))]
    exact state

/-- A fenced yard: its state, its cause and its sticky bit, beside the marks of its blocks. -/
theorem markYard_marks (y n : Nat) (s : State) : yardState (markYard y n s) y = 2 ∧
    fld (markYard y n s) (0x1000 * y + 0xFF3) 3 0 = n % 16 ∧ flag (markYard y n s) (0x1000 * y + 0xFF5) 4 = true ∧
    rd (markYard y n s) (0x1000 * y + 0xFF4) = rd s (0x1000 * y + 0xFF4) ∧
    (∀ i < 32, flag s (0x1000 * y + 0xFF5) i = true → flag (markYard y n s) (0x1000 * y + 0xFF5) i = true) := by
  unfold markYard
  refine ⟨?_, ?_, flag_sticky_same _ _ _ (by decide), ?_, fun i hi h => flag_sticky_of_flag _ _ _ hi ?_⟩
  · rw [yardState, fld_congr (rd_sticky_other _ _ (by simp)), fld_congr (rd_wrFld_other _ _ _ _ (by simp)),
      fld_wrFld_same _ _ _ _ _ (by decide)]
    rfl
  · rw [fld_congr (rd_sticky_other _ _ (by simp)), fld_wrFld_same _ _ _ _ _ (by decide)]
    rfl
  · rw [rd_sticky_other _ _ (by simp), rd_wrFld_other _ _ _ _ (by simp), rd_wrFld_other _ _ _ _ (by simp)]
  · rw [flag_congr (rd_wrFld_other _ _ _ _ (by simp)), flag_congr (rd_wrFld_other _ _ _ _ (by simp))]
    exact h

/-- What follows the marks of a fence leaves the health registers. -/
theorem marks_kept {y k : Nat} (h : onlyChanges P (fun id => anyEventId id || id == 0x1004) s t) (hk : 0xFF0 ≤ k := by decide)
    (hk' : k ≤ 0xFFF := by decide) : rd t (0x1000 * y + k) = rd s (0x1000 * y + k) :=
  h.rd (by
    rw [anyEventId_health hk hk', Bool.false_or, beq_eq_false_iff_ne]
    omega)

/-- A fenced yard is in state 2 of its health registers, and the marks of its blocks stay. -/
theorem fenceYard_marks (y n : Nat) (s : State) : yardState (fenceYard y n s) y = 2 ∧
    rd (fenceYard y n s) (0x1000 * y + 0xFF4) = rd s (0x1000 * y + 0xFF4) ∧
    (∀ i < 32, flag s (0x1000 * y + 0xFF5) i = true → flag (fenceYard y n s) (0x1000 * y + 0xFF5) i = true) := by
  cases h : yardFenced s y
  case true =>
    rw [fenceYard_of_fenced h]
    exact ⟨by simpa [yardFenced] using h, rfl, fun _ _ hi => hi⟩
  case false =>
    have hm := fenceYard_marked (n := n) h
    obtain ⟨state, -, -, blocks, bits⟩ := markYard_marks y n s
    refine ⟨(fld_congr (marks_kept hm)).trans state, (marks_kept hm).trans blocks, fun i hi hb => ?_⟩
    exact (flag_congr (marks_kept hm)).trans (bits i hi hb)

/-- A fenced block, and its yard where the block is critical. -/
theorem fenceBlock_marks {y b : Nat} (hb : b < 32) (s : State) : blockFenced (fenceBlock y b s) y b = true ∧
    flag (fenceBlock y b s) (0x1000 * y + 0xFF5) 3 = true ∧ yardState (fenceBlock y b s) y ≠ 0 ∧
    (criticalBlock y b = true → yardState (fenceBlock y b s) y = 2) := by
  obtain ⟨t, ht, h⟩ := fenceBlock_marked y b s
  have ht' : onlyChanges fenceParts (fun id => anyEventId id || id == 0x1004) (markBlock y b s) t := ht.step .refl
  obtain ⟨bit, noted, state⟩ := markBlock_marks hb s
  have bit' : blockFenced t y b = true := (flag_congr (marks_kept ht')).trans bit
  have noted' : flag t (0x1000 * y + 0xFF5) 3 = true := (flag_congr (marks_kept ht')).trans noted
  rw [h]
  split
  next hc =>
    obtain ⟨fenced, blocks, bits⟩ := fenceYard_marks y 1 t
    exact ⟨(flag_congr blocks).trans bit', bits 3 (by decide) noted', by simp [fenced], fun _ => fenced⟩
  next hc =>
    exact ⟨bit', noted', fun h0 => state ((fld_congr (marks_kept ht')).symm.trans h0), fun h => absurd h hc⟩

/-- What a fault leaves beside the block and its yard: of the beat flow, the lane's state and from cycle 656 000 the permit. -/
theorem execBlockFault_next (c : Nat) (y : Fin 8) (b : Fin 32) (s : State) : ∃ t, execBlockFault c y b s = .next t ∧
    t.regs = (blockFault y b.val true (advance c s)).regs ∧ t.yards = (blockFault y b.val true (advance c s)).yards ∧
    (beatFlowBlock y b = true → t.twin.laneValid = false ∧
      (beatCycle (blockFault y b.val true (advance c s)) 656000 ≤ (blockFault y b.val true (advance c s)).clk.cycle →
        t.twin.permit = false)) := by
  unfold execBlockFault
  extract_lets u
  cases hb : beatFlowBlock y b
  case true => exact ⟨_, rfl, rfl, rfl, fun _ => ⟨rfl, fun h => by simpa using fun _ => h⟩⟩
  case false => exact ⟨settleLine u, rfl, settleLine_regs u, settleLine_yards u, by simp⟩

theorem beatFlowBlock_of {y : Fin 8} {b : Fin 32} (hy : y = 2 ∨ y = 3) (hb : b.val ≤ 4) : beatFlowBlock y b = true := by
  rcases hy with rfl | rfl <;> simp [beatFlowBlock, hb]

theorem blockExists_of_beatFlow {y : Fin 8} {b : Fin 32} (h : beatFlowBlock y b = true) : blockExists y.val b.val = true := by
  simp only [beatFlowBlock, Bool.and_eq_true, decide_eq_true_eq] at h
  have hb := h.2
  simp only [blockExists, Bool.not_eq_true', Bool.and_eq_false_iff, decide_eq_false_iff_not]
  omega

/-- A reset that ends brings its block back, and the faults of the yard's blocks stay. -/
theorem execBlockResetDone_due {y : Fin 8} {b : Fin 32} {x : Nat × Nat}
    (hx : (vget s.yards y).inReset.find? (·.1 == b.val) = some x) : ∃ t, execBlockResetDone y b s = .next t ∧
    t.yards = vset s.yards y { vget s.yards y with inReset := (vget s.yards y).inReset.filter (·.1 != b.val) } ∧
    t.clk = (advance x.2 s).clk := by
  unfold execBlockResetDone
  simp only [hx]
  exact ⟨_, rfl, by simp, settleLine_clk _⟩

theorem advance_beatBase (c : Nat) (s : State) : (advance c s).clk.beatBase = s.clk.beatBase := by
  unfold advance
  split <;> rfl

theorem execBlockFault_of_not_exists {c : Nat} {y : Fin 8} {b : Fin 32} (h : blockExists y.val b.val = false) :
    execBlockFault c y b s = .next (settleLine (advance c s)) := by
  have away : beatFlowBlock y b = false := by
    by_contra hb
    simp [blockExists_of_beatFlow (by simpa using hb)] at h
  unfold execBlockFault
  rw [away, blockFault_of_not_exists h]
  rfl

theorem advance_mains (c : Nat) (s : State) : (advance c s).power.mains = s.power.mains := by
  unfold advance
  split <;> rfl

theorem advance_dc (c : Nat) (s : State) : (advance c s).power.dc = s.power.dc := by
  unfold advance
  split <;> rfl

theorem blockFenced_congr {y b : Nat} (h : t.regs = s.regs) : blockFenced t y b = blockFenced s y b :=
  flag_congr (rd_congr h _)

/-! ### Yards -/

theorem yardFenced_advance (c : Nat) (s : State) (y : Nat) : yardFenced (advance c s) y = yardFenced s y := by
  rw [yardFenced, yardState, fld_congr (rd_advance ..), ← yardState, ← yardFenced]

/-- A fenced yard other than PD1 is fenced again without effect. -/
theorem execYardFence_of_fenced {c : Nat} {y : Fin 8} {x : FenceCause} (h : yardFenced s y.val = true) (hy : y ≠ 1) :
    execYardFence c y x s = .next (settleLine (advance c s)) := by
  unfold execYardFence
  rw [fenceYard_of_fenced ((yardFenced_advance ..).trans h)]
  simp [hy]

theorem failSilent_enterFailSilent {n : Nat} (s : State) (h : n ≠ 0) : failSilent (enterFailSilent n s) = true := by
  unfold enterFailSilent
  split
  · assumption
  · simpa [failSilent] using h

theorem foldl_cutController (l : List Nat) (s : State) : (l.foldl (fun s b => cutController b s) s).twin = s.twin ∧
    (l.foldl (fun s b => cutController b s) s).power = s.power :=
  List.foldlRecOn (motive := fun t : State => t.twin = s.twin ∧ t.power = s.power) _ _ ⟨rfl, rfl⟩ fun _ ht _ _ => ht

/-- What the fence of a yard does beside its marks. -/
theorem fenceYard_effects {y n : Nat} (h : yardFenced s y = false) :
    (silencingYard y = true → failSilent (fenceYard y n s) = true) ∧
    (y = 0 → (fenceYard y n s).power.rtcValid = false) ∧ (y = 4 → (fenceYard y n s).time.pps = false) ∧
    (y ≠ 0 → (fenceYard y n s).power = s.power) := by
  unfold fenceYard
  rw [if_neg (by simp [h])]
  extract_lets _ s1 s2 s3
  have silent : silencingYard y = true → failSilent s3 = true := fun hy => by
    unfold s3
    rw [if_pos hy]
    exact failSilent_enterFailSilent _ (by omega)
  have power : s3.power = s.power := by
    unfold s3
    split <;> simp [s2, s1]
  obtain ⟨twin, kept⟩ := foldl_cutController (List.range 4) s3
  by_cases h0 : y = 0
  · simp [h0, silencingYard]
  · by_cases h7 : y = 7
    · rw [if_neg h0, if_pos h7]
      exact ⟨fun hy => by rw [failSilent, twin]; exact silent hy, fun e => absurd e h0, by omega, fun _ => kept.trans power⟩
    · by_cases h4 : y = 4
      · rw [if_neg h0, if_neg h7, if_pos h4]
        exact ⟨by simp [h4, silencingYard], fun e => absurd e h0, fun _ => rfl, fun _ => power⟩
      · rw [if_neg h0, if_neg h7, if_neg h4]
        exact ⟨silent, fun e => absurd e h0, fun e => absurd e h4, fun _ => power⟩

/-- What a fence of a yard in service leaves, before the port's lines settle or the module loses its supply. -/
theorem fenceYard_unfenced {y : Fin 8} {x : FenceCause} (h : yardFenced s y.val = false) :
    yardState (fenceYard y.val (causeCode x) s) y.val = 2 ∧
    fld (fenceYard y.val (causeCode x) s) (0x1000 * y.val + 0xFF3) 3 0 = causeCode x ∧
    flag (fenceYard y.val (causeCode x) s) (0x1000 * y.val + 0xFF5) 4 = true := by
  have hm := fenceYard_marked (n := causeCode x) h
  obtain ⟨state, cause, bit, -, -⟩ := markYard_marks y.val (causeCode x) s
  refine ⟨(fld_congr (marks_kept hm)).trans state, ((fld_congr (marks_kept hm)).trans cause).trans ?_,
    (flag_congr (marks_kept hm)).trans bit⟩
  cases x <;> rfl

/-- A yard's fence leaves the state of the fenced yard, or with the loss of PD1's supply the module in RETAIN. -/
theorem execYardFence_next (c : Nat) (y : Fin 8) (x : FenceCause) (s : State) : ∃ t, execYardFence c y x s = .next t ∧
    t.regs = (fenceYard y.val (causeCode x) (advance c s)).regs ∧
    t.twin = (fenceYard y.val (causeCode x) (advance c s)).twin ∧
    t.time = (fenceYard y.val (causeCode x) (advance c s)).time ∧
    t.power.rtcValid = (fenceYard y.val (causeCode x) (advance c s)).power.rtcValid ∧
    (y = 1 → x = .supply → (fenceYard y.val (causeCode x) (advance c s)).power.mains = false →
      (fenceYard y.val (causeCode x) (advance c s)).power.dc = false → t.power.mode = .retain ∧ t.clk.core = false) := by
  unfold execYardFence
  extract_lets u
  split
  next hc => exact ⟨_, rfl, rfl, rfl, rfl, rfl, fun _ _ _ _ => ⟨rfl, rfl⟩⟩
  next hc =>
    refine ⟨settleLine u, rfl, settleLine_regs u, settleLine_twin u, settleLine_time u, by rw [settleLine_power], ?_⟩
    rintro rfl rfl hm hd
    exact absurd (by simpa [u] using ⟨hm, hd⟩) hc

end

/-- Settles O49: what the four health events leave, by the lemmas on the scrub, on the fault of a block and on the fence of a
yard. -/
theorem healthEvents : Obligations.HealthEvents := by
  refine ⟨fun y mem s => ?_, fun y mem s => ?_, fun y mem s h => ?_, fun c y b s hf he hr => ?_, fun c y b s hf he hr => ?_,
    fun c y b s hf => ?_, fun c y b s he => ?_, fun y b x s hx => ?_, fun c y x s h => ?_, fun c y x s h hy => ?_⟩
  -- SCRUB_READ without an error
  · exact ⟨_, rfl, scrubWord_scrubNext .., fun m hm => scrubPlace_scrubNext_other s hm, fun x hx hc => le_scrubNext hx hc,
      scrubNext_poison .., scrubNext_regs ..⟩
  -- SCRUB_READ with a corrected error
  · refine ⟨_, rfl, (scrubWord_congr (by simp)).trans (scrubWord_scrubNext ..), ?_, flag_sticky_same _ _ _ (by decide), ?_⟩
    · rw [fld_congr (rd_sticky_other _ _ (by simp)), fld_bump_same _ _ _ _ _ (by decide),
        fld_congr (rd_congr (scrubNext_regs ..) _)]
    · simpa using scrubNext_poison y mem s
  -- SCRUB_READ with a double error
  · have hp : (scrubNext y mem s).poison.contains (memoryStall y.val mem (scrubWord s y mem)) = false := by
      rw [scrubNext_poison, h]
    obtain ⟨t, ht, poison, count, bit, event⟩ := poisonStall_unmarked (y := y.val) hp
    refine ⟨t, congrArg _ ht, poison.trans (by rw [scrubNext_poison]), count.trans ?_, bit, fun hc => event ?_⟩
    · rw [fld_congr (rd_congr (scrubNext_regs ..) _)]
    · rw [scrubNext_core, hc]
  -- BLOCK_FAULT of a block in service, for the first time
  · obtain ⟨u, hu, retry, reset, count, bit, service, clk⟩ := blockFault_first (due := true)
      ((blockFenced_congr (advance_regs c s)).trans hf) he (by rw [advance_yards, hr])
    obtain ⟨t, ht, regs, yards, flow⟩ := execBlockFault_next c y b s
    rw [hu] at regs yards flow
    refine ⟨t, ht, ?_, ?_, ?_, ?_, ?_, fun hy hb => ?_⟩
    · rw [yards, retry, advance_yards]
    · rw [yards, reset, advance_yards]
    · rw [fld_congr (rd_congr regs _), count, fld_congr (rd_advance ..)]
    · rw [flag_congr (rd_congr regs _), bit]
    · rw [blockFenced_congr regs, service]
    · obtain ⟨lane, permit⟩ := flow (beatFlowBlock_of hy hb)
      refine ⟨lane, fun hl => permit ?_⟩
      rw [beatCycle, clk, advance_beatBase]
      exact hl
  -- BLOCK_FAULT of a block that is being tried again
  · obtain ⟨u, -, hu⟩ := blockFault_retried (due := true) ((blockFenced_congr (advance_regs c s)).trans hf) he
      (by rw [advance_yards, hr])
    obtain ⟨fenced, bit, state, critical⟩ := fenceBlock_marks b.isLt u
    obtain ⟨t, ht, regs, -, -⟩ := execBlockFault_next c y b s
    rw [hu] at regs
    refine ⟨t, ht, (blockFenced_congr regs).trans fenced, (flag_congr (rd_congr regs _)).trans bit, ?_, fun hc => ?_⟩
    · rw [yardState, fld_congr (rd_congr regs _)]
      exact state
    · exact (fld_congr (rd_congr regs _)).trans (critical hc)
  -- BLOCK_FAULT of a fenced block
  · obtain ⟨t, ht, regs, yards, -⟩ := execBlockFault_next c y b s
    rw [blockFault_of_fenced ((blockFenced_congr (advance_regs c s)).trans hf)] at regs yards
    exact ⟨t, ht, by rw [yards, advance_yards], by rw [regs, advance_regs]⟩
  -- BLOCK_FAULT of a block that PD2 and PD3 do not have
  · exact ⟨_, execBlockFault_of_not_exists he, rfl⟩
  -- BLOCK_RESET_DONE
  · obtain ⟨t, ht, yards, clk⟩ := execBlockResetDone_due hx
    refine ⟨t, ht, by simp [yards], by simp [yards], fun hc => ?_⟩
    rw [clk]
    exact le_advance _ _ hc
  -- YARD_FENCE of a yard in service
  · obtain ⟨t, ht, regs, twin, time, rtc, retain⟩ := execYardFence_next c y x s
    have hu := (yardFenced_advance c s y.val).trans h
    obtain ⟨state, cause, bit⟩ := fenceYard_unfenced (x := x) hu
    obtain ⟨silent, clock, pps, power⟩ := fenceYard_effects (n := causeCode x) hu
    refine ⟨t, ht, (fld_congr (rd_congr regs _)).trans state, (fld_congr (rd_congr regs _)).trans cause,
      (flag_congr (rd_congr regs _)).trans bit, fun h0 h4 => ?_, fun h0 => ?_, fun h4 => ?_, fun h1 hx hm hd => ?_⟩
    · rw [failSilent, twin]
      exact silent (by simp [silencingYard, Fin.val_eq_zero_iff, h0]; omega)
    · rw [rtc, clock (by simp [h0])]
    · rw [time, pps (by simp [h4])]
    · have kept := power (by simp [h1])
      exact retain h1 hx (by rw [kept, advance_mains, hm]) (by rw [kept, advance_dc, hd])
  -- YARD_FENCE of a fenced yard
  · exact ⟨_, execYardFence_of_fenced h hy, rfl⟩

end Sys2Proof.Machine
end

section
/-! SUPPORT. The frame of the tick edge (02 R53, R62, 11 R323), and of the operations of the barrier links and the servo engine. -/
set_option Elab.async false

namespace Sys2Proof.Machine

section
variable {P : List Part} {I : Nat → Bool} {s t u : State} {r : State × List (Nat × Nat)}

/-! ### A state with the events to raise in it -/

/-- An effect within a frame that leaves the events of its edge to be raised, each of a number that 17 R498 knows. -/
def reporting (P : List Part) (I : Nat → Bool) (s : State) (r : State × List (Nat × Nat)) : Prop :=
  onlyChanges P I s r.1 ∧ ∀ e ∈ r.2, e.1 < 128

theorem reporting.start : reporting P I s (s, []) := ⟨.refl, by simp⟩

/-- A further effect of the frame, with no event. -/
theorem reporting.step {l : List (Nat × Nat)} (h : reporting P I s (t, l)) (k : onlyChanges P I t u) : reporting P I s (u, l) := by
  obtain ⟨kept, known⟩ := h
  exact ⟨kept.trans k, known⟩

/-- One event more. -/
theorem reporting.event {n a : Nat} {l : List (Nat × Nat)} (h : reporting P I s (t, l)) (hn : n < 128 := by decide) :
    reporting P I s (t, l ++ [(n, a)]) := by
  obtain ⟨kept, known⟩ := h
  refine ⟨kept, fun e he => ?_⟩
  rcases List.mem_append.1 he with he | he
  · exact known e he
  · rw [List.mem_singleton.1 he]
    exact hn

/-- One event more where a condition holds. -/
theorem reporting.eventIf {n a : Nat} {l : List (Nat × Nat)} {c : Prop} [Decidable c] (h : reporting P I s (t, l))
    (hn : n < 128 := by decide) : reporting P I s (t, if c then l ++ [(n, a)] else l) := by
  split
  · exact h.event hn
  · exact h

theorem reporting.ite {c : Prop} [Decidable c] {q : State × List (Nat × Nat)} (h : reporting P I s r) (k : reporting P I s q) :
    reporting P I s (if c then r else q) := by split <;> assumption

theorem reporting.foldl {α : Type} {l : List α} {f : State × List (Nat × Nat) → α → State × List (Nat × Nat)}
    (h : reporting P I s r) (hf : ∀ q, ∀ a ∈ l, reporting P I s q → reporting P I s (f q a)) :
    reporting P I s (l.foldl f r) :=
  List.foldlRecOn l f h fun q hq a ha => hf q a ha hq

/-! ### Blocks of the field yards -/

/-- A block that is not critical, of a yard that holds neither CAN controllers nor channels of the baseband, is fenced alone. -/
theorem fenceBlock_alone {y b : Nat} (s : State) (hc : criticalBlock y b = false) (h4 : y ≠ 4) (h7 : y ≠ 7) :
    fenceBlock y b s = raise 2 (y + 256 * b + 0x2000) (markBlock y b s) := by
  simp [fenceBlock, markBlock, hc, h4, h7]

/-- The registers that a fault of a link of PD6 may change. -/
@[simp] def pd6Ids (id : Nat) : Bool := anyEventId id || idsIn 0x6FF2 0x6FF6 id

theorem blockFault_pd6_only (b : Nat) (due : Bool) (s : State) :
    onlyChanges [.yards, .line, .ev] pd6Ids s (blockFault 6 b due s) := by
  have marked : ∀ t, onlyChanges [] pd6Ids t (markBlock 6 b t) := fun _ =>
    .sticky (.opt (.opt (.wrFlag .refl) fun _ => .wrFld .refl) fun _ => .wrFld .refl)
  unfold blockFault
  dsimp only
  refine .ite .refl (.ite ?_ (.raise (.sticky (.bump (.set rfl .refl)))))
  rw [fenceBlock_alone _ rfl (by decide) (by decide)]
  exact .raise ((marked _).step (.set rfl .refl))

/-! ### The tick edge -/

/-- The parts that a barrier link may change at a tick edge. -/
def linkParts : List Part := [.field, .yards, .line, .ev]

/-- The registers that the barrier links may change at a tick edge. -/
def linkIds (id : Nat) : Bool :=
  anyEventId id || ((idsIn 0x6005 0x62F6 id && (id % 16 == 5 || id % 16 == 6)) ||
    [0x6402, 0x6403, 0x6405, 0x6412, 0x6413, 0x6415].contains id || idsIn 0x6FF2 0x6FF6 id)

theorem linkIds_chSticky {ch : Nat} (h : ch < 48) : linkIds (0x6005 + 16 * ch) = true := by
  have : (0x6005 + 16 * ch) % 16 = 5 := by omega
  simp [linkIds, this]
  omega

theorem linkIds_chFaultCount {ch : Nat} (h : ch < 48) : linkIds (0x6005 + 16 * ch + 1) = true := by
  have : (0x6005 + 16 * ch + 1) % 16 = 6 := by omega
  simp [linkIds, this]
  omega

theorem linkIds_bank {b id : Nat} (h : b < 2)
    (hid : id = 0x6402 + 16 * b ∨ id = 0x6403 + 16 * b ∨ id = 0x6405 + 16 * b) : linkIds id = true := by
  simp [linkIds]
  omega

theorem linkIds_of_pd6Ids (id : Nat) (h : pd6Ids id = true) : linkIds id = true := by
  simp only [pd6Ids, Bool.or_eq_true] at h
  simp only [linkIds, Bool.or_eq_true]
  exact h.imp_right .inr

theorem field_only (x : Field) (s : State) : onlyChanges [.field] noId s { s with field := x } := .set rfl .refl

theorem updBank_only (b : Nat) (f : BankUnit → BankUnit) (s : State) : onlyChanges [.field] noId s (updBank b f s) := field_only ..

theorem updChans_only (b : Nat) (f : Nat → ChanUnit → ChanUnit) (s : State) :
    onlyChanges [.field] noId s (updChans b f s) := field_only ..

theorem updField_only (ch : Nat) (f : ChanUnit → ChanUnit) (s : State) : onlyChanges [.field] noId s (updField ch f s) :=
  field_only ..

theorem reportChan_reporting {c : ChanUnit} {ch : Nat} (hch : ch < 48) (h : reporting linkParts linkIds s r) :
    reporting linkParts linkIds s (reportChan c ch r) := by
  unfold reportChan
  extract_lets u n b u1
  have noted : reporting linkParts linkIds s (u1, r.2) := h.step (.optNot .refl fun _ => .wr .refl (linkIds_chSticky hch))
  exact .ite (.event (noted.step (.bump .refl (linkIds_chFaultCount hch)))) (.ite (.event noted) noted)

theorem badFrames_reporting {b n : Nat} {ret : Bool} (hb : b < 2) (h : reporting linkParts linkIds s r) :
    reporting linkParts linkIds s (badFrames b n ret r) := by
  unfold badFrames
  extract_lets blk k u
  have noted : reporting linkParts linkIds s (u, r.2) :=
    h.step (.sticky (.bump .refl (linkIds_bank hb (by omega))) (linkIds_bank hb (by omega)))
  exact .ite h (.ite noted (.event (noted.step ((updBank_only ..).step .refl))))

theorem reportSafe_reporting {b : Nat} (hb : b < 2) (h : reporting linkParts linkIds s r) :
    reporting linkParts linkIds s (reportSafe b r) := by
  unfold reportSafe
  extract_lets u t1 t2 t3
  have shown : reporting linkParts linkIds s (t1, r.2) := h.step ((updBank_only ..).step .refl)
  refine .ite h (.ite (.event shown) (.event (shown.step (.foldl ?_ fun v i hi => ?_))))
  · exact .opt (.sticky .refl (linkIds_bank hb (by omega))) fun _ =>
      .wrFlag .refl (linkIds_bank hb (by omega))
  · have := List.mem_range.1 hi
    exact .sticky .refl (linkIds_chSticky (by omega))

theorem linkLatch_reporting {b : Nat} {x : BankIn} (hb : b < 2) (h : reporting linkParts linkIds s r) :
    reporting linkParts linkIds s (linkLatch b x r) := by
  have bank : ∀ {t l} (f), reporting linkParts linkIds s (t, l) →
      reporting linkParts linkIds s (updBank b f t, l) := fun f h => h.step ((updBank_only b f _).step .refl)
  have delivered : ∀ {t l}, reporting linkParts linkIds s (t, l) →
      reporting linkParts linkIds s (operationDone 6 b t, l) := fun h => h.step ((operationDone_only 6 b _).step .refl)
  unfold linkLatch
  extract_lets s0 quieter s1 u s2 s3 q
  have quiet : reporting linkParts linkIds s (s1, r.2) := h.step ((updChans_only ..).step .refl)
  have latched : reporting linkParts linkIds s (s3, r.2) := (bank _ (delivered quiet)).step ((updChans_only ..).step .refl)
  have reported : reporting linkParts linkIds s q := by
    refine .foldl latched fun p i hi hp => reportChan_reporting ?_ hp
    have := List.mem_range.1 hi
    omega
  refine .ite (bank _ quiet) (.ite (bank _ quiet) (.ite (badFrames_reporting hb ?_) (.ite (bank _ (delivered quiet)) ?_)))
  · exact (bank _ quiet).step ((blockFault_pd6_only b false _).step .refl rfl linkIds_of_pd6Ids)
  · exact reportSafe_reporting hb (badFrames_reporting hb reported)

theorem servoFrame_only (b : Nat) (s : State) : onlyChanges [.field] noId s (servoFrame b s) := by
  unfold servoFrame
  exact updChans_only ..

theorem beatFrame_only (b : Nat) (s : State) : onlyChanges [.field] noId s (beatFrame b s) :=
  (updChans_only ..).step (updBank_only ..)

theorem linkSend_only (b : Nat) (x : BankIn) (s : State) : onlyChanges [.field] noId s (linkSend b x s) := by
  unfold linkSend
  extract_lets s1 s2
  have marked : onlyChanges [.field] noId s s1 := .ite (updBank_only ..) (updBank_only ..)
  have framed : onlyChanges [.field] noId s s2 := .ite ((updBank_only ..).step marked) ((servoFrame_only ..).step marked)
  exact .ite (updBank_only ..) (.ite (.ite ((updBank_only ..).step framed) ((beatFrame_only ..).step framed)) framed)

/-- The tick counter advances (02 R53). -/
def countTick (s : State) : State :=
  { s with clk := { s.clk with tick := (s.clk.tick + 1) % 2 ^ 32, tickBase := s.clk.tickBase + 25000 } }

/-- What the links do between the advance of the tick counter and the latch of the servo engine. -/
theorem execTickEdge_next (i : TickIn) (hc : s.clk.core = true) (ht : s.clk.ticks = true) : ∃ t,
    execTickEdge i s = .next (servoLatch t) ∧ onlyChanges (.filt :: linkParts) linkIds (countTick s) t := by
  unfold execTickEdge
  rw [if_neg (by simp [hc, ht])]
  extract_lets _ c s1 q bad carry _ _ s2 s3 s4
  refine ⟨s4, rfl, ?_⟩
  obtain ⟨latched, known⟩ : reporting linkParts linkIds s1 q :=
    linkLatch_reporting (by decide) (linkLatch_reporting (by decide) .start)
  have counted : onlyChanges (.filt :: linkParts) linkIds (countTick s) s1 := .advance .refl
  have seen : onlyChanges (.filt :: linkParts) linkIds (countTick s) s2 :=
    .set rfl (latched.step counted rfl fun _ => id)
  have raised : onlyChanges (.filt :: linkParts) linkIds (countTick s) s3 :=
    .raiseAll (.advance seen) known rfl (by simp +contextual [linkIds])
  exact (linkSend_only ..).step ((linkSend_only ..).step raised)

theorem servo_only (x : Servo) (s : State) : onlyChanges [.servo] noId s { s with servo := x } := .set rfl .refl

theorem servoLatch_only (s : State) : onlyChanges [.servo] noId s (servoLatch s) := servo_only ..

theorem execTickEdge_framed (i : TickIn) (s : State) : framed [.clk, .yards, .filt, .field, .servo, .line, .ev] linkIds s
    (execTickEdge i s) := by
  by_cases h : (!s.clk.ticks || !s.clk.core) = true
  · rw [execTickEdge, if_pos h]
    exact .next .refl
  · obtain ⟨ht, hc⟩ : s.clk.ticks = true ∧ s.clk.core = true := by simpa using h
    obtain ⟨t, hx, linked⟩ := execTickEdge_next i hc ht
    rw [hx]
    exact .next ((servoLatch_only t).step (linked.step (.set rfl .refl) rfl fun _ => id))

/-! ### The servo engine -/

theorem updAxis_only (a : Nat) (f : AxisUnit → AxisUnit) (s : State) : onlyChanges [.servo] noId s (updAxis a f s) := servo_only ..

theorem forwardAxis_only (a : Nat) (e : Option (Nat × Nat)) (s : State) : onlyChanges [.servo] noId s (forwardAxis a e s) := by
  unfold forwardAxis
  split
  · exact .ite .refl (servo_only ..)
  · exact .refl

theorem alc_only (x : Alloc) (s : State) : onlyChanges [.alc] noId s { s with alc := x } := .set rfl .refl

theorem settleThrusters_only (s : State) : onlyChanges [.alc] noId s (settleThrusters s) := alc_only ..

theorem servoCommit_only (l : List Nat) (s : State) : onlyChanges [.arb] noId s (servoCommit l s) := noteCommit_only ..

end

end Sys2Proof.Machine
end

section
/-! SUPPORT. The frames of the servo, field channel and filter events (10 R300-R312, 11 R325-R347, 12 R360-R373), and of the
operations that they share. -/
set_option Elab.async false

namespace Sys2Proof.Machine

section
variable {P : List Part} {I : Nat → Bool} {s t u : State}

/-! ### The servo engine -/

/-- What the registration of a tick leaves of an axis (10 R300, R317). -/
def registerAxis (s : State) (a : Fin 48) : AxisUnit :=
  let x := axisTick s a.val (execServoRegister.faulted s a.val (vget s.servo.axes a))
  showAxis { x with satBlk := if x.sat then some (block100 s) else x.satBlk, onEv := none }

/-- The registers that the registration of a tick may change. -/
@[simp] def registerIds (id : Nat) : Bool := anyEventId id || isAxisState id

theorem forwardAxis_axes (a : Nat) (e : Option (Nat × Nat)) (s : State) : (forwardAxis a e s).servo.axes = s.servo.axes := by
  unfold forwardAxis
  split
  · split <;> rfl
  · rfl

theorem foldl_axes {α : Type} {f : State → α → State} (l : List α) (s : State)
    (hf : ∀ t a, (f t a).servo.axes = t.servo.axes) : (l.foldl f s).servo.axes = s.servo.axes :=
  List.foldlRecOn (motive := fun t => t.servo.axes = s.servo.axes) l f rfl fun _ ht _ _ => (hf ..).trans ht

theorem execServoRegister_next (hc : s.clk.core = true) (ht : s.clk.ticks = true) : ∃ t,
    execServoRegister s = .next t ∧ onlyChanges [.arb, .servo, .line, .ev, .yards] registerIds s t ∧
    t.servo.axes = Vector.ofFn (registerAxis (advance (tickCycle s 15560) s)) := by
  unfold execServoRegister
  rw [if_neg (by simp [hc, ht])]
  extract_lets s0 old blk new parks ons _ s1 mark s2 s3 s4 s5 sats
  have begun : onlyChanges [.arb, .servo, .line, .ev, .yards] registerIds s s1 := (servo_only ..).step (.advance .refl)
  have marked : onlyChanges [] registerIds s1 s2 := .foldl .refl fun v a ha => by
    have state : registerIds (0x500E + 16 * a) = true := by simp [isAxisState_of_lt (List.mem_range.1 ha)]
    exact .opt (.opt (.opt .refl fun _ => .sticky .refl state) fun _ => .sticky .refl state) fun _ => .sticky .refl state
  have committed : onlyChanges [.arb] registerIds s1 s3 := .ite (marked.step .refl rfl fun _ => id)
    ((servoCommit_only ..).step (marked.step .refl rfl fun _ => id))
  have parked : onlyChanges [.servo] noId s3 s4 := .foldl .refl fun _ _ _ => forwardAxis_only ..
  have joined : onlyChanges [.servo] noId s4 s5 := .foldl .refl fun _ _ _ => forwardAxis_only ..
  have known : ∀ e ∈ ons.map (fun x => (82, x.2)) ++ sats.map fun a => (83, a), e.1 < 128 := fun e he => by
    rcases List.mem_append.1 he with he | he
    all_goals
      obtain ⟨_, -, rfl⟩ := List.mem_map.1 he
      simp
  have raised : onlyChanges [.yards, .line, .ev] anyEventId s5 (raiseAll (ons.map (fun x => (82, x.2)) ++ sats.map fun a => (83, a))
      ((List.range 6).foldl (fun s g => operationDone 5 (16 + g) s) s5)) :=
    .raiseAll (.foldl .refl fun _ _ _ => (operationDone_only ..).step .refl) known rfl fun _ => id
  refine ⟨_, rfl, raised.step (joined.step (parked.step (committed.step begun rfl fun _ => id))), ?_⟩
  calc _ = s5.servo.axes := congrArg Servo.axes (raised.part .servo)
    _ = s4.servo.axes := foldl_axes _ _ fun _ _ => forwardAxis_axes ..
    _ = s3.servo.axes := foldl_axes _ _ fun _ _ => forwardAxis_axes ..
    _ = s1.servo.axes := congrArg Servo.axes (committed.part .servo)
    _ = _ := rfl

theorem execServoRegister_framed (s : State) :
    framed [.arb, .servo, .line, .ev, .yards] registerIds s (execServoRegister s) := by
  by_cases h : (!s.clk.ticks || !s.clk.core) = true
  · rw [execServoRegister, if_pos h]
    exact .next .refl
  · obtain ⟨ht, hc⟩ : s.clk.ticks = true ∧ s.clk.core = true := by simpa using h
    obtain ⟨t, hx, kept, -⟩ := execServoRegister_next hc ht
    exact ⟨t, hx, kept⟩

/-- The registers that the fault of an axis may change. -/
@[simp] def axisFaultIds (a : Fin 48) (id : Nat) : Bool := anyEventId id || (id == 0x500F + 16 * a.val || isAxisState id)

theorem execAxisFault_framed (a : Fin 48) (s : State) :
    framed [.arb, .servo, .alc, .line, .ev] (axisFaultIds a) s (execAxisFault a s) := by
  unfold execAxisFault
  extract_lets x code s0 c group arg s1 s2 s3 s4
  have begun : onlyChanges [.arb, .servo, .alc, .line, .ev] (axisFaultIds a) s s0 := .advance .refl
  have dropped : onlyChanges [.arb, .servo, .alc, .line, .ev] (axisFaultIds a) s s1 :=
    .opt begun fun _ => (dropPending_only ..).step .refl
  have faulted : onlyChanges [.arb, .servo, .alc, .line, .ev] (axisFaultIds a) s s4 :=
    .bump (.sticky ((servoCommit_only ..).step ((updAxis_only ..).step dropped)) (by simp [isAxisState_of_lt a.isLt]))
  exact .ite (.next .refl) (.ite (.next ((settleThrusters_only _).step (.raise ((forwardAxis_only ..).step faulted))))
    (.ite (.next begun) (.next (.raise ((updAxis_only ..).step begun)))))

theorem execAxisShutdownComplete_framed (a : Fin 48) (s : State) :
    framed [.arb, .servo, .alc, .line, .ev] anyEventId s (execAxisShutdownComplete a s) :=
  .ite (.next .refl) (.next ((settleThrusters_only _).step (.raise ((forwardAxis_only ..).step ((servoCommit_only ..).step
    ((updAxis_only ..).step (.advance .refl)))) (by decide) rfl fun _ => id)))

theorem execAxisCommandEffect_framed (a : Fin 48) (s : State) :
    framed [.arb, .servo, .alc] (fun _ => false) s (execAxisCommandEffect a s) := by
  unfold execAxisCommandEffect
  extract_lets x s0 c s1 mates goTo
  split
  · exact .next .refl
  · extract_lets waits
    have begun : onlyChanges [.arb, .servo, .alc] (fun _ => false) s s1 := (updAxis_only ..).step (.advance .refl)
    have gone : ∀ f, framed [.arb, .servo, .alc] (fun _ => false) s (goTo f) := fun f =>
      .next ((settleThrusters_only _).step ((servoCommit_only ..).step ((updAxis_only ..).step begun)))
    exact .ite (.next .refl) (.ite (.next begun) (.ite (.ite (.next begun) (gone _)) (.ite (.ite (gone _) (.next begun))
      (.ite (gone _) (.ite (gone _) (.next ((settleThrusters_only _).step begun)))))))

theorem execPendingEnableEffect_framed (a : Fin 48) (s : State) :
    framed [.arb, .servo, .alc] (fun _ => false) s (execPendingEnableEffect a s) := by
  unfold execPendingEnableEffect
  extract_lets x group busy s0 c enter s1 s2
  have begun : onlyChanges [.arb, .servo, .alc] (fun _ => false) s s2 :=
    (servoCommit_only ..).step ((updAxis_only ..).step (.advance .refl))
  refine .ite (.next .refl) ?_
  split
  · exact .next ((alc_only ..).step begun)
  · exact .next begun

/-! ### Field channels -/

theorem execDiagCommonEntry_framed (k : Fin 2) (s : State) : framed [.field, .line, .ev]
    (fun id => anyEventId id || (id == 0x6403 + 16 * k.val)) s (execDiagCommonEntry k s) :=
  .ite (.next .refl) (.next (.raise (.sticky ((updBank_only ..).step (.advance .refl)))))

theorem execDiagCommonExit_framed (k : Fin 2) (s : State) :
    framed [.field, .line, .ev] anyEventId s (execDiagCommonExit k s) :=
  .ite (.next .refl) (.next (.raise ((updBank_only ..).step (.advance .refl)) (by decide) rfl fun _ => id))

theorem execDiDebounce_framed (c : Fin 48) (s : State) : framed [.field] (fun _ => false) s (execDiDebounce c s) :=
  .ite (.next .refl) (.next ((updField_only ..).step (.advance .refl)))

theorem execDoOverloadCutoff_framed (c : Fin 48) (x : Bool) (s : State) :
    framed [.field] (fun _ => false) s (execDoOverloadCutoff c x s) :=
  .ite (.next .refl) (.next ((updField_only ..).step .refl))

theorem execDoRestart_framed (c : Fin 48) (s : State) : framed [.field] (fun _ => false) s (execDoRestart c s) :=
  .ite (.next .refl) (.next ((updField_only ..).step .refl))

theorem execBankSupplyChange_framed (k : Fin 2) (s : State) : framed [.field, .line, .ev]
    (fun id => anyEventId id || (id == 0x6403 + 16 * k.val)) s (execBankSupplyChange k s) :=
  .ite (.next .refl) (.next (.raise (.opt (.opt ((updBank_only ..).step (.advance .refl)) fun _ => .sticky .refl) fun _ =>
    .sticky .refl)))

theorem execBankOvercurrentTrip_framed (k : Fin 2) (s : State) : framed [.field, .line, .ev]
    (fun id => anyEventId id || [0x6402 + 16 * k.val, 0x6403 + 16 * k.val].contains id) s (execBankOvercurrentTrip k s) :=
  .ite (.next .refl) (.next (.raise (.sticky (.wrFlag ((updBank_only ..).step (.advance .refl))))))

theorem execSilenceTimeout_framed (k : Fin 2) (s : State) : framed [.field] (fun _ => false) s (execSilenceTimeout k s) :=
  .ite (.next .refl) (.next ((updChans_only ..).step ((updBank_only ..).step (.advance .refl))))

theorem execSilenceResume_framed (k : Fin 2) (s : State) : framed [.field] (fun _ => false) s (execSilenceResume k s) :=
  .ite (.next .refl) (.next ((updChans_only ..).step ((updBank_only ..).step (.advance .refl))))

theorem execModeChangeEffect_framed (c : Fin 48) (s : State) :
    framed [.field] (fun _ => false) s (execModeChangeEffect c s) := by
  unfold execModeChangeEffect
  split
  · exact .next .refl
  · exact .ite (.next .refl) (.next ((updField_only ..).step (.advance .refl)))

/-! ### Filters -/

/-- The registers that the lanes may change at a sinc output (12 R360). -/
def laneIds (id : Nat) : Bool := anyEventId id || (idsIn 0x5406 0x56F7 id && (id % 16 == 6 || id % 16 == 7))

theorem laneIds_lane {l id : Nat} (h : l < 48) (hid : id = 0x5400 + 16 * l + 6 ∨ id = 0x5400 + 16 * l + 7) :
    laneIds id = true := by
  simp [laneIds]
  omega

theorem filt_only (x : Filt) (s : State) : onlyChanges [.filt] noId s { s with filt := x } := .set rfl .refl

theorem laneStep_reporting {bits : BitVec 32} {ok : Bool} {phase : Int} {idx l : Nat} {r : State × List (Nat × Nat)} (hl : l < 48)
    (h : reporting [.filt, .line, .ev, .yards] laneIds s r) :
    reporting [.filt, .line, .ev, .yards] laneIds s (laneStep bits ok phase idx l r) := by
  have flt : laneIds (0x5400 + 16 * l + 6) = true := laneIds_lane hl (.inl rfl)
  have count : laneIds (0x5400 + 16 * l + 7) = true := laneIds_lane hl (.inr rfl)
  unfold laneStep
  extract_lets v _ _ _ _ _ _ _ _ put _ _ _ _ _ _ _ _ k _ _ v1 v2 v3
  have stored : ∀ w, onlyChanges [.filt, .line, .ev, .yards] laneIds v (put w v) := fun _ => (filt_only ..).step .refl
  have limited : onlyChanges [.filt, .line, .ev, .yards] laneIds v v3 :=
    .opt (.opt (stored _) fun _ => .bump (.sticky .refl flt) count) fun _ => .sticky .refl flt
  exact .ite (h.step (stored _)) (.eventIf (h.step (.opt limited fun _ => .sticky .refl flt)))

theorem execSincOutput_framed (x : SincIn) (s : State) :
    framed [.filt, .line, .ev, .yards] laneIds s (execSincOutput x s) := by
  unfold execSincOutput
  extract_lets _ s0 _ _ _ r s1 _ _ _ _ _
  have stepped : reporting [.filt, .line, .ev, .yards] laneIds s0 r := .foldl .start fun q l hl hq =>
    laneStep_reporting (List.mem_range.1 hl) hq
  obtain ⟨lanes, known⟩ := stepped
  have begun : onlyChanges [.filt, .line, .ev, .yards] laneIds s s1 := lanes.step (.advance .refl) rfl fun _ => id
  exact .ite (.next .refl) (.next (.raiseAll (.foldl ((filt_only ..).step begun) fun _ _ _ => (operationDone_only ..).step .refl)
    known rfl (by simp +contextual [laneIds])))

theorem execSettlingEnd_framed (l : Fin 48) (s : State) : framed [.filt] (fun _ => false) s (execSettlingEnd l s) :=
  .ite (.next .refl) (.next ((filt_only ..).step .refl))

theorem execSyncInEdge_framed (c : Nat) (r : Bool) (s : State) : framed [.filt, .line, .ev]
    (fun id => anyEventId id || [0x5409, 0x540A].contains id) s (execSyncInEdge c r s) :=
  .ite (.next (.advance .refl)) (.next ((syncEdge_only ..).step (.advance .refl)))

end

/-- Settles O53: the frame of each command's exec function, by the calculus of frames. -/
theorem fieldSideFrames : Obligations.FieldSideFrames :=
  ⟨execTickEdge_framed, execServoRegister_framed, execAxisFault_framed, execAxisShutdownComplete_framed,
    execAxisCommandEffect_framed, execPendingEnableEffect_framed, execDiagCommonEntry_framed, execDiagCommonExit_framed,
    execDiDebounce_framed, execDoOverloadCutoff_framed, execDoRestart_framed, execBankSupplyChange_framed,
    execBankOvercurrentTrip_framed, execSilenceTimeout_framed, execSilenceResume_framed, execModeChangeEffect_framed,
    execSincOutput_framed, execSettlingEnd_framed, execSyncInEdge_framed⟩

end Sys2Proof.Machine
end

section
/-! SUPPORT. What the events of the servo engine leave in the tick count and the axes (02 R53, R62, 10 R300-R312, 15 R450). -/
set_option Elab.async false

namespace Sys2Proof.Machine

section
variable {s t : State}

/-! ### Axes -/

theorem axisAt_val (s : State) (a : Fin 48) : axisAt s a.val = vget s.servo.axes a := by
  simp [axisAt, vgetD, vget, List.getD_eq_getElem?_getD]

theorem axisAt_congr (h : t.servo.axes = s.servo.axes) (a : Nat) : axisAt t a = axisAt s a := by
  rw [axisAt, h, ← axisAt]

theorem axisAt_of_ofFn {f : Fin 48 → AxisUnit} (h : t.servo.axes = Vector.ofFn f) (a : Fin 48) : axisAt t a.val = f a := by
  simp [axisAt_val, h, vget]

theorem updAxis_clk (a : Nat) (f : AxisUnit → AxisUnit) (s : State) : (updAxis a f s).clk = s.clk := rfl

theorem axisAt_updAxis_same (f : AxisUnit → AxisUnit) (s : State) (a : Fin 48) :
    axisAt (updAxis a.val f s) a.val = f (axisAt s a.val) := by
  simp [axisAt_val, updAxis, vupdN]

theorem axisAt_updAxis_other (f : AxisUnit → AxisUnit) (s : State) {a : Fin 48} {b : Nat} (h : b ≠ a.val) :
    axisAt (updAxis b f s) a.val = axisAt s a.val := by
  rw [axisAt_val, axisAt_val]
  unfold updAxis vupdN
  dsimp only
  split
  · exact vget_vupd_other _ _ _ _ (by rintro rfl; exact h rfl)
  · rfl

theorem isAxisState_faultCount (a : Nat) : isAxisState (0x500F + 16 * a) = false := by
  have : (0x500F + 16 * a) % 16 = 15 := by omega
  simp [isAxisState, this]

/-- A pending enable that is dropped leaves the rest of its axis. -/
theorem dropPending_uPrev (l : List Nat) (s : State) (a : Fin 48) :
    (axisAt (dropPending l s) a.val).uPrev = (axisAt s a.val).uPrev :=
  List.foldlRecOn (motive := fun t : State => (axisAt t a.val).uPrev = (axisAt s a.val).uPrev) l _ rfl fun t ht b _ => by
    split
    · rw [axisAt_congr (congrArg Servo.axes (sticky_servo ..)), ← ht]
      by_cases h : b = a.val
      · rw [h, axisAt_updAxis_same]
      · rw [axisAt_updAxis_other _ _ h]
    · exact ht

/-! ### The passing of time -/

theorem advance_core (c : Nat) (s : State) : (advance c s).clk.core = s.clk.core := core_of_same (advance_clk_same c s)

theorem advance_tick (c : Nat) (s : State) : (advance c s).clk.tick = s.clk.tick := by
  have hc := congrArg Clock.tick (advance_clk_same c s)
  exact hc

theorem axisAt_advance (c : Nat) (s : State) (a : Nat) : axisAt (advance c s) a = axisAt s a := axisAt_congr (by simp) a

theorem ownTransitions_advance (c : Nat) (s : State) : ownTransitions (advance c s) = ownTransitions s := by
  simp [ownTransitions, linkState]

theorem parkStarts_advance (c : Nat) (s : State) (a : Nat) (x : AxisUnit) : parkStarts (advance c s) a x = parkStarts s a x := by
  simp [parkStarts, ownTransitions_advance, thrustAtRest, axisAt_advance]

/-! ### An axis in a tick -/

theorem axisTick_tick (s : State) (a : Nat) (x : AxisUnit) : (axisTick s a x).tick = s.clk.tick := by
  unfold axisTick
  extract_lets c y runs n z fe near home w
  have seen : n.tick = s.clk.tick := rfl
  split
  · exact seen
  · split
    · split
      · exact seen
      · exact seen
    · exact seen

theorem axisTick_state (s : State) (a : Nat) (x : AxisUnit) :
    (axisTick s a x).state = if parkStarts s a x then 3 else x.state := by
  unfold axisTick
  extract_lets c y runs n z fe near home w
  have moved : y.state = if parkStarts s a x then 3 else x.state := by
    unfold y
    split <;> rfl
  rw [← moved]
  split
  · rfl
  · split
    · split <;> rfl
    · rfl

theorem not_parkStarts {a : Nat} {x : AxisUnit} (s : State) (h : x.state ≠ 2) : parkStarts s a x = false := by
  simp [parkStarts, h]

/-- An axis that is OFF commands 0 (10 R308). -/
theorem axisTick_off {a : Nat} {x : AxisUnit} (s : State) (h : x.state = 0) : (axisTick s a x).u = 0 := by
  unfold axisTick
  extract_lets c y runs n z fe near home w
  have stays : y = x := if_neg (by simp [not_parkStarts s (show x.state ≠ 2 by omega)])
  have off : runs = false := by simp [runs, stays, h]
  rw [off]
  exact if_neg (by simp [stays, h])

theorem controlLaw_u (l : List Int) (c : AxisCfg) (x : AxisUnit) :
    ∃ raw, (controlLaw l c x).u = f32Clamp (f32Neg c.outMax) c.outMax raw := ⟨_, rfl⟩

/-- An axis that is ACTIVE and not at a local fault commands what the control law limits to OUT_MAX (10 R302). -/
theorem axisTick_active {a : Nat} {x : AxisUnit} (s : State) (h : x.state = 1) (hl : x.locFault = false) :
    ∃ raw, (axisTick s a x).u = f32Clamp (f32Neg (axisCfg s.snap a).outMax) (axisCfg s.snap a).outMax raw := by
  unfold axisTick
  extract_lets c y runs n z fe near home w
  have stays : y = x := if_neg (by simp [not_parkStarts s (show x.state ≠ 2 by omega)])
  have active : runs = true := by simp [runs, stays, h]
  have sound : y.locFault = false := by rw [stays, hl]
  obtain ⟨raw, hr⟩ := controlLaw_u (vgetD s.servo.tables a []) c (referenceStep c (tickJ s) n)
  rw [active, sound]
  exact ⟨raw, hr⟩

/-! ### Tick edges -/

/-- A tick edge counts the tick, and of an axis changes what the engine latches (02 R53, R62). -/
theorem execTickEdge_servo (i : TickIn) (hc : s.clk.core = true) (ht : s.clk.ticks = true) : ∃ t,
    execTickEdge i s = .next t ∧ t.clk.tick = (s.clk.tick + 1) % 2 ^ 32 ∧ t.clk.tickBase = s.clk.tickBase + 25000 ∧
    t.servo.fwd = [] ∧
    ∀ a : Fin 48, (axisAt t a.val).state = (axisAt s a.val).state ∧ (axisAt t a.val).u = (axisAt s a.val).u := by
  obtain ⟨t, hx, linked⟩ := execTickEdge_next i hc ht
  have clk := linked.part .clk
  have servo : t.servo = s.servo := linked.part .servo
  refine ⟨_, hx, congrArg Clock.tick clk, congrArg Clock.tickBase clk, rfl, fun a => ?_⟩
  rw [axisAt_of_ofFn (t := servoLatch t) rfl, axisAt_val, servo]
  exact ⟨rfl, rfl⟩

/-- The registration of a tick (10 R300, R308). -/
theorem execServoRegister_axes (hc : s.clk.core = true) (ht : s.clk.ticks = true) : ∃ t,
    execServoRegister s = .next t ∧ ∀ a : Fin 48, (axisAt t a.val).tick = s.clk.tick ∧
    (axisAt t a.val).state = (if parkStarts s a.val (axisAt s a.val) then 3 else (axisAt s a.val).state) ∧
    ((axisAt s a.val).state = 0 → (axisAt t a.val).u = 0) ∧
    ((axisAt s a.val).state = 1 → (axisAt s a.val).locFault = false → ∃ raw : F32, (axisAt t a.val).u =
      f32Clamp (f32Neg (axisCfg s.snap a.val).outMax) (axisCfg s.snap a.val).outMax raw) := by
  obtain ⟨t, hx, -, axes⟩ := execServoRegister_next hc ht
  refine ⟨t, hx, fun a => ?_⟩
  have axis : vget (advance (tickCycle s 15560) s).servo.axes a = axisAt s a.val := by rw [← axisAt_val, axisAt_advance]
  rw [axisAt_of_ofFn axes]
  unfold registerAxis
  rw [axis]
  refine ⟨?_, ?_, fun h => ?_, fun h hl => ?_⟩
  · exact (axisTick_tick ..).trans (advance_tick ..)
  · exact (axisTick_state ..).trans (by rw [parkStarts_advance]; rfl)
  · exact axisTick_off _ h
  · obtain ⟨raw, hr⟩ := axisTick_active (advance (tickCycle s 15560) s) (a := a.val)
      (x := execServoRegister.faulted (advance (tickCycle s 15560) s) a.val (axisAt s a.val)) h hl
    exact ⟨raw, by rw [← advance_snap (tickCycle s 15560) s]; exact hr⟩

/-! ### Faults and completed shut-downs -/

/-- A transition of an axis is told: to the partner, as an event, and to the thruster of the axis. -/
def announceAxis (n arg a : Nat) (s : State) : State := settleThrusters (raise n arg (forwardAxis a (some (n, arg)) s))

theorem settleThrusters_regs (s : State) : (settleThrusters s).regs = s.regs := by
  unfold settleThrusters
  rfl

theorem settleThrusters_servo (s : State) : (settleThrusters s).servo = s.servo := by
  unfold settleThrusters
  rfl

theorem announceAxis_axes (n arg a : Nat) (s : State) : (announceAxis n arg a s).servo.axes = s.servo.axes := by
  rw [announceAxis, settleThrusters_servo, raise_servo, forwardAxis_axes]

theorem rd_announceAxis {n id : Nat} (arg a : Nat) (s : State) (h : id ∉ eventIds n) :
    rd (announceAxis n arg a s) id = rd s id := by
  rw [announceAxis, rd_congr (settleThrusters_regs _), rd_raise _ _ _ _ h, (forwardAxis_only ..).rd (noId_apply id)]

/-- The sticky bit of events 64 to 95. -/
theorem announceAxis_sticky {n : Nat} (arg a : Nat) {s : State} (hc : s.clk.core = true) (hn : n / 32 = 2) :
    flag (announceAxis n arg a s) 0x1306 (n % 32) = true := by
  have raised := (raise_sticky n arg (forwardAxis a (some (n, arg)) s)
    ((core_of_same ((forwardAxis_only a _ s).part .clk)).trans hc)).resolve_right (by omega)
  rw [announceAxis, flag_congr (rd_congr (settleThrusters_regs _) _)]
  rwa [hn] at raised

theorem axisSticky_not_event {n : Nat} (a : Fin 48) (h : n < 128) : 0x500E + 16 * a.val ∉ eventIds n := by
  simp [eventIds]
  omega

theorem axisFaultCount_not_event {n : Nat} (a : Fin 48) (h : n < 128) : 0x500F + 16 * a.val ∉ eventIds n := by
  simp [eventIds]
  omega

/-- An axis that faults in a unit that makes its own transitions (10 R304-R306, R312). -/
theorem execAxisFault_own {a : Fin 48} {n : Nat} (hc : s.clk.core = true) (ht : s.clk.ticks = true)
    (hn : faultCode s a.val (axisAt s a.val) = n) (h0 : n ≠ 0) (ho : ownTransitions s = true) : ∃ t,
    execAxisFault a s = .next t ∧ (axisAt t a.val).state = 4 ∧ (axisAt t a.val).code = n ∧
    (axisAt t a.val).u = faultCommand (axisCfg s.snap a.val) (axisAt s a.val).uPrev ∧ (axisAt t a.val).sNew = none ∧
    fld t (0x500F + 16 * a.val) 15 0 = satAdd 16 (fld s (0x500F + 16 * a.val) 15 0) 1 ∧
    flag t (0x500E + 16 * a.val) 0 = true ∧ flag t 0x1306 16 = true := by
  unfold execAxisFault
  extract_lets x code s0 c group arg s1 s2 s3 s4
  have code_n : code = n := hn
  rw [if_neg (by simp [hc, ht, code_n, h0]), if_pos (by rw [ownTransitions_advance, ho])]
  have dropped : onlyChanges [.servo] isAxisState s s1 :=
    .opt (.advance .refl) fun _ => (dropPending_only ..).step .refl rfl fun _ => id
  have uPrev : (axisAt s1 a.val).uPrev = (axisAt s a.val).uPrev := by
    rw [← axisAt_advance (tickCycle s 15560) s]
    unfold s1
    split
    · exact dropPending_uPrev ..
    · rfl
  have servo : s4.servo = s2.servo := sticky_servo s3 _ _
  have clk : s4.clk = s1.clk := sticky_clk s3 _ _
  have count : rd s3 (0x500F + 16 * a.val) = rd s (0x500F + 16 * a.val) := dropped.rd (isAxisState_faultCount a.val)
  have axis : axisAt (announceAxis 80 arg a.val s4) a.val = showAxis { axisAt s1 a.val with
      state := 4, code := code, fe := 0, settle := 0, parked := false, sPrev := none, sNew := none, locFault := false
      u := faultCommand c (axisAt s1 a.val).uPrev } := by
    rw [axisAt_congr (announceAxis_axes ..), axisAt_congr (congrArg Servo.axes servo)]
    exact axisAt_updAxis_same ..
  refine ⟨announceAxis 80 arg a.val s4, rfl, ?_, ?_, ?_, ?_, ?_, ?_, announceAxis_sticky _ _ ?_ rfl⟩
  · rw [axis]; rfl
  · rw [axis]; exact code_n
  · rw [axis]
    show faultCommand c (axisAt s1 a.val).uPrev = _
    rw [uPrev]
    simp [c, s0]
  · rw [axis]; rfl
  · rw [fld_congr (rd_announceAxis _ _ _ (axisFaultCount_not_event a (by decide))), fld_bump_same _ _ _ _ _ (by decide),
      fld_congr (rd_sticky_other _ _ (by omega)), fld_congr count]
  · rw [flag_congr (rd_announceAxis _ _ _ (axisSticky_not_event a (by decide))), flag_congr (rd_bump_other _ _ _ _ (by omega)),
      flag_sticky_same _ _ _ (by decide)]
  · rw [clk]
    exact (core_of_same (dropped.part .clk)).trans hc

/-- An axis that faults in a unit that takes the holder's transitions (15 R450). -/
theorem execAxisFault_follower {a : Fin 48} (hc : s.clk.core = true) (ht : s.clk.ticks = true)
    (h0 : faultCode s a.val (axisAt s a.val) ≠ 0) (ho : ownTransitions s = false) (hl : (axisAt s a.val).locFault = false) : ∃ t,
    execAxisFault a s = .next t ∧ (axisAt t a.val).state = (axisAt s a.val).state ∧ (axisAt t a.val).locFault = true ∧
    (axisAt t a.val).u = faultCommand (axisCfg s.snap a.val) (axisAt s a.val).uPrev ∧ flag t 0x1306 16 = true := by
  unfold execAxisFault
  extract_lets x code s0 c group arg s1 s2 s3 s4
  rw [if_neg (by simp [code, x, hc, ht, h0]), if_neg (by rw [ownTransitions_advance, ho]; decide), if_neg (by simp [x, hl])]
  have axis : ∀ n v, axisAt (raise n v (updAxis a.val (fun x => { x with locFault := true, u := faultCommand c x.uPrev }) s0)) a.val
      = { axisAt s a.val with locFault := true, u := faultCommand c (axisAt s a.val).uPrev } := fun n v => by
    rw [axisAt_congr (congrArg Servo.axes (raise_servo ..)), axisAt_updAxis_same, axisAt_advance]
  refine ⟨_, rfl, ?_, ?_, ?_, ?_⟩
  · rw [axis]
  · rw [axis]
  · rw [axis]
    simp [c, s0]
  · have raised := raise_sticky 80 (a.val + 256 * code + 0x4000)
      (updAxis a.val (fun x => { x with locFault := true, u := faultCommand c x.uPrev }) s0)
      (by rw [updAxis_clk, advance_core, hc])
    exact raised.resolve_right (by decide)

theorem axisAt_servoCommit (l : List Nat) (s : State) (a : Nat) : axisAt (servoCommit l s) a = axisAt s a :=
  axisAt_congr (congrArg Servo.axes ((servoCommit_only l s).part .servo)) a

theorem axisAt_settleThrusters (s : State) (a : Nat) : axisAt (settleThrusters s) a = axisAt s a :=
  axisAt_congr (congrArg Servo.axes (settleThrusters_servo s)) a

/-- A shut-down or a park that has settled (10 R308, R312). -/
theorem execAxisShutdownComplete_done {a : Fin 48} (hc : s.clk.core = true) (ht : s.clk.ticks = true)
    (hs : (axisAt s a.val).state = 3 ∨ ((axisAt s a.val).state = 2 ∧ (axisCfg s.snap a.val).convert ≠ 2))
    (hd : (axisCfg s.snap a.val).settle ≤ (axisAt s a.val).settle) (ho : ownTransitions s = true)
    (h0 : faultCode s a.val (axisAt s a.val) = 0) : ∃ t,
    execAxisShutdownComplete a s = .next t ∧ (axisAt t a.val).state = 0 ∧ (axisAt t a.val).u = 0 ∧
    (axisAt t a.val).parked = decide ((axisAt s a.val).state = 3) ∧ (axisAt t a.val).pend = (axisAt s a.val).pend ∧
    flag t 0x1306 17 = true := by
  unfold execAxisShutdownComplete
  extract_lets x c done s0 arg s1
  have settled : done = true := by simpa [done, x, c, hd] using hs
  rw [if_neg (by simp [settled, hc, ht, ho, x, h0])]
  have axis : axisAt (announceAxis 81 arg a.val (servoCommit [a.val] s1)) a.val = showAxis { axisAt s a.val with
      state := 0, code := 0, u := 0, uPrev := 0, fe := 0, settle := 0, parked := (axisAt s a.val).state == 3, sPrev := none
      sNew := none, sat := false, held := false } := by
    rw [axisAt_congr (announceAxis_axes ..), axisAt_servoCommit, axisAt_updAxis_same, axisAt_advance]
  refine ⟨announceAxis 81 arg a.val (servoCommit [a.val] s1), rfl, ?_, ?_, ?_, ?_,
    announceAxis_sticky _ _ ((advance_core ..).trans hc) rfl⟩
  · rw [axis]; rfl
  · rw [axis]; rfl
  · rw [axis]; rfl
  · rw [axis]; rfl

/-! ### Requests and pending enables at a tick edge -/

/-- A due request is taken from its axis at a tick edge (10 R311). -/
def takeRequest (a : Fin 48) (s : State) : State := updAxis a.val (fun x => { x with reqDue := none }) (advance s.clk.tickBase s)

theorem axisAt_takeRequest (a : Fin 48) (s : State) : axisAt (takeRequest a s) a.val = { axisAt s a.val with reqDue := none } := by
  rw [takeRequest, axisAt_updAxis_same, axisAt_advance]

/-- A due request moves its axis. -/
def moveAxis (a : Fin 48) (f : AxisUnit → AxisUnit) (s : State) : State :=
  settleThrusters (servoCommit [a.val] (updAxis a.val f (takeRequest a s)))

theorem axisAt_moveAxis (a : Fin 48) (f : AxisUnit → AxisUnit) (s : State) :
    axisAt (moveAxis a f s) a.val = f { axisAt s a.val with reqDue := none } := by
  rw [moveAxis, axisAt_settleThrusters, axisAt_servoCommit, axisAt_updAxis_same, axisAt_takeRequest]

/-- A unit that takes the holder's transitions only takes the request (15 R450). -/
theorem execAxisCommandEffect_follower {a : Fin 48} (hc : s.clk.core = true) (ht : s.clk.ticks = true)
    (hq : (axisAt s a.val).reqDue ≠ none) (ho : ownTransitions s = false) :
    execAxisCommandEffect a s = .next (takeRequest a s) := by
  unfold execAxisCommandEffect
  extract_lets x s0 c s1 mates goTo
  split
  next h => exact absurd h hq
  next q h =>
    rw [if_neg (by simp [hc, ht]), if_pos (by rw [ownTransitions_advance, ho]; decide)]
    rfl

/-- A request to enable an axis that is OFF. -/
theorem execAxisCommandEffect_enable {a : Fin 48} {q : AxisReq} (hc : s.clk.core = true) (ht : s.clk.ticks = true)
    (hq : (axisAt s a.val).reqDue = some q) (hon : q.on = true) (hthr : q.thr = false) (hs : (axisAt s a.val).state = 0)
    (ho : ownTransitions s = true) :
    execAxisCommandEffect a s = .next (moveAxis a (enterActive (axisCfg s.snap a.val) a.val) s) := by
  unfold execAxisCommandEffect
  extract_lets x s0 c s1 mates goTo
  split
  next h => exact absurd (h.symm.trans hq) (by simp)
  next q' h =>
    obtain rfl : q' = q := Option.some.inj (h.symm.trans hq)
    extract_lets waits
    have ready : waits = false := by simp [waits, x, hs, hthr]
    have config : c = axisCfg s.snap a.val := by simp [c, s0]
    rw [if_neg (by simp [hc, ht]), if_neg (by rw [ownTransitions_advance, ho]; decide), if_neg (by simp [ready]), if_pos hon,
      if_pos (.inl hs), config]
    rfl

/-- A request to disable an axis that is ACTIVE or in FAULT. -/
theorem execAxisCommandEffect_disable {a : Fin 48} {q : AxisReq} (hc : s.clk.core = true) (ht : s.clk.ticks = true)
    (hq : (axisAt s a.val).reqDue = some q) (hoff : q.on = false)
    (hs : (axisAt s a.val).state = 1 ∨ (axisAt s a.val).state = 4) (ho : ownTransitions s = true) : ∃ t,
    execAxisCommandEffect a s = .next t ∧ (axisAt t a.val).state = (if (axisAt s a.val).state = 1 then 2 else 0) ∧
    (axisAt t a.val).reqDue = none := by
  unfold execAxisCommandEffect
  extract_lets x s0 c s1 mates goTo
  split
  next h => exact absurd (h.symm.trans hq) (by simp)
  next q' h =>
    obtain rfl : q' = q := Option.some.inj (h.symm.trans hq)
    extract_lets waits
    have ready : waits = false := by simp [waits, hoff]
    rw [if_neg (by simp [hc, ht]), if_neg (by rw [ownTransitions_advance, ho]; decide), if_neg (by simp [ready]),
      if_neg (by simp [hoff])]
    obtain hs | hs := hs
    · rw [if_pos hs, if_pos hs]
      refine ⟨moveAxis a _ s, rfl, ?_, ?_⟩
      · rw [axisAt_moveAxis]
      · rw [axisAt_moveAxis]
    · rw [if_neg (by simp [x, hs]), if_pos hs, if_neg (by simp [hs])]
      refine ⟨moveAxis a _ s, rfl, ?_, ?_⟩
      · rw [axisAt_moveAxis]
      · rw [axisAt_moveAxis]

/-- The pending enable of an axis that is OFF, made by a request of its own (10 R312). -/
theorem execPendingEnableEffect_off {a : Fin 48} (hc : s.clk.core = true) (ht : s.clk.ticks = true)
    (hp : (axisAt s a.val).pend = true) (hthr : (axisAt s a.val).pendThr = false) (hs : (axisAt s a.val).state = 0)
    (ho : ownTransitions s = true) : ∃ t,
    execPendingEnableEffect a s = .next t ∧ (axisAt t a.val).state = 1 ∧ (axisAt t a.val).pend = false := by
  unfold execPendingEnableEffect
  extract_lets x group busy s0 c enter s1 s2
  have alone : busy = false := by simp [busy, group, pendingGroup, hthr, hs]
  have enters : enter = true := by simp [enter, x, hs]
  have axis : axisAt s2 a.val = enterActive c (a.val + 0x8000) (axisAt s a.val) := by
    rw [axisAt_servoCommit, axisAt_updAxis_same, axisAt_advance, if_pos enters]
  rw [if_neg (by simp [x, hp, alone, hc, ht, ho])]
  split
  next h _ => exact absurd (h.symm.trans hthr) (by simp)
  next => exact ⟨s2, rfl, by rw [axis]; rfl, by rw [axis]; rfl⟩

end

/-- Settles O46: what the servo engine's events leave, by the lemmas on the tick, the faults, the completed shut-downs and the
effects at tick edges. -/
theorem servoEvents : Obligations.ServoEvents := by
  refine ⟨fun i s => execTickEdge_servo i, fun s => execServoRegister_axes, fun a n s => execAxisFault_own,
    fun a s => execAxisFault_follower, fun a s => execAxisShutdownComplete_done, fun a q s hc ht hq hon hthr hs ho => ?_,
    fun a q s => execAxisCommandEffect_disable, fun a s hc ht hq ho => ?_, fun a s => execPendingEnableEffect_off⟩
  -- AXIS_COMMAND_EFFECT of an enable
  · refine ⟨_, execAxisCommandEffect_enable hc ht hq hon hthr hs ho, ?_⟩
    rw [axisAt_moveAxis]
    exact ⟨rfl, rfl, rfl, rfl, rfl, rfl⟩
  -- AXIS_COMMAND_EFFECT in a unit that takes the holder's transitions
  · refine ⟨_, execAxisCommandEffect_follower hc ht hq ho, ?_⟩
    rw [axisAt_takeRequest]
    exact ⟨rfl, rfl⟩

end Sys2Proof.Machine
end

section
/-! SUPPORT. What a beat edge leaves (01 R46, R47, R50, 02 R51, 16 R485, R490): the parts that each of its phases touches, and the
beat count, the release and the sample latch. -/
set_option Elab.async false

namespace Sys2Proof.Machine

section
variable {P : List Part} {I : Nat → Bool} {s t : State}

/-! ### The twin unit at the edge -/

/-- The parts that the twin unit changes at a beat edge. -/
def twinEdgeParts : List Part := [.twin, .can, .idReq, .line, .ev]

/-- The registers that the twin unit changes at a beat edge. -/
@[simp] def twinEdgeIds (id : Nat) : Bool := anyEventId id || [0x1404, 0x1407].contains id

theorem twin_only (x : Twin) (s : State) : onlyChanges [.twin] noId s { s with twin := x } := .set rfl .refl

theorem updTwin_only (f : Twin → Twin) (s : State) : onlyChanges [.twin] noId s (updTwin f s) := twin_only ..

theorem updCan_only (b : Nat) (f : CanCtl → CanCtl) (s : State) : onlyChanges [.can] noId s (updCan b f s) := .set rfl .refl

theorem takeHalter_only (cause lc : Nat) (s : State) : onlyChanges twinEdgeParts twinEdgeIds s (takeHalter cause lc s) :=
  .raise (.sticky (.bump ((updTwin_only ..).step .refl)))

theorem dropHalter_only (cause lp : Nat) (bar : Bool) (s : State) :
    onlyChanges twinEdgeParts twinEdgeIds s (dropHalter cause lp bar s) :=
  .raise (.sticky (.bump ((updTwin_only ..).step (.set rfl .refl))))

theorem halterEdge_only (e : Nat) (s : State) : onlyChanges twinEdgeParts twinEdgeIds s (halterEdge e s) := by
  unfold halterEdge
  refine .ite (.raise (.sticky (.bump ((updTwin_only ..).step .refl)))) (.ite .refl ?_)
  split
  · exact .ite (dropHalter_only ..) .refl
  · refine .ite .refl ?_
    split
    · exact .ite (takeHalter_only ..) ((updTwin_only ..).step .refl)
    · exact .ite (takeHalter_only ..) (.ite (takeHalter_only ..) .refl)

theorem twinEdge_only (e : Nat) (s : State) : onlyChanges twinEdgeParts twinEdgeIds s (twinEdge e s) := by
  unfold twinEdge
  extract_lets x lp lc s1
  have begun : onlyChanges twinEdgeParts twinEdgeIds s s1 := (updTwin_only ..).step ((twin_only ..).step .refl)
  exact (halterEdge_only ..).step (.foldl begun fun _ _ _ => (updCan_only ..).step .refl) rfl fun _ => id

theorem twinAtEdge_only (first : Bool) (s : State) : onlyChanges twinEdgeParts twinEdgeIds s (twinAtEdge first s) :=
  .ite ((updTwin_only ..).step ((twinEdge_only ..).step ((updTwin_only ..).step .refl) rfl fun _ => id)) (twinEdge_only ..)

theorem twinEdgeIds_srcId (q : Fin 32) (k : Nat) (hk : k < 8) : twinEdgeIds (srcId q.val k) = false := by
  simp [anyEventId, srcId]
  omega

/-! ### Latch and release -/

theorem ctl_only (x : Control) (s : State) : onlyChanges [.ctl] noId s { s with ctl := x } := .set rfl .refl

theorem latchJoystick_only (s : State) : onlyChanges [.ctl] noId s (latchJoystick s) := ctl_only ..

theorem controlSnapshot_only (s : State) : onlyChanges [.ctl] noId s (controlSnapshot s) := ctl_only ..

theorem snap_only (r : Regs) (l : List Nat) (s : State) : onlyChanges [.snap] noId s { s with snap := r, snapPoison := l } :=
  .set rfl .refl

theorem fus_field_only (x : Fusion) (y : Field) (s : State) : onlyChanges [.fus, .field] noId s { s with fus := x, field := y } :=
  .set rfl .refl

theorem filterSnapshot_only (old : Regs) (s : State) : onlyChanges [.filt] (fun _ => true) s (filterSnapshot old s) := by
  unfold filterSnapshot
  extract_lets lib switches s1
  exact (filt_only ..).step (.foldl .refl fun _ _ _ => .opt .refl fun _ => .sticky .refl)

theorem powerLatch_only (s : State) : onlyChanges [.alc] noId s (powerLatch s) := .ite .refl (alc_only ..)

theorem powerImage_only (s : State) : onlyChanges [.alc] noId s (powerImage s) := by
  unfold powerImage
  exact alc_only ..

theorem allocEdge_only (released : Bool) (live : List (Nat × Nat)) (s : State) :
    onlyChanges [.alc] noId s (allocEdge released live s) := by
  unfold allocEdge
  extract_lets s1
  have imaged : onlyChanges [.alc] noId s s1 := (powerImage_only _).step (powerLatch_only s)
  exact (alc_only ..).step imaged

theorem servoRelease_only (old : Regs) (released : Bool) (s : State) :
    onlyChanges [.servo, .poison] noId s (servoRelease old released s) := by
  have both : ∀ (x : Servo) y, onlyChanges [.servo, .poison] noId s { s with servo := x, poison := y } := fun _ _ => .set rfl .refl
  exact both ..

/-- The parts that latch and release change behind the sample latch of the sources. -/
def releaseParts : List Part := [.ctl, .snap, .filt, .alc, .servo, .poison, .fus, .field]

/-- Behind the sample latch of the sources comes what leaves sources, clocks and twin unit alone. -/
theorem latchAndRelease_only (released : Bool) (s : State) :
    onlyChanges releaseParts (fun _ => true) (latchSources s.clk.beatBase s) (latchAndRelease released s) := by
  unfold latchAndRelease
  extract_lets tau old s1 s2 s3
  have joystick : onlyChanges releaseParts (fun _ => true) (latchSources s.clk.beatBase s) s1 :=
    (latchJoystick_only _).step .refl
  have snapped : onlyChanges releaseParts (fun _ => true) (latchSources s.clk.beatBase s) s2 :=
    (filterSnapshot_only ..).step ((controlSnapshot_only _).step ((snap_only ..).step joystick))
  have settled : onlyChanges releaseParts (fun _ => true) (latchSources s.clk.beatBase s) s3 :=
    (settleTables_only _).step ((settleThrusters_only _).step ((servoRelease_only ..).step ((allocEdge_only ..).step snapped)))
  exact (fus_field_only ..).step settled

theorem latchAndRelease_due (released : Bool) (s : State) : (latchAndRelease released s).field.due = released := rfl

theorem src_only (x : Vector SrcUnit 32) (s : State) : onlyChanges [.src] noId s { s with src := x } := .set rfl .refl

theorem latchSources_only (e : Nat) (s : State) : onlyChanges [.src] noId s (latchSources e s) := by
  unfold latchSources
  exact src_only ..

theorem latchSources_image {e : Nat} {q : Fin 32} (h : flag s (srcId q.val 0) 0 = true) :
    (vget (latchSources e s).src q).image = (vget s.src q).buf.filter (fun x => decide (x.avail < e)) := by
  simp [latchSources, vget, h]

/-! ### The first cycles of the beat -/

/-- The parts that change between the release and cycle 5 000 of the beat. -/
def afterParts : List Part := [.can, .eth, .ser, .power]

theorem placeFrame_only (b : Nat) (e : TxEntry) (s : State) : onlyChanges [.can] (fun _ => true) s (placeFrame b s e) := by
  unfold placeFrame
  extract_lets u same s1
  have placed : onlyChanges [.can] (fun _ => true) s s1 := (updCan_only ..).step .refl
  exact .ite (.bump .refl) (.ite (.bump (.sticky placed)) placed)

theorem placeBeat_only (old : Regs) (k : Nat) (released : Bool) (wire : BitVec 4) (s : State) :
    onlyChanges [.can] (fun _ => true) s (placeBeat old k released wire s) := by
  unfold placeBeat
  refine .ite .refl (.foldl .refl fun v b _ => ?_)
  extract_lets u v1
  exact .ite .refl (.foldl ((updCan_only ..).step .refl) fun _ _ _ => placeFrame_only ..)

theorem statusDatagrams_only (k : Nat) (s : State) : onlyChanges [.eth] noId s (statusDatagrams k s) := by
  unfold statusDatagrams
  refine .ite .refl (.foldl .refl fun v e _ => .ite .refl ?_)
  extract_lets l
  exact .ethQueue (.set rfl .refl)

theorem startTalk_only (p : Fin 4) (l : List TalkLine) (s : State) : onlyChanges [.ser] (fun _ => true) s (startTalk p l s) := by
  unfold startTalk
  split
  · exact .refl
  · exact .ite (.sticky (.bump .refl)) (.set rfl .refl)

theorem talkAll_only (s : State) : onlyChanges [.ser] (fun _ => true) s (talkAll s) := by
  unfold talkAll
  exact .ite .refl (.foldl .refl fun _ _ _ => .ite .refl (startTalk_only ..))

theorem afterEdge_only (old : Regs) (k : Nat) (released : Bool) (wire : BitVec 4) (s : State) :
    onlyChanges afterParts (fun _ => true) s (afterEdge old k released wire s) := by
  unfold afterEdge
  extract_lets s1
  have sent : onlyChanges afterParts (fun _ => true) s s1 :=
    (talkAll_only _).step ((statusDatagrams_only ..).step ((placeBeat_only ..).step .refl))
  exact .ite ((writeSummary_only ..).step sent) sent

theorem resumeSleep_only (s : State) : onlyChanges [.power] noId s (resumeSleep s) := by
  unfold resumeSleep
  split
  · exact .refl
  · exact .ite (.set rfl .refl) .refl

/-! ### The edge -/

/-- What stands on cycle 0 of the beat: the beat counter, the twin unit, the latch and the release. -/
def beatStart (first released : Bool) (edge : Nat) (s : State) : State :=
  latchAndRelease released (twinAtEdge first (startBeat edge (advance edge s)))

theorem advance_beat (c : Nat) (s : State) : (advance c s).clk.beat = s.clk.beat := by
  have hc := congrArg Clock.beat (advance_clk_same c s)
  exact hc

theorem advance_beats (c : Nat) (s : State) : (advance c s).clk.beats = s.clk.beats := by
  have hc := congrArg Clock.beats (advance_clk_same c s)
  exact hc

theorem beatStart_clk (first released : Bool) (edge : Nat) (s : State) :
    Part.clk.same (startBeat edge (advance edge s)) (beatStart first released edge s) :=
  Part.same_trans ((twinAtEdge_only first _).part .clk)
    (Part.same_trans ((latchSources_only ..).part .clk) ((latchAndRelease_only released _).part .clk))

theorem beatStart_due (first released : Bool) (edge : Nat) (s : State) : (beatStart first released edge s).field.due = released :=
  latchAndRelease_due ..

theorem beatStart_firstBeat (released : Bool) (edge : Nat) (s : State) : (beatStart true released edge s).twin.firstBeat = true := by
  have kept : (beatStart true released edge s).twin = (twinAtEdge true (startBeat edge (advance edge s))).twin :=
    (latchAndRelease_only released _).part .twin
  rw [kept]
  rfl

/-- The sample latch freezes what an enabled source had available before the edge. -/
theorem beatStart_image {first released : Bool} {edge : Nat} {q : Fin 32} (h : flag s (srcId q.val 0) 0 = true) :
    (vget (beatStart first released edge s).src q).image =
      (vget s.src q).buf.filter (fun x => decide (x.avail < edge)) := by
  have twin := twinAtEdge_only first (startBeat edge (advance edge s))
  have base : (twinAtEdge first (startBeat edge (advance edge s))).clk.beatBase = edge :=
    congrArg Clock.beatBase (twin.part .clk)
  have src : (twinAtEdge first (startBeat edge (advance edge s))).src = s.src := (twin.part .src).trans (advance_src ..)
  have kept : (beatStart first released edge s).src = _ := (latchAndRelease_only released _).part .src
  have enabled : flag (twinAtEdge first (startBeat edge (advance edge s))) (srcId q.val 0) 0 = true :=
    ((flag_congr (twin.rd (twinEdgeIds_srcId q 0 (by decide)))).trans (flag_congr (rd_advance ..))).trans h
  rw [kept, latchSources_image enabled, base, src]

/-- A later RUN beat edge: the beat starts, and what follows it in its first cycles leaves counters, sources and release alone. -/
theorem execBeatEdge_later {wire : BitVec 4} (hm : s.power.mode = .run) (hc : s.clk.core = true) (hb : s.clk.beats = true) : ∃ t,
    execBeatEdge wire s = .next t ∧ onlyChanges afterParts (fun _ => true)
      (beatStart false (s.twin.permit && !failSilent s && !entering s (s.clk.beatBase + 1000000)) (s.clk.beatBase + 1000000) s) t := by
  unfold execBeatEdge
  extract_lets first edge stop released k old s1
  have later : first = false := by simp [first, hb]
  have edge_eq : edge = s.clk.beatBase + 1000000 := by simp [edge, later]
  have start : s1 = beatStart false (s.twin.permit && !failSilent s && !entering s (s.clk.beatBase + 1000000))
      (s.clk.beatBase + 1000000) s := by
    simp [s1, beatStart, released, stop, later, edge_eq, Bool.and_comm, Bool.and_left_comm, Bool.and_assoc]
  rw [if_neg (by simp [hm, hc]), if_neg (by simp [later]), ← start]
  split
  · exact ⟨s1, rfl, .refl⟩
  · exact ⟨_, rfl, afterEdge_only ..⟩

/-- The first RUN beat edge releases nothing; a sleep that is resumed and the state summary touch the power unit alone. -/
theorem execBeatEdge_first {wire : BitVec 4} (hm : s.power.mode = .run) (hc : s.clk.core = true) (hb : s.clk.beats = false) : ∃ t,
    execBeatEdge wire s = .next t ∧ onlyChanges afterParts (fun _ => true) (beatStart true false s.clk.runEdge s) t := by
  unfold execBeatEdge
  extract_lets first edge stop released k old s1
  have begins : first = true := by simp [first, hb]
  have start : s1 = beatStart true false s.clk.runEdge s := by simp [s1, beatStart, released, begins, edge]
  rw [if_neg (by simp [hm, hc]), if_pos begins, ← start]
  exact ⟨_, rfl, (resumeSleep_only _).step (.opt .refl fun _ => (writeSummary_only ..).step .refl)⟩

end

/-- Settles O28: the first cycles of a beat leave what its start has counted, latched and released. -/
theorem beatEdges : Obligations.BeatEdges := by
  refine ⟨fun wire s hm hc hb => ?_, fun wire s hm hc hb => ?_, fun wire s h => ?_⟩
  -- a later RUN beat edge
  · obtain ⟨t, ht, kept⟩ := execBeatEdge_later (wire := wire) hm hc hb
    have clk := Part.same_trans (beatStart_clk ..) (kept.part .clk)
    have beat := congrArg Clock.beat clk
    have base := congrArg Clock.beatBase clk
    have field := congrArg Field.due (kept.part .field)
    refine ⟨t, ht, ?_, base, field.trans (beatStart_due ..), fun q hq => ?_⟩
    · rw [← advance_beat (s.clk.beatBase + 1000000) s]
      exact beat.trans (if_pos ((advance_beats ..).trans hb))
    · rw [kept.part .src]
      exact beatStart_image hq
  -- the first RUN beat edge
  · obtain ⟨t, ht, kept⟩ := execBeatEdge_first (wire := wire) hm hc hb
    have clk := Part.same_trans (beatStart_clk ..) (kept.part .clk)
    have beat := congrArg Clock.beat clk
    have twin := congrArg Twin.firstBeat (kept.part .twin)
    have field := congrArg Field.due (kept.part .field)
    refine ⟨t, ht, ?_, congrArg Clock.beatBase clk, congrArg Clock.beats clk, field.trans (beatStart_due ..),
      twin.trans (beatStart_firstBeat ..)⟩
    rw [← advance_beat s.clk.runEdge s]
    exact beat.trans (if_neg (by rw [advance_beats, hb]; decide))
  -- outside RUN, or with the core clock stopped
  · exact ⟨s, if_pos (by simpa using h), rfl⟩

end Sys2Proof.Machine
end

section
/-! SUPPORT. The rows of the host port as steps of the frame calculus (03 R81-R106): what each of its shared operations and each of its
commands may change, and O11 and O4. -/
set_option Elab.async false

namespace Sys2Proof.Machine

section
variable {P : List Part} {I : Nat → Bool} {s t : State}

/-- The parts that the host port's rows may change. -/
def hostParts : List Part := [.host, .line, .eth, .ev]

/-- The registers that the host port's rows may change. -/
@[simp] def hostIds (id : Nat) : Bool :=
  anyEventId id || [0x1204, 0x1205, 0x1206, 0x1208, 0x1214, 0x1215, 0x1216, 0x1218, 0x121B].contains id

/-- A port's sticky bits and its three counters are registers of the host port. -/
theorem hostIds_portId {p : Fin 2} {off : Nat} (h : off ∈ [4, 5, 6, 8]) : hostIds (portId p off) = true := by
  revert p
  revert off
  decide

/-! ### Shared operations -/

theorem line_only (x : HostLine) (s : State) : onlyChanges [.line] noId s { s with line := x } := .set rfl .refl

theorem updPort_only (p : Fin 2) (f : HostPort → HostPort) (s : State) : onlyChanges [.host] noId s (updPort p f s) := .set rfl .refl

theorem updEngine_only (p : Fin 2) (f : Engine → Engine) (s : State) : onlyChanges [.host] noId s (updEngine p f s) := .set rfl .refl

theorem framing_only (p : Fin 2) (lane bit : Nat) (s : State) : onlyChanges [.line, .ev] hostIds s (framing p lane bit s) :=
  .raise (.sticky (.bump .refl (hostIds_portId (by decide))) (hostIds_portId (by decide)))

theorem packetFault_only (p : Fin 2) (lane bit : Nat) (crc : Bool) (s : State) :
    onlyChanges [.line, .ev] hostIds s (packetFault p lane bit crc s) :=
  .raiseIf (.sticky (.bump .refl (hostIds_portId (by decide))) (hostIds_portId (by decide)))

theorem countAbandoned_only (p : Fin 2) (lane : Fin 4) (s : State) :
    onlyChanges [.line, .ev] hostIds s (countAbandoned p lane s) :=
  .raise (.sticky (.bump .refl (hostIds_portId (by decide))) (hostIds_portId (by decide)))

theorem dropDatagram_only (lane : Nat) (s : State) : onlyChanges [.line, .ev] hostIds s (dropDatagram lane s) :=
  .raise (.sticky (.bump .refl))

theorem putBales_only (p : Fin 2) (l : Fin 4) (b : List InBale) (s : State) :
    onlyChanges [.host, .line, .ev] anyEventId s (putBales p l b s) :=
  .raiseIf ((updPort_only ..).step .refl)

theorem tryGrant_only (s : State) : onlyChanges [.line] noId s (tryGrant s) := by
  unfold tryGrant
  extract_lets l
  split
  · exact .refl
  · refine .ite .refl (.ite ?_ (.ite (line_only ..) .refl))
    split
    · exact .refl
    · exact line_only ..
    · exact line_only ..

/-- The engine's packet is abandoned: counted, answered BAD_LENGTH, and its bale in drain is left to be discarded (03 R99). -/
def quitPacket (p : Fin 2) (lane : Fin 4) (b : List Byte) (peer : Option Peer) (s : State) : State :=
  sendReply ⟨p, lane, BitVec.ofNat 8 (byteAt b 3), false, s.clk.cycle, peer⟩ (byteAt b 1) (byteAt b 2) (s.clk.cycle + 1280)
    (replyHead stBadLength (lenDetail (byteAt b 1)))
    (countAbandoned p lane (updEngine p (fun e => { e with
      packet := none, draining := e.draining.map fun d => { d with stray := true } }) s))

theorem abandon_of_packet {p : Fin 2} {k : OpenPacket} (h : (vget s.host p).engine.packet = some k) :
    abandon p s = quitPacket p k.lane k.got k.peer s := by
  simp only [abandon, h]
  rfl

/-- Abandoning quits the packet that the engine reads, if it reads one. -/
theorem abandon_cases (p : Fin 2) (s : State) :
    abandon p s = s ∨ ∃ lane b peer, abandon p s = quitPacket p lane b peer s := by
  unfold abandon
  dsimp only
  split
  · exact .inr ⟨_, _, _, rfl⟩
  · split
    · split
      · exact .inl rfl
      · exact .inr ⟨_, _, _, rfl⟩
    · exact .inl rfl

theorem quitPacket_only (p : Fin 2) (lane : Fin 4) (b : List Byte) (peer : Option Peer) (s : State) :
    onlyChanges hostParts hostIds s (quitPacket p lane b peer s) :=
  (sendReply_only ..).step ((countAbandoned_only ..).step ((updEngine_only ..).step .refl) rfl fun _ => id)

theorem abandon_only (p : Fin 2) (s : State) : onlyChanges hostParts hostIds s (abandon p s) := by
  obtain h | ⟨lane, b, peer, h⟩ := abandon_cases p s <;> rw [h]
  · exact .refl
  · exact quitPacket_only ..

theorem abandonLane_only (l : Fin 4) (s : State) : onlyChanges hostParts hostIds s (abandonLane l s) := by
  refine .ite (abandon_only ..) ?_
  split
  · exact .refl
  · exact (attentionDue_only ..).step ((countAbandoned_only ..).step ((updPort_only ..).step .refl) rfl fun _ => id)

/-- An effect made at a later cycle, where the clocks then stand as before. -/
theorem onlyChanges.backInTime (h : onlyChanges P I s t) : onlyChanges P I s { t with clk := s.clk, power := s.power } := by
  obtain ⟨pending, parts, regs⟩ := h
  refine ⟨pending, fun p hp => ?_, regs⟩
  cases p
  case clk => rfl
  case power => rfl
  case snap => exact parts .snap hp
  all_goals exact parts _ hp

theorem headerChecks_only (p : Fin 2) (l : Fin 4) (b : List Byte) (s : State) :
    onlyChanges [.line, .ev] hostIds s (headerChecks p l b s) := by
  unfold headerChecks
  split
  · exact ((packetFault_only ..).step (.advance .refl) rfl fun _ => id).backInTime
  · exact .refl

theorem finishPacket_only (p : Fin 2) (k : OpenPacket) (s : State) : onlyChanges hostParts hostIds s (finishPacket p k s) := by
  unfold finishPacket
  extract_lets n op fl h ready s1
  have closed : onlyChanges hostParts hostIds s s1 := (updEngine_only ..).step .refl
  refine .ite ((sendReply_only ..).step ((packetFault_only ..).step closed rfl fun _ => id)) (.ite ((sendReply_only ..).step closed)
    (.ite ((sendReply_only ..).step closed) ((updEngine_only ..).step closed)))

theorem datagramArrives_only (q : Peer) (b : List Byte) (s : State) : onlyChanges hostParts hostIds s (datagramArrives q b s) := by
  unfold datagramArrives
  extract_lets want lane s1
  have dropped : onlyChanges hostParts hostIds s s1 := (dropDatagram_only ..).step .refl rfl fun _ => id
  exact .ite dropped (.ite (.ite ((replyDatagram_only ..).step dropped) dropped) ((putBales_only ..).step .refl))

/-! ### The rows -/

theorem execHselNFall_framed (c : Nat) (s : State) : framed hostParts hostIds s (execHselNFall c s) :=
  .next ((line_only ..).step (.advance .refl))

theorem execAccessByte_framed (c : Nat) (b : Byte) (s : State) : framed hostParts hostIds s (execAccessByte c b s) := by
  refine .ite (.next (.advance .refl)) (.ite (.next ?_) (.next ?_))
  · exact (framing_only ..).step ((line_only ..).step (.advance .refl)) rfl fun _ => id
  · exact (tryGrant_only _).step ((line_only ..).step (.advance .refl))

theorem execSelectionGrant_framed (c : Nat) (s : State) : framed hostParts hostIds s (execSelectionGrant c s) :=
  .next ((tryGrant_only _).step (.advance .refl))

theorem execBaleWrite_framed (c : Nat) {bale : List Byte} (s : State) (h : bale.length = 64) :
    framed hostParts hostIds s (execBaleWrite c bale s) := by
  have now : onlyChanges hostParts hostIds s (advance c s) := .advance .refl
  unfold execBaleWrite
  rw [if_neg (not_not.2 h)]
  dsimp only
  split
  · exact .next now
  · exact .ite (.next now) (.ite (.next ((putBales_only ..).step ((line_only ..).step now)))
      (.next ((framing_only ..).step ((line_only ..).step now) rfl fun _ => id)))

theorem execBaleRead_framed (c : Nat) (s : State) : framed hostParts hostIds s (execBaleRead c s) := by
  have now : onlyChanges hostParts hostIds s (advance c s) := .advance .refl
  refine .ite (.next now) ?_
  split
  · exact .next now
  · refine .ite (.next now) ?_
    split
    · exact .next ((line_only ..).step now)
    · split
      · exact .next ((line_only ..).step now)
      · exact .next ((updPort_only ..).step ((line_only ..).step now))

/-- The selection is closed and its grant released; what is due waits for the port's return to ready (03 R83). -/
def closeSelection (s : State) : State :=
  { s with line := { s.line with sel := ⟨false, false, none, false, none, none, false⟩, nextPulse := pulseAfterReady s } }

/-- HRDY shows readiness unless a pulse runs. -/
def showReady (s : State) : State := settleLine { s with line := { s.line with hrdy := s.line.pulseEnd.isNone && portReady s } }

theorem execHselNRise_closed {c n : Nat} (h : s.line.sel.sel = false) : execHselNRise c n s = .next (advance c s) :=
  if_pos (by simp [h])

/-- HSEL_N's rise closes the selection; a partial bale is counted, and that of a write abandons the open packet of its lane. -/
theorem execHselNRise_open {c n : Nat} (h : s.line.sel.sel = true) : ∃ t, execHselNRise c n s = .next (showReady t) ∧
    (t = closeSelection (advance c s) ∨ ∃ l : Fin 4, t = framing 0 l.val 0 (closeSelection (advance c s)) ∨
      t = abandonLane l (framing 0 l.val 0 (closeSelection (advance c s)))) := by
  unfold execHselNRise
  dsimp only
  rw [if_neg (by simp [h])]
  refine ⟨_, rfl, ?_⟩
  split
  next cut =>
    simp only [Bool.and_eq_true] at cut
    obtain ⟨⟨⟨⟨-, crossed⟩, -⟩, -⟩, -⟩ := cut
    obtain ⟨b, hb⟩ := Option.isSome_iff_exists.1 crossed
    simp only [hb]
    refine .inr ⟨accessLane b, ?_⟩
    split
    · exact .inr rfl
    · exact .inl rfl
  next => exact .inl rfl

theorem execHselNRise_framed (c n : Nat) (s : State) : framed hostParts hostIds s (execHselNRise c n s) := by
  have now : onlyChanges hostParts hostIds s (advance c s) := .advance .refl
  have closed : onlyChanges hostParts hostIds s (closeSelection (advance c s)) := (line_only ..).step now
  have counted : ∀ l, onlyChanges hostParts hostIds s (framing 0 l 0 (closeSelection (advance c s))) := fun _ =>
    (framing_only ..).step closed rfl fun _ => id
  cases h : s.line.sel.sel
  case false =>
    rw [execHselNRise_closed h]
    exact .next now
  case true =>
    obtain ⟨t, ht, ended⟩ := execHselNRise_open (c := c) (n := n) h
    rw [ht]
    refine .next ((settleLine_only _).step ((line_only ..).step ?_))
    obtain rfl | ⟨l, rfl | rfl⟩ := ended
    · exact closed
    · exact counted _
    · exact (abandonLane_only ..).step (counted _) rfl fun _ => id

theorem execAttentionPulse_framed (c : Nat) (s : State) : framed hostParts hostIds s (execAttentionPulse c s) := by
  have now : onlyChanges hostParts hostIds s (advance c s) := .advance .refl
  exact .ite (.next now) (.ite (.next ((line_only ..).step now)) (.ite (.next ((line_only ..).step now)) (.next now)))

theorem execAttentionPulseEnd_framed (s : State) : framed hostParts hostIds s (execAttentionPulseEnd s) := by
  unfold execAttentionPulseEnd
  split
  · exact .next .refl
  · exact .next ((line_only ..).step (.advance .refl))

theorem execBaleDispatch_framed (c : Nat) (p : Fin 2) (s : State) : framed hostParts hostIds s (execBaleDispatch c p s) := by
  have now : onlyChanges hostParts hostIds s (advance c s) := .advance .refl
  refine .ite (.next now) ?_
  split
  · split
    · exact .next now
    · exact .ite (.next ((abandon_only ..).step now rfl fun _ => id)) (.next ((updEngine_only ..).step now))
  · refine .ite (.next now) ?_
    split
    · exact .next now
    · split
      · exact .next now
      · have taken : ∀ f, onlyChanges hostParts hostIds s (updEngine p f (advance c s)) := fun _ => (updEngine_only ..).step now
        exact .next (.ite ((headerChecks_only ..).step (taken _) rfl fun _ => id)
          (.ite (taken _) ((framing_only ..).step (taken _) rfl fun _ => id)))

/-- The bale in drain leaves its lane on the edge that its drain ends (03 R98). -/
def drainBale (p : Fin 2) (d : Draining) (s : State) : State :=
  updPort p (fun q => { q with
    inbox := vupd q.inbox d.lane (·.drop 1), drained := some (d.lane, (advance (d.since + 320) s).clk.cycle),
    engine := { q.engine with draining := none } }) (advance (d.since + 320) s)

/-- A lane's later bales are discarded, or are not, until its next first bale (03 R90). -/
def discardLane (p : Fin 2) (l : Fin 4) (x : Bool) (s : State) : State :=
  updPort p (fun q => { q with discard := vset q.discard l x }) s

theorem discardLane_only (p : Fin 2) (l : Fin 4) (x : Bool) (s : State) : onlyChanges [.host] noId s (discardLane p l x s) :=
  updPort_only ..

theorem execBaleDrain_framed (p : Fin 2) (s : State) : framed hostParts hostIds s (execBaleDrain p s) := by
  unfold execBaleDrain
  split
  · exact .next .refl
  next d _ =>
    have drained : onlyChanges hostParts hostIds s (drainBale p d s) := (updPort_only ..).step (.advance .refl)
    have marked : ∀ x t, onlyChanges hostParts hostIds s t → onlyChanges hostParts hostIds s (discardLane p d.lane x t) :=
      fun _ _ h => (discardLane_only ..).step h
    refine .next ((settleLine_only _).step (.ite drained ?_))
    split
    · exact .ite ((finishPacket_only ..).step drained rfl fun _ => id) ((updEngine_only ..).step drained)
    · dsimp only
      split
      · exact marked _ _ ((sendReply_only ..).step drained)
      · exact .ite (marked _ _ ((sendReply_only ..).step drained))
          (.ite ((finishPacket_only ..).step (marked _ _ drained) rfl fun _ => id) ((updEngine_only ..).step (marked _ _ drained)))

theorem execPacketGapExpiry_framed (p : Fin 2) (s : State) : framed hostParts hostIds s (execPacketGapExpiry p s) := by
  unfold execPacketGapExpiry
  split
  · exact .next .refl
  · exact .ite (.next .refl) (.next ((abandon_only ..).step (.advance .refl) rfl fun _ => id))

theorem execReplyBaleWrite_framed (c : Nat) (p : Fin 2) (s : State) :
    framed hostParts hostIds s (execReplyBaleWrite c p s) := by
  unfold execReplyBaleWrite
  extract_lets s0
  have now : onlyChanges hostParts hostIds s s0 := .advance .refl
  split
  · exact .next now
  · split
    · exact .next ((updEngine_only ..).step now)
    · refine .ite (.next now) ?_
      extract_lets s1 s2
      have written : onlyChanges hostParts hostIds s s1 := .ite ((updPort_only ..).step now) now
      have left : onlyChanges hostParts hostIds s s2 := (updEngine_only ..).step written
      exact .ite (.next ((replyDatagram_only ..).step left)) (.next left)

theorem execCmdDatagram_framed (c : Nat) (d : Datagram) (s : State) : framed hostParts hostIds s (execCmdDatagram c d s) := by
  have now : onlyChanges hostParts hostIds s (advance c s) := .advance .refl
  refine .ite (.next now) (.ite (.next ((datagramArrives_only ..).step now rfl fun _ => id)) ?_)
  dsimp only
  split
  · exact .next ((updPort_only ..).step now)
  · refine .ite (.next ((dropDatagram_only ..).step ((updPort_only ..).step now) rfl fun _ => id)) ?_
    split
    · exact .next ((datagramArrives_only ..).step ((updPort_only ..).step now) rfl fun _ => id)
    · exact .next ((updPort_only ..).step now)

theorem execFragmentTimeout_framed (c : Nat) (s : State) : framed hostParts hostIds s (execFragmentTimeout c s) :=
  .next (.foldl ((updPort_only ..).step (.advance .refl)) fun _ _ _ => (dropDatagram_only ..).step .refl rfl fun _ => id)

end

/-! ### The family -/

theorem framed.of_next {P : List Part} {I : Nat → Bool} {s t : State} {o : Out} (h : framed P I s o) (e : o = .next t) :
    onlyChanges P I s t := by
  obtain ⟨u, hu, only⟩ := h
  cases hu.symm.trans e
  exact only

theorem execBaleWrite_illFormed (c : Nat) {bale : List Byte} (s : State) (h : bale.length ≠ 64) :
    execBaleWrite c bale s = .fault .illFormed := if_pos h

/-- A host port row that answers a next state stays within the frame of the host port. -/
theorem exec_hostPort_framed {i : Instr} {s t : State} (hf : familyOf i = .hostPort) (hx : exec i s = .next t) :
    framed hostParts hostIds s (exec i s) := by
  cases i with
  | hselNFall c => exact execHselNFall_framed c s
  | accessByte c b => exact execAccessByte_framed c b s
  | selectionGrant c => exact execSelectionGrant_framed c s
  | baleWrite c bale =>
    by_cases hb : bale.length = 64
    · exact execBaleWrite_framed c s hb
    · cases (execBaleWrite_illFormed c s hb).symm.trans hx
  | baleRead c => exact execBaleRead_framed c s
  | hselNRise c n => exact execHselNRise_framed c n s
  | attentionPulse c => exact execAttentionPulse_framed c s
  | attentionPulseEnd => exact execAttentionPulseEnd_framed s
  | baleDispatch c p => exact execBaleDispatch_framed c p s
  | baleDrain p => exact execBaleDrain_framed p s
  | packetGapExpiry p => exact execPacketGapExpiry_framed p s
  | replyBaleWrite c p => exact execReplyBaleWrite_framed c p s
  | cmdDatagram c d => exact execCmdDatagram_framed c d s
  | fragmentTimeout c => exact execFragmentTimeout_framed c s
  | _ => cases hf

/-- Settles O11: the frame of each row of the host port, by the calculus of frames. -/
theorem hostPortFrame : Obligations.HostPortFrame :=
  fun _ _ _ hf hx => (exec_hostPort_framed hf hx).of_next hx

/-- Settles O4: each of the two rows checks the length of its operand before anything else. -/
theorem illFormedStops : Obligations.IllFormedStops :=
  ⟨fun c _ s h => execBaleWrite_illFormed c s h, fun _ _ _ _ h => if_pos h⟩

end Sys2Proof.Machine
end

section
/-! SUPPORT. The lines of port 0 over a selection (03 R76-R86): what events and replies leave of them, and O8. -/
set_option Elab.async false

namespace Sys2Proof.Machine

section
variable {s t u : State} {b : Byte}

/-! ### What falls due is all that events and replies change of the lines -/

/-- The lines are as they were, but for the cycles at which attentions fall due. -/
def dueOnly (s t : State) : Prop := ∃ d, t.line = { s.line with due := d }

theorem dueOnly.of_line (h : t.line = s.line) : dueOnly s t := ⟨s.line.due, h⟩

theorem dueOnly.trans (h : dueOnly s t) (k : dueOnly t u) : dueOnly s u := by
  obtain ⟨d, hd⟩ := h
  obtain ⟨e, he⟩ := k
  exact ⟨e, by rw [he, hd]⟩

theorem dueOnly.sel (h : dueOnly s t) : t.line.sel = s.line.sel := by
  obtain ⟨d, hd⟩ := h
  rw [hd]

theorem dueOnly.nextPulse (h : dueOnly s t) : t.line.nextPulse = s.line.nextPulse := by
  obtain ⟨d, hd⟩ := h
  rw [hd]

theorem attentionDue_dueOnly (d : Nat) (s : State) : dueOnly s (attentionDue d s) := by
  unfold attentionDue
  dsimp only
  split <;> split
  · exact .of_line rfl
  · exact ⟨_, rfl⟩
  · exact .of_line rfl
  · exact ⟨_, rfl⟩

theorem raiseWith_dueOnly (f : Bool) (n a : Nat) (s : State) : dueOnly s (raiseWith f n a s) := by
  unfold raiseWith
  split
  · exact .of_line rfl
  · extract_lets masked s1 q s2
    have queued : dueOnly s q.1 := .of_line (by
      simp only [q]
      split <;> simp [s1])
    have announced : dueOnly s s2 := by
      simp only [s2]
      split
      · exact queued.trans (attentionDue_dueOnly ..)
      · exact queued
    split
    · exact announced.trans (.of_line (by simp))
    · exact announced

theorem raise_dueOnly (n a : Nat) (s : State) : dueOnly s (raise n a s) := raiseWith_dueOnly ..

theorem raiseIf_dueOnly (b : Bool) (n a : Nat) (s : State) : dueOnly s (raiseIf b n a s) := by
  unfold raiseIf
  split
  · exact raise_dueOnly ..
  · exact .of_line rfl

theorem framing_dueOnly (p : Fin 2) (lane bit : Nat) (s : State) : dueOnly s (framing p lane bit s) :=
  .trans (.of_line (by simp)) (raise_dueOnly ..)

theorem countAbandoned_dueOnly (p : Fin 2) (lane : Fin 4) (s : State) : dueOnly s (countAbandoned p lane s) :=
  .trans (.of_line (by simp)) (raise_dueOnly ..)

theorem sendReply_dueOnly (h : ReqHead) (op fl c : Nat) (p : List Byte) (s : State) : dueOnly s (sendReply h op fl c p s) := by
  unfold sendReply
  extract_lets packet bales rest s1
  split
  · exact .trans (.of_line (by simp [s1])) (attentionDue_dueOnly ..)
  · split <;> exact .of_line (by simp [s1])

theorem quitPacket_dueOnly (p : Fin 2) (lane : Fin 4) (b : List Byte) (peer : Option Peer) (s : State) :
    dueOnly s (quitPacket p lane b peer s) := by
  have closed : ∀ f, dueOnly s (updEngine p f s) := fun _ => .of_line rfl
  exact ((closed _).trans (countAbandoned_dueOnly ..)).trans (sendReply_dueOnly ..)

theorem abandon_dueOnly (p : Fin 2) (s : State) : dueOnly s (abandon p s) := by
  obtain h | ⟨lane, b, peer, h⟩ := abandon_cases p s <;> rw [h]
  · exact .of_line rfl
  · exact quitPacket_dueOnly ..

theorem abandonLane_dueOnly (l : Fin 4) (s : State) : dueOnly s (abandonLane l s) := by
  unfold abandonLane
  split
  · exact abandon_dueOnly ..
  · split
    · exact .of_line rfl
    · exact .trans (.of_line (by simp)) ((countAbandoned_dueOnly ..).trans (attentionDue_dueOnly ..))

/-! ### Errors that set a sticky bit, count and raise an event -/

/-- The sticky bit and the count of an error stand as written behind its event. -/
theorem raise_keepsCount {n a cnt stk bit : Nat} (s : State) (hc : cnt ∉ eventIds n) (hk : stk ∉ eventIds n) (hne : cnt ≠ stk)
    (hb : bit < 32) : flag (raise n a (sticky (bump s cnt 15 0 1) stk bit)) stk bit = true ∧
      fld (raise n a (sticky (bump s cnt 15 0 1) stk bit)) cnt 15 0 = satAdd 16 (fld s cnt 15 0) 1 := by
  refine ⟨?_, ?_⟩
  · rw [flag_congr (rd_raise _ _ _ _ hk), flag_sticky_same _ _ _ hb]
  · rw [fld_congr (rd_raise _ _ _ _ hc), fld_congr (rd_sticky_other _ _ hne), fld_bump_same _ _ _ _ _ (by decide)]

/-- The host port's registers are none of the event registers. -/
theorem portId_notEvent {n off : Nat} (p : Fin 2) (h : off < 16) : portId p off ∉ eventIds n := by
  have := p.isLt
  simp [portId, eventIds]
  omega

/-- A framing error sets its sticky bit and is counted (03 R103). -/
theorem framing_counts (p : Fin 2) (lane : Nat) {bit : Nat} (s : State) (hb : bit < 32) :
    flag (framing p lane bit s) (portId p 4) bit = true ∧
    fld (framing p lane bit s) (portId p 5) 15 0 = satAdd 16 (fld s (portId p 5) 15 0) 1 :=
  raise_keepsCount s (portId_notEvent p (by decide)) (portId_notEvent p (by decide)) (by simp [portId]) hb

/-! ### Grants -/

/-- A lane has as much room where neither state holds a grant. -/
theorem inRoom_congr {p : Fin 2} {l : Fin 4} (hr : t.regs = s.regs) (hh : t.host = s.host) (hs : s.line.sel.grant = none)
    (ht : t.line.sel.grant = none) : inRoom t p l = inRoom s p l := by
  simp [inRoom, laneBales, fld, rd, hr, hh, hs, ht]

/-- A write selection whose lane has room is granted, and HRDY goes high unless a pulse runs. -/
theorem tryGrant_write (hs : s.line.sel.sel = true) (hi : s.line.sel.ignored = false) (hv : s.line.sel.invalid = false)
    (ha : s.line.sel.access = some b) (hg : s.line.sel.grant = none) (hw : b.getLsbD 7 = false)
    (hr : 1 ≤ inRoom s 0 (accessLane b)) :
    tryGrant s = { s with line := { s.line with
      hrdy := s.line.pulseEnd.isNone, sel := { s.line.sel with grant := some s.clk.cycle } } } := by
  simp [tryGrant, hs, hi, hv, ha, hg, hw, hr, -BitVec.getLsbD_eq_getElem]

theorem execHselNFall_opens (c : Nat) (s : State) : ∃ t, execHselNFall c s = .next t ∧ t.line.hrdy = false ∧
    t.line.sel = ⟨true, !portUp (advance c s), none, false, none, none, false⟩ := ⟨_, rfl, rfl, rfl⟩

/-- The access byte of a write selection has crossed: it names the lane whose room readiness shows. -/
def takeAccess (b : Byte) (s : State) : State :=
  { s with line := { s.line with lastLane := accessLane b, sel := { s.line.sel with access := some b } } }

theorem execAccessByte_write {c : Nat} (hs : s.line.sel.sel = true) (hi : s.line.sel.ignored = false)
    (ha : s.line.sel.access = none) (hb : accessInvalid b = false) (hw : b.getLsbD 7 = false) :
    execAccessByte c b s = .next (tryGrant (takeAccess b (advance c s))) := by
  simp [execAccessByte, takeAccess, hs, hi, ha, hb, hw, -BitVec.getLsbD_eq_getElem]

theorem execAccessByte_granted (c : Nat) (hs : s.line.sel.sel = true) (hi : s.line.sel.ignored = false)
    (hv : s.line.sel.invalid = false) (ha : s.line.sel.access = none) (hg : s.line.sel.grant = none)
    (hb : accessInvalid b = false) (hw : b.getLsbD 7 = false) (hr : 1 ≤ inRoom s 0 (accessLane b)) :
    ∃ t, execAccessByte c b s = .next t ∧ t.line.hrdy = s.line.pulseEnd.isNone ∧ t.line.sel.access = some b ∧
      t.line.sel.grant = some (advance c s).clk.cycle ∧ t.line.lastLane = accessLane b := by
  have room : inRoom (takeAccess b (advance c s)) 0 (accessLane b) = inRoom s 0 (accessLane b) :=
    inRoom_congr (by simp [takeAccess]) (by simp [takeAccess]) hg (by simp [takeAccess, hg])
  rw [execAccessByte_write hs hi ha hb hw, tryGrant_write (b := b) (by simp [takeAccess, hs]) (by simp [takeAccess, hi])
    (by simp [takeAccess, hv]) rfl (by simp [takeAccess, hg]) hw (by rw [room]; exact hr)]
  exact ⟨_, rfl, by simp [takeAccess], rfl, rfl, rfl⟩

/-- An invalid access byte has crossed: the selection is refused. -/
def refuseAccess (b : Byte) (s : State) : State :=
  { s with line := { s.line with sel := { s.line.sel with access := some b, invalid := true } } }

theorem execAccessByte_invalid {c : Nat} (hs : s.line.sel.sel = true) (hi : s.line.sel.ignored = false)
    (ha : s.line.sel.access = none) (hb : accessInvalid b = true) :
    execAccessByte c b s = .next (framing 0 (b.toNat % 4) 0 (refuseAccess b (advance c s))) := by
  simp [execAccessByte, refuseAccess, hs, hi, ha, hb]

theorem execAccessByte_refused (c : Nat) (hs : s.line.sel.sel = true) (hi : s.line.sel.ignored = false)
    (ha : s.line.sel.access = none) (hb : accessInvalid b = true) : ∃ t, execAccessByte c b s = .next t ∧
      t.line.sel.invalid = true ∧ t.line.sel.grant = s.line.sel.grant ∧ flag t 0x1204 0 = true ∧
      fld t 0x1205 15 0 = satAdd 16 (fld s 0x1205 15 0) 1 := by
  rw [execAccessByte_invalid hs hi ha hb]
  obtain ⟨sets, counts⟩ := framing_counts 0 (b.toNat % 4) (bit := 0) (refuseAccess b (advance c s)) (by decide)
  refine ⟨_, rfl, ?_, ?_, sets, counts.trans ?_⟩
  · rw [(framing_dueOnly ..).sel]
    rfl
  · rw [(framing_dueOnly ..).sel]
    simp [refuseAccess]
  · exact congrArg (satAdd 16 · 1) (fld_congr (rd_advance ..))

theorem execSelectionGrant_granted (c : Nat) (hs : s.line.sel.sel = true) (hi : s.line.sel.ignored = false)
    (hv : s.line.sel.invalid = false) (ha : s.line.sel.access = some b) (hg : s.line.sel.grant = none)
    (hw : b.getLsbD 7 = false) (hr : 1 ≤ inRoom s 0 (accessLane b)) :
    ∃ t, execSelectionGrant c s = .next t ∧ t.line.hrdy = s.line.pulseEnd.isNone ∧
      t.line.sel.grant = some (advance c s).clk.cycle := by
  have line : (advance c s).line = s.line := by simp
  have room : inRoom (advance c s) 0 (accessLane b) = inRoom s 0 (accessLane b) := inRoom_congr (by simp) (by simp) hg (by simp [hg])
  refine ⟨_, rfl, ?_⟩
  rw [tryGrant_write (b := b) (by rw [line, hs]) (by rw [line, hi]) (by rw [line, hv]) (by rw [line, ha]) (by rw [line, hg]) hw
    (by rw [room]; exact hr)]
  exact ⟨by simp, rfl⟩

/-! ### The end of a selection -/

/-- Once the lines have settled, no selection has opened, and a pulse does not start earlier. -/
theorem settleLine_line (s : State) : (settleLine s).line.sel = s.line.sel ∧ s.line.nextPulse ≤ (settleLine s).line.nextPulse := by
  have later : s.line.nextPulse ≤ pulseAfterReady s := by
    unfold pulseAfterReady
    split <;> omega
  unfold settleLine
  split
  · exact ⟨rfl, le_rfl⟩
  · split
    · exact ⟨rfl, le_rfl⟩
    · refine ⟨rfl, ?_⟩
      dsimp only
      split
      · exact later
      · exact le_rfl

/-- What is due waits for 100 cycles after the port's return to ready. -/
theorem le_pulseAfterReady {d : Nat} (hd : d ∈ s.line.due) (h : d ≤ s.clk.cycle) : s.clk.cycle + 100 ≤ pulseAfterReady s := by
  have past : s.line.due.any (fun d => decide (d ≤ s.clk.cycle)) = true := List.any_eq_true.2 ⟨d, hd, by simpa using h⟩
  rw [pulseAfterReady, if_pos past]
  exact le_max_right ..

theorem execHselNRise_ends (c n : Nat) (hs : s.line.sel.sel = true) : ∃ t, execHselNRise c n s = .next t ∧
    t.line.sel = ⟨false, false, none, false, none, none, false⟩ ∧ pulseAfterReady (advance c s) ≤ t.line.nextPulse := by
  obtain ⟨u, hu, ended⟩ := execHselNRise_open (c := c) (n := n) hs
  have closed : dueOnly (closeSelection (advance c s)) u := by
    obtain rfl | ⟨l, rfl | rfl⟩ := ended
    · exact .of_line rfl
    · exact framing_dueOnly ..
    · exact (framing_dueOnly ..).trans (abandonLane_dueOnly ..)
  obtain ⟨kept, later⟩ := settleLine_line { u with line := { u.line with hrdy := u.line.pulseEnd.isNone && portReady u } }
  exact ⟨_, hu, kept.trans closed.sel, closed.nextPulse.symm.le.trans later⟩

end

/-- Settles O8: the commands of a selection, each by the lemma on what it leaves. -/
theorem hostSelection : Obligations.HostSelection := by
  refine ⟨fun c s => ?_, fun c b s hs hi hv ha hg hb hw hr => execAccessByte_granted c hs hi hv ha hg hb hw hr,
    fun c b s hs hi ha hb => execAccessByte_refused c hs hi ha hb,
    fun c b s hs hi hv ha hg hw hr => execSelectionGrant_granted c hs hi hv ha hg hw hr, fun c n s hs => ?_⟩
  -- HSEL_N falls
  · obtain ⟨t, ht, low, opened⟩ := execHselNFall_opens c s
    exact ⟨t, ht, low, by rw [opened], by rw [opened], by rw [opened], by rw [opened]⟩
  -- HSEL_N rises
  · obtain ⟨t, ht, closed, later⟩ := execHselNRise_ends c n hs
    refine ⟨t, ht, by rw [closed], by rw [closed], fun d hd hle => ?_⟩
    exact (le_pulseAfterReady (by simpa using hd) hle).trans later

end Sys2Proof.Machine
end

section
/-! SUPPORT. What bales and attention pulses leave of port 0 (03 R84, R93, R100, 02 R74), and O9. -/
set_option Elab.async false

namespace Sys2Proof.Machine

section
variable {s : State} {b : Byte}

/-! ### Bales -/

theorem putBales_dueOnly (p : Fin 2) (l : Fin 4) (k : List InBale) (s : State) : dueOnly s (putBales p l k s) := by
  unfold putBales fillEvent
  exact .trans (.of_line (updPort_line ..)) (raiseIf_dueOnly ..)

/-- Bales that cross stand at the end of their lane. -/
theorem putBales_inbox (p : Fin 2) (l : Fin 4) (k : List InBale) (s : State) :
    vget (vget (putBales p l k s).host p).inbox l = vget (vget s.host p).inbox l ++ k := by
  simp [putBales, updPort]

/-- The selection's bale has moved. -/
def moveBale (s : State) : State := { s with line := { s.line with sel := { s.line.sel with moved := true } } }

theorem rd_moveBale (s : State) (id : Nat) : rd (moveBale s) id = rd s id := rfl

theorem execBaleWrite_granted {c : Nat} {bale : List Byte} (hl : bale.length = 64) (hs : s.line.sel.sel = true)
    (hi : s.line.sel.ignored = false) (hm : s.line.sel.moved = false) (ha : s.line.sel.access = some b)
    (hw : b.getLsbD 7 = false) (hg : s.line.sel.grant.isSome = true) : execBaleWrite c bale s =
      .next (putBales 0 (accessLane b) [⟨b.getLsbD 6, (advance c s).clk.cycle, bale, none, none⟩] (moveBale (advance c s))) := by
  simp [execBaleWrite, moveBale, hl, hs, hi, hm, ha, hw, hg, -BitVec.getLsbD_eq_getElem]

theorem execBaleWrite_ungranted {c : Nat} {bale : List Byte} (hl : bale.length = 64) (hs : s.line.sel.sel = true)
    (hi : s.line.sel.ignored = false) (hm : s.line.sel.moved = false) (ha : s.line.sel.access = some b)
    (hw : b.getLsbD 7 = false) (hg : s.line.sel.grant = none) :
    execBaleWrite c bale s = .next (framing 0 (b.toNat % 4) 4 (moveBale (advance c s))) := by
  simp [execBaleWrite, moveBale, hl, hs, hi, hm, ha, hw, hg, -BitVec.getLsbD_eq_getElem]

/-- The first bale of an outbox lane has been read (03 R100, R101). -/
def takeReply (l : Fin 4) (x : OutBale) (r : List OutBale) (s : State) : State :=
  updPort 0 (fun q => { q with
    outbox := vset q.outbox l r, partRead := (if x.last then [] else [l]) ++ q.partRead.filter (· != l)
    engine := roomAppears (outRoom s 0 l == 0) l s.clk.cycle q.engine }) (moveBale s)

theorem execBaleRead_served {c : Nat} {l : Fin 4} {x : OutBale} {r : List OutBale} (hs : s.line.sel.sel = true)
    (hg : s.line.sel.grant.isSome = true) (hm : s.line.sel.moved = false) (ha : s.line.sel.access = some b)
    (hr : b.getLsbD 7 = true) (hl : s.line.sel.lane = some l) (hx : vget (vget s.host 0).outbox l = x :: r) :
    execBaleRead c s = .next (takeReply l x r (advance c s)) := by
  have granted : s.line.sel.grant.isNone = false := by simpa using hg
  simp [execBaleRead, takeReply, moveBale, hs, granted, hm, ha, hr, hl, hx, -BitVec.getLsbD_eq_getElem, -Option.isNone_eq_false_iff]

/-! ### Attention pulses -/

theorem execAttentionPulse_starts {c d : Nat} (hd : d ∈ s.line.due) (hw : attentionWaits (advance c s) = true)
    (hle : d ≤ (advance c s).clk.cycle) (hn : s.line.nextPulse ≤ (advance c s).clk.cycle) (hs : s.line.sel.sel = false)
    (hp : s.line.pulseEnd = none) (hr : portReady (advance c s) = true) : ∃ t, execAttentionPulse c s = .next t ∧
      t.line.hrdy = false ∧ t.line.pulseEnd = some ((advance c s).clk.cycle + 100) ∧
      t.line.due = s.line.due.filter fun x => decide ((advance c s).clk.cycle + 100 ≤ x) := by
  have line : (advance c s).line = s.line := by simp
  have falls : (advance c s).line.due.any (fun d => decide (d ≤ (advance c s).clk.cycle)) = true :=
    List.any_eq_true.2 ⟨d, by rw [line]; exact hd, by simpa using hle⟩
  unfold execAttentionPulse
  dsimp only
  rw [if_neg (by rw [falls]; decide), if_neg (by simp [hw]), if_pos (by simp [hn, hs, hp, hr])]
  exact ⟨_, rfl, rfl, rfl, by rw [line]⟩

theorem execAttentionPulseEnd_ends {e : Nat} (hp : s.line.pulseEnd = some e) (hs : s.line.sel.sel = false) :
    ∃ t, execAttentionPulseEnd s = .next t ∧ t.line.pulseEnd = none ∧ t.line.nextPulse = e + 100 ∧
      t.line.hrdy = portReady (advance e s) := by
  unfold execAttentionPulseEnd
  simp only [hp]
  exact ⟨_, rfl, rfl, rfl, by simp [hs]⟩

end

/-- Settles O9: a bale that crosses, one that is discarded, one that is read, and a pulse's start and end. -/
theorem hostBalesAndPulses : Obligations.HostBalesAndPulses := by
  refine ⟨fun c bale b s hl hs hi hm ha hw hg => ?_, fun c bale b s hl hs hi hm ha hw hg => ?_,
    fun c b l x r s hs hg hm ha hr hl hx => ?_,
    fun c d s hd hw hle hn hs hp hr => execAttentionPulse_starts hd hw hle hn hs hp hr,
    fun e s hp hs => execAttentionPulseEnd_ends hp hs⟩
  -- a granted bale
  · refine ⟨_, execBaleWrite_granted hl hs hi hm ha hw hg, ?_, ?_⟩
    · rw [(putBales_dueOnly ..).sel]
      rfl
    · rw [putBales_inbox]
      simp [moveBale]
  -- a bale without a grant
  · obtain ⟨sets, counts⟩ := framing_counts 0 (b.toNat % 4) (bit := 4) (moveBale (advance c s)) (by decide)
    refine ⟨_, execBaleWrite_ungranted hl hs hi hm ha hw hg, by simp [moveBale], sets, counts.trans ?_⟩
    rw [fld_congr ((rd_moveBale ..).trans (rd_advance ..))]
    rfl
  -- a bale that is read
  · refine ⟨_, execBaleRead_served hs hg hm ha hr hl hx, ?_, ?_⟩ <;> simp [takeReply, updPort, moveBale]

end Sys2Proof.Machine
end

section
/-! SUPPORT. What the command engine and the Ethernet command channel leave of the ports (03 R90, R97-R100, R104, 14 R410), and O10. -/
set_option Elab.async false

namespace Sys2Proof.Machine

section
variable {s t : State} {p : Fin 2}

/-! ### Dispatch -/

theorem laneBales_congr (h : t.regs = s.regs) (id : Nat) (l : Fin 4) : laneBales t id l = laneBales s id l := by
  rw [laneBales, laneBales, fld_congr (rd_congr h id)]

theorem outRoom_congr (hr : t.regs = s.regs) (hh : t.host = s.host) (p : Fin 2) (l : Fin 4) : outRoom t p l = outRoom s p l := by
  rw [outRoom, outRoom, laneBales_congr hr, hh]

theorem dispatchLane_congr (hr : t.regs = s.regs) (hh : t.host = s.host) (p : Fin 2) : dispatchLane t p = dispatchLane s p := by
  simp [dispatchLane, outRoom_congr hr hh, hh]

/-- A free engine starts the drain of a bale; what the bale is counted or rejected for leaves the ports alone. -/
theorem execBaleDispatch_free {c : Nat} {l : Fin 4} {b : InBale} {r : List InBale}
    (hd : (vget s.host p).engine.draining = none) (hk : (vget s.host p).engine.packet = none)
    (hq : (vget s.host p).engine.request = none) (hr : (vget s.host p).engine.rest = none)
    (hf : (vget s.host p).engine.freeAt ≤ (advance c s).clk.cycle) (hl : dispatchLane s p = some l)
    (hb : vget (vget s.host p).inbox l = b :: r) : ∃ t, execBaleDispatch c p s = .next t ∧
      t.host = (updEngine p (fun e => { e with draining := some ⟨l, b, (advance c s).clk.cycle, !b.first⟩ }) (advance c s)).host := by
  have lane : dispatchLane (advance c s) p = some l := by rw [dispatchLane_congr (s := s) (by simp) (by simp), hl]
  have free : ¬(advance c s).clk.cycle < (vget s.host p).engine.freeAt := not_lt.2 hf
  simp only [execBaleDispatch, advance_host, hd, hk, hq, hr, hb, lane]
  rw [if_neg (by simp), if_neg (by simp [free])]
  refine ⟨_, rfl, ?_⟩
  split
  · exact (headerChecks_only ..).part .host
  · split
    · rfl
    · exact framing_host ..

/-! ### Drain -/

theorem balesFor_one {n : Nat} (h1 : 1 ≤ n) (h : n ≤ 64) : balesFor n = 1 := by
  unfold balesFor
  omega

/-- A packet that passes every check becomes the engine's request (03 R90). -/
theorem finishPacket_accepts {k : OpenPacket} (hc : crc32 (k.got.take (8 + leAt k.got 4 2)) = leAt k.got (8 + leAt k.got 4 2) 4)
    (ho : (opRow (byteAt k.got 1)).isSome = true) (hx : byteAt k.got 2 / 4 % 2 = byteAt k.got 1 % 2) :
    finishPacket p k s = updEngine p (fun e => { e with
      request := some ⟨BitVec.ofNat 8 (byteAt k.got 1), ⟨⟨p, k.lane, BitVec.ofNat 8 (byteAt k.got 3),
        byteAt k.got 2 / 8 % 2 == 1, s.clk.cycle, k.peer⟩, (k.got.drop 8).take (leAt k.got 4 2)⟩⟩ })
      (updEngine p (fun e => { e with packet := none }) s) := by
  have row : (opRow (byteAt k.got 1)).isNone = false := by simpa using ho
  unfold finishPacket
  dsimp only
  rw [if_neg (not_not.2 hc), if_neg (by rw [row]; decide), if_neg (not_not.2 hx)]

/-- The drain of a packet of one bale with a good header ends in the packet's checks. -/
theorem execBaleDrain_single {d : Draining} (hd : (vget s.host p).engine.draining = some d)
    (hk : (vget s.host p).engine.packet = none) (hs : d.stray = false) (hf : headerFault d.lane d.bale.bytes = none)
    (hg : d.bale.dgram = none) (hn : 12 + leAt d.bale.bytes 4 2 ≤ 64) : execBaleDrain p s =
      .next (settleLine (finishPacket p ⟨d.lane, d.bale.bytes, 1, 1, d.bale.cross, d.bale.peer⟩
        (discardLane p d.lane false (drainBale p d s)))) := by
  have one : balesFor (12 + leAt d.bale.bytes 4 2) = 1 := balesFor_one (by omega) hn
  simp [execBaleDrain, hd, hk, hs, hf, hg, one, discardLane, drainBale]

/-! ### An abandoned packet -/

/-- What a change of a port leaves of every port, it leaves in the state. -/
theorem updPort_keeps {α : Type} {f : HostPort → HostPort} (g : HostPort → α) (h : ∀ x, g (f x) = g x) (q : Fin 2) :
    g (vget (updPort p f s).host q) = g (vget s.host q) := by
  by_cases e : q = p
  · subst e
    simp [updPort, h]
  · simp [updPort, vget_vupd_other _ _ _ _ e]

theorem sendReply_packet (h : ReqHead) (op fl c : Nat) (m : List Byte) (s : State) (q : Fin 2) :
    (vget (sendReply h op fl c m s).host q).engine.packet = (vget s.host q).engine.packet := by
  unfold sendReply
  extract_lets packet bales rest s1
  have queued : (vget s1.host q).engine.packet = (vget s.host q).engine.packet :=
    updPort_keeps (·.engine.packet) (by intro; rfl) q
  split
  · rw [attentionDue_host]
    exact (updPort_keeps (·.engine.packet) (by intro; rfl) q).trans queued
  · split
    · rw [replyDatagram_host, queued]
    · exact queued

/-- An abandoned packet leaves the engine without one, and is counted (03 R99). -/
theorem quitPacket_counts (p : Fin 2) (lane : Fin 4) (b : List Byte) (peer : Option Peer) (s : State) :
    (vget (quitPacket p lane b peer s).host p).engine.packet = none ∧
    fld (quitPacket p lane b peer s) (portId p 8) 15 0 = satAdd 16 (fld s (portId p 8) 15 0) 1 ∧
    flag (quitPacket p lane b peer s) (portId p 4) 3 = true := by
  unfold quitPacket
  generalize hu : updEngine p _ s = u
  have closed : (vget u.host p).engine.packet = none := by
    rw [← hu]
    simp [updEngine, updPort]
  have counted : fld u (portId p 8) 15 0 = fld s (portId p 8) 15 0 := fld_congr (rd_congr (by rw [← hu, updEngine_regs]) _)
  obtain ⟨sets, counts⟩ := raise_keepsCount (n := 18) (a := p.val + 256 * lane.val) (bit := 3) u
    (portId_notEvent p (off := 8) (by decide)) (portId_notEvent p (off := 4) (by decide)) (by simp [portId]) (by decide)
  refine ⟨?_, ?_, ?_⟩
  · rw [sendReply_packet, countAbandoned_host, closed]
  · rw [fld_congr (rd_congr (sendReply_regs ..) _), ← counted]
    exact counts
  · rw [flag_congr (rd_congr (sendReply_regs ..) _)]
    exact sets

theorem execPacketGapExpiry_abandons {k : OpenPacket} (hk : (vget s.host p).engine.packet = some k)
    (hn : k.bales + (waitingBales (vget (vget s.host p).inbox k.lane)).length < k.need) :
    ∃ c, execPacketGapExpiry p s = .next (quitPacket p k.lane k.got k.peer (advance c s)) := by
  unfold execPacketGapExpiry
  simp only [hk]
  rw [if_neg (not_le.2 hn), abandon_of_packet (k := k) (by simp [hk])]
  exact ⟨_, rfl⟩

/-! ### Reply bales -/

/-- A reply bale enters its outbox lane, and the next is complete 320 cycles later (03 R100). -/
def writeReplyBale (r : ReplyRest) (b : OutBale) (bs : List OutBale) (s : State) : State :=
  updEngine 0 (fun e => { e with
    rest := if bs.isEmpty then none else some { r with bales := bs, nextAt := s.clk.cycle + 320 }
    freeAt := if bs.isEmpty then max e.freeAt s.clk.cycle else e.freeAt })
    (updPort 0 (fun q => { q with outbox := vupd q.outbox r.lane (· ++ [{ b with ready := s.clk.cycle }]) }) s)

theorem execReplyBaleWrite_room {c : Nat} {r : ReplyRest} {b : OutBale} {bs : List OutBale}
    (hr : (vget s.host 0).engine.rest = some r) (hb : r.bales = b :: bs) (hn : r.nextAt ≤ (advance c s).clk.cycle)
    (ho : 1 ≤ outRoom s 0 r.lane) : execReplyBaleWrite c 0 s = .next (writeReplyBale r b bs (advance c s)) := by
  have room : outRoom (advance c s) 0 r.lane = outRoom s 0 r.lane := outRoom_congr (by simp) (by simp) ..
  simp only [execReplyBaleWrite, advance_host, hr, hb, room]
  rw [if_neg (by omega), if_neg (by simp)]
  rfl

/-! ### Command datagrams -/

/-- A datagram of one bale from the peer that may send stands at the end of its lane (03 R104, R105). -/
theorem datagramArrives_single {q : Peer} {b : List Byte} {l : Fin 4} (hw : rd s 0x121A = 0) (h12 : 12 ≤ b.length)
    (h64 : b.length ≤ 64) (hl : l.val = byteAt b 2 % 4) (hr : 1 ≤ inRoom s 1 l) :
    datagramArrives q b s = putBales 1 l [⟨true, s.clk.cycle, baleAt b 0, some q, some b.length⟩] s := by
  obtain rfl : l = ⟨byteAt b 2 % 4, Nat.mod_lt _ (by decide)⟩ := Fin.ext hl
  have one : balesFor b.length = 1 := balesFor_one (by omega) h64
  unfold datagramArrives
  dsimp only
  rw [if_neg (by simp [hw, h12]), if_neg (by rw [one]; omega), one]
  rfl

theorem execCmdDatagram_whole {c : Nat} {d : Datagram} (hu : port1Up (advance c s) = true)
    (hp : d.peer.dst.toNat = fld s 0x1219 15 0) (hm : d.more = false) (ho : d.offset = 0) :
    execCmdDatagram c d s = .next (datagramArrives d.peer d.bytes (advance c s)) := by
  have port : fld (advance c s) 0x1219 15 0 = fld s 0x1219 15 0 := fld_congr (rd_advance ..)
  unfold execCmdDatagram
  dsimp only
  rw [if_neg (by simp [hu, hp, port]), if_pos (by simp [hm, ho])]

/-- A datagram that is dropped sets its sticky bit and is counted (03 R103). -/
theorem dropDatagram_counts (lane : Nat) (s : State) : fld (dropDatagram lane s) 0x121B 15 0 = satAdd 16 (fld s 0x121B 15 0) 1 ∧
    flag (dropDatagram lane s) 0x1214 5 = true :=
  (raise_keepsCount s (by decide) (by decide) (by decide) (by decide)).symm

/-- A late set of fragments is dropped and counted (14 R410). -/
theorem execFragmentTimeout_late {c : Nat} {f : FragSet} (hf : (vget s.host 1).frags = [f])
    (hl : f.since + 1000000 ≤ (advance c s).clk.cycle) :
    execFragmentTimeout c s = .next (dropDatagram 0 (updPort 1 (fun q => { q with
      frags := q.frags.filter fun f => decide ((advance c s).clk.cycle < f.since + 1000000) }) (advance c s))) := by
  simp [execFragmentTimeout, hf, hl]

end

/-- Settles O10: a dispatch, a drain, an abandoned packet, a reply bale, a datagram and a set of fragments that is dropped. -/
theorem commandEngine : Obligations.CommandEngine := by
  refine ⟨fun c p l b r s hd hk hq hr hf hl hb => ?_, fun p d s hd hk hs hf hg hn hc ho hx => ?_,
    fun p k s hk hn => ?_, fun c r b bs s hr hb hn ho => ?_, fun c d l s hu hp hm ho hw h12 h64 hl hr => ?_,
    fun c f s hf hl => ?_⟩
  -- the dispatch of a bale
  · obtain ⟨t, ht, port⟩ := execBaleDispatch_free hd hk hq hr hf hl hb
    exact ⟨t, ht, by simp [port, updEngine, updPort], by simp [port, updEngine, updPort]⟩
  -- the drain of a packet of one bale
  · refine ⟨_, execBaleDrain_single hd hk hs hf hg hn, ?_⟩
    rw [settleLine_host, finishPacket_accepts (k := ⟨d.lane, d.bale.bytes, 1, 1, d.bale.cross, d.bale.peer⟩) hc ho hx]
    simp [updEngine, updPort, discardLane, drainBale]
  -- an expired gap
  · obtain ⟨c, hx⟩ := execPacketGapExpiry_abandons hk hn
    obtain ⟨closed, counts, sets⟩ := quitPacket_counts p k.lane k.got k.peer (advance c s)
    exact ⟨_, hx, closed, counts.trans (congrArg (satAdd 16 · 1) (fld_congr (rd_advance ..))), sets⟩
  -- a reply bale
  · refine ⟨_, execReplyBaleWrite_room hr hb hn ho, ?_⟩
    simp [writeReplyBale, updEngine, updPort]
  -- a command datagram of one bale
  · refine ⟨_, execCmdDatagram_whole hu hp hm ho, ?_⟩
    have room : inRoom (advance c s) 1 l = inRoom s 1 l := by simp [inRoom, laneBales, fld]
    rw [datagramArrives_single ((rd_advance ..).trans hw) h12 h64 hl (by rw [room]; exact hr), putBales_inbox, advance_host]
  -- a set of fragments
  · refine ⟨_, execFragmentTimeout_late hf hl, ?_⟩
    obtain ⟨counts, sets⟩ := dropDatagram_counts 0 (updPort 1 (fun q => { q with
      frags := q.frags.filter fun f => decide ((advance c s).clk.cycle < f.since + 1000000) }) (advance c s))
    refine ⟨?_, counts.trans (congrArg (satAdd 16 · 1) (fld_congr (rd_advance ..))), sets⟩
    rw [dropDatagram_host]
    simp [updPort, hf, hl]

end Sys2Proof.Machine
end

section
/-! SUPPORT. How the command engine serves a request (04 R111, R114, R121): what it answers where a check refuses the request, where a
commit of the cycle bars it and where it is served to its end, and O5, O13 to O15. -/
set_option Elab.async false

namespace Sys2Proof.Machine

section
variable {i : Instr} {o : OpSpec} {r : Req} {s t : State}

/-! ### Which commands the engine serves -/

/-- A request is served by the command engine; a chunk that breaks the open load abandons it besides (04 R133). -/
theorem exec_of_requestOf (h : requestOf i = some (o, r)) (s : State) :
    exec i s = .next (serve o r s) ∨ o = opConfigFileLoad ∧ exec i s = execConfigFileLoad r s := by
  cases i
  case configFileLoad => cases h; exact .inr ⟨rfl, rfl⟩
  all_goals cases h <;> exact .inl rfl

/-- A chunk that is not refused abandons nothing. -/
theorem execConfigFileLoad_of_passes (h : refusal opConfigFileLoad r (atCommit opConfigFileLoad r s) = none) :
    execConfigFileLoad r s = .next (serve opConfigFileLoad r s) := by
  have kept : loadBroken r (atCommit opConfigFileLoad r s) = false := by
    unfold loadBroken
    split
    · rfl
    · simp [h]
  simp [execConfigFileLoad, kept]

/-- A request whose checks all pass is served, and that is all. -/
theorem exec_of_passes (h : requestOf i = some (o, r)) (hx : refusal o r (atCommit o r s) = none) :
    exec i s = .next (serve o r s) := by
  obtain hs | ⟨rfl, hs⟩ := exec_of_requestOf h s
  · exact hs
  · exact hs.trans (execConfigFileLoad_of_passes hx)

/-! ### The answers -/

theorem serve_refused {x : Nat × Nat} (hr : readyFor s r.head.port o.code = some true)
    (hx : refusal o r (atCommit o r s) = some x) :
    serve o r s = respond r.head o.code (replyCycle o r) x.1 x.2 [] (forward o r x.1 (atCommit o r s)) := by
  simp only [serve, hr, hx, replyCycle]

theorem serve_passes (hr : readyFor s r.head.port o.code = some true) (hx : refusal o r (atCommit o r s) = none) :
    serve o r s = commitRequest o r (atCommit o r s) := by
  simp only [serve, hr, hx]

theorem commitRequest_barred
    (ha : arbitrate (hostClass s r.head.port) r.head.port.val (commitTargets o r.payload s) s = none) :
    commitRequest o r s = respond r.head o.code (replyCycle o r) stConflict 0xFFFF [] (forward o r stConflict s) := by
  simp only [commitRequest, ha, replyCycle]

/-- A commit whose targets bear no poison mark is the opcode's own. -/
theorem commitPoison_of_unpoisoned {port : Fin 2} {p : List Byte} (h : (poisonedTargets o p s).isEmpty = true) :
    commitPoison o port p s = o.commit port p s := by
  have none : poisonedTargets o p s = [] := by simpa using h
  simp [commitPoison, none]

theorem served_iff : served o r s = true ↔ readyFor s r.head.port o.code = some true ∧ refusal o r (atCommit o r s) = none ∧
    arbitrate (hostClass (atCommit o r s) r.head.port) r.head.port.val (commitTargets o r.payload (atCommit o r s))
      (atCommit o r s) = some (commitState o r s) ∧ (poisonedTargets o r.payload (commitState o r s)).isEmpty = true := by
  have noted : ∀ (a b : Nat) (l : List Nat) (u : State), (arbitrate a b l u).isSome = true ↔
      arbitrate a b l u = some (noteCommit a b l u) := by
    intro a b l u
    unfold arbitrate
    split <;> simp
  simp [served, noted, commitState, and_assoc]

/-- What a request that is served to its end leaves and answers (04 R114). -/
theorem serve_served (h : served o r s = true) {x : Result} (hx : o.commit r.head.port r.payload (commitState o r s) = x) :
    serve o r s = respond r.head o.code (replyCycle o r) x.status x.detail
      (replyData o r.head.port r.payload (commitState o r s) x.data) (forward o r x.status (commitDone (atCommit o r s) x)) := by
  obtain ⟨ready, passes, granted, clean⟩ := served_iff.1 h
  rw [serve_passes ready passes]
  simp only [commitRequest, granted, commitPoison_of_unpoisoned clean, hx, replyCycle]

theorem exec_served (hi : requestOf i = some (o, r)) (h : served o r s = true) : exec i s = .next (serve o r s) :=
  exec_of_passes hi (served_iff.1 h).2.1

end

/-- Settles O5: the register file of the reset state lists nothing, so that each identifier reads its reset word. -/
theorem resetState : Obligations.ResetState :=
  ⟨fun _ => rfl, ⟨rfl, rfl, rfl, rfl, rfl⟩, by decide +kernel⟩

/-- Settles O13: a refused request is answered, its session touched and its marker forwarded, and a broken load abandoned. -/
theorem refusedRequest : Obligations.RefusedRequest := by
  intro i o r x s t hi hr hx ht
  have answered : onlyChanges [.session, .host, .line, .eth, .twin, .load] [0x1007, 0x1008].contains s (serve o r s) := by
    rw [serve_refused hr hx]
    exact (respond_only ..).step ((forward_only ..).step ((atCommit_only ..).step .refl))
  obtain hs | ⟨rfl, hs⟩ := exec_of_requestOf hi s
  · rw [hs] at ht
    cases ht
    exact answered
  · rw [hs] at ht
    cases ht
    exact .opt answered fun _ => .set rfl .refl

/-- Settles O14: the engine's answer to a request that is served to its end, and to one that a commit of its cycle bars. -/
theorem servedRequest : Obligations.ServedRequest := by
  refine ⟨?_, fun i o r s hi hr hx ha => ?_⟩
  · intro i o r s x hi h
    exact ⟨_, exec_served hi h, serve_served h rfl⟩
  · exact ⟨_, exec_of_passes hi hx, (serve_passes hr hx).trans (commitRequest_barred ha)⟩

end Sys2Proof.Machine
end

section
/-! SUPPORT. Served requests that read, and those whose answer alone reaches beyond their commit (04 R114, R121, R126); O12 and O15. -/
set_option Elab.async false

namespace Sys2Proof.Machine

section
variable {o : OpSpec} {r : Req} {s t u : State}

/-! ### Requests that are answered OK -/

theorem forward_of_free (st : Nat) (h : o.halter r.payload s = false) : forward o r st s = s := by
  simp [forward, h]

/-- A request that is served and answered OK (04 R114). -/
theorem serve_ok (h : served o r s = true) {x : Result} (hx : o.commit r.head.port r.payload (commitState o r s) = x)
    (hs : x.status = stOk) : serve o r s = respond r.head o.code (replyCycle o r) stOk x.detail
      (replyData o r.head.port r.payload (commitState o r s) x.data) (forward o r stOk x.state) := by
  rw [serve_served h hx, commitDone, if_pos (.inl hs), hs]

theorem respond_ok_only (h : ReqHead) (op c det : Nat) (d : List Byte) (s : State) :
    onlyChanges [.host, .line, .eth] noId s (respond h op c stOk det d s) :=
  .ite (.set rfl .refl) (sendReply_only ..)

/-- The reply to a request that is answered OK leaves what its commit has left but for the reply's way out and the marker. -/
theorem serve_ok_only {d : List Byte} (h : served o r s = true)
    (hx : o.commit r.head.port r.payload (commitState o r s) = okData u d) :
    onlyChanges [.host, .line, .eth, .twin] noId u (serve o r s) := by
  rw [serve_ok h hx rfl]
  exact (respond_ok_only ..).step ((forward_only ..).step .refl)

/-- A request that writes no stall answers with the data of its commit in the state before the commits of its cycle (01 R20). -/
theorem replyData_read {port : Fin 2} {p : List Byte} {w : List Byte} (h : ∀ u, o.targets p u = []) :
    replyData o port p s w = (o.commit port p (beforeCommits s)).data := by
  rw [replyData, if_pos (by simp [h]), commitPoison_of_unpoisoned (by simp [poisonedTargets, h])]

/-- A request that only reads. -/
theorem serve_read (h : served o r s = true) (d : State → List Byte)
    (hc : ∀ u, o.commit r.head.port r.payload u = okData u (d u) := by intros; rfl)
    (ht : ∀ u, o.targets r.payload u = [] := by intros; rfl) (hf : ∀ u, o.halter r.payload u = false := by intros; rfl) :
    serve o r s = respond r.head o.code (replyCycle o r) stOk 0 (d (readState o r s)) (commitState o r s) := by
  rw [serve_ok h (hc _) rfl, replyData_read ht, hc, forward_of_free _ (hf _)]
  rfl

/-! ### Bring-up and ECHO -/

/-- A module in bring-up with PD1 fenced. -/
def fencedBringUp : State :=
  { State.reset with regs := [(0x1FF2, 2#32)], power := { State.reset.power with mode := .bringUp } }

/-- An empty ECHO at cycle 100. -/
def emptyEcho : Req := ⟨⟨0, 0, 0, false, 100, none⟩, []⟩

theorem fencedBringUp_serves_nothing : exec (.echo emptyEcho) fencedBringUp = .next fencedBringUp := by
  have fenced : readyFor fencedBringUp 0 0x0C = none := by decide +kernel
  exact congrArg Host.Outcome.next (by simp only [serve, opEcho, emptyEcho, fenced])

end

/-- Refutes O12: with PD1 fenced no request is answered (01 R38), in bring-up as in RUN. -/
theorem not_requestInBringUp : ¬ Obligations.RequestInBringUp := by
  intro h
  obtain ⟨t, ht, answered⟩ := h (.echo emptyEcho) opEcho emptyEcho fencedBringUp rfl rfl (by decide) (by decide) (by decide)
  rw [fencedBringUp_serves_nothing] at ht
  cases ht
  have noted := congrArg (flag · 0x1007 3) answered
  revert noted
  decide +kernel

/-- Settles O15: ECHO reads its own payload. -/
theorem echoReturnsPayload : Obligations.EchoReturnsPayload := by
  refine ⟨fun r s h => ⟨_, rfl, ?_⟩, fun r s => ?_⟩
  · exact serve_read h fun _ => r.payload
  · exact (noteCommit_only ..).step ((atCommit_only ..).step .refl)

end Sys2Proof.Machine
end

section
/-! SUPPORT. Expert sessions (04 R116-R120): what a match, a mismatch and a close leave of SESSION_STATE, with O18 and O59. -/
set_option Elab.async false

namespace Sys2Proof.Machine

section
variable {o : OpSpec} {r : Req} {s t : State}

/-! ### Fields beside a written one -/

theorem flag_wrFld_beside {id hi lo v i : Nat} (s : State) (h : i < lo ∨ hi < i) (hi32 : i < 32) :
    flag (wrFld s id hi lo v) id i = flag s id i := by
  rw [flag, rd_wrFld, if_pos rfl, bitOf_putBits _ _ _ _ _ hi32, if_neg (by omega), flag]

theorem fld_wrFlag_beside {id i hi lo : Nat} {b : Bool} (s : State) (h : hi < i ∨ i < lo) (hi32 : hi < 32) :
    fld (wrFlag s id i b) id hi lo = fld s id hi lo := by
  rw [fld, rd_wrFlag, if_pos rfl, putBit, bitsOf_putBits_other _ _ _ _ _ _ h hi32, fld]

theorem flag_wrFlag_beside {id i j : Nat} {b : Bool} (s : State) (h : j ≠ i) (hj : j < 32) :
    flag (wrFlag s id i b) id j = flag s id j := by
  rw [flag, rd_wrFlag, if_pos rfl, bitOf_putBit_other _ _ _ _ hj h, flag]

/-! ### SESSION_STATE -/

/-- The count of mismatches of a port in SESSION_STATE (04 R140). -/
def mismatches (s : State) (p : Fin 2) : Nat := fld s 0x1005 (mismatchLo p + 1) (mismatchLo p)

/-- The bits of the mismatch counts lie above those of the sessions, in one word. -/
theorem mismatchLo_bounds (p q : Fin 2) : p.val < mismatchLo q ∧ mismatchLo q + 1 < 32 ∧ p.val < 32 := by
  unfold mismatchLo
  omega

theorem sessionOpen_congr (h : rd t 0x1005 = rd s 0x1005) (p : Fin 2) : sessionOpen t p = sessionOpen s p := flag_congr h

/-- An event leaves SESSION_STATE. -/
theorem rd_raise_session {n a : Nat} (s : State) (hn : n < 128 := by decide) : rd (raise n a s) 0x1005 = rd s 0x1005 :=
  onlyChanges.rd (P := [.line, .ev]) (I := anyEventId) (.raise .refl hn) rfl

theorem sessionOpen_wrFld_mismatches (p q : Fin 2) (v : Nat) (s : State) :
    sessionOpen (wrFld s 0x1005 (mismatchLo q + 1) (mismatchLo q) v) p = sessionOpen s p :=
  flag_wrFld_beside s (.inl (mismatchLo_bounds p q).1) (mismatchLo_bounds p q).2.2

theorem mismatches_wrFld (p : Fin 2) (v : Nat) (s : State) :
    mismatches (wrFld s 0x1005 (mismatchLo p + 1) (mismatchLo p) v) p = v % 4 := by
  rw [mismatches, fld_wrFld_same _ _ _ _ _ (mismatchLo_bounds p p).2.1, show mismatchLo p + 1 + 1 - mismatchLo p = 2 by omega]
  rfl

/-- A match opens the session of its port, and its mismatch count returns to 0 (04 R116). -/
theorem expertMatch_opens (p : Fin 2) (s : State) :
    sessionOpen (expertMatch p s) p = true ∧ mismatches (expertMatch p s) p = 0 := by
  obtain ⟨below, high, bit⟩ := mismatchLo_bounds p p
  unfold expertMatch
  extract_lets s1
  have zeroed : mismatches s1 p = 0 := mismatches_wrFld ..
  split
  next hopen => exact ⟨(sessionOpen_wrFld_mismatches ..).trans hopen, zeroed⟩
  · refine ⟨?_, ?_⟩
    · rw [sessionOpen_congr (rd_raise_session _)]
      exact flag_wrFlag_same _ _ _ _ bit
    · rw [mismatches, fld_congr (rd_raise_session _), fld_wrFlag_beside _ (.inr below) high]
      exact zeroed

/-- A mismatch is counted, up to 3, sets CMD_STICKY bit 0 and leaves the sessions as they are (04 R116, R117). -/
theorem expertDenied_counts (p : Fin 2) (s : State) : (∀ q, sessionOpen (expertDenied p s) q = sessionOpen s q) ∧
    mismatches (expertDenied p s) p = min 3 (mismatches s p + 1) ∧ flag (expertDenied p s) 0x1007 0 = true := by
  unfold expertDenied
  extract_lets n s1 s2
  have kept : s2.regs = s1.regs := by
    unfold s2
    split <;> rfl
  have word : rd (raise 22 p.val s2) 0x1005 = rd (wrFld s 0x1005 (mismatchLo p + 1) (mismatchLo p) n) 0x1005 := by
    rw [rd_raise_session, rd_congr kept]
    exact rd_sticky_other _ _ (by decide)
  refine ⟨fun q => ?_, ?_, ?_⟩
  · rw [sessionOpen_congr word, sessionOpen_wrFld_mismatches]
  · rw [mismatches, fld_congr word, ← mismatches, mismatches_wrFld]
    exact Nat.mod_eq_of_lt (by omega)
  · rw [flag_congr (rd_raise _ _ _ _ (by decide)), flag_congr (rd_congr kept _)]
    exact flag_sticky_same _ _ _ (by decide)

theorem closeSession_closes (p : Fin 2) (n : Nat) (s : State) : sessionOpen (closeSession p n s) p = false := by
  unfold closeSession
  split
  · rw [sessionOpen_congr (rd_raise_session _)]
    exact flag_wrFlag_same _ _ _ _ (by omega)
  next h => simpa using h

theorem closeSession_other {p q : Fin 2} (n : Nat) (s : State) (h : q ≠ p) :
    sessionOpen (closeSession p n s) q = sessionOpen s q := by
  unfold closeSession
  split
  · rw [sessionOpen_congr (rd_raise_session _)]
    exact flag_wrFlag_beside _ (by omega) (by omega)
  · rfl

/-- A closed session keeps all but the cycle at which it closed. -/
theorem closeSession_lastEdge (p q : Fin 2) (n : Nat) (s : State) :
    (vget (closeSession p n s).session q).lastEdge = (vget s.session q).lastEdge := by
  unfold closeSession
  split
  · rw [raise_session, wrFlag_session]
    by_cases e : q = p
    · subst e
      simp
    · simp [vget_vupd_other _ _ _ _ e]
  · rfl

/-! ### EXPERT_OPEN -/

/-- Serving a request leaves the locks of the ports. -/
theorem commitState_lockEnd (o : OpSpec) (r : Req) (s : State) (p : Fin 2) :
    (vget (commitState o r s).session p).lockEnd = (vget s.session p).lockEnd := by
  simp only [commitState, noteCommit_session, atCommit, advance_session, touchSession]
  by_cases e : p = r.head.port
  · subst e
    simp
  · simp [vget_vupd_other _ _ _ _ e]

theorem opExpertOpen_match (hl : (vget s.session r.head.port).lockEnd = none) (hc : leAt r.payload 0 2 = s.nv.code.toNat) :
    opExpertOpen.commit r.head.port r.payload (commitState opExpertOpen r s) =
      okData (expertMatch r.head.port (commitState opExpertOpen r s)) [] := by
  simp [opExpertOpen, commitState_lockEnd, hl, hc, okResult, okData]

theorem opExpertOpen_mismatch (hl : (vget s.session r.head.port).lockEnd = none) (hc : leAt r.payload 0 2 ≠ s.nv.code.toNat) :
    opExpertOpen.commit r.head.port r.payload (commitState opExpertOpen r s) =
      refuse (expertDenied r.head.port (commitState opExpertOpen r s)) stNotPermitted 0 := by
  simp [opExpertOpen, commitState_lockEnd, hl, hc]

/-- A mismatch is answered NOT_PERMITTED: what it leaves is not noted as applied (01 R45). -/
theorem serve_mismatch (h : served opExpertOpen r s = true) (hl : (vget s.session r.head.port).lockEnd = none)
    (hc : leAt r.payload 0 2 ≠ s.nv.code.toNat) : serve opExpertOpen r s = respond r.head 0x0A (replyCycle opExpertOpen r)
      stNotPermitted 0 [] { expertDenied r.head.port (commitState opExpertOpen r s) with arb := (atCommit opExpertOpen r s).arb } := by
  rw [serve_served h (opExpertOpen_mismatch hl hc), forward_of_free _ rfl]
  rfl

theorem respond_notPermitted (h : ReqHead) (op c det : Nat) (d : List Byte) (s : State) :
    respond h op c stNotPermitted det d s =
      sendReply h op (h.lane.val + 4 * (op % 2)) c (replyHead stNotPermitted det ++ d) (sticky s 0x1007 1) := by
  simp [respond, stNotPermitted, stOk]

/-- What a mismatch leaves once it is answered. -/
theorem serve_mismatch_counts (h : served opExpertOpen r s = true) (hl : (vget s.session r.head.port).lockEnd = none)
    (hc : leAt r.payload 0 2 ≠ s.nv.code.toNat) :
    sessionOpen (serve opExpertOpen r s) r.head.port = sessionOpen s r.head.port ∧
    mismatches (serve opExpertOpen r s) r.head.port = min 3 (mismatches s r.head.port + 1) ∧
    flag (serve opExpertOpen r s) 0x1007 0 = true := by
  obtain ⟨sessions, counted, noted⟩ := expertDenied_counts r.head.port (commitState opExpertOpen r s)
  have begun : rd (commitState opExpertOpen r s) 0x1005 = rd s 0x1005 := rd_congr (by simp) _
  rw [serve_mismatch h hl hc, respond_notPermitted]
  generalize expertDenied r.head.port (commitState opExpertOpen r s) = u at *
  have word : ∀ {p a st c b}, rd (sendReply p a st c b (sticky { u with arb := (atCommit opExpertOpen r s).arb } 0x1007 1)) 0x1005 =
      rd u 0x1005 := fun {_ _ _ _ _} => (rd_congr (sendReply_regs ..) _).trans (rd_sticky_other _ _ (by decide))
  refine ⟨?_, ?_, ?_⟩
  · rw [sessionOpen_congr word, sessions, sessionOpen_congr begun]
  · rw [mismatches, fld_congr word, ← mismatches, counted, mismatches, fld_congr begun, mismatches]
  · rw [flag_congr (rd_congr (sendReply_regs ..) _)]
    exact flag_sticky_of_flag _ _ _ (by decide) noted

/-- The arbiter notes a commit: its record of the cycle is another after it. -/
theorem noteCommit_arb_ne (cls port : Nat) (l : List Nat) (s : State) : (noteCommit cls port l s).arb ≠ s.arb := by
  intro h
  have cycle : s.arb.cycle = s.clk.cycle := (congrArg Arbiter.cycle h).symm
  have noted := congrArg (·.applied.length) h
  simp [noteCommit, appliedNow, cycle] at noted

end

/-- Settles O18: what the three requests of a session, its idle limit and the end of the lock leave. -/
theorem expertSessions : Obligations.ExpertSessions := by
  refine ⟨fun r s h hl hc => ?_, fun r s h hl hc => ?_, fun r s h => ?_, fun r s h => ?_, fun p s ho hn => ?_, fun p e s he => ?_⟩
  -- EXPERT_OPEN with the stored code
  · obtain ⟨opened, zeroed⟩ := expertMatch_opens r.head.port (commitState opExpertOpen r s)
    have word := (serve_ok_only h (opExpertOpen_match hl hc)).rd (id := 0x1005) rfl
    exact ⟨_, rfl, (sessionOpen_congr word _).trans opened, (fld_congr word).trans zeroed⟩
  -- EXPERT_OPEN with another code
  · exact ⟨_, rfl, serve_mismatch_counts h hl hc⟩
  -- EXPERT_CLOSE
  · have word := (serve_ok_only (d := []) h rfl).rd (id := 0x1005) rfl
    exact ⟨_, rfl, (sessionOpen_congr word _).trans (closeSession_closes ..)⟩
  -- EXPERT_CODE_SET
  · exact ⟨_, rfl, congrArg NvStore.code ((serve_ok_only (d := []) h rfl).part .nv)⟩
  -- the idle limit
  · refine ⟨_, if_neg (by simp [hn, ho]), closeSession_closes .., ?_⟩
    rw [closeSession_lastEdge, advance_session]
  -- the end of the lock
  · simp only [exec, execExpertLockEnd, he]
    exact ⟨_, rfl, by simp, mismatches_wrFld p 0 _⟩

/-- Refutes O59: a mismatch is refused, and a refused commit is not noted as applied (01 R45), whereas the state that the statement
names has it noted. -/
theorem not_sessionCode : ¬ Obligations.SessionCode := by
  rintro ⟨-, -, mismatch, -⟩
  obtain ⟨h, hl, hc⟩ := Sys2Proof.meets_SessionCode_3
  obtain ⟨t, ht, answered, -⟩ := mismatch _ _ h hl hc
  cases ht
  rw [serve_mismatch h hl hc] at answered
  have arb := congrArg State.arb answered
  rw [respond_arb, respond_arb, (expertDenied_only ..).part .arb] at arb
  exact noteCommit_arb_ne _ _ _ _ arb.symm

end Sys2Proof.Machine
end

section
/-! SUPPORT. Configuration files, restarts and the firmware's repeat (04 R132-R137, 01 R43): what each leaves, and O20. -/
set_option Elab.async false

namespace Sys2Proof.Machine

section
variable {r : Req} {s : State}

theorem vgetD_of_lt {α : Type} {n i : Nat} (v : Vector α n) (d : α) (h : i < n) : vgetD v i d = vget v ⟨i, h⟩ := by
  simp [vgetD, vget, h]

theorem vgetD_vupdN_same {α : Type} {n i : Nat} (v : Vector α n) (f : α → α) (d : α) (h : i < n) :
    vgetD (vupdN v i f) i d = f (vget v ⟨i, h⟩) := by
  rw [vgetD_of_lt _ _ h, vupdN, dif_pos h, vget_vupd_same]

/-! ### Configuration files -/

/-- The load that the first of several chunks opens (04 R132, R133). -/
def openedLoad (port : Fin 2) (p : List Byte) (s : State) : OpenLoad :=
  ⟨port, leAt p 0 2, leAt p 4 4, 1, p.drop 8, s.clk.cycle⟩

theorem opConfigFileLoad_first {port : Fin 2} {p : List Byte} (h0 : leAt p 2 2 = 0) (hl : 4076 < leAt p 4 4) (s : State) :
    opConfigFileLoad.commit port p s = okData { s with load := { s.load with
      load := some (openedLoad port p s), kind := leAt p 0 2, next := 1, got := (p.drop 8).length } } [] := by
  have more : ¬ leAt p 4 4 ≤ 4076 := by omega
  simp [opConfigFileLoad, lastChunk, chunkHead, chunkAt, loadNext, loadedBytes, openedLoad, h0, more, okResult, okData]

theorem execConfigFileStored_stores {c k : Nat} {f : List Byte} {q : List (Nat × List Byte)}
    (h : s.load.storing = (k, f) :: q) (hk : k < 5) : ∃ t, execConfigFileStored c true s = .next t ∧ t.load.storing = q ∧
      t.load.ended = 3 ∧ t.nv.files.toList.getD k [] = f := by
  simp only [execConfigFileStored, advance_load, h]
  refine ⟨_, rfl, ?_, ?_, ?_⟩
  · rw [raise_load]
  · rw [raise_load]
    rfl
  · rw [raise_nv]
    exact vgetD_vupdN_same _ _ _ hk

/-! ### The firmware's repeat -/

/-- A repeat of the firmware's own write that a commit of the cycle bars is counted and kept for 8 cycles later. -/
theorem execFirmwareRepeat_barred {c : Nat} {w : FwWrite} {p : ParamRow} (hp : paramRow w.id = some p) (hl : s.arb.fwLost = none)
    (ha : arbitrate 3 4 [w.id] (bump (advance c s) 0x1312 15 0 1) = none) : ∃ a : Arbiter, execFirmwareRepeat c [w] s =
      .next { bump (advance c s) 0x1312 15 0 1 with arb := { a with fwLost := some ((advance c s).clk.cycle + 8, [w]) } } := by
  refine ⟨(bump (advance c s) 0x1312 15 0 1).arb, ?_⟩
  simp only [execFirmwareRepeat, hl, List.filterMap_cons, hp, List.filterMap_nil, List.map_cons, List.map_nil, ha, bump_clk]

/-- A repeat of the firmware's own write that nothing bars is counted and applied. -/
theorem execFirmwareRepeat_applied {c : Nat} {w : FwWrite} {p : ParamRow} (hp : paramRow w.id = some p) (hl : s.arb.fwLost = none)
    (ha : (arbitrate 3 4 [w.id] (bump (advance c s) 0x1312 15 0 1)).isSome = true) :
    ∃ a : Arbiter, execFirmwareRepeat c [w] s =
      .next (wrAll { bump (advance c s) 0x1312 15 0 1 with arb := a } [(w.id, w.value &&& p.mask fun _ => true)]) := by
  unfold arbitrate at ha
  split at ha
  · simp at ha
  next hb =>
    refine ⟨{ (noteCommit 3 4 [w.id] (bump (advance c s) 0x1312 15 0 1)).arb with fwLost := none }, ?_⟩
    simp only [execFirmwareRepeat, hl, List.filterMap_cons, hp, List.filterMap_nil, List.map_cons, List.map_nil, arbitrate, hb]
    rfl

theorem fld_bump_repeats (c : Nat) (s : State) :
    fld (bump (advance c s) 0x1312 15 0 1) 0x1312 15 0 = satAdd 16 (fld s 0x1312 15 0) 1 := by
  rw [fld_bump_same _ _ _ _ _ (by decide), fld_congr (rd_advance ..)]

end

/-- Settles O20: the first chunk and the end of a load, the background store, the two restarts and the firmware's repeat. -/
theorem configFilesAndRestarts : Obligations.ConfigFilesAndRestarts := by
  refine ⟨fun r s h h0 hl => ?_, fun l s hl => ?_, fun c k f q s hs hk => execConfigFileStored_stores hs hk, fun r s h => ?_,
    fun r s h => ?_, fun c w p s hp hl ha => ?_, fun c id w p s hp hl hw hid ha => ?_⟩
  -- CONFIG_FILE_LOAD's first chunk
  · have left := serve_ok_only h (opConfigFileLoad_first h0 hl _)
    refine ⟨_, exec_served rfl h, congrArg LoadUnit.load (left.part .load), ?_⟩
    exact (left.part .nv).trans (commitState_nv ..)
  -- ten seconds without a chunk
  · simp only [exec, execConfigLoadTimeout, hl]
    exact ⟨_, rfl, rfl, rfl, by simp [abandonLoad]⟩
  -- YARD_RESTART
  · refine ⟨_, rfl, ((serve_ok_only (d := []) h rfl).part .restart).trans ?_⟩
    rw [commitState_restart]
  -- MODULE_RESET
  · refine ⟨_, rfl, ((serve_ok_only (d := []) h rfl).part .restart).trans ?_⟩
    rw [commitState_restart]
  -- a repeat that is barred
  · obtain ⟨a, hx⟩ := execFirmwareRepeat_barred hp hl ha
    refine ⟨_, hx, rfl, fld_bump_repeats c s, fun hne => ?_⟩
    exact (rd_bump_other _ _ _ _ hne).trans (rd_advance ..)
  -- a repeat that is applied
  · subst hw
    obtain ⟨a, hx⟩ := execFirmwareRepeat_applied hp hl ha
    refine ⟨_, hx, ?_, rd_wr_same .., by simp [wrAll]⟩
    exact (fld_congr (rd_wr_other _ _ _ _ hid.symm)).trans (fld_bump_repeats c s)

end Sys2Proof.Machine
end

section
/-! SUPPORT. The data of the opcodes that read (04 R124-R135 and the opcode sections of the other chapters): fields of a row of bytes,
and O16. -/
set_option Elab.async false

namespace Sys2Proof.Machine

section
variable {o : OpSpec} {r : Req} {s t : State}

/-! ### Fields of a row of bytes -/

@[simp] theorem wordBytes_length (w : Word) : (wordBytes w).length = 4 := leBytes_length ..

@[simp] theorem zeroBytes_length (n : Nat) : (zeroBytes n).length = n := List.length_replicate

theorem byteAt_append_right {a b : List Byte} {n : Nat} (h : a.length ≤ n) : byteAt (a ++ b) n = byteAt b (n - a.length) := by
  simp [byteAt, List.getElem?_append_right h]

theorem leAt_append_right {a b : List Byte} {n k : Nat} (h : a.length ≤ n) : leAt (a ++ b) n k = leAt b (n - a.length) k := by
  simp [leAt, List.drop_append, List.drop_eq_nil_of_le h]

theorem wordAt_append_right {a b : List Byte} {n : Nat} (h : a.length ≤ n) : wordAt (a ++ b) n = wordAt b (n - a.length) := by
  rw [wordAt, leAt_append_right h, wordAt]

@[simp] theorem byteAt_leBytes (n : Nat) (l : List Byte) : byteAt (leBytes 1 n ++ l) 0 = n % 256 := by
  simp [byteAt, leBytes]

@[simp] theorem leAt_leBytes (k n : Nat) (l : List Byte) : leAt (leBytes k n ++ l) 0 k = n % 256 ^ k := by
  rw [leAt, List.drop_zero, List.take_append_of_le_length (by simp), List.take_of_length_le (by simp), leNat_leBytes]

@[simp] theorem wordAt_wordBytes (w : Word) (l : List Byte) : wordAt (wordBytes w ++ l) 0 = w := by
  rw [wordAt, wordBytes, leAt_leBytes]
  exact BitVec.eq_of_toNat_eq (by simpa using w.isLt)

theorem fld_lt (s : State) (id hi lo : Nat) : fld s id hi lo < 2 ^ (hi + 1 - lo) := Nat.mod_lt _ (Nat.two_pow_pos _)

/-! ### The data of replies -/

theorem identData_layout (s : State) : (identData s).length = 32 ∧ byteAt (identData s) 0 = unitNumber s ∧
    byteAt (identData s) 1 = fld s 0x1001 7 0 ∧ leAt (identData s) 2 2 = fld s 0x1002 15 0 ∧ leAt (identData s) 24 2 = 48 := by
  have unit : unitNumber s < 2 := fld_lt s 0x1003 0 0
  have part : partName.length = 16 := rfl
  refine ⟨?_, ?_, ?_, ?_, ?_⟩
  · simp [identData, part]
  · simp [identData]
    omega
  · simp [identData, byteAt_append_right]
    exact fld_lt s 0x1001 7 0
  · simp [identData, leAt_append_right]
    exact fld_lt s 0x1002 15 0
  · simp [identData, leAt_append_right, part]

theorem statusData_layout (p : Fin 2) (s : State) : (statusData p s).length = 24 ∧ byteAt (statusData p s) 0 = moduleState s ∧
    leAt (statusData p s) 4 4 = s.clk.beat % 2 ^ 32 ∧ leAt (statusData p s) 12 2 = (readable s).length % 65536 := by
  have state : moduleState s < 8 := fld_lt s 0x1004 2 0
  refine ⟨?_, ?_, ?_, ?_⟩
  · simp [statusData]
  · simp [statusData]
    omega
  · simp [statusData, leAt_append_right]
  · simp [statusData, leAt_append_right]

/-- A parameter that is described has a row, and its identifier stands in the reply (04 R131). -/
theorem opParamDescribe_describes {port : Fin 2} {p : List Byte} (h : (paramRow (leAt p 0 2)).isSome = true) (s : State) :
    opParamDescribe.commit port p s = okData s (opParamDescribe.commit port p s).data ∧
    leAt (opParamDescribe.commit port p s).data 2 2 = leAt p 0 2 % 65536 := by
  obtain ⟨row, hrow⟩ := Option.isSome_iff_exists.1 h
  simp [opParamDescribe, hrow, okData, leAt_append_right]

theorem leAt_lt (p : List Byte) (n k : Nat) : leAt p n k < 256 ^ k := by
  have bytes : ∀ l : List Byte, leNat l < 256 ^ l.length := fun l => by
    induction l with
    | nil => simp [leNat]
    | cons b l ih =>
      have := b.isLt
      simp only [leNat, List.length_cons, pow_succ]
      omega
  exact (bytes _).trans_le (Nat.pow_le_pow_right (by decide) (List.length_take_le ..))

/-- The field checks of a served request have passed. -/
theorem served_check (h : served o r s = true) : o.check r.head.port r.payload (atCommit o r s) = none := by
  obtain ⟨-, passes, -, -⟩ := served_iff.1 h
  by_contra failed
  obtain ⟨x, hx⟩ := Option.ne_none_iff_exists'.1 failed
  simp only [refusal, hx] at passes
  (repeat' split at passes) <;> cases passes

/-! ### Reading requests -/

/-- The parts that a reading request finds as they were: all but session, clock and arbiter. -/
theorem readState_only (o : OpSpec) (r : Req) (s : State) :
    onlyChanges [.session, .arb] (fun _ => true) s (readState o r s) :=
  have committed : onlyChanges [.session, .arb] (fun _ => true) s (commitState o r s) :=
    (noteCommit_only ..).step ((atCommit_only ..).step .refl)
  .regs committed (by simp)

theorem beat_of_same (h : Part.clk.same s t) : t.clk.beat = s.clk.beat := by
  have hc := congrArg Clock.beat h
  exact hc

/-- A request that only reads is answered with the data of its commit in the state before the commits of its cycle. -/
theorem exec_read {cmd : Req → Instr} (h : served o r s = true)
    (hx : ∀ r s, exec (cmd r) s = .next (serve o r s) := by intros; rfl)
    (hc : ∀ u, o.commit r.head.port r.payload u = okData u (o.commit r.head.port r.payload u).data := by intros; rfl)
    (ht : ∀ u, o.targets r.payload u = [] := by intros; rfl) (hf : ∀ u, o.halter r.payload u = false := by intros; rfl) :
    exec (cmd r) s = .next (respond r.head o.code (replyCycle o r) stOk 0
      (o.commit r.head.port r.payload (readState o r s)).data (commitState o r s)) :=
  (hx r s).trans (congrArg _ (serve_read h (fun u => (o.commit r.head.port r.payload u).data) hc ht hf))

end

/-- Settles O16: each of the nine opcodes only reads, and the layout of its data gives the fields. -/
theorem readsAnswer : Obligations.ReadsAnswer := by
  refine ⟨?_, ?_, ?_, ?_, ?_, ?_, ?_, ?_, ?_⟩
  -- IDENT
  · intro r s x h
    exact ⟨_, exec_read h, rfl, identData_layout _⟩
  -- STATUS
  · intro r s x h
    obtain ⟨length, state, beat, events⟩ := statusData_layout r.head.port (readState opStatus r s)
    exact ⟨_, exec_read h, rfl, length, state, by rw [← beat_of_same ((readState_only ..).part .clk)]; exact beat, events⟩
  -- PARAM_DESCRIBE
  · intro r s x h
    have row : (paramRow (leAt r.payload 0 2)).isSome = true := by
      have passed := served_check h
      by_contra hn
      simp [opParamDescribe, Option.not_isSome_iff_eq_none.1 hn] at passed
    refine ⟨_, exec_read h (hc := fun u => (opParamDescribe_describes row u).1), rfl, ?_⟩
    exact (opParamDescribe_describes row _).2.trans (Nat.mod_eq_of_lt (leAt_lt r.payload 0 2))
  -- CONFIG_FILE_STATUS
  · intro r s x h
    exact ⟨_, exec_read h, rfl, by simp [x, opConfigFileStatus, okData], by simp [x, opConfigFileStatus, okData]⟩
  -- TRACK_LIST_READ
  · intro r s x h
    refine ⟨_, exec_read h, rfl, ?_⟩
    rw [← show (readState opTrackListRead r s).fus = s.fus from (readState_only ..).part .fus]
    rfl
  -- ALLOC_RESULT_READ
  · intro r s x h
    exact ⟨_, exec_read h, rfl, rfl⟩
  -- AXIS_STATUS_READ
  · intro r s x h
    have axes : axisAt s = axisAt (readState opAxisStatusRead r s) := by
      unfold axisAt
      rw [show (readState opAxisStatusRead r s).servo = s.servo from (readState_only ..).part .servo]
    refine ⟨_, exec_read h, rfl, ?_⟩
    rw [axes]
    simp [x, opAxisStatusRead, okData, byteAt_append_right, wordAt_append_right]
  -- CHANNEL_READ
  · intro r s x h
    refine ⟨_, exec_read h, rfl, ?_⟩
    rw [fieldChan, ← show (readState opChannelRead r s).field = s.field from (readState_only ..).part .field, ← fieldChan]
    simp [x, opChannelRead, okData, byteAt_append_right]
  -- BANK_STATUS_READ
  · intro r s x h
    refine ⟨_, exec_read h, rfl, ?_⟩
    rw [bankAt, ← show (readState opBankStatusRead r s).field = s.field from (readState_only ..).part .field, ← bankAt]
    simp [x, opBankStatusRead, okData]

end Sys2Proof.Machine
end

section
/-! SUPPORT. The reads that take something with them: events, counters and free values (04 R127-R129, 05 R169, 13 R404, 16 R494), and
O17. -/
set_option Elab.async false

namespace Sys2Proof.Machine

section
variable {o : OpSpec} {r : Req} {s t : State}

/-! ### POWER_STATUS_READ -/

theorem powerCode_congr (h : Part.power.same s t) : powerCode t = powerCode s := by
  have mode : t.power.mode = s.power.mode := by have hp := congrArg Power.mode h; exact hp
  have cold : t.power.cold = s.power.cold := by have hp := congrArg Power.cold h; exact hp
  simp only [powerCode, mode, cold]

theorem opPowerStatusRead_layout (port : Fin 2) (p : List Byte) (s : State) :
    (opPowerStatusRead.commit port p s).data.length = 20 ∧ byteAt (opPowerStatusRead.commit port p s).data 0 = powerCode s % 256 := by
  have data : ∃ l, (opPowerStatusRead.commit port p s).data = leBytes 1 (powerCode s) ++ l := by
    simp only [opPowerStatusRead, okData, List.append_assoc]
    exact ⟨_, rfl⟩
  obtain ⟨l, hl⟩ := data
  exact ⟨by simp [opPowerStatusRead, okData], by rw [hl, byteAt_leBytes]⟩

/-! ### EVENTS_READ -/

/-- The entries that EVENTS_READ takes (04 R128). -/
def takenEvents (p : List Byte) (s : State) : Nat := min (byteAt p 0) (readable s).length

/-- The state without the oldest events. -/
def dropEvents (n : Nat) (s : State) : State := { s with ev := { s.ev with queue := s.ev.queue.drop n } }

theorem takenEvents_lt (p : List Byte) (s : State) : takenEvents p s < 256 :=
  (min_le_left ..).trans_lt (p.getD 0 0).isLt

theorem opEventsRead_takes {port : Fin 2} {p : List Byte} (h : byteAt p 1 = 0) (s : State) : ∃ l,
    opEventsRead.commit port p s = okData (dropEvents (takenEvents p s) s) (leBytes 1 (takenEvents p s) ++ (zeroBytes 1 ++
      (leBytes 2 (readable (dropEvents (takenEvents p s) s)).length ++ l))) := by
  have taken : ((readable s).take (byteAt p 0)).length = takenEvents p s := List.length_take
  refine ⟨((readable s).take (byteAt p 0)).flatMap entryBytes, ?_⟩
  simp only [opEventsRead, h, taken, List.append_assoc]
  rfl

theorem opEventsRead_peeks {port : Fin 2} {p : List Byte} (h : byteAt p 1 = 1) (s : State) : ∃ l,
    opEventsRead.commit port p s = okData s (leBytes 1 (takenEvents p s) ++ (zeroBytes 1 ++
      (leBytes 2 (readable s).length ++ l))) := by
  have taken : ((readable s).take (byteAt p 0)).length = takenEvents p s := List.length_take
  refine ⟨((readable s).take (byteAt p 0)).flatMap entryBytes, ?_⟩
  simp only [opEventsRead, h, taken, List.append_assoc]
  rfl

theorem eventBytes_layout {n m : Nat} (hn : n < 256) (l : List Byte) :
    byteAt (leBytes 1 n ++ (zeroBytes 1 ++ (leBytes 2 m ++ l))) 0 = n ∧
    leAt (leBytes 1 n ++ (zeroBytes 1 ++ (leBytes 2 m ++ l))) 2 2 = m % 65536 := by
  refine ⟨?_, ?_⟩
  · rw [byteAt_leBytes, Nat.mod_eq_of_lt hn]
  · simp [leAt_append_right]

/-! ### Requests that write what they read -/

/-- The answer to a request that writes a stall: the data of its own commit. -/
theorem serve_written {d : List Byte} {u : State} (h : served o r s = true)
    (hc : o.commit r.head.port r.payload (commitState o r s) = okData u d)
    (ht : o.targets r.payload (commitState o r s) ≠ []) (hf : ∀ u, o.halter r.payload u = false := by intros; rfl) :
    serve o r s = respond r.head o.code (replyCycle o r) stOk 0 d u := by
  rw [serve_ok h hc rfl, replyData, if_neg (by simpa using ht)]
  exact congrArg _ (forward_of_free _ (hf _))

/-! ### CAN_STATUS_READ and REF_STATUS_READ -/

/-- Registers that are set one after another, an identifier among them with one word alone. -/
theorem regGet_foldl_of_mem {α : Type} {l : List α} {key : α → Nat} {val : α → Word} {id : Nat} {w : Word}
    (hm : ∃ x ∈ l, key x = id) (hw : ∀ x ∈ l, key x = id → val x = w) (r : Regs) :
    regGet (l.foldl (fun r x => regSet r (key x) (val x)) r) id = w := by
  induction l using List.reverseRecOn with
  | nil => simp at hm
  | append_singleton l x ih =>
    rw [List.foldl_append, List.foldl_cons, List.foldl_nil, regGet_regSet]
    split
    next hid => exact hw x (by simp) hid.symm
    next hid =>
      obtain ⟨y, hy, hyid⟩ := hm
      have hyl : y ∈ l := by
        rcases List.mem_append.1 hy with h | h
        · exact h
        · simp only [List.mem_singleton] at h
          exact absurd (h ▸ hyid.symm) hid
      exact ih ⟨y, hyl, hyid⟩ fun z hz => hw z (by simp [hz])

theorem regs_foldl_wr (l : List (Nat × Word)) (s : State) :
    (l.foldl (fun s x => wr s x.1 x.2) s).regs = l.foldl (fun r x => regSet r x.1 x.2) s.regs := by
  induction l generalizing s with
  | nil => rfl
  | cons x l ih => exact ih _

/-- The counters of a controller that CAN_STATUS_READ clears. -/
def clearedCounters (b : Nat) : List (Nat × Word) := (List.range 6).map fun i => (canId b (0x20 + i), 0)

theorem opCanStatusRead_clears {port : Fin 2} {p : List Byte} (h : byteAt p 1 = 1) (s : State) :
    ∃ d, opCanStatusRead.commit port p s =
      okData (updCan (byteAt p 0) (fun u => { u with remote := 0 }) (wrAll s (clearedCounters (byteAt p 0)))) d := by
  simp only [opCanStatusRead, h, if_true]
  exact ⟨_, rfl⟩

theorem rd_clearedCounters (b : Nat) (k : Fin 6) (s : State) : rd (wrAll s (clearedCounters b)) (canId b (0x20 + k.val)) = 0 :=
  (congrArg (regGet · _) (regs_foldl_wr _ _)).trans <| regGet_foldl_of_mem
    ⟨(canId b (0x20 + k.val), 0), List.mem_map.2 ⟨k.val, List.mem_range.2 k.isLt, rfl⟩, rfl⟩
    (fun x hx _ => by obtain ⟨i, -, rfl⟩ := List.mem_map.1 hx; rfl) _

theorem rd_updCan (b : Nat) (f : CanCtl → CanCtl) (s : State) (id : Nat) : rd (updCan b f s) id = rd s id := rfl

theorem canAt_updCan {b : Nat} (f : CanCtl → CanCtl) (s : State) (h : b < 4) : canAt (updCan b f s) b = f (canAt s b) :=
  (vgetD_vupdN_same _ _ _ h).trans (congrArg f (vgetD_of_lt _ _ h).symm)

theorem srcUnit_updCount {q : Nat} (f : SrcCount → SrcCount) (s : State) (h : q < 32) :
    (srcUnit (updCount q f s) q).count = f (srcUnit s q).count := by
  rw [srcUnit, updCount, updSrc, vgetD_vupdN_same _ _ _ h, srcUnit, vgetD_of_lt _ _ h]

theorem firstBad_none {b : Bool} {n : Nat} {l : List (Bool × Nat)} (h : firstBad ((b, n) :: l) = none) :
    b = true ∧ firstBad l = none := by
  cases b
  · simp [firstBad] at h
  · exact ⟨rfl, h⟩

/-- A served CAN_STATUS_READ with CLEAR leaves the controller's counters at 0. -/
theorem serve_opCanStatusRead_clears (h : served opCanStatusRead r s = true) (hp : byteAt r.payload 1 = 1) :
    (∀ k : Fin 6, rd (serve opCanStatusRead r s) (canId (byteAt r.payload 0) (0x20 + k.val)) = 0) ∧
    (canAt (serve opCanStatusRead r s) (byteAt r.payload 0)).remote = 0 := by
  obtain ⟨bus, -⟩ := firstBad_none (served_check h)
  obtain ⟨d, hx⟩ := opCanStatusRead_clears (port := r.head.port) hp (commitState opCanStatusRead r s)
  have left := serve_ok_only h hx
  refine ⟨fun k => ?_, ?_⟩
  · rw [left.rd (noId_apply _)]
    rw [rd_updCan, rd_clearedCounters]
  · rw [canAt, show (serve opCanStatusRead r s).can = _ from left.part .can, ← canAt,
      canAt_updCan _ _ (Nat.lt_succ_of_le (by simpa using bus))]

/-- REF_STATUS_READ with CLEAR answers the counters and leaves them at 0. -/
theorem opRefStatusRead_clears {port : Fin 2} {p : List Byte} (h : byteAt p 1 = 1) (s : State) :
    opRefStatusRead.commit port p s = okData (updCount (byteAt p 0) (fun _ => zeroCount) s) (refStatusData (byteAt p 0) s) := by
  simp only [opRefStatusRead, h, if_true]

end

/-- Settles O17: each read's answer, with the layout of its data, and what it takes with it. -/
theorem readsAnswerMore : Obligations.ReadsAnswerMore := by
  refine ⟨?_, ?_, ?_, ?_, ?_, ?_, ?_, ?_, ?_⟩
  -- TIME_READ
  · intro r s x h
    refine ⟨_, exec_read h, rfl, ?_⟩
    rw [timeQ, ← show (readState opTimeRead r s).time = s.time from (readState_only ..).part .time, ← timeQ]
    simp [x, opTimeRead, okData, leAt_append_right, byteAt_append_right]
  -- GNSS_STATUS_READ
  · intro r s x h
    exact ⟨_, exec_read h, rfl, rfl⟩
  -- TWIN_STATUS_READ
  · intro r s x h
    refine ⟨_, exec_read h, rfl, ?_⟩
    rw [← show (readState opTwinStatusRead r s).twin = s.twin from (readState_only ..).part .twin]
    simp [x, opTwinStatusRead, okData, leAt_append_right]
  -- POWER_STATUS_READ
  · intro r s x y h
    obtain ⟨length, code⟩ := opPowerStatusRead_layout r.head.port r.payload (readState opPowerStatusRead r s)
    refine ⟨_, rfl, ?_, length, code.trans ?_, ?_⟩
    · rw [serve_ok h rfl rfl, replyData_read (fun _ => rfl), forward_of_free _ rfl]
      rfl
    · rw [powerCode_congr ((readState_only ..).part .power)]
    · rw [← commitState_free opPowerStatusRead r s]
      rfl
  -- EVENTS_READ
  · intro r s u q x h hp
    obtain ⟨l, hx⟩ := opEventsRead_takes (port := r.head.port) hp u
    obtain ⟨count, left⟩ := eventBytes_layout (m := (readable (dropEvents (takenEvents r.payload u) u)).length)
      (takenEvents_lt r.payload u) l
    have hx' : x = _ := hx
    rw [hx']
    refine ⟨_, rfl, serve_written h hx (by simp [opEventsRead, hp]), ?_, count, left⟩
    simp [okData, dropEvents, takenEvents, q, u]
  -- EVENTS_READ with PEEK
  · intro r s x h hp
    obtain ⟨l, hx⟩ := opEventsRead_peeks (port := r.head.port) hp (readState opEventsRead r s)
    obtain ⟨count, left⟩ := eventBytes_layout (m := (readable (readState opEventsRead r s)).length)
      (takenEvents_lt r.payload (readState opEventsRead r s)) l
    have hx' : x = _ := hx
    refine ⟨_, exec_read h (hc := fun u => ?_) (ht := fun _ => by simp [opEventsRead, hp]), rfl, ?_, ?_⟩
    · obtain ⟨d, hd⟩ := opEventsRead_peeks (port := r.head.port) hp u
      rw [hd]
      rfl
    · rw [hx']
      exact count
    · rw [hx']
      exact left
  -- CAN_STATUS_READ with CLEAR
  · exact fun r s h hp => ⟨_, rfl, serve_opCanStatusRead_clears h hp⟩
  -- REF_STATUS_READ with CLEAR
  · intro r s x h hp
    obtain ⟨source, -⟩ := firstBad_none (served_check h)
    have hx : x = _ := opRefStatusRead_clears hp _
    rw [hx]
    refine ⟨_, rfl, serve_written h hx (by simp [opRefStatusRead, hp]), ?_, rfl⟩
    exact srcUnit_updCount _ _ (Nat.lt_succ_of_le (by simpa using source))
  -- PARAM_READ
  · intro r s u h
    exact ⟨_, rfl, serve_read h (fun u => (readIds r.payload).flatMap fun id => wordBytes (shownWord u id))
      (fun u => by simp [opParamRead, okData])⟩

end Sys2Proof.Machine
end

section
/-! SUPPORT. What a PARAM_WRITE leaves (04 R130, 01 R535): the words of its entries and the effects beside them, for any payload and for
the rows that are a write of one setting; and O19. -/
set_option Elab.async false

namespace Sys2Proof.Machine

section
variable {r : Req} {l : List Entry} {s t : State}

/-! ### The entries of a row's payload -/

theorem drop_writePayload (l : List Entry) (i : Nat) : (writePayload l).drop (4 + 6 * i) = (l.drop i).flatMap entryPayload := by
  have shape : writePayload l = (leBytes 2 l.length ++ zeroBytes 2) ++ l.flatMap entryPayload := rfl
  rw [shape, List.drop_append, List.drop_eq_nil_of_le (by simp), ← drop_flatMap_entryPayload]
  simp

theorem leAt_drop (p : List Byte) (m n k : Nat) : leAt (p.drop m) n k = leAt p (m + n) k := by
  rw [leAt, List.drop_drop, leAt]

/-- The payload of a row carries the row's entries, in their order. -/
theorem payloadEntries_row (h : ∀ e ∈ l, e.1 < 65536) : payloadEntries (writePayload l) = l := by
  have entries : ((writePayload l).length - 4) / 6 = l.length := by
    simp [writePayload, List.length_flatMap]
    omega
  refine List.ext_getElem (by simp [payloadEntries, entries]) fun i hi hil => ?_
  have at2 : (writePayload l).drop (4 + 6 * i) = leBytes 2 l[i].1 ++ (wordBytes l[i].2 ++ (l.drop (i + 1)).flatMap entryPayload) := by
    rw [drop_writePayload, List.drop_eq_getElem_cons hil, List.flatMap_cons, entryPayload, List.append_assoc]
  have id : leAt (writePayload l) (4 + 6 * i) 2 = l[i].1 := by
    rw [← Nat.add_zero (4 + 6 * i), ← leAt_drop, at2, leAt_leBytes]
    exact Nat.mod_eq_of_lt (h _ (List.getElem_mem hil))
  have word : wordAt (writePayload l) (6 + 6 * i) = l[i].2 := by
    rw [wordAt, show 6 + 6 * i = 4 + 6 * i + 2 by omega, ← leAt_drop, at2, ← wordAt, wordAt_append_right (by simp)]
    simp
  simp [payloadEntries, id, word]

theorem mem_someEntries_iff {l : List (Nat × Option Word)} {e : Entry} : e ∈ someEntries l ↔ (e.1, some e.2) ∈ l := by
  simp only [someEntries, List.mem_filterMap]
  refine ⟨fun ⟨x, hx, he⟩ => ?_, fun h => ⟨_, h, rfl⟩⟩
  split at he
  next w hw =>
    cases he
    rw [← hw]
    exact hx
  · cases he

/-- The entries of a row of two settings. -/
theorem mem_pair {a b : Nat} {x y : Option Word} {e : Entry} :
    e ∈ someEntries [(a, x), (b, y)] ↔ (e.1 = a ∧ x = some e.2) ∨ (e.1 = b ∧ y = some e.2) := by
  simp [mem_someEntries_iff, eq_comm]

theorem pair_short {a b : Nat} {x y : Option Word} (hl : a < 65536 ∧ b < 65536) :
    ∀ e ∈ someEntries [(a, x), (b, y)], e.1 < 65536 := by
  intro e he
  rcases mem_pair.1 he with ⟨ha, -⟩ | ⟨hb, -⟩
  · exact ha ▸ hl.1
  · exact hb ▸ hl.2

/-- A PARAM_WRITE without entries is not served (04 R123). -/
theorem row_ne_nil {h : ReqHead} (hs : served opParamWrite ⟨h, writePayload l⟩ s = true) : l ≠ [] := by
  rintro rfl
  obtain ⟨-, passes, -, -⟩ := served_iff.1 hs
  have short : lenOk 0x08 (writePayload []).length = false := by decide
  simp [refusal, opParamWrite, short] at passes

/-! ### The words -/

/-- The registers that the effects of a write may touch beside the written ones. -/
def besideIds (id : Nat) : Bool := anyEventId id || [0x1005, 0x150A, 0x2101, 0x4010, 0x4011, 0x4014, 0x7206].contains id

@[simp] theorem besideIds_iff {id : Nat} : besideIds id = true ↔ anyEventId id = true ∨
    id = 0x1005 ∨ id = 0x150A ∨ id = 0x2101 ∨ id = 0x4010 ∨ id = 0x4011 ∨ id = 0x4014 ∨ id = 0x7206 := by
  simp [besideIds]

/-- The effects of a write touch none of the sources, and of the registers those beside the written ones. -/
theorem writeEffects_beside (b : State) (l : List Entry) (s : State) :
    onlyChanges [.fus, .ctl, .time, .line, .ev, .eth, .gnss, .session, .power] besideIds s (writeEffects b l s) := by
  unfold writeEffects
  dsimp only
  refine .opt (.opt (.opt ?_ fun _ => (supplyEffect_only _).step .refl) fun _ => (fillEffect_only b 0 _).step .refl)
    fun _ => (fillEffect_only b 1 _).step .refl
  refine .opt (.opt (.opt ?_ fun _ => (gnssEffect_only b _).step .refl (hI := by simp +contextual [or_imp]))
    fun _ => (closeSession_only 1 2 _).step .refl) fun _ => .set rfl .refl
  refine .opt (.opt ?_ fun _ => (ethEffect_only b 0 _).step .refl) fun _ => (ethEffect_only b 1 _).step .refl
  refine .opt (.opt (.opt (.opt ?_ fun _ => (slotEffect_only b 0 _).step .refl) fun _ => (slotEffect_only b 1 _).step .refl)
    fun _ => (selectEffect_only _).step .refl) fun _ => .set rfl .refl
  exact .opt .refl fun _ => .set rfl (.wr (.set rfl .refl))

/-! ### What a served write leaves -/

/-- A written register holds the word of its entry (04 R130). -/
theorem rd_applyEntries {id : Nat} {v : Word} (hm : (id, v) ∈ l) (one : ∀ e ∈ l, e.1 = id → e.2 = v)
    (hb : besideIds id = false) (s : State) : rd (applyEntries l s) id = writtenWord s id v := by
  unfold applyEntries
  dsimp only
  generalize hu : (if l.any (·.1 == 0x7200) then anchorSigma s else s) = u
  have word : writtenWord u id v = writtenWord s id v := by
    rw [← hu]
    split <;> rfl
  rw [(writeEffects_beside ..).rd hb, ← word]
  exact regGet_foldl_of_mem (key := (·.1)) (val := fun e => writtenWord u e.1 e.2) ⟨_, hm, rfl⟩
    (fun e he h => congrArg₂ (writtenWord u) h (one e he h)) _

/-- The answer to a row's write leaves what the row's entries leave. -/
theorem row_applied {h : ReqHead} (hl : ∀ e ∈ l, e.1 < 65536) (hs : served opParamWrite ⟨h, writePayload l⟩ s = true) :
    onlyChanges [.host, .line, .eth, .twin] noId (applyEntries l (commitState opParamWrite ⟨h, writePayload l⟩ s))
      (serve opParamWrite ⟨h, writePayload l⟩ s) := by
  have answer := serve_ok_only (o := opParamWrite) (d := []) hs rfl
  rwa [payloadEntries_row hl] at answer

/-- A row's write stores the words of its entries. -/
theorem row_word {h : ReqHead} {id : Nat} {v : Word} (hs : served opParamWrite ⟨h, writePayload l⟩ s = true)
    (hl : ∀ e ∈ l, e.1 < 65536) (hm : (id, v) ∈ l) (one : ∀ e ∈ l, e.1 = id → e.2 = v) (hb : besideIds id = false) :
    rd (serve opParamWrite ⟨h, writePayload l⟩ s) id = writtenWord (commitState opParamWrite ⟨h, writePayload l⟩ s) id v := by
  rw [(row_applied hl hs).rd (noId_apply _)]
  exact rd_applyEntries hm one hb _

/-- The rows that write one setting. -/
theorem row_word_one {h : ReqHead} {id : Nat} {v : Word} (hs : served opParamWrite ⟨h, writePayload [(id, v)]⟩ s = true)
    (hl : id < 65536) (hb : besideIds id = false) : rd (serve opParamWrite ⟨h, writePayload [(id, v)]⟩ s) id =
      writtenWord (commitState opParamWrite ⟨h, writePayload [(id, v)]⟩ s) id v :=
  row_word hs (by simpa using hl) (by simp) (by simp) hb

/-- The rows that write two settings, either of which may be left out. -/
theorem row_word_pair {h : ReqHead} {a b : Nat} {x y : Option Word}
    (hs : served opParamWrite ⟨h, writePayload (someEntries [(a, x), (b, y)])⟩ s = true) (hab : a ≠ b)
    (hl : a < 65536 ∧ b < 65536) (hb : besideIds a = false ∧ besideIds b = false) :
    (∀ w ∈ x, rd (serve opParamWrite ⟨h, writePayload (someEntries [(a, x), (b, y)])⟩ s) a =
      writtenWord (commitState opParamWrite ⟨h, writePayload (someEntries [(a, x), (b, y)])⟩ s) a w) ∧
    (∀ w ∈ y, rd (serve opParamWrite ⟨h, writePayload (someEntries [(a, x), (b, y)])⟩ s) b =
      writtenWord (commitState opParamWrite ⟨h, writePayload (someEntries [(a, x), (b, y)])⟩ s) b w) := by
  refine ⟨fun w hw => ?_, fun w hw => ?_⟩
  · refine row_word hs (pair_short hl) (mem_pair.2 (.inl ⟨rfl, hw⟩)) (fun e he ha => ?_) hb.1
    rcases mem_pair.1 he with ⟨-, hx⟩ | ⟨hb, -⟩
    · exact Option.some.inj (hx.symm.trans hw)
    · exact absurd (ha.symm.trans hb) hab
  · refine row_word hs (pair_short hl) (mem_pair.2 (.inr ⟨rfl, hw⟩)) (fun e he hb => ?_) hb.2
    rcases mem_pair.1 he with ⟨ha, -⟩ | ⟨-, hy⟩
    · exact absurd (ha.symm.trans hb) hab
    · exact Option.some.inj (hy.symm.trans hw)

/-! ### The effects of the rows -/

/-- An enable that goes on clears the source's counters (05 R170). -/
theorem setEnable_clears {q : Fin 32} (s : State) (h : flag s (srcId q.val 0) 0 = false) :
    (vget (setEnable q.val true s).src q).count = zeroCount := by
  simp [setEnable, h, updSrc, vupdN, q.isLt, freshSource]

/-- The write of a source's control word switches the source (05 R170). -/
theorem applyEntries_srcCtrl (q : Fin 32) (v : Word) (s : State) :
    (applyEntries [(0x2200 + 8 * q.val, v)] s).src = (setEnable q.val (bitOf v 0) s).src := by
  have other : 0x2200 + 8 * q.val ≠ 0x7200 := by omega
  have source : 0x2200 + 8 * q.val < 0x2300 ∧ (0x2200 + 8 * q.val) % 8 = 0 ∧ (0x2200 + 8 * q.val - 0x2200) / 8 = q.val := by omega
  have kept (t : State) := (writeEffects_beside s [(0x2200 + 8 * q.val, v)] t).part .src
  simp only [applyEntries, List.any_cons, List.any_nil, Bool.or_false, beq_eq_false_iff_ne.2 other, Bool.false_eq_true, if_false]
  refine (kept _).trans ?_
  simp [sourceEffects, source]

theorem switchSlot_active (b : Fin 2) (auto : Bool) (s : State) : (switchSlot b auto s).time.active = b := by
  have kept {l : List (Nat × Nat)} (t : State) (hl : ∀ x ∈ l, x.1 < 128) : (raiseAll l t).time = t.time :=
    (onlyChanges.raiseAll (P := [.line, .ev]) (I := anyEventId) .refl hl).part .time
  unfold switchSlot
  dsimp only
  rw [kept _ (by simp [eventsWhen]; grind), sticky_time]
  rfl

theorem selectEffect_active (s : State) : (selectEffect s).time.active = if flag s 0x7200 0 then 1 else 0 := by
  unfold selectEffect
  dsimp only
  generalize (if flag s 0x7200 0 then (1 : Fin 2) else 0) = b
  split
  next h => exact h.symm
  · exact switchSlot_active ..

/-- TIME_CTRL stores its bit 0 as written (01 R535). -/
theorem writtenWord_timeCtrl (v : Word) (s : State) : bitOf (writtenWord s 0x7200 v) 0 = v.getLsbD 0 := by
  have written : ((paramRow 0x7200).any fun row => (writableMask 0x7200 row).getLsbD 0 && !(w1cMask row).getLsbD 0) = true := by
    decide
  obtain ⟨row, hrow, hbits⟩ := (Option.any_eq_true ..).1 written
  obtain ⟨mask, clear⟩ : (writableMask 0x7200 row)[0] = true ∧ (w1cMask row)[0] = false := by simpa using hbits
  simp only [writtenWord, hrow, if_neg (by decide : 0x7200 ≠ 0x1311)]
  split <;> simp [bitOf, mask, clear]

/-- The write of TIME_CTRL makes the slot that its bit 0 names the active one (14 R435). -/
theorem applyEntries_timeCtrl (v : Word) (s : State) :
    (applyEntries [(0x7200, v)] s).time.active = if v.getLsbD 0 then 1 else 0 := by
  have effect (b t : State) : writeEffects b [(0x7200, v)] t = selectEffect t := by simp [writeEffects, originEffect]
  rw [applyEntries, effect, selectEffect_active, ← writtenWord_timeCtrl v (anchorSigma s)]
  simp [flag, rd, regGet_regSet]

theorem rd_clearTrack (s : State) : rd (clearTrack s) 0x2101 = 0 := rd_wr_same s 0x2101 0

/-- A write of the origin notes the beat and clears the track (06 R199). -/
theorem applyEntries_origin {lat lon : Option Word} (s : State) (h : someEntries [(0x2301, lat), (0x2302, lon)] ≠ []) :
    (applyEntries (someEntries [(0x2301, lat), (0x2302, lon)]) s).fus.originMoved = some s.clk.beat ∧
    rd (applyEntries (someEntries [(0x2301, lat), (0x2302, lon)]) s) 0x2101 = 0 := by
  have effect (b t : State) : writeEffects b (someEntries [(0x2301, lat), (0x2302, lon)]) t =
      clearTrack { t with fus := { t.fus with originMoved := some t.clk.beat } } := by
    rcases lat with _ | lat <;> rcases lon with _ | lon
    · exact absurd rfl h
    all_goals simp [writeEffects, originEffect, someEntries]
  rw [applyEntries, effect]
  refine ⟨?_, rd_clearTrack _⟩
  have kept (l : List Entry) (s : State) : onlyChanges [.src] (fun _ => true) s (sourceEffects l s) :=
    .foldl .refl fun u e _ => .opt .refl fun _ => (setEnable_only ..).step .refl (hI := by simp)
  exact congrArg some ((beat_of_same ((kept ..).part .clk)).trans (by split <;> rfl))

/-- A write of HIST_CTRL with bit 0 empties the history and leaves the queue (01 R510). -/
theorem applyEntries_histCtrl {v : Word} (s : State) (h : bitOf v 0 = true) :
    (applyEntries [(0x1311, v)] s).ev = { s.ev with hist := Vector.replicate 64 none, nextSeq := 0 } := by
  simp [applyEntries, writeEffects, originEffect, sourceEffects, h]

/-- A write of CMD_PEER or its port ends the session of the Ethernet port (03 R95). -/
theorem applyEntries_cmdPeer {udp peer : Option Word} (s : State) (h : someEntries [(0x1219, udp), (0x121A, peer)] ≠ []) :
    sessionOpen (applyEntries (someEntries [(0x1219, udp), (0x121A, peer)]) s) 1 = false := by
  have effect (b t : State) : writeEffects b (someEntries [(0x1219, udp), (0x121A, peer)]) t = closeSession 1 2 t := by
    rcases udp with _ | udp <;> rcases peer with _ | peer
    · exact absurd rfl h
    all_goals simp [writeEffects, originEffect, someEntries]
  rw [applyEntries, effect]
  exact closeSession_closes ..

end

/-- Settles O19: each row's write and the effect beside it. -/
theorem parameterWrites : Obligations.ParameterWrites := by
  refine ⟨?_, ?_, ?_, ?_, ?_, ?_, ?_, ?_, ?_, ?_, ?_, ?_⟩
  -- PARAM_WRITE of one entry of PD5 or PD6
  · intro r e s hs he lo hi
    have answer := serve_ok_only (o := opParamWrite) (d := []) hs rfl
    rw [he] at answer
    have far : 0x5000 ≤ e.1 ∧ e.1 < 0x7000 := by
      simp only [yardOf] at lo hi
      omega
    have beside : besideIds e.1 = false := by
      simp [besideIds, anyEventId]
      omega
    refine ⟨_, exec_served rfl hs, ?_, fun j hj => ?_⟩
    · rw [answer.rd (noId_apply _)]
      exact rd_applyEntries (by simp) (by simp) beside _
    · rw [answer.rd (noId_apply _)]
      have alone := applyEntries_only (P := []) (I := (· == e.1)) (l := [e]) (s := commitState opParamWrite r s)
        (by grind [effectParts]) (by grind [effectIds])
      rw [alone.rd (by simpa using hj), rd_congr (commitState_regs ..)]
  -- SRC_CTRL
  · intro h q v s u hs
    have beside : ∀ q : Fin 32, besideIds (0x2200 + 8 * q.val) = false := by decide
    refine ⟨_, exec_served rfl hs, row_word_one hs (by omega) (beside q), fun off on => ?_⟩
    have left := (row_applied (by simp; omega) hs).part .src
    rw [show (serve _ _ s).src = _ from left, applyEntries_srcCtrl]
    rw [show bitOf v 0 = true from on]
    refine setEnable_clears _ ?_
    rw [flag_congr (rd_congr (commitState_regs ..) _)]
    exact off
  -- TIME_CTRL
  · intro h v s u hs
    refine ⟨_, exec_served rfl hs, row_word_one hs (by decide) (by decide), ?_⟩
    have left := (row_applied (by simp) hs).part .time
    rw [show (serve _ _ s).time = _ from left, applyEntries_timeCtrl]
  -- The origin
  · intro h lat lon s u hs
    obtain ⟨latWord, lonWord⟩ := row_word_pair hs (by decide) (by decide) (by decide)
    obtain ⟨moved, cleared⟩ := applyEntries_origin u (row_ne_nil hs)
    have left := row_applied (pair_short (by decide)) hs
    refine ⟨_, exec_served rfl hs, latWord, lonWord, ?_, (left.rd (noId_apply _)).trans cleared⟩
    have fus : (serve _ _ s).fus = _ := left.part .fus
    rw [fus, moved]
    exact congrArg some (beat_of_same ((readState_only opParamWrite _ s).part .clk))
  -- HIST_SEL
  · intro h v s u hs
    refine ⟨_, exec_served rfl hs, row_word_one hs (by decide) (by decide), ?_⟩
    have left := (row_applied (by simp) hs).part .ev
    have alone := applyEntries_only (P := []) (I := (· == 0x1310)) (l := [(0x1310, v)]) (s := u) (by simp [effectParts])
        (by simp [effectIds])
    exact left.trans ((alone.part .ev).trans (commitState_ev ..))
  -- HIST_CTRL
  · intro h v s hs on
    refine ⟨_, exec_served rfl hs, ?_⟩
    have left : (serve _ _ s).ev = _ := (row_applied (by simp) hs).part .ev
    rw [left, applyEntries_histCtrl _ on]
    exact ⟨rfl, rfl, by rw [commitState_ev]⟩
  -- The latch of a bank
  · intro h bank v s u hs
    have beside : ∀ bank : Fin 2, besideIds (0x6402 + 16 * bank.val) = false := by decide
    exact ⟨_, exec_served rfl hs, row_word_one hs (by omega) (beside bank)⟩
  -- The layout of a port's words
  · intro h p i o s u hs
    have ids : ∀ p : Fin 2, portId p 0 ≠ portId p 1 ∧ (portId p 0 < 65536 ∧ portId p 1 < 65536) ∧
        (besideIds (portId p 0) = false ∧ besideIds (portId p 1) = false) := by decide
    obtain ⟨other, short, beside⟩ := ids p
    exact ⟨_, exec_served rfl hs, row_word_pair hs other short beside⟩
  -- CMD_PEER
  · intro h peer udp s u hs
    obtain ⟨udpWord, peerWord⟩ := row_word_pair hs (by decide) (by decide) (by decide)
    refine ⟨_, exec_served rfl hs, peerWord, udpWord, ?_⟩
    rw [sessionOpen_congr ((row_applied (pair_short (by decide)) hs).rd (noId_apply _))]
    exact applyEntries_cmdPeer _ (row_ne_nil hs)
  -- The control word of a CAN controller
  · intro h bus v s u hs
    have beside : ∀ bus : Fin 4, besideIds (0x7000 + 64 * bus.val) = false := by decide
    exact ⟨_, exec_served rfl hs, row_word_one hs (by omega) (beside bus)⟩
  -- BUS_PRESENT
  · intro h bus v s u hs
    have beside : ∀ bus : Fin 4, besideIds (0x2492 + 4 * bus.val) = false := by decide
    exact ⟨_, exec_served rfl hs, row_word_one hs (by omega) (beside bus)⟩
  -- The increment of the time
  · intro h lo hi s u hs
    exact ⟨_, exec_served rfl hs, row_word_pair hs (by decide) (by decide) (by decide)⟩

end Sys2Proof.Machine
end

section
/-! SUPPORT. Commands that answer a next state: the requests by their common service, every other row by the branches of its own
function; and O3. -/
set_option Elab.async false

namespace Sys2Proof.Machine

/-- An outcome that is a next state. -/
def answers (o : Out) : Prop := ∃ t, o = .next t

section
variable {P : List Part} {I : Nat → Bool} {i : Instr} {s t : State} {a b : Out}

theorem answers.next : answers (.next t) := ⟨t, rfl⟩

theorem answers.ite {c : Prop} [Decidable c] (ha : answers a) (hb : answers b) : answers (if c then a else b) := by
  split
  · exact ha
  · exact hb

theorem framed.answers (h : framed P I s a) : answers a := by
  obtain ⟨t, ht, -⟩ := h
  exact ⟨t, ht⟩

/-- The host port and the command engine's own rows answer. -/
theorem exec_answers_unitPort (hw : i.wellFormed = true)
    (hf : [Family.hostPort, .session].contains (familyOf i) = true) :
    answers (exec i s) := by
  cases i with
  | hselNFall _ => exact (execHselNFall_framed ..).answers
  | accessByte _ _ => exact (execAccessByte_framed ..).answers
  | selectionGrant _ => exact (execSelectionGrant_framed ..).answers
  | baleWrite c bale => exact (execBaleWrite_framed c s (by simpa [Instr.wellFormed] using hw)).answers
  | baleRead _ => exact (execBaleRead_framed ..).answers
  | hselNRise _ _ => exact (execHselNRise_framed ..).answers
  | attentionPulse _ => exact (execAttentionPulse_framed ..).answers
  | attentionPulseEnd => exact (execAttentionPulseEnd_framed ..).answers
  | baleDispatch _ _ => exact (execBaleDispatch_framed ..).answers
  | baleDrain _ => exact (execBaleDrain_framed ..).answers
  | packetGapExpiry _ => exact (execPacketGapExpiry_framed ..).answers
  | replyBaleWrite _ _ => exact (execReplyBaleWrite_framed ..).answers
  | cmdDatagram _ _ => exact (execCmdDatagram_framed ..).answers
  | fragmentTimeout _ => exact (execFragmentTimeout_framed ..).answers
  | firmwareRepeat _ _ => exact (execFirmwareRepeat_framed ..).answers
  | sessionIdleExpiry _ => exact (execSessionIdleExpiry_framed ..).answers
  | expertLockEnd _ => exact (execExpertLockEnd_framed ..).answers
  | configLoadTimeout => exact (execConfigLoadTimeout_framed ..).answers
  | configFileStored _ _ => exact (execConfigFileStored_framed ..).answers
  | _ => cases hf

/-- Beat, intake, estimator, control law and allocation answer. -/
theorem exec_answers_reference (hf : [Family.beat, .intake, .fusion, .control, .allocation].contains (familyOf i) = true) :
    answers (exec i s) := by
  cases i with
  | beatEdge _ => show answers (execBeatEdge _ s); fun_cases execBeatEdge <;> exact .next
  | intakeSummary => show answers (execIntakeSummary s); fun_cases execIntakeSummary <;> exact .next
  | sourceLossTimeout _ => show answers (execSourceLossTimeout _ s); fun_cases execSourceLossTimeout <;> exact .next
  | loftReplayStep => show answers (execLoftReplayStep s); fun_cases execLoftReplayStep <;> exact .next
  | fusionUpdate => show answers (execFusionUpdate s); fun_cases execFusionUpdate <;> exact .next
  | trackSilenceExpiry k =>
    show answers (execTrackSilenceExpiry k s)
    unfold execTrackSilenceExpiry
    split
    · exact .ite .next .next
    · exact .next
  | modelHoldEnd q => show answers (execModelHoldEnd q s); fun_cases execModelHoldEnd <;> exact .next
  | votedOutReadmit k =>
    show answers (execVotedOutReadmit k s)
    unfold execVotedOutReadmit
    dsimp only
    split
    · split
      · exact .next
      · exact .ite .next .next
    · exact .next
  | refLost _ => show answers (execRefLost _ s); fun_cases execRefLost <;> exact .next
  | controlLawOutput => show answers (execControlLawOutput s); fun_cases execControlLawOutput <;> exact .next
  | windStaleExpiry => show answers (execWindStaleExpiry s); fun_cases execWindStaleExpiry <;> exact .next
  | joyTimeoutExpiry => show answers (execJoyTimeoutExpiry s); fun_cases execJoyTimeoutExpiry <;> exact .next
  | joyHeadingResume => show answers (execJoyHeadingResume s); fun_cases execJoyHeadingResume <;> exact .next
  | allocIteration => show answers (execAllocIteration s); fun_cases execAllocIteration <;> exact .next
  | allocResult => show answers (execAllocResult s); fun_cases execAllocResult <;> exact .next
  | allocFallbackEntry => show answers (execAllocFallbackEntry s); fun_cases execAllocFallbackEntry <;> exact .next
  | allocFallbackExit => show answers (execAllocFallbackExit s); fun_cases execAllocFallbackExit <;> exact .next
  | powerDataStale _ => show answers (execPowerDataStale _ s); fun_cases execPowerDataStale <;> exact .next
  | powerFrame _ _ _ => show answers (execPowerFrame _ _ _ s); fun_cases execPowerFrame <;> exact .next
  | ptbmpSentence _ _ _ => show answers (execPtbmpSentence _ _ _ s); fun_cases execPtbmpSentence <;> exact .next
  | canReferenceFrame _ _ _ _ => show answers (execCanReferenceFrame _ _ _ _ s); fun_cases execCanReferenceFrame <;> exact .next
  | serialSentence _ _ _ _ _ => show answers (execSerialSentence _ _ _ _ _ s); fun_cases execSerialSentence <;> exact .next
  | udpbcSentence _ _ _ _ _ => show answers (execUdpbcSentence _ _ _ _ _ s); fun_cases execUdpbcSentence <;> exact .next
  | talkSentenceSent _ => exact .next
  | _ => cases hf

/-- The rows between the units answer. -/
theorem exec_answers_partner (hf : [Family.twin, .forwarded, .link].contains (familyOf i) = true) :
    answers (exec i s) := by
  cases i with
  | laneCompare _ => show answers (execLaneCompare _ s); fun_cases execLaneCompare <;> exact .next
  | exchangeSend => show answers (execExchangeSend s); fun_cases execExchangeSend <;> exact .next
  | partnerExchange _ _ _ => show answers (execPartnerExchange _ _ _ s); fun_cases execPartnerExchange <;> exact .next
  | interUnitCompare => show answers (execInterUnitCompare s); fun_cases execInterUnitCompare <;> exact .next
  | mirrorSend => show answers (execMirrorSend s); fun_cases execMirrorSend <;> exact .next
  | mirrorAckSend _ _ => show answers (execMirrorAckSend _ _ s); fun_cases execMirrorAckSend <;> exact .next
  | partnerAck _ _ _ => show answers (execPartnerAck _ _ _ s); fun_cases execPartnerAck <;> exact .next
  | mirrorAdoption _ => show answers (execMirrorAdoption _ s); fun_cases execMirrorAdoption <;> exact .next
  | remirrorExit => show answers (execRemirrorExit s); fun_cases execRemirrorExit <;> exact .next
  | commitMarker _ _ => show answers (execCommitMarker _ _ s); fun_cases execCommitMarker <;> exact .next
  | forwardedAxisTransition _ _ _ =>
    show answers (execForwardedAxisTransition _ _ _ s); fun_cases execForwardedAxisTransition <;> exact .next
  | beatMarker _ _ _ => show answers (execBeatMarker _ _ _ s); fun_cases execBeatMarker <;> exact .next
  | skewRegister => show answers (execSkewRegister s); fun_cases execSkewRegister <;> exact .next
  | markerLoss => show answers (execMarkerLoss s); fun_cases execMarkerLoss <;> exact .next
  | fjPairLost _ _ _ => show answers (execFjPairLost _ _ _ s); fun_cases execFjPairLost <;> exact .next
  | fjPairRegained _ _ => show answers (execFjPairRegained _ _ s); fun_cases execFjPairRegained <;> exact .next
  | halterExpiryTake => show answers (execHalterExpiryTake s); fun_cases execHalterExpiryTake <;> exact .next
  | halterLeaseLapse => show answers (execHalterLeaseLapse s); fun_cases execHalterLeaseLapse <;> exact .next
  | aloneWaitExpiry => show answers (execAloneWaitExpiry s); fun_cases execAloneWaitExpiry <;> exact .next
  | halterRequestExpiry => show answers (execHalterRequestExpiry s); fun_cases execHalterRequestExpiry <;> exact .next
  | partnerPresence => show answers (execPartnerPresence s); fun_cases execPartnerPresence <;> exact .next
  | partnerHeartbeat _ _ _ => show answers (execPartnerHeartbeat _ _ _ s); fun_cases execPartnerHeartbeat <;> exact .next
  | _ => cases hf

/-- The network rows and the time slots answer. -/
theorem exec_answers_network (hf : [Family.can, .ethernet, .time].contains (familyOf i) = true) :
    answers (exec i s) := by
  cases i with
  | canTxComplete _ _ _ => show answers (execCanTxComplete _ _ _ s); fun_cases execCanTxComplete <;> exact .next
  | canAckError _ _ => show answers (execCanAckError _ _ s); fun_cases execCanAckError <;> exact .next
  | canClash _ _ => show answers (execCanClash _ _ s); fun_cases execCanClash <;> exact .next
  | canBusError _ _ _ => show answers (execCanBusError _ _ _ s); fun_cases execCanBusError <;> exact .next
  | canBusOffRecovery _ _ => show answers (execCanBusOffRecovery _ _ s); fun_cases execCanBusOffRecovery <;> exact .next
  | canEnableEffect _ _ => show answers (execCanEnableEffect _ _ s); fun_cases execCanEnableEffect <;> exact .next
  | canIntegrationDone _ _ => show answers (execCanIntegrationDone _ _ s); fun_cases execCanIntegrationDone <;> exact .next
  | canFrameReceived _ _ _ => show answers (execCanFrameReceived _ _ _ s); fun_cases execCanFrameReceived <;> exact .next
  | ethLinkChange _ _ _ => show answers (execEthLinkChange _ _ _ s); fun_cases execEthLinkChange <;> exact .next
  | ethFrameRx _ _ _ => show answers (execEthFrameRx _ _ _ s); fun_cases execEthFrameRx <;> exact .next
  | arpRequest _ _ _ _ _ => show answers (execArpRequest _ _ _ _ _ s); fun_cases execArpRequest <;> exact .next
  | icmpEcho _ _ _ _ => show answers (execIcmpEcho _ _ _ _ s); fun_cases execIcmpEcho <;> exact .next
  | igmpQuery _ _ _ => show answers (execIgmpQuery _ _ _ s); fun_cases execIgmpQuery <;> exact .next
  | ptpAnnounce _ _ _ _ => show answers (execPtpAnnounce _ _ _ _ s); fun_cases execPtpAnnounce <;> exact .next
  | announceTimeout _ _ => show answers (execAnnounceTimeout _ _ s); fun_cases execAnnounceTimeout <;> exact .next
  | ptpSync _ _ _ _ => show answers (execPtpSync _ _ _ _ s); fun_cases execPtpSync <;> exact .next
  | ptpFollowUp _ _ _ _ => show answers (execPtpFollowUp _ _ _ _ s); fun_cases execPtpFollowUp <;> exact .next
  | ptpDelayResp _ _ _ _ => show answers (execPtpDelayResp _ _ _ _ s); fun_cases execPtpDelayResp <;> exact .next
  | delayReqSend _ _ => show answers (execDelayReqSend _ _ s); fun_cases execDelayReqSend <;> exact .next
  | acquisitionRunEnd _ => show answers (execAcquisitionRunEnd _ s); fun_cases execAcquisitionRunEnd <;> exact .next
  | slotHoldover _ => show answers (execSlotHoldover _ s); fun_cases execSlotHoldover <;> exact .next
  | slotFreeRun _ => show answers (execSlotFreeRun _ s); fun_cases execSlotFreeRun <;> exact .next
  | slotStep _ _ => show answers (execSlotStep _ _ s); fun_cases execSlotStep <;> exact .next
  | timeSwitchAuto _ => show answers (execTimeSwitchAuto _ s); fun_cases execTimeSwitchAuto <;> exact .next
  | switchStep _ => show answers (execSwitchStep _ s); fun_cases execSwitchStep <;> exact .next
  | leapSecond _ => show answers (execLeapSecond _ s); fun_cases execLeapSecond <;> exact .next
  | ppsPulse _ => show answers (execPpsPulse _ s); fun_cases execPpsPulse <;> exact .next
  | ppsPulseEnd => show answers (execPpsPulseEnd s); fun_cases execPpsPulseEnd <;> exact .next
  | switchSlewEnd _ => show answers (execSwitchSlewEnd _ s); fun_cases execSwitchSlewEnd <;> exact .next
  | acquisitionRunBreak _ => show answers (execAcquisitionRunBreak _ s); fun_cases execAcquisitionRunBreak <;> exact .next
  | ethFrameTx _ _ => show answers (execEthFrameTx _ _ s); fun_cases execEthFrameTx <;> exact .next
  | _ => cases hf

/-- The baseband, the servo, the field and the filters answer. -/
theorem exec_answers_field (hw : i.wellFormed = true)
    (hf : [Family.gnss, .tick, .servo, .field, .filter].contains (familyOf i) = true) :
    answers (exec i s) := by
  cases i with
  | antennaBiasClass _ _ => exact (execAntennaBiasClass_framed ..).answers
  | antennaRetest _ _ => exact (execAntennaRetest_framed ..).answers
  | gnssIntegration _ _ _ => exact (execGnssIntegration_framed ..).answers
  | channelLossOfLock _ _ => exact (execChannelLossOfLock_framed ..).answers
  | satelliteRelease _ _ => exact (execSatelliteRelease_framed ..).answers
  | subframeReceived c ch words =>
    exact (execSubframeReceived_framed c ch words s (by simpa [Instr.wellFormed] using hw)).answers
  | measurementTick _ _ => exact (execMeasurementTick_framed ..).answers
  | epochStrobe _ _ => exact (execEpochStrobe_framed ..).answers
  | checkClear _ _ => exact (execCheckClear_framed ..).answers
  | gnssBlockWrite _ => exact (execGnssBlockWrite_framed ..).answers
  | gnssStartTimeout => exact (execGnssStartTimeout_framed ..).answers
  | tickEdge _ => exact (execTickEdge_framed ..).answers
  | servoRegister => exact (execServoRegister_framed ..).answers
  | axisFault _ => exact (execAxisFault_framed ..).answers
  | axisShutdownComplete _ => exact (execAxisShutdownComplete_framed ..).answers
  | axisCommandEffect _ => exact (execAxisCommandEffect_framed ..).answers
  | pendingEnableEffect _ => exact (execPendingEnableEffect_framed ..).answers
  | diagCommonEntry _ => exact (execDiagCommonEntry_framed ..).answers
  | diagCommonExit _ => exact (execDiagCommonExit_framed ..).answers
  | diDebounce _ => exact (execDiDebounce_framed ..).answers
  | doOverloadCutoff _ _ => exact (execDoOverloadCutoff_framed ..).answers
  | doRestart _ => exact (execDoRestart_framed ..).answers
  | bankSupplyChange _ => exact (execBankSupplyChange_framed ..).answers
  | bankOvercurrentTrip _ => exact (execBankOvercurrentTrip_framed ..).answers
  | silenceTimeout _ => exact (execSilenceTimeout_framed ..).answers
  | silenceResume _ => exact (execSilenceResume_framed ..).answers
  | modeChangeEffect _ => exact (execModeChangeEffect_framed ..).answers
  | sincOutput _ => exact (execSincOutput_framed ..).answers
  | settlingEnd _ => exact (execSettlingEnd_framed ..).answers
  | syncInEdge _ _ => exact (execSyncInEdge_framed ..).answers
  | _ => cases hf

/-- Health, power and bring-up answer. -/
theorem exec_answers_module (hf : [Family.health, .power, .bringUp].contains (familyOf i) = true) :
    answers (exec i s) := by
  cases i with
  | rtcAlarm _ => exact (execRtcAlarm_framed ..).answers
  | scrubRead _ _ _ => exact (execScrubRead_framed ..).answers
  | blockFault _ _ _ => exact (execBlockFault_framed ..).answers
  | blockResetDone _ _ => exact (execBlockResetDone_framed ..).answers
  | yardFence _ _ _ => exact (execYardFence_framed ..).answers
  | supplyInputChange _ _ _ _ _ _ => exact (execSupplyInputChange_framed ..).answers
  | sleepEntry => exact (execSleepEntry_framed ..).answers
  | sleepEntryDone => exact (execSleepEntryDone_framed ..).answers
  | wakeEvent _ _ => exact (execWakeEvent_framed ..).answers
  | canWakeCheck _ _ => exact (execCanWakeCheck_framed ..).answers
  | wakeCheckTimeout _ => exact (execWakeCheckTimeout_framed ..).answers
  | watchWindowOpen _ => exact (execWatchWindowOpen_framed ..).answers
  | watchWindowClose _ => exact (execWatchWindowClose_framed ..).answers
  | clockStart _ => exact (execClockStart_framed ..).answers
  | clockStartRetry => exact (execClockStartRetry_framed ..).answers
  | yardRestartBegin => exact (execYardRestartBegin_framed ..).answers
  | moduleResetBegin => exact (execModuleResetBegin_framed ..).answers
  | bringUpStart _ => exact (execBringUpStart_framed ..).answers
  | pd1Verdict _ => exact (execPd1Verdict_framed ..).answers
  | historyFlush => exact (execHistoryFlush_framed ..).answers
  | pd4Verdict _ => exact (execPd4Verdict_framed ..).answers
  | selftestVerdicts _ _ => exact (execSelftestVerdicts_framed ..).answers
  | crossCheckVerdict _ => exact (execCrossCheckVerdict_framed ..).answers
  | handshakeSend _ => exact (execHandshakeSend_framed ..).answers
  | handshakeMessage _ _ _ => exact (execHandshakeMessage_framed ..).answers
  | handshakeVerdict => exact (execHandshakeVerdict_framed ..).answers
  | bringUpEnd => exact (execBringUpEnd_framed ..).answers
  | backupCellMeasure _ => exact (execBackupCellMeasure_framed ..).answers
  | backupCellRemoved => exact (execBackupCellRemoved_framed ..).answers
  | _ => cases hf

/-- The commands that serve a request are those of the two families of requests. -/
theorem requestOf_isSome (i : Instr) : (requestOf i).isSome = [Family.request, .rowWrite].contains (familyOf i) := by
  cases i <;> rfl

/-- Every request answers. -/
theorem exec_answers_request {o : OpSpec} {r : Req} (h : requestOf i = some (o, r)) (s : State) : answers (exec i s) := by
  obtain served | ⟨-, load⟩ := exec_of_requestOf h s
  · exact ⟨_, served⟩
  · rw [load]
    exact .next

end

/-- Settles O3: a request by its service, any other command by the branches of its function. -/
theorem wellFormedNeverStops : Obligations.WellFormedNeverStops := by
  intro i s hw
  cases hi : requestOf i with
  | some x => exact exec_answers_request hi s
  | none =>
    have other := requestOf_isSome i
    rw [hi] at other
    cases hf : familyOf i with
    | request | rowWrite => rw [hf] at other; cases other
    | hostPort | session => exact exec_answers_unitPort hw (by rw [hf]; rfl)
    | beat | intake | fusion | control | allocation => exact exec_answers_reference (by rw [hf]; rfl)
    | twin | forwarded | link => exact exec_answers_partner (by rw [hf]; rfl)
    | can | ethernet | time => exact exec_answers_network (by rw [hf]; rfl)
    | gnss | tick | servo | field | filter => exact exec_answers_field hw (by rw [hf]; rfl)
    | health | power | bringUp => exact exec_answers_module (by rw [hf]; rfl)

end Sys2Proof.Machine
end

section
/-! SUPPORT. What a bring-up keeps and loses (16 R480-R509): the yards' power and reset words, the history that the self-tests leave
alone while it is held, and the summary of a reset. -/
set_option Elab.async false

namespace Sys2Proof.Machine

section
variable {P : List Part} {I : Nat → Bool} {s t u : State}

/-! ### What a self-test keeps -/

/-- A later state of a bring-up: the kind of its start as before, and the history as before while it is held (16 R484, R509). -/
def bringUpKept (s t : State) : Prop :=
  t.power.cold = s.power.cold ∧ t.power.byWake = s.power.byWake ∧
  (s.ev.holding = true → t.ev.holding = true ∧ t.ev.hist = s.ev.hist ∧ t.ev.nextSeq = s.ev.nextSeq ∧
    t.ev.carried = s.ev.carried)

theorem bringUpKept.refl : bringUpKept s s := ⟨rfl, rfl, fun h => ⟨h, rfl, rfl, rfl⟩⟩

theorem bringUpKept.trans (h : bringUpKept s t) (k : bringUpKept t u) : bringUpKept s u := by
  obtain ⟨hc, hw, he⟩ := h
  obtain ⟨kc, kw, ke⟩ := k
  refine ⟨kc.trans hc, kw.trans hw, fun held => ?_⟩
  obtain ⟨still, hist, next, carried⟩ := he held
  obtain ⟨still', hist', next', carried'⟩ := ke still
  exact ⟨still', hist'.trans hist, next'.trans next, carried'.trans carried⟩

/-- What leaves the power and the events alone keeps them. -/
theorem bringUpKept.same (h : bringUpKept s t) (hp : u.power = t.power) (he : u.ev = t.ev) : bringUpKept s u := by
  unfold bringUpKept
  rw [hp, he]
  exact h

theorem bringUpKept.ite {c : Prop} [Decidable c] (h : bringUpKept s t) (k : bringUpKept s u) : bringUpKept s (if c then t else u) := by
  split
  · exact h
  · exact k

theorem bringUpKept.foldl {α : Type} {l : List α} {f : State → α → State} (h : bringUpKept s t)
    (hf : ∀ u, ∀ x ∈ l, bringUpKept u (f u x)) : bringUpKept s (l.foldl f t) :=
  List.foldlRecOn (motive := fun t => bringUpKept s t) _ _ h fun u hu x hx => hu.trans (hf u x hx)

theorem queuePut_kept (n a : Nat) (m : Bool) (s : State) : bringUpKept s (queuePut n a m s).1 := by
  unfold queuePut
  split
  · have lost : bringUpKept s { s with ev := { s.ev with lost := true } } := ⟨rfl, rfl, fun h => ⟨h, rfl, rfl, rfl⟩⟩
    exact lost.same (bump_power ..) (bump_ev ..)
  · exact ⟨rfl, rfl, fun h => ⟨h, rfl, rfl, rfl⟩⟩

/-- A slot of the history waits while the history is held (16 R484). -/
theorem histPut_kept (x : HistSlot) (s : State) : bringUpKept s (histPut x s) := by
  refine ⟨by rw [histPut_power], by rw [histPut_power], fun h => ?_⟩
  rw [histPut, if_pos h]
  exact ⟨h, rfl, rfl, rfl⟩

theorem raiseWith_kept (f : Bool) (n a : Nat) (s : State) : bringUpKept s (raiseWith f n a s) := by
  unfold raiseWith
  extract_lets masked s1 q s2
  have h1 : bringUpKept s s1 :=
    bringUpKept.trans (bringUpKept.refl.same (sticky_power ..) (sticky_ev ..)) ⟨rfl, rfl, fun h => ⟨h, rfl, rfl, rfl⟩⟩
  have hq : bringUpKept s q.1 := by
    unfold q
    split
    · exact h1
    · exact h1.trans (queuePut_kept ..)
  have h2 : bringUpKept s s2 := .ite (hq.same (attentionDue_power ..) (attentionDue_ev ..)) hq
  exact .ite .refl (.ite (h2.trans (histPut_kept ..)) h2)

theorem enterFailSilent_kept (n : Nat) (s : State) : bringUpKept s (enterFailSilent n s) := by
  unfold enterFailSilent
  extract_lets s1
  have h1 : bringUpKept s s1 := .ite (bringUpKept.refl.same (wrFld_power ..) (wrFld_ev ..)) .refl
  refine .ite .refl (bringUpKept.trans ?_ (raiseWith_kept ..))
  exact h1.same rfl rfl

theorem fenceYard_kept (y n : Nat) (s : State) : bringUpKept s (fenceYard y n s) := by
  unfold fenceYard
  extract_lets h s1 s2 s3
  have h1 : bringUpKept s s1 := bringUpKept.refl.same (by simp [s1]) (by simp [s1])
  have h2 : bringUpKept s s2 := h1.trans (raiseWith_kept ..)
  have h3 : bringUpKept s s3 := .ite (h2.trans (enterFailSilent_kept ..)) h2
  exact .ite .refl (.ite (h3.trans ⟨rfl, rfl, fun h => ⟨h, rfl, rfl, rfl⟩⟩)
    (.ite (.foldl h3 fun _ _ _ => bringUpKept.refl.same rfl rfl) (.ite (h3.same rfl rfl) h3)))

theorem fenceBlock_kept (y b : Nat) (s : State) : bringUpKept s (fenceBlock y b s) := by
  unfold fenceBlock
  extract_lets h s1 s2 s3 s4 s5
  have h1 : bringUpKept s s1 := bringUpKept.refl.same (wrFlag_power ..) (wrFlag_ev ..)
  have h2 : bringUpKept s s2 := .ite (h1.same (wrFld_power ..) (wrFld_ev ..)) h1
  have h3 : bringUpKept s s3 := .ite (h2.same (wrFld_power ..) (wrFld_ev ..)) h2
  have h4 : bringUpKept s s4 := (h3.same (sticky_power ..) (sticky_ev ..)).trans (raiseWith_kept ..)
  have h5 : bringUpKept s s5 := .ite (h4.same rfl rfl) (.ite (h4.same rfl rfl) h4)
  exact .ite (h5.trans (fenceYard_kept ..)) h5

theorem blockFault_kept (y : Fin 8) (b : Nat) (due : Bool) (s : State) : bringUpKept s (blockFault y b due s) := by
  unfold blockFault
  dsimp only
  refine .ite .refl (.ite ((bringUpKept.refl.same rfl rfl).trans (fenceBlock_kept ..)) ?_)
  exact (bringUpKept.refl.same (by simp) (by simp)).trans (raiseWith_kept ..)

theorem yardTests_kept (l : List Nat) (v : SelfTest) (s : State) : bringUpKept s (yardTests l v s) := by
  unfold yardTests
  extract_lets mine s1 s2 s3
  have h1 : bringUpKept s s1 := .foldl .refl fun _ _ _ => (blockFault_kept ..).same rfl rfl
  have h2 : bringUpKept s s2 := .foldl h1 fun _ _ _ => (blockFault_kept ..).trans (blockFault_kept ..)
  have h3 : bringUpKept s s3 := .ite (h2.same (sticky_power ..) (sticky_ev ..)) h2
  exact .foldl h3 fun _ _ _ => .ite .refl (bringUpKept.refl.same (wrFlag_power ..) (wrFlag_ev ..))

theorem raiseAll_kept (l : List (Nat × Nat)) (s : State) : bringUpKept s (raiseAll l s) :=
  .foldl .refl fun _ _ _ => raiseWith_kept ..

theorem advance_kept (c : Nat) (s : State) : bringUpKept s (advance c s) := by
  have cold := congrArg Power.cold (advance_power_same c s)
  have wake := congrArg Power.byWake (advance_power_same c s)
  refine ⟨cold, wake, fun h => ?_⟩
  rw [advance_ev]
  exact ⟨h, rfl, rfl, rfl⟩

/-! ### The verdict on one yard -/

/-- A yard that its self-test leaves in service has its verdict bit (16 R485). -/
theorem yardTests_one_passes {y : Nat} {v : SelfTest} (hy : y < 32) (h : yardFenced (yardTests [y] v s) y = false) :
    flag (yardTests [y] v s) 0x1509 y = true := by
  obtain ⟨t, ht⟩ : ∃ t, yardTests [y] v s = if yardFenced t y then t else wrFlag t 0x1509 y true := ⟨_, rfl⟩
  rw [ht] at h ⊢
  split
  next fenced =>
    rw [if_pos fenced, fenced] at h
    cases h
  · exact flag_wrFlag_same _ _ _ _ hy

/-- A self-test without a fault fences no yard. -/
theorem yardTests_one_clean {y : Nat} {v : SelfTest} (hf : v.failed = []) (ho : v.once = []) (h : yardFenced s y = false) :
    yardFenced (yardTests [y] v s) y = false := by
  have other : 0x1000 * y + 0xFF2 ≠ 0x1509 := by omega
  simp only [yardTests, hf, ho, List.filter_nil, List.foldl_nil, List.any_nil, Bool.or_self, List.foldl_cons, h, Bool.false_eq_true,
    if_false]
  have state : yardState (wrFlag s 0x1509 y true) y = yardState s y := fld_congr (by rw [rd_wrFlag, if_neg other])
  rw [yardFenced, state]
  exact h

/-! ### Events that are raised together -/

/-- An event that is raised sets its sticky bit, and beside the count of lost events nothing else. -/
theorem rd_raise_of_core {n a id : Nat} (hid : id ≠ 0x130D) (h : s.clk.core = true) :
    rd (raise n a s) id = rd (sticky s (0x1304 + n / 32) (n % 32)) id := by
  unfold raise raiseWith
  dsimp only
  (repeat' split) <;> simp_all [rd_queuePut _ _ _ _ _ hid]

theorem flag_raise_of_flag {n a id i : Nat} (hi : i < 32) (hid : id ≠ 0x130D) (hc : s.clk.core = true) (h : flag s id i = true) :
    flag (raise n a s) id i = true := by
  rw [flag_congr (rd_raise_of_core hid hc)]
  by_cases e : id = 0x1304 + n / 32
  · subst e
    exact flag_sticky_of_flag _ _ _ hi h
  · rw [flag_congr (rd_sticky_other _ _ e)]
    exact h

theorem mem_sorted {x : Nat × Nat} {l : List (Nat × Nat)} (h : x ∈ l) : x ∈ l.foldr eventInsert [] := by
  have insert (e : Nat × Nat) (k : List (Nat × Nat)) : (eventInsert e k).Perm (e :: k) := by
    induction k with
    | nil => exact .refl _
    | cons y k ih =>
      rw [eventInsert]
      split
      · exact .refl _
      · exact (ih.cons y).trans (.swap ..)
  induction l with
  | nil => cases h
  | cons y l ih =>
    rw [List.foldr_cons, (insert ..).mem_iff]
    exact (List.mem_cons.1 h).elim (fun e => List.mem_cons.2 (.inl e)) fun h => List.mem_cons_of_mem _ (ih h)

/-- Each of the events that are raised together sets its sticky bit. -/
theorem flag_raiseAll {l : List (Nat × Nat)} {n a : Nat} (hx : (n, a) ∈ l) (hn : 0x1304 + n / 32 ≠ 0x130D)
    (hc : s.clk.core = true) : flag (raiseAll l s) (0x1304 + n / 32) (n % 32) = true := by
  obtain ⟨before, after, sorted⟩ := List.append_of_mem (mem_sorted hx)
  have bit : n % 32 < 32 := Nat.mod_lt _ (by decide)
  rw [raiseAll, sorted, List.foldl_append, List.foldl_cons]
  have running : (before.foldl (fun s e => raise e.1 e.2 s) s).clk.core = true :=
    List.foldlRecOn (motive := fun t : State => t.clk.core = true) _ _ hc fun t ht _ _ => by rwa [raise_clk]
  have set := (raise_sticky n a _ running).resolve_right hn
  exact (List.foldlRecOn (motive := fun t : State => t.clk.core = true ∧ flag t (0x1304 + n / 32) (n % 32) = true) _ _
    ⟨by rwa [raise_clk], set⟩ fun t ⟨core, ht⟩ _ _ => ⟨by rwa [raise_clk], flag_raise_of_flag bit hn core ht⟩).2

end
end Sys2Proof.Machine
end

section
/-! SUPPORT. The power of the yards, the reset words and the start of a restart or a bring-up (04 R136, R137, 16 R480-R483). -/
set_option Elab.async false

namespace Sys2Proof.Machine

section
variable {P : List Part} {I : Nat → Bool} {s t u : State}

/-! ### Yards without power -/

theorem powerOff_power (l : List Nat) (s : State) : (powerOff l s).power = s.power :=
  List.foldlRecOn (motive := fun t : State => t.power = s.power) _ _ rfl fun _ ht _ _ => (wrFld_power ..).trans ht

theorem powerOff_clk (l : List Nat) (s : State) : (powerOff l s).clk = s.clk :=
  List.foldlRecOn (motive := fun t : State => t.clk = s.clk) _ _ rfl fun _ ht _ _ => (wrFld_clk ..).trans ht

theorem yardState_wrFld (x y v : Nat) (s : State) :
    yardState (wrFld s (0x1000 * x + 0xFF2) 1 0 v) y = if y = x then v % 4 else yardState s y := by
  split
  next h =>
    subst h
    exact fld_wrFld_same _ _ _ _ _ (by decide)
  next h => exact fld_congr (rd_wrFld_other _ _ _ _ (by omega))

theorem yardState_powerOff (l : List Nat) (y : Nat) (s : State) :
    yardState (powerOff l s) y = if y ∈ l then 3 else yardState s y := by
  induction l generalizing s with
  | nil => rfl
  | cons x l ih =>
    rw [powerOff, List.foldl_cons, ← powerOff, ih, yardState_wrFld]
    by_cases hl : y ∈ l <;> simp [hl]

theorem yardState_powerOn (l : List Nat) (y : Nat) (s : State) :
    yardState (powerOn l s) y = if y ∈ l ∧ yardState s y = 3 then 0 else yardState s y := by
  induction l generalizing s with
  | nil => simp [powerOn]
  | cons x l ih =>
    have step : yardState (if yardState s x = 3 then wrFld s (0x1000 * x + 0xFF2) 1 0 0 else s) y =
        if y = x ∧ yardState s y = 3 then 0 else yardState s y := by
      by_cases e : y = x
      · subst e
        by_cases h3 : yardState s y = 3 <;> simp [h3, yardState_wrFld]
      · by_cases h3 : yardState s x = 3 <;> simp [h3, e, yardState_wrFld]
    rw [powerOn, List.foldl_cons, ← powerOn, ih, step]
    grind

/-- A yard that gets its power is not without it (16 R484). -/
theorem powerOn_powers {l : List Nat} {y : Nat} (h : y ∈ l) (s : State) : yardState (powerOn l s) y ≠ 3 := by
  rw [yardState_powerOn]
  grind

/-! ### Cleared registers -/

/-- A register that a filter of identifiers drops reads its reset word. -/
theorem regGet_filter_dropped (f : Nat → Bool) (r : Regs) (id : Nat) (h : f id = false) :
    regGet (r.filter fun x => f x.1) id = resetWord id := by
  have gone : (r.filter fun x => f x.1).find? (fun x => x.1 == id) = none := by
    rw [List.find?_eq_none]
    intro x hx hid
    simp only [List.mem_filter] at hx
    rw [beq_iff_eq] at hid
    rw [hid, h] at hx
    exact Bool.false_ne_true hx.2
  rw [regGet, gone]

theorem rd_clearYard (y : Nat) (s : State) {id : Nat} (h : yardOf id = y) : rd (clearYard y s) id = resetWord id :=
  regGet_filter_dropped (fun i => yardOf i != y) s.regs id (by simp [h])

/-! ### The reset of the module -/

theorem gnssStart_starts {c : Nat} (h : yardFenced s 4 = false) : (gnssStart c s).gnss.startAt = some c := by
  simp only [gnssStart, h]
  rfl

/-- A summary touches the power's summary alone, and writes it where PD0 is in service (16 R482). -/
theorem writeSummary_writes (n z : Nat) (s : State) : (writeSummary n z s).regs = s.regs ∧ (writeSummary n z s).clk = s.clk ∧
    (writeSummary n z s).restart = s.restart ∧ (writeSummary n z s).power.byWake = s.power.byWake ∧
    (yardFenced s 0 = false → (writeSummary n z s).power.summary.map (·.loss) = some n) := by
  unfold writeSummary
  split
  next h => exact ⟨rfl, rfl, rfl, rfl, fun h0 => by simp [h0] at h⟩
  · exact ⟨rfl, rfl, rfl, rfl, fun _ => rfl⟩

/-- What a reset of the module requests (04 R136, R137): its sessions closed, a bring-up at the present cycle. -/
theorem beginReset_requests (n : Nat) (s : State) : (beginReset n s).power.mode = .bringUp ∧
    (beginReset n s).power.startAt = some s.clk.cycle ∧ (beginReset n s).clk.ticks = false ∧ (beginReset n s).clk.beats = false ∧
    (beginReset n s).restart = [] ∧ (beginReset n s).power.byWake = false ∧ sessionOpen (beginReset n s) 0 = false ∧
    (yardFenced s 0 = false → (beginReset n s).power.summary.map (·.loss) = some n) := by
  unfold beginReset
  generalize hq : ({ s with restart := [], power := { s.power with byWake := false, byInput := false, wakeMask := 0 } } : State) = q
  generalize hc : closeSession 1 3 (closeSession 0 3 q) = c
  obtain ⟨regs, clk, restart, byWake, summary⟩ := writeSummary_writes n 0 c
  have fence : yardFenced c 0 = yardFenced s 0 := by
    rw [yardFenced, yardState, fld_congr, ← yardState, ← yardFenced]
    rw [← hc, (closeSession_only ..).rd (by decide), (closeSession_only ..).rd (by decide), ← hq]
    rfl
  have cycle : c.clk.cycle = s.clk.cycle := by simp [← hc, ← hq]
  have none : c.restart = [] := by simp [← hc, ← hq]
  have asleep : c.power.byWake = false := by simp [← hc, ← hq]
  refine ⟨rfl, ?_, rfl, rfl, restart.trans none, byWake.trans asleep, ?_, ?_⟩
  · rw [← cycle, ← clk]
    rfl
  · rw [sessionOpen_congr (rd_congr (t := requestStart (writeSummary n 0 c)) (s := c) regs _), ← hc,
      closeSession_other _ _ (by decide)]
    exact closeSession_closes ..
  · exact fun h => summary (fence.trans h)

/-! ### The restart of a yard -/

/-- PD4 with its registers and its baseband cleared, its restart no longer pending (04 R136). -/
def restartedPd4 (r : RestartPending) (s : State) : State :=
  clearYard 4 { s with restart := s.restart.erase r, gnss := gnssAfterRestart s.gnss }

theorem execYardRestartBegin_pd0 {r : RestartPending} (hr : restartDue false s = some r) (hy : r.yard = 0) :
    execYardRestartBegin s = .next (loseRetention (clearYard 0 { s with restart := s.restart.erase r })) := by
  simp [execYardRestartBegin, hr, hy]

theorem execYardRestartBegin_pd4 {r : RestartPending} (hr : restartDue false s = some r) (hy : r.yard = 4) :
    execYardRestartBegin s = .next (gnssStart (s.clk.cycle + 20000000) (restartedPd4 r s)) := by
  simp [execYardRestartBegin, restartedPd4, hr, hy]

theorem execYardRestartBegin_module {r : RestartPending} (hr : restartDue false s = some r) (h0 : r.yard ≠ 0) (h4 : r.yard ≠ 4) :
    execYardRestartBegin s = .next (beginReset 4 { s with restart := s.restart.erase r }) := by
  simp [execYardRestartBegin, hr, h0, h4]

/-- PD4 starts again 20 000 000 cycles later, all its registers but GNSS_STATUS at their reset words. -/
theorem gnssStart_restartedPd4 (c : Nat) (r : RestartPending) (s : State) :
    (gnssStart c (restartedPd4 r s)).restart = s.restart.erase r ∧
    (gnssStart c (restartedPd4 r s)).power.mode = s.power.mode ∧
    (gnssStart c (restartedPd4 r s)).gnss.startAt = some c ∧
    ∀ id : Fin 0x1000, id.val ≠ 0x18 → rd (gnssStart c (restartedPd4 r s)) (0x4000 + id.val) = resetWord (0x4000 + id.val) := by
  have started := gnssStart_only c (restartedPd4 r s)
  have cleared {id : Nat} (h : yardOf id = 4) : rd (restartedPd4 r s) id = resetWord id := rd_clearYard 4 _ h
  refine ⟨started.part .restart, ?_, gnssStart_starts ?_, fun id hid => ?_⟩
  · have hp := congrArg Power.mode (started.part .power)
    exact hp
  · rw [yardFenced, yardState, fld, cleared (by decide)]
    decide
  · rw [started.rd (by simp; omega), cleared (by simp only [yardOf]; omega)]

/-! ### The start -/

/-- A module that starts, before it cuts the yards' power (16 R480, R482). -/
theorem execBringUpStart_starts (n : Nat) (hs : s.power.startAt ≠ none) (hc : s.clk.core = true) : ∃ t,
    execBringUpStart n s = .next (powerOff [2, 3, 4, 5, 6, 7] t) ∧ t.power.mode = .bringUp ∧ t.power.startAt = none ∧
    t.power.rtc = s.power.rtc + n ∧ t.power.cold = !hotReady { s with power := { s.power with rtc := s.power.rtc + n } } ∧
    t.clk.cycle = 0 ∧ t.clk.core = true ∧ t.clk.ticks = false ∧ t.clk.beats = false ∧ t.nv = s.nv ∧
    t.ev.hist = s.ev.hist.map (Option.map fun x => { x with edge := none }) ∧ t.ev.holding = true ∧
    fld t 0x150B 15 0 = satAdd 16 (fld s 0x150B 15 0) 1 ∧
    ∀ id, keptAtBringUp id = false → id ≠ 0x1003 → id ≠ 0x1004 → id ≠ 0x1507 → rd t id = resetWord id := by
  have starts : (s.power.startAt.isNone || !s.clk.core) = false := by simpa [hc, Option.isSome_iff_ne_none] using hs
  unfold execBringUpStart
  rw [if_neg (by simp [starts])]
  extract_lets _ p0 cold _ p _ _ _ _ s1
  have kept {id : Nat} (h : keptAtBringUp id = true) : rd s1 id = rd s id := regGet_filter keptAtBringUp s.regs id h
  have dropped {id : Nat} (h : keptAtBringUp id = false) : rd s1 id = resetWord id := regGet_filter_dropped keptAtBringUp s.regs id h
  generalize hw : wrFld _ 0x1003 0 0 _ = w
  have power : w.power = s1.power := by simp [← hw]
  have clk : w.clk = s1.clk := by simp [← hw]
  have nv : w.nv = s1.nv := by simp [← hw]
  have ev : w.ev = s1.ev := by simp [← hw]
  refine ⟨w, rfl, congrArg Power.mode power, congrArg Power.startAt power, congrArg Power.rtc power, congrArg Power.cold power,
    congrArg Clock.cycle clk, congrArg Clock.core clk, congrArg Clock.ticks clk, congrArg Clock.beats clk, nv,
    congrArg EventUnit.hist ev, congrArg EventUnit.holding ev, ?_, fun id hk h3 h4 h7 => ?_⟩
  · rw [← hw]
    iterate 3 rw [fld_congr (rd_wrFld_other _ _ _ _ (by decide))]
    rw [fld_bump_same _ _ _ _ _ (by decide), fld_congr (kept (by decide))]
  · have counter : id ≠ 0x150B := by
      rintro rfl
      exact absurd hk (by decide)
    rw [← hw, rd_wrFld_other _ _ _ _ h3, rd_wrFld_other _ _ _ _ h7, rd_wrFld_other _ _ _ _ h4, rd_bump_other _ _ _ _ counter]
    exact dropped hk

/-- After a start the yards from PD2 on are without power, and PD0 and PD1 in service (16 R482). -/
theorem yardState_powerOff_started
    (words : ∀ id, keptAtBringUp id = false → id ≠ 0x1003 → id ≠ 0x1004 → id ≠ 0x1507 → rd t id = resetWord id)
    (y : Fin 8) :
    yardState (powerOff [2, 3, 4, 5, 6, 7] t) y.val = if 2 ≤ y.val then 3 else 0 := by
  have cut : ∀ y : Fin 8, y.val ∈ [2, 3, 4, 5, 6, 7] ↔ 2 ≤ y.val := by decide
  have whole : ∀ y : Fin 8, keptAtBringUp (0x1000 * y.val + 0xFF2) = false ∧
      bitsOf (resetWord (0x1000 * y.val + 0xFF2)) 1 0 = 0 := by decide
  have state : yardState t y.val = 0 := by
    rw [yardState, fld, words _ (whole y).1 (by omega) (by omega) (by omega), (whole y).2]
  rw [yardState_powerOff, state]
  simp only [cut]

end

end Sys2Proof.Machine
end

section
/-! SUPPORT. The verdicts of a bring-up and its handshake (16 R484-R490), and O51. -/
set_option Elab.async false

namespace Sys2Proof.Machine
section
variable {P : List Part} {I : Nat → Bool} {s t u : State}

/-! ### The verdicts -/

/-- PD1's verdict takes the history over, powers PD4 and raises the wake's event (16 R484, R485). -/
theorem execPd1Verdict_verdict (v : SelfTest) (hm : s.power.mode = .bringUp) (hh : s.ev.holding = true) : ∃ t,
    execPd1Verdict v s = .next t ∧ t.ev.carried = s.ev.hist ∧ t.ev.nextSeq = nextSeqOf s.ev.hist ∧ yardState t 4 ≠ 3 ∧
    (s.power.byWake = true → s.clk.core = true → flag t 0x1304 10 = true) ∧
    (v.failed = [] → v.once = [] → yardFenced s 1 = false → flag t 0x1509 1 = true) := by
  unfold execPd1Verdict
  rw [if_neg (by simp [hm])]
  extract_lets a bad _ s1 s2
  obtain ⟨-, wake, history⟩ := (advance_kept 5000000 s).trans (yardTests_kept [1] v (advance 5000000 s))
  obtain ⟨held, hist, -, -⟩ := history hh
  obtain ⟨-, -, later⟩ : bringUpKept s1 s2 := raiseAll_kept ..
  obtain ⟨-, -, next, carried⟩ := later held
  have tested := yardTests_only [1] v (advance 5000000 s)
  have raised : onlyChanges [.line, .ev] anyEventId s1 s2 := .raiseAll .refl (by simp [eventsWhen]; grind)
  have after : onlyChanges [.line] (fun id => id == 0x4FF2) s2 (settleLine (powerOn [4] s2)) :=
    (settleLine_only _).step ((powerOn_only [4] s2).step .refl)
  have ev : (powerOn [4] s2).ev = s2.ev := (powerOn_only [4] s2).part .ev
  have settled := settleLine_only (powerOn [4] s2)
  refine ⟨_, rfl, ?_, ?_, ?_, fun hw hc => ?_, fun hf ho hy => ?_⟩
  · rw [settleLine_ev, ev, carried, ← hist]
  · rw [settleLine_ev, ev, next, ← hist]
  · rw [yardState, fld_congr (settled.rd rfl), ← yardState]
    exact powerOn_powers (by simp) _
  · rw [flag_congr (after.rd (by decide))]
    refine flag_raiseAll (n := 10) (a := a.power.wakeMask) ?_ (by decide) ?_
    · simp [eventsWhen, show a.power.byWake = true from wake.trans hw]
    · exact (core_of_same (tested.part .clk)).trans ((advance_core ..).trans hc)
  · rw [flag_congr (after.rd (by decide)), flag_congr (raised.rd (by decide))]
    exact yardTests_one_passes (by decide) (yardTests_one_clean hf ho ((yardFenced_advance ..).trans hy))

/-- The flush writes the held events to the history; a cold start loses the summary and the block (16 R484). -/
theorem execHistoryFlush_flushes (hh : s.ev.holding = true) (hm : s.power.mode = .bringUp) : ∃ t,
    execHistoryFlush s = .next t ∧ t.ev.holding = false ∧ t.ev.held = [] ∧
    (s.power.cold = true → t.power.summary = none ∧ t.gnss.block = none) := by
  unfold execHistoryFlush
  rw [if_neg (by simp [hh, hm])]
  extract_lets a _ _ _ s1 _ s2
  have cold : a.power.cold = s.power.cold := (advance_kept 5100000 s).1
  have written (h : HistSlot) (t : State) : (histWrite h t).ev.holding = t.ev.holding ∧ (histWrite h t).ev.held = t.ev.held := by
    unfold histWrite
    split
    · exact ⟨rfl, rfl⟩
    · exact ⟨rfl, rfl⟩
  refine ⟨_, rfl, ?_⟩
  refine List.foldlRecOn (motive := fun t : State => t.ev.holding = false ∧ t.ev.held = [] ∧
    (s.power.cold = true → t.power.summary = none ∧ t.gnss.block = none)) _ _ ⟨rfl, rfl, fun h => ?_⟩ fun t ht h _ => ?_
  · simp [s2, s1, cold, h]
  · rw [(written h t).1, (written h t).2, histWrite_power, histWrite_gnss]
    exact ht

theorem updGnss_clk (f : Gnss → Gnss) (s : State) : (updGnss f s).clk = s.clk := rfl

theorem gnssStart_clk (c : Nat) (s : State) : (gnssStart c s).clk = s.clk := by
  have block (n : Nat) : (loadBlock n s).clk = s.clk := by
    unfold loadBlock
    split
    · rfl
    · split
      · rfl
      · exact updGnss_clk ..
  unfold gnssStart
  split
  · rfl
  · dsimp only
    rw [wr_clk, updGnss_clk, block]

/-- PD4's verdict powers the other yards, and starts the baseband where PD4 is in service (16 R485, R486). -/
theorem execPd4Verdict_verdict (v : SelfTest) (hm : s.power.mode = .bringUp) : ∃ t, execPd4Verdict v s = .next t ∧
    (∀ y : Fin 8, 2 ≤ y.val → y ≠ 4 → yardState t y.val ≠ 3) ∧
    (yardFenced t 4 = false → t.gnss.startAt = some t.clk.cycle ∧ flag t 0x1509 4 = true) := by
  unfold execPd4Verdict
  rw [if_neg (by simp [hm])]
  extract_lets a
  have powered (y : Fin 8) (h2 : 2 ≤ y.val) (h4 : y ≠ 4) : yardState a y.val ≠ 3 := by
    have among : ∀ y : Fin 8, 2 ≤ y.val → y ≠ 4 → y.val ∈ [2, 3, 5, 6, 7] := by decide
    have other : y.val ≠ 4 := fun h => h4 (Fin.ext h)
    have tested := (yardTests_only [4] v (powerOn [2, 3, 5, 6, 7] (advance 25000000 s))).rd (id := 0x1000 * y.val + 0xFF2)
      (by simp [anyEventId_health, idsIn]; omega)
    rw [yardState, fld_congr tested]
    exact powerOn_powers (among y h2 h4) _
  cases h : yardFenced a 4
  case true => exact ⟨a, rfl, powered, fun h' => by simp [h] at h'⟩
  case false =>
    have started := gnssStart_only a.clk.cycle a
    refine ⟨gnssStart a.clk.cycle a, rfl, fun y h2 h4 => ?_, fun _ => ⟨?_, ?_⟩⟩
    · rw [yardState, fld_congr (started.rd (by simp; omega))]
      exact powered y h2 h4
    · rw [gnssStart_starts h, gnssStart_clk]
    · rw [flag_congr (started.rd (by decide))]
      exact yardTests_one_passes (by decide) h

theorem powerOn_power (l : List Nat) (s : State) : (powerOn l s).power = s.power :=
  List.foldlRecOn (motive := fun t : State => t.power = s.power) _ _ rfl fun t ht y _ => by split <;> simp [ht]

theorem powerOn_kept (l : List Nat) (s : State) : bringUpKept s (powerOn l s) :=
  bringUpKept.refl.same (powerOn_power ..) ((powerOn_only ..).part .ev)

theorem linksStart_idem (f : Field) : linksStart (linksStart f) = linksStart f := by simp only [linksStart]

theorem startTicks_field (h b : Nat) (s : State) : (startTicks h b s).field = linksStart s.field := rfl

theorem startTicks_ticks (h b : Nat) (s : State) :
    (startTicks h b s).clk.ticks = true ∧ (startTicks h b s).clk.runEdge = h := ⟨rfl, rfl⟩

/-- The pairs of the links and the controllers start afresh, and the UTC offset is taken again. -/
theorem finishSettings_finishes (p : Vector FjPair 2) (s : State) : ∃ t,
    refreshUtc (canBoot { s with twin := { s.twin with pairs := p } }) = t ∧ onlyChanges [.time, .can, .twin] noId s t ∧
    ∀ b : Fin 4, (vget t.can b).boot = true := by
  refine ⟨_, rfl, (refreshUtc_only _).step ((canBoot_only _).step (.set rfl .refl)), fun b => ?_⟩
  exact congrArg CanCtl.boot (Vector.getElem_ofFn ..)

/-- What a verdict on the module's settings leaves (16 R487): the unit's number of its strap, the ticks of its edge, the tables of the
links and the controllers afresh. -/
theorem execSelftestVerdicts_verdict (v : SelfTest) (x : Bool) (hm : s.power.mode = .bringUp) : ∃ t,
    execSelftestVerdicts v x s = .next t ∧ unitNumber t = b2n x ∧ t.clk.ticks = true ∧ t.clk.runEdge = bringUpH s ∧
    t.field = linksStart t.field ∧ ∀ b : Fin 4, (vget t.can b).boot = true := by
  unfold execSelftestVerdicts
  rw [if_neg (by simp [hm])]
  extract_lets a s1 s2 up s3
  have kept : bringUpKept s a :=
    ((advance_kept (55000000 + bringUpX s) s).trans (powerOn_kept [2, 3, 5, 6, 7] _)).trans (yardTests_kept [0, 2, 3, 5, 6, 7] v _)
  have cold : a.power.cold = s.power.cold := kept.1
  have edge : bringUpH a = bringUpH s := by rw [bringUpH, bringUpX, cold, ← bringUpX, ← bringUpH]
  clear_value a
  have ticks : s2.clk.ticks = true ∧ s2.clk.runEdge = bringUpH s := edge ▸ startTicks_ticks (bringUpH a) 0 s1
  have fresh : s2.field = linksStart s2.field := by rw [startTicks_field, linksStart_idem]
  have strap : fld s2 0x1003 0 0 = b2n x := by
    rw [fld_congr ((startTicks_only (bringUpH a) 0 s1).rd (by decide)), fld_wrFld_same _ _ _ _ _ (by decide)]
    cases x <;> rfl
  clear_value s2
  have clk : s3.clk = s2.clk := by simp [s3]
  have field : s3.field = s2.field := by simp [s3]
  have strap' : fld s3 0x1003 0 0 = b2n x := (fld_congr (by simp [s3, rd_wrFlag, rd_wrFld])).trans strap
  rw [← clk] at ticks
  rw [← field] at fresh
  obtain ⟨t, ht, last, boot⟩ := finishSettings_finishes (Vector.replicate 2 ⟨up, 0, 0, false, false⟩) s3
  have lastClk := last.part .clk
  have runs : t.clk.ticks = true ∧ t.clk.runEdge = bringUpH s :=
    ⟨(congrArg Clock.ticks lastClk).trans ticks.1, (congrArg Clock.runEdge lastClk).trans ticks.2⟩
  have lastField : t.field = s3.field := last.part .field
  refine ⟨t, congrArg _ ht, ?_, runs.1, runs.2, ?_, boot⟩
  · rw [unitNumber, fld_congr (last.rd rfl), strap']
  · rw [lastField]
    exact fresh

/-! ### The comparison of the lanes -/

theorem enterFailSilent_cause {n : Nat} (h : failSilent s = false) :
    (enterFailSilent n s).twin.cause = n ∧ (enterFailSilent n s).twin.item = s.twin.item := by
  unfold enterFailSilent
  rw [if_neg (by simp [h])]
  extract_lets s1
  rw [raise_twin]
  have twin : s1.twin = s.twin := by
    unfold s1
    split <;> simp
  have item : s1.twin.item = s.twin.item := congrArg Twin.item twin
  exact ⟨rfl, item⟩

/-- The comparison's verdict: its bit, or fail-silence with cause 1 (16 R488). -/
theorem execCrossCheckVerdict_verdict (a : Bool) (hm : s.power.mode = .bringUp) : ∃ t, execCrossCheckVerdict a s = .next t ∧
    (a = true → flag t 0x1509 8 = true ∧ t.twin.cause = s.twin.cause) ∧
    (a = false → failSilent s = false → t.twin.cause = 1 ∧ t.twin.item = 0xFF) := by
  unfold execCrossCheckVerdict
  rw [if_neg (by simp [hm])]
  cases a
  case true => exact ⟨_, rfl, fun _ => ⟨flag_wrFlag_same _ _ _ _ (by decide), by simp⟩, nofun⟩
  case false =>
    refine ⟨_, rfl, nofun, fun _ h => enterFailSilent_cause ?_⟩
    rw [failSilent] at h ⊢
    simpa using h

/-! ### The handshake -/

theorem bringUpH_advance (c : Nat) (s : State) : bringUpH (advance c s) = bringUpH s := by
  have cold : (advance c s).power.cold = s.power.cold := (advance_kept c s).1
  rw [bringUpH, bringUpX, cold, ← bringUpX, ← bringUpH]

theorem verdictAt_advance (c : Nat) (s : State) : verdictAt (advance c s) = verdictAt s := by
  have cold : (advance c s).power.cold = s.power.cold := (advance_kept c s).1
  rw [verdictAt, bringUpX, cold, ← bringUpX, ← verdictAt]

theorem mode_advance (c : Nat) (s : State) : (advance c s).power.mode = s.power.mode := by
  have hp := congrArg Power.mode (advance_power_same c s)
  exact hp

theorem unitNumber_advance (c : Nat) (s : State) : unitNumber (advance c s) = unitNumber s := fld_congr (rd_advance ..)

theorem linkUsable_advance (c : Nat) (s : State) : linkUsable (advance c s) = linkUsable s := by
  rw [linkUsable, advance_core, yardFenced_advance, yardFenced_advance, ← linkUsable]

/-- The unit's own message (16 R489). -/
theorem execHandshakeSend_sends (c : Nat) (hm : s.power.mode = .bringUp) :
    let b := leBytes 1 3 ++ leBytes 1 (unitNumber s + 2 * b2n s.power.cold) ++ leBytes 2 (rd s 0x1002).toNat ++
      leBytes 4 (bringUpH s - (advance c s).clk.cycle) ++ leBytes 4 (configCrc s)
    ∃ t, execHandshakeSend c s = .next t ∧ t.twin.handOut = b ++ leBytes 4 (crc32 b) := by
  intro b
  have cold : (advance c s).power.cold = s.power.cold := (advance_kept c s).1
  have crc : configCrc (advance c s) = configCrc s := by simp [configCrc]
  unfold execHandshakeSend
  rw [if_neg (by simp [mode_advance, hm])]
  dsimp only
  rw [unitNumber_advance, cold, rd_advance, bringUpH_advance, crc]
  exact ⟨_, rfl, rfl⟩

/-- The note of a message with the module's own number (15 R441). -/
theorem ownMessage_notes (p : Fin 2) (s : State) : (seeksDuplicate s = true → (ownMessage p s).power.duplicate = true) ∧
    (seeksDuplicate s = false → (ownMessage p s).power.duplicate = s.power.duplicate) ∧ flag (ownMessage p s) 0x7401 4 = true ∧
    (ownMessage p s).power.hs = s.power.hs := by
  unfold ownMessage
  extract_lets s1
  have power : s1.power = s.power := by simp [s1, updPair, updTwin]
  have own : flag s1 0x7401 4 = true := flag_sticky_same _ _ _ (by decide)
  have hs : s1.power.hs = s.power.hs := congrArg Power.hs power
  cases h : seeksDuplicate s
  case true => exact ⟨fun _ => rfl, nofun, own, hs⟩
  case false =>
    have duplicate : s1.power.duplicate = s.power.duplicate := congrArg Power.duplicate power
    exact ⟨nofun, fun _ => duplicate, own, hs⟩

/-- A whole message of the partner is taken (16 R489). -/
theorem execHandshakeMessage_partner {c : Nat} {p : Fin 2} {m : List Byte} (hl : linkUsable s = true) (hc : msgCrcOk m = true)
    (hn : m.length = 16) (h0 : byteAt m 0 = 3) (hu : byteAt m 1 % 2 ≠ unitNumber s) (hm : s.power.mode = .bringUp)
    (hv : (advance c s).clk.cycle ≤ verdictAt s) : ∃ t, execHandshakeMessage c p m s = .next t ∧
    t.power.hs = some ⟨(advance c s).clk.cycle, byteAt m 1 / 2 % 2 == 1, leAt m 2 2, leAt m 4 4, leAt m 8 4⟩ ∧
    t.power.mismatch = (leAt m 2 2 != fld s 0x1002 15 0 || leAt m 8 4 != configCrc s) ∧ (vget t.twin.pairs p).seen = true := by
  have mode : (goodMessage p (advance c s)).power.mode = .bringUp := (mode_advance c s).trans hm
  have inTime : ¬ verdictAt (goodMessage p (advance c s)) < (goodMessage p (advance c s)).clk.cycle := by
    have same : verdictAt (goodMessage p (advance c s)) = verdictAt s := verdictAt_advance c s
    rw [same]
    exact Nat.not_lt.2 hv
  have crc : configCrc (goodMessage p (advance c s)) = configCrc s := by simp [configCrc, goodMessage, updPair, updTwin]
  have version : fld (goodMessage p (advance c s)) 0x1002 15 0 = fld s 0x1002 15 0 := fld_congr (rd_advance c s 0x1002)
  unfold execHandshakeMessage
  dsimp only
  rw [linkUsable_advance, unitNumber_advance, if_neg (by simp [hl]), if_neg (by simp [hc, hn, h0]), if_neg hu,
    if_neg (not_or.2 ⟨not_not.2 mode, inTime⟩), crc, version]
  exact ⟨_, rfl, rfl, rfl, by simp [goodMessage, updPair, updTwin]⟩

/-- The module hears its own number: a duplicate, while the verdict is out (16 R489). -/
theorem execHandshakeMessage_own {c : Nat} {p : Fin 2} {m : List Byte} (hl : linkUsable s = true) (hc : msgCrcOk m = true)
    (hn : m.length = 16) (h0 : byteAt m 0 = 3) (hu : byteAt m 1 % 2 = unitNumber s) (hm : s.power.mode = .bringUp) :
    ∃ t, execHandshakeMessage c p m s = .next t ∧ ((advance c s).clk.cycle ≤ verdictAt s → t.power.duplicate = true) ∧
    (verdictAt s < (advance c s).clk.cycle → t.power.duplicate = s.power.duplicate) ∧ flag t 0x7401 4 = true ∧
    t.power.hs = s.power.hs := by
  have taken : execHandshakeMessage c p m s = .next (ownMessage p (advance c s)) := by
    unfold execHandshakeMessage
    dsimp only
    rw [linkUsable_advance, unitNumber_advance, if_neg (by simp [hl]), if_neg (by simp [hc, hn, h0]), if_pos hu]
  have power := advance_power_same c s
  have seeks : seeksDuplicate (advance c s) = decide ((advance c s).clk.cycle ≤ verdictAt s) := by
    simp [seeksDuplicate, mode_advance, hm, verdictAt_advance]
  obtain ⟨hears, quiet, own, hs⟩ := ownMessage_notes p (advance c s)
  refine ⟨_, taken, fun h => hears ?_, fun h => (quiet ?_).trans ?_, own, hs.trans ?_⟩
  · simpa [seeks] using h
  · simpa [seeks] using h
  · have hp := congrArg Power.duplicate power
    exact hp
  · have hp := congrArg Power.hs power
    exact hp

/-! ### The verdict of the handshake -/

theorem putVerdict_shows (v l : Nat) (s : State) :
    (putVerdict v l s).power.verdict = v ∧ fld (putVerdict v l s) 0x1102 1 0 = l % 4 := by
  refine ⟨?_, fld_wrFld_same _ _ _ _ _ (by decide)⟩
  simp [putVerdict]

theorem loadPhase_keeps (x : Nat × Nat) (s : State) : (loadPhase x s).power.verdict = s.power.verdict ∧
    fld (loadPhase x s) 0x1102 1 0 = fld s 0x1102 1 0 ∧ (loadPhase x s).twin = s.twin := by
  have loaded := loadPhase_only x s
  have hp := congrArg Power.verdict (loaded.part .power)
  exact ⟨hp, fld_congr (loaded.rd (by decide)), loaded.part .twin⟩

/-- The verdict without a duplicate and without a running partner: by the partner's handshake and its heartbeat (16 R489). -/
theorem execHandshakeVerdict_verdict (hm : s.power.mode = .bringUp) (hd : s.power.duplicate = false) (hr : s.power.runSeen = none) :
    ∃ t, execHandshakeVerdict s = .next t ∧
    (s.power.hs = none → s.power.hbSeen = none → t.power.verdict = 0 ∧ fld t 0x1102 1 0 = 0) ∧
    (s.power.hs ≠ none → unitNumber s = 0 → t.power.verdict = 2 ∧ fld t 0x1102 1 0 = 1) ∧
    (s.power.hs ≠ none → unitNumber s = 1 → t.power.verdict = 3 ∧ fld t 0x1102 1 0 = 2) ∧
    (s.power.hs = none → s.power.hbSeen ≠ none → t.power.verdict = 1 ∧ fld t 0x1102 1 0 = 3 ∧ t.twin.remirror = true) := by
  have power := advance_power_same (verdictAt s) s
  have duplicate : (advance (verdictAt s) s).power.duplicate = false := (congrArg Power.duplicate power).trans hd
  have running : (advance (verdictAt s) s).power.runSeen = none := (congrArg Power.runSeen power).trans hr
  have beat : (advance (verdictAt s) s).power.hbSeen = s.power.hbSeen := by
    have hp := congrArg Power.hbSeen power
    exact hp
  have message : (advance (verdictAt s) s).power.hs = s.power.hs := by
    have hp := congrArg Power.hs power
    exact hp
  unfold execHandshakeVerdict
  rw [if_neg (by simp [hm])]
  dsimp only
  rw [if_neg (by simp [duplicate]), running, beat, message, unitNumber_advance]
  generalize advance (verdictAt s) s = a
  cases hs : s.power.hs with
  | none =>
    cases hb : s.power.hbSeen with
    | none => exact ⟨_, rfl, fun _ _ => putVerdict_shows 0 0 a, by simp, by simp, by simp⟩
    | some x =>
      obtain ⟨verdict, lead⟩ := putVerdict_shows 1 3 a
      obtain ⟨verdict', lead', twin⟩ :=
        loadPhase_keeps (alignedEdge x.1 x.2.1 (bringUpH a)) (joinPartner true (putVerdict 1 3 a))
      refine ⟨_, rfl, by simp, by simp, by simp, fun _ _ => ⟨verdict'.trans verdict, lead'.trans lead, ?_⟩⟩
      rw [twin]
      rfl
  | some m =>
    by_cases hu : unitNumber s = 0
    · obtain shown := putVerdict_shows 2 1 a
      refine ⟨putVerdict 2 1 a, ?_, by simp, fun _ _ => shown, fun _ h => by simp [hu] at h, by simp⟩
      cases s.power.hbSeen <;> simp [hu]
    · obtain ⟨verdict, lead⟩ := putVerdict_shows 3 2 a
      have shown (x : Nat × Nat) : (loadPhase x (putVerdict 3 2 a)).power.verdict = 3 ∧
          fld (loadPhase x (putVerdict 3 2 a)) 0x1102 1 0 = 2 := by
        obtain ⟨verdict', lead', -⟩ := loadPhase_keeps x (putVerdict 3 2 a)
        exact ⟨verdict'.trans verdict, lead'.trans lead⟩
      cases s.power.hbSeen
      all_goals exact ⟨_, if_neg hu, by simp, fun _ h => absurd h hu, fun _ _ => shown _, by simp⟩

/-- A duplicate ends the handshake in fail-silence with cause 0x20 (16 R489). -/
theorem execHandshakeVerdict_duplicate (hm : s.power.mode = .bringUp) (hd : s.power.duplicate = true) (hf : failSilent s = false) :
    ∃ t, execHandshakeVerdict s = .next t ∧ t.twin.cause = 0x20 ∧ flag t 0x7401 4 = true ∧ t.power.verdict = 0 := by
  have duplicate : (advance (verdictAt s) s).power.duplicate = true := (congrArg Power.duplicate (advance_power_same ..)).trans hd
  have speaks : failSilent (sticky (advance (verdictAt s) s) 0x7401 4) = false := by simpa [failSilent] using hf
  unfold execHandshakeVerdict
  rw [if_neg (by simp [hm])]
  dsimp only
  rw [if_pos duplicate]
  generalize advance (verdictAt s) s = a at speaks
  have shown := putVerdict_only 0 0 (enterFailSilent 0x20 (sticky a 0x7401 4))
  refine ⟨_, rfl, ?_, ?_, (putVerdict_shows ..).1⟩
  · rw [show (putVerdict _ _ _).twin = _ from shown.part .twin, (enterFailSilent_cause speaks).1]
  · rw [flag_congr (shown.rd (by decide)), flag_congr ((enterFailSilent_only ..).rd (by decide))]
    exact flag_sticky_same _ _ _ (by decide)

/-! ### The end -/

/-- The bring-up ends at the edge H in RUN, or fail-silent (16 R490). -/
theorem execBringUpEnd_runs (hm : s.power.mode = .bringUp) (hc : s.clk.core = true) (hs : s.power.startAt = none) : ∃ t,
    execBringUpEnd s = .next t ∧ t.power.mode = .run ∧ moduleState t = (if failSilent s then 3 else 2) ∧
    flag t 0x1304 11 = true ∧ bringUpH s ≤ t.clk.cycle := by
  unfold execBringUpEnd
  rw [if_neg (by simp [hm, hc, hs])]
  extract_lets a q _ s1
  have power : s1.power.mode = .run := congrArg Power.mode (wrFld_power ..)
  have clk : s1.clk = a.clk := wrFld_clk ..
  have core : s1.clk.core = true := (congrArg Clock.core clk).trans ((advance_core ..).trans hc)
  have silent : q = failSilent s := by simp [q, a, failSilent]
  have state : fld s1 0x1004 2 0 = if failSilent s then 3 else 2 := by
    rw [fld_wrFld_same _ _ _ _ _ (by decide), silent]
    split <;> rfl
  have settled (w : State) := settleLine_only w
  refine ⟨_, rfl, ?_, ?_, ?_, ?_⟩
  · rw [settleLine_power, raise_power, power]
  · rw [moduleState, fld_congr ((settled _).rd (noId_apply _)), fld_congr (rd_raise _ _ _ _ (by decide)), state]
  · rw [flag_congr ((settled _).rd (noId_apply _))]
    exact (raise_sticky 11 _ s1 core).resolve_right (by decide)
  · rw [settleLine_clk, raise_clk, clk]
    exact le_advance _ _ hc

end

/-- Settles O51: the rows of a restart and of a bring-up, up to RUN. -/
theorem bringUpEvents : Obligations.BringUpEvents := by
  refine ⟨?_, ?_, ?_, ?_, ?_, ?_, ?_, ?_, ?_, ?_, ?_, ?_, ?_, ?_⟩
  -- YARD_RESTART_BEGIN
  · intro r s hr
    by_cases h0 : r.yard = 0
    · exact ⟨_, execYardRestartBegin_pd0 hr h0, fun _ => ⟨rfl, rfl, rfl, rfl⟩, by omega, by omega⟩
    by_cases h4 : r.yard = 4
    · obtain ⟨pending, mode, start, words⟩ := gnssStart_restartedPd4 (s.clk.cycle + 20000000) r s
      exact ⟨_, execYardRestartBegin_pd4 hr h4, by omega, fun _ => ⟨pending, mode, start, words⟩, by omega⟩
    · obtain ⟨mode, start, ticks, beats, pending, -⟩ := beginReset_requests 4 { s with restart := s.restart.erase r }
      exact ⟨_, execYardRestartBegin_module hr h0 h4, by omega, by omega, fun _ _ => ⟨mode, start, ticks, beats, pending⟩⟩
  -- MODULE_RESET_BEGIN
  · intro s hr
    obtain ⟨r, hr⟩ := Option.ne_none_iff_exists'.1 hr
    have due : execModuleResetBegin s = .next (beginReset 3 s) := by rw [execModuleResetBegin, hr]
    exact ⟨_, due, beginReset_requests 3 s⟩
  -- BRING_UP_START
  · intro n s hs hc
    obtain ⟨t, run, mode, start, rtc, cold, cycle, core, ticks, beats, nv, hist, holding, count, words⟩ :=
      execBringUpStart_starts n hs hc
    have off := powerOff_only [2, 3, 4, 5, 6, 7] t
    have power := powerOff_power [2, 3, 4, 5, 6, 7] t
    have clk := powerOff_clk [2, 3, 4, 5, 6, 7] t
    have ev := off.part .ev
    refine ⟨_, run, (congrArg Power.mode power).trans mode, (congrArg Power.startAt power).trans start,
      (congrArg Power.rtc power).trans rtc, (congrArg Power.cold power).trans cold, (congrArg Clock.cycle clk).trans cycle,
      (congrArg Clock.core clk).trans core, (congrArg Clock.ticks clk).trans ticks, (congrArg Clock.beats clk).trans beats,
      (off.part .nv).trans nv, (congrArg EventUnit.hist ev).trans hist, (congrArg EventUnit.holding ev).trans holding,
      (fld_congr (off.rd (by decide))).trans count, yardState_powerOff_started words, fun id hk hy h3 h4 h7 => ?_⟩
    rw [off.rd (by simp; omega)]
    exact words id hk h3 h4 h7
  · exact fun v _ hm hh => execPd1Verdict_verdict v hm hh
  · exact fun _ hh hm => execHistoryFlush_flushes hh hm
  · exact fun v _ hm => execPd4Verdict_verdict v hm
  · exact fun v x _ hm => execSelftestVerdicts_verdict v x hm
  · exact fun a _ hm => execCrossCheckVerdict_verdict a hm
  · exact fun c _ hm => execHandshakeSend_sends c hm
  · exact fun _ _ _ _ hl hc hn h0 hu hm hv => execHandshakeMessage_partner hl hc hn h0 hu hm hv
  · exact fun _ _ _ _ hl hc hn h0 hu hm => execHandshakeMessage_own hl hc hn h0 hu hm
  · exact fun _ hm hd hr => execHandshakeVerdict_verdict hm hd hr
  · exact fun _ hm hd hf => execHandshakeVerdict_duplicate hm hd hf
  · exact fun _ hm hc hs => execBringUpEnd_runs hm hc hs

end Sys2Proof.Machine
end

section
/-! SUPPORT. The frames of the intake events (05 R145-R172), and of the operations that they share: records, the ports' discards,
alignment and the summaries. -/
set_option Elab.async false

namespace Sys2Proof.Machine

section
variable {P : List Part} {I : Nat → Bool} {s t : State} {r : State × List (Nat × Nat)}

/-! ### Shared operations -/

theorem stageDone_only (b : Nat) (s : State) : onlyChanges [.yards] noId s (stageDone b s) :=
  (operationDone_only ..).step ((operationDone_only ..).step .refl)

theorem fus_only (x : Fusion) (s : State) : onlyChanges [.fus] noId s { s with fus := x } := .set rfl .refl

theorem ser_only (x : Vector SerPort 4) (s : State) : onlyChanges [.ser] noId s { s with ser := x } := .set rfl .refl

theorem eventsWhen_known {l : List (Bool × Nat × Nat)} (h : ∀ x ∈ l, x.2.1 < 128) : ∀ e ∈ eventsWhen l, e.1 < 128 := by
  intro e he
  obtain ⟨x, hx, rfl⟩ := List.mem_map.1 he
  exact h x (List.mem_of_mem_filter hx)

/-- Several events more. -/
theorem reporting.events {l m : List (Nat × Nat)} (h : reporting P I s (t, l)) (hm : ∀ e ∈ m, e.1 < 128) :
    reporting P I s (t, l ++ m) := by
  obtain ⟨kept, known⟩ := h
  exact ⟨kept, fun e he => (List.mem_append.1 he).elim (known e) (hm e)⟩

/-! ### Records -/

theorem updSrc_only (q : Nat) (f : SrcUnit → SrcUnit) (s : State) : onlyChanges [.src] noId s (updSrc q f s) := src_only ..

theorem updCount_only (q : Nat) (f : SrcCount → SrcCount) (s : State) : onlyChanges [.src] noId s (updCount q f s) :=
  src_only ..

theorem takeRecord_only (q : Nat) (x : Except Reject SampleRec) (s : State) : onlyChanges [.src] noId s (takeRecord q x s) := by
  cases x
  case ok => exact updSrc_only ..
  case error => exact updSrc_only ..

theorem execSourceLossTimeout_framed (q : Fin 32) (s : State) :
    framed [.src, .line, .ev] anyEventId s (execSourceLossTimeout q s) :=
  .ite (.next (.raise ((updSrc_only ..).step .refl) (by decide) rfl fun _ => id)) (.next .refl)

/-- The registers of an RS-422 port that a sentence may change. -/
@[simp] def serIds (p : Fin 4) (id : Nat) : Bool := anyEventId id || idsIn (serId p 1) (serId p 5) id

theorem serialDiscard_only {p : Fin 4} {bit off : Nat} (h : 1 ≤ off ∧ off ≤ 5) (s : State) :
    onlyChanges [.ser, .line, .ev] (serIds p) s (serialDiscard p bit off s) := by
  have counted : onlyChanges [.ser, .line, .ev] (serIds p) s (sticky (bump s (serId p off) 15 0 1) (serId p 1) bit) :=
    .sticky (.bump .refl (by simp [serId]; omega)) (by simp [serId])
  exact .ite counted (.raise ((ser_only ..).step counted))

theorem execSerialSentence_framed (c a : Nat) (p : Fin 4) (l : List Byte) (f : Bool) (s : State) :
    framed [.ser, .src, .line, .ev] (serIds p) s (execSerialSentence c a p l f s) := by
  unfold execSerialSentence
  extract_lets s0
  have begun : onlyChanges [.ser, .src, .line, .ev] (serIds p) s s0 := .advance .refl
  have discarded {bit off : Nat} (h : 1 ≤ off ∧ off ≤ 5) :
      framed [.ser, .src, .line, .ev] (serIds p) s (.next (serialDiscard p bit off s0)) :=
    .next ((serialDiscard_only h _).step begun rfl fun _ => id)
  refine .ite (.next begun) (.ite (discarded (by decide)) (.ite (discarded (by decide)) ?_))
  split
  · exact discarded (by decide)
  · extract_lets b
    split
    · exact .next (.sticky (.bump begun (by simp [serId])) (by simp [serId]))
    · exact .next ((takeRecord_only ..).step begun)

theorem execUdpbcSentence_framed (c a : Nat) (e : Fin 2) (g : Fin 16) (l : List Byte) (s : State) :
    framed [.src] (fun _ => false) s (execUdpbcSentence c a e g l s) := by
  unfold execUdpbcSentence
  extract_lets s0 body
  have begun : onlyChanges [.src] (fun _ => false) s s0 := .advance .refl
  refine .ite (.next begun) ?_
  split
  · exact .next begun
  · extract_lets b
    split
    · exact .next begun
    · extract_lets _ near x more
      exact .ite (.next ((updSrc_only ..).step begun)) (.next ((takeRecord_only ..).step ((updSrc_only ..).step begun)))

theorem execCanReferenceFrame_framed (c a : Nat) (b : Fin 4) (f : CanFrame) (s : State) :
    framed [.src] (fun _ => false) s (execCanReferenceFrame c a b f s) := by
  unfold execCanReferenceFrame
  extract_lets s0
  have begun : onlyChanges [.src] (fun _ => false) s s0 := .advance .refl
  refine .ite (.next begun) ?_
  split
  · exact .next begun
  · extract_lets x p v
    have rejected (e : Reject) (q : Nat) : framed [.src] (fun _ => false) s (.next (rejectRec q e s0)) :=
      .next ((updSrc_only ..).step begun)
    exact .ite (rejected ..) (.ite (rejected ..) (.ite (rejected ..)
      (.next ((updSrc_only ..).step ((updSrc_only ..).step begun)))))

theorem execTalkSentenceSent_framed (p : Fin 4) (s : State) :
    framed [.ser] (fun _ => false) s (execTalkSentenceSent p s) :=
  .next ((ser_only ..).step .refl)

/-! ### Alignment -/

/-- The parts that intake may change. -/
def intakeParts : List Part := [.snap, .src, .fus, .line, .ev, .poison, .yards]

/-- The registers that intake may change: those of events and the working origin. -/
@[simp] def intakeIds (id : Nat) : Bool := anyEventId id || [0x2301, 0x2302, 0x2303].contains id

theorem snapped_only (r : Regs) (s : State) : onlyChanges [.snap] noId s { s with snap := r } := .set rfl .refl

theorem autoOrigin_only (lat lon : Int) (s : State) : onlyChanges intakeParts intakeIds s (autoOrigin lat lon s) :=
  .raise ((snapped_only ..).step (.wrAll .refl))

theorem readySamples_only (q : Nat) (x : SrcCfg) (l : List SampleRec) (s : State) :
    onlyChanges intakeParts intakeIds s (readySamples q x l s).2 := by
  induction l generalizing s with
  | nil => exact .refl
  | cons a l ih =>
    unfold readySamples
    extract_lets t s1 s2
    have counted : onlyChanges intakeParts intakeIds s s1 := .opt .refl fun _ => (updCount_only ..).step .refl
    have origin : onlyChanges intakeParts intakeIds s s2 := .opt counted fun _ => autoOrigin_only ..
    split
    · exact ((updSrc_only ..).step counted).trans (ih _)
    · split
      · exact ((updSrc_only ..).step origin).trans (ih _)
      · exact origin.trans (ih _)

theorem placeMeas_only (q back : Nat) (m : Meas) (s : State) : onlyChanges [.src, .fus] noId s (placeMeas q back m s) := by
  unfold placeMeas
  extract_lets sup put
  have counted (t : State) : onlyChanges [.src, .fus] noId t (sup t) := (updCount_only ..).step .refl
  have stored (t : State) : onlyChanges [.src, .fus] noId t (putMeas back q (some m) t) :=
    .ite ((fus_only ..).step .refl) ((fus_only ..).step .refl)
  have placed (t : State) : onlyChanges [.src, .fus] noId t (put t) := (fus_only ..).step (stored t)
  split
  · exact placed s
  · exact .ite ((counted s).trans (placed _)) (counted s)

theorem alignSample_only (q : Nat) (x : SrcCfg) (l : List ReadySample) (r : ReadySample) (s : State) :
    onlyChanges [.src, .fus] noId s (alignSample q x l r s).2 := by
  unfold alignSample
  extract_lets edge u back s0 t later earlier a sg root m s1
  have aged : onlyChanges [.src, .fus] noId s s0 := (updCount_only ..).step .refl
  split
  · exact (updSrc_only ..).step aged
  · split
    · exact (updSrc_only ..).step aged
    · exact (updSrc_only ..).step ((placeMeas_only ..).step ((updCount_only ..).step aged))

theorem summarise_reporting (q : Nat) (x : SrcCfg) (a : Bool) (s : State) : reporting [.src] noId s (summarise q x a s) :=
  ⟨updSrc_only .., eventsWhen_known (by simp)⟩

/-- The intake of a source ends with its summary, which for an empty image follows on the state as it was. -/
theorem intakeSource_summary (q : Nat) (s : State) : ∃ t a, intakeSource q s = summarise q (srcCfg s.snap q) a t ∧
    onlyChanges intakeParts intakeIds s t ∧ ((srcUnit s q).image = [] → a = false ∧ t = s) := by
  refine ⟨_, _, rfl, ?_, fun h => by simp [h, readySamples]⟩
  refine List.foldlRecOn (motive := fun (a : Bool × State) => onlyChanges intakeParts intakeIds s a.2) _ _
    (readySamples_only ..) fun a ha k _ => ?_
  exact (alignSample_only ..).step ha

theorem intakeSource_reporting (q : Nat) (s : State) : reporting intakeParts intakeIds s (intakeSource q s) := by
  obtain ⟨t, a, summary, aligned, -⟩ := intakeSource_summary q s
  obtain ⟨summed, known⟩ := summarise_reporting q (srcCfg s.snap q) a t
  rw [summary]
  exact ⟨summed.step aligned, known⟩

theorem moveOrigin_only (s : State) : onlyChanges intakeParts intakeIds s (moveOrigin s) := by
  unfold moveOrigin
  split
  · exact .refl
  · extract_lets f clear zero slot s1
    have moved (u : State) (hu : overlay intakeParts s1 u = u) : onlyChanges intakeParts intakeIds s (raise 44 1 u) :=
      .raise (.set hu (.wrAll .refl))
    exact .ite .refl (moved _ rfl)

theorem execIntakeSummary_framed (s : State) : framed intakeParts intakeIds s (execIntakeSummary s) := by
  unfold execIntakeSummary
  extract_lets s0 f s1 r
  have begun : onlyChanges intakeParts intakeIds s s1 :=
    (moveOrigin_only _).step ((fus_only ..).step ((stageDone_only ..).step (.advance .refl))) rfl fun _ => id
  have summed : reporting intakeParts intakeIds s r := .foldl ⟨begun, by simp⟩ fun a q _ ha => by
    obtain ⟨kept, known⟩ := intakeSource_reporting q a.1
    exact (ha.step kept).events known
  obtain ⟨kept, known⟩ := summed
  exact .ite (.next .refl) (.next (.raiseAll kept known))

end
end Sys2Proof.Machine
end

section
/-! SUPPORT. The frames of the loft's replay and of the tracks up to the vote (06 R181-R189). -/
set_option Elab.async false

namespace Sys2Proof.Machine

section
variable {P : List Part} {I : Nat → Bool} {s t : State} {r : State × List (Nat × Nat)}

/-! ### The loft -/

theorem updLoft_only (back : Nat) (f : LoftSlot → LoftSlot) (s : State) : onlyChanges [.fus] noId s (updLoft back f s) :=
  .ite (fus_only ..) (fus_only ..)

/-- First evaluations of the samples of one slot, source by source. -/
theorem evalNews_foldl_only {back : Nat} (l : LoftSlot) (x : List F32) (p : List (List F32)) (a b : F32) (s : State) :
    onlyChanges [.fus] noId s ((List.range 32).foldl (fun s q => match vgetD l.meas q none with
      | some m => if evaluable l.iniH l.iniP l.iniT m.kind then evalNews back q x p a b s else s
      | none => s) s) := by
  refine .foldl .refl fun u q _ => ?_
  split
  · exact .opt .refl fun _ => fus_only ..
  · exact .refl

theorem pickApplied_only (back : Nat) (l : LoftSlot) (s : State) : onlyChanges [.fus] noId s (pickApplied back l s) := by
  unfold pickApplied
  extract_lets applied new s1
  have freed : onlyChanges [.fus] noId s s1 := .ite .refl (updLoft_only ..)
  exact (fus_only ..).step freed

theorem execLoftReplayStep_framed (s : State) :
    framed [.fus, .yards] (fun id => id == 0x2323) s (execLoftReplayStep s) := by
  unfold execLoftReplayStep
  extract_lets n _ s0 back l prior att s1 x failed s2 next
  have begun : onlyChanges [.fus, .yards] (fun id => id == 0x2323) s s0 :=
    (stageDone_only ..).step (.advance ((fus_only ..).step .refl))
  have judged : onlyChanges [.fus, .yards] (fun id => id == 0x2323) s s1 := (evalNews_foldl_only ..).step begun
  have applied : onlyChanges [.fus, .yards] (fun id => id == 0x2323) s s2 :=
    (updLoft_only ..).step ((pickApplied_only ..).step (.opt judged fun _ => .sticky .refl))
  exact .ite (.next .refl) (.ite (.next begun) (.ite (.next ((updLoft_only ..).step applied)) (.next applied)))

/-! ### Tracks -/

/-- The registers that tracks and votes may change before the fused output: the sticky bits of fusion and
the count of births refused. -/
@[simp] def trackIds (id : Nat) : Bool := [0x2323, 0x2324].contains id

theorem putTrack_only (i : Nat) (t : Option Track) (s : State) : onlyChanges [.fus] noId s (putTrack i t s) := fus_only ..

theorem associate_reporting (n : NewSample) (h : reporting [.fus] trackIds s r) :
    reporting [.fus] trackIds s (associate n r) := by
  unfold associate
  extract_lets u q mine fit best buf restart buf1 keep older drop s1 ev
  have kept (l : List NewSample) (v : State) : onlyChanges [.fus] trackIds v (keep l v) := (fus_only ..).step .refl
  clear_value best drop
  cases best
  case some => exact h.step ((putTrack_only ..).step .refl)
  case none =>
    have dropped : onlyChanges [.fus] trackIds u s1 := by
      refine .trans ?_ (kept ..)
      split
      · exact (putTrack_only ..).step .refl
      · exact .refl
    have known : ∀ e ∈ ev, e.1 < 128 := by grind
    refine .ite (h.step (kept ..)) ?_
    split
    · exact (h.step (.sticky (.bump dropped))).event
    · exact (h.step ((putTrack_only ..).step dropped)).events known

theorem associateAll_reporting (s : State) : reporting [.fus] trackIds s (associateAll s) :=
  .foldl .start fun _ n _ h => associate_reporting n h

theorem lifecycle_reporting (i : Nat) (h : reporting [.fus] trackIds s r) : reporting [.fus] trackIds s (lifecycle i r) := by
  have put (t : Option Track) : reporting [.fus] trackIds s (putTrack i t r.1, r.2) :=
    h.step ((putTrack_only ..).step .refl)
  unfold lifecycle
  split
  · exact h
  next t _ =>
    refine .ite (put _) (.ite ?_ (.ite (put _).event h))
    exact .ite ((put none).step (.sticky .refl)).event (put _)

theorem fusionPrelude_reporting (s : State) : reporting [.fus] trackIds s (fusionPrelude s).1 := by
  unfold fusionPrelude
  extract_lets l prior att s1
  obtain ⟨kept, known⟩ := associateAll_reporting s1
  have evaluated : onlyChanges [.fus] trackIds s s1 := (evalNews_foldl_only ..).step .refl
  have associated : reporting [.fus] trackIds s (associateAll s1) := ⟨evaluated.trans kept, known⟩
  dsimp only
  exact .foldl associated fun _ i _ h => lifecycle_reporting i h

end
end Sys2Proof.Machine
end

section
/-! SUPPORT. The frames of the votes, of the fused output and of the rows of the votes' counts (06 R190-R204). -/
set_option Elab.async false

namespace Sys2Proof.Machine

section
variable {P : List Part} {I : Nat → Bool} {s t : State} {r : State × List (Nat × Nat)}

/-! ### Votes -/

theorem updVote_only (q : Fin 2) (f : VoteUnit → VoteUnit) (s : State) : onlyChanges [.fus] noId s (updVote q f s) :=
  fus_only ..

theorem updTracksOf_only (q : Fin 2) (f : Nat → Track → Track) (s : State) :
    onlyChanges [.fus] noId s (updTracksOf q f s) := fus_only ..

theorem startHold_reporting (q : Fin 2) (x : HoldReason) (h : reporting [.fus] trackIds s r) :
    reporting [.fus] trackIds s (startHold q x r) :=
  .ite h (h.step (.sticky ((updVote_only ..).step .refl))).event

theorem endHold_reporting (q : Fin 2) (s : State) : reporting [.fus] noId s (endHold q s) := by
  unfold endHold
  split
  · exact .start
  · exact (reporting.start.step ((updTracksOf_only ..).step (updVote_only ..))).event

theorem pickPhase_reporting (q : Fin 2) (h : reporting [.fus] trackIds s r) :
    reporting [.fus] trackIds s (pickPhase q r) := by
  have voted (f : VoteUnit → VoteUnit) : reporting [.fus] trackIds s (updVote q f r.1, r.2) :=
    h.step ((updVote_only ..).step .refl)
  unfold pickPhase
  extract_lets u
  split
  · extract_lets e
    obtain ⟨kept, known⟩ := endHold_reporting q _
    exact ((voted _).step (kept.step .refl)).events known
  · exact voted _
  · split
    · exact .ite h (voted _)
    · exact h

theorem votePhase_reporting (q : Fin 2) (h : reporting [.fus] trackIds s r) :
    reporting [.fus] trackIds s (votePhase q r) := by
  unfold votePhase
  extract_lets a u v f s1 fresh s2 ev marked x held
  have picked : reporting [.fus] trackIds s a := pickPhase_reporting q h
  have counted : reporting [.fus] trackIds s (s1, a.2) :=
    picked.step ((updVote_only ..).step ((updTracksOf_only ..).step .refl))
  have out : onlyChanges [.fus] trackIds s1 s2 := (updTracksOf_only ..).step .refl
  have known : ∀ e ∈ ev, e.1 < 128 := fun e he => by
    obtain ⟨i, -, rfl⟩ := List.mem_map.1 he
    exact (by decide : 39 < 128)
  clear_value f s1 s2 ev fresh
  have voted : reporting [.fus] trackIds s x.1 := by
    dsimp only [x]
    split
    · split
      · exact (counted.step (.ite out (.sticky out))).events known
      · exact startHold_reporting _ _ counted
    · split
      · split
        · refine startHold_reporting _ _ (.event ?_)
          exact counted.step (.sticky ((updTracksOf_only ..).step ((updVote_only ..).step .refl)))
        · exact counted
      · split
        · exact counted
        · exact startHold_reporting _ _ counted
  exact .ite (picked.step ((updVote_only ..).step ((updTracksOf_only ..).step .refl))) (voted.step ((updVote_only ..).step .refl))

/-! ### Initialisation and the fused output -/

theorem initPhase_reporting {x : (State × List (Nat × Nat)) × (List F32 × List (List F32))}
    (h : reporting [.fus] trackIds s x.1) :
    reporting [.fus] trackIds s (initPhase x).1 := by
  have initialised {y : State × List (Nat × Nat)} (f : Fusion) (i : Nat) (hy : reporting [.fus] trackIds s y) :
      reporting [.fus] trackIds s ({ y.1 with fus := f }, y.2 ++ [(43, i)]) := (hy.step ((fus_only ..).step .refl)).event
  unfold initPhase
  extract_lets u _ x1 u1 _ x2 u2 _
  have heading : reporting [.fus] trackIds s x1.1 := by
    dsimp only [x1]
    split
    · exact h
    · split
      · exact h
      · exact initialised _ _ h
  have position : reporting [.fus] trackIds s x2.1 := by
    dsimp only [x2]
    split
    · exact heading
    · split
      · exact heading
      · exact initialised _ _ heading
  split
  · exact h
  · split
    · exact position
    · split
      · exact position
      · exact initialised _ _ position

/-- The registers of the fused output (06 R203). -/
def fusedIds (id : Nat) : Bool := idsIn 0x2320 0x2322 id || idsIn 0x2330 0x233F id

theorem fusionRegs_only (s : State) : onlyChanges [.poison] fusedIds s (fusionRegs s) := by
  unfold fusionRegs
  exact .wrAll .refl (by simp [fusedIds])

theorem fusedOutput_only (x : List F32 × List (List F32)) (m : Option Meas) (s : State) :
    onlyChanges [.fus, .poison] fusedIds s (fusedOutput x m s) := by
  unfold fusedOutput
  extract_lets sd o
  exact .wrAll ((fusionRegs_only _).step ((fus_only ..).step .refl)) (by simp [fusedIds]; grind)

theorem loftWrite_only (x : List F32 × List (List F32)) (l : List Bool) (s : State) :
    onlyChanges [.fus] noId s (loftWrite x l s) := fus_only ..

/-- The registers that the update phase may change. -/
@[simp] def fusionIds (id : Nat) : Bool := anyEventId id || (idsIn 0x2320 0x2324 id || idsIn 0x2330 0x233F id)

theorem execFusionUpdate_framed (s : State) :
    framed [.fus, .line, .ev, .poison, .yards] fusionIds s (execFusionUpdate s) := by
  unfold execFusionUpdate
  extract_lets s0 pre a use _ _ _ s1 ini s2 x s3 motion
  have voted : reporting [.fus] trackIds s0 a :=
    votePhase_reporting 1 (votePhase_reporting 0 (fusionPrelude_reporting s0))
  clear_value a
  have initialised : reporting [.fus] trackIds s0 ini.1 := initPhase_reporting (voted.step ((fus_only ..).step .refl))
  obtain ⟨kept, known⟩ := initialised
  have begun : onlyChanges [.fus, .line, .ev, .poison, .yards] fusionIds s s2 :=
    kept.step ((stageDone_only ..).step (.advance .refl)) rfl (by simp +contextual [or_imp])
  have applied : onlyChanges [.fus, .line, .ev, .poison, .yards] fusionIds s (loftWrite x.1 x.2 s3) :=
    (loftWrite_only ..).step ((pickApplied_only ..).step begun)
  refine .ite (.next .refl) (.next (.raiseAll ((fusedOutput_only ..).step applied rfl ?_) known))
  simp [fusedIds]
  omega

theorem execTrackSilenceExpiry_framed (k : Fin 48) (s : State) :
    framed [.fus, .line, .ev] (fun id => anyEventId id || [0x2323, 0x2324].contains id) s (execTrackSilenceExpiry k s) := by
  unfold execTrackSilenceExpiry
  split
  · exact .ite (.next .refl) (.next (.raiseIf ((putTrack_only ..).step (.advance .refl))))
  · exact .next .refl

theorem execModelHoldEnd_framed (q : Quantity) (s : State) : framed [.fus, .line, .ev]
    (fun id => anyEventId id || [0x2320, 0x2323, 0x2324].contains id) s (execModelHoldEnd q s) := by
  unfold execModelHoldEnd
  extract_lets i e
  obtain ⟨kept, known⟩ := endHold_reporting i (advance (beatCycle s 419999) s)
  exact .ite (.next .refl) (.next (.raiseAll (.wrFlag (kept.step (.advance .refl))) known))

theorem execVotedOutReadmit_framed (k : Fin 48) (s : State) :
    framed [.fus, .line, .ev] (fun id => anyEventId id || [0x2323, 0x2324].contains id) s (execVotedOutReadmit k s) := by
  unfold execVotedOutReadmit
  extract_lets p
  split
  · split
    · exact .next .refl
    · extract_lets near
      exact .ite (.next (.raise ((putTrack_only ..).step (.advance .refl)))) (.next .refl)
  · exact .next .refl

end
end Sys2Proof.Machine
end

section
/-! SUPPORT. The frames of the control law's events (08 R235-R260), and of the loss of a reference. -/
set_option Elab.async false

namespace Sys2Proof.Machine

section
variable {P : List Part} {I : Nat → Bool} {s t : State} {r : State × List (Nat × Nat)}

/-! ### Reference loss -/

theorem updCtl_only (f : Control → Control) (s : State) : onlyChanges [.ctl] noId s (updCtl f s) := ctl_only ..

/-- The registers of the mode stall and of what commits it. -/
@[simp] def lossIds (id : Nat) : Bool := anyEventId id || [0x2000, 0x210C].contains id

theorem lossCommit_only (q : Fin 2) (s : State) : onlyChanges [.arb, .ctl, .line, .ev] lossIds s (lossCommit q s) := by
  unfold lossCommit
  extract_lets mode auto preset heading put hdgMode m
  have committed (m : Nat) (degr : Bool) (cause : Nat) : onlyChanges [.arb, .ctl, .line, .ev] lossIds s (put m degr cause s) := by
    dsimp only [put]
    split
    · exact .refl
    next s1 hs =>
      rw [arbitrate] at hs
      split at hs
      · cases hs
      · cases hs
        exact .sticky ((writeMode_only ..).step ((noteCommit_only ..).step .refl) rfl (by simp +contextual [or_imp]))
  exact .ite (committed ..) (.ite (.ite (committed ..) (.ite (committed ..) (committed ..))) .refl)

theorem execRefLost_framed (q : Quantity) (s : State) : framed [.arb, .fus, .ctl, .line, .ev]
    (fun id => anyEventId id || [0x2000, 0x210C, 0x2320, 0x2323].contains id) s (execRefLost q s) := by
  unfold execRefLost
  extract_lets i v s1 s2 _ _ s3
  have lost : onlyChanges [.arb, .fus, .ctl, .line, .ev]
      (fun id => anyEventId id || [0x2000, 0x210C, 0x2320, 0x2323].contains id) s s2 :=
    .raise (.sticky (.wrFlag ((updVote_only ..).step (.advance .refl))))
  exact .ite (.next .refl) (.next ((lossCommit_only ..).step (.advance ((fus_only ..).step lost)) rfl
    (by simp +contextual [or_imp])))

/-! ### Stick and wind -/

theorem execJoyTimeoutExpiry_framed (s : State) :
    framed [.ctl, .line, .ev] (fun id => anyEventId id || (id == 0x210C)) s (execJoyTimeoutExpiry s) :=
  .ite (.next .refl) (.next (.raise (.sticky ((updCtl_only ..).step (.advance .refl)))))

theorem execJoyHeadingResume_framed (s : State) : framed [.ctl] (fun _ => false) s (execJoyHeadingResume s) :=
  .ite (.next .refl) (.next ((updCtl_only ..).step (.advance .refl)))

theorem execWindStaleExpiry_framed (s : State) :
    framed [.ctl, .line, .ev] (fun id => anyEventId id || (id == 0x210C)) s (execWindStaleExpiry s) :=
  .ite (.next .refl) (.next (.raise (.sticky ((updCtl_only ..).step (.advance .refl)))))

/-! ### The output -/

theorem known_ite {c : Prop} [Decidable c] {l m : List (Nat × Nat)} (hl : ∀ e ∈ l, e.1 < 128) (hm : ∀ e ∈ m, e.1 < 128) :
    ∀ e ∈ (if c then l else m), e.1 < 128 := by
  split <;> assumption

theorem known_append {l m : List (Nat × Nat)} (hl : ∀ e ∈ l, e.1 < 128) (hm : ∀ e ∈ m, e.1 < 128) :
    ∀ e ∈ l ++ m, e.1 < 128 := fun e he => (List.mem_append.1 he).elim (hl e) (hm e)

theorem trackStep_known (s : State) (c : Control) : ∀ e ∈ (trackStep s c).2, e.1 < 128 := by
  unfold trackStep
  split
  · simp
  · split
    · simp
    · dsimp only
      split
      · simp
      · split <;> simp

theorem driftStep_known (s : State) (c : Control) : ∀ e ∈ (driftStep s c).2, e.1 < 128 := by
  unfold driftStep
  split
  · simp
  · dsimp only
    split
    · simp
    · exact known_ite (by simp) (known_ite (by simp) (by simp))

/-- The registers of the control law's output: the targets and the words of 08 R261. -/
@[simp] def controlIds (id : Nat) : Bool := anyEventId id || (idsIn 0x2003 0x2005 id || idsIn 0x2100 0x210F id)

theorem execControlLawOutput_framed (s : State) :
    framed [.ctl, .line, .ev, .poison, .yards] controlIds s (execControlLawOutput s) := by
  unfold execControlLawOutput
  extract_lets s0 _ _ _ _ _ _ _ _ _ _ tr _ _ _ _ _ _ _ _ _ _ dr _ _ _ _ c5 _ _ tgt trk _ ev
  have begun : onlyChanges [.ctl, .line, .ev, .poison, .yards] controlIds s { s0 with ctl := c5 } :=
    (ctl_only ..).step ((stageDone_only ..).step (.advance .refl))
  have aimed (u : State) : onlyChanges [.poison] controlIds u (tgt u) :=
    .opt (.ite (.wrAll .refl) .refl) fun _ => .wr .refl
  have track : ∀ x ∈ trk, x.1 = 0x2101 := by
    dsimp only [trk]
    split <;> simp
  have known : ∀ e ∈ ev, e.1 < 128 :=
    known_append (known_append (trackStep_known _ _) (driftStep_known _ _)) (eventsWhen_known (by simp))
  clear_value ev trk c5 s0
  have words : ∀ x ∈ trk, controlIds x.1 = true := fun x hx => by rw [track x hx]; rfl
  exact .ite (.next .refl) (.next (.raiseAll ((aimed _).step (.wrAll begun
    (List.forall_mem_append.2 ⟨List.forall_mem_append.2 ⟨by simp, words⟩, by simp⟩)) rfl fun _ => id) known))

end
end Sys2Proof.Machine
end

section
/-! SUPPORT. The frames of the allocation's events (09 R272-R289), and O52. -/
set_option Elab.async false

namespace Sys2Proof.Machine

section
variable {P : List Part} {I : Nat → Bool} {s t : State} {r : State × List (Nat × Nat)}

/-! ### Power data -/

theorem updBus_only (b : Nat) (f : PowerBus → PowerBus) (s : State) : onlyChanges [.alc] noId s (updBus b f s) := alc_only ..

theorem execPowerDataStale_framed (b : Fin 4) (s : State) :
    framed [.alc, .line, .ev] (fun id => anyEventId id || (id == 0x24C5)) s (execPowerDataStale b s) := by
  unfold execPowerDataStale
  extract_lets k s1
  have marked : onlyChanges [.alc, .line, .ev] (fun id => anyEventId id || (id == 0x24C5)) s s1 :=
    (updBus_only ..).step (.advance .refl)
  exact .ite (.next .refl) (.next (.ite (.raise (.sticky marked)) marked))

theorem execPowerFrame_framed (c : Nat) (b : Fin 4) (f : CanFrame) (s : State) :
    framed [.alc] (fun id => id == 0x2486) s (execPowerFrame c b f s) := by
  unfold execPowerFrame
  extract_lets s0 p ramp bad bus
  have begun : onlyChanges [.alc] (fun id => id == 0x2486) s s0 := .advance .refl
  exact .ite (.next begun) (.ite (.next (.bump begun)) (.ite (.next begun)
    (.next ((updBus_only ..).step ((updBus_only ..).step begun)))))

theorem execPtbmpSentence_framed (c : Nat) (e : Fin 2) (l : List Byte) (s : State) :
    framed [.alc] (fun id => id == 0x2486) s (execPtbmpSentence c e l s) := by
  unfold execPtbmpSentence
  extract_lets s0
  have begun : onlyChanges [.alc] (fun id => id == 0x2486) s s0 := .advance .refl
  refine .ite (.next begun) ?_
  split
  · exact .next begun
  · dsimp only
    refine .ite (.next begun) ?_
    split
    · exact .ite (.next ((updBus_only ..).step begun)) (.ite (.next begun) (.next (.bump begun)))
    · exact .next (.bump begun)

/-! ### Iterations and fallback -/

theorem execAllocIteration_framed (s : State) :
    framed [.alc, .yards] (fun _ => false) s (execAllocIteration s) :=
  .ite (.next .refl) (.next ((alc_only ..).step ((stageDone_only ..).step (.advance .refl))))

theorem execAllocFallbackEntry_framed (s : State) :
    framed [.alc, .line, .ev] (fun id => anyEventId id || (id == 0x24C5)) s (execAllocFallbackEntry s) := by
  unfold execAllocFallbackEntry
  split
  · exact .next .refl
  · exact .ite (.next .refl) (.next (.raise (.sticky ((alc_only ..).step (.advance .refl)))))

theorem execAllocFallbackExit_framed (s : State) :
    framed [.alc, .line, .ev] anyEventId s (execAllocFallbackExit s) := by
  unfold execAllocFallbackExit
  split
  · exact .next .refl
  · exact .ite (.next .refl) (.next (.raise ((alc_only ..).step (.advance .refl)) (by decide) rfl fun _ => id))

/-! ### The result -/

theorem loadRelease_only (s : State) : onlyChanges [.poison] noId s (loadRelease s) := .set rfl .refl

/-- The registers of the allocation result (09 R294). -/
@[simp] def resultIds (id : Nat) : Bool :=
  anyEventId id || (idsIn 0x24C0 0x24C7 id || [0x2493, 0x2497, 0x249B, 0x249F].contains id)

theorem known_filterMap {α : Type} {l : List α} {f : α → Option (Nat × Nat)} (h : ∀ a, ∀ e ∈ f a, e.1 < 128) :
    ∀ e ∈ l.filterMap f, e.1 < 128 := fun e he => by
  obtain ⟨a, -, ha⟩ := List.mem_filterMap.1 he
  exact h a e ha

theorem known_map {α : Type} {l : List α} {f : α → Nat × Nat} (h : ∀ a, (f a).1 < 128) : ∀ e ∈ l.map f, e.1 < 128 :=
  fun e he => by
    obtain ⟨a, -, rfl⟩ := List.mem_map.1 he
    exact h a

theorem execAllocResult_framed (s : State) :
    framed [.alc, .line, .ev, .poison, .yards] resultIds s (execAllocResult s) := by
  unfold execAllocResult
  split
  · exact .next .refl
  · extract_lets s0 _ _ _ _ _ _ _ _ _ _ _ _ _ _ _ _ _ back _ ev s1 _ _ _ s2 s3
    have known : ∀ e ∈ ev, e.1 < 128 := by
      refine known_append (known_append (known_append (known_append (known_append ?_ ?_) ?_) ?_) ?_) ?_
      · exact known_ite (by simp) (by simp)
      · exact known_ite (by simp) (by simp)
      · exact known_filterMap fun b => by dsimp only; split <;> simp
      · exact known_filterMap fun b => by split <;> simp
      · exact known_map fun i => by simp
      · exact known_ite (by simp) (by simp)
    have begun : onlyChanges [.alc, .line, .ev, .poison, .yards] resultIds s s1 :=
      .foldl ((stageDone_only ..).step (.advance .refl)) fun _ _ _ => (updBus_only ..).step .refl
    have stored : onlyChanges [.alc, .line, .ev, .poison, .yards] resultIds s s2 := by
      refine .wrAll ((alc_only ..).step ((loadRelease_only _).step begun)) (List.forall_mem_append.2 ⟨by simp, ?_⟩)
      simp
      omega
    have counted : onlyChanges [.alc, .line, .ev, .poison, .yards] resultIds s s3 := .ite stored (.bump stored)
    exact .next (.raiseAll (.ite (.bump counted) counted) known)

end

/-- Settles O52: the frame of each command's exec function, by the calculus of frames. -/
theorem intakeAndFusionFrames : Obligations.IntakeAndFusionFrames :=
  ⟨execSourceLossTimeout_framed, execIntakeSummary_framed, execSerialSentence_framed, execUdpbcSentence_framed,
    execCanReferenceFrame_framed, execTalkSentenceSent_framed, execLoftReplayStep_framed, execFusionUpdate_framed,
    execTrackSilenceExpiry_framed, execModelHoldEnd_framed, execVotedOutReadmit_framed, execRefLost_framed,
    execControlLawOutput_framed, execWindStaleExpiry_framed, execJoyTimeoutExpiry_framed, execJoyHeadingResume_framed,
    execAllocIteration_framed, execAllocResult_framed, execAllocFallbackEntry_framed, execAllocFallbackExit_framed,
    execPowerDataStale_framed, execPowerFrame_framed, execPtbmpSentence_framed⟩

end Sys2Proof.Machine
end

section
/-! SUPPORT. What the end of intake and the loss of a source leave of the sources (05 R157, R163), and O30. -/
set_option Elab.async false

namespace Sys2Proof.Machine

section
variable {q : Fin 32} {p : Nat} {s t u : State}

/-! ### The unit of one source -/

theorem vget_updSrc_same (q : Fin 32) (f : SrcUnit → SrcUnit) (s : State) :
    vget (updSrc q.val f s).src q = f (vget s.src q) := by
  simp [updSrc, vupdN, q.isLt]

theorem srcUnit_eq (q : Fin 32) (s : State) : srcUnit s q.val = vget s.src q := vgetD_of_lt _ _ q.isLt

theorem updSrc_other (f : SrcUnit → SrcUnit) (s : State) (hq : q.val ≠ p) : vget (updSrc p f s).src q = vget s.src q := by
  unfold updSrc vupdN
  split
  next hp => exact vget_vupd_other _ _ _ _ (Fin.ne_of_val_ne hq)
  · rfl

/-! ### The intake of another source -/

theorem autoOrigin_src (lat lon : Int) (s : State) : (autoOrigin lat lon s).src = s.src := by
  unfold autoOrigin
  rw [raise_src]
  exact (onlyChanges.wrAll (P := [.poison]) (I := intakeIds) .refl).part .src

theorem readySamples_other (x : SrcCfg) (l : List SampleRec) (s : State) (hq : q.val ≠ p) :
    vget (readySamples p x l s).2.src q = vget s.src q := by
  induction l generalizing s with
  | nil => rfl
  | cons a l ih =>
    unfold readySamples
    extract_lets t s1 s2
    have counted : vget s1.src q = vget s.src q := by
      dsimp only [s1]
      split
      · exact updSrc_other _ _ hq
      · rfl
    have origin : vget s2.src q = vget s.src q := by
      dsimp only [s2]
      split
      · rw [autoOrigin_src, counted]
      · exact counted
    split
    · exact (ih _).trans ((updSrc_other _ _ hq).trans counted)
    · split
      · exact (ih _).trans ((updSrc_other _ _ hq).trans origin)
      · exact (ih _).trans origin

theorem putMeas_src (back p : Nat) (m : Option Meas) (s : State) : (putMeas back p m s).src = s.src := by
  unfold putMeas
  dsimp only
  split <;> rfl

theorem placeMeas_other (back : Nat) (m : Meas) (s : State) (hq : q.val ≠ p) :
    vget (placeMeas p back m s).src q = vget s.src q := by
  unfold placeMeas
  extract_lets sup put
  have counted : vget (sup s).src q = vget s.src q := updSrc_other _ _ hq
  have placed (t : State) : vget (put t).src q = vget t.src q := by rw [← putMeas_src back p (some m) t]
  split
  · exact placed s
  · split
    · exact (placed _).trans counted
    · exact counted

theorem alignSample_other (x : SrcCfg) (l : List ReadySample) (r : ReadySample) (s : State) (hq : q.val ≠ p) :
    vget (alignSample p x l r s).2.src q = vget s.src q := by
  unfold alignSample
  extract_lets edge v back s0 t later earlier a sg root m s1
  have aged : vget s0.src q = vget s.src q := updSrc_other _ _ hq
  split
  · exact (updSrc_other _ _ hq).trans aged
  · split
    · exact (updSrc_other _ _ hq).trans aged
    · calc _ = vget s1.src q := updSrc_other _ _ hq
        _ = _ := placeMeas_other _ _ _ hq
        _ = vget s0.src q := updSrc_other _ _ hq
        _ = _ := aged

theorem intakeSource_other (s : State) (hq : q.val ≠ p) : vget (intakeSource p s).1.src q = vget s.src q := by
  unfold intakeSource
  extract_lets x z r
  have aligned : vget r.2.src q = vget s.src q :=
    List.foldlRecOn (motive := fun (a : Bool × State) => vget a.2.src q = vget s.src q) _ _
      (readySamples_other _ _ _ hq) fun a ha k _ => (alignSample_other _ _ _ _ hq).trans ha
  exact (updSrc_other _ _ hq).trans aligned

theorem intakeSource_foldl_other {l : List Nat} (hl : q.val ∉ l) (r : State × List (Nat × Nat)) :
    vget (l.foldl (fun a p => ((intakeSource p a.1).1, a.2 ++ (intakeSource p a.1).2)) r).1.src q = vget r.1.src q :=
  List.foldlRecOn (motive := fun (a : State × List (Nat × Nat)) => vget a.1.src q = vget r.1.src q) _ _ rfl
    fun _ ha _ hp => (intakeSource_other _ fun h => hl (h ▸ hp)).trans ha

/-! ### The summary -/

/-- The summary of a source (05 R163): its image and rejects are handled, and its state follows ENABLE. -/
theorem summarise_unit (q : Fin 32) (x : SrcCfg) (a : Bool) (s : State) :
    (vget (summarise q.val x a s).1.src q).image = [] ∧ (vget (summarise q.val x a s).1.src q).rejects = [] ∧
    (vget (summarise q.val x a s).1.src q).on = flag s (srcId q.val 0) 0 ∧
    (flag s (srcId q.val 0) 0 = false → (vget (summarise q.val x a s).1.src q).state = 0) := by
  simp only [summarise, vget_updSrc_same, true_and]
  intro off
  simp [off]

/-- The summary of an enabled source without a sample, whose carrier is not fenced (05 R163). -/
theorem summarise_idle (x : SrcCfg) (hf : flag s (srcId q.val 0) 0 = true) (ho : (vget s.src q).on = true)
    (hc : (vget s.src q).cut = false) :
    (vget (summarise q.val x false s).1.src q).age = min ((vget s.src q).age + 1) 65535 ∧
    (vget (summarise q.val x false s).1.src q).state = (vget s.src q).state := by
  simp [summarise, vget_updSrc_same, srcUnit_eq, hf, ho, hc]

/-- The position effects of a moved origin leave of each source all but the samples kept for alignment (06 R199). -/
theorem moveOrigin_unit (q : Fin 32) (s : State) : ∃ k, vget (moveOrigin s).src q = { vget s.src q with kept := k } := by
  unfold moveOrigin
  split
  · exact ⟨_, rfl⟩
  · have kept (l : List (Nat × Word)) : (wrAll s l).src = s.src :=
      (onlyChanges.wrAll (P := [.poison]) (I := fun _ => true) .refl).part .src
    dsimp only
    split
    · exact ⟨_, rfl⟩
    · simp only [raise_src, kept, vget, Vector.getElem_ofFn]
      split <;> exact ⟨_, rfl⟩

/-- What the summary of the beat leaves of a source is what the source's own intake leaves of it. -/
theorem execIntakeSummary_unit (q : Fin 32) (hb : s.clk.beats = true) : ∃ t u, execIntakeSummary s = .next t ∧
    vget t.src q = vget (intakeSource q.val u).1.src q ∧ onlyChanges intakeParts intakeIds s u ∧
    ∃ k, vget u.src q = { vget s.src q with kept := k } := by
  obtain ⟨l, m, split32⟩ := List.append_of_mem (List.mem_range.2 q.isLt)
  have once : (l ++ q.val :: m).Nodup := split32 ▸ List.nodup_range
  have before : q.val ∉ l := by grind
  have behind : q.val ∉ m := by grind
  unfold execIntakeSummary
  rw [if_neg (by simp [hb]), split32]
  extract_lets s0 _ s1 r
  have begun : onlyChanges intakeParts intakeIds s s1 :=
    (moveOrigin_only _).step ((fus_only ..).step ((stageDone_only ..).step (.advance .refl))) rfl fun _ => id
  have summed (l : List Nat) {a : State × List (Nat × Nat)} (ha : reporting intakeParts intakeIds s a) :
      reporting intakeParts intakeIds s
        (l.foldl (fun a p => ((intakeSource p a.1).1, a.2 ++ (intakeSource p a.1).2)) a) :=
    .foldl ha fun a p _ ha => by
      obtain ⟨kept, known⟩ := intakeSource_reporting p a.1
      exact (ha.step kept).events known
  obtain ⟨-, known⟩ : reporting intakeParts intakeIds s r := summed _ ⟨begun, by simp⟩
  have raised : (raiseAll r.2 r.1).src = r.1.src :=
    (onlyChanges.raiseAll (P := [.line, .ev]) (I := anyEventId) .refl known (hI := fun _ => id)).part .src
  obtain ⟨first, -⟩ := summed l (a := (s1, [])) ⟨begun, by simp⟩
  refine ⟨_, _, rfl, ?_, first, ?_⟩
  · rw [raised]
    dsimp only [r]
    rw [List.foldl_append, List.foldl_cons]
    exact intakeSource_foldl_other behind _
  · obtain ⟨k, moved⟩ := moveOrigin_unit q { s0 with fus := { s0.fus with news := [], step := 0 } }
    have kept : s0.src = s.src := ((stageDone_only 0 _).part .src).trans (advance_src ..)
    refine ⟨k, (intakeSource_foldl_other before _).trans (moved.trans ?_)⟩
    rw [kept]

/-- A source whose AGE reaches LOSS_TIMEOUT (05 R163). -/
theorem execSourceLossTimeout_lost (hst : (vget s.src q).state = 1 ∨ (vget s.src q).state = 2)
    (hage : sfld s (srcId q.val 2) 25 16 ≤ (vget s.src q).age) (hf : flag s (srcId q.val 0) 0 = true) :
    execSourceLossTimeout q s = .next (raise 32 q.val (updSrc q.val (fun u => { u with
      state := 3, count := { u.count with loss := satAdd 16 u.count.loss 1 } }) s)) :=
  if_pos (by rw [srcUnit_eq]; exact ⟨hst, hage, hf⟩)

theorem flag_srcId_of_intake (h : onlyChanges intakeParts intakeIds s t) (q : Fin 32) :
    flag t (srcId q.val 0) 0 = flag s (srcId q.val 0) 0 :=
  flag_congr (h.rd (by simp [srcId, anyEventId]; omega))

end

/-- Settles O30: the summary of each source in the end of intake, and the loss of a source. -/
theorem intakeEnds : Obligations.IntakeEnds := by
  refine ⟨fun q s hb => ?_, fun q s hst hage hf => ?_⟩
  · obtain ⟨t, u, run, unit, kept, k, before⟩ := execIntakeSummary_unit q hb
    obtain ⟨v, a, summary, aligned, idle⟩ := intakeSource_summary q.val u
    obtain ⟨image, rejects, on, off⟩ := summarise_unit q (srcCfg u.snap q.val) a v
    have enable : flag v (srcId q.val 0) 0 = flag s (srcId q.val 0) 0 := flag_srcId_of_intake (kept.trans aligned) q
    rw [← summary, ← unit] at image rejects on off
    refine ⟨t, run, image, rejects, on.trans enable, fun h => off (enable.trans h), fun he hf ho hc => ?_⟩
    obtain ⟨rfl, rfl⟩ := idle (by rw [srcUnit_eq, before]; exact he)
    have summed := summarise_idle (srcCfg v.snap q.val) (enable.trans hf) (by rw [before]; exact ho) (by rw [before]; exact hc)
    rw [← summary, ← unit, before] at summed
    exact summed
  · refine ⟨_, execSourceLossTimeout_lost hst hage hf, ?_, ?_, fun hc => ?_⟩
    · rw [raise_src, vget_updSrc_same]
    · rw [raise_src, vget_updSrc_same]
    · exact (raise_sticky 32 q.val (updSrc q.val _ s) hc).resolve_right (by decide)

end Sys2Proof.Machine
end

section
/-! SUPPORT. What sentences and frames leave of sources and ports (05 R145-R155, R171, R172), and O29. -/
set_option Elab.async false

namespace Sys2Proof.Machine

section
variable {q : Nat} {s t : State}

/-! ### What the clock leaves -/

theorem blockDown_advance (c y b : Nat) (s : State) : blockDown (advance c s) y b = blockDown s y b := by
  simp only [blockDown, yardFenced, yardState, blockFenced, fld, flag, rd_advance]

theorem ethOn_advance (c : Nat) (e : Fin 2) (s : State) : ethOn (advance c s) e = ethOn s e := by
  rw [ethOn, blockDown_advance, flag_congr (rd_advance ..), ethOn]

theorem groupJoined_advance (c g : Nat) (e : Fin 2) (s : State) : groupJoined (advance c s) e g = groupJoined s e g := by
  rw [groupJoined, flag_congr (rd_advance ..), groupJoined]

theorem canHears_advance (c : Nat) (b : Fin 4) (s : State) : canHears (advance c s) b = canHears s b := by
  simp only [canHears, blockDown_advance, advance_can]

theorem matchSource_advance (c trans talk : Nat) (port : Nat → Bool) (fmt : List Nat) (target : Option Nat) (s : State) :
    matchSource (advance c s) trans port talk fmt target = matchSource s trans port talk fmt target := by
  simp only [matchSource, advance_regs, rd_advance]

theorem srcUnit_advance (c q : Nat) (s : State) : srcUnit (advance c s) q = srcUnit s q := by
  simp only [srcUnit, advance_src]

/-! ### Records -/

theorem matchSource_lt {trans talk : Nat} {port : Nat → Bool} {fmt : List Nat} {target : Option Nat}
    (h : matchSource s trans port talk fmt target = some q) : q < 32 := by
  unfold matchSource at h
  dsimp only at h
  split at h
  · cases h
  · split at h
    next p hp =>
      cases h
      exact List.mem_range.1 (List.mem_of_find?_eq_some hp)
    next => exact List.mem_range.1 (List.mem_of_find?_eq_some h)

theorem srcUnit_updSrc (hq : q < 32) (f : SrcUnit → SrcUnit) (s : State) : srcUnit (updSrc q f s) q = f (srcUnit s q) :=
  (srcUnit_eq ⟨q, hq⟩ _).trans ((vget_updSrc_same ⟨q, hq⟩ f s).trans (congrArg f (srcUnit_eq ⟨q, hq⟩ s).symm))

/-- A record that is taken stands behind those that wait, of which the earliest gives way to a fourth (05 R154, R155). -/
theorem acceptRec_buf (hq : q < 32) (x : SampleRec) (s : State) : (srcUnit (acceptRec q x s) q).buf =
    (if 3 ≤ (srcUnit s q).buf.length then (srcUnit s q).buf.drop 1 else (srcUnit s q).buf) ++ [x] := by
  rw [acceptRec, srcUnit_updSrc hq]
  split <;> rfl

theorem acceptRec_counter (hq : q < 32) (x : SampleRec) (s : State) :
    (srcUnit (acceptRec q x s) q).counter = (srcUnit s q).counter := by
  rw [acceptRec, srcUnit_updSrc hq]
  split <;> rfl

/-- A sentence of the source's kind, stamped on arrival, yields its values (05 R146, R152). -/
theorem sentenceRecord_values {fmt : List Nat} {f : List (List Nat)} {a : Int} {utc : Option Int} {la lo : Int} {v w : F32}
    {z : Option F32} (hk : kindOfFmt fmt = (srcCfg s.regs q).kind) (hs : (srcCfg s.regs q).stamp ≠ 1)
    (hp : parseSentence fmt f = .values utc la lo v w z) :
    sentenceRecord q fmt f a s = .ok ⟨s.clk.cycle, a, none, la, lo, v, w, z⟩ := by
  simp [sentenceRecord, hk, hs, hp]

/-- A sentence of another kind than the source's, or one that does not parse, is FORMAT (05 R146, log 15). -/
theorem sentenceRecord_format {fmt : List Nat} {f : List (List Nat)} (a : Int)
    (h : kindOfFmt fmt ≠ (srcCfg s.regs q).kind ∨ parseSentence fmt f = .format) :
    sentenceRecord q fmt f a s = .error .format := by
  unfold sentenceRecord
  dsimp only
  split
  · rfl
  next hk => rw [h.resolve_left hk]

/-! ### RS-422 ports -/

section
variable {c a : Nat} {port : Fin 4} {l : List Byte} {b : List Nat}

variable (hon : flag s (serId port 0) 2 = true) (hd : blockDown s 7 (6 + port.val) = false)
include hon hd

theorem execSerialSentence_framing :
    execSerialSentence c a port l true s = .next (serialDiscard port 0 2 (advance c s)) := by
  simp [execSerialSentence, flag_congr (rd_advance c s _), blockDown_advance, hon, hd]

variable (hl : l.length ≤ 82) (hb : checkedBody l = some b)
include hl hb

/-- A sentence that an enabled source matches becomes a record of the source, or is counted there (05 R146). -/
theorem execSerialSentence_matched (hm : matchSource s 0 (· == port.val) (sentenceParts b).1 (sentenceParts b).2.1
    (sentenceParts b).2.2.2 = some q) : execSerialSentence c a port l false s = .next (takeRecord q
      (sentenceRecord q (sentenceParts b).2.1 (sentenceParts b).2.2.1 a (advance c s)) (advance c s)) := by
  simp [execSerialSentence, flag_congr (rd_advance c s _), blockDown_advance, hon, hd, Nat.not_lt.2 hl, hb,
    matchSource_advance, hm]

theorem execSerialSentence_unmatched (hm : matchSource s 0 (· == port.val) (sentenceParts b).1 (sentenceParts b).2.1
    (sentenceParts b).2.2.2 = none) : execSerialSentence c a port l false s =
      .next (sticky (bump (advance c s) (serId port 4) 15 0 1) (serId port 1) 3) := by
  simp [execSerialSentence, flag_congr (rd_advance c s _), blockDown_advance, hon, hd, Nat.not_lt.2 hl, hb,
    matchSource_advance, hm]

end

theorem anyEventId_serId (p : Fin 4) {off : Nat} (h : off < 16) : anyEventId (serId p off) = false := by
  simp [anyEventId, serId]
  omega

/-- A counted and flagged line of an RS-422 port: the counter by one, the sticky bit set. -/
theorem bump_sticky_serId (p : Fin 4) {off bit : Nat} (ho : off ≠ 1) (hb : bit < 32) (s : State) :
    fld (sticky (bump s (serId p off) 15 0 1) (serId p 1) bit) (serId p off) 15 0 = satAdd 16 (fld s (serId p off) 15 0) 1 ∧
    flag (sticky (bump s (serId p off) 15 0 1) (serId p 1) bit) (serId p 1) bit = true := by
  refine ⟨?_, flag_sticky_same _ _ _ hb⟩
  rw [fld_congr (rd_sticky_other _ _ (by simp [serId]; omega)), fld_bump_same _ _ _ _ _ (by decide)]

/-- A sentence that a port discards is counted and flagged, and reaches no source (05 R146, R171). -/
theorem serialDiscard_counts (p : Fin 4) {off bit : Nat} (ho : 1 < off ∧ off ≤ 5) (hb : bit < 32) (s : State) :
    fld (serialDiscard p bit off s) (serId p off) 15 0 = satAdd 16 (fld s (serId p off) 15 0) 1 ∧
    flag (serialDiscard p bit off s) (serId p 1) bit = true ∧ (serialDiscard p bit off s).src = s.src := by
  have own (k : Nat) (hk : k < 16) : rd (serialDiscard p bit off s) (serId p k) =
      rd (sticky (bump s (serId p off) 15 0 1) (serId p 1) bit) (serId p k) := by
    unfold serialDiscard
    dsimp only
    split
    · rfl
    · have raised (t : State) : onlyChanges [.line, .ev] anyEventId t (raise 35 p.val t) := .raise .refl
      exact (raised _).rd (anyEventId_serId p hk)
  have noSource : (serialDiscard p bit off s).src = s.src := by
    unfold serialDiscard
    dsimp only
    split
    · simp
    · simp
  obtain ⟨counted, marked⟩ := bump_sticky_serId p (off := off) (by omega) hb s
  exact ⟨(fld_congr (own off (by omega))).trans counted, (flag_congr (own 1 (by omega))).trans marked, noSource⟩

/-! ### UdPbC -/

/-- A sentence of a source with a port of its own is never DUPLICATE (05 R147). -/
theorem execUdpbcSentence_matched {c a : Nat} {e : Fin 2} {g : Fin 16} {l : List Byte} {b : List Nat} (hon : ethOn s e = true)
    (hg : groupJoined s e g.val = true) (hl : (stripTag l).length ≤ 82) (hb : checkedBody (stripTag l) = some b)
    (hm : matchSource s 1 (fun x => x == 0 || x == e.val + 1) (sentenceParts b).1 (sentenceParts b).2.1
      (sentenceParts b).2.2.2 = some q) (hp : (srcCfg s.regs q).port ≠ 0) :
    ∃ lines, execUdpbcSentence c a e g l s = .next (takeRecord q
      (sentenceRecord q (sentenceParts b).2.1 (sentenceParts b).2.2.1 a (advance c s))
      (updSrc q (fun u => { u with lines := lines }) (advance c s))) := by
  simp only [execUdpbcSentence, ethOn_advance, groupJoined_advance, matchSource_advance, advance_regs, hon, hg, hb, hm, hp,
    decide_eq_false (Nat.not_lt.2 hl), Bool.not_true, Bool.or_self, Bool.false_eq_true, if_false, false_and]
  exact ⟨_, rfl⟩

/-! ### CAN frames -/

/-- The source of a frame is the lowest enabled one of its bus with its identifier (05 R148, R149). -/
theorem execCanReferenceFrame_record {c a : Nat} {bus : Fin 4} {f : CanFrame} {q : Fin 32} (hh : canHears s bus = true)
    (hr : f.remote = false) (hon : flag s (srcId q.val 0) 0 = true) (ht : (srcCfg s.regs q.val).trans = 2)
    (hp : (srcCfg s.regs q.val).port = bus.val) (hm : (srcCfg s.regs q.val).mtch = frameIdWord f)
    (first : ∀ j : Fin 32, j < q → flag s (srcId j.val 0) 0 = false ∨ (srcCfg s.regs j.val).mtch ≠ frameIdWord f)
    (hfd : f.fd = true) (hlen : f.data.length = 20) (hk : byteAt f.data 0 = (srcCfg s.regs q.val).kind)
    (hz : byteAt f.data 1 / 8 = 0) (hv : byteAt f.data 1 % 2 = 1)
    (hc : (srcUnit s q.val).counter ≠ some (leAt f.data 2 2)) :
    ∃ x : SampleRec, execCanReferenceFrame c a bus f s = .next (acceptRec q.val x
      (updSrc q.val (fun u => { u with counter := some (leAt f.data 2 2) }) (advance c s))) ∧ x.arrival = a ∧
      x.v1 = (frameRec (srcCfg s.regs q.val).kind f.data).2.2.1 ∧
      x.v2 = (frameRec (srcCfg s.regs q.val).kind f.data).2.2.2.1 := by
  have found : (List.range 32).find? (fun q => bitOf (rd s (srcId q 0)) 0 && (srcCfg s.regs q).trans == 2 &&
      (srcCfg s.regs q).port == bus.val && (srcCfg s.regs q).mtch == frameIdWord f) = some q.val := by
    rw [List.find?_range_eq_some]
    refine ⟨?_, List.mem_range.2 q.isLt, fun j hj => ?_⟩
    · simp [show bitOf (rd s (srcId q.val 0)) 0 = true from hon, ht, hp, hm]
    · obtain off | other := first ⟨j, hj.trans q.isLt⟩ hj
      · simp [show bitOf (rd s (srcId j 0)) 0 = false from off]
      · simp [show (srcCfg s.regs j).mtch ≠ frameIdWord f from other]
  simp only [execCanReferenceFrame, canHears_advance, hh, hr, advance_regs, rd_advance, found, srcUnit_advance, hfd, hlen,
    hk, hz, hv]
  rw [if_neg (by simp), if_neg (by simp), if_neg (by decide), if_neg (by simpa using hc)]
  exact ⟨_, rfl, rfl, rfl, rfl⟩

end

/-- Settles O29. Each arrival is one record, one reject or one count: the lemmas above say which, and `advance`, which stands
before them all, touches neither sources nor registers. -/
theorem sentencesAndFrames : Obligations.SentencesAndFrames := by
  unfold Obligations.SentencesAndFrames
  refine ⟨?_, ?_, ?_, ?_, ?_, ?_, ?_⟩
  case refine_1 =>
    rintro c a port l - b q utc la lo v w z s hon hd rfl hl hb hm hk hs hp
    refine ⟨_, execSerialSentence_matched hon hd hl hb hm, ?_⟩
    rw [sentenceRecord_values (by rwa [advance_regs]) (by rwa [advance_regs]) hp, takeRecord,
      acceptRec_buf (matchSource_lt hm), srcUnit_advance]
  case refine_2 =>
    rintro c a port l - b q s hon hd rfl hl hb hm hp
    refine ⟨_, execSerialSentence_matched hon hd hl hb hm, ?_⟩
    rw [sentenceRecord_format _ (by rwa [advance_regs]), takeRecord, rejectRec, srcUnit_updSrc (matchSource_lt hm),
      srcUnit_advance]
    exact ⟨rfl, rfl⟩
  case refine_3 =>
    rintro c a port l - s hon hd rfl
    have counts := serialDiscard_counts port (off := 2) (bit := 0) (by decide) (by decide) (advance c s)
    rw [fld_congr (rd_advance c s _), advance_src] at counts
    exact ⟨_, execSerialSentence_framing hon hd, counts⟩
  case refine_4 =>
    rintro c a port l - b s hon hd rfl hl hb hm
    obtain ⟨counted, marked⟩ := bump_sticky_serId port (off := 4) (bit := 3) (by decide) (by decide) (advance c s)
    rw [fld_congr (rd_advance c s _)] at counted
    exact ⟨_, execSerialSentence_unmatched hon hd hl hb hm, counted, marked, by simp⟩
  case refine_5 =>
    intro c a e g l b q utc la lo v w z s hon hg hl hb hm hport hk hs hp
    obtain ⟨lines, h⟩ := execUdpbcSentence_matched hon hg hl hb hm hport
    refine ⟨_, h, ?_⟩
    rw [sentenceRecord_values (by rwa [advance_regs]) (by rwa [advance_regs]) hp, takeRecord,
      acceptRec_buf (matchSource_lt hm), srcUnit_updSrc (matchSource_lt hm), srcUnit_advance]
  case refine_6 =>
    intro c a bus f q s hh hr hon ht hport hm first hfd hlen hk hz hv hc _
    obtain ⟨x, h, record⟩ := execCanReferenceFrame_record (c := c) (a := a) hh hr hon ht hport hm first hfd hlen hk hz hv hc
    refine ⟨_, h, ?_, x, ?_, record⟩
    · rw [acceptRec_counter q.isLt, srcUnit_updSrc q.isLt]
    · rw [acceptRec_buf q.isLt, srcUnit_updSrc q.isLt, srcUnit_advance]
  case refine_7 =>
    intro port x s _
    exact ⟨_, rfl, by rw [vget_vupd_same], by rw [vget_vupd_same]⟩

end Sys2Proof.Machine
end

section
/-! SUPPORT. What the requests of intake and fusion store (05 R166-R168, 06 R196, R201), and O22. -/
set_option Elab.async false

namespace Sys2Proof.Machine

section
variable {o : OpSpec} {r : Req} {q : Nat} {x : SrcCfg} {s t : State}

/-! ### What a passed check says -/

theorem firstBad_eq_none {l : List (Bool × Nat)} (h : firstBad l = none) : ∀ x ∈ l, x.1 = true := by
  induction l with
  | nil => simp
  | cons x l ih =>
    obtain ⟨first, rest⟩ := firstBad_none h
    exact List.forall_mem_cons.2 ⟨first, ih rest⟩

/-- The fields of a configuration fit the register fields that hold them (05 R170). -/
structure SrcCfg.Fits (x : SrcCfg) : Prop where
  kind : x.kind < 8
  trans : x.trans < 4
  port : x.port < 4
  talk : x.talk < 65536
  stamp : x.stamp < 4
  extrap : x.extrap < 2
  lat : x.lat < 65536
  loss : x.loss < 1024
  sigmas : x.s1 < 65536 ∧ x.s2 < 65536 ∧ x.s3 < 65536
  lever : x.lx < 65536 ∧ x.ly < 65536 ∧ x.lz < 65536
  span : x.span < 65536
  mount : x.mount < 65536
  window : x.win < 65536 ∧ x.tol < 65536

/-- A stamp above 2 is for a source within the module (05 R152). -/
theorem stampAllowed_le (h : stampAllowed x = true) : x.stamp ≤ 2 ∨ x.trans = 3 := by
  unfold stampAllowed at h
  split at h
  · omega
  · omega
  · omega
  · exact .inr (by simpa using h)

/-- TRANSPORT, PORT and STAMP that pass the checks (05 R152, R167). -/
theorem fixedOk_bounds (ht : (fixedOk q x).2.1 = true) (hp : (fixedOk q x).2.2.1 = true) (hs : (fixedOk q x).2.2.2 = true)
    (ha : stampAllowed x = true) : x.trans < 4 ∧ x.port < 4 ∧ x.stamp < 4 := by
  have allowed := stampAllowed_le ha
  unfold fixedOk at ht hp hs
  split at ht
  next hq =>
    simp only [hq, if_true, beq_iff_eq] at ht hp hs
    omega
  next hq =>
    simp only [hq, if_false, decide_eq_true_eq] at ht hp
    split at hp <;> omega

theorem leAt_two_lt (p : List Byte) (n : Nat) : leAt p n 2 < 65536 := leAt_lt p n 2

theorem srcCfg_expert_lt (regs : Regs) (q : Nat) : (srcCfg regs q).s3 < 65536 ∧ (srcCfg regs q).mount < 65536 ∧
    (srcCfg regs q).win < 65536 ∧ (srcCfg regs q).tol < 65536 :=
  ⟨Nat.mod_lt _ (by decide), Nat.mod_lt _ (by decide), Nat.mod_lt _ (by decide), Nat.mod_lt _ (by decide)⟩

/-- The configuration that a passed REF_CONFIG asks for fits its register fields: the checks bound its narrow fields, and the
others are 16 bits wide in the payload and in the registers. -/
theorem payloadCfg_fits {expert : Bool} {code : Nat} {port : Fin 2} {p : List Byte}
    (h : (refConfig expert code).check port p s = none) :
    (payloadCfg expert p (srcCfg s.regs (byteAt p 0))).Fits := by
  have passed := firstBad_eq_none h
  have checks (y) (hy : y ∈ cfgChecks (byteAt p 0) (payloadCfg expert p (srcCfg s.regs (byteAt p 0)))) : y.1 = true :=
    passed y (by simp [hy])
  simp only [cfgChecks, List.forall_mem_cons, Bool.and_eq_true, decide_eq_true_eq] at checks
  obtain ⟨⟨⟨-, hkind⟩, -⟩, htrans, hport, -, -, ⟨hstamp, hallowed⟩, hextrap, -, ⟨-, hloss⟩, -⟩ := checks
  obtain ⟨trans, port, stamp⟩ := fixedOk_bounds htrans hport hstamp hallowed
  obtain ⟨s3, mount, win, tol⟩ := srcCfg_expert_lt s.regs (byteAt p 0)
  have wide {a b : Nat} (ha : a < 65536) (hb : b < 65536) : (if expert then a else b) < 65536 := by split <;> assumption
  exact {
    kind := by omega
    trans, port, stamp
    extrap := by omega
    loss := by omega
    talk := leAt_two_lt p 8
    lat := leAt_two_lt p 12
    sigmas := ⟨leAt_two_lt p 16, leAt_two_lt p 18, wide (leAt_two_lt p 32) s3⟩
    lever := ⟨leAt_two_lt p 20, leAt_two_lt p 22, leAt_two_lt p 24⟩
    span := leAt_two_lt p 26
    mount := wide (leAt_two_lt p 34) mount
    window := ⟨wide (leAt_two_lt p 36) win, wide (leAt_two_lt p 38) tol⟩ }

/-! ### A configuration that is stored is read back -/

/-- The word that a stored configuration gives to parameter i of its source, where w is the control word before (05 R170). -/
def cfgWord (w : Word) (x : SrcCfg) : Nat → Word
  | 0 => putBits (putBits (putBits (putBits (putBits (putBits w 3 1 x.kind) 5 4 x.trans) 7 6 x.stamp) 9 8 x.port) 10 10 x.extrap)
      31 16 x.talk
  | 1 => x.mtch
  | 2 => putBits (putBits 0 15 0 x.lat) 25 16 x.loss
  | 3 => putBits (putBits 0 15 0 x.s1) 31 16 x.s2
  | 4 => putBits (putBits 0 15 0 x.lx) 31 16 x.ly
  | 5 => putBits (putBits 0 15 0 x.lz) 31 16 x.span
  | 6 => putBits (putBits 0 15 0 x.s3) 31 16 x.mount
  | _ => putBits (putBits 0 15 0 x.win) 31 16 x.tol

theorem regGet_storeCfg (q : Nat) (x : SrcCfg) (s : State) {i : Nat} (h : i < 8) :
    regGet (storeCfg q x s).regs (srcId q i) = cfgWord (rd s (srcId q 0)) x i := by
  rw [storeCfg, wrAll, regs_foldl_wr]
  simp only [List.foldl_cons, List.foldl_nil, regGet_regSet, srcId, Nat.add_left_cancel_iff]
  interval_cases i <;> rfl

/-- Storing a configuration and reading it back gives the configuration, where its fields fit (05 R166, R170). -/
theorem srcCfg_storeCfg (h : x.Fits) (q : Nat) (s : State) : srcCfg (storeCfg q x s).regs q = x := by
  obtain ⟨kind, trans, port, talk, stamp, extrap, lat, loss, sigmas, lever, span, mount, window⟩ := h
  obtain ⟨s1, s2, s3⟩ := sigmas
  obtain ⟨lx, ly, lz⟩ := lever
  obtain ⟨win, tol⟩ := window
  simp (disch := omega) only [srcCfg, regGet_storeCfg, cfgWord, bitsOf_putBits_same, bitsOf_putBits_other, Nat.mod_eq_of_lt]

theorem srcCfg_congr (h : ∀ id, rd t id = rd s id) (q : Nat) : srcCfg t.regs q = srcCfg s.regs q := by
  have words (id : Nat) : regGet t.regs id = regGet s.regs id := h id
  simp only [srcCfg, words]

/-- A served REF_CONFIG stores the configuration of its payload and changes no intake. -/
theorem serve_refConfig {expert : Bool} {code : Nat} (h : served (refConfig expert code) r s = true) :
    srcCfg (serve (refConfig expert code) r s).regs (byteAt r.payload 0) =
      payloadCfg expert r.payload (srcCfg s.regs (byteAt r.payload 0)) ∧ (serve (refConfig expert code) r s).src = s.src := by
  have fits := payloadCfg_fits (served_check h)
  have left := serve_ok_only h rfl
  rw [commitState_regs] at left
  rw [atCommit_regs] at fits
  refine ⟨?_, ?_⟩
  · rw [srcCfg_congr (fun id => left.rd (noId_apply id)), srcCfg_storeCfg fits]
  · exact (left.part .src).trans (((storeCfg_only ..).part .src).trans (commitState_src ..))

/-! ### The other requests -/

theorem flag_updSrc (q : Nat) (f : SrcUnit → SrcUnit) (s : State) (id i : Nat) : flag (updSrc q f s) id i = flag s id i :=
  flag_congr (rd_congr rfl id)

theorem flag_setEnable (q : Nat) (b : Bool) (s : State) : flag (setEnable q b s) (srcId q 0) 0 = b := by
  unfold setEnable
  dsimp only
  split
  · rw [flag_updSrc, flag_wrFlag_same _ _ _ _ (by decide)]
  · rw [flag_wrFlag_same _ _ _ _ (by decide)]

theorem beat_commitState (o : OpSpec) (r : Req) (s : State) : (commitState o r s).clk.beat = s.clk.beat :=
  beat_of_same ((readState_only o r s).part .clk)

theorem served_opRefEnable_source (h : served opRefEnable r s = true) : byteAt r.payload 0 < 32 := by
  have passed := served_check h
  simp only [opRefEnable] at passed
  split at passed
  · cases passed
  next checks => exact Nat.lt_succ_of_le (of_decide_eq_true (firstBad_none checks).1)

/-- A served REF_ENABLE leaves ENABLE as its payload says, and clears the counters of a source that it switches on. -/
theorem serve_opRefEnable (h : served opRefEnable r s = true) :
    flag (serve opRefEnable r s) (srcId (byteAt r.payload 0) 0) 0 = (byteAt r.payload 1 == 1) ∧
    (flag s (srcId (byteAt r.payload 0) 0) 0 = false → byteAt r.payload 1 = 1 →
      (srcUnit (serve opRefEnable r s) (byteAt r.payload 0)).count = zeroCount) := by
  have left := serve_ok_only (d := []) h rfl
  refine ⟨(flag_congr (left.rd (noId_apply _))).trans (flag_setEnable ..), fun off on => ?_⟩
  have off : flag (commitState opRefEnable r s) (srcId (byteAt r.payload 0) 0) 0 = false := by
    rwa [flag_congr (rd_congr (commitState_regs ..) _)]
  have cleared := setEnable_clears (q := ⟨_, served_opRefEnable_source h⟩) _ off
  rw [srcUnit, vgetD_of_lt _ _ (served_opRefEnable_source h), show (serve opRefEnable r s).src = _ from left.part .src, on]
  exact cleared

/-- A served REPLAY_WINDOW_SET leaves W as its payload says; its range fits the field. -/
theorem serve_opReplayWindowSet (h : served opReplayWindowSet r s = true) :
    fld (serve opReplayWindowSet r s) 0x2300 6 0 = byteAt r.payload 0 := by
  have range := of_decide_eq_true (firstBad_none (served_check h)).1
  have left := serve_ok_only (d := []) h rfl
  rw [fld_congr (left.rd (noId_apply _))]
  exact (fld_wrFld_same _ _ _ _ _ (by decide)).trans (Nat.mod_eq_of_lt (by omega))

/-- A served SELECT_REFERENCE leaves its pick, or its clearing, for the vote, with the beat of its commit. -/
theorem serve_opSelectReference (h : served opSelectReference r s = true) :
    (vget (serve opSelectReference r s).fus.votes (if byteAt r.payload 0 = 1 then 1 else 0)).newPick =
      some (s.clk.beat, if byteAt r.payload 1 = 0xFF then none else some (byteAt r.payload 1)) := by
  have left := serve_ok_only (d := []) h rfl
  rw [show (serve opSelectReference r s).fus = _ from left.part .fus, updVote, vget_vupd_same, beat_commitState]

end

/-- Settles O22. A served request leaves what its commit stores; a configuration that passed the checks fits its register
fields, so that it is read back as it was sent. -/
theorem referenceRequests : Obligations.ReferenceRequests :=
  ⟨fun _ _ h => ⟨_, exec_served rfl h, serve_refConfig h⟩, fun _ _ h => ⟨_, exec_served rfl h, serve_refConfig h⟩,
    fun _ _ h => ⟨_, exec_served rfl h, serve_opRefEnable h⟩,
    fun _ _ h => ⟨_, exec_served rfl h, serve_opSelectReference h⟩,
    fun _ _ h => ⟨_, exec_served rfl h, serve_opReplayWindowSet h⟩⟩

end Sys2Proof.Machine
end

section
/-! SUPPORT. The replay of a slot that holds the first sample of a picked source (06 R185, R196), and O31. -/
set_option Elab.async false
namespace Sys2Proof.Machine

/-- A heading sample of source 0 of the beat before the present one. -/
def lateHeading : Meas := { (voteTrack 0 false).last with stamp := 6000000 }

/-- The module of `voteState` just after a pick of source 0 for heading, before the replay of the latest slot, in which intake has
placed the first sample of that source since the pick. -/
def pickState : State :=
  { voteState with fus := { voteState.fus with
      step := 63
      votes := vupd voteState.fus.votes 1 fun v => { v with state := 3, pick := some 0, fresh := true }
      loft := vupd voteState.fus.loft 6 fun l =>
        { l with meas := vset l.meas 0 (some lateHeading), use := l.use.set 0 true, iniH := true }
      news := [⟨lateHeading, 1, none, 0, 0⟩] } }

/-- The replay applies that sample without the gate: it is no longer to come (06 R196). -/
theorem pickState_replay_takes_pick :
    (match exec .loftReplayStep pickState with
     | .next t => (vget t.fus.votes 1).fresh
     | _ => true) = false := by decide +kernel

/-- Refutes O31: the replay step of a slot that holds the first sample of a picked source changes the vote. -/
theorem not_fusionEvents : ¬ Obligations.FusionEvents := by
  unfold Obligations.FusionEvents
  rintro ⟨-, replayed, -⟩
  obtain ⟨t, ht, -, -, votes, -⟩ := replayed pickState rfl (by decide) (by decide +kernel)
  have taken := pickState_replay_takes_pick
  rw [ht] at taken
  simp only [votes] at taken
  exact absurd taken (by decide +kernel)

end Sys2Proof.Machine
end

section
/-! SUPPORT. The order of binary32 and clamping to a limit and its negative. -/
set_option Elab.async false
namespace Sys2Proof.Machine

section
variable {x y L : F32}

/-! ### Magnitudes and the order of binary32 -/

theorem f32Mag_neg (x : F32) : f32Mag (f32Neg x) = f32Mag x := by
  rw [f32Mag, f32Neg, BitVec.toNat_xor, show (0x80000000 : Nat) = 2 ^ 31 from rfl, Nat.xor_mod_two_pow]
  exact Nat.xor_zero _

theorem f32Mag_abs (x : F32) : f32Mag (f32Abs x) = f32Mag x := by
  rw [f32Mag, f32Abs, BitVec.toNat_and, show (0x7FFFFFFF#32).toNat = 2 ^ 31 - 1 from rfl, Nat.and_two_pow_sub_one_eq_mod]
  exact Nat.mod_mod _ _

theorem f32Key_neg (x : F32) : f32Key (f32Neg x) = -f32Key x := by
  have flipped : f32Sign (f32Neg x) = !f32Sign x := by simp [f32Sign, f32Neg]
  rw [f32Key, f32Key, flipped, f32Mag_neg]
  cases f32Sign x <;> simp

theorem f32Key_abs (x : F32) : f32Key (f32Abs x) = f32Mag x := by
  have positive : f32Sign (f32Abs x) = false := by simp [f32Sign, f32Abs]
  rw [f32Key, positive, f32Mag_abs, if_neg Bool.false_ne_true]

theorem f32Key_natAbs (x : F32) : (f32Key x).natAbs = f32Mag x := by
  rw [f32Key]
  split <;> simp

theorem f32IsNaN_neg (x : F32) : f32IsNaN (f32Neg x) = f32IsNaN x := by
  rw [f32IsNaN, f32Mag_neg, f32IsNaN]

theorem f32Lt_iff : f32Lt x y = true ↔ f32IsNaN x = false ∧ f32IsNaN y = false ∧ f32Key x < f32Key y := by
  simp [f32Lt, and_assoc]

/-- A number that is not below zero: its order is its magnitude. -/
theorem f32Le_zero_left (h : f32Le 0 L = true) : f32IsNaN L = false ∧ f32Key L = f32Mag L := by
  have zero : f32Key 0 = 0 := by decide
  have size := f32Key_natAbs L
  simp only [f32Le, Bool.and_eq_true, Bool.not_eq_true', decide_eq_true_eq] at h
  obtain ⟨⟨-, number⟩, above⟩ := h
  exact ⟨number, by omega⟩

/-- Clamping to a limit and its negative answers one of them, or the value where it lies between them. -/
theorem f32Clamp_cases (x L : F32) : f32Clamp (f32Neg L) L x = L ∨ f32Clamp (f32Neg L) L x = f32Neg L ∨
    f32Clamp (f32Neg L) L x = x ∧ f32Lt (f32Neg L) x = true ∧ f32Lt x L = true := by
  unfold f32Clamp f32Max
  split
  next above =>
    unfold f32Min
    split
    next below => exact .inr (.inr ⟨rfl, above, below⟩)
    next => exact .inl rfl
  next =>
    unfold f32Min
    split
    · exact .inr (.inl rfl)
    · exact .inl rfl

/-- What is clamped to a limit does not exceed it (08 R246). -/
theorem f32Mag_clamp_le (h : f32Le 0 L = true) : f32Mag (f32Clamp (f32Neg L) L x) ≤ f32Mag L := by
  obtain ⟨-, key⟩ := f32Le_zero_left h
  rcases f32Clamp_cases x L with e | e | ⟨e, above, below⟩
  · rw [e]
  · rw [e, f32Mag_neg]
  · obtain ⟨-, -, above⟩ := f32Lt_iff.1 above
    obtain ⟨-, -, below⟩ := f32Lt_iff.1 below
    rw [f32Key_neg] at above
    have size := f32Key_natAbs x
    rw [e]
    omega

theorem f32Lt_abs_clamp (h : f32Le 0 L = true) : f32Lt L (f32Abs (f32Clamp (f32Neg L) L x)) = false := by
  obtain ⟨-, key⟩ := f32Le_zero_left h
  have within := f32Mag_clamp_le (x := x) h
  rw [Bool.eq_false_iff]
  intro beyond
  obtain ⟨-, -, beyond⟩ := f32Lt_iff.1 beyond
  rw [f32Key_abs] at beyond
  omega

/-- A zero stays zero within its limits. -/
theorem f32IsZero_clamp_zero (h : f32Le 0 L = true) : f32IsZero (f32Clamp (f32Neg L) L 0) = true := by
  obtain ⟨number, key⟩ := f32Le_zero_left h
  have zero : f32Key 0 = 0 := by decide
  have real : f32IsNaN 0 = false := by decide
  by_cases hL : f32Mag L = 0
  · have within := f32Mag_clamp_le (x := 0) h
    simp only [f32IsZero, beq_iff_eq]
    omega
  · have below : f32Lt 0 L = true := f32Lt_iff.2 ⟨real, number, by omega⟩
    have above : f32Lt (f32Neg L) 0 = true :=
      f32Lt_iff.2 ⟨(f32IsNaN_neg L).trans number, real, by rw [f32Key_neg]; omega⟩
    rw [f32Clamp, f32Max, if_pos above, f32Min, if_pos below]
    decide

end
end Sys2Proof.Machine
end

section
/-! SUPPORT. The mode and the demand of the control law's output (08 R237-R246, R261). -/
set_option Elab.async false

namespace Sys2Proof.Machine

section
variable {s t : State}

/-! ### The mode of the control law -/

theorem sfld_congr (h : t.snap = s.snap) (id hi lo : Nat) : sfld t id hi lo = sfld s id hi lo := by rw [sfld, h, sfld]

theorem srd_congr (h : t.snap = s.snap) (id : Nat) : srd t id = srd s id := by rw [srd, h, srd]

theorem mode_ite {p : Prop} [Decidable p] {c d : Control} {m : Nat} (hc : c.mode = m) (hd : d.mode = m) :
    (if p then c else d).mode = m := by split <;> assumption

theorem windStep_mode (s : State) : (windStep s).1.mode = s.ctl.mode := by
  unfold windStep
  extract_lets c c1 _ _ _ _
  show c1.mode = c.mode
  dsimp only [c1]
  split <;> rfl

/-- From its first beat on the control law is in the mode of the beat (08 R237). -/
theorem enterMode_mode {c : Control} (h : c.mode = s.ctl.mode) : (enterMode s c).mode = (modeNow s).1 := by
  unfold enterMode
  extract_lets m o fn fe fpsi holds new was begun t r v placed turned keep berth left follow zeroed pushed c1 c2 c3
  have placed_mode : placed.mode = m.1 := mode_ite rfl (mode_ite rfl rfl)
  have turned_mode : turned.mode = m.1 := mode_ite placed_mode placed_mode
  have pushed_mode : pushed.mode = m.1 := mode_ite turned_mode (mode_ite turned_mode turned_mode)
  have c1_mode : c1.mode = m.1 := by
    dsimp only [c1]
    split
    next old =>
      have same : m = (s.ctl.mode, s.ctl.auto, s.ctl.degr) := by simpa [new, modeEnters] using old
      rw [same, h]
    next => exact mode_ite pushed_mode pushed_mode
  have c2_mode : c2.mode = m.1 := by
    dsimp only [c2]
    split
    · exact mode_ite c1_mode c1_mode
    · exact c1_mode
  show c3.mode = m.1
  dsimp only [c3]
  split
  · exact mode_ite c2_mode c2_mode
  · exact c2_mode

theorem trackStep_mode (s : State) (c : Control) : (trackStep s c).1.mode = c.mode := by
  unfold trackStep
  split
  · rfl
  · split
    · rfl
    · extract_lets o dn de here last aim
      have aimed (d : Control) : (aim d).mode = d.mode := by
        dsimp only [aim]
        split <;> rfl
      split
      · exact aimed c
      · split <;> exact aimed _

theorem rampPos_mode (s : State) (c : Control) : (rampPos s c).mode = c.mode := mode_ite rfl rfl

theorem rampHdg_mode (s : State) (c : Control) : (rampHdg s c).mode = c.mode := mode_ite rfl rfl

theorem pushStep_mode (s : State) (c : Control) : (pushStep s c).mode = c.mode := rfl

theorem driftStep_mode (s : State) (c : Control) : (driftStep s c).1.mode = c.mode := by
  unfold driftStep
  split
  · rfl
  · extract_lets x y c1
    have same : c1.mode = c.mode := mode_ite rfl rfl
    split <;> exact same

/-! ### The demand -/

theorem forceLaw_standby {c : Control} (h : c.mode = 0) (laws : List Bool) (kp kd : List (List F32)) (eP eV w stick : List F32) :
    forceLaw s c laws kp kd eP eV w stick = [0, 0, 0] := if_pos h

/-- Each component of the demand is clamped to its limit (08 R246). -/
theorem fAt_demandLimit (tau : List F32) (k : Fin 3) : fAt (demandLimit s tau).1 k.val =
    f32Clamp (f32Neg (srd s (0x2020 + k.val))) (srd s (0x2020 + k.val)) (fAt tau k.val) := by
  fin_cases k <;> rfl

/-! ### The output -/

/-- Words that are stored together, each under an identifier of its own. -/
theorem rd_wrAll {l : List (Nat × Word)} {id : Nat} {w : Word} (distinct : (l.map (·.1)).Nodup) (hm : (id, w) ∈ l) (s : State) :
    rd (wrAll s l) id = w :=
  (congrArg (regGet · _) (regs_foldl_wr _ _)).trans <| regGet_foldl_of_mem ⟨_, hm, rfl⟩
    (fun _ he h => congrArg Prod.snd (List.inj_on_of_nodup_map distinct he hm h)) _

theorem demandLimit_congr (h : t.snap = s.snap) (tau : List F32) : demandLimit t tau = demandLimit s tau := by
  simp only [demandLimit, srd_congr h]

/-- The words that the control law stores are read after its targets and its events. -/
theorem stored_read {l : List (Nat × Word)} {ev : List (Nat × Nat)} (distinct : (l.map (·.1)).Nodup)
    (aimed : onlyChanges [.poison] (idsIn 0x2003 0x2005) (wrAll s l) t) (known : ∀ e ∈ ev, e.1 < 128) :
    (raiseAll ev t).ctl = s.ctl ∧ ∀ id w, (anyEventId id || idsIn 0x2003 0x2005 id) = false → (id, w) ∈ l →
      rd (raiseAll ev t) id = w := by
  have left : onlyChanges [.line, .ev, .poison] (fun id => anyEventId id || idsIn 0x2003 0x2005 id) (wrAll s l) (raiseAll ev t) :=
    .raiseAll (aimed.step .refl) known
  have kept : onlyChanges [.poison] (fun _ => true) s (wrAll s l) := .wrAll .refl
  exact ⟨(left.part .ctl).trans (kept.part .ctl), fun id w hi hm => (left.rd hi).trans (rd_wrAll distinct hm s)⟩

/-- What the control law leaves: its mode, the limited demand, and their registers (08 R242, R246, R261). -/
theorem execControlLawOutput_next (hb : s.clk.beats = true) : ∃ t tau n, execControlLawOutput s = .next t ∧
    t.ctl.mode = sfld s 0x2000 2 0 ∧ t.ctl.tauD = (demandLimit s tau).1 ∧ (sfld s 0x2000 2 0 = 0 → tau = [0, 0, 0]) ∧
    rd t 0x2100 = BitVec.ofNat 32 (sfld s 0x2000 2 0 + 8 * n) ∧ (∀ k : Fin 3, rd t (0x2102 + k.val) = fAt t.ctl.tauD k.val) ∧
    rd t 0x210B = BitVec.ofNat 32 s.clk.beat := by
  unfold execControlLawOutput
  rw [if_neg (by simp [hb])]
  extract_lets s0 raw j wind c0 m auto1 still c1 holds laws tr c2 c3 w g e sticks stick tau integ lim dr c4 blk clamp joyEv c5 st
    sbits tgt trk src ev
  have begun : onlyChanges [.yards] noId s s0 := (stageDone_only ..).step (.advance .refl)
  obtain ⟨snap, -⟩ := begun.part .snap
  -- with the state opaque, the unifier compares the steps below without evaluating them
  clear_value s0
  have mode : m.1 = sfld s 0x2000 2 0 := sfld_congr snap ..
  have c0_mode : c0.mode = m.1 := enterMode_mode (windStep_mode s0)
  have c1_mode : c1.mode = m.1 := mode_ite c0_mode c0_mode
  have tr_mode : tr.1.mode = m.1 := (trackStep_mode ..).trans c1_mode
  have c2_mode : c2.mode = m.1 := mode_ite ((rampPos_mode ..).trans tr_mode) tr_mode
  have c3_mode : c3.mode = m.1 := (pushStep_mode ..).trans (mode_ite ((rampHdg_mode ..).trans c2_mode) c2_mode)
  have standby (h : sfld s 0x2000 2 0 = 0) : tau = [0, 0, 0] := forceLaw_standby (c3_mode.trans (mode.trans h)) ..
  have demand : lim.1 = (demandLimit s tau).1 := congrArg Prod.fst (demandLimit_congr snap tau)
  have c4_mode : c4.mode = m.1 := (driftStep_mode ..).trans c3_mode
  have known : ∀ x ∈ ev, x.1 < 128 :=
    known_append (known_append (trackStep_known _ _) (driftStep_known _ _)) (eventsWhen_known (by simp))
  have targets (u : State) : onlyChanges [.poison] (idsIn 0x2003 0x2005) u (tgt u) :=
    .opt (.ite (.wrAll .refl) .refl) fun _ => .wr .refl
  have track : trk.map (·.1) = [] ∨ trk.map (·.1) = [0x2101] := by
    dsimp only [trk]
    split
    · exact .inl rfl
    · exact .inr rfl
  have word : ∃ n, st = m.1 + 8 * n :=
    ⟨b2n (lim.2 != 0) + 2 * integ.2 + 16 * b2n c5.stale + 32 * b2n (raw.2 != 0) + 64 * b2n c5.drift, by omega⟩
  have c5_mode : c5.mode = sfld s 0x2000 2 0 := c4_mode.trans mode
  have c5_tauD : c5.tauD = (demandLimit s tau).1 := demand
  clear_value c5 ev tgt trk st
  obtain ⟨n, rfl⟩ := word
  generalize hl : [(0x2100, BitVec.ofNat 32 (m.1 + 8 * n))] ++ trk ++ _ = l
  have distinct : (l.map (·.1)).Nodup := by
    rw [← hl]
    rcases track with e | e <;> simp [e]
  obtain ⟨ctl, shown⟩ := stored_read distinct (targets (wrAll { s0 with ctl := c5 } l)) known
  refine ⟨_, tau, n, rfl, ?_, ?_, standby, ?_, fun k => ?_, ?_⟩
  · rw [ctl, c5_mode]
  · rw [ctl, c5_tauD]
  · exact shown _ _ rfl (by rw [← hl, mode]; simp)
  · rw [ctl]
    fin_cases k <;> exact shown _ _ rfl (by rw [← hl]; simp)
  · exact shown _ _ rfl (by rw [← hl, ← beat_of_same (begun.part .clk)]; simp)

/-- What the control law answers (08 R242, R246): a demand within its limits, zero in STANDBY, with its registers. -/
theorem execControlLawOutput_limits (hb : s.clk.beats = true) : ∃ t, execControlLawOutput s = .next t ∧
    t.ctl.mode = sfld s 0x2000 2 0 ∧ (∀ k : Fin 3, rd t (0x2102 + k.val) = fAt t.ctl.tauD k.val) ∧
    (∀ k : Fin 3, f32Le 0 (srd s (0x2020 + k.val)) = true →
      f32Lt (srd s (0x2020 + k.val)) (f32Abs (fAt t.ctl.tauD k.val)) = false) ∧
    (sfld s 0x2000 2 0 = 0 → ∀ k : Fin 3, f32Le 0 (srd s (0x2020 + k.val)) = true → f32IsZero (fAt t.ctl.tauD k.val) = true) ∧
    rd t 0x210B = BitVec.ofNat 32 s.clk.beat ∧ fld t 0x2100 2 0 = sfld s 0x2000 2 0 := by
  obtain ⟨t, tau, n, run, mode, demand, standby, state, words, beat⟩ := execControlLawOutput_next hb
  have component (k : Fin 3) := (congrArg (fAt · k.val) demand).trans (fAt_demandLimit tau k)
  refine ⟨t, run, mode, words, fun k hk => ?_, fun h k hk => ?_, beat, ?_⟩
  · rw [component]
    exact f32Lt_abs_clamp hk
  · have zero : fAt [0, 0, 0] k.val = 0 := by fin_cases k <;> rfl
    rw [component, standby h, zero]
    exact f32IsZero_clamp_zero hk
  · have small : sfld s 0x2000 2 0 < 8 := Nat.mod_lt _ (by decide)
    rw [fld, state, bitsOf, BitVec.toNat_ofNat]
    norm_num
    omega

end
end Sys2Proof.Machine
end

section
/-! SUPPORT. What the loss of a reference and the rows of stick and wind leave (06 R195, 08 R239-R255), and O32. -/
set_option Elab.async false

namespace Sys2Proof.Machine

section
variable {s : State} {i : Fin 2}

/-! ### The loss of a reference -/

/-- The state with REF_LOST of a quantity marked and raised, before the safety supervisor's commit (06 R195, R200). -/
def markLost (i : Fin 2) (s : State) : State :=
  let s2 := raise 38 i.val (sticky (wrFlag (updVote i (fun v => { v with lost := true }) (advance (beatCycle s 419999) s)) 0x2320
    (14 + i.val) true) 0x2323 4)
  { s2 with fus := { s2.fus with out := { s2.fus.out with valid := s2.fus.out.valid ||| 32 } } }

theorem execRefLost_marks {q : Quantity} (hq : (q = .position ∧ i = 0) ∨ (q = .heading ∧ i = 1))
    (hl : (vget s.fus.votes i).lost = false) (hh : (vget s.fus.votes i).hold ≠ none) (ht : 3000 ≤ (vget s.fus.votes i).timer) :
    execRefLost q s = .next (lossCommit i (advance (beatCycle s 420000) (markLost i s))) := by
  obtain ⟨rfl, rfl⟩ | ⟨rfl, rfl⟩ := hq <;> exact if_neg (by simp [hl, hh, ht])

theorem markLost_only (i : Fin 2) (s : State) : onlyChanges [.fus, .line, .ev]
    (fun id => anyEventId id || [0x2320, 0x2323].contains id) s (markLost i s) :=
  (fus_only ..).step (.raise (.sticky (.wrFlag ((updVote_only ..).step (.advance .refl)))))

theorem markLost_lost (i : Fin 2) (s : State) : (vget (markLost i s).fus.votes i).lost = true := by
  simp [markLost, updVote]

theorem markLost_registers (i : Fin 2) (s : State) : flag (markLost i s) 0x2320 (14 + i.val) = true ∧
    flag (markLost i s) 0x2323 4 = true ∧ (s.clk.core = true → flag (markLost i s) 0x1305 6 = true) := by
  refine ⟨?_, ?_, fun hc => ?_⟩
  · exact (flag_congr ((rd_raise 38 i.val _ 0x2320 (by decide)).trans (rd_sticky_other _ _ (by decide)))).trans
      (flag_wrFlag_same _ _ _ _ (by omega))
  · exact (flag_congr (rd_raise 38 i.val _ 0x2323 (by decide))).trans (flag_sticky_same _ _ _ (by decide))
  · refine (raise_sticky 38 i.val _ ?_).resolve_right (by decide)
    rw [sticky_clk]
    exact (advance_core ..).trans hc

theorem rd_raiseIf (b : Bool) (n a : Nat) (s : State) {id : Nat} (h : id ∉ eventIds n) : rd (raiseIf b n a s) id = rd s id := by
  unfold raiseIf
  split
  · exact rd_raise _ _ _ _ h
  · rfl

/-- The mode stall as a commit writes it (08 R235). -/
theorem rd_writeMode (m : Nat) (auto : Bool) (preset : Nat) (degr : Bool) (cause : Nat) (s : State) :
    rd (writeMode m auto preset degr cause s) 0x2000 =
      BitVec.ofNat 32 (m + 8 * b2n auto + 64 * b2n degr + 256 * cause + 16 * preset) :=
  (rd_raiseIf _ 64 _ _ (by decide)).trans (rd_wr_same ..)

theorem rd_writeMode_other {m preset cause id : Nat} {auto degr : Bool} (s : State) (h : id ∉ 0x2000 :: eventIds 64) :
    rd (writeMode m auto preset degr cause s) id = rd s id :=
  (rd_raiseIf _ 64 _ _ (List.not_mem_of_not_mem_cons h)).trans (rd_wr_other _ _ _ _ (List.ne_of_not_mem_cons h))

/-- The safety supervisor's commit is the write of a mode, or nothing (08 R239, 01 R45). -/
theorem lossCommit_cases (i : Fin 2) (s : State) : lossCommit i s = s ∨
    ∃ m d c, lossCommit i s = sticky (writeMode m false (fld s 0x2000 5 4) d c (noteCommit 1 3 [0x2000] s)) 0x210C 0 := by
  unfold lossCommit
  extract_lets mode auto preset heading put hdgMode m
  have committed (m : Nat) (d : Bool) (c : Nat) : put m d c s = s ∨
      ∃ m' d' c', put m d c s = sticky (writeMode m' false preset d' c' (noteCommit 1 3 [0x2000] s)) 0x210C 0 := by
    dsimp only [put, arbitrate]
    split
    · exact .inl rfl
    next h =>
      split at h
      · cases h
      · cases h
        exact .inr ⟨m, d, c, rfl⟩
  split
  · exact committed ..
  · split
    · split
      · exact committed ..
      · split <;> exact committed ..
    · exact .inl rfl

theorem rd_lossCommit_other {id : Nat} (i : Fin 2) (s : State) (h : id ∉ 0x210C :: 0x2000 :: eventIds 64) :
    rd (lossCommit i s) id = rd s id := by
  rcases lossCommit_cases i s with e | ⟨m, d, c, e⟩
  · rw [e]
  · rw [e, rd_sticky_other _ _ (List.ne_of_not_mem_cons h), rd_writeMode_other _ (List.not_mem_of_not_mem_cons h)]
    rfl

/-- With heading lost, a mode that needs it gives way to the heading loss mode, unless a commit of the cycle bars it (08 R239). -/
theorem lossCommit_heading (hl : (vget s.fus.votes 1).lost = true) (hm : needsHeading (fld s 0x2000 2 0) (flag s 0x2000 3) = true)
    (ha : s.arb.cycle ≠ s.clk.cycle) : lossCommit i s =
      sticky (writeMode (fld s 0x2001 2 2) false (fld s 0x2000 5 4) false 3 (noteCommit 1 3 [0x2000] s)) 0x210C 0 := by
  have lost : lostNow s 1 = true := by simp [lostNow, hl]
  have free : arbitrate 1 3 [0x2000] s = some (noteCommit 1 3 [0x2000] s) := by simp [arbitrate, appliedNow, ha]
  unfold lossCommit
  extract_lets mode auto preset heading put hdgMode m
  refine (if_pos (by rw [Bool.and_eq_true]; exact ⟨lost, hm⟩)).trans ?_
  simp only [put, free]
  rfl

theorem lossCommit_heading_mode (hl : (vget s.fus.votes 1).lost = true)
    (hm : needsHeading (fld s 0x2000 2 0) (flag s 0x2000 3) = true) (ha : s.arb.cycle ≠ s.clk.cycle) :
    fld (lossCommit i s) 0x2000 2 0 = fld s 0x2001 2 2 ∧ flag (lossCommit i s) 0x2000 3 = false ∧
      flag (lossCommit i s) 0x210C 0 = true := by
  have mode := fld_lt s 0x2001 2 2
  have preset := fld_lt s 0x2000 5 4
  rw [lossCommit_heading hl hm ha]
  refine ⟨?_, ?_, flag_sticky_same _ _ _ (by decide)⟩
  · rw [fld_congr (rd_sticky_other _ _ (by decide)), fld, rd_writeMode, bitsOf, BitVec.toNat_ofNat]
    simp only [b2n]
    norm_num
    omega
  · rw [flag_congr (rd_sticky_other _ _ (by decide)), flag, rd_writeMode, bitOf, BitVec.getLsbD_ofNat,
      Nat.testBit_eq_decide_div_mod_eq]
    simp only [b2n]
    norm_num
    omega

/-! ### REF_LOST -/

theorem execRefLost_lost {q : Quantity} (hq : (q = .position ∧ i = 0) ∨ (q = .heading ∧ i = 1))
    (hl : (vget s.fus.votes i).lost = false) (hh : (vget s.fus.votes i).hold ≠ none) (ht : 3000 ≤ (vget s.fus.votes i).timer) :
    ∃ t, execRefLost q s = .next t ∧ (vget t.fus.votes i).lost = true ∧ flag t 0x2320 (14 + i.val) = true ∧
      flag t 0x2323 4 = true ∧ (s.clk.core = true → flag t 0x1305 6 = true) := by
  obtain ⟨lost, shown, raised⟩ := markLost_registers i s
  have kept {id : Nat} (h : id ∉ 0x210C :: 0x2000 :: eventIds 64) :
      rd (lossCommit i (advance (beatCycle s 420000) (markLost i s))) id = rd (markLost i s) id :=
    (rd_lossCommit_other i _ h).trans (rd_advance ..)
  refine ⟨_, execRefLost_marks hq hl hh ht, ?_, ?_, ?_, fun hc => ?_⟩
  · rw [show (lossCommit i _).fus = _ from (lossCommit_only ..).part .fus, advance_fus]
    exact markLost_lost i s
  · exact (flag_congr (kept (by decide))).trans lost
  · exact (flag_congr (kept (by decide))).trans shown
  · exact (flag_congr (kept (by decide))).trans (raised hc)

/-- REF_LOST of heading in a mode that needs it: the heading loss mode stands in the mode stall (08 R239, R240). -/
theorem execRefLost_heading (hl : (vget s.fus.votes 1).lost = false) (hh : (vget s.fus.votes 1).hold ≠ none)
    (ht : 3000 ≤ (vget s.fus.votes 1).timer) (hm : needsHeading (fld s 0x2000 2 0) (flag s 0x2000 3) = true)
    (hc : s.clk.core = true) (ha : s.arb.cycle < beatCycle s 420000) : ∃ t, execRefLost .heading s = .next t ∧
      fld t 0x2000 2 0 = fld s 0x2001 2 2 ∧ flag t 0x2000 3 = false ∧ flag t 0x210C 0 = true := by
  have marked := markLost_only 1 s
  have running : (markLost 1 s).clk.core = true := (core_of_same (marked.part .clk)).trans hc
  have late := le_advance (beatCycle s 420000) (markLost 1 s) running
  have begun := marked.advance (c := beatCycle s 420000)
  have arb : (advance (beatCycle s 420000) (markLost 1 s)).arb = s.arb := begun.part .arb
  have stall := begun.rd (id := 0x2000) rfl
  have needed : needsHeading (fld (advance (beatCycle s 420000) (markLost 1 s)) 0x2000 2 0)
      (flag (advance (beatCycle s 420000) (markLost 1 s)) 0x2000 3) = true := by
    rwa [fld_congr stall, flag_congr stall]
  obtain ⟨mode, auto, noted⟩ := lossCommit_heading_mode (i := 1)
    ((congrArg (fun f => (vget f.votes 1).lost) (advance_fus ..)).trans (markLost_lost 1 s)) needed (by rw [arb]; omega)
  exact ⟨_, execRefLost_marks (.inr ⟨rfl, rfl⟩) hl hh ht, mode.trans (fld_congr (begun.rd rfl)), auto, noted⟩

/-! ### Events of stick and wind -/

/-- An event beside a sticky bit of CONTROL_STICKY leaves the bit set. -/
theorem raise_control_sticky (n a i : Nat) (s : State) (hn : 0x210C ∉ eventIds n) (hi : i < 32) :
    flag (raise n a (sticky s 0x210C i)) 0x210C i = true :=
  (flag_congr (rd_raise _ _ _ _ hn)).trans (flag_sticky_same _ _ _ hi)

theorem execWindStaleExpiry_stale (hb : s.clk.beats = true) (hf : s.ctl.stale = false) (hm : windMeas s = none)
    (ha : sfld s 0x2029 31 16 ≤ s.ctl.windAge + 1) : ∃ t, execWindStaleExpiry s = .next t ∧
      t.ctl = { s.ctl with stale := true } ∧ flag t 0x210C 2 = true := by
  refine ⟨_, if_neg (by simp [hb, hf, hm, ha]), ?_, raise_control_sticky _ _ _ _ (by decide) (by decide)⟩
  simp [updCtl]

theorem execJoyTimeoutExpiry_zeroes (hb : s.clk.beats = true) (hs : sflag s 0x2018 0 = false) (hj : (joyRaw s).2 = 7)
    (hz : s.ctl.joyZero ≠ 7) : ∃ t, execJoyTimeoutExpiry s = .next t ∧
      t.ctl = { s.ctl with joyZero := 7 } ∧ flag t 0x210C 3 = true := by
  refine ⟨_, if_neg (by simp [hb, hs, hj, hz]), ?_, raise_control_sticky _ _ _ _ (by decide) (by decide)⟩
  simp [updCtl]

theorem execJoyHeadingResume_resumes (he : modeEnters s = false) (hm : (modeNow s).1 = 1) (ha : (modeNow s).2.1 = true)
    (hy : s.ctl.autoYaw = false) (hr : 199 ≤ s.ctl.joyRest) (hz : f32IsZero (fAt (joyNow s) 2) = true) :
    ∃ t, execJoyHeadingResume s = .next t ∧ t.ctl = { s.ctl with
      autoYaw := true, tgtPsi := wrapTwoPi (fAt s.fus.out.x 2), refPsi := wrapTwoPi (fAt s.fus.out.x 2),
      vPsi := 0, velPsi := 0 } := by
  refine ⟨_, if_neg (by simp [he, hm, ha, hy, hr, hz]), ?_⟩
  simp [updCtl]

end

/-- Settles O32: the output by its clamped demand, the loss of a reference by the safety supervisor's commit, and the three rows of
wind and stick. -/
theorem controlEvents : Obligations.ControlEvents :=
  ⟨fun _ hb => execControlLawOutput_limits hb, fun _ _ _ hq hl hh ht => execRefLost_lost hq hl hh ht,
    fun _ _ hq hl hh ht hm hc _ ha => hq ▸ execRefLost_heading hl hh ht hm hc ha,
    fun _ hb hf hm ha => execWindStaleExpiry_stale hb hf hm ha, fun _ hb hs hj hz => execJoyTimeoutExpiry_zeroes hb hs hj hz,
    fun _ he hm ha hy hr hz => execJoyHeadingResume_resumes he hm ha hy hr hz⟩

end Sys2Proof.Machine
end

section
/-! SUPPORT. What the requests of the GNSS baseband, the power unit and the twin pair leave (07 R227-R230, 15 R458-R461, 16 R474,
R493), and O27. -/
set_option Elab.async false

namespace Sys2Proof.Machine

section
variable {r : Req} {p : List Byte} {s t : State}

/-! ### GNSS settings -/

/-- The settings that GNSS_CONFIG stores, in either form (07 R229). -/
def gnssStored (expert : Bool) (p : List Byte) (s : State) : State :=
  let b := byteAt p
  let ctrl := putBits (putBits (putBits (rd s 0x4000) 2 0 (b 0 % 8)) 9 8 (b 0 / 8)) 5 4 (b 1)
  let s1 := wrFld (wrFld (wrFld (wr s 0x4000 ctrl) 0x4001 6 0 (b 2)) 0x4003 7 0 (b 3)) 0x4003 15 8 (b 4)
  if expert then
    wrFld (wrFlag (wrFld (wr s1 0x4002 (BitVec.ofNat 32 (b 16 + 256 * b 17 + 65536 * b 18))) 0x4007 5 0 (b 19)) 0x4007 8 (b 20 == 1))
      0x4008 15 0 (leAt p 22 2)
  else s1

theorem gnssConfig_commit (expert : Bool) (code : Nat) (port : Fin 2) (p : List Byte) (s : State) :
    (gnssConfig expert code).commit port p s = okData (gnssEffect s (gnssStored expert p s)) [] := rfl

/-- What a commit to GNSS settings does beside them leaves the settings. -/
theorem rd_gnssEffect (b s : State) {id : Nat} (h : [0x4010, 0x4011, 0x4014].contains id = false) :
    rd (gnssEffect b s) id = rd s id := (gnssEffect_only b s).rd h

theorem gnssStored_basic (expert : Bool) (p : List Byte) (s : State) :
    fld (gnssStored expert p s) 0x4000 2 0 = byteAt p 0 % 8 ∧ fld (gnssStored expert p s) 0x4000 5 4 = byteAt p 1 % 4 ∧
    fld (gnssStored expert p s) 0x4001 6 0 = byteAt p 2 % 128 ∧ fld (gnssStored expert p s) 0x4003 7 0 = byteAt p 3 % 256 ∧
    fld (gnssStored expert p s) 0x4003 15 8 = byteAt p 4 % 256 := by
  cases expert <;>
    simp [gnssStored, fld, rd_wr, rd_wrFld, rd_wrFlag, bitsOf_putBits_same, bitsOf_putBits_other]

theorem gnssStored_expert (p : List Byte) (s : State) :
    rd (gnssStored true p s) 0x4002 = BitVec.ofNat 32 (byteAt p 16 + 256 * byteAt p 17 + 65536 * byteAt p 18) ∧
    fld (gnssStored true p s) 0x4007 5 0 = byteAt p 19 % 64 ∧ fld (gnssStored true p s) 0x4008 15 0 = leAt p 22 2 % 65536 := by
  simp [gnssStored, fld, rd_wr, rd_wrFld, rd_wrFlag, putBit, bitsOf_putBits_same, bitsOf_putBits_other]

/-- A served GNSS_CONFIG leaves the registers of its settings as it stores them. -/
theorem rd_serve_gnssConfig {expert : Bool} {code : Nat} (h : served (gnssConfig expert code) r s = true) {id : Nat}
    (hid : [0x4010, 0x4011, 0x4014].contains id = false) : rd (serve (gnssConfig expert code) r s) id =
      rd (gnssStored expert r.payload (commitState (gnssConfig expert code) r s)) id :=
  ((serve_ok_only h (gnssConfig_commit ..)).rd (noId_apply id)).trans (rd_gnssEffect _ _ hid)

/-- The checks of GNSS_CONFIG hold its fields to the widths of their register fields. -/
theorem gnssConfig_bounds {expert : Bool} {code : Nat} {port : Fin 2} (h : (gnssConfig expert code).check port p s = none) :
    byteAt p 1 < 4 ∧ byteAt p 2 < 128 ∧ byteAt p 3 < 256 ∧ byteAt p 4 < 256 ∧ (expert = true → byteAt p 19 < 64) := by
  have passed := firstBad_eq_none h
  simp only [List.forall_mem_append, List.forall_mem_cons, Bool.and_eq_true, decide_eq_true_eq] at passed
  obtain ⟨⟨-, rate, ⟨-, spacing⟩, elev, ⟨-, cn0⟩, -⟩, more⟩ := passed
  refine ⟨by omega, by omega, by omega, by omega, fun he => ?_⟩
  simp only [he, if_true, List.forall_mem_cons, decide_eq_true_eq] at more
  obtain ⟨-, -, -, enables, -⟩ := more
  exact enables

theorem serve_gnssConfig_basic {expert : Bool} {code : Nat} (h : served (gnssConfig expert code) r s = true) :
    fld (serve (gnssConfig expert code) r s) 0x4000 2 0 = byteAt r.payload 0 % 8 ∧
    fld (serve (gnssConfig expert code) r s) 0x4000 5 4 = byteAt r.payload 1 ∧
    fld (serve (gnssConfig expert code) r s) 0x4001 6 0 = byteAt r.payload 2 ∧
    fld (serve (gnssConfig expert code) r s) 0x4003 7 0 = byteAt r.payload 3 ∧
    fld (serve (gnssConfig expert code) r s) 0x4003 15 8 = byteAt r.payload 4 := by
  obtain ⟨rate, spacing, elev, cn0, -⟩ := gnssConfig_bounds (served_check h)
  obtain ⟨hctrl, hrate, hspacing, helev, hcn0⟩ :=
    gnssStored_basic expert r.payload (commitState (gnssConfig expert code) r s)
  simp only [fld_congr (rd_serve_gnssConfig h (id := 0x4000) rfl), fld_congr (rd_serve_gnssConfig h (id := 0x4001) rfl),
    fld_congr (rd_serve_gnssConfig h (id := 0x4003) rfl), hctrl, hrate, hspacing, helev, hcn0, Nat.mod_eq_of_lt rate,
    Nat.mod_eq_of_lt spacing, Nat.mod_eq_of_lt elev, Nat.mod_eq_of_lt cn0, and_self]

theorem serve_gnssConfig_expert {code : Nat} (h : served (gnssConfig true code) r s = true) :
    rd (serve (gnssConfig true code) r s) 0x4002 =
      BitVec.ofNat 32 (byteAt r.payload 16 + 256 * byteAt r.payload 17 + 65536 * byteAt r.payload 18) ∧
    fld (serve (gnssConfig true code) r s) 0x4007 5 0 = byteAt r.payload 19 ∧
    fld (serve (gnssConfig true code) r s) 0x4008 15 0 = leAt r.payload 22 2 := by
  obtain ⟨-, -, -, -, enables⟩ := gnssConfig_bounds (served_check h)
  obtain ⟨hloops, henables, hsigma⟩ := gnssStored_expert r.payload (commitState (gnssConfig true code) r s)
  refine ⟨(rd_serve_gnssConfig h rfl).trans hloops, ?_, ?_⟩
  · rw [fld_congr (rd_serve_gnssConfig h rfl), henables, Nat.mod_eq_of_lt (enables rfl)]
  · rw [fld_congr (rd_serve_gnssConfig h rfl), hsigma, Nat.mod_eq_of_lt (leAt_two_lt ..)]

theorem serve_opHeadingBaselineSet (h : served opHeadingBaselineSet r s = true) :
    fld (serve opHeadingBaselineSet r s) 0x4004 15 0 = leAt r.payload 0 2 ∧
    fld (serve opHeadingBaselineSet r s) 0x4005 15 0 = leAt r.payload 2 2 ∧
    fld (serve opHeadingBaselineSet r s) 0x4006 15 0 = leAt r.payload 4 2 := by
  have left {id : Nat} (hid : [0x4010, 0x4011, 0x4014].contains id = false) :=
    ((serve_ok_only (d := []) h rfl).rd (noId_apply id)).trans (rd_gnssEffect _ _ hid)
  have fits (n : Nat) := Nat.mod_eq_of_lt (leAt_two_lt r.payload n)
  refine ⟨?_, ?_, ?_⟩ <;> rw [fld_congr (left rfl)] <;>
    simp [fld, rd_wrFld, bitsOf_putBits_same, fits]

/-! ### A restart of the baseband -/

@[simp] theorem updGnss_gnss (f : Gnss → Gnss) (s : State) : (updGnss f s).gnss = f s.gnss := rfl

theorem chanAt_of_lt {n : Nat} (h : n < 48) (s : State) : chanAt s n = vget s.gnss.ch ⟨n, h⟩ := vgetD_of_lt _ _ h

theorem chanAt_congr (h : t.gnss.ch = s.gnss.ch) (n : Nat) : chanAt t n = chanAt s n := by simp [chanAt, h]

/-- A channel after a change of one of them, by number. -/
theorem chanAt_updChanN {n k : Nat} (hn : n < 48) (f : GChan → GChan) (s : State) :
    chanAt (updChanN k f s) n = if n = k then f (chanAt s n) else chanAt s n := by
  simp only [chanAt_of_lt hn, updChanN, updGnss, vupdN]
  split
  next hk =>
    split
    next e => simp [← e]
    next e => exact vget_vupd_other _ _ _ _ fun h => e (congrArg Fin.val h)
  next hk => rw [if_neg (by omega)]

/-- Clearing channels of an antenna leaves those and every idle channel idle. -/
theorem foldl_idle (a : Nat) {j : Nat} (hj : j < 48) (l : List Nat) (h : (∃ n ∈ l, 24 * a + n = j) ∨ chanAt s j = GChan.idle) :
    chanAt (l.foldl (fun s n => updChanN (24 * a + n) (fun _ => GChan.idle) s) s) j = GChan.idle := by
  induction l generalizing s with
  | nil => simpa using h
  | cons m l ih =>
    refine ih ?_
    rw [chanAt_updChanN hj]
    by_cases e : j = 24 * a + m
    · exact .inr (if_pos e)
    · simpa [e, Ne.symm e] using h

theorem chanAt_clearAntenna (a : Nat) {j : Nat} (hj : j < 48)
    (h : 24 * a ≤ j ∧ j < 24 * a + 24 ∨ chanAt s j = GChan.idle) : chanAt (clearAntenna a s) j = GChan.idle :=
  foldl_idle a hj _ (h.imp_left fun h => ⟨j - 24 * a, List.mem_range.2 (by omega), by omega⟩)

/-- A retained block without ephemerides gives no satellite's data to a start. -/
theorem loadBlock_sats (ty : Nat) (h : ∀ b, goodBlock s = some b → b.ephs = []) :
    (loadBlock ty s).gnss.sats = s.gnss.sats := by
  unfold loadBlock
  split
  · rfl
  next b hb =>
    split
    · rfl
    · simp only [updGnss_gnss, h b hb, List.find?_nil]
      exact Vector.ext fun i hi => Vector.getElem_ofFn hi

theorem loadBlock_ch (ty : Nat) (s : State) : (loadBlock ty s).gnss.ch = s.gnss.ch := by
  unfold loadBlock
  split
  · rfl
  · split
    · rfl
    · rw [updGnss_gnss]

theorem loadBlock_of_none (ty : Nat) (h : goodBlock s = none) : loadBlock ty s = s := by
  simp [loadBlock, h]

theorem gnssStart_ch (c : Nat) (s : State) : (gnssStart c s).gnss.ch = s.gnss.ch := by
  unfold gnssStart
  split
  · rfl
  · rw [wr_gnss, updGnss_gnss, loadBlock_ch]

theorem gnssStart_sats (c : Nat) (h : ∀ b, goodBlock s = some b → b.ephs = []) :
    (gnssStart c s).gnss.sats = s.gnss.sats := by
  unfold gnssStart
  split
  · rfl
  · rw [wr_gnss, updGnss_gnss, loadBlock_sats _ h]

/-- A start without a retained block keeps almanac and position. -/
theorem gnssStart_cold (c : Nat) (h : goodBlock s = none) :
    (gnssStart c s).gnss.alm = s.gnss.alm ∧ (gnssStart c s).gnss.pos = s.gnss.pos := by
  unfold gnssStart
  split
  · exact ⟨rfl, rfl⟩
  · rw [wr_gnss, updGnss_gnss, loadBlock_of_none _ h]
    exact ⟨rfl, rfl⟩

/-- The channels of the antennas that a restart names are cleared. -/
def clearNamed (mask : Nat) (s : State) : State :=
  let ch (a : Nat) (s : State) : State := if mask.testBit a then clearAntenna a s else s
  ch 1 (ch 0 s)

/-- What a restart discards of the navigation data and of their retained copy, by its type. -/
def forgetData (ty : Nat) (s : State) : State :=
  let s2 := if 1 ≤ ty then
      updGnss (fun g => { g with
        sats := g.sats.map fun x => { SatNav.empty with bad := x.bad, far := x.far }
        block := g.block.map fun b => { b with ephs := [] } }) s
    else s
  if ty = 2 then
    updGnss (fun g => { g with alm := [], pos := none, drift := none, bias := none, gpsAt := none, block := none }) s2
  else s2

/-- Heading drops to SEARCH. -/
def dropHeading (s : State) : State :=
  if s.gnss.heading = 0 then s
  else
    let t := showHeading 1 0 0 (updGnss (fun g => { g with cand := none, ints := [] }) s)
    if s.gnss.heading = 2 then sticky (updGnss (fun g => { g with dropDue := true }) t) 0x4016 7 else t

theorem restartGnss_eq (ty mask : Nat) (s : State) :
    restartGnss ty mask s = gnssStart s.clk.cycle (dropHeading (forgetData ty (clearNamed mask s))) := rfl

theorem clearAntenna_sats (a : Nat) (s : State) : (clearAntenna a s).gnss.sats = s.gnss.sats :=
  List.foldlRecOn (motive := fun t : State => t.gnss.sats = s.gnss.sats) _ _ rfl fun _ ht _ _ => ht

theorem clearNamed_sats (mask : Nat) (s : State) : (clearNamed mask s).gnss.sats = s.gnss.sats := by
  have kept (a : Nat) (t : State) : (if mask.testBit a then clearAntenna a t else t).gnss.sats = t.gnss.sats := by
    split
    · exact clearAntenna_sats a t
    · rfl
  exact (kept 1 _).trans (kept 0 s)

/-- Antenna A is named by bit 0 of the mask. -/
theorem chanAt_clearNamed {mask : Nat} (h : mask % 2 = 1) (n : Fin 24) (s : State) :
    chanAt (clearNamed mask s) n.val = GChan.idle := by
  have named : mask.testBit 0 = true := by simpa using h
  have cleared := chanAt_clearAntenna (s := s) 0 (j := n.val) (by omega) (.inl (by omega))
  simp only [clearNamed, named, if_true]
  split
  · exact chanAt_clearAntenna 1 (by omega) (.inr cleared)
  · exact cleared

theorem forgetData_ch (ty : Nat) (s : State) : (forgetData ty s).gnss.ch = s.gnss.ch := by
  unfold forgetData
  dsimp only
  split <;> split <;> rfl

/-- A warm restart forgets the ephemerides, and its retained copy has none left. -/
theorem forgetData_warm {ty : Nat} (h : 1 ≤ ty) (s : State) :
    (forgetData ty s).gnss.sats = s.gnss.sats.map (fun x => { SatNav.empty with bad := x.bad, far := x.far }) ∧
    ∀ b, goodBlock (forgetData ty s) = some b → b.ephs = [] := by
  unfold forgetData
  rw [if_pos h]
  dsimp only
  split
  · exact ⟨rfl, fun b hb => by cases hb⟩
  · refine ⟨rfl, fun b hb => ?_⟩
    simp only [goodBlock, updGnss_gnss] at hb
    cases hs : s.gnss.block with
    | none => simp [hs] at hb
    | some x =>
      simp only [hs, Option.map_some] at hb
      split at hb <;> cases hb
      rfl

/-- A cold restart forgets almanac, position and the whole retained copy. -/
theorem forgetData_cold (s : State) : (forgetData 2 s).gnss.alm = [] ∧ (forgetData 2 s).gnss.pos = none ∧
    goodBlock (forgetData 2 s) = none := ⟨rfl, rfl, rfl⟩

/-- A drop of heading touches neither channels nor navigation data. -/
theorem dropHeading_keeps (s : State) : (dropHeading s).gnss.ch = s.gnss.ch ∧ (dropHeading s).gnss.sats = s.gnss.sats ∧
    (dropHeading s).gnss.alm = s.gnss.alm ∧ (dropHeading s).gnss.pos = s.gnss.pos ∧ goodBlock (dropHeading s) = goodBlock s := by
  unfold dropHeading
  split
  · exact ⟨rfl, rfl, rfl, rfl, rfl⟩
  · dsimp only
    split
    · rw [goodBlock, sticky_gnss]
      exact ⟨rfl, rfl, rfl, rfl, rfl⟩
    · exact ⟨rfl, rfl, rfl, rfl, rfl⟩

/-- What a restart leaves of the channels of antenna A, of the satellites, and of almanac and position (07 R227). -/
theorem restartGnss_discards (ty mask : Nat) (s : State) :
    (mask % 2 = 1 → ∀ n : Fin 24, chanAt (restartGnss ty mask s) n.val = GChan.idle) ∧
    (1 ≤ ty → (restartGnss ty mask s).gnss.sats =
      s.gnss.sats.map (fun x => { SatNav.empty with bad := x.bad, far := x.far })) ∧
    (ty = 2 → (restartGnss ty mask s).gnss.alm = [] ∧ (restartGnss ty mask s).gnss.pos = none) := by
  obtain ⟨dch, dsats, dalm, dpos, dblock⟩ := dropHeading_keeps (forgetData ty (clearNamed mask s))
  rw [restartGnss_eq]
  refine ⟨fun hm n => ?_, fun hw => ?_, ?_⟩
  · rw [chanAt_congr (gnssStart_ch ..), chanAt_congr dch, chanAt_congr (forgetData_ch ..), chanAt_clearNamed hm]
  · obtain ⟨sats, ephs⟩ := forgetData_warm hw (clearNamed mask s)
    rw [gnssStart_sats _ (by rwa [dblock]), dsats, sats, clearNamed_sats]
  · rintro rfl
    obtain ⟨alm, pos, none⟩ := forgetData_cold (clearNamed mask s)
    obtain ⟨kalm, kpos⟩ := gnssStart_cold s.clk.cycle (dblock.trans none)
    exact ⟨kalm.trans (dalm.trans alm), kpos.trans (dpos.trans pos)⟩

theorem serve_opGnssRestart (h : served opGnssRestart r s = true) :
    (byteAt r.payload 1 % 2 = 1 → ∀ n : Fin 24, chanAt (serve opGnssRestart r s) n.val = GChan.idle) ∧
    (1 ≤ byteAt r.payload 0 → (serve opGnssRestart r s).gnss.sats =
      s.gnss.sats.map (fun x => { SatNav.empty with bad := x.bad, far := x.far })) ∧
    (byteAt r.payload 0 = 2 → (serve opGnssRestart r s).gnss.alm = [] ∧ (serve opGnssRestart r s).gnss.pos = none) := by
  have left : (serve opGnssRestart r s).gnss = (restartGnss (byteAt r.payload 0) (byteAt r.payload 1)
      (commitState opGnssRestart r s)).gnss := (serve_ok_only (d := []) h rfl).part .gnss
  have discards := restartGnss_discards (byteAt r.payload 0) (byteAt r.payload 1) (commitState opGnssRestart r s)
  rw [← left, commitState_gnss] at discards
  simpa only [chanAt, left] using discards

/-! ### The power unit -/

/-- POWER_STATE_SET in RUN notes the entry and its target; the module goes on in RUN until its beat edge (16 R474). -/
theorem opPowerStateSet_run {port : Fin 2} (hm : s.power.mode = .run) (ht : 1 ≤ byteAt p 0) :
    opPowerStateSet.commit port p s = okData { s with
      power := { s.power with entryCommit := some s.clk.cycle, target := byteAt p 0, latched := 0 } } [] := by
  have sleeps : byteAt p 0 ≠ 0 := by omega
  simp [opPowerStateSet, hm, sleeps, okResult, okData]

theorem serve_opPowerStateSet (h : served opPowerStateSet r s = true) (hm : s.power.mode = .run) (ht : 1 ≤ byteAt r.payload 0) :
    (serve opPowerStateSet r s).power.entryCommit = some (commitState opPowerStateSet r s).clk.cycle ∧
    (serve opPowerStateSet r s).power.target = byteAt r.payload 0 ∧ (serve opPowerStateSet r s).power.mode = .run := by
  have mode : (commitState opPowerStateSet r s).power.mode = .run :=
    (congrArg Power.mode ((readState_only opPowerStateSet r s).part .power)).trans hm
  have left := (serve_ok_only h (opPowerStateSet_run mode ht)).part .power
  have entry := congrArg Power.entryCommit left
  have target := congrArg Power.target left
  have runs := congrArg Power.mode left
  exact ⟨entry, target, runs.trans mode⟩

theorem serve_opWakeConfig (h : served opWakeConfig r s = true) :
    fld (serve opWakeConfig r s) 0x1502 15 0 = leAt r.payload 0 2 ∧ rd (serve opWakeConfig r s) 0x1503 = wordAt r.payload 4 := by
  have left {id : Nat} := (serve_ok_only (d := []) h rfl).rd (noId_apply id)
  refine ⟨?_, ?_⟩
  · rw [fld_congr left]
    simp [fld, rd, wakeConfigRegs, regGet_regSet, bitsOf, leAt_two_lt, Nat.mod_eq_of_lt]
  · rw [left]
    simp [rd, wakeConfigRegs, regGet_regSet]

theorem serve_opRtcAlarmSet (h : served opRtcAlarmSet r s = true) :
    rd (serve opRtcAlarmSet r s) 0x0004 = wordAt r.payload 0 ∧ fld (serve opRtcAlarmSet r s) 0x0005 15 0 = leAt r.payload 4 2 := by
  have left {id : Nat} := (serve_ok_only (d := []) h rfl).rd (noId_apply id)
  refine ⟨?_, ?_⟩
  · rw [left]
    simp [rd_wr]
  · rw [fld_congr left]
    simp [fld, bitsOf, leAt_two_lt, Nat.mod_eq_of_lt]

/-! ### The twin pair -/

/-- A reply and a commit marker leave the twin unit but for what it forwards. -/
theorem serve_ok_twin {o : OpSpec} {d : List Byte} {u : State} (h : served o r s = true)
    (hx : o.commit r.head.port r.payload (commitState o r s) = okData u d) :
    (serve o r s).twin.request = u.twin.request ∧ (serve o r s).twin.handover = u.twin.handover ∧
    (serve o r s).twin.holds = u.twin.holds := by
  rw [serve_ok h hx rfl, respond_twin, forward]
  split
  · exact ⟨rfl, rfl, rfl⟩
  · exact ⟨rfl, rfl, rfl⟩

theorem opHalterRequest_requests {port : Fin 2} (p : List Byte) (s : State) :
    (opHalterRequest.commit port p s).state.twin.request =
      (if s.twin.holds then s.twin.request else some (nextMessageBeat s)) ∧
    (opHalterRequest.commit port p s).state.twin.holds = s.twin.holds := by
  simp only [opHalterRequest, okResult]
  split
  · exact ⟨rfl, rfl⟩
  · exact ⟨rfl, rfl⟩

theorem serve_opHalterRequest (h : served opHalterRequest r s = true) :
    (serve opHalterRequest r s).twin.request =
      (if s.twin.holds then s.twin.request else some (nextMessageBeat (commitState opHalterRequest r s))) ∧
    (serve opHalterRequest r s).twin.holds = s.twin.holds := by
  obtain ⟨request, -, holds⟩ := serve_ok_twin (d := []) h rfl
  have commits := opHalterRequest_requests (port := r.head.port) r.payload (commitState opHalterRequest r s)
  rw [commitState_twin] at commits
  exact commits.imp request.trans holds.trans

/-- A request that needs the halter is served by the holder (15 R449). -/
theorem served_holds {o : OpSpec} (h : served o r s = true) (hf : ∀ t, o.halter r.payload t = true) : s.twin.holds = true := by
  obtain ⟨-, passes, -, -⟩ := served_iff.1 h
  by_contra free
  simp only [refusal, served_check h, hf, atCommit_twin, Bool.eq_false_of_not_eq_true free, Bool.not_false, Bool.and_true,
    if_true] at passes
  (repeat' split at passes) <;> cases passes

theorem serve_opHalterRelease (h : served opHalterRelease r s = true) :
    (serve opHalterRelease r s).twin.handover = .released (nextMessageBeat (commitState opHalterRelease r s)) ∧
    (serve opHalterRelease r s).twin.holds = true := by
  obtain ⟨-, handover, holds⟩ := serve_ok_twin (d := []) h rfl
  have held : (commitState opHalterRelease r s).twin.holds = true :=
    (congrArg Twin.holds (commitState_twin ..)).trans (served_holds h fun _ => rfl)
  exact ⟨handover, holds.trans held⟩

theorem serve_opTwinToleranceSet (h : served opTwinToleranceSet r s = true) (k : Fin 7) :
    rd (serve opTwinToleranceSet r s) (0x3000 + k.val) = wordAt r.payload (4 * k.val) := by
  rw [(serve_ok_only (d := []) h rfl).rd (noId_apply _)]
  exact rd_wrAll (by simp [List.range_succ]) (List.mem_map.2 ⟨k.val, List.mem_range.2 k.isLt, rfl⟩) _

end

/-- Settles O27. A served request leaves what its commit stores: the checks have held its fields to the widths of their registers, and
what follows a commit touches no setting. -/
theorem gnssPowerTwinRequests : Obligations.GnssPowerTwinRequests :=
  ⟨fun _ _ h => ⟨_, exec_served rfl h, serve_gnssConfig_basic h⟩,
    fun _ _ h => ⟨_, exec_served rfl h, (serve_gnssConfig_basic h).1, serve_gnssConfig_expert h⟩,
    fun _ _ h => ⟨_, exec_served rfl h, serve_opHeadingBaselineSet h⟩,
    fun _ _ h => ⟨_, exec_served rfl h, serve_opGnssRestart h⟩,
    fun _ _ h hm ht => ⟨_, exec_served rfl h, serve_opPowerStateSet h hm ht⟩,
    fun _ _ h => ⟨_, exec_served rfl h, serve_opWakeConfig h⟩,
    fun _ _ h => ⟨_, exec_served rfl h, serve_opRtcAlarmSet h⟩,
    fun _ _ h => ⟨_, exec_served rfl h, serve_opHalterRequest h⟩,
    fun _ _ h => ⟨_, exec_served rfl h, serve_opHalterRelease h⟩,
    fun _ _ h => ⟨_, exec_served rfl h, serve_opTwinToleranceSet h⟩⟩

end Sys2Proof.Machine
end

section
/-! SUPPORT. What antenna supplies, integrations, losses of lock and releases leave of the antennas and the channels of the baseband
(07 R205-R210). -/
set_option Elab.async false

namespace Sys2Proof.Machine

section
variable {c : Nat} {ch : Fin 48} {x : CorrelatorSums} {s t : State}

@[simp] theorem rd_updGnss (f : Gnss → Gnss) (s : State) (id : Nat) : rd (updGnss f s) id = rd s id := rfl

/-! ### Antenna supplies -/

theorem biasClass_lt (n : Nat) : biasClass n < 4 := by
  unfold biasClass
  split
  · decide
  · split <;> decide

/-- An antenna that enters a class reads its class and its current; only a shorted one waits for a test (07 R205). -/
theorem antennaState_leaves (a : Fin 2) {cls : Nat} (mA : Nat) (hc : cls < 4) (s : State) :
    fld (antennaState a cls mA s) (0x4010 + a.val) 1 0 = cls ∧
    fld (antennaState a cls mA s) (0x4010 + a.val) 15 8 = min mA 255 ∧
    (cls ≠ 3 → vget (antennaState a cls mA s).gnss.antShort a = none) := by
  unfold antennaState
  extract_lets id was s1 off s2
  have after : onlyChanges [.line, .ev] (fun i => anyEventId i || i == 0x4016) s2
      (if was = cls ∧ cls ≠ 3 then s2 else if cls = 1 then raiseIf (decide (2 ≤ was)) 48 (a.val + 256 * cls + 0x8000) s2
        else if was = cls then s2 else raise 48 (a.val + 256 * cls) (sticky s2 0x4016 0)) :=
    .ite .refl (.ite (.raiseIf .refl) (.ite .refl (.raise (.sticky .refl))))
  have word := after.rd (id := id) (by simp [anyEventId, id]; omega)
  have gnss : (ite _ _ _ : State).gnss = s2.gnss := after.part .gnss
  have current : min mA 255 < 256 := by omega
  refine ⟨(fld_congr word).trans ?_, (fld_congr word).trans ?_, fun h => ?_⟩
  · simp [s2, s1, fld, rd_wrFld, bitsOf_putBits_same, bitsOf_putBits_other, Nat.mod_eq_of_lt hc]
  · simp [s2, s1, fld, rd_wrFld, bitsOf_putBits_same, Nat.mod_eq_of_lt current]
  · rw [gnss]
    simp [s2, off, h]

theorem execAntennaBiasClass_classifies {a : Fin 2} {mA : Nat} (hf : yardFenced s 4 = false)
    (hb : flag s 0x4000 (8 + a.val) = true) (hs : fld s (0x4010 + a.val) 1 0 ≠ 3) :
    execAntennaBiasClass a mA s = .next (antennaState a (biasClass mA) mA s) := by
  simp [execAntennaBiasClass, hf, hb, hs]

theorem execAntennaRetest_tests {a : Fin 2} {mA k : Nat} (hk : vget s.gnss.antShort a = some k)
    (ht : 110 ≤ (s.clk.beat + 2 ^ 32 - k) % 2 ^ 32) (hb : flag s 0x4000 (8 + a.val) = true) :
    execAntennaRetest a mA s = .next (antennaState a (biasClass mA) mA s) := by
  rw [execAntennaRetest, hk]
  exact if_neg (by simp [hb]; omega)

/-! ### What the clock leaves -/

theorem chanOn_congr (h : ∀ id, rd t id = rd s id) (i : Nat) : chanOn t i = chanOn s i := by
  simp only [chanOn, antennaOn, blockDown, blockFenced, yardFenced, yardState, fld, flag, h]

theorem chanOn_advance (c : Nat) (s : State) (i : Nat) : chanOn (advance c s) i = chanOn s i := chanOn_congr (rd_advance c s) i

theorem resultFaulted_advance (c : Nat) (s : State) (y b : Nat) : resultFaulted (advance c s) y b = resultFaulted s y b := by
  simp only [resultFaulted, advance_yards]

theorem chanAt_advance (c : Nat) (s : State) (i : Nat) : chanAt (advance c s) i = chanAt s i :=
  chanAt_congr (congrArg Gnss.ch (advance_gnss c s)) i

/-! ### One channel -/

theorem chanAt_val (ch : Fin 48) (s : State) : chanAt s ch.val = vget s.gnss.ch ch := chanAt_of_lt ch.isLt s

theorem vget_updChan_same (ch : Fin 48) (f : GChan → GChan) (s : State) :
    vget (updChan ch f s).gnss.ch ch = f (vget s.gnss.ch ch) := vget_vupd_same ..

theorem vget_updChan_other {ch j : Fin 48} (f : GChan → GChan) (s : State) (h : j ≠ ch) :
    vget (updChan ch f s).gnss.ch j = vget s.gnss.ch j := vget_vupd_other _ _ _ _ h

theorem operationDone_gnss (y : Fin 8) (b : Nat) (s : State) : (operationDone y b s).gnss = s.gnss :=
  (operationDone_only y b s).part .gnss

/-! ### Search -/

theorem execGnssIntegration_assigns {p : Fin 32} (hr : gnssRuns (advance c s) = true) (hon : chanOn s ch.val = true)
    (h0 : (vget s.gnss.ch ch).state = 0) (ha : x.assign = some p) :
    execGnssIntegration c ch x s = .next (assignSat ch (p.val + 1) (advance c s)) := by
  simp [execGnssIntegration, hr, chanOn_advance, hon, h0, ha]

/-- A channel that pulls in from a peak (07 R210). -/
def pullIn (d : Int) (s : State) (t : GChan) : GChan :=
  loopSettings s { t with state := 2, dop := d, goodMs := 0, signal := s.clk.cycle, aid := none }

/-- The search finds a peak within its window. -/
theorem execGnssIntegration_peak {d : Int} (hr : gnssRuns (advance c s) = true) (hon : chanOn s ch.val = true)
    (h1 : (vget s.gnss.ch ch).state = 1) (hp : x.peak = some d)
    (hw : (d - (searchWindow (advance c s) (vget s.gnss.ch ch)).1).natAbs ≤
      (searchWindow (advance c s) (vget s.gnss.ch ch)).2)
    (hb : blockDown s 4 5 = false) (hf : resultFaulted s 4 5 = false) : execGnssIntegration c ch x s =
      .next (operationDone 4 5 (updChan ch (pullIn d (advance c s)) (advance c s))) := by
  simp [execGnssIntegration, hr, chanOn_advance, hon, h1, hp, blockDown_advance, resultFaulted_advance, hb, hf,
    Nat.not_lt.2 hw]
  rfl

/-- A satellite that no channel has, at a pair without one, is searched on the channels of the pair that are in service
(07 R207). -/
theorem assignSat_free {prn : Nat} (free : ∀ j : Fin 48, (vget s.gnss.ch j).prn ≠ prn)
    (pair : ∀ j : Fin 48, j.val % 24 = ch.val % 24 → (vget s.gnss.ch j).prn = 0) (hs : searchable s prn = true) :
    assignSat ch prn s = assignPair (ch.val % 24) prn s := by
  unfold assignSat
  extract_lets other mate
  have held (i : Nat) (hi : i < 48) : (chanAt s i).prn ≠ prn := by
    rw [chanAt_of_lt hi]
    exact free _
  have lt : other < 48 := by
    dsimp only [other]
    split <;> omega
  have none : mate.prn = 0 := by
    dsimp only [mate]
    rw [chanAt_of_lt lt]
    refine pair _ ?_
    dsimp only [other]
    split <;> omega
  have any : ((List.range 48).any fun i => i != other && (chanAt s i).prn == prn) = false := by
    simp only [List.any_eq_false, List.mem_range]
    intro i hi
    simp [held i hi]
  rw [any, none, hs]
  rfl

/-- One half of a pair takes up a satellite where it is in service. -/
def searchAt (prn i : Nat) (s : State) : State :=
  if chanOn s i then updChanN i (fun _ => startSearch prn GChan.idle s) s else s

theorem assignPair_eq (n prn : Nat) (s : State) : assignPair n prn s = searchAt prn (n + 24) (searchAt prn n s) := rfl

theorem chanOn_searchAt (prn i : Nat) (s : State) (j : Nat) : chanOn (searchAt prn i s) j = chanOn s j := by
  unfold searchAt
  split
  · exact chanOn_congr (fun _ => rfl) j
  · rfl

theorem chanAt_searchAt_same {prn i : Nat} (hi : i < 48) (hon : chanOn s i = true) :
    chanAt (searchAt prn i s) i = startSearch prn GChan.idle s := by
  rw [searchAt, if_pos hon, chanAt_updChanN hi, if_pos rfl]

theorem chanAt_searchAt_other {prn i j : Nat} (hj : j < 48) (h : j ≠ i) : chanAt (searchAt prn i s) j = chanAt s j := by
  unfold searchAt
  split
  · rw [chanAt_updChanN hj, if_neg h]
  · rfl

theorem assignPair_assigns (prn : Nat) {n : Nat} {j : Fin 48} (hj : j.val % 24 = n) (hon : chanOn s j.val = true) :
    (vget (assignPair n prn s).gnss.ch j).prn = prn ∧ (vget (assignPair n prn s).gnss.ch j).state = 1 := by
  rw [assignPair_eq, ← chanAt_val]
  have half : j.val = n ∨ j.val = n + 24 := by omega
  rcases half with first | second
  · rw [chanAt_searchAt_other j.isLt (by omega), ← first, chanAt_searchAt_same j.isLt hon]
    exact ⟨rfl, rfl⟩
  · rw [← second, chanAt_searchAt_same j.isLt (by rwa [chanOn_searchAt])]
    exact ⟨rfl, rfl⟩

/-- The idle half beside a partner that alone has the satellite takes it up from there (07 R207). -/
theorem assignSat_joins {prn : Nat} {o : Fin 48} (hn : prn ≠ 0) (ho : o.val = if ch.val < 24 then ch.val + 24 else ch.val - 24)
    (has : (vget s.gnss.ch o).prn = prn) (alone : ∀ j : Fin 48, j ≠ o → (vget s.gnss.ch j).prn ≠ prn) :
    assignSat ch prn s = updChan ch (fun _ => startSearch prn (vget s.gnss.ch o) s) s := by
  have any : ((List.range 48).any fun i => i != o.val && (chanAt s i).prn == prn) = false := by
    simp only [List.any_eq_false, List.mem_range, Bool.and_eq_true, bne_iff_ne, beq_iff_eq, not_and]
    intro i hi hio
    rw [chanAt_of_lt hi]
    exact alone _ fun e => hio (congrArg Fin.val e)
  simp [assignSat, ← ho, any, chanAt_val, has, hn]

/-! ### Tracking -/

/-- A tracking channel after an integration (07 R208-R210). -/
def integrated (x : CorrelatorSums) (s : State) (t : GChan) : GChan :=
  let t1 := trackState x t s.clk.cycle
  loopSettings s { sumBit x (updateLoops x t) with
    state := t1.state, goodMs := t1.goodMs, badMs := t1.badMs, lockMs := t1.lockMs, signal := t1.signal, lockAt := t1.lockAt }

/-- An integration of a tracking channel; a channel that locks aids its partner's search, and that is all beside. -/
theorem execGnssIntegration_tracks (x : CorrelatorSums) (hr : gnssRuns (advance c s) = true) (hon : chanOn s ch.val = true)
    (h2 : 2 ≤ (vget s.gnss.ch ch).state) :
    ∃ t, execGnssIntegration c ch x s = .next t ∧ vget t.gnss.ch ch = integrated x (advance c s) (vget s.gnss.ch ch) := by
  obtain ⟨n, hn⟩ := Nat.exists_eq_add_of_le' h2
  unfold execGnssIntegration
  simp only [hr, chanOn_advance, hon, advance_gnss, hn, Bool.not_true, Bool.or_false, Bool.false_eq_true, if_false]
  have apart : ch.val ≠ if ch.val < 24 then ch.val + 24 else ch.val - 24 := by split <;> omega
  generalize (if ch.val < 24 then ch.val + 24 else ch.val - 24) = other at apart ⊢
  have kept (f : GChan → GChan) (u : State) : vget (updChanN other f u).gnss.ch ch = vget u.gnss.ch ch := by
    rw [← chanAt_val, chanAt_updChanN ch.isLt, if_neg apart, chanAt_val]
  split
  · refine ⟨_, rfl, ?_⟩
    rw [kept, vget_updChan_same, advance_gnss]
    rfl
  · refine ⟨_, rfl, ?_⟩
    rw [vget_updChan_same, advance_gnss]
    rfl

/-- LOCK comes after 100 ms of a lock indicator of at least 0.8 (07 R210). -/
theorem trackState_pullIn {t : GChan} (h : t.state = 2) (hl : lockIndicator 8 x.ip x.qp = true) (n : Nat) :
    (trackState x t n).state = (if 99 ≤ t.goodMs then 3 else 2) ∧ (trackState x t n).goodMs = t.goodMs + 1 := by
  have full : (100 ≤ t.goodMs + 1) = (99 ≤ t.goodMs) := by rw [Nat.succ_le_succ_iff]
  simp [trackState, h, hl, full]

theorem trackState_synced {t : GChan} (h : 4 ≤ t.state) (n : Nat) : (trackState x t n).state = t.state := by
  have two : t.state ≠ 2 := by omega
  have three : t.state ≠ 3 := by omega
  simp [trackState, two, three]

/-- The 20th integration completes the sum of a bit (07 R209). -/
theorem sumBit_completes {t : GChan} (h : 4 ≤ t.state) (hn : 19 ≤ t.sumN) :
    (sumBit x t).bit = (t.sumI + x.ip, t.sumQ + x.qp) ∧ (sumBit x t).sumN = 0 := by
  rw [sumBit, if_neg (by omega), if_pos (by omega)]
  exact ⟨rfl, rfl⟩

theorem integrated_completes {t : GChan} (h : 4 ≤ t.state) (hn : 19 ≤ t.sumN) :
    (integrated x s t).bit = (t.sumI + x.ip, t.sumQ + x.qp) ∧ (integrated x s t).sumN = 0 ∧ (integrated x s t).state = t.state := by
  obtain ⟨bit, count⟩ := sumBit_completes (x := x) (t := updateLoops x t) h hn
  exact ⟨bit, count, trackState_synced h s.clk.cycle⟩

/-! ### Losses and releases -/

theorem execChannelLossOfLock_loses (c : Nat) (h2 : 2 ≤ (vget s.gnss.ch ch).state) (hb : 20 ≤ (vget s.gnss.ch ch).badMs) :
    execChannelLossOfLock c ch s = .next (updChan ch (loseLock (advance c s).clk.cycle) (advance c s)) := by
  simp [execChannelLossOfLock, h2, hb]

theorem execSatelliteRelease_releases {p : Fin 24} (hp : (chanAt s p.val).prn ≠ 0 ∨ (chanAt s (p.val + 24)).prn ≠ 0)
    (ht : max (chanAt s p.val).signal (chanAt s (p.val + 24)).signal + 3000000000 ≤ (advance c s).clk.cycle) :
    execSatelliteRelease c p s = .next
      (updChanN (p.val + 24) (fun _ => GChan.idle) (updChanN p.val (fun _ => GChan.idle) (advance c s))) := by
  simp only [execSatelliteRelease, chanAt_advance, oneSecond]
  exact if_neg (by omega)

end

end Sys2Proof.Machine
end

section
/-! SUPPORT. What subframes, the measurement tick, the end of a check, the retained block and a start's timeout leave (07 R211-R214,
R224-R226), and O44. -/
set_option Elab.async false

namespace Sys2Proof.Machine

section
variable {c : Nat} {ch : Fin 48} {s t u : State}

/-! ### Channels that become READY -/

/-- Every channel is as it was, or has gone on from FRAME to READY (07 R210). -/
def channelsReadied (s t : State) : Prop :=
  ∀ j : Fin 48, vget t.gnss.ch j = vget s.gnss.ch j ∨
    (vget s.gnss.ch j).state = 5 ∧ vget t.gnss.ch j = { vget s.gnss.ch j with state := 6 }

theorem channelsReadied_of_ch (h : t.gnss.ch = s.gnss.ch) : channelsReadied s t := fun j => .inl (by rw [h])

theorem channelsReadied.trans (h : channelsReadied s t) (k : channelsReadied t u) : channelsReadied s u := by
  intro j
  rcases h j with same | ⟨five, six⟩
  · rw [← same]
    exact k j
  · rcases k j with same | ⟨again, -⟩
    · exact .inr ⟨five, same.trans six⟩
    · rw [six] at again
      cases again

/-- Becoming READY leaves a channel's time of week, and a channel that has its frame keeps it. -/
theorem channelsReadied.channel (h : channelsReadied s t) (j : Fin 48) :
    (vget t.gnss.ch j).lastTow = (vget s.gnss.ch j).lastTow ∧
    (5 ≤ (vget s.gnss.ch j).state → 5 ≤ (vget t.gnss.ch j).state) := by
  rcases h j with same | ⟨-, six⟩
  · rw [same]
    exact ⟨rfl, id⟩
  · rw [six]
    exact ⟨rfl, fun _ => Nat.le_succ 5⟩

theorem readyChans_readied (prn : Nat) (s : State) : channelsReadied s (readyChans prn s) := by
  intro j
  unfold readyChans
  split
  · exact .inl rfl
  · rw [updGnss_gnss, vget_map]
    split
    next h => exact .inr ⟨h.2, rfl⟩
    · exact .inl rfl

theorem gnssBlockWrite_ch (s : State) : (gnssBlockWrite s).gnss.ch = s.gnss.ch := by
  unfold gnssBlockWrite
  split
  · rfl
  · rw [updGnss_gnss]

theorem holdEph_readied (prn i : Nat) (d : List Nat) (s : State) : channelsReadied s (holdEph prn i d s) := by
  unfold holdEph
  refine channelsReadied.trans ?_ (channelsReadied_of_ch (gnssBlockWrite_ch _))
  refine channelsReadied.trans ?_ (readyChans_readied _ _)
  exact channelsReadied_of_ch rfl

theorem judgeEph_readied (prn i : Nat) (d : List Nat) (s : State) : channelsReadied s (judgeEph prn i d s) := by
  unfold judgeEph
  dsimp only
  split
  · exact channelsReadied_of_ch rfl
  · exact holdEph_readied _ _ _ _

theorem acceptEph_readied (prn : Nat) (a : Fin 2) (i : Nat) (d : List Nat) (s : State) :
    channelsReadied s (acceptEph prn a i d s) := by
  unfold acceptEph
  extract_lets x other s1 differs both s2
  have h2 : s2.gnss.ch = s.gnss.ch := by
    dsimp only [s2]
    split
    · split <;> rfl
    · rfl
  split
  · exact channelsReadied_of_ch (by rw [sticky_gnss]; rfl)
  · split
    · exact channelsReadied_of_ch h2
    · exact (channelsReadied_of_ch h2).trans (judgeEph_readied _ _ _ _)

theorem takePage_readied (sv : Nat) (d : List Nat) (s : State) : channelsReadied s (takePage sv d s) := by
  unfold takePage
  extract_lets s1 x
  have h1 : channelsReadied s s1 := channelsReadied_of_ch rfl
  split
  · exact h1
  · split
    · split
      · exact h1.trans (judgeEph_readied _ _ _ _)
      · exact h1
    · exact h1

theorem utcPage_ch (d : List Nat) (s : State) : (utcPage d s).gnss.ch = s.gnss.ch := by
  unfold utcPage
  dsimp only
  split <;> rfl

theorem takeSubframe_readied (prn : Nat) (a : Fin 2) (d : List Nat) (s : State) :
    channelsReadied s (takeSubframe prn a d s) := by
  unfold takeSubframe
  split
  · dsimp only
    split
    · exact channelsReadied_of_ch (utcPage_ch ..)
    · split
      · exact takePage_readied _ _ _
      · exact channelsReadied_of_ch rfl
  · dsimp only
    split
    · exact takePage_readied _ _ _
    · exact channelsReadied_of_ch rfl
  · extract_lets s1 s2 y
    have h2 : s2.gnss.ch = s.gnss.ch := by
      dsimp only [s2]
      split <;> rfl
    split
    · exact channelsReadied_of_ch rfl
    · split
      · dsimp only
        split
        · split
          · exact channelsReadied_of_ch h2
          · exact (channelsReadied_of_ch h2).trans (acceptEph_readied _ _ _ _ _)
        · exact channelsReadied_of_ch h2
      · exact channelsReadied_of_ch h2

/-! ### Subframes -/

/-- The data bits of a subframe's words and the count of words that fail their parity, after the word before them (07 R211). -/
def checkedWords (s : State) (t : GChan) (w : List Nat) : List Nat × Nat :=
  let before := wordBefore s t (w.getD 0 0)
  navWords before.1 before.2 w

/-- The words of a subframe, of 30 bits. -/
def subframeWords (l : List Word) : List Nat := l.map fun x => x.toNat % 2 ^ 30

/-- A channel that has kept the last bits of a subframe. -/
def tailKept (w : List Nat) (n : Nat) (t : GChan) : GChan :=
  { t with tail := some (navBit (w.getD 9 0) 29, navBit (w.getD 9 0) 30, n) }

/-- A subframe with a wrong parity is counted, and only its last bits are kept. -/
theorem execSubframeReceived_parity {w : List Word} (hw : w.length = 10) (hr : gnssRuns (advance c s) = true)
    (hon : chanOn s ch.val = true) (h4 : 4 ≤ (vget s.gnss.ch ch).state)
    (hz : (checkedWords (advance c s) (vget s.gnss.ch ch) (subframeWords w)).2 ≠ 0) :
    execSubframeReceived c ch w s = .next (sticky (bump
      (updChan ch (tailKept (subframeWords w) (advance c s).clk.cycle) (advance c s)) 0x4017 15 0
      (checkedWords (advance c s) (vget s.gnss.ch ch) (subframeWords w)).2) 0x4016 1) := by
  unfold execSubframeReceived
  rw [if_neg (not_not.2 hw)]
  dsimp only
  rw [if_neg (by simp [hr, chanOn_advance, hon, h4]), advance_gnss]
  exact if_pos hz

/-- What a subframe with all parities right and the preamble in front leaves: its time of week, and with the time of week before it the
frame. -/
theorem execSubframeReceived_accepts {w : List Word} {z : List Nat × Nat} (hw : w.length = 10)
    (hr : gnssRuns (advance c s) = true) (hon : chanOn s ch.val = true) (h4 : 4 ≤ (vget s.gnss.ch ch).state)
    (hz : z = checkedWords (advance c s) (vget s.gnss.ch ch) (subframeWords w)) (good : z.2 = 0)
    (hp : dataBits (dataWord z.1 1) 1 8 = 0x8B) :
    ∃ t, execSubframeReceived c ch w s = .next t ∧ (vget t.gnss.ch ch).lastTow = some (towOf z.1) ∧
      fld t 0x4017 15 0 = fld s 0x4017 15 0 ∧
      ((vget s.gnss.ch ch).state = 4 → (∃ x, (vget s.gnss.ch ch).lastTow = some x ∧ (x + 1) % 100800 = towOf z.1) →
        5 ≤ (vget t.gnss.ch ch).state) := by
  unfold execSubframeReceived
  rw [if_neg (not_not.2 hw)]
  extract_lets s1 t w' before z' s0 tow next st s2
  have ht : t = vget s.gnss.ch ch := by rw [show t = vget s1.gnss.ch ch from rfl, advance_gnss]
  have hz' : z' = z := by
    rw [hz, ← ht]
    rfl
  rw [if_neg (by simp [s1, hr, chanOn_advance, hon, ht, h4]), hz', if_neg (not_not.2 good), if_neg (not_not.2 hp)]
  have readied : channelsReadied s2 (readyChans t.prn (takeSubframe t.prn (if ch.val < 24 then 0 else 1) z.1 s2)) :=
    (takeSubframe_readied _ _ _ _).trans (readyChans_readied _ _)
  obtain ⟨kept, framed⟩ := readied.channel ch
  have channel : (vget s2.gnss.ch ch).lastTow = some tow ∧ (vget s2.gnss.ch ch).state = st := by
    rw [vget_updChan_same]
    exact ⟨rfl, rfl⟩
  have htow : tow = towOf z.1 := congrArg (fun z => towOf z.1) hz'
  have left : onlyChanges [.time, .gnss] (· == 0x4016) s
      (readyChans t.prn (takeSubframe t.prn (if ch.val < 24 then 0 else 1) z.1 s2)) :=
    (readyChans_only ..).step ((takeSubframe_only ..).step (.set rfl (.set rfl (.advance .refl))))
  refine ⟨_, rfl, ?_, fld_congr (left.rd rfl), fun four ⟨x, last, follows⟩ => framed ?_⟩
  · rw [kept, channel.1, htow]
  · have hnext : next = true := by
      dsimp only [next]
      rw [ht, last, htow]
      simpa using follows
    rw [channel.2]
    dsimp only [st]
    rw [ht, four, hnext]
    decide

/-! ### The measurement tick -/

theorem epochSet_advance (c : Nat) (s : State) : epochSet (advance c s) = epochSet s := by
  simp only [epochSet, fld, flag, rd_advance]

/-- A tick near a whole multiple of the epoch interval, or before a clock solution: the channels latch with the settings of the
epoch, whose strobe is to come (07 R214, R229). -/
theorem execMeasurementTick_latches {m : List ChannelLatch} {x : ChannelLatch} (hr : gnssRuns (advance c s) = true)
    (he : (gpsEstimate (advance c s) (advance c s).clk.cycle).all (fun e => atMultiple e (epochInterval (rateOn (advance c s)
      (some e)))) = true) (hm : m.find? (fun y => y.ch == ch) = some x) (h2 : 2 ≤ (vget s.gnss.ch ch).state) :
    ∃ t, execMeasurementTick c m s = .next t ∧ (∃ n u, vget t.gnss.ch ch = latchChan n x u) ∧
      t.gnss.tick = some (advance c s).clk.cycle ∧ t.gnss.tickDue = true ∧ t.gnss.prevTick = s.gnss.tick ∧
      t.gnss.cfg = epochSet s := by
  unfold execMeasurementTick
  extract_lets s0 est rate off gone one s1 s2
  have near : off = false := by
    dsimp only [off, rate, est, s0]
    cases hest : gpsEstimate (advance c s) (advance c s).clk.cycle with
    | none => rfl
    | some e =>
      rw [hest] at he
      simpa using he
  have heading : ∃ n, s2.gnss = { s1.gnss with heading := n } := by
    dsimp only [s2]
    clear_value s1
    split
    · exact ⟨1, rfl⟩
    · exact ⟨s1.gnss.heading, rfl⟩
  obtain ⟨n, hs2⟩ := heading
  have runs : ¬(!gnssRuns s0 || off) = true := by rw [near, hr]; decide
  rw [if_neg runs]
  refine ⟨_, rfl, ?_⟩
  simp only [List.foldl_cons, List.foldl_nil, operationDone_gnss, hs2]
  have latched : ∃ u, one ch = latchChan gone x u := by
    dsimp only [one]
    rw [hm]
    dsimp only
    rw [if_pos (by rwa [advance_gnss])]
    exact ⟨_, rfl⟩
  obtain ⟨u, hu⟩ := latched
  refine ⟨⟨gone, u, ?_⟩, rfl, rfl, ?_, ?_⟩
  · rw [← hu]
    simp [s1, vget]
  · exact congrArg Gnss.tick (advance_gnss c s)
  · exact epochSet_advance c s

/-! ### Checks -/

/-- The bits of the standing checks, from the first up (07 R232). -/
def standingBits : List GCheck → Nat
  | [] => 0
  | x :: l => b2n x.stands + 2 * standingBits l

theorem foldl_standing (l : List GCheck) (k n : Nat) :
    (l.zipIdx k).foldl (fun n x => if x.1.stands then n + 2 ^ x.2 else n) n = n + 2 ^ k * standingBits l := by
  induction l generalizing k n with
  | nil => simp [standingBits]
  | cons x l ih =>
    rw [List.zipIdx_cons, List.foldl_cons, ih, standingBits, pow_succ]
    cases x.stands <;> simp [b2n] <;> ring

theorem standingBits_lt (l : List GCheck) : standingBits l < 2 ^ l.length := by
  induction l with
  | nil => decide
  | cons x l ih =>
    have bit : b2n x.stands ≤ 1 := by cases x.stands <;> decide
    rw [standingBits, List.length_cons, pow_succ]
    omega

theorem testBit_standingBits (l : List GCheck) (i : Nat) (h : i < l.length) :
    (standingBits l).testBit i = l[i].stands := by
  induction l generalizing i with
  | nil => cases h
  | cons x l ih =>
    cases i with
    | zero => cases hx : x.stands <;> simp [standingBits, hx, b2n]
    | succ i =>
      have half : (b2n x.stands + 2 * standingBits l) / 2 = standingBits l := by
        have bit : b2n x.stands ≤ 1 := by cases x.stands <;> decide
        omega
      rw [standingBits, Nat.testBit_succ, half]
      exact ih i (Nat.lt_of_succ_lt_succ h)

/-- CHECK_STATE shows which checks stand. -/
theorem flag_showChecks (k : Fin 6) (s : State) : flag (showChecks s) 0x4015 k.val = (vget s.gnss.checks k).stands := by
  unfold showChecks
  extract_lets l b mask
  have lt : standingBits l < 256 := (standingBits_lt l).trans_le (by simp [l])
  have shown : b = standingBits l := by simpa using foldl_standing l 0 0
  have low : (b + 256 * mask) % 2 ^ 8 = standingBits l := by omega
  have bit : (b + 256 * mask).testBit k.val = ((b + 256 * mask) % 2 ^ 8).testBit k.val := by
    rw [Nat.testBit_mod_two_pow, decide_eq_true (show k.val < 8 by omega), Bool.true_and]
  rw [flag, rd_wr_same, bitOf, BitVec.getLsbD_ofNat, decide_eq_true (show k.val < 32 by omega), Bool.true_and, bit, low,
    testBit_standingBits _ _ (by simp [l])]
  simp [l, vget]

/-- A check whose condition has not held for 10 s of epochs stands no more, and CHECK_STATE shows it so (07 R224). -/
theorem execCheckClear_clears {k : Fin 6} (c : Nat) (hs : (vget s.gnss.checks k).stands = true)
    (hm : (vget s.gnss.checks k).met + 1000000000 ≤ s.gnss.epoch) :
    ∃ t, execCheckClear c k s = .next t ∧ (vget t.gnss.checks k).stands = false ∧ (vget t.gnss.checks k).mask = 0 ∧
      flag t 0x4015 k.val = false := by
  unfold execCheckClear
  extract_lets s0 x s1
  have hx : x = vget s.gnss.checks k := by rw [show x = vget s0.gnss.checks k from rfl, advance_gnss]
  have long : ¬(!x.stands || decide (s0.gnss.epoch < x.met + 10 * oneSecond)) = true := by
    rw [hx, hs, show s0.gnss = s.gnss from advance_gnss c s, oneSecond]
    simpa using hm
  rw [if_neg long]
  have cleared : vget s1.gnss.checks k = ⟨false, 0, x.met⟩ := vget_vset_same ..
  have left := raise_only (checkEvent k.val).1 (checkArg k.val x.mask + 0x8000) s1
  have shown : (eventIds (checkEvent k.val).1).contains 0x4015 = false := by
    by_contra h
    have event := anyEventId_of_mem_eventIds (checkEvent_lt k.val) (Bool.eq_true_of_not_eq_false h)
    revert event
    decide
  refine ⟨_, rfl, ?_, ?_, ?_⟩
  · rw [raise_gnss, cleared]
  · rw [raise_gnss, cleared]
  · rw [flag_congr (left.rd shown)]
    exact (flag_showChecks k _).trans (congrArg GCheck.stands cleared)

/-! ### The retained block and a start's timeout -/

theorem inRun_advance (c : Nat) (s : State) : inRun (advance c s) = inRun s := by
  rw [inRun, moduleState, fld_congr (rd_advance ..), mode_advance, ← moduleState, ← inRun]

/-- The retained block as a write of 60 s leaves it (07 R225). -/
theorem execGnssBlockWrite_writes (hr : inRun s = true) (h0 : yardFenced s 0 = false) (h4 : yardFenced s 4 = false)
    (hd : s.gnss.blockAt.all (fun k => decide (k + 6000000000 ≤ (advance c s).clk.cycle)) = true) :
    ∃ t, execGnssBlockWrite c s = .next t ∧
      t.gnss.block.map (·.alm) = some ((s.gnss.alm.filter fun x => decide (ageSec (advance c s) x.2.2 < thirtyDays)).map fun x =>
        (x.1, x.2.1, ageSec (advance c s) x.2.2)) ∧
      t.gnss.block.map (·.week) = some s.gnss.week ∧ t.gnss.block.map (·.pos) = some s.gnss.pos ∧
      t.gnss.block.map (·.good) = some true ∧ t.gnss.blockAt = some (advance c s).clk.cycle ∧ t.gnss.ch = s.gnss.ch ∧
      t.regs = s.regs := by
  unfold execGnssBlockWrite
  extract_lets s0 due
  have hdue : due = true := by
    dsimp only [due]
    rw [show s0.gnss = s.gnss from advance_gnss c s]
    cases hb : s.gnss.blockAt with
    | none => rfl
    | some k =>
      rw [hb, Option.all_some, decide_eq_true_eq] at hd
      exact decide_eq_true (by rwa [oneSecond])
  have served : ¬(yardFenced s0 0 || yardFenced s0 4) = true := by simp [s0, yardFenced_advance, h0, h4]
  rw [if_pos (by simp [s0, inRun_advance, hr, hdue]), gnssBlockWrite, if_neg served]
  refine ⟨_, rfl, ?_⟩
  simp only [updGnss_gnss, Option.map_some, show s0.gnss = s.gnss from advance_gnss c s, true_and]
  exact ⟨rfl, rfl, advance_regs c s⟩

theorem execGnssStartTimeout_marks {k : Nat} (hk : s.gnss.startAt = some k) (hf : s.gnss.firstFix = false)
    (ht : s.gnss.timedOut = false) : ∃ t, execGnssStartTimeout s = .next t ∧
      t.gnss = { s.gnss with timedOut := true, timeoutDue := true } := by
  unfold execGnssStartTimeout
  rw [hk]
  dsimp only
  rw [if_neg (by simp [hf, ht])]
  exact ⟨_, rfl, by rw [updGnss_gnss, advance_gnss]⟩

end

/-- Settles O44: each row by the lemma on what its function leaves of antennas, channels, checks and retained data. -/
theorem gnssEvents : Obligations.GnssEvents := by
  unfold Obligations.GnssEvents
  refine ⟨?bias, ?retest, ?assign, ?join, ?peak, ?lock, ?bit, ?loss, ?release, ?subframe, ?parity, ?tick, ?check, ?block,
    ?timeout⟩
  case bias =>
    intro a x s hf hb hs
    obtain ⟨cls, current, -⟩ := antennaState_leaves a x (biasClass_lt x) s
    exact ⟨_, execAntennaBiasClass_classifies hf hb hs, cls, current⟩
  case retest =>
    intro a x k s hk ht hb
    obtain ⟨cls, -, off⟩ := antennaState_leaves a x (biasClass_lt x) s
    exact ⟨_, execAntennaRetest_tests hk ht hb, cls, off⟩
  case assign =>
    intro c ch x p s hr hon h0 ha free pair hs
    refine ⟨_, execGnssIntegration_assigns hr hon h0 ha, fun j hj hj' => ?_⟩
    rw [assignSat_free (by rwa [advance_gnss]) (by rwa [advance_gnss]) hs]
    exact assignPair_assigns _ hj (by rwa [chanOn_advance])
  case join =>
    intro c ch o x p s hr hon h0 ha ho has alone
    have apart : o ≠ ch := by
      rintro rfl
      split at ho <;> omega
    refine ⟨_, execGnssIntegration_assigns hr hon h0 ha, ?_⟩
    rw [assignSat_joins (Nat.succ_ne_zero _) ho (by rwa [advance_gnss]) (by rwa [advance_gnss]), vget_updChan_same,
      vget_updChan_other _ _ apart, advance_gnss]
    exact ⟨rfl, rfl, rfl, fun locked => by simp [startSearch, has, locked]⟩
  case peak =>
    rintro c ch x d z s hr hon h1 hp rfl hw hb hf
    refine ⟨_, execGnssIntegration_peak hr hon h1 hp hw hb hf, ?_⟩
    rw [operationDone_gnss, vget_updChan_same]
    exact ⟨rfl, rfl, rfl, fld_congr (rd_advance ..)⟩
  case lock =>
    intro c ch x s hr hon h2 hl
    obtain ⟨t, ht, channel⟩ := execGnssIntegration_tracks x hr hon h2.ge
    refine ⟨t, ht, ?_⟩
    rw [channel]
    exact trackState_pullIn h2 hl (advance c s).clk.cycle
  case bit =>
    intro c ch x s hr hon h4 hn
    obtain ⟨t, ht, channel⟩ := execGnssIntegration_tracks x hr hon (by omega)
    refine ⟨t, ht, ?_⟩
    rw [channel]
    exact integrated_completes h4 hn
  case loss =>
    intro c ch s h2 hb
    refine ⟨_, execChannelLossOfLock_loses c h2 hb, ?_⟩
    rw [vget_updChan_same, advance_gnss]
    exact ⟨rfl, rfl, rfl⟩
  case release =>
    intro c p s hp ht
    refine ⟨_, execSatelliteRelease_releases hp ht, ?_, ?_⟩
    · rw [chanAt_updChanN (by omega), if_neg (by omega), chanAt_updChanN (by omega), if_pos rfl]
    · rw [chanAt_updChanN (by omega), if_pos rfl]
  case subframe =>
    intro c ch w z s hw hr hon h4 hz good hp
    exact execSubframeReceived_accepts hw hr hon h4 hz good hp
  case parity =>
    rintro c ch w _ s hw hr hon h4 rfl hz
    refine ⟨_, execSubframeReceived_parity hw hr hon h4 hz, ?_, flag_sticky_same _ _ _ (by decide), ?_⟩
    · rw [fld_congr (rd_sticky_other _ _ (by decide)), fld_bump_same _ _ _ _ _ (by decide)]
      exact congrArg (satAdd 16 · _) (fld_congr (rd_advance c s 0x4017))
    · rw [sticky_gnss, bump_gnss, vget_updChan_same, advance_gnss]
      simp only [updChan, updGnss_gnss, advance_gnss, and_true]
      rfl
  case tick =>
    intro c m ch x s hr he hm h2
    obtain ⟨t, ht, ⟨n, u, channel⟩, tick⟩ := execMeasurementTick_latches hr he hm h2
    refine ⟨t, ht, ?_⟩
    rw [channel]
    exact ⟨rfl, rfl, rfl, rfl, tick⟩
  case check => exact fun c k s hs hm => execCheckClear_clears c hs hm
  case block => exact fun c s hr h0 h4 hd => execGnssBlockWrite_writes hr h0 h4 hd
  case timeout => exact fun k s hk hf ht => execGnssStartTimeout_marks hk hf ht

end Sys2Proof.Machine
end

section
/-! SUPPORT. What an epoch leaves of its tick, the fix of antenna A, source 0 and the heading state (07 R215-R221, R232), and O45. -/
set_option Elab.async false

namespace Sys2Proof.Machine

section
variable {c k : Nat} {d : EpochData} {s t u : State}

/-! ### What the epoch's own operations leave of the baseband -/

/-- The cycle of the latest epoch, whether its strobe is still to come, and the settings of the tick. -/
def epochOf (s : State) : Nat × Bool × EpochSet := (s.gnss.epoch, s.gnss.tickDue, s.gnss.cfg)

/-- The same with the heading state and the module's position. -/
def shownOf (s : State) : (Nat × Bool × EpochSet) × Nat × Option (Int × Int) := (epochOf s, s.gnss.heading, s.gnss.pos)

theorem epochOf_congr (h : t.gnss = s.gnss) : epochOf t = epochOf s := by simp only [epochOf, h]

theorem shownOf_congr (h : t.gnss = s.gnss) : shownOf t = shownOf s := by simp only [shownOf, epochOf, h]

/-- States that show the same show each part of it. -/
theorem shownOf_parts (h : shownOf t = shownOf s) :
    epochOf t = epochOf s ∧ t.gnss.heading = s.gnss.heading ∧ t.gnss.pos = s.gnss.pos :=
  ⟨congrArg Prod.fst h, congrArg (·.2.1) h, congrArg (·.2.2) h⟩

theorem shownOf_runChecks (l : List (Bool × Nat)) (s : State) : shownOf (runChecks l s).1 = shownOf s := by
  unfold runChecks
  dsimp only
  refine (shownOf_congr (wr_gnss ..)).trans ?_
  refine List.foldlRecOn (motive := fun a : State × List (Nat × Nat) => shownOf a.1 = shownOf s) _ _ rfl fun a ha i _ => ?_
  split
  · split
    · exact ha
    · exact (shownOf_congr (sticky_gnss ..)).trans ha
  · exact ha

theorem shownOf_markChans (a : Nat) (l : List Nat) (e : Option Nat) (f : Option NavFix) (h : List Nat) (s : State) :
    shownOf (markChans a l e f h s) = shownOf s :=
  List.foldlRecOn (motive := fun t : State => shownOf t = shownOf s) _ _ rfl fun _ ht _ _ => ht

theorem shownOf_firstFix (b : Bool) (s : State) : shownOf (firstFix b s).1 = shownOf s := by
  unfold firstFix
  split
  · rfl
  · split <;> rfl

theorem epochOf_showHeading (n m l : Nat) (s : State) : epochOf (showHeading n m l s) = epochOf s := rfl

theorem epochOf_sticky (id i : Nat) (s : State) : epochOf (sticky s id i) = epochOf s := epochOf_congr (sticky_gnss ..)

theorem epochOf_integers (x : Gnss → Option (List (Fin 24 × Int) × Nat)) (y : Gnss → List (Fin 24 × Int × Nat)) (s : State) :
    epochOf (updGnss (fun g => { g with cand := x g, ints := y g }) s) = epochOf s := rfl

theorem epochOf_headingStep (b : Option BaselineFix) (s : State) : epochOf (headingStep b s).1 = epochOf s := by
  unfold headingStep
  dsimp only
  (repeat' split) <;> simp only [epochOf_showHeading, epochOf_sticky, epochOf_integers]

/-- With heading off its state and register are 0 (07 R230, R232). -/
theorem headingStep_off (b : Option BaselineFix) (h : headingOn s = false) :
    (headingStep b s).1.gnss.heading = 0 ∧ rd (headingStep b s).1 0x4014 = 0 := by
  unfold headingStep
  dsimp only
  rw [if_pos (by simp [h])]
  exact ⟨rfl, rd_wr_same ..⟩

/-! ### FIX_STATE -/

theorem showFix_word (a : Nat) (v : Bool) (n p : Nat) (s : State) :
    flag (showFix a v n p s).1 (0x4012 + a) 0 = v ∧ (n < 256 → fld (showFix a v n p s).1 (0x4012 + a) 15 8 = n) := by
  have word : rd (showFix a v n p s).1 (0x4012 + a) = BitVec.ofNat 32 (b2n v + 256 * n + 65536 * min p 0xFFFF) := rd_wr_same ..
  refine ⟨?_, fun hn => ?_⟩
  · rw [flag, word, bitOf, BitVec.getLsbD_ofNat, decide_eq_true (by decide), Bool.true_and, Nat.testBit_zero]
    cases v <;> simp [b2n] <;> omega
  · have bit : b2n v ≤ 1 := by cases v <;> decide
    rw [fld, word, bitsOf, BitVec.toNat_ofNat, Nat.shiftRight_eq_div_pow]
    omega

theorem showFix_gnss (a : Nat) (v : Bool) (n p : Nat) (s : State) : (showFix a v n p s).1.gnss = s.gnss := wr_gnss ..

/-! ### Source 0 -/

/-- The record of a source leaves every other source. -/
theorem srcUnit_sourceRecord_other {q p : Fin 32} (h : q.val ≠ p.val) (v : Bool) (r : SampleRec) (s : State) :
    srcUnit (sourceRecord p.val v r s) q.val = srcUnit s q.val := by
  have other (f : SrcUnit → SrcUnit) : srcUnit (updSrc p.val f s) q.val = srcUnit s q.val := by
    rw [srcUnit_eq, srcUnit_eq, updSrc_other _ _ h]
  unfold sourceRecord acceptInternal
  split
  · rfl
  · split
    · split
      · exact other _
      · rfl
    · exact other _

/-- A valid record of an enabled source is the latest that waits for it (07 R217, 05 R154). -/
theorem sourceRecord_latest {q : Fin 32} (h : flag s (srcId q.val 0) 0 = true) (r : SampleRec) :
    (srcUnit (sourceRecord q.val true r s) q.val).buf.getLast? = some r := by
  rw [sourceRecord, acceptInternal, if_neg (by simp [h]), if_pos rfl, if_pos h, acceptRec_buf q.isLt]
  exact List.getLast?_concat

/-! ### What the clock leaves of a solution -/

theorem antennaOn_advance (c : Nat) (s : State) (a : Nat) : antennaOn (advance c s) a = antennaOn s a := by
  rw [antennaOn, blockDown_advance, flag_congr (rd_advance ..), ← antennaOn]

theorem antennaReady_advance (c : Nat) (s : State) (a : Nat) : antennaReady (advance c s) a = antennaReady s a := by
  simp only [antennaReady, chanReady, chanIn, antennaOn_advance, chanAt_advance, satAt, chanMasked, advance_gnss]

theorem solveAntenna_advance (c : Nat) (s : State) (a : Nat) (f g : Option NavFix) :
    solveAntenna (advance c s) a f g = solveAntenna s a f g := by
  have resid : normResid (advance c s) a = normResid s a := by
    funext x
    simp only [normResid, chanAt_advance, advance_gnss]
  simp only [solveAntenna, antennaReady_advance, resid]

theorem headingOn_congr (h : rd t 0x4000 = rd s 0x4000) (h' : rd t 0x4004 = rd s 0x4004) : headingOn t = headingOn s := by
  simp only [headingOn, flag_congr h, fld_congr h']

/-- Four channels have to take part in a solution (07 R216). -/
theorem fixUsable_few {a : Nat} (f g : Option NavFix) (h : (antennaReady s a).length < 4) :
    fixUsable (solveAntenna s a f g).1 (solveAntenna s a f g).2.2 = false := by
  simp [solveAntenna, h, fixUsable]

/-- No more channels are used than an antenna has. -/
theorem solveAntenna_length (s : State) (a : Nat) (f g : Option NavFix) : (solveAntenna s a f g).1.length < 256 := by
  have ready : (antennaReady s a).length ≤ 24 := (List.length_filter_le ..).trans (by simp)
  have some (p : Nat → Bool) : ((antennaReady s a).filter p).length ≤ 24 := (List.length_filter_le ..).trans ready
  unfold solveAntenna
  dsimp only
  split
  · decide
  · split
    · decide
    · split
      · dsimp only
        omega
      · split
        · split
          · exact (some _).trans_lt (by decide)
          · dsimp only
            omega
        · dsimp only
          omega

/-! ### The strobe -/

/-- The solution of antenna A in an epoch; the poisoned result of a faulted operation is none (01 R29, 07 R216). -/
def antennaFix (d : EpochData) (s : State) : List Nat × Option Nat × Option NavFix :=
  solveAntenna s 0 (if resultFaulted s 4 6 then none else d.fixA) (if resultFaulted s 4 6 then none else d.fixA2)

/-- The checks of an epoch, the solution it keeps, and its heading step. -/
def epochChecked (conds : List (Bool × Nat)) (d : EpochData) (f : Gnss → Gnss) (b : Option BaselineFix) (s : State) :
    State × List (Nat × Nat) :=
  headingStep b (keepAgc d (updGnss f (runChecks conds s).1))

theorem epochChecked_leaves (conds : List (Bool × Nat)) (d : EpochData) {f : Gnss → Gnss} (b : Option BaselineFix) (s : State)
    (hf : ∀ u, epochOf (updGnss f u) = epochOf u) :
    onlyChanges [.gnss] [0x4014, 0x4015, 0x4016].contains s (epochChecked conds d f b s).1 ∧
    epochOf (epochChecked conds d f b s).1 = epochOf s ∧ (∀ e ∈ (epochChecked conds d f b s).2, e.1 < 128) ∧
    (headingOn s = false → (epochChecked conds d f b s).1.gnss.heading = 0 ∧ rd (epochChecked conds d f b s).1 0x4014 = 0) := by
  obtain ⟨checkOnly, -⟩ := runChecks_only conds s
  obtain ⟨epoch, -, -⟩ := shownOf_parts (shownOf_runChecks conds s)
  have before : onlyChanges [.gnss] [0x4015, 0x4016].contains s (keepAgc d (updGnss f (runChecks conds s).1)) :=
    (keepAgc_only ..).step ((updGnss_only ..).step checkOnly)
  obtain ⟨headingOnly, events⟩ := headingStep_only b (keepAgc d (updGnss f (runChecks conds s).1))
  refine ⟨headingOnly.step (before.step .refl), ?_, events, fun off => headingStep_off b ?_⟩
  · exact (epochOf_headingStep ..).trans ((hf _).trans epoch)
  · rw [headingOn_congr (before.rd rfl) (before.rd rfl), off]

/-- FIX_STATE of both antennas, and what the epoch used of their channels. -/
def epochShown (va vb : Bool) (pa pb : Nat) (a b : List Nat × Option Nat × Option NavFix) (hdg : List Nat) (s : State) : State :=
  markChans 1 b.1 b.2.1 b.2.2 hdg (markChans 0 a.1 a.2.1 a.2.2 hdg
    (showFix 1 vb b.1.length pb (showFix 0 va a.1.length pa s).1).1)

theorem epochShown_leaves (va vb : Bool) (pa pb : Nat) (a b : List Nat × Option Nat × Option NavFix) (hdg : List Nat) (s : State) :
    onlyChanges [.gnss] [0x4012, 0x4013].contains s (epochShown va vb pa pb a b hdg s) ∧
    shownOf (epochShown va vb pa pb a b hdg s) = shownOf s ∧ flag (epochShown va vb pa pb a b hdg s) 0x4012 0 = va ∧
    (a.1.length < 256 → fld (epochShown va vb pa pb a b hdg s) 0x4012 15 8 = a.1.length) := by
  obtain ⟨valid, used⟩ := showFix_word 0 va a.1.length pa s
  have after : onlyChanges [.gnss] (· == 0x4013) (showFix 0 va a.1.length pa s).1 (epochShown va vb pa pb a b hdg s) :=
    (markChans_only ..).step ((markChans_only ..).step ((showFix_only ..).step .refl))
  have word : rd (epochShown va vb pa pb a b hdg s) 0x4012 = rd (showFix 0 va a.1.length pa s).1 0x4012 := after.rd rfl
  refine ⟨after.step ((showFix_only ..).step .refl), ?_, (flag_congr word).trans valid, fun h => (fld_congr word).trans (used h)⟩
  rw [epochShown, shownOf_markChans, shownOf_markChans, shownOf_congr (showFix_gnss ..), shownOf_congr (showFix_gnss ..)]

/-- The end of an epoch: the records of sources 0 to 2, the first fix of a start, the events, the time solution, and the operations
that complete. -/
def epochEnd (va vb vh : Bool) (ra rb rh : SampleRec) (gps : Option Int) (n : Nat) (l : List (Nat × Nat)) (s : State) : State :=
  let st := firstFix (va || vb) (sourceRecord 2 vh rh (sourceRecord 1 vb rb (sourceRecord 0 va ra s)))
  operationDone 4 6 (operationDone 4 4 (timeSolution gps n (raiseAll (l ++ st.2) st.1)))

/-- The identifiers that the end of an epoch writes. -/
def endIds (id : Nat) : Bool := anyEventId id || [0x4018, slotId 0 10, slotId 1 10].contains id

@[simp] theorem endIds_apply (id : Nat) : endIds id = (anyEventId id || [0x4018, slotId 0 10, slotId 1 10].contains id) := rfl

theorem epochEnd_leaves (va vb vh : Bool) (ra rb rh : SampleRec) (gps : Option Int) (n : Nat) {l : List (Nat × Nat)}
    (known : ∀ e ∈ l, e.1 < 128) (s : State) :
    onlyChanges epochParts endIds s (epochEnd va vb vh ra rb rh gps n l s) ∧
    shownOf (epochEnd va vb vh ra rb rh gps n l s) = shownOf s ∧
    (va = true → flag s (srcId 0 0) 0 = true → (srcUnit (epochEnd va vb vh ra rb rh gps n l s) 0).buf.getLast? = some ra) := by
  unfold epochEnd
  extract_lets st
  obtain ⟨fixOnly, fixEvents⟩ : _ ∧ ∀ e ∈ st.2, e.1 < 128 := firstFix_only _ _
  have events : ∀ e ∈ l ++ st.2, e.1 < 128 := List.forall_mem_append.2 ⟨known, fixEvents⟩
  have recorded : onlyChanges [.src] noId s (sourceRecord 2 vh rh (sourceRecord 1 vb rb (sourceRecord 0 va ra s))) :=
    (sourceRecord_only ..).step ((sourceRecord_only ..).step ((sourceRecord_only ..).step .refl))
  have ended : onlyChanges [.time, .line, .ev, .yards] endIds st.1
      (operationDone 4 6 (operationDone 4 4 (timeSolution gps n (raiseAll (l ++ st.2) st.1)))) :=
    (operationDone_only ..).step ((operationDone_only ..).step ((timeSolution_only ..).step (.raiseAll .refl events)))
  refine ⟨ended.step (fixOnly.step (recorded.step .refl)), ?_, fun valid enabled => ?_⟩
  · rw [shownOf_congr (ended.part .gnss), shownOf_firstFix, shownOf_congr (recorded.part .gnss)]
  · have kept := (ended.part .src).trans (fixOnly.part .src)
    subst valid
    rw [srcUnit, kept, ← srcUnit]
    exact (congrArg (fun u : SrcUnit => u.buf.getLast?) ((srcUnit_sourceRecord_other (q := 0) (p := 2) (by decide) ..).trans
      (srcUnit_sourceRecord_other (q := 0) (p := 1) (by decide) ..))).trans (sourceRecord_latest (q := 0) enabled ra)

/-- What a strobe of a tick that is due leaves. -/
theorem execEpochStrobe_strobes (d : EpochData) (hr : gnssRuns (advance c s) = true) (hb : blockDown s 4 6 = false)
    (hk : s.gnss.tick = some k) (hd : s.gnss.tickDue = true)
    (hc : (advance c s).clk.cycle = k + 500002 ∨ (advance c s).clk.cycle = k + 500003) :
    ∃ t, execEpochStrobe c d s = .next t ∧ epochOf t = ((advance c s).clk.cycle, false, s.gnss.cfg) ∧
      (fixUsable (antennaFix d s).1 (antennaFix d s).2.2 = false → flag t 0x4012 0 = false) ∧
      (headingOn s = false → t.gnss.heading = 0 ∧ rd t 0x4014 = 0) ∧
      ∀ f, (antennaFix d s).2.2 = some f → fixUsable (antennaFix d s).1 (antennaFix d s).2.2 = true →
        s.gnss.cfg.spoof = false → flag t 0x4012 0 = true ∧ fld t 0x4012 15 8 = (antennaFix d s).1.length ∧
        t.gnss.pos = some (f.lat, f.lon) ∧ (flag s (srcId 0 0) 0 = true → (srcUnit t 0).buf.getLast? =
          some ⟨(advance c s).clk.cycle, k, none, f.lat, f.lon, 0, 0, none⟩) := by
  unfold execEpochStrobe
  extract_lets s0 good sound a b uA uB src clock gps s1 ck due
  have hg : s0.gnss = s.gnss := advance_gnss c s
  have ha : a = antennaFix d s := by
    have intact : good = !resultFaulted s 4 6 := congrArg (!·) (resultFaulted_advance ..)
    simp only [a, sound, intact, s0, antennaFix, solveAntenna_advance]
    cases resultFaulted s 4 6 <;> rfl
  rw [if_neg (by simp [s0, hr, blockDown_advance, hb, hd])]
  split
  next untimed => simp [hg, hk] at untimed
  next k' timed =>
  obtain rfl : k = k' := by simpa [hg, hk] using timed
  extract_lets s2 h flagged va vb fa fb hdg s3 raim ev s4 s5 rec_ azim vh s6 st u
  rw [if_neg (by simp only [s0]; omega)]
  -- Up to the heading step the tick is used up, and of the registers only CHECK_STATE, HEADING_STATE and sticky bits are written.
  have strobed : onlyChanges [.gnss] noId s s1 := .set rfl (.advance .refl)
  obtain ⟨checkedOnly, epoch, headingEvents, off⟩ : onlyChanges [.gnss] [0x4014, 0x4015, 0x4016].contains s1 h.1 ∧
      epochOf h.1 = epochOf s1 ∧ (∀ e ∈ h.2, e.1 < 128) ∧ (headingOn s1 = false → h.1.gnss.heading = 0 ∧ rd h.1 0x4014 = 0) :=
    epochChecked_leaves (checkConds s1 d clock gps) d _ s1 fun _ => rfl
  have headed : onlyChanges [.gnss] [0x4014, 0x4015, 0x4016].contains s h.1 := checkedOnly.step (strobed.step .refl)
  have epoch1 : epochOf s1 = ((advance c s).clk.cycle, false, s.gnss.cfg) := by
    rw [← hg]
    rfl
  -- FIX_STATE is written with the channels marked; after it come RAIM's sticky bit and the module's position.
  obtain ⟨shownOnly, shown3, valid3, used3⟩ : onlyChanges [.gnss] [0x4012, 0x4013].contains h.1 s3 ∧ shownOf s3 = shownOf h.1 ∧
      flag s3 0x4012 0 = va ∧ (a.1.length < 256 → fld s3 0x4012 15 8 = a.1.length) := epochShown_leaves va vb _ _ a b hdg h.1
  have stuck : onlyChanges [] (· == 0x4016) s3 s4 := .ite .refl (.sticky .refl)
  have placed : onlyChanges [.gnss] (· == 0x4016) s3 s5 := .set rfl (stuck.step .refl)
  have raimEvents (i x) : ∀ e ∈ raim i x, e.1 < 128 := by cases x <;> simp [raim]
  have events : ∀ e ∈ due ++ ck.2 ++ h.2 ++ fa.2 ++ fb.2 ++ ev, e.1 < 128 := by
    simp only [List.forall_mem_append]
    exact ⟨⟨⟨⟨⟨eventsWhen_lt (by simp), (runChecks_only _ s1).2⟩, headingEvents⟩, showFix_events _ _ _ _ _⟩, showFix_events _ _ _ _ _⟩,
      List.forall_mem_append.2 ⟨raimEvents _ _, raimEvents _ _⟩⟩
  have left := epochEnd_leaves va vb vh (rec_ a.2.2) (rec_ b.2.2) ⟨s0.clk.cycle, k, none, 0, 0, azim, 0, none⟩
    (if va || vb then gps else none) (if va then a.1.length else b.1.length) events s5
  generalize hF : epochEnd va vb vh (rec_ a.2.2) (rec_ b.2.2) ⟨s0.clk.cycle, k, none, 0, 0, azim, 0, none⟩
    (if va || vb then gps else none) (if va then a.1.length else b.1.length) _ s5 = F at left
  obtain ⟨endOnly, ended, record⟩ := left
  refine ⟨F, by rw [← hF]; rfl, ?_⟩
  obtain ⟨epochF, headingF, posF⟩ := shownOf_parts ended
  obtain ⟨epoch4, heading4, -⟩ := shownOf_parts ((shownOf_congr (stuck.part .gnss)).trans shown3)
  have fixWord := (endOnly.rd (id := 0x4012) rfl).trans (placed.rd rfl)
  have headingWord := (endOnly.rd (id := 0x4014) rfl).trans ((placed.rd rfl).trans (shownOnly.rd rfl))
  refine ⟨epochF.trans (epoch4.trans (epoch.trans epoch1)), fun few => ?_, fun unset => ?_, fun f hf usable spoof => ?_⟩
  · have unusable : uA = false := by
      dsimp only [uA]
      rwa [ha]
    refine (flag_congr fixWord).trans (valid3.trans ?_)
    dsimp only [va]
    rw [unusable, Bool.false_and]
  · obtain ⟨state, word⟩ := off ((headingOn_congr (strobed.rd rfl) (strobed.rd rfl)).trans unset)
    exact ⟨headingF.trans (heading4.trans state), headingWord.trans word⟩
  · have ignored : h.1.gnss.cfg.spoof = false := (congrArg (·.2.2.spoof) (epoch.trans epoch1)).trans spoof
    have valid : va = true := by
      simp only [va, flagged, ignored, Bool.false_and, Bool.not_false, Bool.and_true, uA, ha, usable]
    have fix : a.2.2 = some f := ha ▸ hf
    refine ⟨(flag_congr fixWord).trans (valid3.trans valid), ?_, posF.trans ?_, fun enabled => (record valid ?_).trans ?_⟩
    · rw [fld_congr fixWord, used3 (ha ▸ solveAntenna_length ..), ha]
    · simp [s5, fix, valid]
    · rw [flag_congr (placed.rd rfl), flag_congr (shownOnly.rd rfl), flag_congr (headed.rd rfl), enabled]
    · simp [rec_, fix, s0]

end

/-- Settles O45: the strobe by what each part of the epoch leaves of the tick, of antenna A's fix, of source 0 and of the heading. -/
theorem gnssEpochs : Obligations.GnssEpochs := by
  unfold Obligations.GnssEpochs
  refine ⟨fun c k d s hr hb hk hd hc => ?_, fun c k d l x f s hr hb hk hd hc intact solved four pdop spoof => ?_⟩
  · obtain ⟨t, ht, epoch, few, off, -⟩ := execEpochStrobe_strobes d hr hb hk hd hc
    refine ⟨t, ht, congrArg (·.1) epoch, congrArg (·.2.1) epoch, fun short => few (fixUsable_few _ _ short), off⟩
  · have fixed : antennaFix d s = (l, x, some f) := by
      simpa [antennaFix, intact] using solved
    obtain ⟨t, ht, -, -, -, valid⟩ := execEpochStrobe_strobes d hr hb hk hd hc
    rw [fixed] at valid
    exact ⟨t, ht, valid f rfl (by simp [fixUsable, four, pdop]) spoof⟩

end Sys2Proof.Machine
end

section
/-! SUPPORT. What the requests of the control law store (08 R238, R240, R252, R254, R258, R259), and O21. -/
set_option Elab.async false

namespace Sys2Proof.Machine

section
variable {r : Req} {p : List Byte} {s : State} {id : Nat}

/-! ### Fields of a stored word -/

theorem fld_of_rd_ofNat {n : Nat} (h : rd s id = BitVec.ofNat 32 n) (hi lo : Nat) :
    fld s id hi lo = n % 2 ^ 32 / 2 ^ lo % 2 ^ (hi + 1 - lo) := by
  rw [fld, h, bitsOf, BitVec.toNat_ofNat, Nat.shiftRight_eq_div_pow]

theorem flag_of_rd_ofNat {n : Nat} (h : rd s id = BitVec.ofNat 32 n) {i : Nat} (hi : i < 32) :
    flag s id i = decide (n / 2 ^ i % 2 = 1) := by
  rw [flag, h, bitOf, BitVec.getLsbD_ofNat, decide_eq_true hi, Bool.true_and, Nat.testBit_eq_decide_div_mod_eq]

/-! ### MODE_SET -/

/-- The fields of the mode stall after the commit of an undegraded mode (08 R235). -/
theorem writeMode_fields {m preset : Nat} (hm : m < 8) (hp : preset < 4) (auto : Bool) (cause : Nat) (s : State) :
    fld (writeMode m auto preset false cause s) 0x2000 2 0 = m ∧ flag (writeMode m auto preset false cause s) 0x2000 3 = auto ∧
    fld (writeMode m auto preset false cause s) 0x2000 5 4 = preset ∧
    flag (writeMode m auto preset false cause s) 0x2000 6 = false := by
  have word := rd_writeMode m auto preset false cause s
  have bit : b2n auto ≤ 1 := by cases auto <;> decide
  have degr : b2n false = 0 := rfl
  rw [fld_of_rd_ofNat word, fld_of_rd_ofNat word, flag_of_rd_ofNat word (by decide), flag_of_rd_ofNat word (by decide), degr]
  refine ⟨by omega, ?_, by omega, decide_eq_false (by omega)⟩
  cases auto
  · exact decide_eq_false (by omega)
  · have on : b2n true = 1 := rfl
    exact decide_eq_true (by omega)

theorem writeMode_modeAt (m : Nat) (auto : Bool) (preset : Nat) (degr : Bool) (cause : Nat) (s : State) :
    (writeMode m auto preset degr cause s).ctl.modeAt = some s.clk.beat :=
  congrArg Control.modeAt (raiseIf_ctl ..)

/-- The push that a MODE_SET stores with the mode, where it brings one. -/
def pushStored (p : List Byte) (s : State) : State :=
  if byteAt p 7 = 1 then wr s 0x2010 (BitVec.ofNat 32 (leAt p 4 2 + 65536 * byteAt p 6)) else s

/-- The gain matrices of an expert MODE_SET, by identifier. -/
def gainWords (p : List Byte) : List (Nat × Word) := (List.range 27).map fun i => (0x2040 + i, wordAt p (8 + 4 * i))

/-- What a MODE_SET stores before the mode: its push and, in the expert form, its matrices (08 R238). -/
def modeStored (expert : Bool) (p : List Byte) (s : State) : State :=
  if expert then wrAll (pushStored p s) (gainWords p) else pushStored p s

theorem modeSet_commit (expert : Bool) (code : Nat) (port : Fin 2) (p : List Byte) (s : State) :
    (modeSet expert code).commit port p s =
      okData (writeMode (byteAt p 0) (byteAt p 1 % 2 == 1) (presetOf s p) false port.val (modeStored expert p s)) [] := rfl

theorem pushStored_only (p : List Byte) (s : State) : onlyChanges [] (· == 0x2010) s (pushStored p s) :=
  .opt .refl fun _ => .wr .refl

theorem modeStored_only (expert : Bool) (p : List Byte) (s : State) :
    onlyChanges [.poison] (fun id => id == 0x2010 || idsIn 0x2040 0x205A id) s (modeStored expert p s) :=
  .opt ((pushStored_only ..).step .refl) fun _ => .wrAll .refl (by simp +contextual [gainWords, idsIn]; omega)

theorem modeStored_beat (expert : Bool) (p : List Byte) (s : State) : (modeStored expert p s).clk.beat = s.clk.beat :=
  beat_of_same ((modeStored_only expert p s).part .clk)

theorem gainWords_distinct (p : List Byte) : ((gainWords p).map (·.1)).Nodup := by
  rw [gainWords, List.map_map]
  exact List.nodup_range.map fun _ _ h => Nat.add_left_cancel h

theorem gainWords_mem (p : List Byte) (k : Fin 27) : (0x2040 + k.val, wordAt p (8 + 4 * k.val)) ∈ gainWords p :=
  List.mem_map.2 ⟨k.val, List.mem_range.2 k.isLt, rfl⟩

theorem modeStored_gain (p : List Byte) (s : State) (k : Fin 27) :
    rd (modeStored true p s) (0x2040 + k.val) = wordAt p (8 + 4 * k.val) := by
  rw [modeStored, if_pos rfl]
  exact rd_wrAll (gainWords_distinct p) (gainWords_mem p k) _

theorem modeStored_push (p : List Byte) (s : State) (h : byteAt p 7 = 1) : fld (modeStored false p s) 0x2010 15 0 = leAt p 4 2 := by
  have word : rd (modeStored false p s) 0x2010 = BitVec.ofNat 32 (leAt p 4 2 + 65536 * byteAt p 6) := by
    simp [modeStored, pushStored, h]
  have fits := leAt_two_lt p 4
  rw [fld_of_rd_ofNat word]
  omega

theorem presetOf_lt (s : State) (p : List Byte) : presetOf s p < 4 := by
  unfold presetOf
  split
  · exact fld_lt s 0x2000 5 4
  · omega

theorem presetOf_commitState (o : OpSpec) (r : Req) (s : State) (p : List Byte) : presetOf (commitState o r s) p = presetOf s p := by
  rw [presetOf, fld_congr (rd_congr (commitState_regs ..) _), presetOf]

/-- The field checks of MODE_SET bound the mode; the expert form takes its own matrices alone (08 R238). -/
theorem modeSet_checked {expert : Bool} {code : Nat} {port : Fin 2} (h : (modeSet expert code).check port p s = none) :
    byteAt p 0 ≤ 5 ∧ (expert = true → byteAt p 1 / 2 % 4 = 3 ∧ byteAt p 1 / 8 % 2 ≠ 1) := by
  have fields : firstBad (modeFields expert p) = none := by
    simp only [modeSet] at h
    split at h
    · cases h
    next passed => exact passed
  have passed := firstBad_eq_none fields
  simp only [modeFields, List.forall_mem_append, List.forall_mem_cons, Bool.and_eq_true, decide_eq_true_eq] at passed
  obtain ⟨⟨mode, ⟨-, form⟩, -⟩, -⟩ := passed
  refine ⟨mode, fun he => ?_⟩
  simpa [he] using form

/-- A served MODE_SET leaves the mode stall as it was committed, with the beat of its commit. -/
theorem serve_modeSet {expert : Bool} {code : Nat} (h : served (modeSet expert code) r s = true) :
    fld (serve (modeSet expert code) r s) 0x2000 2 0 = byteAt r.payload 0 ∧
    flag (serve (modeSet expert code) r s) 0x2000 3 = (byteAt r.payload 1 % 2 == 1) ∧
    fld (serve (modeSet expert code) r s) 0x2000 5 4 = presetOf s r.payload ∧
    flag (serve (modeSet expert code) r s) 0x2000 6 = false ∧
    (serve (modeSet expert code) r s).ctl.modeAt = some s.clk.beat := by
  obtain ⟨mode, -⟩ := modeSet_checked (served_check h)
  have left := serve_ok_only h (modeSet_commit ..)
  have stall := left.rd (noId_apply 0x2000)
  rw [fld_congr stall, flag_congr stall, fld_congr stall, flag_congr stall, show (serve _ r s).ctl = _ from left.part .ctl,
    writeMode_modeAt, modeStored_beat, beat_commitState, presetOf_commitState]
  obtain ⟨stored, auto, preset, degr⟩ := writeMode_fields (Nat.lt_of_le_of_lt mode (by decide)) (presetOf_lt s r.payload)
    (byteAt r.payload 1 % 2 == 1) r.head.port.val (modeStored expert r.payload (commitState (modeSet expert code) r s))
  exact ⟨stored, auto, preset, degr, rfl⟩

/-- Beside the mode stall and the event of its change, a served MODE_SET leaves the words that it stored before. -/
theorem rd_serve_modeSet {expert : Bool} {code : Nat} (h : served (modeSet expert code) r s = true)
    (hid : id ∉ 0x2000 :: eventIds 64) : rd (serve (modeSet expert code) r s) id =
      rd (modeStored expert r.payload (commitState (modeSet expert code) r s)) id :=
  ((serve_ok_only h (modeSet_commit ..)).rd (noId_apply id)).trans (rd_writeMode_other _ hid)

theorem serve_opModeSetBasic_push (h : served opModeSetBasic r s = true) (hp : byteAt r.payload 7 = 1) :
    fld (serve opModeSetBasic r s) 0x2010 15 0 = leAt r.payload 4 2 :=
  (fld_congr (rd_serve_modeSet h (by decide))).trans (modeStored_push _ _ hp)

theorem serve_opModeSetExpert_preset (h : served opModeSetExpert r s = true) :
    fld (serve opModeSetExpert r s) 0x2000 5 4 = 3 := by
  obtain ⟨-, form⟩ := modeSet_checked (served_check h)
  obtain ⟨own, unkept⟩ := form rfl
  obtain ⟨-, -, preset, -⟩ := serve_modeSet h
  exact preset.trans ((if_neg unkept).trans own)

theorem serve_opModeSetExpert_gain (h : served opModeSetExpert r s = true) (k : Fin 27) :
    rd (serve opModeSetExpert r s) (0x2040 + k.val) = wordAt r.payload (8 + 4 * k.val) :=
  (rd_serve_modeSet h (by simp [eventIds]; omega)).trans (modeStored_gain ..)

/-! ### SETPOINT_SET -/

/-- The position target of a SETPOINT_SET, where its byte 12 takes one (08 R252); it counts as after a mode of the same beat. -/
def positionTaken (p : List Byte) (after : Bool) (s : State) : State :=
  if byteAt p 12 % 2 = 1 then
    updCtl (fun c => { c with posNew := some ⟨wordAt p 0, wordAt p 4, after⟩ })
      (wrAll s [(0x2003, wordAt p 0), (0x2004, wordAt p 4)])
  else s

/-- The heading target of a SETPOINT_SET, where its byte 12 takes one. -/
def headingTaken (p : List Byte) (after : Bool) (s : State) : State :=
  if byteAt p 12 / 2 = 1 then
    updCtl (fun c => { c with hdgNew := some ⟨wordAt p 8, 0, after⟩ }) (wr s 0x2005 (wordAt p 8))
  else s

/-- A limit of the reference, which zero leaves as it stands (08 R252). -/
def limitTaken (id : Nat) (w : Word) (s : State) : State := if f32IsZero w then s else wr s id w

/-- The state that a SETPOINT_SET commits. -/
def setpointStored (p : List Byte) (s : State) : State :=
  limitTaken 0x2009 (wordAt p 20) (limitTaken 0x2008 (wordAt p 16)
    (headingTaken p (s.ctl.modeAt == some s.clk.beat) (positionTaken p (s.ctl.modeAt == some s.clk.beat) s)))

theorem opSetpointSet_commit (port : Fin 2) (p : List Byte) (s : State) :
    opSetpointSet.commit port p s = okData (setpointStored p s) [] := rfl

theorem limitTaken_only (id : Nat) (w : Word) (s : State) : onlyChanges [] (· == id) s (limitTaken id w s) :=
  .optNot .refl fun _ => .wr .refl

theorem limitTaken_rd {w : Word} (h : f32IsZero w = false) (s : State) : rd (limitTaken id w s) id = w := by
  simp [limitTaken, h]

theorem headingTaken_only (p : List Byte) (after : Bool) (s : State) :
    onlyChanges [.ctl] (· == 0x2005) s (headingTaken p after s) :=
  .opt .refl fun _ => (updCtl_only ..).step (.wr .refl)

theorem headingTaken_posNew (p : List Byte) (after : Bool) (s : State) : (headingTaken p after s).ctl.posNew = s.ctl.posNew := by
  unfold headingTaken
  split <;> rfl

/-- The limits of a SETPOINT_SET leave the targets that it has taken. -/
theorem setpointStored_targets (p : List Byte) (s : State) : onlyChanges [] [0x2008, 0x2009].contains
    (headingTaken p (s.ctl.modeAt == some s.clk.beat) (positionTaken p (s.ctl.modeAt == some s.clk.beat) s))
    (setpointStored p s) :=
  (limitTaken_only ..).step ((limitTaken_only ..).step .refl)

theorem setpointStored_position (h : byteAt p 12 % 2 = 1) (s : State) :
    rd (setpointStored p s) 0x2003 = wordAt p 0 ∧ rd (setpointStored p s) 0x2004 = wordAt p 4 ∧
    (setpointStored p s).ctl.posNew = some ⟨wordAt p 0, wordAt p 4, s.ctl.modeAt == some s.clk.beat⟩ := by
  have kept := setpointStored_targets p s
  have aside := headingTaken_only p (s.ctl.modeAt == some s.clk.beat) (positionTaken p (s.ctl.modeAt == some s.clk.beat) s)
  have taken {id : Nat} {w : Word} (hm : (id, w) ∈ [(0x2003, wordAt p 0), (0x2004, wordAt p 4)]) :
      rd (positionTaken p (s.ctl.modeAt == some s.clk.beat) s) id = w := by
    rw [positionTaken, if_pos h, (updCtl_only ..).rd (noId_apply id)]
    exact rd_wrAll (by simp) hm s
  refine ⟨?_, ?_, ?_⟩
  · rw [kept.rd rfl, aside.rd rfl]
    exact taken (by simp)
  · rw [kept.rd rfl, aside.rd rfl]
    exact taken (by simp)
  · rw [show (setpointStored p s).ctl = _ from kept.part .ctl, headingTaken_posNew, positionTaken, if_pos h]
    rfl

theorem setpointStored_heading (h : byteAt p 12 / 2 = 1) (s : State) :
    rd (setpointStored p s) 0x2005 = wordAt p 8 ∧
    (setpointStored p s).ctl.hdgNew = some ⟨wordAt p 8, 0, s.ctl.modeAt == some s.clk.beat⟩ := by
  have kept := setpointStored_targets p s
  refine ⟨?_, ?_⟩
  · rw [kept.rd rfl, headingTaken, if_pos h, (updCtl_only ..).rd (noId_apply _), rd_wr_same]
  · rw [show (setpointStored p s).ctl = _ from kept.part .ctl, headingTaken, if_pos h]
    rfl

theorem setpointStored_limits (p : List Byte) (s : State) :
    (f32IsZero (wordAt p 16) = false → rd (setpointStored p s) 0x2008 = wordAt p 16) ∧
    (f32IsZero (wordAt p 20) = false → rd (setpointStored p s) 0x2009 = wordAt p 20) :=
  ⟨fun h => ((limitTaken_only ..).rd rfl).trans (limitTaken_rd h _), fun h => limitTaken_rd h _⟩

/-- A served SETPOINT_SET leaves the targets and limits that it takes. -/
theorem serve_opSetpointSet (h : served opSetpointSet r s = true) :
    (byteAt r.payload 12 % 2 = 1 → rd (serve opSetpointSet r s) 0x2003 = wordAt r.payload 0 ∧
      rd (serve opSetpointSet r s) 0x2004 = wordAt r.payload 4 ∧ (serve opSetpointSet r s).ctl.posNew =
        some ⟨wordAt r.payload 0, wordAt r.payload 4, s.ctl.modeAt == some s.clk.beat⟩) ∧
    (byteAt r.payload 12 / 2 = 1 → rd (serve opSetpointSet r s) 0x2005 = wordAt r.payload 8 ∧
      (serve opSetpointSet r s).ctl.hdgNew = some ⟨wordAt r.payload 8, 0, s.ctl.modeAt == some s.clk.beat⟩) ∧
    (f32IsZero (wordAt r.payload 16) = false → rd (serve opSetpointSet r s) 0x2008 = wordAt r.payload 16) ∧
    (f32IsZero (wordAt r.payload 20) = false → rd (serve opSetpointSet r s) 0x2009 = wordAt r.payload 20) := by
  have left := serve_ok_only h (opSetpointSet_commit ..)
  have ctl : (serve opSetpointSet r s).ctl = (setpointStored r.payload (commitState opSetpointSet r s)).ctl := left.part .ctl
  have position := fun take => setpointStored_position (p := r.payload) take (commitState opSetpointSet r s)
  have heading := fun take => setpointStored_heading (p := r.payload) take (commitState opSetpointSet r s)
  rw [commitState_ctl, beat_commitState] at position heading
  simp only [left.rd (noId_apply _), ctl]
  exact ⟨position, heading, setpointStored_limits ..⟩

/-! ### Joystick, berth push, track and loss modes -/

theorem serve_opJoystickSet (h : served opJoystickSet r s = true) : (serve opJoystickSet r s).ctl.joyNew =
    some [wordAt r.payload 0, wordAt r.payload 4, wordAt r.payload 8] :=
  congrArg Control.joyNew ((serve_ok_only (d := []) h rfl).part .ctl)

/-- A served BERTH_PUSH_SET leaves push, side and ramp; its checks bound SIDE to one bit (08 R258). -/
theorem serve_opBerthPushSet (h : served opBerthPushSet r s = true) :
    fld (serve opBerthPushSet r s) 0x2010 15 0 = leAt r.payload 0 2 ∧
    fld (serve opBerthPushSet r s) 0x2010 16 16 = byteAt r.payload 2 ∧
    fld (serve opBerthPushSet r s) 0x2011 15 0 = leAt r.payload 4 2 := by
  have passed := firstBad_eq_none (served_check h)
  simp only [List.forall_mem_cons, Bool.and_eq_true, decide_eq_true_eq] at passed
  obtain ⟨-, ⟨side, -⟩, -⟩ := passed
  have force := leAt_two_lt r.payload 0
  have left {id : Nat} := (serve_ok_only (d := []) h rfl).rd (noId_apply id)
  have word : rd (serve opBerthPushSet r s) 0x2010 = BitVec.ofNat 32 (leAt r.payload 0 2 + 65536 * byteAt r.payload 2) :=
    left.trans ((rd_wrFld_other _ _ _ _ (by decide)).trans (rd_wr_same ..))
  refine ⟨?_, ?_, ?_⟩
  · rw [fld_of_rd_ofNat word]
    omega
  · rw [fld_of_rd_ofNat word]
    omega
  · exact (fld_congr left).trans ((fld_wrFld_same _ _ _ _ _ (by decide)).trans (Nat.mod_eq_of_lt (leAt_two_lt ..)))

/-- A served TRACK_LOAD leaves its waypoints for the next beat and TRACK_STATE of a loaded track; the checks hold the number of
waypoints from 1 to 64 (08 R259). -/
theorem serve_opTrackLoad (h : served opTrackLoad r s = true) :
    (serve opTrackLoad r s).ctl.trackNew =
      some ((List.range (leAt r.payload 0 2)).map (waypointAt r.payload), byteAt r.payload 2) ∧
    flag (serve opTrackLoad r s) 0x2101 7 = true ∧ fld (serve opTrackLoad r s) 0x2101 14 8 = leAt r.payload 0 2 := by
  have passed := firstBad_eq_none (served_check h)
  simp only [List.forall_mem_append, List.forall_mem_cons, Bool.and_eq_true, decide_eq_true_eq] at passed
  obtain ⟨⟨⟨least, most⟩, -⟩, -⟩ := passed
  have left := serve_ok_only (d := []) h rfl
  have word : rd (serve opTrackLoad r s) 0x2101 = trackWord (byteAt r.payload 2) (leAt r.payload 0 2) false :=
    (left.rd (noId_apply _)).trans (((updCtl_only ..).rd (noId_apply _)).trans (rd_wr_same ..))
  simp only [trackWord, b2n, decide_eq_true (Nat.lt_of_succ_le least), if_true, Bool.false_eq_true, if_false] at word
  refine ⟨congrArg Control.trackNew (left.part .ctl), ?_, ?_⟩
  · rw [flag_of_rd_ofNat word (by decide)]
    exact decide_eq_true (by omega)
  · rw [fld_of_rd_ofNat word]
    omega

theorem serve_opLossModeSet (h : served opLossModeSet r s = true) : rd (serve opLossModeSet r s) 0x2001 =
    BitVec.ofNat 32 (byteAt r.payload 0 + 4 * byteAt r.payload 1 + 8 * byteAt r.payload 2) :=
  ((serve_ok_only (d := []) h rfl).rd (noId_apply _)).trans (rd_wr_same ..)

end

/-- Settles O21. A served request leaves what its commit stores: the checks hold its fields to the widths of their registers, and neither
the event of a mode's change nor the reply touches them. -/
theorem controlRequests : Obligations.ControlRequests := by
  refine ⟨?basic, ?expert, ?setpoint, ?joystick, ?berth, ?track, ?loss⟩
  case basic =>
    intro r s p h
    obtain ⟨mode, auto, preset, degr, beat⟩ := serve_modeSet h
    exact ⟨_, exec_served rfl h, mode, auto, preset, degr, beat, serve_opModeSetBasic_push h⟩
  case expert =>
    intro r s p h
    obtain ⟨mode, -⟩ := serve_modeSet h
    exact ⟨_, exec_served rfl h, mode, serve_opModeSetExpert_preset h, serve_opModeSetExpert_gain h⟩
  case setpoint => exact fun r s h => ⟨_, exec_served rfl h, serve_opSetpointSet h⟩
  case joystick => exact fun r s h => ⟨_, exec_served rfl h, serve_opJoystickSet h⟩
  case berth => exact fun r s h => ⟨_, exec_served rfl h, serve_opBerthPushSet h⟩
  case track => exact fun r s h => ⟨_, exec_served rfl h, serve_opTrackLoad h⟩
  case loss => exact fun r s h => ⟨_, exec_served rfl h, serve_opLossModeSet h⟩

end Sys2Proof.Machine
end

section
/-! SUPPORT. What the requests of thrust allocation store (09 R287, R290-R293, 10 R310), and O23. -/
set_option Elab.async false

namespace Sys2Proof.Machine

section
variable {o : OpSpec} {r : Req} {p : List Byte} {port : Fin 2} {s t u : State}

/-! ### Axes of a thruster -/

theorem thrusterAxes_lt {regs : Regs} {n a : Nat} (h : a ∈ thrusterAxes regs n) : a < 48 := by
  simp only [thrusterAxes, thrAxes, List.mem_map, List.mem_filterMap] at h
  obtain ⟨_, ⟨v, -, hv⟩, rfl⟩ := h
  split at hv
  next fits =>
    cases hv
    exact fits
  · cases hv

/-- A change that is made once for all, made of each listed axis: an axis that is listed twice is changed as one listed once. -/
theorem axisAt_foldl_updAxis {f : AxisUnit → AxisUnit} (once : ∀ x, f (f x) = f x) (l : List Nat) (s : State) (a : Fin 48) :
    axisAt (l.foldl (fun s b => updAxis b f s) s) a.val = if a.val ∈ l then f (axisAt s a.val) else axisAt s a.val := by
  induction l generalizing s with
  | nil => simp
  | cons b l ih =>
    rw [List.foldl_cons, ih]
    by_cases e : b = a.val
    · simp [e, axisAt_updAxis_same, once]
    · simp [axisAt_updAxis_other _ _ e, Ne.symm e]

theorem blockDown_congr (h : t.regs = s.regs) (y b : Nat) : blockDown t y b = blockDown s y b := by
  simp only [blockDown, yardFenced, yardState, blockFenced, fld_congr (rd_congr h _), flag_congr (rd_congr h _)]

theorem standingCode_congr (h : t.regs = s.regs) (a : Nat) (x : AxisUnit) : standingCode t a x = standingCode s a x := by
  simp only [standingCode, blockDown_congr h]

theorem enableRow_congr (hr : t.regs = s.regs) (hs : t.servo = s.servo) (a : Nat) : enableRow t a = enableRow s a := by
  simp only [enableRow, standingCode_congr hr, axisAt_congr (congrArg Servo.axes hs)]

theorem enableRow_commitState (o : OpSpec) (r : Req) (s : State) (a : Nat) : enableRow (commitState o r s) a = enableRow s a :=
  enableRow_congr (commitState_regs ..) (commitState_servo ..) a

/-! ### THRUSTER_ENABLE and THRUSTER_DISABLE -/

/-- An axis whose thruster is enabled (10 R310). -/
def AxisUnit.taken (x : AxisUnit) : AxisUnit :=
  { x with reqNew := some ⟨true, true, x.state == 4⟩, code := if x.state = 4 then 0 else x.code }

/-- An axis whose thruster waits to be enabled (10 R310). -/
def AxisUnit.waiting (x : AxisUnit) : AxisUnit :=
  { x with pend := true, pendThr := true, reqNew := none, code := if x.state = 4 then 0 else x.code }

theorem AxisUnit.taken_taken (x : AxisUnit) : x.taken.taken = x.taken := by
  unfold taken
  dsimp only
  split <;> rfl

theorem AxisUnit.waiting_waiting (x : AxisUnit) : x.waiting.waiting = x.waiting := by
  unfold waiting
  dsimp only
  split <;> rfl

theorem requestEnable_thruster (a : Nat) (s : State) : requestEnable true a s = updAxis a AxisUnit.taken s := rfl

theorem pendEnable_thruster (a : Nat) (s : State) : pendEnable true a s = updAxis a AxisUnit.waiting s := by
  simp only [pendEnable, Bool.not_true, Bool.and_false, Bool.false_eq_true, if_false]
  rfl

/-- The state that a THRUSTER_ENABLE commits where every axis takes it (09 R287). -/
def thrusterTaken (n : Nat) (s : State) : State :=
  setThr n (fun _ => .on) ((thrusterAxes s.regs n).foldl (fun s a => requestEnable true a s) s)

/-- The state that a THRUSTER_ENABLE commits where an axis makes it wait (10 R310). -/
def thrusterWaiting (n : Nat) (s : State) : State := (thrusterAxes s.regs n).foldl (fun s a => pendEnable true a s) s

/-- The state that a THRUSTER_DISABLE commits. -/
def thrusterShut (n : Nat) (s : State) : State :=
  setThr n (fun u => if u == .on then .shutting else u)
    ((thrusterAxes s.regs n).foldl (fun s a => requestDisable true a s) s)

theorem opThrusterEnable_commit_taken (h : (thrusterAxes u.regs (byteAt p 0)).any (fun a => enableRow u a == .pending) = false) :
    opThrusterEnable.commit port p u = okData (thrusterTaken (byteAt p 0) u) [] := by
  simp only [opThrusterEnable, h]
  rfl

theorem opThrusterEnable_commit_waiting (h : (thrusterAxes u.regs (byteAt p 0)).any (fun a => enableRow u a == .pending) = true) :
    opThrusterEnable.commit port p u = ⟨thrusterWaiting (byteAt p 0) u, stPending, byteAt p 0, []⟩ := by
  simp only [opThrusterEnable, h, if_true]
  rfl

theorem thrOk_lt {n : Nat} (h : thrOk s n = true) : n < 16 := by
  simp only [thrOk, Bool.and_eq_true, decide_eq_true_eq] at h
  exact h.1

theorem served_opThrusterEnable_number (h : served opThrusterEnable r s = true) : byteAt r.payload 0 < 16 := by
  have passed := served_check h
  simp only [opThrusterEnable] at passed
  split at passed
  · cases passed
  next checks => exact thrOk_lt (firstBad_none checks).1

theorem served_opThrusterDisable_number (h : served opThrusterDisable r s = true) : byteAt r.payload 0 < 16 :=
  thrOk_lt (firstBad_none (served_check h)).1

theorem vgetD_setThr {n : Nat} (h : n < 16) (f : ThrState → ThrState) (s : State) :
    vgetD (setThr n f s).alc.thr n .off = f (vgetD s.alc.thr n .off) :=
  (vgetD_vupdN_same _ _ _ h).trans (congrArg f (vgetD_of_lt _ _ h).symm)

theorem axisAt_thrusterTaken {n a : Nat} (h : a ∈ thrusterAxes s.regs n) :
    (axisAt (thrusterTaken n s) a).reqNew = some ⟨true, true, (axisAt s a).state == 4⟩ := by
  have taken := axisAt_foldl_updAxis AxisUnit.taken_taken (thrusterAxes s.regs n) s ⟨a, thrusterAxes_lt h⟩
  rw [if_pos h] at taken
  exact congrArg AxisUnit.reqNew taken

theorem axisAt_thrusterWaiting {n a : Nat} (h : a ∈ thrusterAxes s.regs n) : (axisAt (thrusterWaiting n s) a).pend = true := by
  have waits := axisAt_foldl_updAxis AxisUnit.waiting_waiting (thrusterAxes s.regs n) s ⟨a, thrusterAxes_lt h⟩
  rw [if_pos h] at waits
  simp only [thrusterWaiting, pendEnable_thruster]
  exact congrArg AxisUnit.pend waits

theorem thrusterWaiting_only (n : Nat) (s : State) : onlyChanges [.servo] noId s (thrusterWaiting n s) :=
  .foldl .refl fun _ _ _ => pendEnable_only ..

/-- The reply ACCEPTED_PENDING leaves what the commit has left but for the reply's way out and the marker (04 R113). -/
theorem serve_pending_only {n : Nat} {d : List Byte} (h : served o r s = true)
    (hx : o.commit r.head.port r.payload (commitState o r s) = ⟨u, stPending, n, d⟩) :
    onlyChanges [.host, .line, .eth, .twin] [0x1007, 0x1008].contains u (serve o r s) := by
  rw [serve_served h hx, commitDone, if_pos (.inr rfl)]
  exact (respond_only ..).step ((forward_only ..).step .refl)

theorem serve_opThrusterEnable_taken (h : served opThrusterEnable r s = true)
    (ok : (thrusterAxes s.regs (byteAt r.payload 0)).all (fun a => enableRow s a == .ok) = true) :
    vgetD (serve opThrusterEnable r s).alc.thr (byteAt r.payload 0) .off = .on ∧
    ∀ a ∈ thrusterAxes s.regs (byteAt r.payload 0),
      (axisAt (serve opThrusterEnable r s) a).reqNew = some ⟨true, true, (axisAt s a).state == 4⟩ := by
  have free : (thrusterAxes s.regs (byteAt r.payload 0)).any (fun a => enableRow s a == .pending) = false := by
    simp only [List.all_eq_true, beq_iff_eq] at ok
    simp only [List.any_eq_false, beq_iff_eq]
    intro a ha
    simp [ok a ha]
  have left := serve_ok_only h (opThrusterEnable_commit_taken (by simpa [enableRow_commitState] using free))
  have alc : (serve opThrusterEnable r s).alc = _ := left.part .alc
  have servo : (serve opThrusterEnable r s).servo = _ := left.part .servo
  refine ⟨?_, fun a ha => ?_⟩
  · rw [alc]
    exact vgetD_setThr (served_opThrusterEnable_number h) _ _
  · rw [axisAt_congr (congrArg Servo.axes servo), axisAt_thrusterTaken (by rwa [commitState_regs]),
      axisAt_congr (congrArg Servo.axes (commitState_servo ..))]

theorem serve_opThrusterEnable_waiting (h : served opThrusterEnable r s = true)
    (waits : (thrusterAxes s.regs (byteAt r.payload 0)).any (fun a => enableRow s a == .pending) = true) :
    (serve opThrusterEnable r s).alc.thr = s.alc.thr ∧
    ∀ a ∈ thrusterAxes s.regs (byteAt r.payload 0), (axisAt (serve opThrusterEnable r s) a).pend = true := by
  have left := serve_pending_only h (opThrusterEnable_commit_waiting (by simpa [enableRow_commitState] using waits))
  have alc : (serve opThrusterEnable r s).alc = _ := left.part .alc
  have servo : (serve opThrusterEnable r s).servo = _ := left.part .servo
  refine ⟨?_, fun a ha => ?_⟩
  · rw [alc, show (thrusterWaiting _ _).alc = _ from (thrusterWaiting_only ..).part .alc, commitState_alc]
  · rw [axisAt_congr (congrArg Servo.axes servo), axisAt_thrusterWaiting (by rwa [commitState_regs])]

theorem serve_opThrusterDisable (h : served opThrusterDisable r s = true) :
    vgetD (serve opThrusterDisable r s).alc.thr (byteAt r.payload 0) .off =
      if vgetD s.alc.thr (byteAt r.payload 0) .off = .on then .shutting else vgetD s.alc.thr (byteAt r.payload 0) .off := by
  have left := serve_ok_only (u := thrusterShut (byteAt r.payload 0) (commitState opThrusterDisable r s)) (d := []) h rfl
  have requested : onlyChanges [.servo] isAxisState (commitState opThrusterDisable r s)
      ((thrusterAxes (commitState opThrusterDisable r s).regs (byteAt r.payload 0)).foldl (fun s a => requestDisable true a s)
        (commitState opThrusterDisable r s)) := .foldl .refl fun _ _ _ => requestDisable_only ..
  rw [show (serve opThrusterDisable r s).alc = _ from left.part .alc, thrusterShut,
    vgetD_setThr (served_opThrusterDisable_number h), show State.alc _ = _ from requested.part .alc, commitState_alc]
  simp only [beq_iff_eq]

/-! ### Settings of the allocation -/

theorem allocWords_distinct : (allocWords.map (·.1)).Nodup := by decide

theorem regGet_allocBasicRegs_word {id n : Nat} (h : (id, n) ∈ allocWords) (regs : Regs) (p : List Byte) :
    regGet (allocBasicRegs regs p) id = wordAt p n := by
  unfold allocBasicRegs
  exact regGet_foldl_of_mem (l := allocWords) (key := (·.1)) (val := fun x => wordAt p x.2) ⟨(id, n), h, rfl⟩
    (fun _ hx e => congrArg (fun x => wordAt p x.2) (List.inj_on_of_nodup_map allocWords_distinct hx h e)) _

/-- The word of ALLOC_CTRL that a basic ALLOC_CONFIG stores over the word w (09 R290). -/
def allocCtrl (w : Word) (p : List Byte) : Word :=
  putBits (putBits (putBits (putBits w 2 0 (byteAt p 0)) 5 4 (byteAt p 1)) 7 6 (byteAt p 2)) 15 8 (byteAt p 3)

theorem regGet_allocBasicRegs_ctrl (regs : Regs) (p : List Byte) :
    regGet (allocBasicRegs regs p) 0x2480 = allocCtrl (regGet regs 0x2480) p := by
  unfold allocBasicRegs
  dsimp only
  rw [regGet_foldl_regSet allocWords (·.1) (fun _ x => wordAt p x.2) _ _ (by decide), regGet_regSet, if_pos rfl, allocCtrl]

theorem opAllocConfigBasic_checked (h : opAllocConfigBasic.check port p s = none) : byteAt p 0 ≤ 5 ∧ byteAt p 1 ≤ 2 := by
  simp only [opAllocConfigBasic] at h
  split at h
  · cases h
  next passed =>
    obtain ⟨order, rest⟩ := firstBad_none passed
    exact ⟨of_decide_eq_true order, of_decide_eq_true (firstBad_none rest).1⟩

theorem rd_serve_opAllocConfigBasic (h : served opAllocConfigBasic r s = true) (id : Nat) :
    rd (serve opAllocConfigBasic r s) id = regGet (allocBasicRegs s.regs r.payload) id := by
  rw [(serve_ok_only (d := []) h rfl).rd (noId_apply id), rd, commitState_regs]

/-- A served basic ALLOC_CONFIG stores its fields, which its checks hold to the widths of ALLOC_CTRL, and its words (09 R290). -/
theorem serve_opAllocConfigBasic (h : served opAllocConfigBasic r s = true) :
    fld (serve opAllocConfigBasic r s) 0x2480 2 0 = byteAt r.payload 0 ∧
    fld (serve opAllocConfigBasic r s) 0x2480 5 4 = byteAt r.payload 1 ∧
    fld (serve opAllocConfigBasic r s) 0x2480 15 8 = byteAt r.payload 3 ∧
    ∀ id n, (id, n) ∈ allocWords → rd (serve opAllocConfigBasic r s) id = wordAt r.payload n := by
  obtain ⟨order, source⟩ := opAllocConfigBasic_checked (served_check h)
  have age : byteAt r.payload 3 < 256 := (r.payload.getD 3 0).isLt
  refine ⟨?_, ?_, ?_, fun id n hm => (rd_serve_opAllocConfigBasic h id).trans (regGet_allocBasicRegs_word hm ..)⟩
  all_goals
    rw [fld, rd_serve_opAllocConfigBasic h, regGet_allocBasicRegs_ctrl, allocCtrl]
    simp (disch := omega) only [bitsOf_putBits_same, bitsOf_putBits_other, Nat.mod_eq_of_lt]

theorem serve_opAllocConfigExpert (h : served opAllocConfigExpert r s = true) (k : Fin 128) :
    rd (serve opAllocConfigExpert r s) (0x2400 + k.val) = wordAt r.payload (4 * k.val) := by
  have distinct : (((List.range 128).map fun i => (0x2400 + i, wordAt r.payload (4 * i))).map (·.1)).Nodup := by
    rw [List.map_map]
    exact List.nodup_range.map fun _ _ e => Nat.add_left_cancel e
  rw [(serve_ok_only (d := []) h rfl).rd (noId_apply _)]
  exact rd_wrAll distinct (List.mem_map.2 ⟨k.val, List.mem_range.2 k.isLt, rfl⟩) _

/-- A served POWER_LIMIT_SET stores the cap and the ramp cap of each bus, which are 16 bits wide in payload and register (09 R292). -/
theorem serve_opPowerLimitSet (h : served opPowerLimitSet r s = true) (b : Fin 4) :
    fld (serve opPowerLimitSet r s) (0x2490 + 4 * b.val) 15 0 = leAt r.payload (2 * b.val) 2 ∧
    fld (serve opPowerLimitSet r s) (0x2490 + 4 * b.val) 31 16 = leAt r.payload (8 + 2 * b.val) 2 := by
  have cap := leAt_two_lt r.payload (2 * b.val)
  have ramp := leAt_two_lt r.payload (8 + 2 * b.val)
  have word : rd (serve opPowerLimitSet r s) (0x2490 + 4 * b.val) =
      BitVec.ofNat 32 (leAt r.payload (2 * b.val) 2 + 65536 * leAt r.payload (8 + 2 * b.val) 2) := by
    rw [(serve_ok_only (d := []) h rfl).rd (noId_apply _)]
    exact rd_wrAll (by simp [List.range_succ]) (List.mem_map.2 ⟨b.val, List.mem_range.2 b.isLt, rfl⟩) _
  refine ⟨?_, ?_⟩
  · rw [fld_of_rd_ofNat word]
    omega
  · rw [fld_of_rd_ofNat word]
    omega

theorem serve_opCompatModeSet (h : served opCompatModeSet r s = true) :
    flag (serve opCompatModeSet r s) 0x2480 3 = (byteAt r.payload 0 == 1) :=
  (flag_congr ((serve_ok_only (d := []) h rfl).rd (noId_apply _))).trans (flag_wrFlag_same _ _ _ _ (by decide))

end

/-- Settles O23. A served request leaves what its commit stores: an enable that every axis takes switches the thruster on, one that an
axis makes wait leaves it; settings that passed the checks fit their registers. -/
theorem allocationRequests : Obligations.AllocationRequests := by
  refine ⟨?enable, ?waiting, ?disable, ?basic, ?expert, ?limits, ?compat⟩
  case enable => exact fun r s h ok => ⟨_, exec_served rfl h, serve_opThrusterEnable_taken h ok⟩
  case waiting => exact fun r s h waits => ⟨_, exec_served rfl h, serve_opThrusterEnable_waiting h waits⟩
  case disable => exact fun r s h => ⟨_, exec_served rfl h, serve_opThrusterDisable h⟩
  case basic =>
    intro r s p h
    obtain ⟨order, source, age, word⟩ := serve_opAllocConfigBasic h
    exact ⟨_, exec_served rfl h, order, source, age, word _ _ (by decide), word _ _ (by decide), word _ _ (by decide),
      word _ _ (by decide)⟩
  case expert => exact fun r s h => ⟨_, exec_served rfl h, serve_opAllocConfigExpert h⟩
  case limits => exact fun r s h => ⟨_, exec_served rfl h, serve_opPowerLimitSet h⟩
  case compat => exact fun r s h => ⟨_, exec_served rfl h, serve_opCompatModeSet h⟩

end Sys2Proof.Machine
end

section
/-! SUPPORT. What the events of thrust allocation leave (09 R272-R274, R276, R281, R282, R289), and O33. -/
set_option Elab.async false

namespace Sys2Proof.Machine

section
variable {p : AProb} {s t : State}

/-! ### Iterations -/

/-- An iteration of the beat advances the solver on the problem that stands, or on the one that it sets up (09 R276, R278). -/
theorem execAllocIteration_next (hb : s.clk.beats = true) (hd : s.alc.done < 20) : ∃ t, execAllocIteration s = .next t ∧
    t.alc.done = s.alc.done + 1 ∧ t.alc.prob.isSome = true ∧ t.alc.res = s.alc.res ∧
    ∀ p, s.alc.prob = some p → t.alc.prob = some p ∧ t.alc.iter = (ipmStep p s.alc.iter).1 := by
  unfold execAllocIteration
  extract_lets n s1 st r first _
  rw [if_neg (by simp [hb, n, hd])]
  have begun : onlyChanges [.yards] noId s s1 := (stageDone_only ..).step (.advance .refl)
  have alc : s1.alc = s.alc := begun.part .alc
  clear_value s1
  refine ⟨_, rfl, rfl, rfl, (congrArg Alloc.res alc :), fun p hp => ?_⟩
  have standing : st = (p, s.alc.iter) := by simp only [st, alc, hp]
  refine ⟨?_, ?_⟩
  · show some st.1 = some p
    rw [standing]
  · show (ipmStep st.1 st.2).1 = _
    rw [standing]

/-! ### The result -/

theorem verdictDue_eq (hd : s.alc.done = 20) (hb : s.clk.beats = true) (hp : s.alc.prob = some p) : verdictDue s = some p := by
  rw [verdictDue, if_pos ⟨hd, hb⟩, hp]

/-- Which result the beat releases: the fallback's in fallback mode, else the solver's where it is valid (09 R281, R282). -/
def releaseChoice (p : AProb) (a : Alloc) : AChoice :=
  if a.fb then .fallback else if resultValid p a.iter then .solver else .held

theorem resultOf_congr (hs : t.snap = s.snap) (ha : t.alc = s.alc) (hb : t.clk.beat = s.clk.beat) (p : AProb) (valid : Bool)
    (ch : AChoice) : resultOf t p valid ch = resultOf s p valid ch := by
  unfold resultOf resultFlags extract fallbackOf liveMask busPresent sflag
  rw [hs, ha, hb]

theorem resultOf_beat (s : State) (p : AProb) (valid : Bool) (ch : AChoice) : (resultOf s p valid ch).1.beat = s.clk.beat := by
  cases ch <;> rfl

theorem resultOf_solver_x (s : State) (p : AProb) (valid : Bool) :
    (resultOf s p valid .solver).1.x = spread48 p (powerTrim p s.alc.iter.x).1 := rfl

theorem resultOf_held (s : State) (p : AProb) (valid : Bool) :
    (resultOf s p valid .held).1.x = s.alc.rel.x ∧ (resultOf s p valid .held).1.sp = s.alc.rel.sp := ⟨rfl, rfl⟩

theorem resultOf_fallback_x (s : State) (p : AProb) (valid : Bool) :
    (resultOf s p valid .fallback).1.x = (fallbackOf s p).1 := rfl

/-- The registered result of a beat, its register of the beat, and the count of invalid ones (09 R281, R289). -/
theorem execAllocResult_next (due : verdictDue s = some p) : ∃ t r, execAllocResult s = .next t ∧
    r = (resultOf s p (resultValid p s.alc.iter) (releaseChoice p s.alc)).1 ∧ t.alc.res = { r with table := t.alc.res.table } ∧
    rd t 0x24C1 = BitVec.ofNat 32 s.clk.beat ∧ t.alc.prob = none ∧
    t.alc.streak = if resultValid p s.alc.iter then 0 else satAdd 8 s.alc.streak 1 := by
  unfold execAllocResult
  split
  next none => cases none.symm.trans due
  next q some =>
  cases some.symm.trans due
  extract_lets s0 a valid ch r _ res streak fbRun entry oldShort short stale shortAx blk reg inLive moved back stickyBits ev s1 lm
    s1' _ s2 s3
  have begun : onlyChanges [.yards] noId s s0 := (stageDone_only ..).step (.advance .refl)
  obtain ⟨snap, -⟩ := begun.part .snap
  have alc : a = s.alc := begun.part .alc
  have beat : s0.clk.beat = s.clk.beat := beat_of_same (begun.part .clk)
  clear_value s0
  have result : r.1 = (resultOf s p (resultValid p s.alc.iter) (releaseChoice p s.alc)).1 := by
    rw [← alc]
    exact congrArg Prod.fst (resultOf_congr snap alc beat ..)
  have known : ∀ e ∈ ev, e.1 < 128 := by
    simp only [ev, List.forall_mem_append, List.forall_mem_map, List.mem_filterMap]
    grind
  have shown : rd s2 0x24C1 = BitVec.ofNat 32 s.clk.beat := by
    rw [← beat]
    exact rd_wrAll (by simp [List.range_succ]) (by simp) _
  have kept : onlyChanges [.poison] (fun _ => true) _ s2 := .wrAll .refl
  have counted : onlyChanges [] (· == 0x24C6) s2 s3 := .ite .refl (.bump .refl)
  have left : onlyChanges [.line, .ev] (fun id => anyEventId id || [0x24C6, 0x24C7].contains id) s2
      (raiseAll ev (if a.reg then bump s3 0x24C7 15 0 1 else s3)) :=
    .raiseAll (.ite (.bump (counted.step .refl)) (counted.step .refl)) known
  have stored : (raiseAll ev (if a.reg then bump s3 0x24C7 15 0 1 else s3)).alc = _ := (left.part .alc).trans (kept.part .alc)
  refine ⟨_, r.1, rfl, result, ?_, (left.rd rfl).trans shown, ?_, ?_⟩
  · rw [stored]
  · rw [stored]
  · rw [stored, ← alc]

/-- The result that a beat releases in its three cases (09 R281, R282, R288). -/
theorem resultOf_released (s : State) (p : AProb) (valid : Bool) :
    (s.alc.fb = false → resultValid p s.alc.iter = true →
      (resultOf s p valid (releaseChoice p s.alc)).1.x = spread48 p (powerTrim p s.alc.iter.x).1) ∧
    (s.alc.fb = false → resultValid p s.alc.iter = false →
      (resultOf s p valid (releaseChoice p s.alc)).1.x = s.alc.rel.x ∧
      (resultOf s p valid (releaseChoice p s.alc)).1.sp = s.alc.rel.sp) ∧
    (s.alc.fb = true → (resultOf s p valid (releaseChoice p s.alc)).1.x = (fallbackOf s p).1) := by
  refine ⟨fun hf hv => ?_, fun hf hv => ?_, fun hf => ?_⟩
  · rw [show releaseChoice p s.alc = .solver by simp [releaseChoice, hf, hv], resultOf_solver_x]
  · rw [show releaseChoice p s.alc = .held by simp [releaseChoice, hf, hv]]
    exact resultOf_held ..
  · rw [show releaseChoice p s.alc = .fallback by simp [releaseChoice, hf], resultOf_fallback_x]

/-! ### Fallback -/

/-- An event beside a sticky bit that none of its registers holds leaves the bit set. -/
theorem flag_raise_sticky {id : Nat} (n a i : Nat) (s : State) (hn : id ∉ eventIds n) (hi : i < 32) :
    flag (raise n a (sticky s id i)) id i = true :=
  (flag_congr (rd_raise _ _ _ _ hn)).trans (flag_sticky_same _ _ _ hi)

theorem execAllocFallbackEntry_enters (due : verdictDue s = some p) (hf : s.alc.fb = false)
    (hv : resultValid p s.alc.iter = false) (hs : 2 ≤ s.alc.streak) : ∃ t, execAllocFallbackEntry s = .next t ∧
      t.alc = { s.alc with fb := true, fbRun := 0 } ∧ flag t 0x24C5 1 = true := by
  simp only [execAllocFallbackEntry, due]
  rw [if_neg (by simp [hf, hv, Nat.lt_of_succ_le hs])]
  refine ⟨_, rfl, ?_, flag_raise_sticky _ _ _ _ (by decide) (by decide)⟩
  simp

theorem execAllocFallbackExit_exits (due : verdictDue s = some p) (hf : s.alc.fb = true)
    (hv : resultValid p s.alc.iter = true) (hr : 9 ≤ s.alc.fbRun) : ∃ t, execAllocFallbackExit s = .next t ∧
      t.alc = { s.alc with fb := false, fbRun := 0 } := by
  simp only [execAllocFallbackExit, due]
  rw [if_neg (by simp [hf, hv, hr])]
  exact ⟨_, rfl, raise_alc ..⟩

/-! ### Power data -/

theorem busAt_val (s : State) (b : Fin 4) : busAt s b.val = vget s.alc.bus b := vgetD_of_lt _ _ b.isLt

theorem vget_updBus_same (b : Fin 4) (f : PowerBus → PowerBus) (s : State) :
    vget (updBus b.val f s).alc.bus b = f (vget s.alc.bus b) := by
  simp [updBus, vupdN]

theorem execPowerDataStale_stales {b : Fin 4} (hb : s.clk.beats = true) (fresh : (vget s.alc.bus b).stale = false)
    (stale : busStale s b.val = true) : ∃ t, execPowerDataStale b s = .next t ∧ (vget t.alc.bus b).stale = true ∧
      (vget t.alc.bus b).data = (vget s.alc.bus b).data ∧ (busPresent s b.val = true → flag t 0x24C5 4 = true) := by
  unfold execPowerDataStale
  extract_lets k s1
  rw [if_neg (by simp [hb, k, busAt_val, fresh, stale])]
  have marked : vget s1.alc.bus b = { vget s.alc.bus b with stale := true } := by
    rw [vget_updBus_same, advance_alc]
  have alc : (if busPresent s k then raise 75 k (sticky s1 0x24C5 4) else s1).alc = s1.alc := by
    split <;> simp
  refine ⟨_, rfl, ?_, ?_, fun present => ?_⟩
  · rw [alc, marked]
  · rw [alc, marked]
  · rw [if_pos present]
    exact flag_raise_sticky _ _ _ _ (by decide) (by decide)

/-- A record that is taken waits in its bus for the next latch (09 R272). -/
theorem vget_takePower (b : Fin 4) (x : PowerRec) (s : State) :
    vget (takePower b.val x s).alc.bus b = { vget s.alc.bus b with rx := some x } := vget_updBus_same ..

theorem takePower_regs (b : Nat) (x : PowerRec) (s : State) : (takePower b x s).regs = s.regs := rfl

/-- A frame that the Porene power frame's reader takes up: its source, bus and identifier are the set ones (09 R273). -/
structure PowerFrameHeard (s : State) (bus : Fin 4) (f : CanFrame) : Prop where
  source : fld s 0x2480 5 4 = 0
  onBus : fld s 0x2480 7 6 = bus.val
  named : frameIdWord f = rd s 0x2481
  hears : canHears s bus = true
  noRemote : f.remote = false

theorem PowerFrameHeard.not_ignored {bus : Fin 4} {f : CanFrame} (h : PowerFrameHeard s bus f) (c : Nat) :
    ¬(fld (advance c s) 0x2480 5 4 ≠ 0 ∨ fld (advance c s) 0x2480 7 6 ≠ bus.val ∨
      frameIdWord f ≠ rd (advance c s) 0x2481 ∨ (!canHears (advance c s) bus) = true ∨ f.remote = true) := by
  obtain ⟨source, onBus, named, hears, noRemote⟩ := h
  simp [fld_congr (rd_advance c s _), source, onBus, named, canHears_advance, hears, noRemote]

theorem execPowerFrame_takes {c : Nat} {bus b : Fin 4} {f : CanFrame} (heard : PowerFrameHeard s bus f) (hfd : f.fd = true)
    (hl : f.data.length = 12) (hb : byteAt f.data 0 = b.val) (hv : byteAt f.data 1 = 1) (hz : leAt f.data 10 2 = 0)
    (new : (vget s.alc.bus b).count ≠ some (leAt f.data 2 2)) : ∃ t, execPowerFrame c bus f s = .next t ∧
      (vget t.alc.bus b).rx = some ⟨leAt f.data 4 2, none, none⟩ ∧ (vget t.alc.bus b).count = some (leAt f.data 2 2) ∧
      t.regs = s.regs := by
  unfold execPowerFrame
  extract_lets s0 pay ramp bad k
  have good : bad = false := by simp [bad, ramp, pay, hfd, hl, hb, hv, hz, Nat.le_of_lt_succ b.isLt]
  have plain : ramp = false := by simp [ramp, pay, hv]
  have taken : ¬(byteAt pay 1 % 2 = 0 ∨ (busAt s0 k).count = some (leAt pay 2 2)) := by
    simp only [pay, k, hb, hv, busAt_val, s0, advance_alc]
    simpa using new
  rw [if_neg (heard.not_ignored c), if_neg (by simp [good]), if_neg taken]
  have record : k = b.val := hb
  rw [plain, record]
  refine ⟨_, rfl, ?_, ?_, advance_regs ..⟩
  · rw [vget_takePower]
    rfl
  · rw [vget_takePower, vget_updBus_same]

/-- A malformed frame is counted, and nothing is taken from it (09 R273). -/
theorem execPowerFrame_counts {c : Nat} {bus : Fin 4} {f : CanFrame} (heard : PowerFrameHeard s bus f)
    (malformed : f.fd = false ∨ f.data.length ≠ 12 ∨ 3 < byteAt f.data 0 ∨ 3 < byteAt f.data 1) :
    ∃ t, execPowerFrame c bus f s = .next t ∧ fld t 0x2486 15 0 = satAdd 16 (fld s 0x2486 15 0) 1 ∧ t.alc = s.alc := by
  unfold execPowerFrame
  extract_lets s0 pay ramp bad k
  have refused : bad = true := by
    simp only [bad, pay, Bool.or_eq_true, Bool.not_eq_true', bne_iff_ne, decide_eq_true_eq]
    tauto
  rw [if_neg (heard.not_ignored c), if_pos refused]
  refine ⟨_, rfl, ?_, ?_⟩
  · rw [fld_bump_same _ _ _ _ _ (by decide), fld_congr (rd_advance ..)]
  · rw [bump_alc, advance_alc]

theorem execPtbmpSentence_takes {c v : Nat} {e : Fin 2} {l : List Byte} {x : List Nat} {b : Fin 4}
    (source : fld s 0x2480 5 4 = 1) (up : blockDown s 7 (4 + e.val) = false) (short : l.length ≤ 82)
    (body : checkedBody l = some x) (six : (splitFields x).length = 6) (named : fieldOf (splitFields x) 0 = charsOf "PTBMP")
    (hb : wholeField (fieldOf (splitFields x) 1) 3 = some b.val) (hv : wholeField (fieldOf (splitFields x) 2) 65535 = some v)
    (hu : fieldOf (splitFields x) 3 = []) (hd : fieldOf (splitFields x) 4 = []) (ha : fieldOf (splitFields x) 5 = charsOf "A") :
    ∃ t, execPtbmpSentence c e l s = .next t ∧ (vget t.alc.bus b).rx = some ⟨v, none, none⟩ ∧ t.regs = s.regs := by
  refine ⟨takePower b.val ⟨v, none, none⟩ (advance c s), ?_, ?_, advance_regs ..⟩
  · unfold execPtbmpSentence
    rw [if_neg (by simp [fld_congr (rd_advance c s _), source, blockDown_advance, up, short])]
    simp only [body]
    rw [if_neg (not_not_intro (show _ = "PTBMP".toList.map Char.toNat from named))]
    simp [six, hb, hv, hu, hd, ha, charsOf]
  · rw [vget_takePower]

end

/-- Settles O33: the iteration and the result by what they leave of the allocator, the ends of fallback mode by the verdict that is due,
and each power message by its own checks. -/
theorem allocationEvents : Obligations.AllocationEvents := by
  refine ⟨?iterates, ?solves, ?result, ?entry, ?exit, ?stale, ?frame, ?malformed, ?sentence⟩
  case iterates =>
    intro s hb hd
    obtain ⟨t, hx, done, stands, res, -⟩ := execAllocIteration_next hb hd
    exact ⟨t, hx, done, stands, res⟩
  case solves =>
    intro p s hb hd hp
    obtain ⟨t, hx, -, -, -, advances⟩ := execAllocIteration_next hb hd
    exact ⟨t, hx, advances p hp⟩
  case result =>
    intro p s hd hb hp
    obtain ⟨t, r, hx, rfl, res, shown, ended, streak⟩ := execAllocResult_next (verdictDue_eq hd hb hp)
    obtain ⟨solver, held, fallback⟩ := resultOf_released s p (resultValid p s.alc.iter)
    refine ⟨t, hx, ?_⟩
    rw [res]
    exact ⟨resultOf_beat .., shown, ended, streak, solver, held, fallback⟩
  case entry => exact fun p s hd hb hp hf hv hs => execAllocFallbackEntry_enters (verdictDue_eq hd hb hp) hf hv hs
  case exit => exact fun p s hd hb hp hf hv hr => execAllocFallbackExit_exits (verdictDue_eq hd hb hp) hf hv hr
  case stale => exact fun b s hb fresh stale => execPowerDataStale_stales hb fresh stale
  case frame =>
    intro c bus f b s source onBus named hears noRemote hfd hl hb hv hz new
    exact execPowerFrame_takes ⟨source, onBus, named, hears, noRemote⟩ hfd hl hb hv hz new
  case malformed =>
    intro c bus f s source onBus named hears noRemote malformed
    exact execPowerFrame_counts ⟨source, onBus, named, hears, noRemote⟩ malformed
  case sentence =>
    intro c e l x b v s source up short body six named hb hv hu hd ha
    exact execPtbmpSentence_takes source up short body six named hb hv hu hd ha

end Sys2Proof.Machine
end

section
/-! SUPPORT. What the requests of the servo leave (10 R310, R314, R315), and O24. -/
set_option Elab.async false

namespace Sys2Proof.Machine

section
variable {r : Req} {p : List Byte} {port : Fin 2} {s u : State}

/-! ### AXIS_ENABLE and AXIS_DISABLE -/

theorem axisFields_axis_lt (h : firstBad (axisFields p) = none) : byteAt p 0 < 48 := of_decide_eq_true (firstBad_none h).1

theorem opAxisEnable_axis_lt (h : opAxisEnable.check port p s = none) : byteAt p 0 < 48 := by
  simp only [opAxisEnable] at h
  split at h
  · cases h
  next passed => exact axisFields_axis_lt passed

theorem opAxisEnable_commit_taken (h : enableRow u (byteAt p 0) = .ok) :
    opAxisEnable.commit port p u = okData (requestEnable false (byteAt p 0) u) [] := by
  simp only [opAxisEnable, h]
  rfl

theorem opAxisEnable_commit_waiting (h : enableRow u (byteAt p 0) = .pending) : opAxisEnable.commit port p u =
    ⟨pendEnable (axisAt u (byteAt p 0)).pendThr (byteAt p 0) u, stPending, byteAt p 0, []⟩ := by
  simp only [opAxisEnable, h]

theorem axisAt_requestEnable (thr : Bool) (a : Fin 48) (s : State) :
    (axisAt (requestEnable thr a.val s) a.val).reqNew = some ⟨true, thr, (axisAt s a.val).state == 4⟩ :=
  congrArg AxisUnit.reqNew (axisAt_updAxis_same ..)

/-- An enable that waits is pending: it was so before, or becomes so (10 R310). -/
theorem axisAt_pendEnable (thr : Bool) (a : Fin 48) (s : State) : (axisAt (pendEnable thr a.val s) a.val).pend = true := by
  rw [pendEnable, axisAt_updAxis_same]
  split
  next kept =>
    rw [Bool.and_eq_true] at kept
    exact kept.1
  · rfl

theorem axisAt_requestDisable (thr : Bool) (a : Fin 48) (s : State) :
    (axisAt (requestDisable thr a.val s) a.val).reqNew = some ⟨false, thr, false⟩ :=
  congrArg AxisUnit.reqNew (axisAt_updAxis_same ..)

theorem serve_opAxisEnable_taken (h : served opAxisEnable r s = true) (ok : enableRow s (byteAt r.payload 0) = .ok) :
    (axisAt (serve opAxisEnable r s) (byteAt r.payload 0)).reqNew =
      some ⟨true, false, (axisAt s (byteAt r.payload 0)).state == 4⟩ := by
  have left := serve_ok_only h (opAxisEnable_commit_taken ((enableRow_commitState ..).trans ok))
  rw [axisAt_congr (congrArg Servo.axes (left.part .servo)),
    axisAt_requestEnable false ⟨_, opAxisEnable_axis_lt (served_check h)⟩,
    axisAt_congr (congrArg Servo.axes (commitState_servo ..))]

theorem serve_opAxisEnable_waiting (h : served opAxisEnable r s = true) (waits : enableRow s (byteAt r.payload 0) = .pending) :
    (axisAt (serve opAxisEnable r s) (byteAt r.payload 0)).pend = true := by
  have left := serve_pending_only h (opAxisEnable_commit_waiting ((enableRow_commitState ..).trans waits))
  rw [axisAt_congr (congrArg Servo.axes (left.part .servo))]
  exact axisAt_pendEnable _ ⟨_, opAxisEnable_axis_lt (served_check h)⟩ _

theorem serve_opAxisDisable (h : served opAxisDisable r s = true) :
    (axisAt (serve opAxisDisable r s) (byteAt r.payload 0)).reqNew = some ⟨false, false, false⟩ := by
  have left := serve_ok_only (d := []) h rfl
  rw [axisAt_congr (congrArg Servo.axes (left.part .servo))]
  exact axisAt_requestDisable false ⟨_, axisFields_axis_lt (served_check h)⟩ _

/-! ### AXIS_CONFIG -/

/-- The two runs of identifiers that AXIS_CONFIG writes lie apart: offsets 8 to 12 of the axis, and 0 to 7. -/
theorem axisWords_distinct (expert : Bool) (a : Nat) : ((axisWords expert a).map (·.1)).Nodup := by
  cases expert
  · simp [axisWords, List.range_succ]
  · simp [axisWords, List.range_succ]
    omega

theorem axisWords_limit (expert : Bool) (a : Nat) (k : Fin 5) :
    (0x5008 + 16 * a + k.val, 4 + 4 * k.val) ∈ axisWords expert a :=
  List.mem_append_left _ (List.mem_map.2 ⟨k.val, List.mem_range.2 k.isLt, by simp; omega⟩)

theorem axisWords_law (a : Nat) (k : Fin 8) : (0x5000 + 16 * a + k.val, 32 + 4 * k.val) ∈ axisWords true a :=
  List.mem_append_right _ (List.mem_map.2 ⟨k.val, List.mem_range.2 k.isLt, rfl⟩)

/-- A served AXIS_CONFIG stores each word of its form under that word's identifier. -/
theorem rd_serve_axisConfig {expert : Bool} {code id n : Nat} (h : served (axisConfig expert code) r s = true)
    (hm : (id, n) ∈ axisWords expert (byteAt r.payload 0)) : rd (serve (axisConfig expert code) r s) id = wordAt r.payload n := by
  have distinct : (((axisWords expert (byteAt r.payload 0)).map fun x => (x.1, wordAt r.payload x.2)).map (·.1)).Nodup := by
    rw [List.map_map]
    exact axisWords_distinct ..
  rw [(serve_ok_only (d := []) h rfl).rd (noId_apply id)]
  exact rd_wrAll distinct (List.mem_map.2 ⟨_, hm, rfl⟩) _

/-! ### COMP_TABLE_LOAD -/

/-- The state that a COMP_TABLE_LOAD commits (10 R315). -/
def tableStored (p : List Byte) (s : State) : State := raise 84 (byteAt p 0) (loadTabs [(byteAt p 0, tableAt p 4)] s)

theorem tableStored_newTabs (p : List Byte) (s : State) :
    (tableStored p s).servo.newTabs = s.servo.newTabs ++ [(byteAt p 0, tableAt p 4)] := by
  rw [tableStored, raise_servo]
  rfl

theorem tableStored_sticky (h : s.clk.core = true) : flag (tableStored p s) 0x1306 20 = true :=
  (raise_sticky 84 _ (loadTabs _ s) h).resolve_right (by decide)

/-- A served COMP_TABLE_LOAD leaves its table for the next beat edge and, with the core clock running, COMP_TABLE (10 R315). -/
theorem serve_opCompTableLoad (h : served opCompTableLoad r s = true) :
    (serve opCompTableLoad r s).servo.newTabs = s.servo.newTabs ++ [(byteAt r.payload 0, tableAt r.payload 4)] ∧
    (s.clk.core = true → flag (serve opCompTableLoad r s) 0x1306 20 = true) := by
  have left := serve_ok_only (u := tableStored r.payload (commitState opCompTableLoad r s)) (d := []) h rfl
  refine ⟨?_, fun core => ?_⟩
  · rw [show (serve opCompTableLoad r s).servo = _ from left.part .servo, tableStored_newTabs, commitState_servo]
  · rw [flag_congr (left.rd (noId_apply _))]
    exact tableStored_sticky ((core_of_same ((readState_only ..).part .clk)).trans core)

end

/-- Settles O24. A served request leaves what its commit stores: an enable is taken or waits, as the row of R310 says of the state that
it finds; the words of a configuration stand under identifiers of their own; a table waits beside those that wait already. -/
theorem axisRequests : Obligations.AxisRequests := by
  refine ⟨?enable, ?waiting, ?disable, ?basic, ?expert, ?table⟩
  case enable => exact fun r s h ok => ⟨_, exec_served rfl h, serve_opAxisEnable_taken h ok⟩
  case waiting => exact fun r s h waits => ⟨_, exec_served rfl h, serve_opAxisEnable_waiting h waits⟩
  case disable => exact fun r s h => ⟨_, exec_served rfl h, serve_opAxisDisable h⟩
  case basic => exact fun r s h => ⟨_, exec_served rfl h, fun k => rd_serve_axisConfig h (axisWords_limit _ _ k)⟩
  case expert =>
    exact fun r s h => ⟨_, exec_served rfl h, fun k => rd_serve_axisConfig h (axisWords_limit _ _ k),
      fun k => rd_serve_axisConfig h (axisWords_law _ k)⟩
  case table => exact fun r s h => ⟨_, exec_served rfl h, serve_opCompTableLoad h⟩

end Sys2Proof.Machine
end

section
/-! SUPPORT. A SYNC_FILTERS that falls on a sync edge that SYNC_IN has given (12 R364, R376), and O25. -/
set_option Elab.async false

namespace Sys2Proof.Machine

/-- A sync edge that another source has given on the same cycle already is the same sync: no register changes (12 R364). -/
theorem syncEdge_together_regs {c src b : Nat} {s : State} (h : s.filt.sync = some (c + 1, b)) :
    (syncEdge c src s).regs = s.regs := by
  simp [syncEdge, h, patchSync]

/-- A SYNC_FILTERS of port 0 with request edge 7 600 000. -/
def syncRequest : Req := Sys2Proof.rq []

/-- The holder in RUN, where SYNC_IN has given the sync edge that follows the commit cycle of `syncRequest`, and FILTER_SYNC reads 0
in EVENT_STICKY_3. -/
def syncGivenState : State :=
  { Sys2Proof.holder Sys2Proof.runState with
    filt := { Sys2Proof.runState.filt with sync := some (7601601, 1) } }

theorem syncGivenState_served : served opSyncFilters syncRequest syncGivenState = true := by decide +kernel

theorem syncGivenState_together : (commitState opSyncFilters syncRequest syncGivenState).filt.sync =
    some ((commitState opSyncFilters syncRequest syncGivenState).clk.cycle + 1, 1) := by decide +kernel

/-- The request leaves EVENT_STICKY_3 as it stood. -/
theorem rd_serve_syncGivenState : rd (serve opSyncFilters syncRequest syncGivenState) 0x1307 = rd syncGivenState 0x1307 := by
  rw [(serve_ok_only (d := []) syncGivenState_served rfl).rd (noId_apply _),
    rd_congr (syncEdge_together_regs syncGivenState_together), rd_congr (commitState_regs ..)]

/-- Refutes O25: a SYNC_FILTERS on the cycle whose sync edge SYNC_IN has given already adds its source to that sync and raises no
event (12 R364), so that a FILTER_SYNC bit that reads 0 stays so. -/
theorem not_fieldAndFilterRequests : ¬ Obligations.FieldAndFilterRequests := by
  rintro ⟨-, -, -, -, -, -, -, sync, -⟩
  obtain ⟨t, ht, noted, -⟩ := sync syncRequest syncGivenState syncGivenState_served rfl
  cases ht
  rw [flag_congr rd_serve_syncGivenState] at noted
  exact absurd noted (by decide +kernel)

end Sys2Proof.Machine
end

section
/-! SUPPORT. What the rows of banks and channels leave (11 R325, R329, R333, R338, R339, R342-R344, R347). -/
set_option Elab.async false

namespace Sys2Proof.Machine

section
variable {s : State}

/-! ### Banks and channels -/

theorem bankAt_val (s : State) (k : Fin 2) : bankAt s k.val = vget s.field.bank k := vgetD_of_lt _ _ k.isLt

theorem vget_updBank_same (k : Fin 2) (f : BankUnit → BankUnit) (s : State) :
    vget (updBank k.val f s).field.bank k = f (vget s.field.bank k) := by
  rw [updBank, vupdN, dif_pos k.isLt, vget_vupd_same]

theorem vget_updBank_other {k j : Fin 2} (f : BankUnit → BankUnit) (s : State) (h : j ≠ k) :
    vget (updBank k.val f s).field.bank j = vget s.field.bank j := by
  rw [updBank, vupdN, dif_pos k.isLt, vget_vupd_other _ _ _ _ h]

@[simp] theorem updBank_chan (b : Nat) (f : BankUnit → BankUnit) (s : State) : (updBank b f s).field.chan = s.field.chan := rfl

@[simp] theorem updChans_bank (b : Nat) (f : Nat → ChanUnit → ChanUnit) (s : State) :
    (updChans b f s).field.bank = s.field.bank := by rw [updChans]

theorem vget_updChans (b : Nat) (f : Nat → ChanUnit → ChanUnit) (s : State) (ch : Fin 48) :
    vget (updChans b f s).field.chan ch =
      if ch.val / 24 = b then f ch.val (vget s.field.chan ch) else vget s.field.chan ch :=
  Vector.getElem_ofFn ..

theorem vget_updField_same (ch : Fin 48) (f : ChanUnit → ChanUnit) (s : State) :
    vget (updField ch.val f s).field.chan ch = f (vget s.field.chan ch) := by simp [updField, vupdN]

/-! ### The command in force of a channel -/

/-- Bringing the command in force up to date changes nothing of a channel but that command, its ticks and the cut-off that an off
command resets (11 R333, R335). -/
theorem refresh_eq (c : ChanUnit) : ∃ since needOff cut,
    refresh c = { c with eff := commandOf c, since := since, needOff := needOff, cut := cut } ∧ (c.cut = none → cut = none) := by
  unfold refresh
  extract_lets e c1
  obtain ⟨since, hc⟩ : ∃ n, c1 = { c with eff := e, since := n } := by
    unfold c1
    split
    next same => exact ⟨c.since, by rw [same]⟩
    next => exact ⟨0, rfl⟩
  rw [hc]
  split
  · exact ⟨since, false, _, rfl, fun h => by rw [h]; rfl⟩
  · exact ⟨since, c.needOff, c.cut, rfl, id⟩

@[simp] theorem refresh_safe (c : ChanUnit) : (refresh c).safe = c.safe := by
  obtain ⟨_, _, _, h, -⟩ := refresh_eq c
  rw [h]

@[simp] theorem refresh_lvl (c : ChanUnit) : (refresh c).lvl = c.lvl := by
  obtain ⟨_, _, _, h, -⟩ := refresh_eq c
  rw [h]

/-! ### Bank rows -/

theorem execDiagCommonEntry_enters {k : Fin 2} (hc : (vget s.field.bank k).common = false)
    (hd : 3 ≤ (vget s.field.bank k).badDiag) : ∃ t, execDiagCommonEntry k s = .next t ∧
      (vget t.field.bank k).common = true ∧ flag t (0x6403 + 16 * k.val) 3 = true := by
  have go : ¬((vget s.field.bank k).common || decide ((vget s.field.bank k).badDiag < 3)) = true := by simp [hc, hd]
  refine ⟨_, if_neg go, ?_, flag_raise_sticky _ _ _ _ ?_ (by decide)⟩
  · simp [vget_updBank_same]
  · simp [eventIds]
    omega

theorem execDiagCommonExit_exits {k : Fin 2} (hc : (vget s.field.bank k).common = true)
    (hd : 400 ≤ (vget s.field.bank k).goodDiag) : ∃ t, execDiagCommonExit k s = .next t ∧
      (vget t.field.bank k).common = false ∧ t.field.chan = s.field.chan := by
  have go : ¬(!(vget s.field.bank k).common || decide ((vget s.field.bank k).goodDiag < 400)) = true := by simp [hc, hd]
  refine ⟨_, if_neg go, ?_, ?_⟩
  · simp [vget_updBank_same]
  · simp

/-- A sticky bit of a bank, set where a condition holds. -/
theorem flag_stickyIf_of_flag {c : Prop} [Decidable c] {id i j : Nat} (hj : j < 32) (h : flag s id j = true) :
    flag (if c then sticky s id i else s) id j = true := by
  split
  · exact flag_sticky_of_flag _ _ _ hj h
  · exact h

/-- The state of a bank's supply that is taken, with its two sticky bits, before its event (11 R338). -/
def supplyTaken (k : Fin 2) (s : State) : State :=
  let u := vget s.field.bank k
  let s1 := updBank k.val (fun u => { u with supply := u.cls }) (advance (tickCycle s 160) s)
  let s2 := if u.supply = 0 then sticky s1 (0x6403 + 16 * k.val) 0 else s1
  if u.cls = 4 then sticky s2 (0x6403 + 16 * k.val) 1 else s2

theorem supplyTaken_field (k : Fin 2) (s : State) :
    (supplyTaken k s).field = (updBank k.val (fun u => { u with supply := u.cls }) s).field := by
  unfold supplyTaken
  dsimp only
  split <;> split <;> simp [updBank]

theorem supplyTaken_core (k : Fin 2) (s : State) : (supplyTaken k s).clk.core = s.clk.core := by
  have taken : onlyChanges [.field] (· == 0x6403 + 16 * k.val) s (supplyTaken k s) :=
    .opt (.opt ((updBank_only ..).step (.advance .refl)) fun _ => .sticky .refl) fun _ => .sticky .refl
  exact core_of_same (taken.part .clk)

theorem supplyTaken_sticky (k : Fin 2) (s : State) :
    ((vget s.field.bank k).supply = 0 → flag (supplyTaken k s) (0x6403 + 16 * k.val) 0 = true) ∧
    ((vget s.field.bank k).cls = 4 → flag (supplyTaken k s) (0x6403 + 16 * k.val) 1 = true) := by
  unfold supplyTaken
  refine ⟨fun h => flag_stickyIf_of_flag (by decide) ?_, fun h => ?_⟩
  · rw [if_pos h]
    exact flag_sticky_same _ _ _ (by decide)
  · dsimp only
    rw [if_pos h]
    exact flag_sticky_same _ _ _ (by decide)

theorem execBankSupplyChange_changes {k : Fin 2} (hr : (vget s.field.bank k).clsRun = 4)
    (hc : (vget s.field.bank k).cls ≠ (vget s.field.bank k).supply) : ∃ t, execBankSupplyChange k s = .next t ∧
      (vget t.field.bank k).supply = (vget s.field.bank k).cls ∧
      ((vget s.field.bank k).supply = 0 → flag t (0x6403 + 16 * k.val) 0 = true) ∧
      ((vget s.field.bank k).cls = 4 → flag t (0x6403 + 16 * k.val) 1 = true) ∧
      (s.clk.core = true → flag t 0x1307 1 = true) := by
  have go : ¬supplyNow (vget s.field.bank k) = (vget s.field.bank k).supply := by simp [supplyNow, hr, hc]
  have beside (a : Nat) : rd (raise 97 a (supplyTaken k s)) (0x6403 + 16 * k.val) = rd (supplyTaken k s) (0x6403 + 16 * k.val) :=
    rd_raise _ _ _ _ (by simp [eventIds]; omega)
  obtain ⟨fails, negative⟩ := supplyTaken_sticky k s
  refine ⟨raise 97 _ (supplyTaken k s), if_neg go, ?_, fun h => (flag_congr (beside _)).trans (fails h),
    fun h => (flag_congr (beside _)).trans (negative h), fun core => ?_⟩
  · rw [raise_field, supplyTaken_field, vget_updBank_same]
  · exact (raise_sticky 97 _ _ ((supplyTaken_core k s).trans core)).resolve_right (by decide)

theorem execBankOvercurrentTrip_trips {k : Fin 2} (ht : (vget s.field.bank k).trip = false)
    (ho : 40 ≤ (vget s.field.bank k).overRun) : ∃ t, execBankOvercurrentTrip k s = .next t ∧
      (vget t.field.bank k).trip = true ∧ flag t (0x6402 + 16 * k.val) 1 = true ∧ flag t (0x6403 + 16 * k.val) 2 = true := by
  have go : ¬((vget s.field.bank k).trip || decide ((vget s.field.bank k).overRun < 40)) = true := by simp [ht, ho]
  refine ⟨_, if_neg go, ?_, ?_, flag_raise_sticky _ _ _ _ ?_ (by decide)⟩
  · simp [vget_updBank_same]
  · rw [flag_congr (rd_raise _ _ _ _ (by simp [eventIds]; omega)), flag_congr (rd_sticky_other _ _ (by omega)),
      flag_wrFlag_same _ _ _ _ (by decide)]
  · simp [eventIds]
    omega

/-- A bank's channels when its isolated side applies its safe values (11 R343, R345). -/
theorem execSilenceTimeout_silences {k : Fin 2} (hs : (vget s.field.bank k).inSafe = false)
    (hd : 4 * (vget s.field.bank k).silence ≤ (vget s.field.bank k).missing ∨ s.clk.core = false ∨ s.clk.ticks = false) :
    ∃ t, execSilenceTimeout k s = .next t ∧ (vget t.field.bank k).inSafe = true ∧
      (vget t.field.bank k).latched = (vget s.field.bank k).resume ∧
      (∀ ch : Fin 48, ch.val / 24 = k.val → (vget t.field.chan ch).safe = true ∧
        (vget t.field.chan ch).eff = commandOf (vget t.field.chan ch) ∧
        (bitOf (vget s.field.chan ch).cfg 4 = true → (vget t.field.chan ch).drive = false)) ∧
      (∀ ch : Fin 48, ch.val / 24 ≠ k.val → vget t.field.chan ch = vget s.field.chan ch) := by
  have go : ¬((vget s.field.bank k).inSafe || !(silenceDue (vget s.field.bank k) || !s.clk.core || !s.clk.ticks)) = true := by
    simp only [hs, silenceDue]
    rcases hd with h | h | h <;> simp [h]
  refine ⟨_, if_neg go, ?_, ?_, fun ch own => ?_, fun ch other => ?_⟩
  · simp [vget_updBank_same]
  · simp [vget_updBank_same]
  · rw [vget_updChans, if_pos own, updBank_chan, advance_field]
    obtain ⟨_, _, _, h, -⟩ := refresh_eq
      { vget s.field.chan ch with safe := true, drive := (vget s.field.chan ch).drive && !bitOf (vget s.field.chan ch).cfg 4 }
    rw [h]
    exact ⟨rfl, rfl, fun role => by simp [role]⟩
  · rw [vget_updChans, if_neg other, updBank_chan, advance_field]

theorem execSilenceResume_resumes {k : Fin 2} (hs : (vget s.field.bank k).inSafe = true)
    (hl : (vget s.field.bank k).latched = false) (hv : 40 ≤ (vget s.field.bank k).valid) :
    ∃ t, execSilenceResume k s = .next t ∧ (vget t.field.bank k).inSafe = false ∧
      (∀ ch : Fin 48, ch.val / 24 = k.val → (vget t.field.chan ch).safe =
        if servoOwned s.snap ch.val then false else (vget s.field.chan ch).safe) := by
  have go : ¬(!resumeDue (vget s.field.bank k)) = true := by simp [resumeDue, hs, hl, hv]
  refine ⟨_, if_neg go, ?_, fun ch own => ?_⟩
  · simp [vget_updBank_same]
  · rw [vget_updChans, if_pos own, updBank_chan, advance_field]
    split
    · exact refresh_safe _
    · rfl

/-! ### Channel rows -/

theorem execDiDebounce_reports {ch : Fin 48} (hc : (vget s.field.chan ch).cand ≠ (vget s.field.chan ch).di)
    (hr : bitsOf (vget s.field.chan ch).cfg 15 8 + 1 ≤ (vget s.field.chan ch).run) (hq : (vget s.field.chan ch).quiet = none) :
    ∃ t, execDiDebounce ch s = .next t ∧ (vget t.field.chan ch).di = (vget s.field.chan ch).cand ∧
      (vget t.field.chan ch).run = 0 := by
  have go : ¬((vget s.field.chan ch).cand == (vget s.field.chan ch).di ||
      decide ((vget s.field.chan ch).run < bitsOf (vget s.field.chan ch).cfg 15 8 + 1) ||
      (vget s.field.chan ch).quiet.isSome) = true := by simp [hc, hq, Nat.lt_of_succ_le hr]
  refine ⟨_, if_neg go, ?_, ?_⟩
  · rw [vget_updField_same, advance_field]
  · rw [vget_updField_same]

theorem execDoOverloadCutoff_cuts {ch : Fin 48} (th : Bool) (hm : (vget s.field.chan ch).mode = 3) (hd : delivered s ch.val ≠ 0) :
    ∃ t, execDoOverloadCutoff ch th s = .next t ∧ (vget t.field.chan ch).cut = some th ∧
      (vget t.field.chan ch).cutTick = s.clk.tick ∧ (vget t.field.chan ch).needOff = true := by
  refine ⟨_, if_neg (by simp [hm, hd]), ?_⟩
  rw [vget_updField_same]
  exact ⟨rfl, rfl, rfl⟩

theorem execDoRestart_restarts {ch : Fin 48} (hc : (vget s.field.chan ch).cut ≠ none) (he : (vget s.field.chan ch).eff ≠ 0)
    (hw : (bitOf (vget s.field.chan ch).cfg 5 = true ∧
        400 ≤ (s.clk.tick + 2 ^ 32 - (vget s.field.chan ch).cutTick) % 2 ^ 32) ∨
      (bitOf (vget s.field.chan ch).cfg 5 = false ∧ (vget s.field.chan ch).needOff = false)) :
    ∃ t, execDoRestart ch s = .next t ∧ (vget t.field.chan ch).cut = none ∧
      (vget t.field.chan ch).mode = (vget s.field.chan ch).mode := by
  have again : (if bitOf (vget s.field.chan ch).cfg 5 then
      decide (400 ≤ (s.clk.tick + 2 ^ 32 - (vget s.field.chan ch).cutTick) % 2 ^ 32)
      else !(vget s.field.chan ch).needOff) = true := by
    rcases hw with ⟨restarts, waited⟩ | ⟨stays, off⟩
    · simpa [restarts] using waited
    · simp [stays, off]
  refine ⟨_, if_neg (by simp only [again]; simp [hc, he]), ?_⟩
  rw [vget_updField_same]
  exact ⟨rfl, rfl⟩

theorem execModeChangeEffect_changes {ch : Fin 48} {m : Nat} (hm : (vget s.field.chan ch).modeNew = some m) (hj : 4 ≤ tickJ s) :
    ∃ t, execModeChangeEffect ch s = .next t ∧ (vget t.field.chan ch).mode = m ∧ (vget t.field.chan ch).modeNew = none ∧
      (vget t.field.chan ch).di = false ∧ (vget t.field.chan ch).cut = none ∧
      (vget t.field.chan ch).eff = commandOf (vget t.field.chan ch) := by
  simp only [execModeChangeEffect, hm, if_neg (Nat.not_lt.2 hj)]
  refine ⟨_, rfl, ?_⟩
  rw [vget_updField_same]
  obtain ⟨_, _, _, h, cut⟩ := refresh_eq { vget (advance (tickCycle s 40) s).field.chan ch with
    mode := m, modeNew := none, di := false, cand := false, run := 0, wb := none, cut := none, needOff := false }
  rw [h]
  exact ⟨rfl, rfl, rfl, cut rfl, rfl⟩

end

end Sys2Proof.Machine
end

section
/-! SUPPORT. What a tick edge's reports, its output frames and the link of the other bank leave of a bank's latest return frame
(11 R323, R324). -/
set_option Elab.async false

namespace Sys2Proof.Machine

section
variable {s t u : State} {k : Fin 2}

/-! ### The latest return frame of a bank -/

/-- What a bank holds of its latest return frame. -/
structure FrameData where
  poison : Bool
  volts : Int
  mA : Nat
  fault : Bool
  tick : Nat
  first : Bool

def BankUnit.frame (u : BankUnit) : FrameData := ⟨u.poison, u.volts, u.mA, u.fault, u.tick, u.first⟩

/-- An effect that leaves what bank k and its channels' comparators hold of the latest return frame. -/
structure FrameKept (k : Fin 2) (s t : State) : Prop where
  frame : (vget t.field.bank k).frame = (vget s.field.bank k).frame
  level : ∀ ch : Fin 48, ch.val / 24 = k.val → (vget t.field.chan ch).lvl = (vget s.field.chan ch).lvl

theorem FrameKept.refl : FrameKept k s s := ⟨rfl, fun _ _ => rfl⟩

theorem FrameKept.trans (h : FrameKept k s t) (g : FrameKept k t u) : FrameKept k s u :=
  ⟨g.frame.trans h.frame, fun ch own => (g.level ch own).trans (h.level ch own)⟩

theorem FrameKept.of_field (h : t.field = s.field) : FrameKept k s t := by
  refine ⟨?_, fun ch _ => ?_⟩ <;> rw [h]

theorem FrameKept.of_only {P : List Part} {I : Nat → Bool} (h : onlyChanges P I s t) (hP : Part.field ∉ P := by decide) :
    FrameKept k s t := .of_field (h.part .field hP)

theorem FrameKept.ite {c : Prop} [Decidable c] (h : FrameKept k s t) (g : FrameKept k s u) :
    FrameKept k s (if c then t else u) := by split <;> assumption

/-- A change of another bank, or of what a bank's link does not bring. -/
theorem FrameKept.updBank {b : Fin 2} {f : BankUnit → BankUnit} (h : FrameKept k s t)
    (hf : b ≠ k ∨ ∀ u, (f u).frame = u.frame) : FrameKept k s (updBank b.val f t) := by
  refine h.trans ⟨?_, fun _ _ => rfl⟩
  by_cases e : k = b
  · subst e
    rw [vget_updBank_same]
    exact (hf.resolve_left fun ne => ne rfl) _
  · rw [vget_updBank_other _ _ e]

/-- A change of the channels of another bank, or one that leaves the comparators. -/
theorem FrameKept.updChans {b : Fin 2} {f : Nat → ChanUnit → ChanUnit} (h : FrameKept k s t)
    (hf : b ≠ k ∨ ∀ n c, (f n c).lvl = c.lvl) : FrameKept k s (updChans b.val f t) := by
  refine h.trans ⟨by rw [updChans_bank], fun ch own => ?_⟩
  rw [vget_updChans]
  split
  next hb => exact (hf.resolve_left fun ne => ne (Fin.ext (hb.symm.trans own))) _ _
  next => rfl

/-! ### What follows the latch -/

theorem inputStep_lvl (u : BankUnit) (c : ChanUnit) : (inputStep u c).lvl = c.lvl := by
  unfold inputStep
  dsimp only
  split <;> rfl

theorem chanLatch_lvl (s : State) (x : BankIn) (u : BankUnit) (ch : Nat) (c : ChanUnit) :
    (chanLatch s x u ch c).lvl = x.levels.getLsbD (ch % 24) := by
  unfold chanLatch
  extract_lets n c1 c2 f
  exact inputStep_lvl u c1

theorem reportChan_field (c : ChanUnit) (ch : Nat) (r : State × List (Nat × Nat)) : (reportChan c ch r).1.field = r.1.field := by
  unfold reportChan
  extract_lets v n h v1
  have kept : v1.field = r.1.field := by
    unfold v1
    split <;> simp [v]
  split
  · simpa using kept
  · split <;> exact kept

theorem foldl_reportChan_field (l : List Nat) (c : Nat → ChanUnit) (ch : Nat → Nat) (r : State × List (Nat × Nat)) :
    (l.foldl (fun a n => reportChan (c n) (ch n) a) r).1.field = r.1.field :=
  List.foldlRecOn (motive := fun q : State × List (Nat × Nat) => q.1.field = r.1.field) l _ rfl
    fun _ hq _ _ => (reportChan_field ..).trans hq

theorem badFrames_kept (b : Fin 2) (n : Nat) (ret : Bool) (r : State × List (Nat × Nat)) :
    FrameKept k r.1 (badFrames b.val n ret r).1 := by
  unfold badFrames
  extract_lets blk h s1
  have counted : FrameKept k r.1 s1 := .of_field (by simp [s1])
  split
  · exact .refl
  · split
    · exact counted
    · exact counted.updBank (.inr fun _ => rfl)

/-- A bad frame sets its sticky bit (11 R324, R354). -/
theorem badFrames_notes (b : Fin 2) (n : Nat) (ret : Bool) (r : State × List (Nat × Nat)) :
    flag (badFrames b.val (n + 1) ret r).1 (0x6403 + 16 * b.val) 5 = true := by
  unfold badFrames
  extract_lets blk h s1
  have noted : flag s1 (0x6403 + 16 * b.val) 5 = true := by
    unfold s1 h
    rw [show 0x6400 + 16 * b.val + 3 = 0x6403 + 16 * b.val by omega]
    exact flag_sticky_same _ _ _ (by decide)
  rw [if_neg (Nat.succ_ne_zero n)]
  split <;> exact noted

theorem reportSafe_kept (b : Fin 2) (r : State × List (Nat × Nat)) : FrameKept k r.1 (reportSafe b.val r).1 := by
  unfold reportSafe
  extract_lets v s1 s2 s3
  have shown : FrameKept k r.1 s1 := .updBank .refl (.inr fun _ => rfl)
  generalize hs4 : (List.range 24).foldl (fun s i => sticky s (0x6005 + 16 * (24 * b.val + i)) 8) s3 = s4
  have noted : onlyChanges [] (fun _ => true) s1 s4 :=
    hs4 ▸ .foldl (.opt (.sticky .refl) fun _ => .wrFlag .refl) fun _ _ _ => .sticky .refl
  split
  · exact .refl
  · split
    · exact shown
    · exact shown.trans (.of_only noted)

theorem servoFrame_kept (b : Fin 2) (s : State) : FrameKept k s (servoFrame b.val s) := by
  unfold servoFrame
  extract_lets v j one
  have levels (n : Nat) (c : ChanUnit) : (one n c).lvl = c.lvl := by
    unfold one
    split
    · rfl
    · dsimp only
      split
      · rfl
      · exact refresh_lvl _
  exact FrameKept.updChans (f := one) .refl (.inr levels)

theorem beatFrameChan_lvl (s : State) (u : BankUnit) (ch : Nat) (c : ChanUnit) : (beatFrameChan s u ch c).lvl = c.lvl := by
  unfold beatFrameChan
  extract_lets g m target bad owned c1
  rw [refresh_lvl]
  split <;> rfl

theorem beatFrame_kept (b : Fin 2) (s : State) : FrameKept k s (beatFrame b.val s) := by
  unfold beatFrame
  extract_lets ctrl clear s1
  have cleared : FrameKept k s s1 := .updBank .refl (.inr fun _ => rfl)
  exact cleared.updChans (.inr fun _ _ => beatFrameChan_lvl ..)

/-- What the module sends to a bank changes nothing of what the bank's link has brought. -/
theorem linkSend_kept (b : Fin 2) (x : BankIn) (s : State) : FrameKept k s (linkSend b.val x s) := by
  unfold linkSend
  extract_lets s1 s2
  have marked : FrameKept k s s1 := .ite (.updBank .refl (.inr fun _ => rfl)) (.updBank .refl (.inr fun _ => rfl))
  have framed : FrameKept k s s2 := .ite (marked.updBank (.inr fun _ => rfl)) (marked.trans (servoFrame_kept ..))
  exact .ite (.updBank .refl (.inr fun _ => rfl))
    (.ite (.ite (framed.updBank (.inr fun _ => rfl)) (framed.trans (beatFrame_kept ..))) framed)

/-! ### The link of the other bank -/

/-- An effect that leaves bank k's link aside: its latest frame, the service and the faults of its block, and the bit that notes its
bad frames. -/
structure LinkAside (k : Fin 2) (s t : State) : Prop extends FrameKept k s t where
  down : blockDown t 6 k.val = blockDown s 6 k.val
  faulted : resultFaulted t 6 k.val = resultFaulted s 6 k.val
  noted : flag t (0x6403 + 16 * k.val) 5 = flag s (0x6403 + 16 * k.val) 5

theorem LinkAside.refl : LinkAside k s s := ⟨.refl, rfl, rfl, rfl⟩

theorem LinkAside.trans (h : LinkAside k s t) (g : LinkAside k t u) : LinkAside k s u :=
  ⟨h.toFrameKept.trans g.toFrameKept, g.down.trans h.down, g.faulted.trans h.faulted, g.noted.trans h.noted⟩

/-- The registers that say whether the link of bank k serves, and the one that notes its bad frames. -/
def linkStatusIds (k : Fin 2) (id : Nat) : Bool := [0x6FF2, 0x6FF4, 0x6403 + 16 * k.val].contains id

theorem blockDown_of_only {P : List Part} {I : Nat → Bool} (h : onlyChanges P I s t) (hs : I 0x6FF2 = false)
    (hb : I 0x6FF4 = false) (b : Nat) : blockDown t 6 b = blockDown s 6 b := by
  simp only [blockDown, yardFenced, yardState, blockFenced, fld_congr (h.rd hs), flag_congr (h.rd hb)]

/-- An effect on the field unit and on registers that leaves bank k's frame and the registers of its link's state. -/
theorem LinkAside.of_only {P : List Part} {I : Nat → Bool} (h : onlyChanges P I s t) (kept : FrameKept k s t)
    (hP : Part.yards ∉ P := by decide) (hI : ∀ id, linkStatusIds k id = true → I id = false) : LinkAside k s t where
  toFrameKept := kept
  down := blockDown_of_only h (hI _ (by simp [linkStatusIds])) (hI _ (by simp [linkStatusIds])) _
  faulted := by simp only [resultFaulted, show t.yards = s.yards from h.part .yards hP]
  noted := flag_congr (h.rd (hI _ (by simp [linkStatusIds])))

/-- What waits to be delivered poisoned by block k of PD6 follows from that block's entries alone. -/
theorem resultFaulted_of_retry {n : Nat}
    (h : ∀ e : Nat × Bool, e.1 = n → (e ∈ (vget t.yards 6).retry ↔ e ∈ (vget s.yards 6).retry)) :
    resultFaulted t 6 n = resultFaulted s 6 n := by
  unfold resultFaulted
  rw [vgetD_of_lt _ _ (by decide), vgetD_of_lt _ _ (by decide), Bool.eq_iff_iff]
  simp only [List.any_eq_true, Bool.and_eq_true, beq_iff_eq]
  exact ⟨fun ⟨e, he, own, due⟩ => ⟨e, (h e own).1 he, own, due⟩, fun ⟨e, he, own, due⟩ => ⟨e, (h e own).2 he, own, due⟩⟩

theorem operationDone_retry {b : Nat} {e : Nat × Bool} (he : e.1 ≠ b) (s : State) :
    e ∈ (vget (operationDone 6 b s).yards 6).retry ↔ e ∈ (vget s.yards 6).retry := by
  unfold operationDone
  dsimp only
  split
  · rfl
  · have away (l : List (Nat × Bool)) : e ∈ l ++ [(b, false)] ↔ e ∈ l := by
      simp only [List.mem_append, List.mem_singleton, or_iff_left_iff_imp]
      rintro rfl
      exact absurd rfl he
    rw [vget_vset_same]
    split <;> simp [away, he]

theorem blockFault_retry {b : Nat} {e : Nat × Bool} (he : e.1 ≠ b) (due : Bool) (s : State) :
    e ∈ (vget (blockFault 6 b due s).yards 6).retry ↔ e ∈ (vget s.yards 6).retry := by
  unfold blockFault
  extract_lets v h v1 s1
  split
  · rfl
  · split
    · rw [fenceBlock_alone _ rfl (by decide) (by decide), raise_yards, show State.yards (markBlock _ _ _) = _ from
        (markBlock_only ..).part .yards]
      simp [he, v]
    · have away : e ≠ (b, due) := fun h => he (congrArg Prod.fst h)
      simp [s1, v1, v, away]

/-- A block that is fenced leaves the service of the others of its yard. -/
theorem blockDown_markBlock_other {y b n : Nat} (hn : n < 32) (ne : n ≠ b) (s : State) :
    blockDown (markBlock y b s) y n = blockDown s y n := by
  unfold markBlock
  extract_lets s1 s2
  generalize hs3 : (if fld s2 (0x1000 * y + 0xFF3) 15 8 = 0xFF then wrFld s2 (0x1000 * y + 0xFF3) 15 8 b else s2) = s3
  have named : onlyChanges [] (fun id => id == 0x1000 * y + 0xFF3) s2 s3 := hs3 ▸ .opt .refl fun _ => .wrFld .refl
  have limited : onlyChanges [] (fun id => id == 0x1000 * y + 0xFF2) s1 s2 := .opt .refl fun _ => .wrFld .refl
  have bit : flag s1 (0x1000 * y + 0xFF4) n = blockFenced s y n := flag_wrFlag_beside s ne hn
  have state : yardState s1 y = yardState s y := fld_congr (rd_wr_other _ _ _ _ (by omega))
  have yard : (yardState s2 y == 2) = yardFenced s y := by
    rw [yardFenced, ← state]
    unfold s2
    split
    next ok =>
      rw [ok, yardState, fld_wrFld_same _ _ _ _ _ (by decide)]
      rfl
    next => rfl
  have marked : onlyChanges [] (fun id => id == 0x1000 * y + 0xFF3 || id == 0x1000 * y + 0xFF5) s2
      (sticky s3 (0x1000 * y + 0xFF5) 3) := .sticky (named.step .refl)
  rw [blockDown, yardFenced, yardState, fld_congr (marked.rd (by simp)), ← yardState, yard, blockFenced,
    flag_congr (marked.rd (by simp)), flag_congr (limited.rd (by simp)), bit, blockDown]

theorem blockDown_blockFault_other {b n : Nat} (hn : n < 32) (ne : n ≠ b) (due : Bool) (s : State) :
    blockDown (blockFault 6 b due s) 6 n = blockDown s 6 n := by
  unfold blockFault
  extract_lets v h v1 s1
  split
  · rfl
  · split
    · rw [fenceBlock_alone _ rfl (by decide) (by decide), blockDown_of_only (raise_only ..) rfl rfl]
      exact (blockDown_markBlock_other (y := 6) hn ne _).trans rfl
    · rw [blockDown_of_only (raise_only ..) rfl rfl]
      exact blockDown_of_only (P := []) (I := [0x6FF5, 0x6FF6].contains) (s := s1)
        (.sticky (.bump .refl (by simp [h])) (by simp [h])) rfl rfl n

theorem operationDone_aside {b : Fin 2} (ne : b ≠ k) (s : State) : LinkAside k s (operationDone 6 b.val s) where
  toFrameKept := .of_only (operationDone_only ..)
  down := blockDown_of_only (operationDone_only ..) rfl rfl _
  faulted := resultFaulted_of_retry fun _ own => operationDone_retry (fun h => ne (Fin.ext (h.symm.trans own))) s
  noted := flag_congr ((operationDone_only ..).rd rfl)

theorem blockFault_aside {b : Fin 2} (ne : b ≠ k) (due : Bool) (s : State) : LinkAside k s (blockFault 6 b.val due s) where
  toFrameKept := .of_only (blockFault_pd6_only ..)
  down := blockDown_blockFault_other (by omega) (fun h => ne (Fin.ext h.symm)) due s
  faulted := resultFaulted_of_retry fun _ own => blockFault_retry (fun h => ne (Fin.ext (h.symm.trans own))) due s
  noted := flag_congr ((blockFault_pd6_only ..).rd (by simp [anyEventId, idsIn]; omega))

theorem updBank_aside {b : Fin 2} (ne : b ≠ k) (f : BankUnit → BankUnit) (s : State) : LinkAside k s (updBank b.val f s) :=
  .of_only (updBank_only ..) (.updBank .refl (.inl ne)) (by decide) fun _ _ => rfl

theorem updChans_aside {b : Fin 2} (ne : b ≠ k) (f : Nat → ChanUnit → ChanUnit) (s : State) :
    LinkAside k s (updChans b.val f s) :=
  .of_only (updChans_only ..) (.updChans .refl (.inl ne)) (by decide) fun _ _ => rfl

/-- The registers in which a tick edge reports a bank and its channels. -/
def bankReportIds (b : Fin 2) (id : Nat) : Bool :=
  idsIn 0x6005 0x62F6 id || [0x6402 + 16 * b.val, 0x6403 + 16 * b.val, 0x6405 + 16 * b.val].contains id

theorem bankReportIds_chan (b : Fin 2) {ch n : Nat} (h : ch < 48) (hn : n ≤ 1) :
    bankReportIds b (0x6005 + 16 * ch + n) = true := by
  simp [bankReportIds]
  omega

theorem bankReportIds_bank (b : Fin 2) {id : Nat}
    (h : id ∈ [0x6402 + 16 * b.val, 0x6403 + 16 * b.val, 0x6405 + 16 * b.val]) : bankReportIds b id = true := by
  simp [bankReportIds, h]

theorem bankReportIds_of_status {b : Fin 2} (ne : b ≠ k) {id : Nat} (h : linkStatusIds k id = true) :
    bankReportIds b id = false := by
  have : b.val ≠ k.val := fun e => ne (Fin.ext e)
  simp [linkStatusIds] at h
  simp [bankReportIds, idsIn]
  omega

theorem reportChan_only (b : Fin 2) (c : ChanUnit) {ch : Nat} (h : ch < 48) (r : State × List (Nat × Nat)) :
    onlyChanges [.field] (bankReportIds b) r.1 (reportChan c ch r).1 := by
  unfold reportChan
  extract_lets v n id v1
  have noted : onlyChanges [.field] (bankReportIds b) v v1 :=
    .optNot .refl fun _ => .wr .refl (bankReportIds_chan b h (Nat.zero_le 1))
  split
  · exact noted.bump (bankReportIds_chan b h le_rfl)
  · split <;> exact noted

theorem badFrames_only (b : Fin 2) (n : Nat) (ret : Bool) (r : State × List (Nat × Nat)) :
    onlyChanges [.field] (bankReportIds b) r.1 (badFrames b.val n ret r).1 := by
  unfold badFrames
  extract_lets blk id s1
  have counted : onlyChanges [.field] (bankReportIds b) r.1 s1 :=
    .sticky (.bump .refl (bankReportIds_bank b (by simp [id]; omega))) (bankReportIds_bank b (by simp [id]; omega))
  split
  · exact .refl
  · split
    · exact counted
    · exact (updBank_only ..).step counted

theorem reportSafe_only (b : Fin 2) (r : State × List (Nat × Nat)) :
    onlyChanges [.field] (bankReportIds b) r.1 (reportSafe b.val r).1 := by
  unfold reportSafe
  extract_lets v s1 s2 s3
  generalize hs4 : (List.range 24).foldl (fun s i => sticky s (0x6005 + 16 * (24 * b.val + i)) 8) s3 = s4
  have shown : onlyChanges [.field] (bankReportIds b) r.1 s1 := (updBank_only ..).step .refl
  have noted : onlyChanges [.field] (bankReportIds b) s1 s4 := by
    rw [← hs4]
    refine .foldl (.opt (.sticky .refl (bankReportIds_bank b (by simp))) fun _ =>
      .wrFlag .refl (bankReportIds_bank b (by simp))) fun _ n hn => .sticky .refl ?_
    have := List.mem_range.1 hn
    exact bankReportIds_chan b (n := 0) (by omega) (by decide)
  split
  · exact .refl
  · split
    · exact shown
    · exact shown.trans noted

theorem badFrames_aside {b : Fin 2} (ne : b ≠ k) (n : Nat) (ret : Bool) (r : State × List (Nat × Nat)) :
    LinkAside k r.1 (badFrames b.val n ret r).1 :=
  .of_only (badFrames_only ..) (badFrames_kept ..) (by decide) fun _ h => bankReportIds_of_status ne h

/-- What a tick edge reports of bank b once its frame is latched: its channels, whose units were c before, n discarded output frames,
and its safe state (11 R324, R336, R343). -/
def linkReports (b : Fin 2) (c : Nat → ChanUnit) (n : Nat) (r : State × List (Nat × Nat)) : State × List (Nat × Nat) :=
  reportSafe b.val (badFrames b.val n false ((List.range 24).foldl (fun a m => reportChan (c m) (24 * b.val + m) a) r))

theorem linkReports_kept (b : Fin 2) (c : Nat → ChanUnit) (n : Nat) (r : State × List (Nat × Nat)) :
    FrameKept k r.1 (linkReports b c n r).1 :=
  (FrameKept.of_field (foldl_reportChan_field (List.range 24) c (24 * b.val + ·) r)).trans
    ((badFrames_kept ..).trans (reportSafe_kept ..))

theorem linkReports_only (b : Fin 2) (c : Nat → ChanUnit) (n : Nat) (r : State × List (Nat × Nat)) :
    onlyChanges [.field] (bankReportIds b) r.1 (linkReports b c n r).1 := by
  have chans : onlyChanges [.field] (bankReportIds b) r.1
      ((List.range 24).foldl (fun a m => reportChan (c m) (24 * b.val + m) a) r).1 := by
    refine List.foldlRecOn
      (motive := fun q : State × List (Nat × Nat) => onlyChanges [.field] (bankReportIds b) r.1 q.1) _ _ .refl
      fun q hq m hm => hq.trans (reportChan_only b _ ?_ q)
    have := List.mem_range.1 hm
    omega
  exact chans.trans ((badFrames_only ..).trans (reportSafe_only ..))

theorem linkReports_aside {b : Fin 2} (ne : b ≠ k) (c : Nat → ChanUnit) (n : Nat) (r : State × List (Nat × Nat)) :
    LinkAside k r.1 (linkReports b c n r).1 :=
  .of_only (linkReports_only ..) (linkReports_kept ..) (by decide) fun _ h => bankReportIds_of_status ne h

/-- What the link of bank b brings leaves the link of the other bank aside. -/
theorem linkLatch_aside {b : Fin 2} (ne : b ≠ k) (x : BankIn) (r : State × List (Nat × Nat)) :
    LinkAside k r.1 (linkLatch b.val x r).1 := by
  unfold linkLatch
  extract_lets s0 quieter s1 v s2 s3 q
  have quiet : LinkAside k r.1 s1 := updChans_aside ne ..
  have delivered : LinkAside k r.1 (operationDone 6 b.val s1) := quiet.trans (operationDone_aside ne _)
  have latched : LinkAside k r.1 s3 := (delivered.trans (updBank_aside ne ..)).trans (updChans_aside ne ..)
  split
  · exact quiet.trans (updBank_aside ne ..)
  · split
    · exact quiet.trans (updBank_aside ne ..)
    · split
      · have poisoned := quiet.trans (updBank_aside ne (fun u => { u with poison := true }) s1)
        exact (poisoned.trans (blockFault_aside ne false _)).trans (badFrames_aside ne 1 true (_, r.2))
      · split
        · exact delivered.trans (updBank_aside ne ..)
        · exact latched.trans (linkReports_aside ne (fun m => fieldChan s0 (24 * b.val + m)) v.badOut (s3, r.2))

end

end Sys2Proof.Machine
end

section
/-! SUPPORT. What a tick edge latches of a bank's link (11 R323, R324, 12 R372), and O47. -/
set_option Elab.async false

namespace Sys2Proof.Machine

section
variable {s : State} {k : Fin 2} {r : State × List (Nat × Nat)} {x : BankIn}

/-! ### The link's own frame -/

/-- A good return frame is latched where the link serves and no faulted operation of it is due (11 R323, R324). -/
theorem linkLatch_takes (hd : blockDown r.1 6 k.val = false) (hf : (vget r.1.field.bank k).first = false)
    (hr : resultFaulted r.1 6 k.val = false) (hx : x.frameOk = true) :
    (vget (linkLatch k.val x r).1.field.bank k).frame = ⟨false, x.volts, min 65535 x.mA, x.fault, r.1.clk.tick, false⟩ ∧
    ∀ ch : Fin 48, ch.val / 24 = k.val →
      (vget (linkLatch k.val x r).1.field.chan ch).lvl = x.levels.getLsbD (ch.val % 24) := by
  unfold linkLatch
  extract_lets s0 quieter s1 v s2 s3 q
  rw [if_neg (by simp [s0, hd]), if_neg (by simp [s0, bankAt_val, hf]), if_neg (by simp [hx]), if_neg (by simp [s0, hr])]
  have kept : FrameKept k s3 (reportSafe k.val (badFrames k.val v.badOut false q)).1 :=
    linkReports_kept k (fun m => fieldChan s0 (24 * k.val + m)) v.badOut (s3, r.2)
  refine ⟨kept.frame.trans ?_, fun ch own => (kept.level ch own).trans ?_⟩
  · have first : v.first = false := (congrArg BankUnit.first (bankAt_val ..)).trans hf
    rw [updChans_bank, vget_updBank_same]
    exact congrArg (FrameData.mk false x.volts (min 65535 x.mA) x.fault r.1.clk.tick) first
  · rw [vget_updChans, if_pos own]
    exact chanLatch_lvl ..

/-- A bad return frame is counted and its data poisoned, and the data of the frame before stay (11 R324). -/
theorem linkLatch_discards (hd : blockDown r.1 6 k.val = false) (hf : (vget r.1.field.bank k).first = false)
    (hx : x.frameOk = false) :
    (vget (linkLatch k.val x r).1.field.bank k).frame = { (vget r.1.field.bank k).frame with poison := true } ∧
    flag (linkLatch k.val x r).1 (0x6403 + 16 * k.val) 5 = true := by
  unfold linkLatch
  extract_lets s0 quieter s1 v s2 s3 q
  rw [if_neg (by simp [s0, hd]), if_neg (by simp [s0, bankAt_val, hf]), if_pos (by simp [hx])]
  have poisoned : (vget (updBank k.val (fun u => { u with poison := true }) s1).field.bank k).frame =
      { (vget r.1.field.bank k).frame with poison := true } := by
    rw [vget_updBank_same, updChans_bank]
    rfl
  have faulted : FrameKept k _ (blockFault 6 k.val false (updBank k.val (fun u => { u with poison := true }) s1)) :=
    .of_only (blockFault_pd6_only ..)
  exact ⟨(badFrames_kept k 1 true (_, r.2)).frame.trans (faulted.frame.trans poisoned), badFrames_notes ..⟩

/-! ### The tick edge -/

/-- The state in which a tick edge finds the links: its tick counted and its cycle reached. -/
def tickBegun (s : State) : State := advance (s.clk.tickBase + 25000) (countTick s)

/-- The state after both links have brought their frames, with the events to raise. -/
def linksLatched (i : TickIn) (s : State) : State × List (Nat × Nat) :=
  linkLatch 1 (withSegments s 1 i.b) (linkLatch 0 (withSegments s 0 i.a) (tickBegun s, []))

theorem tickBegun_only (s : State) : onlyChanges [.clk] noId s (tickBegun s) := .advance (.set rfl .refl)

theorem tickBegun_aside (k : Fin 2) (s : State) : LinkAside k s (tickBegun s) :=
  .of_only (tickBegun_only s) (.of_only (tickBegun_only s)) (by decide) fun _ _ => rfl

theorem tickBegun_tick (s : State) : (tickBegun s).clk.tick = (s.clk.tick + 1) % 2 ^ 32 := advance_tick ..

/-- The link of bank k brings its frame between what leaves it aside. -/
theorem linksLatched_own (i : TickIn) (k : Fin 2) (s : State) : ∃ r : State × List (Nat × Nat), LinkAside k s r.1 ∧
    r.1.clk.tick = (s.clk.tick + 1) % 2 ^ 32 ∧
    LinkAside k (linkLatch k.val (withSegments s k (if k = 0 then i.a else i.b)) r).1 (linksLatched i s).1 := by
  match k with
  | 0 => exact ⟨(tickBegun s, []), tickBegun_aside .., tickBegun_tick s, linkLatch_aside (b := 1) (by decide) ..⟩
  | 1 =>
    obtain ⟨first, -⟩ : reporting linkParts linkIds (tickBegun s) (linkLatch 0 (withSegments s 0 i.a) (tickBegun s, [])) :=
      linkLatch_reporting (by decide) .start
    have tick := congrArg Clock.tick (first.part .clk)
    exact ⟨_, (tickBegun_aside ..).trans (linkLatch_aside (b := 0) (by decide) _ (tickBegun s, [])),
      tick.trans (tickBegun_tick s), .refl⟩

/-- What a tick edge does after the links have brought their frames. -/
theorem execTickEdge_links (hc : s.clk.core = true) (ht : s.clk.ticks = true) (i : TickIn) (k : Fin 2) : ∃ t,
    execTickEdge i s = .next t ∧ FrameKept k (linksLatched i s).1 t ∧
    flag t (0x6403 + 16 * k.val) 5 = flag (linksLatched i s).1 (0x6403 + 16 * k.val) 5 ∧
    ((vget s.field.bank k).first = false → (withSegments s k (if k = 0 then i.a else i.b)).frameOk = false →
      vget t.filt.carry k = 3) := by
  unfold execTickEdge
  rw [if_neg (by simp [hc, ht])]
  extract_lets _ c s1 q bad carry _ _ s2 s3 s4
  have latched : q = linksLatched i s := rfl
  obtain ⟨-, known⟩ : reporting linkParts linkIds s1 q :=
    linkLatch_reporting (by decide) (linkLatch_reporting (by decide) .start)
  have raised : onlyChanges [.line, .ev] anyEventId s2 s3 := .raiseAll (.advance .refl) known rfl fun _ h => h
  have sent : onlyChanges [.field, .servo] noId s3 (servoLatch s4) :=
    (servoLatch_only _).step ((linkSend_only ..).step ((linkSend_only ..).step .refl))
  rw [← latched]
  refine ⟨_, rfl, ?_, ?_, fun hf hx => ?_⟩
  · have framed : FrameKept k s2 s4 := (FrameKept.of_only raised).trans ((linkSend_kept 0 _ _).trans (linkSend_kept 1 _ _))
    exact (FrameKept.of_field (s := q.1) (t := s2) rfl).trans (framed.trans (.of_only (servoLatch_only _)))
  · rw [flag_congr (sent.rd rfl), flag_congr (raised.rd (by simp [anyEventId]; omega))]
    rfl
  · have filt : (servoLatch s4).filt = s2.filt := (sent.part .filt).trans (raised.part .filt)
    have bad_k : (vget s.filt.bad k || bad k) = true := by
      simp only [withSegments, Bool.and_eq_false_iff, Bool.not_eq_false'] at hx
      rcases hx with hx | hx <;> simp [bad, hf, hx]
    rw [filt]
    exact (Vector.getElem_ofFn ..).trans (if_pos bad_k)

end

/-- Settles O47: the tick edge by what the bank's link brings, between effects that leave that link aside, and each row of a bank or a
channel by the lemma on what it leaves. -/
theorem fieldEvents : Obligations.FieldEvents := by
  refine ⟨?latch, ?discard, ?entry, ?exit, ?debounce, ?cutoff, ?restart, ?supply, ?trip, ?silence, ?resume, ?mode⟩
  case latch =>
    intro i k s hc ht hd hf hr hx
    obtain ⟨r, before, tick, after⟩ := linksLatched_own i k s
    obtain ⟨t, htk, kept, -⟩ := execTickEdge_links hc ht i k
    obtain ⟨frame, level⟩ := linkLatch_takes (before.down.trans hd) ((congrArg FrameData.first before.frame).trans hf)
      (before.faulted.trans hr) hx
    have whole := after.toFrameKept.trans kept
    have shown := whole.frame.trans frame
    rw [tick] at shown
    exact ⟨t, htk, congrArg FrameData.poison shown, congrArg FrameData.volts shown, congrArg FrameData.mA shown,
      congrArg FrameData.fault shown, congrArg FrameData.tick shown, fun ch own => (whole.level ch own).trans (level ch own)⟩
  case discard =>
    intro i k s hc ht hd hf hx
    obtain ⟨r, before, -, after⟩ := linksLatched_own i k s
    obtain ⟨t, htk, kept, noted, carry⟩ := execTickEdge_links hc ht i k
    obtain ⟨frame, flagged⟩ := linkLatch_discards (before.down.trans hd) ((congrArg FrameData.first before.frame).trans hf) hx
    have shown := (after.toFrameKept.trans kept).frame.trans frame
    rw [before.frame] at shown
    exact ⟨t, htk, congrArg FrameData.poison shown, congrArg FrameData.volts shown, congrArg FrameData.tick shown,
      noted.trans (after.noted.trans flagged), carry hf hx⟩
  case entry => exact fun _ _ hc hd => execDiagCommonEntry_enters hc hd
  case exit => exact fun _ _ hc hd => execDiagCommonExit_exits hc hd
  case debounce => exact fun _ _ hc hr hq => execDiDebounce_reports hc hr hq
  case cutoff => exact fun _ th _ hm hd => execDoOverloadCutoff_cuts th hm hd
  case restart => exact fun _ _ hc he hw => execDoRestart_restarts hc he hw
  case supply => exact fun _ _ hr hc => execBankSupplyChange_changes hr hc
  case trip => exact fun _ _ ht ho => execBankOvercurrentTrip_trips ht ho
  case silence => exact fun _ _ hs hd => execSilenceTimeout_silences hs hd
  case resume => exact fun _ _ hs hl hv => execSilenceResume_resumes hs hl hv
  case mode => exact fun _ _ _ hm hj => execModeChangeEffect_changes hm hj

end Sys2Proof.Machine
end

section
set_option Elab.async false

namespace Sys2Proof.Machine

/-- Settles O1: a step takes the command at the front from the queue and is its `exec` by definition. -/
theorem stepRunsFront : Obligations.StepRunsFront := fun _ _ _ => rfl

/-- Settles O2 (log 1). -/
theorem emptyQueueIdles : Obligations.EmptyQueueIdles := by
  intro s h
  unfold step
  rw [h]

/-- Settles O6: the register file and the snapshot list nothing, no cause stands and the queue is empty. -/
theorem invAtReset : Obligations.InvAtReset := ⟨⟨rfl, rfl⟩, fun _ => rfl, Nat.zero_le _⟩

end Sys2Proof.Machine
end

section
/-! SUPPORT. The frames of the CAN, Ethernet and time events (13 R379-R392, 14 R407-R429), and O55. -/
set_option Elab.async false

namespace Sys2Proof.Machine

section

/-! ### CAN controllers -/

/-- The registers that a change of the error counts of a controller may change. -/
@[simp] def errIds (b id : Nat) : Bool := anyEventId id || [canId b 9, canId b 0x25].contains id

theorem errChange_only (b : Nat) (was : CanCtl) (s : State) :
    onlyChanges [.can, .line, .ev] (errIds b) s (errChange b was s) :=
  .ite .refl (.ite (.raise (.bump (.sticky ((updCan_only ..).step .refl)))) (.ite (.raise (.sticky .refl)) (.raiseIf .refl)))

theorem attemptFailed_only (b : Nat) (e : TxEntry) (s : State) :
    onlyChanges [.can] (fun id => id == canId b 0x24) s (attemptFailed b e s) :=
  .ite (.bump ((updCan_only ..).step .refl)) (.ite ((updCan_only ..).step .refl) .refl)

/-- The registers that a failed transmission may change. -/
@[simp] def sendErrorIds (b id : Nat) : Bool :=
  anyEventId id || [canId b 9, canId b 0x22, canId b 0x24, canId b 0x25].contains id

theorem sendError_only (b : Nat) (e : TxEntry) (n : Nat) (s : State) :
    onlyChanges [.can, .line, .ev] (sendErrorIds b) s (sendError b e n s) :=
  (errChange_only ..).step ((attemptFailed_only ..).step ((updCan_only ..).step (.bump .refl)))

/-- The registers that the end of a transmission may change. -/
@[simp] def txIds (b id : Nat) : Bool :=
  anyEventId id || [canId b 9, canId b 0x20, canId b 0x22, canId b 0x24, canId b 0x25].contains id

theorem execCanTxComplete_framed (c : Nat) (b : Fin 4) (d : Nat) (s : State) :
    framed [.twin, .can, .line, .ev, .yards] (txIds b.val) s (execCanTxComplete c b d s) := by
  unfold execCanTxComplete
  extract_lets s0 k u
  change framed _ (txIds k) s _
  have begun : onlyChanges [.twin, .can, .line, .ev, .yards] (txIds k) s s0 := (operationDone_only ..).step (.advance .refl)
  split
  · exact .next begun
  · extract_lets tdc sent s1 s2
    have marked : onlyChanges [.twin, .can, .line, .ev, .yards] (txIds k) s sent := (updCan_only ..).step begun
    have counted : onlyChanges [.twin, .can, .line, .ev, .yards] (txIds k) s s1 := (updCan_only ..).step (.bump marked)
    have confirmed : onlyChanges [.twin, .can, .line, .ev, .yards] (txIds k) s s2 := by
      dsimp only [s2]
      split
      · exact (updTwin_only ..).step counted
      · exact counted
    exact .ite (.next begun) (.ite (.next ((sendError_only ..).step marked)) (.next ((errChange_only ..).step (.raiseIf confirmed))))

theorem execCanAckError_framed (c : Nat) (b : Fin 4) (s : State) :
    framed [.can, .line, .ev] (sendErrorIds b.val) s (execCanAckError c b s) := by
  unfold execCanAckError
  extract_lets s0 k u n
  change framed _ (sendErrorIds k) s _
  have begun : onlyChanges [.can, .line, .ev] (sendErrorIds k) s s0 := .advance .refl
  split
  · exact .next begun
  · extract_lets s1 s2
    have counted : onlyChanges [.can, .line, .ev] (sendErrorIds k) s s1 := (updCan_only ..).step (.bump begun)
    have marked : onlyChanges [.can, .line, .ev] (sendErrorIds k) s s2 := .ite (.sticky counted) counted
    exact .ite (.next begun) (.next ((errChange_only ..).step ((attemptFailed_only ..).step (.raiseIf marked))))

theorem enterClash_only (b : Nat) (e : TxEntry) (s : State) : onlyChanges [.can] noId s (enterClash b e s).1 := by
  unfold enterClash
  dsimp only
  split
  · exact .refl
  · exact updCan_only ..

/-- The registers that a clash may change. -/
@[simp] def clashIds (b id : Nat) : Bool :=
  anyEventId id || [canId b 9, canId b 0x22, canId b 0x23, canId b 0x24, canId b 0x25].contains id

theorem execCanClash_framed (c : Nat) (b : Fin 4) (s : State) :
    framed [.can, .line, .ev] (clashIds b.val) s (execCanClash c b s) := by
  unfold execCanClash
  extract_lets s0 k u
  change framed _ (clashIds k) s _
  have begun : onlyChanges [.can, .line, .ev] (clashIds k) s s0 := .advance .refl
  split
  · exact .next begun
  · extract_lets s1 r _ _ s2
    have counted : onlyChanges [.can, .line, .ev] (clashIds k) s s1 := (updCan_only ..).step (.bump (.bump (.sticky begun)))
    have entered : onlyChanges [.can, .line, .ev] (clashIds k) s r.1 := (enterClash_only ..).step counted
    have dropped : onlyChanges [.can, .line, .ev] (clashIds k) s s2 :=
      .ite (.bump (.sticky ((updCan_only ..).step entered))) ((attemptFailed_only ..).step entered)
    exact .ite (.next begun) (.next ((errChange_only ..).step (.raise dropped)))

theorem execCanBusError_framed (c : Nat) (b : Fin 4) (e : CanError) (s : State) :
    framed [.can, .line, .ev] (sendErrorIds b.val) s (execCanBusError c b e s) := by
  unfold execCanBusError
  extract_lets s0 k u s1
  change framed _ (sendErrorIds k) s _
  have begun : onlyChanges [.can, .line, .ev] (sendErrorIds k) s s0 := .advance .refl
  have counted : onlyChanges [.can, .line, .ev] (sendErrorIds k) s s1 := (updCan_only ..).step (.bump begun)
  refine .ite (.next begun) (.ite (.next counted) (.ite ?_ (.next ((errChange_only ..).step ((updCan_only ..).step counted)))))
  split
  · exact .next counted
  · exact .next ((sendError_only ..).step ((updCan_only ..).step begun))

theorem execCanBusOffRecovery_framed (c : Nat) (b : Fin 4) (s : State) :
    framed [.can, .line, .ev] anyEventId s (execCanBusOffRecovery c b s) :=
  .ite (.next .refl) (.next (.raise ((updCan_only ..).step (.advance .refl)) (by decide) rfl fun _ => id))

theorem execCanEnableEffect_framed (b : Fin 4) (w : Bool) (s : State) :
    framed [.can] (fun _ => false) s (execCanEnableEffect b w s) := by
  have changed : ∀ f, onlyChanges [.can] (fun _ => false) s (updCan b.val f (advance s.clk.beatBase s)) := fun _ =>
    (updCan_only ..).step (.advance .refl)
  exact .ite (.next .refl) (.ite (.ite (.next (.advance .refl)) (.ite (.next (changed _)) (.next (changed _))))
    (.ite (.next (.advance .refl)) (.next (changed _))))

theorem execCanIntegrationDone_framed (c : Nat) (b : Fin 4) (s : State) :
    framed [.can] (fun _ => false) s (execCanIntegrationDone c b s) :=
  .ite (.next .refl) (.next ((updCan_only ..).step (.advance .refl)))

/-- The registers that a received frame may change. -/
@[simp] def rxIds (b id : Nat) : Bool := anyEventId id || [canId b 9, canId b 0x21, canId b 0x25].contains id

theorem takeFree_only (s : State) : onlyChanges [.free] noId s (takeFree s).2 := .set rfl .refl

theorem execCanFrameReceived_framed (c : Nat) (b : Fin 4) (f : CanFrame) (s : State) :
    framed [.free, .can, .line, .ev, .yards] (rxIds b.val) s (execCanFrameReceived c b f s) := by
  unfold execCanFrameReceived
  extract_lets s0 k u s1 fr s2 s3
  change framed _ (rxIds k) s _
  have begun : onlyChanges [.free, .can, .line, .ev, .yards] (rxIds k) s s0 := (operationDone_only ..).step (.advance .refl)
  have counted : onlyChanges [.free, .can, .line, .ev, .yards] (rxIds k) s s1 := .bump begun
  have heard : onlyChanges [.free, .can, .line, .ev, .yards] (rxIds k) s s2 :=
    .ite counted (.ite ((updCan_only ..).step ((takeFree_only s1).step counted)) ((updCan_only ..).step counted))
  have settled : onlyChanges [.free, .can, .line, .ev, .yards] (rxIds k) s s3 := (errChange_only ..).step heard
  exact .ite (.next begun) (.next (.ite (.sticky ((updCan_only ..).step settled)) settled))

/-! ### Ethernet ports -/

theorem eth_only (x : Vector EthPort 2) (s : State) : onlyChanges [.eth] noId s { s with eth := x } := .set rfl .refl

theorem execEthLinkChange_framed (c : Nat) (e : Fin 2) (u : Bool) (s : State) : framed [.eth, .line, .ev]
    (fun id => anyEventId id || [ethId e 5, ethId e 6].contains id) s (execEthLinkChange c e u s) :=
  .ite (.next (.advance .refl)) (.ite (.next ((announceAddress_only ..).step (.raise (.wrFlag (.advance .refl)))))
    (.next (.raise (.sticky (.wrFlag (.advance .refl))))))

/-- The registers that an arriving Ethernet frame may change. -/
@[simp] def ethRxIds (e : Fin 2) (id : Nat) : Bool := anyEventId id || [ethId e 6, ethId e 7, ethId e 9].contains id

theorem ethOverflow_only (e : Fin 2) (s : State) : onlyChanges [.eth, .line, .ev] (ethRxIds e) s (ethOverflow e s) := by
  unfold ethOverflow
  extract_lets s1 blk
  have counted : onlyChanges [.eth, .line, .ev] (ethRxIds e) s s1 := .sticky (.bump .refl)
  exact .ite counted (.raise ((eth_only ..).step counted))

theorem execEthFrameRx_framed (c : Nat) (e : Fin 2) (f : EthFrame) (s : State) :
    framed [.eth, .line, .ev] (ethRxIds e) s (execEthFrameRx c e f s) := by
  have begun : onlyChanges [.eth, .line, .ev] (ethRxIds e) s (advance c s) := .advance .refl
  exact .ite (.next begun) (.ite (.next (.bump begun)) (.ite (.next begun) (.ite (.next ((ethOverflow_only ..).step begun))
    (.ite (.next (.sticky (.bump begun))) (.ite (.next (.bump begun)) (.next (.bump begun)))))))

theorem execEthFrameTx_framed (c : Nat) (e : Fin 2) (s : State) :
    framed [.time, .eth] (fun id => id == ethId e 8) s (execEthFrameTx c e s) := by
  unfold execEthFrameTx
  extract_lets s0
  have begun : onlyChanges [.time, .eth] (fun id => id == ethId e 8) s s0 := .advance .refl
  split
  · exact .next begun
  · extract_lets s1
    have sent : onlyChanges [.time, .eth] (fun id => id == ethId e 8) s s1 := .bump ((eth_only ..).step begun)
    split
    · exact .next (.set rfl sent)
    · exact .next sent

theorem execArpRequest_framed (c : Nat) (e : Fin 2) (x i : Word) (m : BitVec 48) (s : State) :
    framed [.eth] (fun _ => false) s (execArpRequest c e x i m s) :=
  .ite (.next (.ethQueue (.advance .refl))) (.next (.advance .refl))

theorem execIcmpEcho_framed (c : Nat) (p : Peer) (x : Word) (d : List Byte) (s : State) :
    framed [.eth] (fun _ => false) s (execIcmpEcho c p x d s) :=
  .ite (.next (.ethQueue (.advance .refl))) (.next (.advance .refl))

theorem execIgmpQuery_framed (c : Nat) (e : Fin 2) (g : Option (Fin 16)) (s : State) :
    framed [.eth] (fun _ => false) s (execIgmpQuery c e g s) :=
  .ite (.next (.advance .refl)) (.next (.foldl (.advance .refl) fun _ _ _ => .ethQueue .refl))

end

end Sys2Proof.Machine
end

section
/-! SUPPORT. The frames of the time slots' events and of PTP (14 R414-R429), and O55. -/
set_option Elab.async false

namespace Sys2Proof.Machine

section

/-! ### Time slots -/

theorem time_only (x : TimeKeeper) (s : State) : onlyChanges [.time] noId s { s with time := x } := .set rfl .refl

theorem updSlot_only (d : Fin 2) (f : TimeSlot → TimeSlot) (s : State) : onlyChanges [.time] noId s (updSlot d f s) := time_only ..

/-- The events of a slot's change, with others of the same edge. -/
theorem slotEvents_more_only {l : List (Nat × Nat)} (b : State) (d : Fin 2) (s : State) (h : ∀ e ∈ l, e.1 < 128) :
    onlyChanges [.line, .ev] anyEventId s (slotEvents b d l s) :=
  .raiseAll .refl (known_append h (eventsWhen_known (by simp)))

theorem execAcquisitionRunEnd_framed (d : Fin 2) (s : State) :
    framed [.time, .line, .ev] anyEventId s (execAcquisitionRunEnd d s) := by
  unfold execAcquisitionRunEnd
  split
  · exact .next .refl
  · extract_lets s0 _ m t1
    have changed : ∀ f, onlyChanges [.time, .line, .ev] anyEventId s (updSlot d f s0) := fun _ =>
      (updSlot_only ..).step (.advance .refl)
    exact .ite (.next (.advance .refl)) (.ite (.next ((slotEvents_only ..).step (changed _) rfl fun _ => id)) (.next (changed _)))

theorem execAcquisitionRunBreak_framed (d : Fin 2) (s : State) :
    framed [.time] (fun _ => false) s (execAcquisitionRunBreak d s) := by
  unfold execAcquisitionRunBreak
  split
  · exact .next .refl
  · exact .next ((updSlot_only ..).step (.advance .refl))

/-- The registers that a change of the reported time may change: the sticky bits of time. -/
@[simp] def timeIds (id : Nat) : Bool := anyEventId id || (id == 0x7206)

theorem execSlotHoldover_framed (d : Fin 2) (s : State) : framed [.time, .line, .ev] timeIds s (execSlotHoldover d s) :=
  .ite (.next .refl) (.next ((slotEvents_only ..).step (.sticky ((updSlot_only ..).step (.advance .refl)))))

theorem execSlotFreeRun_framed (d : Fin 2) (s : State) : framed [.time, .line, .ev] timeIds s (execSlotFreeRun d s) :=
  .ite (.next .refl) (.next ((slotEvents_only ..).step (.sticky ((updSlot_only ..).step (.advance .refl)))))

theorem stepR_only (s : State) : onlyChanges [.time] (fun id => id == 0x7206) s (stepR s) := .sticky (.set rfl .refl)

theorem execSlotStep_framed (c : Nat) (d : Fin 2) (s : State) :
    framed [.time, .line, .ev] timeIds s (execSlotStep c d s) := by
  unfold execSlotStep
  extract_lets s0 t active
  have begun : onlyChanges [.time, .line, .ev] timeIds s s0 := .advance .refl
  split
  · exact .next begun
  · extract_lets err t1 s1 s2
    have stored : onlyChanges [.time, .line, .ev] timeIds s s1 := (updSlot_only ..).step begun
    have stepped : onlyChanges [.time, .line, .ev] timeIds s s2 := .ite ((stepR_only _).step stored) stored
    exact .ite (.next begun) (.next ((slotEvents_more_only _ _ _ (eventsWhen_known (by simp))).step stepped))

theorem execTimeSwitchAuto_framed (c : Nat) (s : State) : framed [.time, .line, .ev] timeIds s (execTimeSwitchAuto c s) := by
  have begun : onlyChanges [.time, .line, .ev] timeIds s (advance c s) := .advance .refl
  exact .ite (.next begun) (.ite (.next ((switchSlot_only ..).step begun)) (.ite (.next ((switchSlot_only ..).step begun))
    (.next begun)))

theorem execSwitchStep_framed (c : Nat) (s : State) : framed [.time, .line, .ev] timeIds s (execSwitchStep c s) :=
  .ite (.next (.advance .refl)) (.next (.raise ((stepR_only _).step (.set rfl (.advance .refl)))))

theorem execSwitchSlewEnd_framed (c : Nat) (s : State) : framed [.time] (fun _ => false) s (execSwitchSlewEnd c s) :=
  .ite (.next (.advance .refl)) (.next (.set rfl (.advance .refl)))

theorem execLeapSecond_framed (c : Nat) (s : State) : framed [.time] (fun _ => false) s (execLeapSecond c s) := by
  unfold execLeapSecond
  extract_lets s0
  have begun : onlyChanges [.time] (fun _ => false) s s0 := .advance .refl
  split
  · exact .next begun
  · exact .ite (.next begun) (.next (.set rfl begun))

/-! ### PTP -/

theorem rejectMsg_only (d : Fin 2) (s : State) : onlyChanges [] (fun id => id == slotId d 10) s (rejectMsg d s) := .bump .refl

theorem runBmca_only (d : Fin 2) (s : State) : onlyChanges [.time, .line, .ev] anyEventId s (runBmca d s) := by
  unfold runBmca
  extract_lets t b same s1 move
  have changed : onlyChanges [.time, .line, .ev] anyEventId s s1 := (updSlot_only ..).step .refl
  exact .ite ((updSlot_only ..).step .refl) (.raiseIf changed (by decide) rfl fun _ => id)

theorem execPtpAnnounce_framed (c : Nat) (e d : Fin 2) (m : AnnounceMsg) (s : State) : framed [.time, .line, .ev]
    (fun id => anyEventId id || (id == slotId d 10)) s (execPtpAnnounce c e d m s) := by
  unfold execPtpAnnounce
  extract_lets s0 f t old f1 s1 s2
  have begun : onlyChanges [.time, .line, .ev] (fun id => anyEventId id || (id == slotId d 10)) s s0 := .advance .refl
  have entered : onlyChanges [.time, .line, .ev] (fun id => anyEventId id || (id == slotId d 10)) s s1 :=
    (runBmca_only ..).step ((updSlot_only ..).step begun)
  have refreshed : onlyChanges [.time, .line, .ev] (fun id => anyEventId id || (id == slotId d 10)) s s2 :=
    (refreshUtc_only _).step entered
  refine .ite (.next begun) (.ite (.next ((rejectMsg_only ..).step begun)) (.ite (.next begun) (.ite ?_ (.next entered))))
  split
  · exact .next refreshed
  · exact .next (.set rfl refreshed)

theorem execAnnounceTimeout_framed (c : Nat) (d : Fin 2) (s : State) :
    framed [.time, .line, .ev] anyEventId s (execAnnounceTimeout c d s) := by
  unfold execAnnounceTimeout
  extract_lets s0
  have begun : onlyChanges [.time, .line, .ev] anyEventId s s0 := .advance .refl
  split
  · exact .next begun
  · extract_lets s1
    have dropped : onlyChanges [.time, .line, .ev] anyEventId s s1 :=
      (runBmca_only ..).step ((updSlot_only ..).step begun) rfl fun _ => id
    exact .ite (.next begun) (.next (.ite ((refreshUtc_only _).step dropped) dropped))

theorem syncComplete_only (d : Fin 2) (x : Int) (s : State) :
    onlyChanges [.time] (fun id => id == slotId d 10) s (syncComplete d x s) := by
  unfold syncComplete
  extract_lets s1 t current resp
  have kept : onlyChanges [.time] (fun id => id == slotId d 10) s s1 := (updSlot_only ..).step .refl
  split
  · exact kept
  · exact .ite ((slotMeasure_only ..).step kept) kept

theorem execPtpSync_framed (c : Nat) (e d : Fin 2) (m : PtpMsg) (s : State) :
    framed [.time] (fun id => id == slotId d 10) s (execPtpSync c e d m s) := by
  have begun : onlyChanges [.time] (fun id => id == slotId d 10) s (advance c s) := .advance .refl
  exact .ite (.next begun) (.ite (.next ((rejectMsg_only ..).step begun)) (.ite (.next begun)
    (.ite (.next ((updSlot_only ..).step begun)) (.next ((syncComplete_only ..).step begun)))))

theorem execPtpFollowUp_framed (c : Nat) (e d : Fin 2) (m : PtpMsg) (s : State) :
    framed [.time] (fun id => id == slotId d 10) s (execPtpFollowUp c e d m s) := by
  have begun : onlyChanges [.time] (fun id => id == slotId d 10) s (advance c s) := .advance .refl
  refine .ite (.next begun) (.ite (.next ((rejectMsg_only ..).step begun)) (.ite (.next begun) ?_))
  split
  · exact .next begun
  · exact .ite (.next begun) (.next ((syncComplete_only ..).step begun))

theorem execPtpDelayResp_framed (c : Nat) (e d : Fin 2) (m : PtpMsg) (s : State) :
    framed [.time] (fun id => id == slotId d 10) s (execPtpDelayResp c e d m s) := by
  unfold execPtpDelayResp
  extract_lets s0 t s1
  have begun : onlyChanges [.time] (fun id => id == slotId d 10) s s0 := .advance .refl
  have answered : onlyChanges [.time] (fun id => id == slotId d 10) s s1 := (updSlot_only ..).step begun
  refine .ite (.next begun) (.ite (.next ((rejectMsg_only ..).step begun)) (.ite (.next begun) ?_))
  split
  · split
    · exact .ite (.next answered) (.next ((updSlot_only ..).step answered))
    · exact .next answered
  · exact .next answered

theorem execDelayReqSend_framed (d : Fin 2) (n : Nat) (s : State) :
    framed [.time, .eth] (fun _ => false) s (execDelayReqSend d n s) := by
  unfold execDelayReqSend
  extract_lets t
  split
  · exact .next .refl
  · exact .ite (.next .refl) (.next ((updSlot_only ..).step (.ethQueue (.advance .refl))))

/-! ### The time pulse -/

theorem rtcSet_only (s : State) : onlyChanges [.power] noId s (rtcSet s) := .ite (.set rfl .refl) .refl

theorem execPpsPulse_framed (c : Nat) (s : State) : framed [.time, .power, .line, .ev]
    (fun id => anyEventId id || [0x7206, 0x7208].contains id) s (execPpsPulse c s) := by
  unfold execPpsPulse
  extract_lets s0 s1
  have begun : onlyChanges [.time, .power, .line, .ev] (fun id => anyEventId id || [0x7206, 0x7208].contains id) s s0 := .advance .refl
  have clocked : onlyChanges [.time, .power, .line, .ev] (fun id => anyEventId id || [0x7206, 0x7208].contains id) s s1 :=
    (rtcSet_only _).step begun
  refine .ite (.next begun) (.ite (.next clocked) ?_)
  split
  · exact .next clocked
  · exact .ite (.next (.raise (.sticky (.bump clocked)))) (.next (.set rfl clocked))

theorem execPpsPulseEnd_framed (s : State) : framed [.time] (fun _ => false) s (execPpsPulseEnd s) := by
  unfold execPpsPulseEnd
  split
  · exact .next .refl
  · exact .next (.set rfl (.advance .refl))

end

/-- Settles O55: the frame of each command's exec function, by the calculus of frames. -/
theorem networkFrames : Obligations.NetworkFrames :=
  ⟨execCanTxComplete_framed, execCanAckError_framed, execCanClash_framed, execCanBusError_framed, execCanBusOffRecovery_framed,
    execCanEnableEffect_framed, execCanIntegrationDone_framed, execCanFrameReceived_framed, execEthLinkChange_framed,
    execEthFrameRx_framed, execEthFrameTx_framed, execArpRequest_framed, execIcmpEcho_framed, execIgmpQuery_framed,
    execPtpAnnounce_framed, execAnnounceTimeout_framed, execPtpSync_framed, execPtpFollowUp_framed, execPtpDelayResp_framed,
    execDelayReqSend_framed, execAcquisitionRunEnd_framed, execAcquisitionRunBreak_framed, execSlotHoldover_framed,
    execSlotFreeRun_framed, execSlotStep_framed, execTimeSwitchAuto_framed, execSwitchStep_framed, execSwitchSlewEnd_framed,
    execLeapSecond_framed, execPpsPulse_framed, execPpsPulseEnd_framed⟩

end Sys2Proof.Machine
end

section
/-! SUPPORT. The invariant and fail-silence as a calculus (15 R439, 17 R505): what an effect keeps of the register files, the
event queue and the halter, shown along the operations that it is made of. -/
set_option Elab.async false

namespace Sys2Proof.Machine

/-! ### The canonical form of a register file -/

theorem Regs.wf_iff {r : Regs} : r.wf = true ↔ r.Pairwise (fun a b => a.1 < b.1) ∧ ∀ x ∈ r, x.2 ≠ resetWord x.1 := by
  simp [Regs.wf]

theorem Regs.wf_filter {r : Regs} (f : Nat × Word → Bool) (h : r.wf = true) : Regs.wf (r.filter f) = true := by
  obtain ⟨rising, listed⟩ := Regs.wf_iff.1 h
  exact Regs.wf_iff.2 ⟨rising.filter f, fun x hx => listed x (List.mem_of_mem_filter hx)⟩

theorem mem_regInsert {id : Nat} {w : Word} {r : Regs} {x : Nat × Word} (h : x ∈ regInsert id w r) : x = (id, w) ∨ x ∈ r := by
  induction r with
  | nil => simpa [regInsert] using h
  | cons y r ih =>
    unfold regInsert at h
    split at h
    · simpa using h
    · rcases List.mem_cons.1 h with rfl | h
      · simp
      · exact (ih h).imp_right (List.mem_cons_of_mem y)

theorem regInsert_rising {id : Nat} {w : Word} {r : Regs} (h : r.Pairwise fun a b => a.1 < b.1) (hid : ∀ x ∈ r, x.1 ≠ id) :
    (regInsert id w r).Pairwise fun a b => a.1 < b.1 := by
  induction r with
  | nil => simp [regInsert]
  | cons y r ih =>
    obtain ⟨above, rising⟩ := List.pairwise_cons.1 h
    unfold regInsert
    split
    next lt =>
      refine List.pairwise_cons.2 ⟨fun x hx => ?_, h⟩
      rcases List.mem_cons.1 hx with rfl | hx
      · exact lt
      · exact lt.trans (above x hx)
    next ge =>
      refine List.pairwise_cons.2 ⟨fun x hx => ?_, ih rising fun x hx => hid x (List.mem_cons_of_mem y hx)⟩
      rcases mem_regInsert hx with rfl | hx
      · exact lt_of_le_of_ne (not_lt.1 ge) (hid y (by simp))
      · exact above x hx

theorem Regs.wf_regSet {r : Regs} (id : Nat) (w : Word) (h : r.wf = true) : (regSet r id w).wf = true := by
  have dropped : Regs.wf (regDrop id r) = true := Regs.wf_filter _ h
  unfold regSet
  split
  · exact dropped
  next hw =>
    obtain ⟨rising, listed⟩ := Regs.wf_iff.1 dropped
    refine Regs.wf_iff.2 ⟨regInsert_rising rising fun x hx => ?_, fun x hx => ?_⟩
    · simpa using (List.mem_filter.1 hx).2
    · rcases mem_regInsert hx with rfl | hx
      · exact hw
      · exact listed x hx

/-- Writes one after another, of which some may be left out. -/
theorem Regs.wf_foldl {α : Type} (l : List α) {f : Regs → α → Regs} (hf : ∀ r a, r.wf = true → (f r a).wf = true) {r : Regs}
    (h : r.wf = true) : Regs.wf (l.foldl f r) = true :=
  List.foldlRecOn (motive := fun r : Regs => r.wf = true) l f h fun r hr a _ => hf r a hr

/-! ### The calculus -/

/-- An effect keeps the invariant, and a fail-silent unit stays so, with its cause and without the halter. -/
structure Keeps (s t : State) : Prop where
  regs : regsOk s → regsOk t
  halter : halterOk s → halterOk t
  queue : queueOk s → queueOk t
  silent : failSilent s = true → t.twin.cause = s.twin.cause ∧ (s.twin.holds = false → t.twin.holds = false)

/-- A state with the registers, the queue and the halter of another: what the invariant and fail-silence speak of. -/
def withWatched (t u : State) : State :=
  { u with
    regs := t.regs, snap := t.snap
    twin := { u.twin with cause := t.twin.cause, holds := t.twin.holds }
    ev := { u.ev with queue := t.ev.queue } }

section
variable {s t u : State}

theorem Keeps.inv (k : Keeps s t) (h : Inv s) : Inv t := by
  obtain ⟨regs, halter, queue⟩ := h
  exact ⟨k.regs regs, k.halter halter, k.queue queue⟩

theorem Keeps.refl : Keeps s s := ⟨id, id, id, fun _ => ⟨rfl, id⟩⟩

theorem Keeps.trans (h : Keeps s t) (k : Keeps t u) : Keeps s u where
  regs := k.regs ∘ h.regs
  halter := k.halter ∘ h.halter
  queue := k.queue ∘ h.queue
  silent hs := by
    obtain ⟨cause, without⟩ := h.silent hs
    obtain ⟨cause', without'⟩ := k.silent (by rw [failSilent, cause]; exact hs)
    exact ⟨cause'.trans cause, without' ∘ without⟩

/-- One effect after another. -/
theorem Keeps.step (k : Keeps t u) (h : Keeps s t) : Keeps s u := h.trans k

/-- An effect on the files of registers. -/
theorem Keeps.files {r q : Regs} (h : Keeps s t) (hr : regsOk t → r.wf = true ∧ q.wf = true) :
    Keeps s { t with regs := r, snap := q } := h.trans ⟨hr, id, id, fun _ => ⟨rfl, id⟩⟩

/-- An effect on parts of which neither the invariant nor fail-silence speaks. -/
theorem Keeps.set (hu : withWatched t u = u) (h : Keeps s t) : Keeps s u := by
  rw [← hu]
  exact h.trans ⟨id, id, id, fun _ => ⟨rfl, id⟩⟩

/-- An effect that leaves the registers, the queue and the twin unit as they are. -/
theorem Keeps.same (hr : u.regs = t.regs) (hs : u.snap = t.snap) (ht : u.twin = t.twin) (hq : u.ev.queue = t.ev.queue)
    (h : Keeps s t) : Keeps s u := by
  refine .set ?_ h
  rw [withWatched, ← hr, ← hs, ← ht, ← hq]

/-- A register file that is made from that of an earlier state. -/
theorem Keeps.regsFrom {r : Regs} (h : Keeps s t) (hr : s.regs.wf = true → r.wf = true) : Keeps s { t with regs := r } where
  regs ok := ⟨hr ok.1, (h.regs ok).2⟩
  halter := h.halter
  queue := h.queue
  silent := h.silent

theorem Keeps.regsTo {r : Regs} (h : Keeps s t) (hr : t.regs.wf = true → r.wf = true) : Keeps s { t with regs := r } :=
  h.trans (Keeps.refl.regsFrom hr)

/-- An effect on the twin unit: fail-silence keeps its cause and gives no halter, and a unit that enters it drops the halter. -/
theorem Keeps.twinTo {x : Twin} (h : Keeps s t)
    (hs : failSilent t = true → x.cause = t.twin.cause ∧ (t.twin.holds = false → x.holds = false))
    (he : failSilent t = false → x.cause = 0 ∨ x.holds = false) : Keeps s { t with twin := x } := by
  refine h.trans ⟨id, fun ok silent => ?_, id, hs⟩
  cases ht : failSilent t
  case true => exact (hs ht).2 (ok ht)
  case false => exact (he ht).resolve_left (by simpa [failSilent] using silent)

/-- An effect on the event unit that puts no entry into the queue. -/
theorem Keeps.events {e : EventUnit} (h : Keeps s t) (hq : e.queue.length ≤ t.ev.queue.length) : Keeps s { t with ev := e } :=
  h.trans ⟨id, id, hq.trans, fun _ => ⟨rfl, id⟩⟩

theorem Keeps.ite {c : Prop} [Decidable c] (h : Keeps s t) (k : Keeps s u) : Keeps s (if c then t else u) := by split <;> assumption

/-- The two branches of a choice, where each may use its side of the condition. -/
theorem Keeps.iteOn {c : Prop} [Decidable c] (h : c → Keeps s t) (k : ¬c → Keeps s u) : Keeps s (if c then t else u) := by
  split
  next hc => exact h hc
  next hc => exact k hc

/-- An effect that is made only where a condition holds. -/
theorem Keeps.opt {c : Prop} [Decidable c] (h : Keeps s t) (k : Keeps t u) : Keeps s (if c then u else t) := (h.trans k).ite h

/-- An effect that is made unless a condition holds. -/
theorem Keeps.optNot {c : Prop} [Decidable c] (h : Keeps s t) (k : Keeps t u) : Keeps s (if c then t else u) := h.ite (h.trans k)

theorem Keeps.foldl {α : Type} {l : List α} {f : State → α → State} (h : Keeps s t) (hf : ∀ u a, Keeps u (f u a)) :
    Keeps s (l.foldl f t) :=
  List.foldlRecOn l f h fun u hu a _ => hu.trans (hf u a)

/-! ### Registers, the clock and events -/

theorem Keeps.wr {id : Nat} {w : Word} (h : Keeps s t) : Keeps s (wr t id w) := h.regsTo (Regs.wf_regSet id w)

theorem Keeps.wrFld {id hi lo v : Nat} (h : Keeps s t) : Keeps s (wrFld t id hi lo v) := h.wr

theorem Keeps.wrFlag {id i : Nat} {b : Bool} (h : Keeps s t) : Keeps s (wrFlag t id i b) := h.wr

theorem Keeps.bump {id hi lo d : Nat} (h : Keeps s t) : Keeps s (bump t id hi lo d) := h.wr

theorem Keeps.sticky {id i : Nat} (h : Keeps s t) : Keeps s (sticky t id i) :=
  .same (t := Machine.wrFlag t id i true) (by simp [Machine.sticky]) (by simp [Machine.sticky])
    (by simp [Machine.sticky]) (by simp [Machine.sticky]) h.wrFlag

theorem Keeps.advance {c : Nat} (h : Keeps s t) : Keeps s (advance c t) :=
  .same (by simp) (by simp) (by simp) (by simp) h

theorem Keeps.wrAll {l : List (Nat × Word)} (h : Keeps s t) : Keeps s (wrAll t l) :=
  .foldl (.set rfl h) fun _ _ => .wr .refl

theorem histPut_queue (x : HistSlot) (s : State) : (histPut x s).ev.queue = s.ev.queue := by
  unfold histPut histWrite
  (repeat' split) <;> rfl

theorem Keeps.raiseWith {f : Bool} {n a : Nat} (h : Keeps s t) : Keeps s (raiseWith f n a t) := by
  have queued : ∀ u, Keeps u (queuePut n a (eventMasked n t) u).1 := fun u => by
    unfold queuePut
    split
    next full => exact .bump (.set rfl .refl)
    next room => exact ⟨id, id, fun _ => by simpa [queueOk] using room, fun _ => ⟨rfl, id⟩⟩
  have put : ∀ u x, Keeps u (histPut x u) := fun u x => .same (by simp) (by simp) (by simp) (histPut_queue x u) .refl
  unfold Machine.raiseWith
  extract_lets masked s1 q s2
  have noted : Keeps s s1 := .set rfl h.sticky
  have stored : Keeps s q.1 := by
    unfold q
    split
    · exact noted
    · exact noted.trans (queued s1)
  have due : Keeps s s2 := .opt stored (.same (by simp) (by simp) (by simp) (by simp) .refl)
  exact .ite h (.ite (due.trans (put _ _)) due)

theorem Keeps.raise {n a : Nat} (h : Keeps s t) : Keeps s (raise n a t) := h.raiseWith

theorem Keeps.raiseIf {b : Bool} {n a : Nat} (h : Keeps s t) : Keeps s (raiseIf b n a t) := .opt h (.raise .refl)

theorem Keeps.raiseAll {l : List (Nat × Nat)} (h : Keeps s t) : Keeps s (raiseAll l t) := .foldl h fun _ _ => .raise .refl

end

/-! ### Answers of a command -/

/-- A command that answers a next state keeps what the invariant speaks of. -/
def keepsOut (s : State) (o : Out) : Prop := ∀ t, o = .next t → Keeps s t

section
variable {s t : State} {a b : Out}

theorem keepsOut.next (h : Keeps s t) : keepsOut s (.next t) := by
  rintro _ ⟨⟩
  exact h

theorem keepsOut.ite {c : Prop} [Decidable c] (h : keepsOut s a) (k : keepsOut s b) : keepsOut s (if c then a else b) := by
  split <;> assumption

end

end Sys2Proof.Machine
end

section
/-! SUPPORT. The commits of the opcodes and the service of a request keep what the invariant speaks of. -/
set_option Elab.async false

namespace Sys2Proof.Machine

section
variable {s t : State}

/-! ### The reply -/

theorem attentionDue_keeps (d : Nat) (s : State) : Keeps s (attentionDue d s) := .ite .refl (.set rfl .refl)

theorem ethQueue_keeps (e : Fin 2) (c : Nat) (f : EthTx) (s : State) : Keeps s (ethQueue e c f s) := .ite .refl (.set rfl .refl)

theorem replyDatagram_keeps (q : Option Peer) (p : List Byte) (c : Nat) (s : State) : Keeps s (replyDatagram q p c s) := by
  cases q with
  | none => exact .refl
  | some q => exact ethQueue_keeps q.eth c (.reply q p) s

theorem sendReply_keeps (h : ReqHead) (op fl c : Nat) (p : List Byte) (s : State) : Keeps s (sendReply h op fl c p s) :=
  .ite ((attentionDue_keeps _ _).step (.set rfl (.set rfl .refl)))
    (.ite ((replyDatagram_keeps ..).step (.set rfl .refl)) (.set rfl .refl))

theorem respond_keeps (h : ReqHead) (op c st det : Nat) (d : List Byte) (s : State) : Keeps s (respond h op c st det d s) := by
  have counted : Keeps s
      (if st = stNotPermitted then sticky s 0x1007 1
       else if st = stConflict then bump (sticky s 0x1007 2) 0x1008 15 0 1
       else if st = stNotReady then sticky s 0x1007 3 else s) :=
    .ite (.sticky .refl) (.ite (.bump (.sticky .refl)) (.ite (.sticky .refl) .refl))
  exact .ite (.set rfl counted) ((sendReply_keeps ..).step counted)

theorem atCommit_keeps (o : OpSpec) (r : Req) (s : State) : Keeps s (atCommit o r s) := .advance (.set rfl .refl)

theorem forward_keeps (o : OpSpec) (r : Req) (st : Nat) (s : State) : Keeps s (forward o r st s) := .ite (.set rfl .refl) .refl

/-! ### The service of a request -/

/-- The commit of an opcode keeps what the invariant speaks of, whatever the payload. -/
def commitKeeps (o : OpSpec) : Prop := ∀ (port : Fin 2) (p : List Byte) (s : State), Keeps s (o.commit port p s).state

theorem commitPoison_keeps {o : OpSpec} (h : commitKeeps o) (port : Fin 2) (p : List Byte) (s : State) :
    Keeps s (commitPoison o port p s).state := by
  unfold commitPoison
  extract_lets _ x
  have done : Keeps s x.state := h port p s
  split
  · split
    · exact .set rfl done
    · exact done
  · exact .refl

theorem serve_keeps {o : OpSpec} (h : commitKeeps o) (r : Req) (s : State) : Keeps s (serve o r s) := by
  unfold serve
  split
  · exact .refl
  · exact (respond_keeps ..).step (.set rfl .refl)
  · extract_lets s1
    have begun : Keeps s s1 := atCommit_keeps ..
    split
    · exact (respond_keeps ..).step ((forward_keeps ..).step begun)
    · unfold commitRequest arbitrate
      extract_lets
      split
      · exact (respond_keeps ..).step ((forward_keeps ..).step begun)
      next s2 hs =>
        extract_lets x
        obtain rfl : noteCommit _ _ _ s1 = s2 := by
          split at hs
          · cases hs
          · exact Option.some.inj hs
        have committed : Keeps s x.state := (commitPoison_keeps h ..).step (.set rfl begun)
        exact (respond_keeps ..).step ((forward_keeps ..).step (.ite committed (.set rfl committed)))

/-- A request of an opcode whose commit leaves the state as it is. -/
theorem commitKeeps_of_read {o : OpSpec} (h : ∀ port p s, (o.commit port p s).state = s := by intros; rfl) : commitKeeps o :=
  fun port p s => by rw [h]; exact .refl

/-! ### Sessions, the nonvolatile store and events -/

theorem closeSession_keeps (p : Fin 2) (reason : Nat) (s : State) : Keeps s (closeSession p reason s) :=
  .ite (.raise (.wrFlag (.set rfl .refl))) .refl

theorem expertDenied_keeps (p : Fin 2) (s : State) : Keeps s (expertDenied p s) :=
  .raise (.ite (.set rfl (.sticky (.wrFld .refl))) (.sticky (.wrFld .refl)))

theorem expertMatch_keeps (p : Fin 2) (s : State) : Keeps s (expertMatch p s) :=
  .ite (.wrFld (.set rfl .refl)) (.raise (.wrFlag (.wrFld (.set rfl .refl))))

theorem opExpertOpen_commitKeeps : commitKeeps opExpertOpen := by
  intro port p s
  dsimp only [opExpertOpen]
  split
  · exact .refl
  · split
    · exact expertMatch_keeps port s
    · exact expertDenied_keeps port s

theorem opExpertClose_commitKeeps : commitKeeps opExpertClose := fun port _ s => closeSession_keeps port 0 s

theorem opExpertCodeSet_commitKeeps : commitKeeps opExpertCodeSet := fun _ _ _ => .set rfl .refl

theorem opEventsRead_commitKeeps : commitKeeps opEventsRead := by
  intro port p s
  dsimp only [opEventsRead]
  split
  · exact .refl
  · exact .events .refl (List.drop_sublist _ _).length_le

theorem writeMode_keeps (m : Nat) (a : Bool) (pr : Nat) (d : Bool) (c : Nat) (s : State) : Keeps s (writeMode m a pr d c s) :=
  .raiseIf (.set rfl (.wr .refl))

theorem modeSet_commitKeeps (expert : Bool) (code : Nat) : commitKeeps (modeSet expert code) := by
  intro port p s
  dsimp only [modeSet, okResult]
  exact (writeMode_keeps ..).step (.opt (.opt .refl (.wr .refl)) (.wrAll .refl))

theorem opSetpointSet_commitKeeps : commitKeeps opSetpointSet := by
  intro port p s
  dsimp only [opSetpointSet, okResult]
  exact .optNot (.optNot (.opt (.opt .refl (.set rfl (.wrAll .refl))) (.set rfl (.wr .refl))) (.wr .refl))
    (.wr .refl)

theorem opJoystickSet_commitKeeps : commitKeeps opJoystickSet := fun _ _ _ => .set rfl .refl

theorem opBerthPushSet_commitKeeps : commitKeeps opBerthPushSet := fun _ _ _ => .wrFld (.wr .refl)

theorem opTrackLoad_commitKeeps : commitKeeps opTrackLoad := fun _ _ _ => .set rfl (.wr .refl)

theorem opLossModeSet_commitKeeps : commitKeeps opLossModeSet := fun _ _ _ => .wr .refl

theorem storeCfg_keeps (q : Nat) (x : SrcCfg) (s : State) : Keeps s (storeCfg q x s) := .wrAll .refl

theorem refConfig_commitKeeps (expert : Bool) (code : Nat) : commitKeeps (refConfig expert code) :=
  fun _ _ _ => storeCfg_keeps ..

theorem setEnable_keeps (q : Nat) (on : Bool) (s : State) : Keeps s (setEnable q on s) :=
  .ite (.set rfl (.wrFlag .refl)) (.wrFlag .refl)

theorem opRefEnable_commitKeeps : commitKeeps opRefEnable := fun _ _ _ => setEnable_keeps ..

theorem opRefStatusRead_commitKeeps : commitKeeps opRefStatusRead := fun _ _ _ => .ite (.set rfl .refl) .refl

theorem opSelectReference_commitKeeps : commitKeeps opSelectReference := fun _ _ _ => .set rfl .refl

theorem opReplayWindowSet_commitKeeps : commitKeeps opReplayWindowSet := fun _ _ _ => .wrFld .refl

theorem opAllocConfigBasic_commitKeeps : commitKeeps opAllocConfigBasic := fun _ _ _ =>
  .regsTo .refl fun h => Regs.wf_foldl _ (fun _ _ => Regs.wf_regSet _ _) (Regs.wf_regSet _ _ h)

theorem opAllocConfigExpert_commitKeeps : commitKeeps opAllocConfigExpert := fun _ _ _ => .wrAll .refl

theorem opPowerLimitSet_commitKeeps : commitKeeps opPowerLimitSet := fun _ _ _ => .wrAll .refl

theorem opCompatModeSet_commitKeeps : commitKeeps opCompatModeSet := fun _ _ _ => .wrFlag .refl

theorem dropPending_keeps (l : List Nat) (s : State) : Keeps s (dropPending l s) :=
  .foldl .refl fun _ _ => .ite (.sticky (.set rfl .refl)) .refl

theorem requestDisable_keeps (thr : Bool) (a : Nat) (s : State) : Keeps s (requestDisable thr a s) :=
  .set rfl (.ite (dropPending_keeps [a] s) .refl)

theorem opAxisEnable_commitKeeps : commitKeeps opAxisEnable := by
  intro port p s
  dsimp only [opAxisEnable]
  split
  · exact .set rfl .refl
  · exact .set rfl .refl

theorem opAxisDisable_commitKeeps : commitKeeps opAxisDisable := fun _ _ _ => requestDisable_keeps ..

theorem opThrusterEnable_commitKeeps : commitKeeps opThrusterEnable := by
  intro port p s
  dsimp only [opThrusterEnable]
  split
  · exact .foldl .refl fun _ _ => .set rfl .refl
  · exact .set rfl (.foldl .refl fun _ _ => .set rfl .refl)

theorem opThrusterDisable_commitKeeps : commitKeeps opThrusterDisable :=
  fun _ _ _ => .set rfl (.foldl .refl fun _ _ => requestDisable_keeps ..)

theorem axisConfig_commitKeeps (expert : Bool) (code : Nat) : commitKeeps (axisConfig expert code) := fun _ _ _ => .wrAll .refl

theorem opCompTableLoad_commitKeeps : commitKeeps opCompTableLoad := fun _ _ _ => .raise (.set rfl .refl)

theorem channelConfig_commitKeeps (expert : Bool) (code : Nat) : commitKeeps (channelConfig expert code) := by
  intro port p s
  dsimp only [channelConfig, okResult]
  cases expert
  · exact .wrAll .refl
  · exact .wr (.wrAll .refl)

theorem opOutputSet_commitKeeps : commitKeeps opOutputSet := fun _ _ _ => .ite (.wrFld .refl) (.wrFld .refl)

theorem opSafeValueSet_commitKeeps : commitKeeps opSafeValueSet := fun _ _ _ => .wr .refl

theorem opFilterPreset_commitKeeps : commitKeeps opFilterPreset := fun _ _ _ => .foldl .refl fun _ _ => .wrFld (.wrFld .refl)

theorem opFilterCustom_commitKeeps : commitKeeps opFilterCustom := fun _ _ _ => .ite (.wrFld (.set rfl .refl)) (.set rfl .refl)

theorem opDcBlockSet_commitKeeps : commitKeeps opDcBlockSet := fun _ _ _ => .wrFld (.wrFld .refl)

theorem patchSync_keeps (src : Nat) (s : State) : Keeps s (patchSync src s) := .events .refl (by simp)

theorem syncEdge_keeps (c src : Nat) (s : State) : Keeps s (syncEdge c src s) := by
  have go : ∀ e t, Keeps t (syncEdge.go src e t) := fun _ _ => .raise (.bump (.wr (.set rfl .refl)))
  unfold syncEdge
  extract_lets e s1
  have begun : Keeps s s1 := .advance .refl
  split
  · exact .ite ((patchSync_keeps ..).step (.set rfl begun)) ((go _ _).step begun)
  · exact (go _ _).step begun

theorem opSyncFilters_commitKeeps : commitKeeps opSyncFilters := fun _ _ _ => syncEdge_keeps ..

theorem canConfig_commitKeeps (expert : Bool) (code : Nat) : commitKeeps (canConfig expert code) := fun _ _ _ =>
  .regsTo .refl fun h => Regs.wf_foldl _ (fun _ _ => Regs.wf_regSet _ _) h

theorem opCanIdEnable_commitKeeps : commitKeeps opCanIdEnable := by
  intro port p s
  have cleared : Keeps s
      (if byteAt p 1 % 2 = 1 then clearClash (byteAt p 0) (bitsOf (wordAt p 4) 28 0) (bitOf (wordAt p 4) 31) s else s) :=
    .opt .refl (.set rfl .refl)
  dsimp only [opCanIdEnable, okResult]
  split
  · exact .set rfl cleared
  · exact cleared

theorem updCan_keeps (b : Nat) (f : CanCtl → CanCtl) (s : State) : Keeps s (updCan b f s) := .set rfl .refl

theorem opCanSend_commitKeeps : commitKeeps opCanSend := fun _ _ _ => updCan_keeps ..

theorem opCanStatusRead_commitKeeps : commitKeeps opCanStatusRead := fun _ _ _ =>
  .opt .refl ((updCan_keeps ..).step (.wrAll .refl))

theorem announceAddress_keeps (e : Fin 2) (s : State) : Keeps s (announceAddress e s) :=
  .ite (.foldl (ethQueue_keeps ..) fun _ _ => ethQueue_keeps ..) .refl

theorem ethEffect_keeps (b : State) (e : Fin 2) (s : State) : Keeps s (ethEffect b e s) :=
  .ite .refl (.ite (.foldl (announceAddress_keeps e s) fun _ _ => ethQueue_keeps ..)
    (.foldl (.foldl .refl fun _ _ => ethQueue_keeps ..) fun _ _ => ethQueue_keeps ..))

theorem opEthConfig_commitKeeps : commitKeeps opEthConfig := by
  intro port p s
  have stored : Keeps s { s with regs := ethConfigRegs s.regs p } := .regsTo .refl fun h =>
    Regs.wf_regSet _ _ (Regs.wf_regSet _ _ (Regs.wf_regSet _ _ (Regs.wf_regSet _ _ h)))
  exact .ite ((ethEffect_keeps ..).step stored) ((ethEffect_keeps ..).step stored)

theorem slotEvents_keeps (b : State) (d : Fin 2) (s : State) : Keeps s (slotEvents b d [] s) := .raiseAll .refl

theorem slotEffect_keeps (b : State) (d : Fin 2) (s : State) : Keeps s (slotEffect b d s) :=
  .ite .refl (.set rfl ((slotEvents_keeps ..).step (.set rfl .refl)))

theorem ptpConfig_commitKeeps (expert : Bool) (code : Nat) : commitKeeps (ptpConfig expert code) := by
  intro port p s
  have stored : Keeps s { s with regs := ptpConfigRegs expert s.regs p } := by
    refine .regsTo .refl fun h => ?_
    cases expert
    · exact Regs.wf_regSet _ _ h
    · exact Regs.wf_regSet _ _ (Regs.wf_regSet _ _ h)
  exact .ite ((slotEffect_keeps ..).step stored) ((slotEffect_keeps ..).step stored)

theorem switchSlot_keeps (d : Fin 2) (a : Bool) (s : State) : Keeps s (switchSlot d a s) :=
  .raiseAll (.sticky (.set rfl (.set rfl .refl)))

theorem selectEffect_keeps (s : State) : Keeps s (selectEffect s) := .ite .refl (switchSlot_keeps ..)

theorem opTimeDomainSelect_commitKeeps : commitKeeps opTimeDomainSelect :=
  fun _ _ _ => (selectEffect_keeps _).step (.wrFld .refl)

theorem updGnss_keeps (f : Gnss → Gnss) (s : State) : Keeps s (updGnss f s) := .set rfl .refl

theorem clearAntenna_keeps (a : Nat) (s : State) : Keeps s (clearAntenna a s) := .foldl .refl fun _ _ => .set rfl .refl

theorem unbias_keeps (a : Fin 2) (s : State) : Keeps s (unbias a s) := .optNot .refl (.set rfl (.wrFld .refl))

theorem showHeading_keeps (st n l : Nat) (s : State) : Keeps s (showHeading st n l s) := .wr (.set rfl .refl)

theorem gnssEffect_keeps (b s : State) : Keeps s (gnssEffect b s) := by
  unfold gnssEffect
  dsimp only
  exact .opt ((unbias_keeps 1 _).step ((unbias_keeps 0 _).step (.opt (.opt .refl (clearAntenna_keeps 0 s))
    (clearAntenna_keeps 1 _)))) ((showHeading_keeps ..).step (.set rfl .refl))

theorem gnssConfig_commitKeeps (expert : Bool) (code : Nat) : commitKeeps (gnssConfig expert code) := by
  intro port p s
  dsimp only [gnssConfig, okResult]
  cases expert
  · exact (gnssEffect_keeps ..).step (.wrFld (.wrFld (.wrFld (.wr .refl))))
  · exact (gnssEffect_keeps ..).step (.wrFld (.wrFlag (.wrFld (.wr (.wrFld (.wrFld (.wrFld (.wr .refl))))))))

theorem opHeadingBaselineSet_commitKeeps : commitKeeps opHeadingBaselineSet := by
  intro port p s
  dsimp only [opHeadingBaselineSet]
  exact (gnssEffect_keeps ..).step (.wrFld (.wrFld (.wrFld .refl)))

theorem loadBlock_keeps (ty : Nat) (s : State) : Keeps s (loadBlock ty s) := by
  unfold loadBlock
  split
  · exact .refl
  · exact .ite .refl (updGnss_keeps ..)

theorem gnssStart_keeps (c : Nat) (s : State) : Keeps s (gnssStart c s) :=
  .ite .refl (.wr (.set rfl (loadBlock_keeps ..)))

theorem restartGnss_keeps (ty mask : Nat) (s : State) : Keeps s (restartGnss ty mask s) := by
  unfold restartGnss
  dsimp only
  refine (gnssStart_keeps ..).step (.optNot ?_ (.opt ((showHeading_keeps ..).step (.set rfl .refl)) (.sticky (.set rfl .refl))))
  exact .opt (.opt (.opt (.opt .refl (clearAntenna_keeps 0 _)) (clearAntenna_keeps 1 _))
    (.set rfl .refl)) (.set rfl .refl)

theorem opGnssRestart_commitKeeps : commitKeeps opGnssRestart := fun _ _ _ => restartGnss_keeps ..

theorem opPowerStateSet_commitKeeps : commitKeeps opPowerStateSet := by
  intro port p s
  dsimp only [opPowerStateSet, okResult]
  exact .ite (.ite .refl (.set rfl .refl)) (.ite (.ite (.set rfl (.set rfl .refl)) (.ite (.set rfl .refl) .refl)) .refl)

theorem opWakeConfig_commitKeeps : commitKeeps opWakeConfig := fun _ _ _ =>
  .regsTo .refl fun h => Regs.wf_regSet _ _ (Regs.wf_regSet _ _ h)

theorem opRtcAlarmSet_commitKeeps : commitKeeps opRtcAlarmSet := by
  intro port p s
  dsimp only [opRtcAlarmSet, okResult]
  exact .wr (.wr .refl)

theorem opPowerStatusRead_commitKeeps : commitKeeps opPowerStatusRead := fun _ _ _ => .set rfl (.set rfl .refl)

theorem opYardRestart_commitKeeps : commitKeeps opYardRestart := fun _ _ _ => .set rfl .refl

theorem opModuleReset_commitKeeps : commitKeeps opModuleReset := fun _ _ _ => .set rfl .refl

theorem opHalterRequest_commitKeeps : commitKeeps opHalterRequest := fun _ _ _ => .optNot .refl (.set rfl .refl)

theorem opHalterRelease_commitKeeps : commitKeeps opHalterRelease := fun _ _ _ => .set rfl .refl

theorem opTwinToleranceSet_commitKeeps : commitKeeps opTwinToleranceSet := fun _ _ _ => .wrAll .refl

theorem commitTables_keeps {k : Nat} {f : List Byte} (h : commitTables k f s = some t) : Keeps s t := by
  unfold commitTables at h
  (repeat' split at h) <;> cases h
  · exact .set rfl .refl
  · exact .set rfl .refl
  · exact .set rfl .refl
  · exact .refl

theorem loadDone_keeps (f : List Byte) (k : Nat) (s : State) : Keeps s (loadDone f k s).state := by
  unfold loadDone
  dsimp only
  split
  · exact .set rfl .refl
  · split
    · exact .set rfl .refl
    next t h => exact .raiseIf (.set rfl (commitTables_keeps h))

theorem opConfigFileLoad_commitKeeps : commitKeeps opConfigFileLoad := by
  intro port p s
  dsimp only [opConfigFileLoad, okResult]
  split
  · exact (loadDone_keeps ..).step (.set rfl .refl)
  · exact .set rfl .refl

theorem poisonStall_keeps (y id : Nat) (s : State) : Keeps s (poisonStall y id s) :=
  .ite .refl (.raise (.sticky (.bump (.set rfl .refl))))

theorem opParamRead_commitKeeps (l : List Nat) : commitKeeps (opParamRead l) := by
  intro port p s
  dsimp only [opParamRead, refuse]
  split
  · exact .refl
  · exact .foldl .refl fun _ _ => poisonStall_keeps ..

theorem supplyEffect_keeps (s : State) : Keeps s (supplyEffect s) := .ite .refl (.raise (.sticky (.set rfl .refl)))

theorem fillEffect_keeps (b : State) (p : Fin 2) (s : State) : Keeps s (fillEffect b p s) := .raiseAll .refl

/-! ### PARAM_WRITE -/

theorem sourceEffects_keeps (l : List Entry) (s : State) : Keeps s (sourceEffects l s) :=
  .foldl .refl fun _ _ => .ite (setEnable_keeps ..) .refl

theorem writeEffects_keeps (b : State) (l : List Entry) (s : State) : Keeps s (writeEffects b l s) := by
  have origin : Keeps s (originEffect l s) := .ite (.set rfl (.wr (.set rfl .refl))) .refl
  unfold writeEffects
  extract_lets has on s1 s2 s3 s4 s5 s6 s7 s8
  have only : ∀ {c : Bool} {f : State → State} {t}, Keeps t (f t) → Keeps s t → Keeps s (on c f t) := fun k h => .opt h k
  have slots : Keeps s s2 := only (slotEffect_keeps ..) (only (slotEffect_keeps ..) origin)
  have ports : Keeps s s5 :=
    only (ethEffect_keeps ..) (only (ethEffect_keeps ..) (only (.set rfl .refl) (only (selectEffect_keeps _) slots)))
  have closed : Keeps s s7 := only (closeSession_keeps ..) (only (gnssEffect_keeps ..) ports)
  have history : Keeps s s8 := .opt closed (.set rfl .refl)
  exact only (fillEffect_keeps ..) (only (fillEffect_keeps ..) (only (supplyEffect_keeps _) history))

theorem applyEntries_keeps (l : List Entry) (s : State) : Keeps s (applyEntries l s) := by
  unfold applyEntries
  extract_lets s1
  have anchored : Keeps s s1 := .ite (.set rfl .refl) .refl
  exact (writeEffects_keeps ..).step (anchored.trans
    (.regsFrom (sourceEffects_keeps l s1) (Regs.wf_foldl _ fun _ _ => Regs.wf_regSet _ _)))

theorem opParamWrite_commitKeeps : commitKeeps opParamWrite := fun _ _ _ => applyEntries_keeps ..

theorem writeRow_keeps (h : ReqHead) (l : List Entry) (s : State) : keepsOut s (writeRow h l s) :=
  .next (serve_keeps opParamWrite_commitKeeps ..)

end

end Sys2Proof.Machine
end

section
/-! SUPPORT. The GNSS, session and health events keep what the invariant speaks of. -/
set_option Elab.async false

namespace Sys2Proof.Machine

section
variable {s t : State}

/-! ### Antennas and channels -/

theorem antennaState_keeps (a : Fin 2) (cls mA : Nat) (s : State) : Keeps s (antennaState a cls mA s) := by
  unfold antennaState
  dsimp only
  have stored : Keeps s
      (updGnss (fun g => { g with antShort := vset g.antShort a (if cls = 3 then some s.clk.beat else none) })
        (wrFld (wrFld s (0x4010 + a.val) 1 0 cls) (0x4010 + a.val) 15 8 (min mA 255))) :=
    (updGnss_keeps ..).step (.wrFld (.wrFld .refl))
  exact .ite stored (.ite (.raiseIf stored) (.ite stored (.raise (.sticky stored))))

theorem execAntennaBiasClass_keeps (a : Fin 2) (m : Nat) (s : State) : keepsOut s (execAntennaBiasClass a m s) :=
  .ite (.next .refl) (.ite (.next ((updGnss_keeps ..).step (.wrFld .refl))) (.ite (.next .refl) (.next (antennaState_keeps ..))))

theorem execAntennaRetest_keeps (a : Fin 2) (m : Nat) (s : State) : keepsOut s (execAntennaRetest a m s) := by
  unfold execAntennaRetest
  split
  · exact .next .refl
  · exact .ite (.next .refl) (.next (antennaState_keeps ..))

theorem operationDone_keeps (y : Fin 8) (b : Nat) (s : State) : Keeps s (operationDone y b s) := by
  unfold operationDone
  dsimp only
  split
  · exact .refl
  · exact .set rfl .refl

theorem assignPair_keeps (n prn : Nat) (s : State) : Keeps s (assignPair n prn s) :=
  .opt (.opt .refl (.set rfl .refl)) (.set rfl .refl)

theorem assignSat_keeps (ch : Fin 48) (prn : Nat) (s : State) : Keeps s (assignSat ch prn s) :=
  .ite .refl (.ite (.ite (assignPair_keeps ..) .refl) (.ite (.set rfl .refl) .refl))

theorem execGnssIntegration_keeps (c : Nat) (ch : Fin 48) (x : CorrelatorSums) (s : State) :
    keepsOut s (execGnssIntegration c ch x s) := by
  unfold execGnssIntegration
  dsimp only
  refine .ite (.next (.advance .refl)) ?_
  split
  · split
    · exact .next ((assignSat_keeps ..).step (.advance .refl))
    · exact .next (.advance .refl)
  · split
    · exact .ite (.next (.advance .refl)) (.ite (.next ((operationDone_keeps ..).step (.advance .refl)))
        (.next ((operationDone_keeps ..).step (.set rfl (.advance .refl)))))
    · exact .next (.advance .refl)
  · exact .ite (.next (.set rfl (.set rfl (.advance .refl)))) (.next (.set rfl (.advance .refl)))

theorem execChannelLossOfLock_keeps (c : Nat) (ch : Fin 48) (s : State) : keepsOut s (execChannelLossOfLock c ch s) :=
  .ite (.next (.set rfl (.advance .refl))) (.next (.advance .refl))

theorem execSatelliteRelease_keeps (c : Nat) (p : Fin 24) (s : State) : keepsOut s (execSatelliteRelease c p s) :=
  .ite (.next (.advance .refl)) (.next (.set rfl (.set rfl (.advance .refl))))

theorem execMeasurementTick_keeps (c : Nat) (m : List ChannelLatch) (s : State) : keepsOut s (execMeasurementTick c m s) := by
  unfold execMeasurementTick
  dsimp only
  refine .ite (.next (.advance .refl)) (.next (.foldl (.ite ((showHeading_keeps ..).step ?_) ?_) fun _ _ =>
    operationDone_keeps ..))
  · exact (updGnss_keeps ..).step (.advance .refl)
  · exact (updGnss_keeps ..).step (.advance .refl)

/-! ### Navigation data -/

theorem gnssBlockWrite_keeps (s : State) : Keeps s (gnssBlockWrite s) := .ite .refl (.set rfl .refl)

theorem execGnssBlockWrite_keeps (c : Nat) (s : State) : keepsOut s (execGnssBlockWrite c s) := by
  unfold execGnssBlockWrite
  dsimp only
  exact .ite (.next (.set rfl ((gnssBlockWrite_keeps _).step (.advance .refl)))) (.next (.advance .refl))

theorem execGnssStartTimeout_keeps (s : State) : keepsOut s (execGnssStartTimeout s) := by
  unfold execGnssStartTimeout
  split
  · exact .next .refl
  · exact .ite (.next .refl) (.next (.set rfl (.advance .refl)))

theorem readyChans_keeps (n : Nat) (s : State) : Keeps s (readyChans n s) := .ite .refl (.set rfl .refl)

theorem judgeEph_keeps (n i : Nat) (d : List Nat) (s : State) : Keeps s (judgeEph n i d s) :=
  .ite (.set rfl (.set rfl .refl)) ((gnssBlockWrite_keeps _).step ((readyChans_keeps ..).step (.set rfl .refl)))

theorem acceptEph_keeps (n : Nat) (a : Fin 2) (i : Nat) (d : List Nat) (s : State) : Keeps s (acceptEph n a i d s) := by
  unfold acceptEph
  extract_lets x other s1 differs both s2
  have h1 : Keeps s s1 := .set rfl .refl
  have h2 : Keeps s s2 := by
    unfold s2
    split
    · exact .ite (.set rfl h1) h1
    · exact h1
  exact .ite (.sticky (.set rfl (.set rfl h1))) (.ite h2 ((judgeEph_keeps ..).step h2))

theorem takePage_keeps (n : Nat) (d : List Nat) (s : State) : Keeps s (takePage n d s) := by
  unfold takePage
  extract_lets s1 x
  have h1 : Keeps s s1 := .set rfl .refl
  split
  · exact h1
  · split
    · split
      · exact (judgeEph_keeps ..).step h1
      · exact h1
    · exact h1

theorem utcPage_keeps (d : List Nat) (s : State) : Keeps s (utcPage d s) :=
  .ite (.set rfl .refl) (.set rfl (.set rfl (.set rfl .refl)))

theorem takeSubframe_keeps (n : Nat) (a : Fin 2) (d : List Nat) (s : State) : Keeps s (takeSubframe n a d s) := by
  unfold takeSubframe
  split
  · exact .ite (utcPage_keeps ..) (.ite (takePage_keeps ..) .refl)
  · exact .ite (takePage_keeps ..) .refl
  · extract_lets s1 s2
    have h1 : Keeps s s1 := .set rfl .refl
    have h2 : Keeps s s2 := .ite (.set rfl h1) h1
    refine .ite .refl ?_
    split
    · exact .ite (.ite h2 ((acceptEph_keeps ..).step h2)) h2
    · exact h2

theorem execSubframeReceived_keeps (c : Nat) (ch : Fin 48) (w : List Word) (s : State) :
    keepsOut s (execSubframeReceived c ch w s) := by
  unfold execSubframeReceived
  dsimp only
  refine .ite (by rintro _ ⟨⟩) (.ite (.next (.advance .refl)) (.ite (.next (.sticky (.bump (.set rfl (.advance .refl)))))
    (.ite (.next (.set rfl (.advance .refl))) ?_)))
  exact .next ((readyChans_keeps ..).step ((takeSubframe_keeps ..).step (.set rfl (.set rfl (.advance .refl)))))

/-! ### The epoch -/

theorem showChecks_keeps (s : State) : Keeps s (showChecks s) := .wr .refl

theorem execCheckClear_keeps (c : Nat) (k : Fin 6) (s : State) : keepsOut s (execCheckClear c k s) := by
  unfold execCheckClear
  dsimp only
  exact .ite (.next (.advance .refl)) (.next (.raise ((showChecks_keeps _).step (.set rfl (.advance .refl)))))

theorem runChecks_keeps (l : List (Bool × Nat)) (s : State) : Keeps s (runChecks l s).1 := by
  refine (showChecks_keeps _).step (List.foldlRecOn (motive := fun a : State × List (Nat × Nat) => Keeps s a.1) _ _ .refl ?_)
  rintro a ha i -
  dsimp only
  split
  · split
    · exact .set rfl ha
    · exact .sticky (.set rfl ha)
  · exact ha

theorem headingStep_keeps (b : Option BaselineFix) (s : State) : Keeps s (headingStep b s).1 := by
  unfold headingStep
  dsimp only
  have shown : ∀ f st n l, Keeps s (showHeading st n l (updGnss f s)) := fun _ _ _ _ => (showHeading_keeps ..).step (.set rfl .refl)
  have lost : ∀ f g st n l, Keeps s (sticky (showHeading st n l (updGnss f (updGnss g s))) 0x4016 7) :=
    fun _ _ _ _ _ => .sticky ((showHeading_keeps ..).step (.set rfl (.set rfl .refl)))
  (repeat' split) <;> simp only [shown, lost]

theorem markChans_keeps (a : Nat) (l : List Nat) (e : Option Nat) (f : Option NavFix) (h : List Nat) (s : State) :
    Keeps s (markChans a l e f h s) := .foldl .refl fun _ _ => .set rfl .refl

theorem sourceRecord_keeps (q : Nat) (v : Bool) (r : SampleRec) (s : State) : Keeps s (sourceRecord q v r s) :=
  .ite .refl (.ite (.ite (.set rfl .refl) .refl) (.set rfl .refl))

theorem firstFix_keeps (b : Bool) (s : State) : Keeps s (firstFix b s).1 := by
  unfold firstFix
  split
  · exact .refl
  · split
    · exact .refl
    · exact .wrFld (.set rfl .refl)

theorem slotMeasure_keeps (d : Fin 2) (o : Int) (n : Nat) (s : State) : Keeps s (slotMeasure d o n s) :=
  .ite (.bump (.set rfl .refl)) (.set rfl .refl)

theorem timeSolution_keeps (g : Option Int) (n : Nat) (s : State) : Keeps s (timeSolution g n s) := by
  unfold timeSolution
  split
  · exact .ite .refl (.foldl .refl fun _ _ => .ite (slotMeasure_keeps ..) .refl)
  · exact .refl

theorem execEpochStrobe_keeps (c : Nat) (d : EpochData) (s : State) : keepsOut s (execEpochStrobe c d s) := by
  unfold execEpochStrobe
  extract_lets s0 _ _ _ _ _ _ _ _ _ s1 ck due
  have h0 : Keeps s s0 := .advance .refl
  refine .ite (.next h0) ?_
  split
  · exact .next h0
  extract_lets s2 hd _ _ _ fa fb _ s3 raim ev s4 s5 _ _ _ s6 st t
  refine .ite (.next h0) (.next ((operationDone_keeps ..).step ((operationDone_keeps ..).step ?_)))
  have h2 : Keeps s s2 := .set rfl (.set rfl ((runChecks_keeps _ s1).step (.set rfl h0)))
  have h3 : Keeps s s3 :=
    (markChans_keeps ..).step ((markChans_keeps ..).step (.wr (.wr ((headingStep_keeps _ s2).step h2))))
  have h5 : Keeps s s5 := .set rfl (.ite h3 (.sticky h3))
  have h6 : Keeps s st.1 := (firstFix_keeps _ s6).step
    ((sourceRecord_keeps ..).step ((sourceRecord_keeps ..).step ((sourceRecord_keeps ..).step h5)))
  exact (timeSolution_keeps ..).step (.raiseAll h6)

/-! ### Sessions and configuration files -/

theorem execFirmwareRepeat_keeps (c : Nat) (l : List FwWrite) (s : State) : keepsOut s (execFirmwareRepeat c l s) := by
  unfold execFirmwareRepeat
  extract_lets due s1 writes
  have counted : Keeps s s1 := .bump (.advance .refl)
  split
  · exact .next (.set rfl counted)
  next u hu =>
    refine .next (.wrAll (.set rfl ?_))
    unfold arbitrate at hu
    split at hu
    · cases hu
    · cases hu
      exact .set rfl counted

theorem execSessionIdleExpiry_keeps (p : Fin 2) (s : State) : keepsOut s (execSessionIdleExpiry p s) :=
  .ite (.next .refl) (.next ((closeSession_keeps ..).step (.advance .refl)))

theorem execExpertLockEnd_keeps (p : Fin 2) (s : State) : keepsOut s (execExpertLockEnd p s) := by
  unfold execExpertLockEnd
  split
  · exact .next .refl
  · exact .next (.wrFld (.set rfl (.advance .refl)))

theorem execConfigLoadTimeout_keeps (s : State) : keepsOut s (execConfigLoadTimeout s) := by
  unfold execConfigLoadTimeout
  split
  · exact .next .refl
  · exact .next (.set rfl (.advance .refl))

theorem execConfigFileStored_keeps (c : Nat) (b : Bool) (s : State) : keepsOut s (execConfigFileStored c b s) := by
  unfold execConfigFileStored
  dsimp only
  split
  · exact .next (.advance .refl)
  · exact .next (.raise (.set rfl (.advance .refl)))

/-! ### Stalls, blocks and yards -/

theorem scrubNext_keeps (y : Fin 8) (m : Nat) (s : State) : Keeps s (scrubNext y m s) := by
  unfold scrubNext
  dsimp only
  split
  · exact .set rfl (.advance .refl)
  · exact .set rfl .refl

theorem execScrubRead_keeps (y : Fin 8) (m : Nat) (e : ReadError) (s : State) : keepsOut s (execScrubRead y m e s) := by
  unfold execScrubRead
  cases e
  case none => exact .next (scrubNext_keeps ..)
  case single => exact .next (.sticky (.bump (scrubNext_keeps ..)))
  case double => exact .next ((poisonStall_keeps ..).step (scrubNext_keeps ..))

theorem settleLine_keeps (s : State) : Keeps s (settleLine s) := .ite .refl (.ite .refl (.set rfl .refl))

theorem enterFailSilent_keeps (n : Nat) (s : State) : Keeps s (enterFailSilent n s) := by
  unfold enterFailSilent
  refine .iteOn (fun _ => .refl) fun hs => ?_
  extract_lets s1
  have shown : Keeps s s1 := .ite (.wrFld .refl) .refl
  have same : s1.twin = s.twin := by
    unfold s1
    split <;> rfl
  have silenced := shown.twinTo (x := { s1.twin with
    cause := n, holds := false, release := s.twin.heldBeat || s.twin.holds, handover := .idle, silentLoss := s.twin.holds
    permit := false, withdrawn := true, lc := none, lcNext := [] })
    (fun h => absurd h (by simpa [failSilent, same] using hs)) fun _ => .inr rfl
  exact .raise (.set rfl silenced)

theorem cutController_keeps (b : Nat) (s : State) : Keeps s (cutController b s) := .set rfl .refl

theorem withdrawRecords_keeps (l : List (Fin 32)) (s : State) : Keeps s (withdrawRecords l s) := .set rfl .refl

theorem fenceYard_keeps (y n : Nat) (s : State) : Keeps s (fenceYard y n s) := by
  unfold fenceYard
  extract_lets h s1 s2 s3
  have raised : Keeps s s2 := .raiseWith (.sticky (.wrFld (.wrFld .refl)))
  have marked : Keeps s s3 := .opt raised (enterFailSilent_keeps ..)
  exact .ite .refl (.ite (.set rfl marked) (.ite (.foldl marked fun _ _ => cutController_keeps ..)
    (.ite ((withdrawRecords_keeps ..).step (.set rfl marked)) marked)))

theorem fenceBlock_keeps (y b : Nat) (s : State) : Keeps s (fenceBlock y b s) := by
  unfold fenceBlock
  extract_lets h s1 s2 s3 s4 s5
  have marked : Keeps s s4 := .raise (.sticky (.opt (.opt (.wrFlag .refl) (.wrFld .refl)) (.wrFld .refl)))
  have stopped : Keeps s s5 := .ite ((cutController_keeps ..).step marked) (.ite ((withdrawRecords_keeps ..).step marked) marked)
  exact .opt stopped (fenceYard_keeps ..)

theorem blockFault_keeps (y : Fin 8) (b : Nat) (due : Bool) (s : State) : Keeps s (blockFault y b due s) :=
  .ite .refl (.ite ((fenceBlock_keeps ..).step (.set rfl .refl)) (.raise (.sticky (.bump (.set rfl .refl)))))

theorem execBlockFault_keeps (c : Nat) (y : Fin 8) (b : Fin 32) (s : State) : keepsOut s (execBlockFault c y b s) :=
  .ite (.next (.set rfl ((blockFault_keeps ..).step (.advance .refl))))
    (.next ((settleLine_keeps _).step ((blockFault_keeps ..).step (.advance .refl))))

theorem execBlockResetDone_keeps (y : Fin 8) (b : Fin 32) (s : State) : keepsOut s (execBlockResetDone y b s) := by
  unfold execBlockResetDone
  dsimp only
  split
  · exact .next .refl
  · exact .next ((settleLine_keeps _).step (.set rfl (.advance .refl)))

theorem execYardFence_keeps (c : Nat) (y : Fin 8) (x : FenceCause) (s : State) : keepsOut s (execYardFence c y x s) := by
  have fenced : Keeps s
      (fenceYard y (causeCode x) (advance c s)) := (fenceYard_keeps ..).step (.advance .refl)
  exact .ite (.next (.set rfl fenced)) (.next ((settleLine_keeps _).step fenced))

end

end Sys2Proof.Machine
end

section
/-! SUPPORT. The power, restart and bring-up events keep what the invariant speaks of. -/
set_option Elab.async false

namespace Sys2Proof.Machine

section
variable {s t : State}

/-! ### Supply, sleep and wake -/

theorem writeSummary_keeps (l z : Nat) (s : State) : Keeps s (writeSummary l z s) := .ite .refl (.set rfl .refl)

theorem requestStart_keeps (s : State) : Keeps s (requestStart s) := .set rfl .refl

theorem abandonEntry_keeps (s : State) : Keeps s (abandonEntry s) := by
  unfold abandonEntry
  dsimp only
  split
  · exact .set rfl .refl
  · exact .set rfl .refl

theorem powerOff_keeps (l : List Nat) (s : State) : Keeps s (powerOff l s) := .foldl .refl fun _ _ => .wrFld .refl

theorem powerOn_keeps (l : List Nat) (s : State) : Keeps s (powerOn l s) := .foldl .refl fun _ _ => .ite (.wrFld .refl) .refl

theorem execSupplyInputChange_keeps (c : Nat) (i : SupplyInput) (v : Bool) (m d w : Nat) (s : State) :
    keepsOut s (execSupplyInputChange c i v m d w s) := by
  unfold execSupplyInputChange
  extract_lets s0 _ mains dc use overB _ s1 s2 s3 s4 s5
  have h0 : Keeps s s0 := .advance .refl
  have h1 : Keeps s s1 := .wrFld (.wrFld (.wrFld (.set rfl h0)))
  have h2 : Keeps s s2 := .ite (.sticky h1) h1
  have h4 : Keeps s s4 := .raiseIf (.raise (.ite h2 (.sticky h2)))
  have h5 : Keeps s s5 := (writeSummary_keeps ..).step (.sticky (.raise h4))
  refine .ite (.next h0) (.ite (.ite (.next (.set rfl h5)) (.next ?_)) (.ite (.next ?_) (.next h4)))
  · exact (settleLine_keeps _).step ((abandonEntry_keeps _).step h5)
  · exact (requestStart_keeps _).step (.set rfl h4)

theorem execSleepEntry_keeps (s : State) : keepsOut s (execSleepEntry s) := by
  unfold execSleepEntry
  split
  · exact .next .refl
  · exact .ite (.next .refl) (.next (.set rfl ((gnssBlockWrite_keeps _).step ((writeSummary_keeps ..).step
      (.raise ((closeSession_keeps ..).step (closeSession_keeps ..)))))))

theorem execSleepEntryDone_keeps (s : State) : keepsOut s (execSleepEntryDone s) := by
  unfold execSleepEntryDone
  split
  · exact .next .refl
  · extract_lets s1
    have stopped : Keeps s s1 := (powerOff_keeps ..).step (.advance .refl)
    clear_value s1
    exact .next (.set rfl stopped)

theorem execWakeEvent_keeps (c n : Nat) (s : State) : keepsOut s (execWakeEvent c n s) :=
  .ite (.next (.advance .refl)) (.ite (.next (.set rfl (.set rfl (.advance .refl))))
    (.ite (.next (.set rfl (.advance .refl))) (.next (.advance .refl))))

theorem execCanWakeCheck_keeps (c : Nat) (b : Fin 4) (s : State) : keepsOut s (execCanWakeCheck c b s) :=
  .ite (.next .refl) (.next ((powerOn_keeps ..).step (.set rfl (.advance (.set rfl .refl)))))

theorem execWakeCheckTimeout_keeps (c : Nat) (s : State) : keepsOut s (execWakeCheckTimeout c s) := by
  unfold execWakeCheckTimeout
  split
  · exact .next .refl
  · exact .ite (.next (.advance .refl)) (.next (.set rfl (.sticky (.bump ((powerOff_keeps ..).step (.advance .refl))))))

theorem execWatchWindowOpen_keeps (c : Nat) (s : State) : keepsOut s (execWatchWindowOpen c s) :=
  .ite (.next .refl) (.next ((gnssStart_keeps ..).step ((powerOn_keeps ..).step (.set rfl (.advance (.set rfl .refl))))))

theorem execWatchWindowClose_keeps (c : Nat) (s : State) : keepsOut s (execWatchWindowClose c s) :=
  .ite (.next .refl) (.next (.set rfl ((powerOff_keeps ..).step ((gnssBlockWrite_keeps _).step (.advance .refl)))))

theorem execClockStart_keeps (b : Bool) (s : State) : keepsOut s (execClockStart b s) :=
  .ite (.next .refl) (.ite (.next (.set rfl .refl)) (.next (.set rfl (.bump .refl))))

theorem execClockStartRetry_keeps (s : State) : keepsOut s (execClockStartRetry s) := by
  unfold execClockStartRetry
  split
  · exact .next .refl
  · exact .next (.set rfl .refl)

theorem wake_keeps (m : Nat) (s : State) : Keeps s (wake m s) := .set rfl (.set rfl .refl)

theorem execRtcAlarm_keeps (c : Nat) (s : State) : keepsOut s (execRtcAlarm c s) := by
  unfold execRtcAlarm
  extract_lets s0 _ s1 s2 s3
  have h0 : Keeps s s0 :=
    .advance .refl
  have h1 : Keeps s s1 := .optNot h0 (.set rfl .refl)
  have h2 : Keeps s s2 := .wr (.wr h1)
  have h3 : Keeps s s3 := .ite (.raise h2) h2
  exact .ite (.next h0) (.ite (.next h1) (.ite (.next ((wake_keeps ..).step h2)) (.ite (.next (.set rfl h3)) (.next h3))))

theorem execBackupCellMeasure_keeps (n : Nat) (s : State) : keepsOut s (execBackupCellMeasure n s) := by
  unfold execBackupCellMeasure
  extract_lets cls s1 _ s2
  have h2 : Keeps s s2 :=
    .set rfl (.wrFlag (.wrFlag (.wrFld .refl)))
  exact .ite (.next .refl) (.ite (.next h2) (.ite (.next (.raise h2)) (.next (.raise (.sticky h2)))))

theorem execBackupCellRemoved_keeps (s : State) : keepsOut s (execBackupCellRemoved s) :=
  .ite (.next .refl) (.next (.wrFld (.set rfl (.foldl (.set rfl .refl) fun _ _ => .wr .refl))))

/-! ### Restarts -/

theorem clearYard_keeps (y : Nat) (s : State) : Keeps s (clearYard y s) :=
  .set (t := { s with regs := s.regs.filter fun x => yardOf x.1 != y }) rfl (.regsTo .refl (Regs.wf_filter _))

theorem beginReset_keeps (n : Nat) (s : State) : Keeps s (beginReset n s) :=
  (requestStart_keeps _).step ((writeSummary_keeps ..).step
    ((closeSession_keeps ..).step ((closeSession_keeps ..).step (.set rfl .refl))))

theorem execYardRestartBegin_keeps (s : State) : keepsOut s (execYardRestartBegin s) := by
  unfold execYardRestartBegin
  split
  · exact .next .refl
  · dsimp only
    exact .ite (.next (.set rfl ((clearYard_keeps ..).step (.set rfl .refl))))
      (.ite (.next ((gnssStart_keeps ..).step ((clearYard_keeps ..).step (.set rfl .refl))))
        (.next ((beginReset_keeps ..).step (.set rfl .refl))))

theorem execModuleResetBegin_keeps (s : State) : keepsOut s (execModuleResetBegin s) := by
  unfold execModuleResetBegin
  split
  · exact .next .refl
  · exact .next (beginReset_keeps ..)

/-- The start of a bring-up ends fail-silence; it keeps the invariant all the same. -/
theorem execBringUpStart_inv (n : Nat) (s t : State) (h : Inv s) (hx : execBringUpStart n s = .next t) : Inv t := by
  unfold execBringUpStart at hx
  split at hx
  · cases hx
    exact h
  · cases hx
    refine Keeps.inv ((powerOff_keeps ..).step (.wrFld (.wrFld (.wrFld (.bump .refl))))) ⟨⟨?_, rfl⟩, fun _ => rfl, Nat.zero_le _⟩
    exact Regs.wf_filter _ h.1.1

/-! ### Self-tests -/

theorem yardTests_keeps (l : List Nat) (v : SelfTest) (s : State) : Keeps s (yardTests l v s) := by
  unfold yardTests
  extract_lets mine s1 s2 s3
  have once : Keeps s s1 := .foldl .refl fun _ _ => .set rfl (blockFault_keeps ..)
  have failed : Keeps s s2 := .foldl once fun _ _ => (blockFault_keeps ..).step (blockFault_keeps ..)
  have shown : Keeps s s3 := .ite (.sticky failed) failed
  exact .foldl shown fun _ _ => .ite .refl (.wrFlag .refl)

theorem execPd1Verdict_keeps (v : SelfTest) (s : State) : keepsOut s (execPd1Verdict v s) := by
  unfold execPd1Verdict
  extract_lets s0 bad _ s1 s2
  have h0 : Keeps s s0 :=
    (yardTests_keeps ..).step (.advance .refl)
  have h2 : Keeps s s2 :=
    .raiseAll (.set rfl h0)
  exact .ite (.next .refl) (.next ((settleLine_keeps _).step ((powerOn_keeps ..).step h2)))

theorem execHistoryFlush_keeps (s : State) : keepsOut s (execHistoryFlush s) := by
  unfold execHistoryFlush
  extract_lets s0 _ _ _ s1 _ s2
  have h0 : Keeps s s0 := .advance .refl
  have h1 : Keeps s s1 := .ite (.set rfl h0) h0
  exact .ite (.next .refl) (.next (.foldl (.set rfl h1) fun _ _ => .ite .refl (.set rfl .refl)))

theorem execPd4Verdict_keeps (v : SelfTest) (s : State) : keepsOut s (execPd4Verdict v s) := by
  unfold execPd4Verdict
  extract_lets s0
  have h0 : Keeps s s0 := (yardTests_keeps ..).step ((powerOn_keeps ..).step (.advance .refl))
  exact .ite (.next .refl) (.next (.ite h0 ((gnssStart_keeps ..).step h0)))

/-! ### Tables and settings -/

theorem settleTables_keeps (s : State) : Keeps s (settleTables s) := .set rfl .refl

theorem loadTables_keeps (s : State) : Keeps s (loadTables s) := by
  unfold loadTables
  refine (settleTables_keeps _).step (.foldl .refl fun t k => ?_)
  dsimp only
  refine .ite .refl ?_
  split
  next u hu => exact commitTables_keeps hu
  · exact .refl

theorem loadModuleConfig_keeps (s : State) : Keeps s (loadModuleConfig s) := by
  unfold loadModuleConfig
  refine .ite .refl (.foldl .refl fun t x => ?_)
  split
  · exact .refl
  · exact .wr .refl

theorem resetSettings_keeps (s : State) : Keeps s (resetSettings s) := by
  refine .regsTo .refl fun h => Regs.wf_foldl _ (fun r x hr => ?_) h
  split
  · exact hr
  · exact Regs.wf_regSet _ _ hr

theorem startTicks_keeps (h b : Nat) (s : State) : Keeps s (startTicks h b s) := by
  unfold startTicks
  extract_lets m n whole r
  have stored : Keeps s { s with regs := r, snap := r } := .files .refl fun ok => ⟨Regs.wf_regSet _ _ ok.1, Regs.wf_regSet _ _ ok.1⟩
  exact .set rfl stored

theorem canBoot_keeps (s : State) : Keeps s (canBoot s) := .set rfl .refl

theorem refreshUtc_keeps (s : State) : Keeps s (refreshUtc s) := .set rfl .refl

theorem execSelftestVerdicts_keeps (v : SelfTest) (x : Bool) (s : State) : keepsOut s (execSelftestVerdicts v x s) := by
  unfold execSelftestVerdicts
  extract_lets s0 s1 s2 up s3
  have h0 : Keeps s s0 :=
    (yardTests_keeps ..).step ((powerOn_keeps ..).step (.advance .refl))
  have h1 : Keeps s s1 :=
    .wrFld ((loadTables_keeps _).step ((loadModuleConfig_keeps _).step ((resetSettings_keeps _).step h0)))
  have h3 : Keeps s s3 := .wrFlag (.wrFlag (.wrFld ((startTicks_keeps ..).step h1)))
  clear_value s3
  exact .ite (.next .refl) (.next ((refreshUtc_keeps _).step ((canBoot_keeps _).step (.set rfl h3))))

theorem execCrossCheckVerdict_keeps (b : Bool) (s : State) : keepsOut s (execCrossCheckVerdict b s) :=
  .ite (.next .refl) (.ite (.next (.wrFlag (.advance .refl)))
    (.next ((enterFailSilent_keeps ..).step (.set rfl (.advance .refl)))))

theorem execHandshakeSend_keeps (c : Nat) (s : State) : keepsOut s (execHandshakeSend c s) :=
  .ite (.next (.advance .refl)) (.next (.set rfl (.set rfl (.advance .refl))))

/-! ### The twin link in a bring-up -/

theorem showLink_keeps (s : State) : Keeps s (showLink s) := .raiseIf (.wrFlag (.wrFlag (.wrFld .refl)))

theorem losePair_keeps (p : Fin 2) (s : State) : Keeps s (losePair p s) :=
  .ite ((showLink_keeps _).step (.sticky (.set rfl (.set rfl .refl)))) (.set rfl .refl)

theorem ownMessage_keeps (p : Fin 2) (s : State) : Keeps s (ownMessage p s) := by
  unfold ownMessage
  extract_lets s1
  have h1 : Keeps s s1 :=
    .sticky ((losePair_keeps p _).step (.set rfl .refl))
  exact .ite (.set rfl h1) h1

theorem leadJoiner_keeps (s : State) : Keeps s (leadJoiner s) := .ite (.set rfl (.wrFld (.wrFld .refl))) .refl

theorem execHandshakeMessage_keeps (c : Nat) (p : Fin 2) (m : List Byte) (s : State) : keepsOut s
    (execHandshakeMessage c p m s) :=
  .ite (.next (.advance .refl)) (.ite (.next (.sticky (.bump (.advance .refl))))
    (.ite (.next ((ownMessage_keeps ..).step (.advance .refl)))
      (.ite (.next ((leadJoiner_keeps _).step (.set rfl (.advance .refl)))) (.next (.set rfl (.set rfl (.advance .refl)))))))

theorem loadPhase_keepsInv (x : Nat × Nat) (s : State) : Keeps s (loadPhase x s) :=
  .set rfl ((startTicks_keeps ..).step (.set rfl .refl))

theorem putVerdict_keeps (v l : Nat) (s : State) : Keeps s (putVerdict v l s) := .wrFld (.set rfl .refl)

theorem execHandshakeVerdict_keeps (s : State) : keepsOut s (execHandshakeVerdict s) := by
  unfold execHandshakeVerdict
  extract_lets s0 h edge
  have shown : ∀ v l, Keeps s (putVerdict v l s0) := fun _ _ =>
    (putVerdict_keeps ..).step (.advance .refl)
  refine .ite (.next .refl) (.ite (.next ?_) ?_)
  · exact (putVerdict_keeps ..).step ((enterFailSilent_keeps ..).step (.sticky (.advance .refl)))
  split
  · exact .next ((loadPhase_keepsInv ..).step (.set rfl (shown _ _)))
  · exact .next ((loadPhase_keepsInv ..).step (.set rfl (shown _ _)))
  · exact .ite (.next (shown _ _)) (.next ((loadPhase_keepsInv ..).step (shown _ _)))
  · exact .next (shown _ _)

theorem execBringUpEnd_keeps (s : State) : keepsOut s (execBringUpEnd s) :=
  .ite (.next .refl) (.next ((settleLine_keeps _).step (.raise (.wrFld (.set rfl (.advance .refl))))))

end

end Sys2Proof.Machine
end

section
/-! SUPPORT. The tick edge and the servo, field channel and filter events keep what the invariant speaks of. -/
set_option Elab.async false

namespace Sys2Proof.Machine

section
variable {s t : State}

/-! ### A state with the events to raise in it -/

theorem Keeps.iteFst {α : Type} {c : Prop} [Decidable c] {r q : State × α} (h : Keeps s r.1) (k : Keeps s q.1) :
    Keeps s (if c then r else q).1 := by split <;> assumption

theorem Keeps.foldlFst {α β : Type} {l : List α} {f : State × β → α → State × β} {r : State × β} (h : Keeps s r.1)
    (hf : ∀ q a, Keeps q.1 (f q a).1) : Keeps s (l.foldl f r).1 :=
  List.foldlRecOn (motive := fun q : State × β => Keeps s q.1) l f h fun q hq a _ => hq.trans (hf q a)

/-! ### The barrier links -/

theorem field_keeps (x : Field) (s : State) : Keeps s { s with field := x } := .set rfl .refl

theorem updBank_keeps (b : Nat) (f : BankUnit → BankUnit) (s : State) : Keeps s (updBank b f s) := field_keeps ..

theorem updChans_keeps (b : Nat) (f : Nat → ChanUnit → ChanUnit) (s : State) : Keeps s (updChans b f s) := field_keeps ..

theorem updField_keeps (ch : Nat) (f : ChanUnit → ChanUnit) (s : State) : Keeps s (updField ch f s) := field_keeps ..

theorem reportChan_keeps (c : ChanUnit) (ch : Nat) (r : State × List (Nat × Nat)) : Keeps r.1 (reportChan c ch r).1 := by
  unfold reportChan
  extract_lets u n b u1
  have noted : Keeps r.1 u1 := .optNot .refl (.wr .refl)
  exact .iteFst (.bump noted) (.iteFst noted noted)

theorem badFrames_keeps (b n : Nat) (ret : Bool) (r : State × List (Nat × Nat)) : Keeps r.1 (badFrames b n ret r).1 := by
  unfold badFrames
  extract_lets blk k u
  have noted : Keeps r.1 u := .sticky (.bump .refl)
  exact .iteFst .refl (.iteFst noted ((updBank_keeps ..).step noted))

theorem reportSafe_keeps (b : Nat) (r : State × List (Nat × Nat)) : Keeps r.1 (reportSafe b r).1 := by
  unfold reportSafe
  extract_lets u t1 t2 t3
  have shown : Keeps r.1 t1 := updBank_keeps ..
  have marked : Keeps r.1 t3 := .opt (.sticky shown) (.wrFlag .refl)
  split
  · exact .refl
  · split
    · exact shown
    · dsimp only
      exact .foldl marked fun _ _ => .sticky .refl

theorem linkLatch_keeps (b : Nat) (x : BankIn) (r : State × List (Nat × Nat)) : Keeps r.1 (linkLatch b x r).1 := by
  unfold linkLatch
  extract_lets s0 quieter s1 u s2 s3 q
  have quiet : Keeps r.1 s1 := updChans_keeps ..
  have latched : Keeps r.1 s3 := (updChans_keeps ..).step ((updBank_keeps ..).step ((operationDone_keeps ..).step quiet))
  have reported : Keeps r.1 q.1 := .foldlFst (r := (s3, r.2)) latched fun _ _ => reportChan_keeps ..
  clear_value q
  split
  · exact (updBank_keeps ..).step quiet
  split
  · exact (updBank_keeps ..).step quiet
  split
  · exact (badFrames_keeps ..).step ((blockFault_keeps ..).step ((updBank_keeps ..).step quiet))
  split
  · exact (updBank_keeps ..).step ((operationDone_keeps ..).step quiet)
  · exact (reportSafe_keeps ..).step ((badFrames_keeps ..).step reported)

theorem servoFrame_keeps (b : Nat) (s : State) : Keeps s (servoFrame b s) := by
  unfold servoFrame
  exact updChans_keeps ..

theorem beatFrame_keeps (b : Nat) (s : State) : Keeps s (beatFrame b s) := (updChans_keeps ..).step (updBank_keeps ..)

theorem linkSend_keeps (b : Nat) (x : BankIn) (s : State) : Keeps s (linkSend b x s) := by
  unfold linkSend
  extract_lets s1 s2
  have marked : Keeps s s1 := .ite (updBank_keeps ..) (updBank_keeps ..)
  have framed : Keeps s s2 := .ite ((updBank_keeps ..).step marked) ((servoFrame_keeps ..).step marked)
  exact .ite (updBank_keeps ..) (.ite (.ite ((updBank_keeps ..).step framed) ((beatFrame_keeps ..).step framed)) framed)

/-! ### The servo engine -/

theorem servo_keeps (x : Servo) (s : State) : Keeps s { s with servo := x } := .set rfl .refl

theorem servoLatch_keeps (s : State) : Keeps s (servoLatch s) := servo_keeps ..

theorem execTickEdge_keeps (i : TickIn) (s : State) : keepsOut s (execTickEdge i s) := by
  unfold execTickEdge
  extract_lets _ c s1 q bad carry _ _ s2 s3 s4
  have latched : Keeps s q.1 :=
    (linkLatch_keeps ..).step ((linkLatch_keeps ..).step (show Keeps s s1 from .advance (.set rfl .refl)))
  have sent : Keeps s s4 := (linkSend_keeps ..).step ((linkSend_keeps ..).step (.raiseAll (.advance (.set rfl latched))))
  exact .ite (.next .refl) (.next ((servoLatch_keeps _).step sent))

theorem updAxis_keeps (a : Nat) (f : AxisUnit → AxisUnit) (s : State) : Keeps s (updAxis a f s) := servo_keeps ..

theorem forwardAxis_keeps (a : Nat) (e : Option (Nat × Nat)) (s : State) : Keeps s (forwardAxis a e s) := by
  unfold forwardAxis
  split
  · exact .ite .refl (servo_keeps ..)
  · exact .refl

theorem alc_keeps (x : Alloc) (s : State) : Keeps s { s with alc := x } := .set rfl .refl

theorem settleThrusters_keeps (s : State) : Keeps s (settleThrusters s) := alc_keeps ..

theorem servoCommit_keeps (l : List Nat) (s : State) : Keeps s (servoCommit l s) := .set rfl .refl

theorem execServoRegister_keeps (s : State) : keepsOut s (execServoRegister s) := by
  unfold execServoRegister
  extract_lets s0 old blk new parks ons _ s1 mark s2 s3 s4 s5 sats
  have begun : Keeps s s1 := (servo_keeps ..).step (.advance .refl)
  have marked : Keeps s s2 := .foldl begun fun _ _ => .opt (.opt (.opt .refl (.sticky .refl)) (.sticky .refl)) (.sticky .refl)
  have committed : Keeps s s3 := .ite marked ((servoCommit_keeps ..).step marked)
  have joined : Keeps s s5 := .foldl (.foldl committed fun _ _ => forwardAxis_keeps ..) fun _ _ => forwardAxis_keeps ..
  exact .ite (.next .refl) (.next (.raiseAll (.foldl joined fun _ _ => operationDone_keeps ..)))

theorem execAxisFault_keeps (a : Fin 48) (s : State) : keepsOut s (execAxisFault a s) := by
  unfold execAxisFault
  extract_lets x code s0 c group arg s1 s2 s3 s4
  have begun : Keeps s s0 := .advance .refl
  have dropped : Keeps s s1 := .opt begun (dropPending_keeps ..)
  have faulted : Keeps s s4 := .bump (.sticky ((servoCommit_keeps ..).step ((updAxis_keeps ..).step dropped)))
  exact .ite (.next .refl) (.ite (.next ((settleThrusters_keeps _).step (.raise ((forwardAxis_keeps ..).step faulted))))
    (.ite (.next begun) (.next (.raise ((updAxis_keeps ..).step begun)))))

theorem execAxisShutdownComplete_keeps (a : Fin 48) (s : State) : keepsOut s (execAxisShutdownComplete a s) :=
  .ite (.next .refl) (.next ((settleThrusters_keeps _).step (.raise ((forwardAxis_keeps ..).step ((servoCommit_keeps ..).step
    ((updAxis_keeps ..).step (.advance .refl)))))))

theorem execAxisCommandEffect_keeps (a : Fin 48) (s : State) : keepsOut s (execAxisCommandEffect a s) := by
  unfold execAxisCommandEffect
  extract_lets x s0 c s1 mates goTo
  split
  · exact .next .refl
  · extract_lets waits
    have begun : Keeps s s1 := (updAxis_keeps ..).step (.advance .refl)
    have gone : ∀ f, keepsOut s (goTo f) := fun f =>
      .next ((settleThrusters_keeps _).step ((servoCommit_keeps ..).step ((updAxis_keeps ..).step begun)))
    exact .ite (.next .refl) (.ite (.next begun) (.ite (.ite (.next begun) (gone _)) (.ite (.ite (gone _) (.next begun))
      (.ite (gone _) (.ite (gone _) (.next ((settleThrusters_keeps _).step begun)))))))

theorem execPendingEnableEffect_keeps (a : Fin 48) (s : State) : keepsOut s (execPendingEnableEffect a s) := by
  unfold execPendingEnableEffect
  extract_lets x group busy s0 c enter s1 s2
  have begun : Keeps s s2 := (servoCommit_keeps ..).step ((updAxis_keeps ..).step (.advance .refl))
  refine .ite (.next .refl) ?_
  split
  · exact .next ((alc_keeps ..).step begun)
  · exact .next begun

/-! ### Field channels -/

theorem execDiagCommonEntry_keeps (k : Fin 2) (s : State) : keepsOut s (execDiagCommonEntry k s) :=
  .ite (.next .refl) (.next (.raise (.sticky ((updBank_keeps ..).step (.advance .refl)))))

theorem execDiagCommonExit_keeps (k : Fin 2) (s : State) : keepsOut s (execDiagCommonExit k s) :=
  .ite (.next .refl) (.next (.raise ((updBank_keeps ..).step (.advance .refl))))

theorem execDiDebounce_keeps (c : Fin 48) (s : State) : keepsOut s (execDiDebounce c s) :=
  .ite (.next .refl) (.next ((updField_keeps ..).step (.advance .refl)))

theorem execDoOverloadCutoff_keeps (c : Fin 48) (x : Bool) (s : State) : keepsOut s (execDoOverloadCutoff c x s) :=
  .ite (.next .refl) (.next (updField_keeps ..))

theorem execDoRestart_keeps (c : Fin 48) (s : State) : keepsOut s (execDoRestart c s) :=
  .ite (.next .refl) (.next (updField_keeps ..))

theorem execBankSupplyChange_keeps (k : Fin 2) (s : State) : keepsOut s (execBankSupplyChange k s) :=
  .ite (.next .refl) (.next (.raise (.opt (.opt ((updBank_keeps ..).step (.advance .refl)) (.sticky .refl)) (.sticky .refl))))

theorem execBankOvercurrentTrip_keeps (k : Fin 2) (s : State) : keepsOut s (execBankOvercurrentTrip k s) :=
  .ite (.next .refl) (.next (.raise (.sticky (.wrFlag ((updBank_keeps ..).step (.advance .refl))))))

theorem execSilenceTimeout_keeps (k : Fin 2) (s : State) : keepsOut s (execSilenceTimeout k s) :=
  .ite (.next .refl) (.next ((updChans_keeps ..).step ((updBank_keeps ..).step (.advance .refl))))

theorem execSilenceResume_keeps (k : Fin 2) (s : State) : keepsOut s (execSilenceResume k s) :=
  .ite (.next .refl) (.next ((updChans_keeps ..).step ((updBank_keeps ..).step (.advance .refl))))

theorem execModeChangeEffect_keeps (c : Fin 48) (s : State) : keepsOut s (execModeChangeEffect c s) := by
  unfold execModeChangeEffect
  split
  · exact .next .refl
  · exact .ite (.next .refl) (.next ((updField_keeps ..).step (.advance .refl)))

/-! ### Filters -/

theorem filt_keeps (x : Filt) (s : State) : Keeps s { s with filt := x } := .set rfl .refl

theorem laneStep_keeps (bits : BitVec 32) (ok : Bool) (phase : Int) (idx l : Nat) (r : State × List (Nat × Nat)) :
    Keeps r.1 (laneStep bits ok phase idx l r).1 := by
  unfold laneStep
  extract_lets v _ _ _ _ _ _ _ _ put _ _ _ _ _ _ _ _ k _ _ v1 v2 v3
  have limited : Keeps r.1 v3 := .opt (.opt (filt_keeps ..) (.bump (.sticky .refl))) (.sticky .refl)
  exact .iteFst (filt_keeps ..) (.opt limited (.sticky .refl))

theorem execSincOutput_keeps (x : SincIn) (s : State) : keepsOut s (execSincOutput x s) := by
  unfold execSincOutput
  extract_lets _ s0 _ _ _ r s1 _ _ _ _ _
  have stepped : Keeps s s1 := .foldlFst (r := (s0, [])) (.advance .refl) fun _ _ => laneStep_keeps ..
  exact .ite (.next .refl) (.next (.raiseAll (.foldl ((filt_keeps ..).step stepped) fun _ _ => operationDone_keeps ..)))

theorem execSettlingEnd_keeps (l : Fin 48) (s : State) : keepsOut s (execSettlingEnd l s) :=
  .ite (.next .refl) (.next (filt_keeps ..))

theorem execSyncInEdge_keeps (c : Nat) (r : Bool) (s : State) : keepsOut s (execSyncInEdge c r s) :=
  .ite (.next (.advance .refl)) (.next ((syncEdge_keeps ..).step (.advance .refl)))

end

end Sys2Proof.Machine
end

section
/-! SUPPORT. The beat edge and the rows of the host port keep what the invariant speaks of. -/
set_option Elab.async false

namespace Sys2Proof.Machine

section
variable {s t : State}

/-! ### The halter -/

/-- A unit that is not fail-silent may take or lose the halter. -/
theorem Keeps.twinFree {x : Twin} (h : Keeps s t) (hf : failSilent t = false) (hx : x.cause = t.twin.cause) :
    Keeps s { t with twin := x } :=
  h.twinTo (fun hs => absurd hs (by simp [hf])) fun _ => .inl (by simpa [failSilent, ← hx] using hf)

/-- The halter may be lost at any time. -/
theorem Keeps.twinDrops {x : Twin} (h : Keeps s t) (hx : x.cause = t.twin.cause) (hh : x.holds = false) :
    Keeps s { t with twin := x } := h.twinTo (fun _ => ⟨hx, fun _ => hh⟩) fun _ => .inr hh

theorem takeHalter_keeps {cause lc : Nat} (hs : failSilent s = false) : Keeps s (takeHalter cause lc s) :=
  .raise (.sticky (.bump (Keeps.refl.twinFree hs rfl)))

theorem dropHalter_keeps (cause lp : Nat) (bar : Bool) (s : State) : Keeps s (dropHalter cause lp bar s) :=
  .raise (.sticky (.bump (.twinDrops (t := { s with idReq := [] }) (.set rfl .refl) rfl rfl)))

theorem halterEdge_keeps (e : Nat) (s : State) : Keeps s (halterEdge e s) := by
  unfold halterEdge
  refine .ite (.raise (.sticky (.bump (.set rfl .refl)))) (.iteOn (fun _ => .refl) fun hs => ?_)
  rw [Bool.not_eq_true] at hs
  split
  · exact .ite (dropHalter_keeps ..) .refl
  · refine .ite .refl ?_
    split
    · exact .ite (takeHalter_keeps hs) (.set rfl .refl)
    · exact .ite (takeHalter_keeps hs) (.ite (takeHalter_keeps hs) .refl)

theorem pairBeat_keeps (run : Bool) (s : State) : Keeps s (pairBeat run s) := .set rfl .refl

theorem twinEdge_keeps (e : Nat) (s : State) : Keeps s (twinEdge e s) := by
  unfold twinEdge
  extract_lets x lp lc s1
  have begun : Keeps s s1 := (pairBeat_keeps ..).step (.set rfl .refl)
  exact (halterEdge_keeps ..).step (.foldl begun fun _ _ => updCan_keeps ..)

theorem twinAtEdge_keeps (first : Bool) (s : State) : Keeps s (twinAtEdge first s) :=
  .ite (.set rfl ((twinEdge_keeps ..).step (.set rfl .refl))) (twinEdge_keeps ..)

/-! ### Latch and release -/

theorem ctl_keeps (x : Control) (s : State) : Keeps s { s with ctl := x } := .set rfl .refl

theorem latchJoystick_keeps (s : State) : Keeps s (latchJoystick s) := ctl_keeps ..

theorem controlSnapshot_keeps (s : State) : Keeps s (controlSnapshot s) := ctl_keeps ..

theorem fus_field_keeps (x : Fusion) (y : Field) (s : State) : Keeps s { s with fus := x, field := y } := .set rfl .refl

theorem filterSnapshot_keeps (old : Regs) (s : State) : Keeps s (filterSnapshot old s) := by
  unfold filterSnapshot
  extract_lets lib switches s1
  exact (filt_keeps ..).step (.foldl .refl fun _ _ => .opt .refl (.sticky .refl))

theorem powerLatch_keeps (s : State) : Keeps s (powerLatch s) := .ite .refl (alc_keeps ..)

theorem powerImage_keeps (s : State) : Keeps s (powerImage s) := by
  unfold powerImage
  exact alc_keeps ..

theorem allocEdge_keeps (released : Bool) (live : List (Nat × Nat)) (s : State) : Keeps s (allocEdge released live s) := by
  unfold allocEdge
  extract_lets s1
  have imaged : Keeps s s1 := (powerImage_keeps _).step (powerLatch_keeps s)
  exact (alc_keeps ..).step imaged

theorem servoRelease_keeps (old : Regs) (released : Bool) (s : State) : Keeps s (servoRelease old released s) := by
  have both : ∀ (x : Servo) y, Keeps s { s with servo := x, poison := y } := fun _ _ => .set rfl .refl
  exact both ..

theorem src_keeps (x : Vector SrcUnit 32) (s : State) : Keeps s { s with src := x } := .set rfl .refl

theorem latchSources_keeps (e : Nat) (s : State) : Keeps s (latchSources e s) := by
  unfold latchSources
  exact src_keeps ..

/-- The beat snapshot is a copy of the register file. -/
theorem Keeps.snapshot {l : List Nat} (h : Keeps s t) : Keeps s { t with snap := t.regs, snapPoison := l } :=
  .set (t := { t with snap := t.regs }) rfl (h.files fun ok => ⟨ok.1, ok.1⟩)

theorem latchAndRelease_keeps (released : Bool) (s : State) : Keeps s (latchAndRelease released s) := by
  unfold latchAndRelease
  extract_lets tau old s1 s2 s3
  have latched : Keeps s s1 := (latchJoystick_keeps _).step (latchSources_keeps ..)
  have snapped : Keeps s s2 := (filterSnapshot_keeps ..).step ((controlSnapshot_keeps _).step latched.snapshot)
  have settled : Keeps s s3 :=
    (settleTables_keeps _).step ((settleThrusters_keeps _).step ((servoRelease_keeps ..).step ((allocEdge_keeps ..).step snapped)))
  exact (fus_field_keeps ..).step settled

/-! ### The first cycles of the beat -/

theorem placeFrame_keeps (b : Nat) (e : TxEntry) (s : State) : Keeps s (placeFrame b s e) := by
  unfold placeFrame
  extract_lets u same s1
  have placed : Keeps s s1 := updCan_keeps ..
  exact .ite (.bump .refl) (.ite (.bump (.sticky placed)) placed)

theorem placeBeat_keeps (old : Regs) (k : Nat) (released : Bool) (wire : BitVec 4) (s : State) :
    Keeps s (placeBeat old k released wire s) := by
  unfold placeBeat
  refine .ite .refl (.foldl .refl fun v b => ?_)
  extract_lets u v1
  exact .ite .refl (.foldl (updCan_keeps ..) fun _ _ => placeFrame_keeps ..)

theorem statusDatagrams_keeps (k : Nat) (s : State) : Keeps s (statusDatagrams k s) := by
  unfold statusDatagrams
  refine .ite .refl (.foldl .refl fun v e => .ite .refl ?_)
  extract_lets l
  exact (ethQueue_keeps ..).step (.set rfl .refl)

theorem startTalk_keeps (p : Fin 4) (l : List TalkLine) (s : State) : Keeps s (startTalk p l s) := by
  unfold startTalk
  split
  · exact .refl
  · exact .ite (.sticky (.bump .refl)) (.set rfl .refl)

theorem talkAll_keeps (s : State) : Keeps s (talkAll s) := by
  unfold talkAll
  exact .ite .refl (.foldl .refl fun _ _ => .ite .refl (startTalk_keeps ..))

theorem afterEdge_keeps (old : Regs) (k : Nat) (released : Bool) (wire : BitVec 4) (s : State) :
    Keeps s (afterEdge old k released wire s) := by
  unfold afterEdge
  extract_lets s1
  have sent : Keeps s s1 :=
    (talkAll_keeps _).step ((statusDatagrams_keeps ..).step (placeBeat_keeps ..))
  exact .ite ((writeSummary_keeps ..).step sent) sent

theorem resumeSleep_keeps (s : State) : Keeps s (resumeSleep s) := by
  unfold resumeSleep
  split
  · exact .refl
  · exact .ite (.set rfl .refl) .refl

theorem execBeatEdge_keeps (wire : BitVec 4) (s : State) : keepsOut s (execBeatEdge wire s) := by
  unfold execBeatEdge
  extract_lets first edge stop released k old s1
  have started : Keeps s (startBeat edge (advance edge s)) := .set rfl (.advance .refl)
  have begun : Keeps s s1 := (latchAndRelease_keeps ..).step ((twinAtEdge_keeps ..).step started)
  exact .ite (.next .refl) (.ite (.next ((resumeSleep_keeps _).step (.ite ((writeSummary_keeps ..).step begun) begun)))
    (.ite (.next begun) (.next ((afterEdge_keeps ..).step begun))))

/-! ### The host port -/

theorem line_keeps (x : HostLine) (s : State) : Keeps s { s with line := x } := .set rfl .refl

theorem updPort_keepsInv (p : Fin 2) (f : HostPort → HostPort) (s : State) : Keeps s (updPort p f s) := .set rfl .refl

theorem updEngine_keeps (p : Fin 2) (f : Engine → Engine) (s : State) : Keeps s (updEngine p f s) := .set rfl .refl

theorem framing_keeps (p : Fin 2) (lane bit : Nat) (s : State) : Keeps s (framing p lane bit s) :=
  .raise (.sticky (.bump .refl))

theorem packetFault_keeps (p : Fin 2) (lane bit : Nat) (crc : Bool) (s : State) : Keeps s (packetFault p lane bit crc s) :=
  .raiseIf (.sticky (.bump .refl))

theorem countAbandoned_keeps (p : Fin 2) (lane : Fin 4) (s : State) : Keeps s (countAbandoned p lane s) :=
  .raise (.sticky (.bump .refl))

theorem dropDatagram_keeps (lane : Nat) (s : State) : Keeps s (dropDatagram lane s) := .raise (.sticky (.bump .refl))

theorem putBales_keeps (p : Fin 2) (l : Fin 4) (b : List InBale) (s : State) : Keeps s (putBales p l b s) :=
  .raiseIf (updPort_keepsInv ..)

theorem tryGrant_keeps (s : State) : Keeps s (tryGrant s) := by
  unfold tryGrant
  extract_lets l
  split
  · exact .refl
  · refine .ite .refl (.ite ?_ (.ite (line_keeps ..) .refl))
    split
    · exact .refl
    · exact line_keeps ..
    · exact line_keeps ..

theorem quitPacket_keeps (p : Fin 2) (lane : Fin 4) (b : List Byte) (peer : Option Peer) (s : State) :
    Keeps s (quitPacket p lane b peer s) :=
  (sendReply_keeps ..).step ((countAbandoned_keeps ..).step (updEngine_keeps ..))

theorem abandon_keeps (p : Fin 2) (s : State) : Keeps s (abandon p s) := by
  obtain h | ⟨lane, b, peer, h⟩ := abandon_cases p s <;> rw [h]
  · exact .refl
  · exact quitPacket_keeps ..

theorem abandonLane_keeps (l : Fin 4) (s : State) : Keeps s (abandonLane l s) := by
  refine .ite (abandon_keeps ..) ?_
  split
  · exact .refl
  · exact (attentionDue_keeps ..).step ((countAbandoned_keeps ..).step (updPort_keepsInv ..))

theorem Keeps.backInTime (h : Keeps s t) : Keeps s { t with clk := s.clk, power := s.power } := .set rfl h

theorem headerChecks_keeps (p : Fin 2) (l : Fin 4) (b : List Byte) (s : State) : Keeps s (headerChecks p l b s) := by
  unfold headerChecks
  split
  · exact ((packetFault_keeps ..).step (.advance .refl)).backInTime
  · exact .refl

theorem finishPacket_keeps (p : Fin 2) (k : OpenPacket) (s : State) : Keeps s (finishPacket p k s) := by
  unfold finishPacket
  extract_lets n op fl h ready s1
  have closed : Keeps s s1 := updEngine_keeps ..
  refine .ite ((sendReply_keeps ..).step ((packetFault_keeps ..).step closed)) (.ite ((sendReply_keeps ..).step closed)
    (.ite ((sendReply_keeps ..).step closed) ((updEngine_keeps ..).step closed)))

theorem datagramArrives_keeps (q : Peer) (b : List Byte) (s : State) : Keeps s (datagramArrives q b s) := by
  unfold datagramArrives
  extract_lets want lane s1
  have dropped : Keeps s s1 := dropDatagram_keeps ..
  exact .ite dropped (.ite (.ite ((replyDatagram_keeps ..).step dropped) dropped) (putBales_keeps ..))

theorem execHselNFall_keeps (c : Nat) (s : State) : keepsOut s (execHselNFall c s) :=
  .next ((line_keeps ..).step (.advance .refl))

theorem execAccessByte_keeps (c : Nat) (b : Byte) (s : State) : keepsOut s (execAccessByte c b s) := by
  refine .ite (.next (.advance .refl)) (.ite (.next ?_) (.next ?_))
  · exact (framing_keeps ..).step ((line_keeps ..).step (.advance .refl))
  · exact (tryGrant_keeps _).step ((line_keeps ..).step (.advance .refl))

theorem execSelectionGrant_keeps (c : Nat) (s : State) : keepsOut s (execSelectionGrant c s) :=
  .next ((tryGrant_keeps _).step (.advance .refl))

theorem execBaleWrite_keeps (c : Nat) (bale : List Byte) (s : State) : keepsOut s (execBaleWrite c bale s) := by
  have now : Keeps s (advance c s) := .advance .refl
  unfold execBaleWrite
  refine .ite (by rintro _ ⟨⟩) ?_
  dsimp only
  split
  · exact .next now
  · exact .ite (.next now) (.ite (.next ((putBales_keeps ..).step ((line_keeps ..).step now)))
      (.next ((framing_keeps ..).step ((line_keeps ..).step now))))

theorem execBaleRead_keeps (c : Nat) (s : State) : keepsOut s (execBaleRead c s) := by
  have now : Keeps s (advance c s) := .advance .refl
  refine .ite (.next now) ?_
  split
  · exact .next now
  · refine .ite (.next now) ?_
    split
    · exact .next ((line_keeps ..).step now)
    · split
      · exact .next ((line_keeps ..).step now)
      · exact .next ((updPort_keepsInv ..).step ((line_keeps ..).step now))

theorem execHselNRise_keeps (c n : Nat) (s : State) : keepsOut s (execHselNRise c n s) := by
  have now : Keeps s (advance c s) := .advance .refl
  have closed : Keeps s (closeSelection (advance c s)) := (line_keeps ..).step now
  have counted : ∀ l, Keeps s (framing 0 l 0 (closeSelection (advance c s))) := fun _ =>
    (framing_keeps ..).step closed
  cases h : s.line.sel.sel
  case false =>
    rw [execHselNRise_closed h]
    exact .next now
  case true =>
    obtain ⟨t, ht, ended⟩ := execHselNRise_open (c := c) (n := n) h
    rw [ht]
    refine .next ((settleLine_keeps _).step ((line_keeps ..).step ?_))
    obtain rfl | ⟨l, rfl | rfl⟩ := ended
    · exact closed
    · exact counted _
    · exact (abandonLane_keeps ..).step (counted _)

theorem execAttentionPulse_keeps (c : Nat) (s : State) : keepsOut s (execAttentionPulse c s) := by
  have now : Keeps s (advance c s) := .advance .refl
  exact .ite (.next now) (.ite (.next ((line_keeps ..).step now)) (.ite (.next ((line_keeps ..).step now)) (.next now)))

theorem execAttentionPulseEnd_keeps (s : State) : keepsOut s (execAttentionPulseEnd s) := by
  unfold execAttentionPulseEnd
  split
  · exact .next .refl
  · exact .next ((line_keeps ..).step (.advance .refl))

theorem execBaleDispatch_keeps (c : Nat) (p : Fin 2) (s : State) : keepsOut s (execBaleDispatch c p s) := by
  have now : Keeps s (advance c s) := .advance .refl
  refine .ite (.next now) ?_
  split
  · split
    · exact .next now
    · exact .ite (.next ((abandon_keeps ..).step now)) (.next ((updEngine_keeps ..).step now))
  · refine .ite (.next now) ?_
    split
    · exact .next now
    · split
      · exact .next now
      · have taken : ∀ f, Keeps s (updEngine p f (advance c s)) := fun _ => (updEngine_keeps ..).step now
        exact .next (.ite ((headerChecks_keeps ..).step (taken _))
          (.ite (taken _) ((framing_keeps ..).step (taken _))))

theorem discardLane_keeps (p : Fin 2) (l : Fin 4) (x : Bool) (s : State) : Keeps s (discardLane p l x s) := updPort_keepsInv ..

theorem execBaleDrain_keeps (p : Fin 2) (s : State) : keepsOut s (execBaleDrain p s) := by
  unfold execBaleDrain
  split
  · exact .next .refl
  next d _ =>
    have drained : Keeps s (drainBale p d s) := (updPort_keepsInv ..).step (.advance .refl)
    have marked : ∀ x t, Keeps s t → Keeps s (discardLane p d.lane x t) :=
      fun _ _ h => (discardLane_keeps ..).step h
    refine .next ((settleLine_keeps _).step (.ite drained ?_))
    split
    · exact .ite ((finishPacket_keeps ..).step drained) ((updEngine_keeps ..).step drained)
    · dsimp only
      split
      · exact marked _ _ ((sendReply_keeps ..).step drained)
      · exact .ite (marked _ _ ((sendReply_keeps ..).step drained))
          (.ite ((finishPacket_keeps ..).step (marked _ _ drained)) ((updEngine_keeps ..).step (marked _ _ drained)))

theorem execPacketGapExpiry_keeps (p : Fin 2) (s : State) : keepsOut s (execPacketGapExpiry p s) := by
  unfold execPacketGapExpiry
  split
  · exact .next .refl
  · exact .ite (.next .refl) (.next ((abandon_keeps ..).step (.advance .refl)))

theorem execReplyBaleWrite_keeps (c : Nat) (p : Fin 2) (s : State) : keepsOut s (execReplyBaleWrite c p s) := by
  unfold execReplyBaleWrite
  extract_lets s0
  have now : Keeps s s0 := .advance .refl
  split
  · exact .next now
  · split
    · exact .next ((updEngine_keeps ..).step now)
    · refine .ite (.next now) ?_
      extract_lets s1 s2
      have written : Keeps s s1 := .ite ((updPort_keepsInv ..).step now) now
      have left : Keeps s s2 := (updEngine_keeps ..).step written
      exact .ite (.next ((replyDatagram_keeps ..).step left)) (.next left)

theorem execCmdDatagram_keeps (c : Nat) (d : Datagram) (s : State) : keepsOut s (execCmdDatagram c d s) := by
  have now : Keeps s (advance c s) := .advance .refl
  refine .ite (.next now) (.ite (.next ((datagramArrives_keeps ..).step now)) ?_)
  dsimp only
  split
  · exact .next ((updPort_keepsInv ..).step now)
  · refine .ite (.next ((dropDatagram_keeps ..).step ((updPort_keepsInv ..).step now))) ?_
    split
    · exact .next ((datagramArrives_keeps ..).step ((updPort_keepsInv ..).step now))
    · exact .next ((updPort_keepsInv ..).step now)

theorem execFragmentTimeout_keeps (c : Nat) (s : State) : keepsOut s (execFragmentTimeout c s) :=
  .next (.foldl ((updPort_keepsInv ..).step (.advance .refl)) fun _ _ => (dropDatagram_keeps ..))

end

end Sys2Proof.Machine
end

section
/-! SUPPORT. The events of intake, fusion, control law and allocation keep what the invariant speaks of. -/
set_option Elab.async false

namespace Sys2Proof.Machine

section
variable {s t : State}

/-- A snapshot that is made from the present one. -/
theorem Keeps.snapTo {q : Regs} (h : Keeps s t) (hq : t.snap.wf = true → q.wf = true) : Keeps s { t with snap := q } :=
  h.files fun ok => ⟨ok.1, hq ok.2⟩

theorem stageDone_keeps (b : Nat) (s : State) : Keeps s (stageDone b s) :=
  (operationDone_keeps ..).step (operationDone_keeps ..)

theorem fus_keeps (x : Fusion) (s : State) : Keeps s { s with fus := x } := .set rfl .refl

theorem ser_keeps (x : Vector SerPort 4) (s : State) : Keeps s { s with ser := x } := .set rfl .refl

theorem updSrc_keeps (q : Nat) (f : SrcUnit → SrcUnit) (s : State) : Keeps s (updSrc q f s) := src_keeps ..

theorem updCount_keeps (q : Nat) (f : SrcCount → SrcCount) (s : State) : Keeps s (updCount q f s) := src_keeps ..

theorem takeRecord_keeps (q : Nat) (x : Except Reject SampleRec) (s : State) : Keeps s (takeRecord q x s) := by
  cases x
  case ok => exact updSrc_keeps ..
  case error => exact updSrc_keeps ..

theorem execSourceLossTimeout_keeps (q : Fin 32) (s : State) : keepsOut s (execSourceLossTimeout q s) :=
  .ite (.next (.raise (updSrc_keeps ..))) (.next .refl)

theorem serialDiscard_keeps (p : Fin 4) (bit off : Nat) (s : State) : Keeps s (serialDiscard p bit off s) := by
  have counted : Keeps s (sticky (bump s (serId p off) 15 0 1) (serId p 1) bit) := .sticky (.bump .refl)
  exact .ite counted (.raise ((ser_keeps ..).step counted))

theorem execSerialSentence_keeps (c a : Nat) (p : Fin 4) (l : List Byte) (f : Bool) (s : State) :
    keepsOut s (execSerialSentence c a p l f s) := by
  unfold execSerialSentence
  extract_lets s0
  have begun : Keeps s s0 := .advance .refl
  have discarded (bit off : Nat) : keepsOut s (.next (serialDiscard p bit off s0)) := .next ((serialDiscard_keeps ..).step begun)
  refine .ite (.next begun) (.ite (discarded _ _) (.ite (discarded _ _) ?_))
  split
  · exact discarded _ _
  · extract_lets b
    split
    · exact .next (.sticky (.bump begun))
    · exact .next ((takeRecord_keeps ..).step begun)

theorem execUdpbcSentence_keeps (c a : Nat) (e : Fin 2) (g : Fin 16) (l : List Byte) (s : State) :
    keepsOut s (execUdpbcSentence c a e g l s) := by
  unfold execUdpbcSentence
  extract_lets s0 body
  have begun : Keeps s s0 := .advance .refl
  refine .ite (.next begun) ?_
  split
  · exact .next begun
  · extract_lets b
    split
    · exact .next begun
    · extract_lets _ near x more
      exact .ite (.next ((updSrc_keeps ..).step begun)) (.next ((takeRecord_keeps ..).step ((updSrc_keeps ..).step begun)))

theorem execCanReferenceFrame_keeps (c a : Nat) (b : Fin 4) (f : CanFrame) (s : State) :
    keepsOut s (execCanReferenceFrame c a b f s) := by
  unfold execCanReferenceFrame
  extract_lets s0
  have begun : Keeps s s0 := .advance .refl
  refine .ite (.next begun) ?_
  split
  · exact .next begun
  · extract_lets x p v
    have rejected (e : Reject) (q : Nat) : keepsOut s (.next (rejectRec q e s0)) :=
      .next ((updSrc_keeps ..).step begun)
    exact .ite (rejected _ _) (.ite (rejected _ _) (.ite (rejected _ _)
      (.next ((updSrc_keeps ..).step ((updSrc_keeps ..).step begun)))))

theorem execTalkSentenceSent_keeps (p : Fin 4) (s : State) : keepsOut s (execTalkSentenceSent p s) :=
  .next (ser_keeps ..)

theorem autoOrigin_keeps (lat lon : Int) (s : State) : Keeps s (autoOrigin lat lon s) := by
  unfold autoOrigin
  extract_lets l s1
  have stored : Keeps s s1 := .wrAll .refl
  exact .raise (stored.snapTo fun h => Regs.wf_foldl _ (fun _ _ => Regs.wf_regSet _ _) h)

theorem readySamples_keeps (q : Nat) (x : SrcCfg) (l : List SampleRec) (s : State) : Keeps s (readySamples q x l s).2 := by
  induction l generalizing s with
  | nil => exact .refl
  | cons a l ih =>
    unfold readySamples
    extract_lets t s1 s2
    have counted : Keeps s s1 := .opt .refl (updCount_keeps ..)
    have origin : Keeps s s2 := .opt counted (autoOrigin_keeps ..)
    split
    · exact ((updSrc_keeps ..).step counted).trans (ih _)
    · split
      · exact ((updSrc_keeps ..).step origin).trans (ih _)
      · exact origin.trans (ih _)

theorem placeMeas_keeps (q back : Nat) (m : Meas) (s : State) : Keeps s (placeMeas q back m s) := by
  unfold placeMeas
  extract_lets sup put
  have counted (t : State) : Keeps t (sup t) := updCount_keeps ..
  have stored (t : State) : Keeps t (putMeas back q (some m) t) :=
    .ite (fus_keeps ..) (fus_keeps ..)
  have placed (t : State) : Keeps t (put t) := (fus_keeps ..).step (stored t)
  split
  · exact placed s
  · exact .ite ((counted s).trans (placed _)) (counted s)

theorem alignSample_keeps (q : Nat) (x : SrcCfg) (l : List ReadySample) (r : ReadySample) (s : State) :
    Keeps s (alignSample q x l r s).2 := by
  unfold alignSample
  extract_lets edge u back s0 t later earlier a sg root m s1
  have aged : Keeps s s0 := updCount_keeps ..
  split
  · exact (updSrc_keeps ..).step aged
  · split
    · exact (updSrc_keeps ..).step aged
    · exact (updSrc_keeps ..).step ((placeMeas_keeps ..).step ((updCount_keeps ..).step aged))

theorem summarise_keeps (q : Nat) (x : SrcCfg) (a : Bool) (s : State) : Keeps s (summarise q x a s).1 := updSrc_keeps ..

theorem intakeSource_keeps (q : Nat) (s : State) : Keeps s (intakeSource q s).1 := by
  refine (summarise_keeps q (srcCfg s.snap q) _ _).step (List.foldlRecOn (motive := fun (a : Bool × State) => Keeps s a.2) _ _
    (readySamples_keeps ..) fun a ha k _ => ?_)
  exact (alignSample_keeps ..).step ha

theorem moveOrigin_keeps (s : State) : Keeps s (moveOrigin s) := by
  unfold moveOrigin
  split
  · exact .refl
  · extract_lets f clear zero slot s1
    have stored : Keeps s s1 := .wrAll .refl
    exact .ite .refl (.raise (.set rfl (stored.snapTo (Regs.wf_regSet _ _))))

theorem execIntakeSummary_keeps (s : State) : keepsOut s (execIntakeSummary s) := by
  unfold execIntakeSummary
  extract_lets s0 f s1 r
  have begun : Keeps s s1 :=
    (moveOrigin_keeps _).step ((fus_keeps ..).step ((stageDone_keeps ..).step (.advance .refl)))
  have summed : Keeps s r.1 := .foldlFst (r := (s1, [])) begun fun _ _ => intakeSource_keeps ..
  exact .ite (.next .refl) (.next (.raiseAll summed))

theorem updLoft_keeps (back : Nat) (f : LoftSlot → LoftSlot) (s : State) : Keeps s (updLoft back f s) :=
  .ite (fus_keeps ..) (fus_keeps ..)

theorem evalNews_foldl_keeps {back : Nat} (l : LoftSlot) (x : List F32) (p : List (List F32)) (a b : F32) (s : State) :
    Keeps s ((List.range 32).foldl (fun s q => match vgetD l.meas q none with
      | some m => if evaluable l.iniH l.iniP l.iniT m.kind then evalNews back q x p a b s else s
      | none => s) s) := by
  refine .foldl .refl fun u q => ?_
  split
  · exact .opt .refl (fus_keeps ..)
  · exact .refl

theorem pickApplied_keeps (back : Nat) (l : LoftSlot) (s : State) : Keeps s (pickApplied back l s) := by
  unfold pickApplied
  extract_lets applied new s1
  have freed : Keeps s s1 := .ite .refl (updLoft_keeps ..)
  exact (fus_keeps ..).step freed

theorem execLoftReplayStep_keeps (s : State) : keepsOut s (execLoftReplayStep s) := by
  unfold execLoftReplayStep
  extract_lets n _ s0 back l prior att s1 x failed s2 next
  have begun : Keeps s s0 :=
    (stageDone_keeps ..).step (.advance (fus_keeps ..))
  have judged : Keeps s s1 := (evalNews_foldl_keeps ..).step begun
  have applied : Keeps s s2 :=
    (updLoft_keeps ..).step ((pickApplied_keeps ..).step (.opt judged (.sticky .refl)))
  exact .ite (.next .refl) (.ite (.next begun) (.ite (.next ((updLoft_keeps ..).step applied)) (.next applied)))

theorem putTrack_keeps (i : Nat) (t : Option Track) (s : State) : Keeps s (putTrack i t s) := fus_keeps ..

theorem associate_keeps (n : NewSample) (r : State × List (Nat × Nat)) : Keeps r.1 (associate n r).1 := by
  unfold associate
  extract_lets u q mine fit best buf restart buf1 keep older drop s1 ev
  have kept (l : List NewSample) (v : State) : Keeps v (keep l v) := fus_keeps ..
  clear_value best drop
  cases best
  case some => exact putTrack_keeps ..
  case none =>
    have dropped : Keeps u s1 := by
      refine .trans ?_ (kept ..)
      split
      · exact putTrack_keeps ..
      · exact .refl
    refine .iteFst (kept ..) ?_
    split
    · exact .sticky (.bump dropped)
    · exact (putTrack_keeps ..).step dropped

theorem associateAll_keeps (s : State) : Keeps s (associateAll s).1 :=
  .foldlFst (r := (s, [])) .refl fun _ _ => associate_keeps ..

theorem lifecycle_keeps (i : Nat) (r : State × List (Nat × Nat)) : Keeps r.1 (lifecycle i r).1 := by
  unfold lifecycle
  split
  · exact .refl
  · refine .iteFst (putTrack_keeps ..) (.iteFst (.iteFst ?_ (putTrack_keeps ..)) (.iteFst (putTrack_keeps ..) .refl))
    exact .sticky (putTrack_keeps ..)

theorem fusionPrelude_keeps (s : State) : Keeps s (fusionPrelude s).1.1 := by
  unfold fusionPrelude
  extract_lets l prior att s1
  have associated : Keeps s (associateAll s1).1 := (associateAll_keeps _).step (evalNews_foldl_keeps ..)
  exact .foldlFst associated fun _ _ => lifecycle_keeps ..

theorem updVote_keeps (q : Fin 2) (f : VoteUnit → VoteUnit) (s : State) : Keeps s (updVote q f s) := fus_keeps ..

theorem updTracksOf_keeps (q : Fin 2) (f : Nat → Track → Track) (s : State) : Keeps s (updTracksOf q f s) := fus_keeps ..

theorem startHold_keeps (q : Fin 2) (x : HoldReason) (r : State × List (Nat × Nat)) : Keeps r.1 (startHold q x r).1 :=
  .iteFst .refl (.sticky (updVote_keeps ..))

theorem endHold_keeps (q : Fin 2) (s : State) : Keeps s (endHold q s).1 := by
  unfold endHold
  split
  · exact .refl
  · dsimp only
    exact (updTracksOf_keeps ..).step (updVote_keeps ..)

theorem pickPhase_keeps (q : Fin 2) (r : State × List (Nat × Nat)) : Keeps r.1 (pickPhase q r).1 := by
  unfold pickPhase
  extract_lets u
  split
  · exact (endHold_keeps ..).step (updVote_keeps ..)
  · exact updVote_keeps ..
  · split
    · exact .iteFst .refl (updVote_keeps ..)
    · exact .refl

theorem votePhase_keeps (q : Fin 2) (r : State × List (Nat × Nat)) : Keeps r.1 (votePhase q r).1 := by
  unfold votePhase
  extract_lets a u v f s1 fresh s2 ev marked x held
  have picked : Keeps r.1 u := pickPhase_keeps ..
  have counted : Keeps r.1 s1 := (updVote_keeps ..).step ((updTracksOf_keeps ..).step picked)
  have out : Keeps r.1 s2 := (updTracksOf_keeps ..).step counted
  clear_value f s1 s2 ev fresh
  have voted : Keeps r.1 x.1.1 := by
    dsimp only [x]
    split
    · split
      · exact .ite out (.sticky out)
      · exact (startHold_keeps ..).step counted
    · split
      · split
        · refine (startHold_keeps ..).step ?_
          exact .sticky ((updTracksOf_keeps ..).step ((updVote_keeps ..).step counted))
        · exact counted
      · split
        · exact counted
        · exact (startHold_keeps ..).step counted
  exact .iteFst ((updVote_keeps ..).step ((updTracksOf_keeps ..).step picked)) ((updVote_keeps ..).step voted)

theorem initPhase_keeps (x : (State × List (Nat × Nat)) × (List F32 × List (List F32))) :
    Keeps x.1.1 (initPhase x).1.1 := by
  unfold initPhase
  extract_lets u _ x1 u1 _ x2 u2 _
  have heading : Keeps u x1.1.1 := by
    dsimp only [x1]
    split
    · exact .refl
    · split
      · exact .refl
      · exact fus_keeps ..
  have position : Keeps u x2.1.1 := by
    dsimp only [x2]
    split
    · exact heading
    · split
      · exact heading
      · exact (fus_keeps ..).step heading
  split
  · exact .refl
  · split
    · exact position
    · split
      · exact position
      · exact (fus_keeps ..).step position

theorem fusionRegs_keeps (s : State) : Keeps s (fusionRegs s) := by
  unfold fusionRegs
  exact .wrAll .refl

theorem fusedOutput_keeps (x : List F32 × List (List F32)) (m : Option Meas) (s : State) : Keeps s (fusedOutput x m s) :=
  .wrAll ((fusionRegs_keeps _).step (fus_keeps ..))

theorem loftWrite_keeps (x : List F32 × List (List F32)) (l : List Bool) (s : State) : Keeps s (loftWrite x l s) := fus_keeps ..

theorem execFusionUpdate_keeps (s : State) : keepsOut s (execFusionUpdate s) := by
  unfold execFusionUpdate
  extract_lets s0 pre a use _ _ _ s1 ini s2 x s3 motion
  have voted : Keeps s a.1 := (votePhase_keeps ..).step ((votePhase_keeps ..).step ((fusionPrelude_keeps s0).step
    ((stageDone_keeps ..).step (.advance .refl))))
  clear_value a
  have begun : Keeps s s2 := (initPhase_keeps _).step ((fus_keeps ..).step voted)
  exact .ite (.next .refl) (.next (.raiseAll ((fusedOutput_keeps ..).step ((loftWrite_keeps ..).step
    ((pickApplied_keeps ..).step begun)))))

theorem execTrackSilenceExpiry_keeps (k : Fin 48) (s : State) : keepsOut s (execTrackSilenceExpiry k s) := by
  unfold execTrackSilenceExpiry
  split
  · exact .ite (.next .refl) (.next (.raiseIf ((putTrack_keeps ..).step (.advance .refl))))
  · exact .next .refl

theorem execModelHoldEnd_keeps (q : Quantity) (s : State) : keepsOut s (execModelHoldEnd q s) := by
  unfold execModelHoldEnd
  extract_lets i e
  have ended : Keeps s e.1 := (endHold_keeps i _).step (.advance .refl)
  exact .ite (.next .refl) (.next (.raiseAll (.wrFlag ended)))

theorem execVotedOutReadmit_keeps (k : Fin 48) (s : State) : keepsOut s (execVotedOutReadmit k s) := by
  unfold execVotedOutReadmit
  extract_lets p
  split
  · split
    · exact .next .refl
    · extract_lets near
      exact .ite (.next (.raise ((putTrack_keeps ..).step (.advance .refl)))) (.next .refl)
  · exact .next .refl

theorem updCtl_keeps (f : Control → Control) (s : State) : Keeps s (updCtl f s) := ctl_keeps ..

theorem lossCommit_keeps (q : Fin 2) (s : State) : Keeps s (lossCommit q s) := by
  unfold lossCommit
  extract_lets mode auto preset heading put hdgMode m
  have committed (m : Nat) (degr : Bool) (cause : Nat) : Keeps s (put m degr cause s) := by
    dsimp only [put]
    split
    · exact .refl
    next s1 hs =>
      rw [arbitrate] at hs
      split at hs
      · cases hs
      · cases hs
        exact .sticky ((writeMode_keeps ..).step (.set rfl .refl))
  exact .ite (committed ..) (.ite (.ite (committed ..) (.ite (committed ..) (committed ..))) .refl)

theorem execRefLost_keeps (q : Quantity) (s : State) : keepsOut s (execRefLost q s) := by
  unfold execRefLost
  extract_lets i v s1 s2 _ _ s3
  have lost : Keeps s s2 :=
    .raise (.sticky (.wrFlag ((updVote_keeps ..).step (.advance .refl))))
  exact .ite (.next .refl) (.next ((lossCommit_keeps ..).step (.advance ((fus_keeps ..).step lost))))

theorem execJoyTimeoutExpiry_keeps (s : State) : keepsOut s (execJoyTimeoutExpiry s) :=
  .ite (.next .refl) (.next (.raise (.sticky ((updCtl_keeps ..).step (.advance .refl)))))

theorem execJoyHeadingResume_keeps (s : State) : keepsOut s (execJoyHeadingResume s) :=
  .ite (.next .refl) (.next ((updCtl_keeps ..).step (.advance .refl)))

theorem execWindStaleExpiry_keeps (s : State) : keepsOut s (execWindStaleExpiry s) :=
  .ite (.next .refl) (.next (.raise (.sticky ((updCtl_keeps ..).step (.advance .refl)))))

theorem execControlLawOutput_keeps (s : State) : keepsOut s (execControlLawOutput s) := by
  unfold execControlLawOutput
  extract_lets s0 _ _ _ _ _ _ _ _ _ _ tr _ _ _ _ _ _ _ _ _ _ dr _ _ _ _ c5 _ _ tgt trk _ ev
  have begun : Keeps s { s0 with ctl := c5 } := (ctl_keeps ..).step ((stageDone_keeps ..).step (.advance .refl))
  have aimed (u : State) : Keeps u (tgt u) := .opt (.ite (.wrAll .refl) .refl) (.wr .refl)
  clear_value ev trk c5 s0
  exact .ite (.next .refl) (.next (.raiseAll ((aimed _).step (.wrAll begun))))

theorem updBus_keeps (b : Nat) (f : PowerBus → PowerBus) (s : State) : Keeps s (updBus b f s) := alc_keeps ..

theorem execPowerDataStale_keeps (b : Fin 4) (s : State) : keepsOut s (execPowerDataStale b s) := by
  unfold execPowerDataStale
  extract_lets k s1
  have marked : Keeps s s1 :=
    (updBus_keeps ..).step (.advance .refl)
  exact .ite (.next .refl) (.next (.ite (.raise (.sticky marked)) marked))

theorem execPowerFrame_keeps (c : Nat) (b : Fin 4) (f : CanFrame) (s : State) : keepsOut s (execPowerFrame c b f s) := by
  unfold execPowerFrame
  extract_lets s0 p ramp bad bus
  have begun : Keeps s s0 := .advance .refl
  exact .ite (.next begun) (.ite (.next (.bump begun)) (.ite (.next begun)
    (.next ((updBus_keeps ..).step ((updBus_keeps ..).step begun)))))

theorem execPtbmpSentence_keeps (c : Nat) (e : Fin 2) (l : List Byte) (s : State) : keepsOut s (execPtbmpSentence c e l s) := by
  unfold execPtbmpSentence
  extract_lets s0
  have begun : Keeps s s0 := .advance .refl
  refine .ite (.next begun) ?_
  split
  · exact .next begun
  · dsimp only
    refine .ite (.next begun) ?_
    split
    · exact .ite (.next ((updBus_keeps ..).step begun)) (.ite (.next begun) (.next (.bump begun)))
    · exact .next (.bump begun)

theorem execAllocIteration_keeps (s : State) : keepsOut s (execAllocIteration s) :=
  .ite (.next .refl) (.next ((alc_keeps ..).step ((stageDone_keeps ..).step (.advance .refl))))

theorem execAllocFallbackEntry_keeps (s : State) : keepsOut s (execAllocFallbackEntry s) := by
  unfold execAllocFallbackEntry
  split
  · exact .next .refl
  · exact .ite (.next .refl) (.next (.raise (.sticky ((alc_keeps ..).step (.advance .refl)))))

theorem execAllocFallbackExit_keeps (s : State) : keepsOut s (execAllocFallbackExit s) := by
  unfold execAllocFallbackExit
  split
  · exact .next .refl
  · exact .ite (.next .refl) (.next (.raise ((alc_keeps ..).step (.advance .refl))))

theorem loadRelease_keeps (s : State) : Keeps s (loadRelease s) := .set rfl .refl

theorem execAllocResult_keeps (s : State) : keepsOut s (execAllocResult s) := by
  unfold execAllocResult
  split
  · exact .next .refl
  · extract_lets s0 _ _ _ _ _ _ _ _ _ _ _ _ _ _ _ _ _ back _ ev s1 _ _ _ s2 s3
    have begun : Keeps s s1 := .foldl ((stageDone_keeps ..).step (.advance .refl)) fun _ _ => updBus_keeps ..
    have stored : Keeps s s2 := .wrAll ((alc_keeps ..).step ((loadRelease_keeps _).step begun))
    have counted : Keeps s s3 := .ite stored (.bump stored)
    exact .next (.raiseAll (.ite (.bump counted) counted))

end

end Sys2Proof.Machine
end

section
/-! SUPPORT. The CAN, Ethernet and time events keep what the invariant speaks of. -/
set_option Elab.async false

namespace Sys2Proof.Machine

section
variable {s t : State}

/-- An effect on the twin unit that leaves fail-silence and the halter as they are. -/
theorem Keeps.twinSame {x : Twin} (h : Keeps s t) (hc : x.cause = t.twin.cause) (hh : x.holds = t.twin.holds) :
    Keeps s { t with twin := x } := .set (by rw [withWatched, ← hc, ← hh]) h

/-! ### CAN controllers -/

theorem errChange_keeps (b : Nat) (was : CanCtl) (s : State) : Keeps s (errChange b was s) :=
  .ite .refl (.ite (.raise (.bump (.sticky (updCan_keeps ..)))) (.ite (.raise (.sticky .refl)) (.raiseIf .refl)))

theorem attemptFailed_keeps (b : Nat) (e : TxEntry) (s : State) : Keeps s (attemptFailed b e s) :=
  .ite (.bump (updCan_keeps ..)) (.ite (updCan_keeps ..) .refl)

theorem sendError_keeps (b : Nat) (e : TxEntry) (n : Nat) (s : State) : Keeps s (sendError b e n s) :=
  (errChange_keeps ..).step ((attemptFailed_keeps ..).step ((updCan_keeps ..).step (.bump .refl)))

theorem execCanTxComplete_keeps (c : Nat) (b : Fin 4) (d : Nat) (s : State) : keepsOut s (execCanTxComplete c b d s) := by
  unfold execCanTxComplete
  extract_lets s0 k u
  have begun : Keeps s s0 := (operationDone_keeps ..).step (.advance .refl)
  split
  · exact .next begun
  · extract_lets tdc sent s1 s2
    have marked : Keeps s sent := (updCan_keeps ..).step begun
    have counted : Keeps s s1 := (updCan_keeps ..).step (.bump marked)
    have confirmed : Keeps s s2 := by
      dsimp only [s2]
      split
      · exact counted.twinSame (by dsimp only; split <;> rfl) (by dsimp only; split <;> rfl)
      · exact counted
    exact .ite (.next begun) (.ite (.next ((sendError_keeps ..).step marked)) (.next ((errChange_keeps ..).step (.raiseIf confirmed))))

theorem execCanAckError_keeps (c : Nat) (b : Fin 4) (s : State) : keepsOut s (execCanAckError c b s) := by
  unfold execCanAckError
  extract_lets s0 k u n
  have begun : Keeps s s0 := .advance .refl
  split
  · exact .next begun
  · extract_lets s1 s2
    have counted : Keeps s s1 := (updCan_keeps ..).step (.bump begun)
    have marked : Keeps s s2 := .ite (.sticky counted) counted
    exact .ite (.next begun) (.next ((errChange_keeps ..).step ((attemptFailed_keeps ..).step (.raiseIf marked))))

theorem enterClash_keeps (b : Nat) (e : TxEntry) (s : State) : Keeps s (enterClash b e s).1 := by
  unfold enterClash
  dsimp only
  split
  · exact .refl
  · exact updCan_keeps ..

theorem execCanClash_keeps (c : Nat) (b : Fin 4) (s : State) : keepsOut s (execCanClash c b s) := by
  unfold execCanClash
  extract_lets s0 k u
  have begun : Keeps s s0 := .advance .refl
  split
  · exact .next begun
  · extract_lets s1 r _ _ s2
    have counted : Keeps s s1 := (updCan_keeps ..).step (.bump (.bump (.sticky begun)))
    have entered : Keeps s r.1 := (enterClash_keeps ..).step counted
    have dropped : Keeps s s2 :=
      .ite (.bump (.sticky ((updCan_keeps ..).step entered))) ((attemptFailed_keeps ..).step entered)
    exact .ite (.next begun) (.next ((errChange_keeps ..).step (.raise dropped)))

theorem execCanBusError_keeps (c : Nat) (b : Fin 4) (e : CanError) (s : State) : keepsOut s (execCanBusError c b e s) := by
  unfold execCanBusError
  extract_lets s0 k u s1
  have begun : Keeps s s0 := .advance .refl
  have counted : Keeps s s1 := (updCan_keeps ..).step (.bump begun)
  refine .ite (.next begun) (.ite (.next counted) (.ite ?_ (.next ((errChange_keeps ..).step ((updCan_keeps ..).step counted)))))
  split
  · exact .next counted
  · exact .next ((sendError_keeps ..).step ((updCan_keeps ..).step begun))

theorem execCanBusOffRecovery_keeps (c : Nat) (b : Fin 4) (s : State) : keepsOut s (execCanBusOffRecovery c b s) :=
  .ite (.next .refl) (.next (.raise ((updCan_keeps ..).step (.advance .refl))))

theorem execCanEnableEffect_keeps (b : Fin 4) (w : Bool) (s : State) : keepsOut s (execCanEnableEffect b w s) := by
  have changed : ∀ f, Keeps s (updCan b.val f (advance s.clk.beatBase s)) := fun _ =>
    (updCan_keeps ..).step (.advance .refl)
  exact .ite (.next .refl) (.ite (.ite (.next (.advance .refl)) (.ite (.next (changed _)) (.next (changed _))))
    (.ite (.next (.advance .refl)) (.next (changed _))))

theorem execCanIntegrationDone_keeps (c : Nat) (b : Fin 4) (s : State) : keepsOut s (execCanIntegrationDone c b s) :=
  .ite (.next .refl) (.next ((updCan_keeps ..).step (.advance .refl)))

theorem takeFree_keeps (s : State) : Keeps s (takeFree s).2 := .set rfl .refl

theorem execCanFrameReceived_keeps (c : Nat) (b : Fin 4) (f : CanFrame) (s : State) :
    keepsOut s (execCanFrameReceived c b f s) := by
  unfold execCanFrameReceived
  extract_lets s0 k u s1 fr s2 s3
  have begun : Keeps s s0 := (operationDone_keeps ..).step (.advance .refl)
  have counted : Keeps s s1 := .bump begun
  have heard : Keeps s s2 :=
    .ite counted (.ite ((updCan_keeps ..).step ((takeFree_keeps s1).step counted)) ((updCan_keeps ..).step counted))
  have settled : Keeps s s3 := (errChange_keeps ..).step heard
  exact .ite (.next begun) (.next (.ite (.sticky ((updCan_keeps ..).step settled)) settled))

/-! ### Ethernet ports -/

theorem eth_keeps (x : Vector EthPort 2) (s : State) : Keeps s { s with eth := x } := .set rfl .refl

theorem execEthLinkChange_keeps (c : Nat) (e : Fin 2) (u : Bool) (s : State) : keepsOut s (execEthLinkChange c e u s) :=
  .ite (.next (.advance .refl)) (.ite (.next ((announceAddress_keeps ..).step (.raise (.wrFlag (.advance .refl)))))
    (.next (.raise (.sticky (.wrFlag (.advance .refl))))))

theorem ethOverflow_keeps (e : Fin 2) (s : State) : Keeps s (ethOverflow e s) := by
  unfold ethOverflow
  extract_lets s1 blk
  have counted : Keeps s s1 := .sticky (.bump .refl)
  exact .ite counted (.raise ((eth_keeps ..).step counted))

theorem execEthFrameRx_keeps (c : Nat) (e : Fin 2) (f : EthFrame) (s : State) : keepsOut s (execEthFrameRx c e f s) := by
  have begun : Keeps s (advance c s) := .advance .refl
  exact .ite (.next begun) (.ite (.next (.bump begun)) (.ite (.next begun) (.ite (.next ((ethOverflow_keeps ..).step begun))
    (.ite (.next (.sticky (.bump begun))) (.ite (.next (.bump begun)) (.next (.bump begun)))))))

theorem execEthFrameTx_keeps (c : Nat) (e : Fin 2) (s : State) : keepsOut s (execEthFrameTx c e s) := by
  unfold execEthFrameTx
  extract_lets s0
  have begun : Keeps s s0 := .advance .refl
  split
  · exact .next begun
  · extract_lets s1
    have sent : Keeps s s1 := .bump ((eth_keeps ..).step begun)
    split
    · exact .next (.set rfl sent)
    · exact .next sent

theorem execArpRequest_keeps (c : Nat) (e : Fin 2) (x i : Word) (m : BitVec 48) (s : State) :
    keepsOut s (execArpRequest c e x i m s) :=
  .ite (.next ((ethQueue_keeps ..).step (.advance .refl))) (.next (.advance .refl))

theorem execIcmpEcho_keeps (c : Nat) (p : Peer) (x : Word) (d : List Byte) (s : State) :
    keepsOut s (execIcmpEcho c p x d s) :=
  .ite (.next ((ethQueue_keeps ..).step (.advance .refl))) (.next (.advance .refl))

theorem execIgmpQuery_keeps (c : Nat) (e : Fin 2) (g : Option (Fin 16)) (s : State) : keepsOut s (execIgmpQuery c e g s) :=
  .ite (.next (.advance .refl)) (.next (.foldl (.advance .refl) fun _ _ => ethQueue_keeps ..))

/-! ### Time slots and PTP -/

theorem time_keeps (x : TimeKeeper) (s : State) : Keeps s { s with time := x } := .set rfl .refl

theorem updSlot_keeps (d : Fin 2) (f : TimeSlot → TimeSlot) (s : State) : Keeps s (updSlot d f s) := time_keeps ..

theorem slotEvents_more_keeps (b : State) (d : Fin 2) (l : List (Nat × Nat)) (s : State) : Keeps s (slotEvents b d l s) :=
  .raiseAll .refl

theorem execAcquisitionRunEnd_keeps (d : Fin 2) (s : State) : keepsOut s (execAcquisitionRunEnd d s) := by
  unfold execAcquisitionRunEnd
  split
  · exact .next .refl
  · extract_lets s0 _ m t1
    have changed : ∀ f, Keeps s (updSlot d f s0) := fun _ =>
      (updSlot_keeps ..).step (.advance .refl)
    exact .ite (.next (.advance .refl)) (.ite (.next ((slotEvents_keeps ..).step (changed _))) (.next (changed _)))

theorem execAcquisitionRunBreak_keeps (d : Fin 2) (s : State) : keepsOut s (execAcquisitionRunBreak d s) := by
  unfold execAcquisitionRunBreak
  split
  · exact .next .refl
  · exact .next ((updSlot_keeps ..).step (.advance .refl))

theorem execSlotHoldover_keeps (d : Fin 2) (s : State) : keepsOut s (execSlotHoldover d s) :=
  .ite (.next .refl) (.next ((slotEvents_keeps ..).step (.sticky ((updSlot_keeps ..).step (.advance .refl)))))

theorem execSlotFreeRun_keeps (d : Fin 2) (s : State) : keepsOut s (execSlotFreeRun d s) :=
  .ite (.next .refl) (.next ((slotEvents_keeps ..).step (.sticky ((updSlot_keeps ..).step (.advance .refl)))))

theorem stepR_keeps (s : State) : Keeps s (stepR s) := .sticky (.set rfl .refl)

theorem execSlotStep_keeps (c : Nat) (d : Fin 2) (s : State) : keepsOut s (execSlotStep c d s) := by
  unfold execSlotStep
  extract_lets s0 t active
  have begun : Keeps s s0 := .advance .refl
  split
  · exact .next begun
  · extract_lets err t1 s1 s2
    have stored : Keeps s s1 := (updSlot_keeps ..).step begun
    have stepped : Keeps s s2 := .ite ((stepR_keeps _).step stored) stored
    exact .ite (.next begun) (.next ((slotEvents_more_keeps ..).step stepped))

theorem execTimeSwitchAuto_keeps (c : Nat) (s : State) : keepsOut s (execTimeSwitchAuto c s) := by
  have begun : Keeps s (advance c s) := .advance .refl
  exact .ite (.next begun) (.ite (.next ((switchSlot_keeps ..).step begun)) (.ite (.next ((switchSlot_keeps ..).step begun))
    (.next begun)))

theorem execSwitchStep_keeps (c : Nat) (s : State) : keepsOut s (execSwitchStep c s) :=
  .ite (.next (.advance .refl)) (.next (.raise ((stepR_keeps _).step (.set rfl (.advance .refl)))))

theorem execSwitchSlewEnd_keeps (c : Nat) (s : State) : keepsOut s (execSwitchSlewEnd c s) :=
  .ite (.next (.advance .refl)) (.next (.set rfl (.advance .refl)))

theorem execLeapSecond_keeps (c : Nat) (s : State) : keepsOut s (execLeapSecond c s) := by
  unfold execLeapSecond
  extract_lets s0
  have begun : Keeps s s0 := .advance .refl
  split
  · exact .next begun
  · exact .ite (.next begun) (.next (.set rfl begun))

theorem rejectMsg_keeps (d : Fin 2) (s : State) : Keeps s (rejectMsg d s) := .bump .refl

theorem runBmca_keeps (d : Fin 2) (s : State) : Keeps s (runBmca d s) := by
  unfold runBmca
  extract_lets t b same s1 move
  have changed : Keeps s s1 := updSlot_keeps ..
  exact .ite (updSlot_keeps ..) (.raiseIf changed)

theorem execPtpAnnounce_keeps (c : Nat) (e d : Fin 2) (m : AnnounceMsg) (s : State) : keepsOut s (execPtpAnnounce c e d m s) := by
  unfold execPtpAnnounce
  extract_lets s0 f t old f1 s1 s2
  have begun : Keeps s s0 := .advance .refl
  have entered : Keeps s s1 :=
    (runBmca_keeps ..).step ((updSlot_keeps ..).step begun)
  have refreshed : Keeps s s2 :=
    (refreshUtc_keeps _).step entered
  refine .ite (.next begun) (.ite (.next ((rejectMsg_keeps ..).step begun)) (.ite (.next begun) (.ite ?_ (.next entered))))
  split
  · exact .next refreshed
  · exact .next (.set rfl refreshed)

theorem execAnnounceTimeout_keeps (c : Nat) (d : Fin 2) (s : State) : keepsOut s (execAnnounceTimeout c d s) := by
  unfold execAnnounceTimeout
  extract_lets s0
  have begun : Keeps s s0 := .advance .refl
  split
  · exact .next begun
  · extract_lets s1
    have dropped : Keeps s s1 :=
      (runBmca_keeps ..).step ((updSlot_keeps ..).step begun)
    exact .ite (.next begun) (.next (.ite ((refreshUtc_keeps _).step dropped) dropped))

theorem syncComplete_keeps (d : Fin 2) (x : Int) (s : State) : Keeps s (syncComplete d x s) := by
  unfold syncComplete
  extract_lets s1 t current resp
  have kept : Keeps s s1 := updSlot_keeps ..
  split
  · exact kept
  · exact .ite ((slotMeasure_keeps ..).step kept) kept

theorem execPtpSync_keeps (c : Nat) (e d : Fin 2) (m : PtpMsg) (s : State) : keepsOut s (execPtpSync c e d m s) := by
  have begun : Keeps s (advance c s) := .advance .refl
  exact .ite (.next begun) (.ite (.next ((rejectMsg_keeps ..).step begun)) (.ite (.next begun)
    (.ite (.next ((updSlot_keeps ..).step begun)) (.next ((syncComplete_keeps ..).step begun)))))

theorem execPtpFollowUp_keeps (c : Nat) (e d : Fin 2) (m : PtpMsg) (s : State) : keepsOut s (execPtpFollowUp c e d m s) := by
  have begun : Keeps s (advance c s) := .advance .refl
  refine .ite (.next begun) (.ite (.next ((rejectMsg_keeps ..).step begun)) (.ite (.next begun) ?_))
  split
  · exact .next begun
  · exact .ite (.next begun) (.next ((syncComplete_keeps ..).step begun))

theorem execPtpDelayResp_keeps (c : Nat) (e d : Fin 2) (m : PtpMsg) (s : State) : keepsOut s (execPtpDelayResp c e d m s) := by
  unfold execPtpDelayResp
  extract_lets s0 t s1
  have begun : Keeps s s0 := .advance .refl
  have answered : Keeps s s1 := (updSlot_keeps ..).step begun
  refine .ite (.next begun) (.ite (.next ((rejectMsg_keeps ..).step begun)) (.ite (.next begun) ?_))
  split
  · split
    · exact .ite (.next answered) (.next ((updSlot_keeps ..).step answered))
    · exact .next answered
  · exact .next answered

theorem execDelayReqSend_keeps (d : Fin 2) (n : Nat) (s : State) : keepsOut s (execDelayReqSend d n s) := by
  unfold execDelayReqSend
  extract_lets t
  split
  · exact .next .refl
  · exact .ite (.next .refl) (.next ((updSlot_keeps ..).step ((ethQueue_keeps ..).step (.advance .refl))))

theorem rtcSet_keeps (s : State) : Keeps s (rtcSet s) := .ite (.set rfl .refl) .refl

theorem execPpsPulse_keeps (c : Nat) (s : State) : keepsOut s (execPpsPulse c s) := by
  unfold execPpsPulse
  extract_lets s0 s1
  have begun : Keeps s s0 := .advance .refl
  have clocked : Keeps s s1 :=
    (rtcSet_keeps _).step begun
  refine .ite (.next begun) (.ite (.next clocked) ?_)
  split
  · exact .next clocked
  · exact .ite (.next (.raise (.sticky (.bump clocked)))) (.next (.set rfl clocked))

theorem execPpsPulseEnd_keeps (s : State) : keepsOut s (execPpsPulseEnd s) := by
  unfold execPpsPulseEnd
  split
  · exact .next .refl
  · exact .next (.set rfl (.advance .refl))

end

end Sys2Proof.Machine
end

section
/-! SUPPORT. The messages of the twin pair and the halter's events keep what the invariant speaks of. -/
set_option Elab.async false

namespace Sys2Proof.Machine

section
variable {s t : State}

/-- The two branches of a choice between answers, where each may use its side of the condition. -/
theorem keepsOut.iteOn {a b : Out} {c : Prop} [Decidable c] (h : c → keepsOut s a) (k : ¬c → keepsOut s b) :
    keepsOut s (if c then a else b) := by
  split
  next hc => exact h hc
  next hc => exact k hc

/-! ### Compare and images -/

theorem execLaneCompare_keeps (x : LaneResult) (s : State) : keepsOut s (execLaneCompare x s) := by
  unfold execLaneCompare
  refine .ite (.next .refl) ?_
  extract_lets s0
  have begun : Keeps s s0 := (stageDone_keeps ..).step (.advance .refl)
  clear_value s0
  split
  · exact .next (.set rfl begun)
  · exact .next ((enterFailSilent_keeps ..).step (.raise (.sticky (.set rfl begun))))

theorem withdraw_keeps (s : State) : Keeps s (withdraw s) := .set (t := s) rfl .refl

theorem unitDisagree_keeps (s : State) : Keeps s (unitDisagree s) := .raise (.sticky (.bump .refl))

theorem enterRemirror_keeps (s : State) : Keeps s (enterRemirror s) := .set (t := s) rfl .refl

theorem execInterUnitCompare_keeps (s : State) : keepsOut s (execInterUnitCompare s) := by
  unfold execInterUnitCompare
  extract_lets s0 s1 n
  have begun : Keeps s s0 := .advance .refl
  refine .ite (.next .refl) (.ite (.next (.set rfl begun)) ?_)
  split
  · have alone : Keeps s s1 := .set rfl begun
    exact .next (.ite ((withdraw_keeps _).step alone) alone)
  · extract_lets holder t s2 s3 s4
    have settled : Keeps s t := .ite (.set rfl begun) begun
    have agreed : Keeps s s2 := .set rfl settled
    have counted : Keeps s s3 := .set rfl agreed
    have differs : Keeps s s4 := (unitDisagree_keeps _).step (.set rfl settled)
    exact .ite (.ite (.next (.ite ((withdraw_keeps _).step counted) counted)) (.next agreed))
      (.next (.ite differs ((enterRemirror_keeps _).step differs)))

theorem execRemirrorExit_keeps (s : State) : keepsOut s (execRemirrorExit s) := .ite (.next .refl) (.next (.raise (.set rfl .refl)))

theorem execMirrorSend_keeps (s : State) : keepsOut s (execMirrorSend s) := by
  unfold execMirrorSend
  extract_lets s0 f up sends
  have drawn : Keeps s f.2 := (takeFree_keeps _).step (.advance .refl)
  exact .ite (.next .refl) (.next (.set rfl drawn))

/-! ### Fibre pairs and alignment -/

theorem execFjPairLost_keeps (c : Nat) (p : Fin 2) (w : PairLoss) (s : State) : keepsOut s (execFjPairLost c p w s) := by
  have begun : Keeps s (advance c s) := .advance .refl
  refine .ite (.next begun) ?_
  cases w
  case align => exact .next ((losePair_keeps ..).step begun)
  case codes n => exact .next (.ite ((losePair_keeps ..).step (.bump begun)) (.bump begun))
  case silent => exact .next (.ite ((losePair_keeps ..).step begun) begun)

theorem updPair_keepsInv (p : Fin 2) (f : FjPair → FjPair) (s : State) : Keeps s (updPair p f s) := .set rfl .refl

theorem execFjPairRegained_keeps (c : Nat) (p : Fin 2) (s : State) : keepsOut s (execFjPairRegained c p s) :=
  .ite (.next .refl) (.next ((showLink_keeps _).step ((updPair_keepsInv ..).step (.advance .refl))))

theorem msgCrcFail_keeps (s : State) : Keeps s (msgCrcFail s) := .sticky (.bump .refl)

theorem goodMessage_keeps (p : Fin 2) (s : State) : Keeps s (goodMessage p s) := updPair_keepsInv ..

theorem execBeatMarker_keeps (c : Nat) (p : Fin 2) (m : BeatMarkerMsg) (s : State) : keepsOut s (execBeatMarker c p m s) := by
  unfold execBeatMarker
  extract_lets s0 t _ own s1 s2
  have begun : Keeps s s0 := .advance .refl
  have heard : Keeps s t := (goodMessage_keeps ..).step begun
  have measured : Keeps s s1 := by
    clear_value t
    dsimp only [s1]
    split
    · refine .ite (.ite (.sticky ?_) ?_) heard <;> exact .wrFld (.set rfl heard)
    · exact heard
  have marked : Keeps s s2 := .set rfl measured
  exact .ite (.next begun) (.ite (.next ((msgCrcFail_keeps _).step begun)) (.ite (.next ((ownMessage_keeps ..).step begun))
    (.ite (.next (.set rfl heard)) (.ite (.next heard) (.ite (.next heard) (.next (.ite (.wrFld marked) marked)))))))

theorem execSkewRegister_keeps (s : State) : keepsOut s (execSkewRegister s) := by
  unfold execSkewRegister
  extract_lets s0
  have begun : Keeps s s0 := .advance .refl
  clear_value s0
  refine .ite (.next .refl) ?_
  split
  · exact .next (.set rfl begun)
  · extract_lets k overB steer first s1 s2
    have shown : Keeps s s1 := .wrFld (.wrFld (.wrFld begun))
    have steered : Keeps s s2 := shown.twinSame rfl rfl
    exact .next (.raiseIf (.ite (.sticky steered) steered))

theorem execMarkerLoss_keeps (s : State) : keepsOut s (execMarkerLoss s) := .ite (.next .refl) (.next (.set rfl (.wrFld .refl)))

/-! ### Messages -/

theorem execExchangeSend_keeps (s : State) : keepsOut s (execExchangeSend s) :=
  .ite (.next .refl) (.next (.set rfl (.advance .refl)))

theorem takeExchange_keeps (x : Exchange) (s : State) : Keeps s (takeExchange x s) := by
  unfold takeExchange
  extract_lets next quiet s1 s2 s3
  have kept : Keeps s s1 := .set rfl .refl
  have released : Keeps s s2 := .ite (.set rfl kept) kept
  have granted : Keeps s s3 := .ite (.set rfl released) released
  exact .ite (.set rfl granted) granted

theorem execPartnerExchange_keeps (c : Nat) (p : Fin 2) (m : List Byte) (s : State) : keepsOut s (execPartnerExchange c p m s) := by
  unfold execPartnerExchange
  extract_lets s0 x t _ d inTime s1
  have begun : Keeps s s0 := .advance .refl
  have heard : Keeps s t := (goodMessage_keeps ..).step begun
  have stored : Keeps s s1 := .ite (.set rfl heard) (.sticky heard)
  exact .ite (.next begun) (.ite (.next ((msgCrcFail_keeps _).step begun)) (.ite (.next ((ownMessage_keeps ..).step begun))
    (.ite (.next (.set rfl (.set rfl heard))) (.ite (.next heard) (.next ((takeExchange_keeps ..).step stored))))))

theorem execMirrorAckSend_keeps (a b : Bool) (s : State) : keepsOut s (execMirrorAckSend a b s) :=
  .ite (.next .refl) (.next (.set rfl (.advance .refl)))

theorem execPartnerAck_keeps (c : Nat) (p : Fin 2) (m : List Byte) (s : State) : keepsOut s (execPartnerAck c p m s) := by
  unfold execPartnerAck
  extract_lets s0 f t k s1 s2
  have begun : Keeps s s0 := .advance .refl
  have heard : Keeps s t := (goodMessage_keeps ..).step begun
  have confirmed : Keeps s s1 := by
    dsimp only [s1]
    split
    · exact .ite (.set rfl heard) heard
    · exact heard
  have accepted : Keeps s s2 := .ite (.set rfl confirmed) confirmed
  exact .ite (.next begun) (.ite (.next ((msgCrcFail_keeps _).step begun)) (.ite (.next ((ownMessage_keeps ..).step begun))
    (.ite (.next heard) (.next (.ite (.set rfl (.set rfl accepted)) accepted)))))

theorem execPartnerHeartbeat_keeps (c : Nat) (b : Fin 4) (f : CanFrame) (s : State) : keepsOut s (execPartnerHeartbeat c b f s) := by
  have begun : Keeps s (advance c s) := .advance .refl
  refine .ite (.next begun) (.ite (.next (.ite (.set rfl (.sticky begun)) (.sticky begun))) (.ite (.next begun)
    (.ite (.next (.sticky begun)) (.ite (.next (.set rfl (.set rfl begun))) (.ite (.next begun) (.next (.set rfl begun)))))))

/-! ### The halter and presence -/

theorem execPartnerPresence_keeps (s : State) : keepsOut s (execPartnerPresence s) := by
  unfold execPartnerPresence
  extract_lets now s1 s2
  have shown : Keeps s s1 := .set rfl .refl
  have lost : Keeps s s2 := .ite shown (.sticky (.ite (.wrFld shown) shown))
  exact .ite (.next .refl) (.ite (.next .refl) (.next (.raise lost)))

theorem refreshHeartbeats_keeps (s : State) : Keeps s (refreshHeartbeats s) := .set rfl .refl

theorem execHalterExpiryTake_keeps (s : State) : keepsOut s (execHalterExpiryTake s) := by
  refine .iteOn (fun _ => .next .refl) fun h => .next ((refreshHeartbeats_keeps _).step (takeHalter_keeps ?_))
  simp only [mayExpire, Bool.or_eq_true, Bool.not_eq_true', not_or] at h
  simp_all

theorem execHalterLeaseLapse_keeps (s : State) : keepsOut s (execHalterLeaseLapse s) :=
  .ite (.next .refl) (.next ((refreshHeartbeats_keeps _).step (dropHalter_keeps ..)))

theorem execAloneWaitExpiry_keeps (s : State) : keepsOut s (execAloneWaitExpiry s) := by
  refine .iteOn (fun _ => .next .refl) fun h => ?_
  have loud : failSilent s = false := by simp_all
  split
  · exact .next .refl
  · exact .ite (.next .refl) (.next ((refreshHeartbeats_keeps _).step (takeHalter_keeps loud)))

theorem execHalterRequestExpiry_keeps (s : State) : keepsOut s (execHalterRequestExpiry s) := by
  unfold execHalterRequestExpiry
  split
  · exact .next .refl
  · exact .ite (.next .refl) (.next (.set rfl .refl))

end

end Sys2Proof.Machine
end

section
/-! SUPPORT. What the non-holder does with the holder's commits and mirrors keeps what the invariant speaks of. -/
set_option Elab.async false

namespace Sys2Proof.Machine

section
variable {s t : State}

/-! ### Forwarded requests -/

theorem opForwardedWrite_commitKeeps : commitKeeps opForwardedWrite := fun _ _ _ => applyEntries_keeps ..

theorem opForwardedLoad_commitKeeps : commitKeeps opForwardedLoad := by
  intro port p s
  unfold opForwardedLoad
  dsimp only
  split
  · exact .set rfl .refl
  · split
    · exact .set rfl .refl
    next t ht => exact .set rfl ((commitTables_keeps ht).step (.set rfl .refl))

theorem forwardSpec_commitKeeps {n : Nat} {o : OpSpec} (h : forwardSpec n = some o) : commitKeeps o := by
  have all : ∀ o ∈ (forwardSpec n).toList, commitKeeps o := by
    unfold forwardSpec
    split
    all_goals simp only [Option.toList_some, Option.toList_none, List.mem_singleton, List.not_mem_nil, forall_eq,
      false_imp_iff, implies_true]
    · exact opForwardedWrite_commitKeeps
    · exact modeSet_commitKeeps _ _
    · exact modeSet_commitKeeps _ _
    · exact opSetpointSet_commitKeeps
    · exact opJoystickSet_commitKeeps
    · exact opBerthPushSet_commitKeeps
    · exact opTrackLoad_commitKeeps
    · exact opLossModeSet_commitKeeps
    · exact refConfig_commitKeeps _ _
    · exact refConfig_commitKeeps _ _
    · exact opRefEnable_commitKeeps
    · exact opSelectReference_commitKeeps
    · exact opReplayWindowSet_commitKeeps
    · exact opThrusterEnable_commitKeeps
    · exact opThrusterDisable_commitKeeps
    · exact opAllocConfigBasic_commitKeeps
    · exact opAllocConfigExpert_commitKeeps
    · exact opPowerLimitSet_commitKeeps
    · exact opCompatModeSet_commitKeeps
    · exact opAxisEnable_commitKeeps
    · exact opAxisDisable_commitKeeps
    · exact axisConfig_commitKeeps _ _
    · exact axisConfig_commitKeeps _ _
    · exact opCompTableLoad_commitKeeps
    · exact channelConfig_commitKeeps _ _
    · exact channelConfig_commitKeeps _ _
    · exact opOutputSet_commitKeeps
    · exact opSafeValueSet_commitKeeps
    · exact opFilterPreset_commitKeeps
    · exact opFilterCustom_commitKeeps
    · exact opDcBlockSet_commitKeeps
    · exact canConfig_commitKeeps _ _
    · exact canConfig_commitKeeps _ _
    · exact opCanSend_commitKeeps
    · exact opTwinToleranceSet_commitKeeps
    · exact opForwardedLoad_commitKeeps
  exact all o (by simp [h])

theorem arbitrate_keeps {port class_ : Nat} {l : List Nat} (h : arbitrate port class_ l s = some t) : Keeps s t := by
  unfold arbitrate at h
  split at h
  · cases h
  · cases h
    exact .set rfl .refl

theorem applyMarker_keeps (m : CommitMarker) (s : State) : Keeps s (applyMarker m s) := by
  unfold applyMarker
  refine .ite .refl ?_
  split
  · exact .refl
  next o ho =>
    split
    · exact .refl
    next t ht => exact (commitPoison_keeps (forwardSpec_commitKeeps ho) ..).step (arbitrate_keeps ht)

/-- A snapshot that is made from that of an earlier state. -/
theorem Keeps.snapFrom {q : Regs} (h : Keeps s t) (hq : s.snap.wf = true → q.wf = true) : Keeps s { t with snap := q } where
  regs ok := ⟨(h.regs ok).1, hq ok.2⟩
  halter := h.halter
  queue := h.queue
  silent := h.silent

theorem dateBack_keeps (a b : Nat) (s : State) : Keeps s (dateBack a b s) := .set rfl .refl

theorem applyLateMarker_keeps (m : CommitMarker) (s : State) : Keeps s (applyLateMarker m s) := by
  unfold applyLateMarker
  extract_lets b _ t x y
  have applied : Keeps s x :=
    (dateBack_keeps ..).step ((applyMarker_keeps ..).step ((dateBack_keeps ..).step (show Keeps s t from .set rfl .refl)))
  have snapped : Keeps s { x with snap := (changedIds s.regs x.regs).foldl (fun r i => regSet r i (rd x i)) s.snap } :=
    applied.snapFrom fun h => Regs.wf_foldl _ (fun _ _ => Regs.wf_regSet _ _) h
  exact (settleTables_keeps _).step ((filterSnapshot_keeps ..).step ((controlSnapshot_keeps _).step snapped))

theorem execCommitMarker_keeps (c : Nat) (m : CommitMarker) (s : State) : keepsOut s (execCommitMarker c m s) := by
  unfold execCommitMarker
  extract_lets s0 d off s1
  have begun : Keeps s s0 := .advance .refl
  have applied : Keeps s s1 := (applyMarker_keeps ..).step begun
  exact .ite (.next begun) (.ite (.next (.ite (.set rfl applied) applied)) (.ite (.next ((applyLateMarker_keeps ..).step begun))
    (.next (.sticky (.bump applied)))))

/-! ### Axis transitions -/

theorem applyForward_keeps (a : Fin 48) (x : AxisForward) (s : State) : Keeps s (applyForward a x s) := by
  unfold applyForward
  extract_lets c y _ next s1 s2 _ s3 s4
  have dropped : Keeps s s1 := .ite (.sticky .refl) .refl
  have stored : Keeps s s2 := (updAxis_keeps ..).step dropped
  have owned : Keeps s s3 := by
    dsimp only [s3]
    split
    · exact .ite ((alc_keeps ..).step stored) stored
    · exact stored
  have settled : Keeps s s4 := (settleThrusters_keeps _).step owned
  split
  · exact settled
  · exact .raise (.ite (.bump (.sticky settled)) settled)

theorem execForwardedAxisTransition_keeps (c : Nat) (a : Fin 48) (x : AxisForward) (s : State) :
    keepsOut s (execForwardedAxisTransition c a x s) := by
  unfold execForwardedAxisTransition
  extract_lets s0 s1 off
  have begun : Keeps s s0 := .advance .refl
  have applied : Keeps s s1 := (applyForward_keeps ..).step begun
  exact .ite (.next begun) (.next (.ite (.set rfl applied) applied))

/-! ### Adoption -/

theorem adoptAxis_keeps (s : State) (x : Fin 48 × AxisImage) : Keeps s (adoptAxis s x) :=
  (updAxis_keeps ..).step (applyForward_keeps ..)

theorem adoptImage_keeps (i : MirrorImage) (s : State) : Keeps s (adoptImage i s) := by
  unfold adoptImage freshSources
  extract_lets s1
  have moved : Keeps s s1 := .foldl .refl adoptAxis_keeps
  clear_value s1
  have stored := moved.regsTo fun h => Regs.wf_foldl i.params
    (f := fun r x => if isMirrored x.1 then regSet r x.1 x.2 else r) (fun r x hr => by
      split
      · exact Regs.wf_regSet _ _ hr
      · exact hr) (Regs.wf_filter (fun x => !isMirrored x.1) h)
  refine .set ?_ stored
  rfl

theorem quietly_keeps (f : State → State) (s : State) : Keeps s (quietly f s) := by
  unfold quietly
  extract_lets t
  have stored := Keeps.regsTo (s := s) .refl fun h => Regs.wf_foldl (t.regs.filter fun x => isMirrored x.1)
    (f := fun r x => regSet r x.1 x.2) (fun _ _ => Regs.wf_regSet _ _) (Regs.wf_filter (fun x => !isMirrored x.1) h)
  clear_value t
  exact .set rfl stored

theorem reapplyLate_keeps (s : State) : Keeps s (reapplyLate s) := .foldl .refl fun _ _ => quietly_keeps ..

theorem missMirror_keeps (b : Bool) (s : State) : Keeps s (missMirror b s) := by
  unfold missMirror
  extract_lets s1 s2 blk
  have missed : Keeps s s1 := .sticky (.bump .refl)
  have counted : Keeps s s2 := .ite missed (.sticky missed)
  exact .ite counted (.raise (.set rfl counted))

theorem hiddenDifference_keeps (s : State) : Keeps s (hiddenDifference s) := by
  unfold hiddenDifference
  split
  · exact .ite ((enterRemirror_keeps _).step (unitDisagree_keeps _)) .refl
  · exact .refl

theorem lapseOffer_keeps (s : State) : Keeps s (lapseOffer s) := by
  unfold lapseOffer
  split
  · exact .raise (.set rfl .refl)
  · exact .refl

theorem execMirrorAdoption_keeps (x : MirrorRx) (s : State) : keepsOut s (execMirrorAdoption x s) := by
  unfold execMirrorAdoption
  extract_lets s0 due
  have begun : Keeps s s0 := (lapseOffer_keeps _).step (.advance .refl)
  refine .ite (.next .refl) (.ite (.next begun) ?_)
  split
  next t _ ht =>
    have taken := (reapplyLate_keeps _).step ((adoptImage_keeps x.image t).step ((arbitrate_keeps ht).step begun))
    generalize reapplyLate (adoptImage x.image t) = u at taken ⊢
    exact .next (.set rfl taken)
  · exact .next ((hiddenDifference_keeps _).step (.ite ((missMirror_keeps ..).step begun) begun))

end

end Sys2Proof.Machine
end

section
/-! SUPPORT. Every command keeps what the invariant speaks of; a bring-up ends fail-silence, and keeps the invariant. O7 and O60. -/
set_option Elab.async false

namespace Sys2Proof.Machine

theorem opParamDescribe_commitKeeps : commitKeeps opParamDescribe :=
  commitKeeps_of_read fun port p s => by dsimp only [opParamDescribe]; split <;> rfl

theorem abandonLoad_keepsInv (s : State) : Keeps s (abandonLoad s) := .set rfl .refl

theorem execConfigFileLoad_keeps (r : Req) (s : State) : keepsOut s (execConfigFileLoad r s) := by
  have served : Keeps s (serve opConfigFileLoad r s) := serve_keeps opConfigFileLoad_commitKeeps ..
  exact .next (.ite ((abandonLoad_keepsInv _).step served) served)

/-- Each command by its own lemma. -/
theorem exec_keeps (i : Instr) (s : State) (h : ∀ n, i ≠ .bringUpStart n) : keepsOut s (exec i s) := by
  cases i with
  | hselNFall c => exact execHselNFall_keeps c s
  | accessByte c b => exact execAccessByte_keeps c b s
  | selectionGrant c => exact execSelectionGrant_keeps c s
  | baleWrite c bale => exact execBaleWrite_keeps c bale s
  | baleRead c => exact execBaleRead_keeps c s
  | hselNRise c clocked => exact execHselNRise_keeps c clocked s
  | attentionPulse c => exact execAttentionPulse_keeps c s
  | attentionPulseEnd => exact execAttentionPulseEnd_keeps s
  | baleDispatch c port => exact execBaleDispatch_keeps c port s
  | baleDrain port => exact execBaleDrain_keeps port s
  | packetGapExpiry port => exact execPacketGapExpiry_keeps port s
  | replyBaleWrite c port => exact execReplyBaleWrite_keeps c port s
  | cmdDatagram c dg => exact execCmdDatagram_keeps c dg s
  | fragmentTimeout c => exact execFragmentTimeout_keeps c s
  | firmwareRepeat c writes => exact execFirmwareRepeat_keeps c writes s
  | sessionIdleExpiry port => exact execSessionIdleExpiry_keeps port s
  | expertLockEnd port => exact execExpertLockEnd_keeps port s
  | configLoadTimeout => exact execConfigLoadTimeout_keeps s
  | configFileStored c ok => exact execConfigFileStored_keeps c ok s
  | ident r => exact .next (serve_keeps (commitKeeps_of_read) r s)
  | status r => exact .next (serve_keeps (commitKeeps_of_read) r s)
  | eventsRead r => exact .next (serve_keeps opEventsRead_commitKeeps r s)
  | paramRead r parity => exact .next (serve_keeps (opParamRead_commitKeeps parity) r s)
  | paramWrite r => exact .next (serve_keeps opParamWrite_commitKeeps r s)
  | expertOpen r => exact .next (serve_keeps opExpertOpen_commitKeeps r s)
  | expertClose r => exact .next (serve_keeps opExpertClose_commitKeeps r s)
  | echo r => exact .next (serve_keeps (commitKeeps_of_read) r s)
  | paramDescribe r => exact .next (serve_keeps opParamDescribe_commitKeeps r s)
  | expertCodeSet r => exact .next (serve_keeps opExpertCodeSet_commitKeeps r s)
  | modeSetBasic r => exact .next (serve_keeps (modeSet_commitKeeps _ _) r s)
  | modeSetExpert r => exact .next (serve_keeps (modeSet_commitKeeps _ _) r s)
  | setpointSet r => exact .next (serve_keeps opSetpointSet_commitKeeps r s)
  | joystickSet r => exact .next (serve_keeps opJoystickSet_commitKeeps r s)
  | berthPushSet r => exact .next (serve_keeps opBerthPushSet_commitKeeps r s)
  | trackLoad r => exact .next (serve_keeps opTrackLoad_commitKeeps r s)
  | lossModeSet r => exact .next (serve_keeps opLossModeSet_commitKeeps r s)
  | refConfigBasic r => exact .next (serve_keeps (refConfig_commitKeeps _ _) r s)
  | refConfigExpert r => exact .next (serve_keeps (refConfig_commitKeeps _ _) r s)
  | refEnable r => exact .next (serve_keeps opRefEnable_commitKeeps r s)
  | refStatusRead r => exact .next (serve_keeps opRefStatusRead_commitKeeps r s)
  | selectReference r => exact .next (serve_keeps opSelectReference_commitKeeps r s)
  | replayWindowSet r => exact .next (serve_keeps opReplayWindowSet_commitKeeps r s)
  | trackListRead r => exact .next (serve_keeps (commitKeeps_of_read) r s)
  | thrusterEnable r => exact .next (serve_keeps opThrusterEnable_commitKeeps r s)
  | thrusterDisable r => exact .next (serve_keeps opThrusterDisable_commitKeeps r s)
  | allocConfigBasic r => exact .next (serve_keeps opAllocConfigBasic_commitKeeps r s)
  | allocConfigExpert r => exact .next (serve_keeps opAllocConfigExpert_commitKeeps r s)
  | powerLimitSet r => exact .next (serve_keeps opPowerLimitSet_commitKeeps r s)
  | allocResultRead r => exact .next (serve_keeps (commitKeeps_of_read) r s)
  | compatModeSet r => exact .next (serve_keeps opCompatModeSet_commitKeeps r s)
  | axisEnable r => exact .next (serve_keeps opAxisEnable_commitKeeps r s)
  | axisDisable r => exact .next (serve_keeps opAxisDisable_commitKeeps r s)
  | axisConfigBasic r => exact .next (serve_keeps (axisConfig_commitKeeps _ _) r s)
  | axisConfigExpert r => exact .next (serve_keeps (axisConfig_commitKeeps _ _) r s)
  | compTableLoad r => exact .next (serve_keeps opCompTableLoad_commitKeeps r s)
  | axisStatusRead r => exact .next (serve_keeps (commitKeeps_of_read) r s)
  | channelConfigBasic r => exact .next (serve_keeps (channelConfig_commitKeeps _ _) r s)
  | channelConfigExpert r => exact .next (serve_keeps (channelConfig_commitKeeps _ _) r s)
  | outputSet r => exact .next (serve_keeps opOutputSet_commitKeeps r s)
  | channelRead r => exact .next (serve_keeps (commitKeeps_of_read) r s)
  | safeValueSet r => exact .next (serve_keeps opSafeValueSet_commitKeeps r s)
  | bankStatusRead r => exact .next (serve_keeps (commitKeeps_of_read) r s)
  | filterPreset r => exact .next (serve_keeps opFilterPreset_commitKeeps r s)
  | filterCustom r => exact .next (serve_keeps opFilterCustom_commitKeeps r s)
  | syncFilters r => exact .next (serve_keeps opSyncFilters_commitKeeps r s)
  | dcBlockSet r => exact .next (serve_keeps opDcBlockSet_commitKeeps r s)
  | canConfigBasic r => exact .next (serve_keeps (canConfig_commitKeeps _ _) r s)
  | canConfigExpert r => exact .next (serve_keeps (canConfig_commitKeeps _ _) r s)
  | canIdEnable r => exact .next (serve_keeps opCanIdEnable_commitKeeps r s)
  | canStatusRead r => exact .next (serve_keeps opCanStatusRead_commitKeeps r s)
  | canSend r => exact .next (serve_keeps opCanSend_commitKeeps r s)
  | ethConfig r => exact .next (serve_keeps opEthConfig_commitKeeps r s)
  | ptpConfigBasic r => exact .next (serve_keeps (ptpConfig_commitKeeps _ _) r s)
  | ptpConfigExpert r => exact .next (serve_keeps (ptpConfig_commitKeeps _ _) r s)
  | timeRead r => exact .next (serve_keeps (commitKeeps_of_read) r s)
  | timeDomainSelect r => exact .next (serve_keeps opTimeDomainSelect_commitKeeps r s)
  | gnssConfigBasic r => exact .next (serve_keeps (gnssConfig_commitKeeps _ _) r s)
  | gnssConfigExpert r => exact .next (serve_keeps (gnssConfig_commitKeeps _ _) r s)
  | gnssStatusRead r => exact .next (serve_keeps (commitKeeps_of_read) r s)
  | headingBaselineSet r => exact .next (serve_keeps opHeadingBaselineSet_commitKeeps r s)
  | gnssRestart r => exact .next (serve_keeps opGnssRestart_commitKeeps r s)
  | twinStatusRead r => exact .next (serve_keeps (commitKeeps_of_read) r s)
  | halterRequest r => exact .next (serve_keeps opHalterRequest_commitKeeps r s)
  | halterRelease r => exact .next (serve_keeps opHalterRelease_commitKeeps r s)
  | twinToleranceSet r => exact .next (serve_keeps opTwinToleranceSet_commitKeeps r s)
  | powerStateSet r => exact .next (serve_keeps opPowerStateSet_commitKeeps r s)
  | wakeConfig r => exact .next (serve_keeps opWakeConfig_commitKeeps r s)
  | rtcAlarmSet r => exact .next (serve_keeps opRtcAlarmSet_commitKeeps r s)
  | powerStatusRead r => exact .next (serve_keeps opPowerStatusRead_commitKeeps r s)
  | configFileStatus r => exact .next (serve_keeps (commitKeeps_of_read) r s)
  | yardRestart r => exact .next (serve_keeps opYardRestart_commitKeeps r s)
  | configFileLoad r => exact execConfigFileLoad_keeps r s
  | moduleReset r => exact .next (serve_keeps opModuleReset_commitKeeps r s)
  | srcCtrlWrite h q v => exact writeRow_keeps _ _ s
  | timeCtrlWrite h v => exact writeRow_keeps _ _ s
  | originWrite h lat lon => exact writeRow_keeps _ _ s
  | histSelect h v => exact writeRow_keeps _ _ s
  | histClear h v => exact writeRow_keeps _ _ s
  | bankLatchClear h bank v => exact writeRow_keeps _ _ s
  | inboxLayoutWrite h port inbox outbox => exact writeRow_keeps _ _ s
  | cmdPeerWrite h peer udp => exact writeRow_keeps _ _ s
  | canCtrlWrite h bus v => exact writeRow_keeps _ _ s
  | busPresentWrite h bus v => exact writeRow_keeps _ _ s
  | timeIncWrite h lo hi => exact writeRow_keeps _ _ s
  | beatEdge wire => exact execBeatEdge_keeps wire s
  | intakeSummary => exact execIntakeSummary_keeps s
  | sourceLossTimeout q => exact execSourceLossTimeout_keeps q s
  | loftReplayStep => exact execLoftReplayStep_keeps s
  | fusionUpdate => exact execFusionUpdate_keeps s
  | trackSilenceExpiry k => exact execTrackSilenceExpiry_keeps k s
  | modelHoldEnd q => exact execModelHoldEnd_keeps q s
  | votedOutReadmit k => exact execVotedOutReadmit_keeps k s
  | refLost q => exact execRefLost_keeps q s
  | controlLawOutput => exact execControlLawOutput_keeps s
  | windStaleExpiry => exact execWindStaleExpiry_keeps s
  | joyTimeoutExpiry => exact execJoyTimeoutExpiry_keeps s
  | joyHeadingResume => exact execJoyHeadingResume_keeps s
  | allocIteration => exact execAllocIteration_keeps s
  | allocResult => exact execAllocResult_keeps s
  | allocFallbackEntry => exact execAllocFallbackEntry_keeps s
  | allocFallbackExit => exact execAllocFallbackExit_keeps s
  | powerDataStale b => exact execPowerDataStale_keeps b s
  | powerFrame c bus f => exact execPowerFrame_keeps c bus f s
  | ptbmpSentence c eth chars => exact execPtbmpSentence_keeps c eth chars s
  | laneCompare check => exact execLaneCompare_keeps check s
  | exchangeSend => exact execExchangeSend_keeps s
  | partnerExchange c pair msg => exact execPartnerExchange_keeps c pair msg s
  | interUnitCompare => exact execInterUnitCompare_keeps s
  | mirrorSend => exact execMirrorSend_keeps s
  | mirrorAckSend primary check => exact execMirrorAckSend_keeps primary check s
  | partnerAck c pair msg => exact execPartnerAck_keeps c pair msg s
  | mirrorAdoption rx => exact execMirrorAdoption_keeps rx s
  | remirrorExit => exact execRemirrorExit_keeps s
  | commitMarker c m => exact execCommitMarker_keeps c m s
  | forwardedAxisTransition c a t => exact execForwardedAxisTransition_keeps c a t s
  | beatMarker c pair m => exact execBeatMarker_keeps c pair m s
  | skewRegister => exact execSkewRegister_keeps s
  | markerLoss => exact execMarkerLoss_keeps s
  | fjPairLost c pair why => exact execFjPairLost_keeps c pair why s
  | fjPairRegained c pair => exact execFjPairRegained_keeps c pair s
  | halterExpiryTake => exact execHalterExpiryTake_keeps s
  | halterLeaseLapse => exact execHalterLeaseLapse_keeps s
  | aloneWaitExpiry => exact execAloneWaitExpiry_keeps s
  | halterRequestExpiry => exact execHalterRequestExpiry_keeps s
  | partnerPresence => exact execPartnerPresence_keeps s
  | partnerHeartbeat c bus f => exact execPartnerHeartbeat_keeps c bus f s
  | canTxComplete c bus tdcv => exact execCanTxComplete_keeps c bus tdcv s
  | canAckError c bus => exact execCanAckError_keeps c bus s
  | canClash c bus => exact execCanClash_keeps c bus s
  | canBusError c bus e => exact execCanBusError_keeps c bus e s
  | canBusOffRecovery c bus => exact execCanBusOffRecovery_keeps c bus s
  | canEnableEffect bus onWire => exact execCanEnableEffect_keeps bus onWire s
  | canIntegrationDone c bus => exact execCanIntegrationDone_keeps c bus s
  | canFrameReceived c bus f => exact execCanFrameReceived_keeps c bus f s
  | canReferenceFrame c sof bus f => exact execCanReferenceFrame_keeps c sof bus f s
  | serialSentence c arrival port chars framing => exact execSerialSentence_keeps c arrival port chars framing s
  | udpbcSentence c stamp eth group line => exact execUdpbcSentence_keeps c stamp eth group line s
  | ethLinkChange c e up => exact execEthLinkChange_keeps c e up s
  | ethFrameRx c e f => exact execEthFrameRx_keeps c e f s
  | arpRequest c e target srcIp srcMac => exact execArpRequest_keeps c e target srcIp srcMac s
  | icmpEcho c peer target data => exact execIcmpEcho_keeps c peer target data s
  | igmpQuery c e group => exact execIgmpQuery_keeps c e group s
  | ptpAnnounce c e slot m => exact execPtpAnnounce_keeps c e slot m s
  | announceTimeout c slot => exact execAnnounceTimeout_keeps c slot s
  | ptpSync c e slot m => exact execPtpSync_keeps c e slot m s
  | ptpFollowUp c e slot m => exact execPtpFollowUp_keeps c e slot m s
  | ptpDelayResp c e slot m => exact execPtpDelayResp_keeps c e slot m s
  | delayReqSend slot draw => exact execDelayReqSend_keeps slot draw s
  | acquisitionRunEnd slot => exact execAcquisitionRunEnd_keeps slot s
  | slotHoldover slot => exact execSlotHoldover_keeps slot s
  | slotFreeRun slot => exact execSlotFreeRun_keeps slot s
  | slotStep c slot => exact execSlotStep_keeps c slot s
  | timeSwitchAuto c => exact execTimeSwitchAuto_keeps c s
  | switchStep c => exact execSwitchStep_keeps c s
  | leapSecond c => exact execLeapSecond_keeps c s
  | ppsPulse c => exact execPpsPulse_keeps c s
  | ppsPulseEnd => exact execPpsPulseEnd_keeps s
  | rtcAlarm c => exact execRtcAlarm_keeps c s
  | antennaBiasClass ant mA => exact execAntennaBiasClass_keeps ant mA s
  | antennaRetest ant mA => exact execAntennaRetest_keeps ant mA s
  | gnssIntegration c ch corr => exact execGnssIntegration_keeps c ch corr s
  | channelLossOfLock c ch => exact execChannelLossOfLock_keeps c ch s
  | satelliteRelease c pair => exact execSatelliteRelease_keeps c pair s
  | subframeReceived c ch words => exact execSubframeReceived_keeps c ch words s
  | measurementTick c m => exact execMeasurementTick_keeps c m s
  | epochStrobe c d => exact execEpochStrobe_keeps c d s
  | checkClear c check => exact execCheckClear_keeps c check s
  | gnssBlockWrite c => exact execGnssBlockWrite_keeps c s
  | gnssStartTimeout => exact execGnssStartTimeout_keeps s
  | tickEdge t => exact execTickEdge_keeps t s
  | servoRegister => exact execServoRegister_keeps s
  | axisFault a => exact execAxisFault_keeps a s
  | axisShutdownComplete a => exact execAxisShutdownComplete_keeps a s
  | axisCommandEffect a => exact execAxisCommandEffect_keeps a s
  | pendingEnableEffect a => exact execPendingEnableEffect_keeps a s
  | diagCommonEntry bank => exact execDiagCommonEntry_keeps bank s
  | diagCommonExit bank => exact execDiagCommonExit_keeps bank s
  | diDebounce ch => exact execDiDebounce_keeps ch s
  | doOverloadCutoff ch thermal => exact execDoOverloadCutoff_keeps ch thermal s
  | doRestart ch => exact execDoRestart_keeps ch s
  | bankSupplyChange bank => exact execBankSupplyChange_keeps bank s
  | bankOvercurrentTrip bank => exact execBankOvercurrentTrip_keeps bank s
  | silenceTimeout bank => exact execSilenceTimeout_keeps bank s
  | silenceResume bank => exact execSilenceResume_keeps bank s
  | modeChangeEffect ch => exact execModeChangeEffect_keeps ch s
  | sincOutput x => exact execSincOutput_keeps x s
  | settlingEnd lane => exact execSettlingEnd_keeps lane s
  | syncInEdge c rising => exact execSyncInEdge_keeps c rising s
  | scrubRead yard mem err => exact execScrubRead_keeps yard mem err s
  | blockFault c yard block => exact execBlockFault_keeps c yard block s
  | blockResetDone yard block => exact execBlockResetDone_keeps yard block s
  | yardFence c yard cause => exact execYardFence_keeps c yard cause s
  | supplyInputChange c input valid mainsV dc power => exact execSupplyInputChange_keeps c input valid mainsV dc power s
  | sleepEntry => exact execSleepEntry_keeps s
  | sleepEntryDone => exact execSleepEntryDone_keeps s
  | wakeEvent c sources => exact execWakeEvent_keeps c sources s
  | canWakeCheck c bus => exact execCanWakeCheck_keeps c bus s
  | wakeCheckTimeout c => exact execWakeCheckTimeout_keeps c s
  | watchWindowOpen c => exact execWatchWindowOpen_keeps c s
  | watchWindowClose c => exact execWatchWindowClose_keeps c s
  | clockStart lock => exact execClockStart_keeps lock s
  | clockStartRetry => exact execClockStartRetry_keeps s
  | yardRestartBegin => exact execYardRestartBegin_keeps s
  | moduleResetBegin => exact execModuleResetBegin_keeps s
  | bringUpStart n => exact absurd rfl (h n)
  | pd1Verdict v => exact execPd1Verdict_keeps v s
  | historyFlush => exact execHistoryFlush_keeps s
  | pd4Verdict v => exact execPd4Verdict_keeps v s
  | selftestVerdicts v strap => exact execSelftestVerdicts_keeps v strap s
  | crossCheckVerdict agree => exact execCrossCheckVerdict_keeps agree s
  | handshakeSend c => exact execHandshakeSend_keeps c s
  | handshakeMessage c pair msg => exact execHandshakeMessage_keeps c pair msg s
  | handshakeVerdict => exact execHandshakeVerdict_keeps s
  | bringUpEnd => exact execBringUpEnd_keeps s
  | backupCellMeasure mV => exact execBackupCellMeasure_keeps mV s
  | switchSlewEnd c => exact execSwitchSlewEnd_keeps c s
  | acquisitionRunBreak slot => exact execAcquisitionRunBreak_keeps slot s
  | talkSentenceSent port => exact execTalkSentenceSent_keeps port s
  | ethFrameTx c e => exact execEthFrameTx_keeps c e s
  | backupCellRemoved => exact execBackupCellRemoved_keeps s

/-- The step takes the command off the queue of those that wait, which the invariant does not speak of. -/
theorem pending_keeps (l : List Instr) (s : State) : Keeps s { s with pending := l } := .set rfl .refl

theorem exec_inv {i : Instr} {s t : State} (inv : Inv s) (ht : exec i s = .next t) : Inv t := by
  by_cases h : ∃ n, i = .bringUpStart n
  · obtain ⟨n, rfl⟩ := h
    exact execBringUpStart_inv n s t inv ht
  · exact (exec_keeps i s (not_exists.1 h) t ht).inv inv

/-- Settles O7: a step runs the command at the front on the state with the queue's rest, and every command keeps the invariant. -/
theorem invEveryStep : Obligations.InvEveryStep := by
  intro s t inv ht
  unfold step at ht
  split at ht
  next =>
    cases ht
    exact inv
  next i rest _ => exact exec_inv ((pending_keeps rest s).inv inv) ht

/-- Settles O60: no command but BRING_UP_START writes another cause or gives the halter to a fail-silent unit. -/
theorem failSilenceLasts : Obligations.FailSilenceLasts := fun i s t silent h ht => (exec_keeps i s h t ht).silent silent

end Sys2Proof.Machine
end

section
/-! SUPPORT. The lane compare, the comparison of units and re-mirror (15 R437-R439, R446-R448), O34 and O35. -/
set_option Elab.async false

namespace Sys2Proof.Machine

section
variable {s : State}

/-! ### Fail-silence -/

/-- What a unit that speaks leaves when it enters fail-silence (15 R439). -/
theorem enterFailSilent_speaking {n : Nat} (h : failSilent s = false) : (enterFailSilent n s).idReq = [] ∧
    (enterFailSilent n s).twin.holds = false ∧ (enterFailSilent n s).twin.permit = false ∧
    (enterFailSilent n s).twin.lanes = s.twin.lanes ∧
    (s.power.mode = .run → fld (enterFailSilent n s) 0x1004 2 0 = 3) := by
  unfold enterFailSilent
  rw [if_neg (by simp [h])]
  extract_lets s1
  refine ⟨by simp, by simp, by simp, ?_, fun run => ?_⟩
  · have same : s1.twin.lanes = s.twin.lanes := by
      unfold s1
      split <;> rfl
    rw [raise_twin]
    exact same
  · rw [fld_congr (rd_raise _ _ _ _ (by decide : 0x1004 ∉ eventIds 119))]
    change fld s1 0x1004 2 0 = 3
    simp only [s1, run]
    exact fld_wrFld_same _ _ _ _ _ (by decide)

theorem failSilent_congr {t : State} (h : t.twin.cause = s.twin.cause) : failSilent t = failSilent s := by simp [failSilent, h]

/-- The sticky bit of an event that is raised with the core clock running. -/
theorem flag_raise_own {n a id i : Nat} (core : s.clk.core = true) (hid : 0x1304 + n / 32 = id := by decide)
    (hi : n % 32 = i := by decide) (hne : id ≠ 0x130D := by decide) : flag (raise n a s) id i = true := by
  subst hid hi
  exact (raise_sticky n a s core).resolve_right hne

/-! ### The lane compare -/

/-- The end of a stage's operations changes the marks of the yards. -/
theorem stageDone_eq (b : Nat) (s : State) : ∃ y, stageDone b s = { s with yards := y } := by
  have one (k : Fin 8) (t : State) : ∃ y, operationDone k b t = { t with yards := y } := by
    unfold operationDone
    dsimp only
    split
    · exact ⟨t.yards, rfl⟩
    · exact ⟨_, rfl⟩
  obtain ⟨y, hy⟩ := one 2 s
  obtain ⟨z, hz⟩ := one 3 { s with yards := y }
  exact ⟨z, by rw [stageDone, hy, hz]⟩

/-- What LANE_DISAGREE leaves before the unit falls silent (15 R438). -/
def laneFault (i : Nat) (s : State) : State :=
  raise 118 i (sticky (updTwin (fun t => { t with lanes := false, item := i, permit := false }) s) 0x1404 0)

theorem laneFault_twin (i : Nat) (s : State) :
    (laneFault i s).twin = { s.twin with lanes := false, item := i, permit := false } := by simp [laneFault, updTwin]

theorem laneFault_mark (i : Nat) (s : State) : flag (laneFault i s) 0x1404 0 = true := by
  rw [laneFault, flag_congr (rd_raise _ _ _ _ (by decide : 0x1404 ∉ eventIds 118))]
  exact flag_sticky_same _ _ _ (by decide)

theorem laneFault_power (i : Nat) (s : State) : (laneFault i s).power = s.power := by simp [laneFault, updTwin]

theorem execLaneCompare_of_result {x : LaneResult} (hb : s.clk.beats = true) (hc : s.clk.core = true)
    (h2 : yardFenced s 2 = false) (h3 : yardFenced s 3 = false) : ∃ y, execLaneCompare x s =
    let a := { advance (beatCycle s 656000) s with yards := y }
    match laneDisagree (advance (beatCycle s 656000) s) x with
    | none => .next (updTwin (fun t => { t with lanes := true, item := 0xFF, permit := t.cause == 0 && !t.withdrawn }) a)
    | some i => .next (enterFailSilent 1 (laneFault i a)) := by
  obtain ⟨y, hy⟩ := stageDone_eq 4 (advance (beatCycle s 656000) s)
  refine ⟨y, ?_⟩
  unfold execLaneCompare
  simp only [hb, hc, h2, h3, Bool.not_true, Bool.or_self, Bool.false_eq_true, if_false, hy]
  rfl

end

/-- Settles O34: with every item agreeing the permit is given, and the first item that does not enters fail-silence. -/
theorem laneCompare : Obligations.LaneCompare := by
  refine ⟨fun x s hb hc h2 h3 agree => ?_, fun x k s hb hc h2 h3 speaks differ => ?_⟩
  · obtain ⟨y, run⟩ := execLaneCompare_of_result (x := x) hb hc h2 h3
    rw [agree] at run
    exact ⟨_, run, rfl, rfl, by simp [updTwin], by simp [updTwin], by simp [updTwin]⟩
  · obtain ⟨y, run⟩ := execLaneCompare_of_result (x := x) hb hc h2 h3
    rw [differ] at run
    extract_lets a at run
    have twin : (laneFault k { a with yards := y }).twin = { s.twin with lanes := false, item := k, permit := false } := by
      rw [laneFault_twin]
      simp [a]
    have loud : failSilent (laneFault k { a with yards := y }) = false := by
      rwa [failSilent_congr (s := s) (by rw [twin])]
    have mode : (laneFault k { a with yards := y }).power.mode = s.power.mode := by
      rw [laneFault_power]
      exact mode_advance ..
    obtain ⟨ids, holds, permit, lanes, state⟩ := enterFailSilent_speaking (n := 1) loud
    obtain ⟨cause, item⟩ := enterFailSilent_cause (n := 1) loud
    refine ⟨_, run, failSilent_enterFailSilent _ (by decide), cause, holds, permit, by rw [lanes, twin], by rw [item, twin], ids, ?_,
      fun hm => state (mode.trans hm)⟩
    rw [flag_congr ((enterFailSilent_only ..).rd (by decide))]
    exact laneFault_mark ..

section
variable {s : State} {x : Exchange}

/-! ### The comparison of units -/

theorem partnerNow_advance (c : Nat) (s : State) : partnerNow (advance c s) = partnerNow s := by
  simp [partnerNow, advance_beat]

theorem failSilent_advance (c : Nat) (s : State) : failSilent (advance c s) = failSilent s := failSilent_congr (by simp)

theorem actsAsHolder_advance (c : Nat) (s : State) (x : Exchange) : actsAsHolder (advance c s) x = actsAsHolder s x := by
  simp [actsAsHolder, unitNumber_advance]

/-- A holder's re-mirror ends at the comparison (15 R446). -/
def holderJoined (holder : Bool) (s : State) : State :=
  if holder then updTwin (fun t => { t with remirror := false, count := 0 }) s else s

theorem holderJoined_regs (holder : Bool) (s : State) : (holderJoined holder s).regs = s.regs := by
  unfold holderJoined
  split <;> rfl

theorem holderJoined_permit (holder : Bool) (s : State) : (holderJoined holder s).twin.permit = s.twin.permit := by
  unfold holderJoined
  split <;> rfl

theorem holderJoined_remirror {holder : Bool} (h : holder = true ∨ s.twin.remirror = false) :
    (holderJoined holder s).twin.remirror = false := by
  unfold holderJoined
  split
  · rfl
  · simp_all

/-- The units agree, and none joins again. -/
theorem execInterUnitCompare_agree (hb : s.clk.beats = true) (hc : s.clk.core = true) (speaks : failSilent s = false)
    (hx : partnerNow s = some x) (agree : x.outDig = s.twin.outDig) (settled : s.twin.remirror = false) :
    execInterUnitCompare s = .next (updTwin (fun t => { t with units := true, lastAgree := s.clk.beat })
      (holderJoined (actsAsHolder s x) (advance (beatCycle s 696000) s))) := by
  have joined : (holderJoined (actsAsHolder s x) (advance (beatCycle s 696000) s)).twin.remirror = false :=
    holderJoined_remirror (.inr (by simpa using settled))
  unfold execInterUnitCompare
  simp only [hb, hc, Bool.not_true, Bool.or_self, Bool.false_eq_true, if_false, failSilent_advance, speaks, partnerNow_advance, hx,
    actsAsHolder_advance, advance_twin, agree, if_true, advance_beat]
  rw [if_neg]
  · rfl
  · simpa [updTwin, holderJoined] using joined

/-- The units differ: the holder goes on, the other joins again. -/
theorem execInterUnitCompare_differ (hb : s.clk.beats = true) (hc : s.clk.core = true) (speaks : failSilent s = false)
    (hx : partnerNow s = some x) (differ : x.outDig ≠ s.twin.outDig) :
    ∃ t, execInterUnitCompare s = .next (if actsAsHolder s x then unitDisagree t else enterRemirror (unitDisagree t)) ∧
      t.twin.units = false ∧ t.twin.permit = s.twin.permit ∧ t.regs = s.regs ∧
      (actsAsHolder s x = true → t.twin.remirror = false) := by
  refine ⟨updTwin (fun t => { t with units := false }) (holderJoined (actsAsHolder s x) (advance (beatCycle s 696000) s)), ?_, rfl,
    ?_, ?_, fun h => ?_⟩
  · unfold execInterUnitCompare
    simp only [hb, hc, Bool.not_true, Bool.or_self, Bool.false_eq_true, if_false, failSilent_advance, speaks, partnerNow_advance, hx,
      actsAsHolder_advance, advance_twin, differ]
    rfl
  · exact (holderJoined_permit ..).trans (by simp)
  · exact (holderJoined_regs ..).trans (by simp)
  · exact holderJoined_remirror (.inl h)

theorem unitDisagree_twin (s : State) : (unitDisagree s).twin = s.twin := by simp [unitDisagree]

theorem enterRemirror_twin (s : State) : (enterRemirror s).twin =
    { s.twin with remirror := true, count := 0, permit := false, withdrawn := true } := rfl

theorem unitDisagree_count (s : State) : fld (unitDisagree s) 0x1405 15 0 = satAdd 16 (fld s 0x1405 15 0) 1 := by
  rw [unitDisagree, fld_congr (rd_raise _ _ _ _ (by decide)), fld_congr (rd_sticky_other _ _ (by decide))]
  exact fld_bump_same _ _ _ _ _ (by decide)

theorem unitDisagree_mark (s : State) : flag (unitDisagree s) 0x1404 1 = true := by
  rw [unitDisagree, flag_congr (rd_raise _ _ _ _ (by decide))]
  exact flag_sticky_same _ _ _ (by decide)

end

/-- Settles O35: agreement leaves the permit, a difference is counted and sends the unit that does not act as holder into
re-mirror, and three agreeing beats end it. -/
theorem unitCompare : Obligations.UnitCompare := by
  refine ⟨fun x s hb hc speaks hx agree settled => ?_, fun x s hb hc speaks hx differ holder => ?_,
    fun x s hb hc speaks hx differ other => ?_, fun s joins three speaks => ?_⟩
  · refine ⟨_, execInterUnitCompare_agree hb hc speaks hx agree settled, rfl, rfl, ?_, ?_, ?_⟩
    · exact holderJoined_remirror (.inr (by simpa using settled))
    · exact (holderJoined_permit ..).trans (by simp)
    · exact (holderJoined_regs ..).trans (by simp)
  · obtain ⟨t, run, units, permit, regs, joined⟩ := execInterUnitCompare_differ hb hc speaks hx differ
    rw [if_pos holder] at run
    refine ⟨_, run, ?_, ?_, ?_, ?_, unitDisagree_mark t⟩
    · rw [unitDisagree_twin, units]
    · rw [unitDisagree_twin, joined holder]
    · rw [unitDisagree_twin, permit]
    · rw [unitDisagree_count, fld_congr (rd_congr regs _)]
  · obtain ⟨t, run, units, permit, regs, joined⟩ := execInterUnitCompare_differ hb hc speaks hx differ
    rw [if_neg (by simp [other])] at run
    have twin : (enterRemirror (unitDisagree t)).twin =
        { t.twin with remirror := true, count := 0, permit := false, withdrawn := true } := by
      rw [enterRemirror_twin, unitDisagree_twin]
    have count : fld (enterRemirror (unitDisagree t)) 0x1405 15 0 = fld (unitDisagree t) 0x1405 15 0 := fld_congr (rd_congr rfl _)
    refine ⟨_, run, ?_, ?_, ?_, ?_, ?_, ?_⟩
    · rw [twin, units]
    · rw [twin]
    · rw [twin]
    · rw [twin]
    · rw [twin]
    · rw [count, unitDisagree_count, fld_congr (rd_congr regs _)]
  · have due : (!s.twin.remirror || decide (s.twin.count < 3) || failSilent s) = false := by
      simpa [joins, speaks] using three
    have run : exec .remirrorExit s = .next (raise 120 (s.clk.beat % 2 ^ 15 + 0x8000)
        (updTwin (fun t => { t with remirror := false, joinWait := false }) s)) := by
      change execRemirrorExit s = _
      rw [execRemirrorExit, due]
      rfl
    refine ⟨_, run, ?_, ?_, fun core => ?_⟩
    · rw [raise_twin, updTwin]
    · rw [raise_twin, updTwin]
    · exact flag_raise_own core

end Sys2Proof.Machine
end

section
/-! SUPPORT. The halter's own rows, presence and the heartbeat (15 R453-R460, 13 R400), O39. -/
set_option Elab.async false

namespace Sys2Proof.Machine

section
variable {s : State}

/-! ### Taking and dropping the halter -/

theorem takeHalter_twin (cause lc : Nat) (s : State) : (takeHalter cause lc s).twin = { s.twin with
    holds := true, heldBeat := true, lc := some lc, lcNext := [], takeNext := none, request := none
    aloneFrom := none, remirror := false, count := 0, joinWait := false, handover := .idle } := by
  rw [takeHalter, raise_twin, sticky_twin, bump_twin, updTwin]

theorem dropHalter_twin (cause lp : Nat) (bar : Bool) (s : State) : (dropHalter cause lp bar s).twin = { s.twin with
    holds := false, heldBeat := false, lc := none, lcNext := [], lp := laterLease s.twin.lp lp
    barred := s.twin.barred || bar, handover := .idle } := by
  rw [dropHalter, raise_twin, sticky_twin, bump_twin, updTwin]

theorem takeHalter_count (cause lc : Nat) (s : State) :
    fld (takeHalter cause lc s) 0x1407 15 0 = satAdd 16 (fld s 0x1407 15 0) 1 ∧ flag (takeHalter cause lc s) 0x1404 2 = true := by
  unfold takeHalter
  rw [fld_congr (rd_raise _ _ _ _ (by decide)), flag_congr (rd_raise _ _ _ _ (by decide)), fld_congr (rd_sticky_other _ _ (by decide))]
  exact ⟨fld_bump_same _ _ _ _ _ (by decide), flag_sticky_same _ _ _ (by decide)⟩

theorem dropHalter_count (cause lp : Nat) (bar : Bool) (s : State) :
    fld (dropHalter cause lp bar s) 0x1407 15 0 = satAdd 16 (fld s 0x1407 15 0) 1 ∧
    flag (dropHalter cause lp bar s) 0x1404 3 = true := by
  unfold dropHalter
  rw [fld_congr (rd_raise _ _ _ _ (by decide)), flag_congr (rd_raise _ _ _ _ (by decide)), fld_congr (rd_sticky_other _ _ (by decide))]
  exact ⟨fld_bump_same _ _ _ _ _ (by decide), flag_sticky_same _ _ _ (by decide)⟩

/-- The heartbeats of the cycle are written again; the twin unit stays. -/
theorem refreshHeartbeats_twin (s : State) : (refreshHeartbeats s).twin = s.twin := rfl

theorem execHalterExpiryTake_due (hb : s.clk.beats = true) (run : inRun s = true) (due : mayExpire s.clk.beat s = true) :
    execHalterExpiryTake s = .next (refreshHeartbeats (takeHalter 1 (leaseEnd s.clk.beat 2) s)) := by
  simp [execHalterExpiryTake, hb, run, due]

theorem execHalterLeaseLapse_due (hb : s.clk.beats = true) (holds : s.twin.holds = true)
    (due : ∀ x, s.twin.lc = some x → 0 ≤ beatDiff s.clk.beat x) :
    execHalterLeaseLapse s = .next (refreshHeartbeats (dropHalter 4 (leaseEnd s.clk.beat 3) true s)) := by
  unfold execHalterLeaseLapse
  rw [if_neg]
  rw [hb, holds]
  cases hl : s.twin.lc with
  | none => simp
  | some x => simpa using due x hl

theorem execAloneWaitExpiry_due {k : Nat} (hb : s.clk.beats = true) (run : inRun s = true) (free : s.twin.holds = false)
    (speaks : failSilent s = false) (alone : s.twin.lp = none) (from_ : s.twin.aloneFrom = some k)
    (due : (fld s 0x1400 15 8 : Int) * (1 + unitNumber s) ≤ beatDiff s.clk.beat k) :
    execAloneWaitExpiry s = .next (refreshHeartbeats (takeHalter 3 (leaseEnd s.clk.beat 2) s)) := by
  simp [execAloneWaitExpiry, hb, run, free, speaks, alone, from_, due]

theorem execHalterRequestExpiry_due {k : Nat} (hr : s.twin.request = some k) (due : 100 ≤ beatDiff s.clk.beat k) :
    execHalterRequestExpiry s = .next (updTwin (fun t => { t with request := none }) s) := by
  simp [execHalterRequestExpiry, hr, due]

/-! ### Presence -/

/-- What a change of presence leaves before its event: a partner that is gone sets its sticky bit (15 R459). -/
def presenceNoted (now : Bool) (s : State) : State :=
  let s1 := updTwin (fun t => { t with present := now }) s
  if now then s1 else sticky (if fld s1 0x1102 1 0 = 1 then wrFld s1 0x1102 1 0 0 else s1) 0x1404 4

theorem presenceNoted_twin (now : Bool) (s : State) : (presenceNoted now s).twin = { s.twin with present := now } := by
  unfold presenceNoted
  cases now
  · simp only [Bool.false_eq_true, if_false, sticky_twin]
    split <;> rfl
  · rfl

theorem presenceNoted_clk (now : Bool) (s : State) : (presenceNoted now s).clk = s.clk := by
  unfold presenceNoted
  cases now
  · simp only [Bool.false_eq_true, if_false, sticky_clk]
    split <;> rfl
  · rfl

theorem execPartnerPresence_change (hb : s.clk.beats = true) (hc : s.clk.core = true)
    (change : presentAt s.clk.beat s ≠ s.twin.present) : execPartnerPresence s =
    .next (raise 122 (if presentAt s.clk.beat s then 0x8000 else 0) (presenceNoted (presentAt s.clk.beat s) s)) := by
  simp only [execPartnerPresence, hb, hc, Bool.not_true, Bool.or_self, Bool.false_eq_true, if_false, beq_eq_false_iff_ne.2 change]
  rfl

/-! ### The heartbeat -/

/-- What a good heartbeat of the partner leaves in RUN (13 R400). -/
def heartbeatHeard (bus : Fin 4) (f : CanFrame) (s : State) : State :=
  updTwin (fun t => { t with
    hbEdge := vset t.hbEdge bus (some (beatAdd s.clk.beat 1)), hbBeat := some (leAt f.data 4 4)
    pHolds := byteAt f.data 1 / 2 % 2 == 1, barred := false, aloneFrom := none
    lpNext := if leAt f.data 8 4 = 0xFFFFFFFF then t.lpNext else t.lpNext ++ [(beatAdd s.clk.beat 1, leAt f.data 8 4)] }) s

theorem execPartnerHeartbeat_good {bus : Fin 4} {f : CanFrame} (c : Nat) (on : flag s (canId bus.val 0) 14 = true)
    (hears : canHears s bus = true) (data : f.remote = false) (mode : s.power.mode ≠ .bringUp) (hb : s.clk.beats = true)
    (id : frameIdWord f = rd s (canId bus.val 5) + BitVec.ofNat 32 (1 - unitNumber s)) (fd : f.fd = true)
    (len : f.data.length = 16) (kind : byteAt f.data 0 = 1) (crc : frameCrc (f.data.take 14) = leAt f.data 14 2)
    (other : byteAt f.data 1 % 2 ≠ unitNumber s) :
    execPartnerHeartbeat c bus f s = .next (heartbeatHeard bus f (advance c s)) := by
  have up : ((advance c s).power.mode == PowerMode.bringUp) = false := by simpa [mode_advance] using mode
  have on' : flag (advance c s) (canId bus.val 0) 14 = true := (flag_congr (rd_advance ..)).trans on
  simp only [execPartnerHeartbeat, on', canHears_advance, hears, data, seeksDuplicate, inBringUp, up, rd_advance, unitNumber_advance,
    ← id, fd, len, kind, crc, beq_self_eq_true, beq_eq_false_iff_ne.2 other, advance_beats, hb, Bool.not_true, Bool.or_self,
    Bool.false_and, Bool.and_self, Bool.false_eq_true, and_false, if_false, ne_eq, not_true_eq_false]
  rfl

end

/-- Settles O39: each row runs under its conditions, and the twin unit then reads as its rule says. -/
theorem halterEvents : Obligations.HalterEvents := by
  refine ⟨fun s hb run due => ?_, fun s hb holds due => ?_, fun k s hb run free speaks alone from_ due => ?_, fun k s hr due => ?_,
    fun s hb hc change => ?_, fun c bus f s on hears data mode hb id fd len kind crc other => ?_⟩
  · obtain ⟨count, mark⟩ := takeHalter_count 1 (leaseEnd s.clk.beat 2) s
    refine ⟨_, execHalterExpiryTake_due hb run due, ?_, ?_, ?_, count, mark⟩
    all_goals rw [refreshHeartbeats_twin, takeHalter_twin]
  · obtain ⟨count, mark⟩ := dropHalter_count 4 (leaseEnd s.clk.beat 3) true s
    refine ⟨_, execHalterLeaseLapse_due hb holds due, ?_, ?_, ?_, ?_, count, mark⟩
    all_goals rw [refreshHeartbeats_twin, dropHalter_twin]
    exact Bool.or_true _
  · obtain ⟨count, -⟩ := takeHalter_count 3 (leaseEnd s.clk.beat 2) s
    refine ⟨_, execAloneWaitExpiry_due hb run free speaks alone from_ due, ?_, ?_, ?_, count⟩
    all_goals rw [refreshHeartbeats_twin, takeHalter_twin]
  · exact ⟨_, execHalterRequestExpiry_due hr due, rfl⟩
  · refine ⟨_, execPartnerPresence_change hb hc change, ?_, fun was => ?_, flag_raise_own (by rwa [presenceNoted_clk])⟩
    · rw [raise_twin, presenceNoted_twin]
    · have gone : presentAt s.clk.beat s = false := by simpa [was] using change
      rw [flag_congr (rd_raise _ _ _ _ (by decide)), gone]
      exact flag_sticky_same _ _ _ (by decide)
  · refine ⟨_, execPartnerHeartbeat_good c on hears data mode hb id fd len kind crc other, ?_, rfl, rfl, rfl, rfl⟩
    simp [heartbeatHeard, updTwin, advance_beat]

end Sys2Proof.Machine
end

section
/-! SUPPORT. The fibre pairs, the partner's beat marker and the steering of a follower (15 R441, 02 R67-R70), O38. -/
set_option Elab.async false

namespace Sys2Proof.Machine

section
variable {s : State} {pair : Fin 2}

theorem rd_updTwin (f : Twin → Twin) (s : State) (id : Nat) : rd (updTwin f s) id = rd s id := rfl

/-! ### FJ_STATE -/

theorem vget_updPair_same (p : Fin 2) (f : FjPair → FjPair) (s : State) :
    vget (updPair p f s).twin.pairs p = f (vget s.twin.pairs p) := vget_vupd_same ..

theorem vget_updPair_other {p q : Fin 2} (f : FjPair → FjPair) (s : State) (h : q ≠ p) :
    vget (updPair p f s).twin.pairs q = vget s.twin.pairs q := vget_vupd_other _ _ _ _ h

theorem linkState_le (s : State) : linkState s ≤ 2 := Nat.sub_le ..

/-- A pair that goes down moves the state of the link by one. -/
theorem linkState_updPair_down {f : FjPair → FjPair} (was : (vget s.twin.pairs pair).up = true)
    (down : (f (vget s.twin.pairs pair)).up = false) : linkState (updPair pair f s) = linkState s + 1 := by
  obtain rfl | rfl : pair = 0 ∨ pair = 1 := by omega
  · rw [linkState, linkState, vget_updPair_same, vget_updPair_other _ _ (by decide), down, was]
    cases (vget s.twin.pairs 1).up <;> rfl
  · rw [linkState, linkState, vget_updPair_same, vget_updPair_other _ _ (by decide), down, was]
    cases (vget s.twin.pairs 0).up <;> rfl

/-- The register shows the state of the link and each pair. -/
theorem showLink_fields (s : State) : fld (showLink s) 0x7400 1 0 = linkState s ∧
    ∀ p : Fin 2, flag (showLink s) 0x7400 (2 + p.val) = (vget s.twin.pairs p).up := by
  have shown : rd (showLink s) 0x7400 = rd (wrFlag (wrFlag (wrFld s 0x7400 1 0 (linkState s)) 0x7400 2
      (vget s.twin.pairs 0).up) 0x7400 3 (vget s.twin.pairs 1).up) 0x7400 := rd_raiseIf _ _ _ _ (by decide)
  refine ⟨?_, fun p => ?_⟩
  · rw [fld_congr shown, fld_wrFlag_beside _ (.inl (by decide)) (by decide), fld_wrFlag_beside _ (.inl (by decide)) (by decide),
      fld_wrFld_same _ _ _ _ _ (by decide)]
    exact Nat.mod_eq_of_lt (Nat.lt_of_le_of_lt (linkState_le s) (by decide))
  · rw [flag_congr shown]
    obtain rfl | rfl : p = 0 ∨ p = 1 := by omega
    · exact (flag_wrFlag_beside _ (by decide) (by decide)).trans (flag_wrFlag_same _ _ _ _ (by decide))
    · exact flag_wrFlag_same _ _ _ _ (by decide)

theorem rd_showLink {id : Nat} (s : State) (h : (anyEventId id || id == 0x7400) = false) : rd (showLink s) id = rd s id :=
  (showLink_only s).rd h

/-- A pair that was up is lost: its sticky bit, the link's state and the waiting identifier requests (15 R441). -/
theorem losePair_up (up : (vget s.twin.pairs pair).up = true) :
    (vget (losePair pair s).twin.pairs pair).up = false ∧ (vget (losePair pair s).twin.pairs pair).good = 0 ∧
    fld (losePair pair s) 0x7400 1 0 = linkState s + 1 ∧ flag (losePair pair s) 0x7400 (2 + pair.val) = false ∧
    flag (losePair pair s) 0x7401 pair.val = true ∧ (losePair pair s).idReq = [] := by
  rw [losePair, if_pos up]
  generalize hd : updPair pair (fun x => { x with up := false, good := 0 }) { s with idReq := [] } = d
  have lost : vget d.twin.pairs pair = { vget s.twin.pairs pair with up := false, good := 0 } := hd ▸ vget_updPair_same ..
  have link : linkState (sticky d 0x7401 pair.val) = linkState s + 1 := by
    rw [linkState, sticky_twin, ← linkState, ← hd]
    exact linkState_updPair_down up rfl
  have idle : d.idReq = [] := hd ▸ rfl
  obtain ⟨state, shown⟩ := showLink_fields (sticky d 0x7401 pair.val)
  refine ⟨?_, ?_, by rw [state, link], ?_, ?_, by rw [showLink_idReq, sticky_idReq, idle]⟩
  · rw [showLink_twin, sticky_twin, lost]
  · rw [showLink_twin, sticky_twin, lost]
  · rw [shown, sticky_twin, lost]
  · rw [flag_congr (rd_showLink _ rfl)]
    exact flag_sticky_same _ _ _ (by omega)

theorem linkState_advance (c : Nat) (s : State) : linkState (advance c s) = linkState s := by simp [linkState]

theorem execFjPairLost_listening {w : PairLoss} (c : Nat) (hc : s.clk.core = true) (listens : yardFenced s 7 = false) :
    execFjPairLost c pair w s = match w with
      | .align => .next (losePair pair (advance c s))
      | .codes n =>
        let s1 := bump (advance c s) (0x7402 + pair.val) 15 0 n
        .next (if 16 ≤ n then losePair pair s1 else s1)
      | .silent => .next (if 3 ≤ (vget s.twin.pairs pair).miss then losePair pair (advance c s) else advance c s) := by
  simp only [execFjPairLost, advance_core, hc, yardFenced_advance, listens, Bool.not_true, Bool.or_self, Bool.false_eq_true, if_false,
    advance_twin] <;> rfl

theorem execFjPairRegained_due (c : Nat) (down : (vget s.twin.pairs pair).up = false)
    (good : 100 ≤ (vget s.twin.pairs pair).good) (listens : yardFenced s 7 = false) : execFjPairRegained c pair s =
    .next (showLink (updPair pair (fun x => { x with up := true, miss := 0 }) (advance c s))) := by
  simp [execFjPairRegained, down, listens, good]

/-! ### The partner's beat marker -/

/-- The one-way time that two markers in a row give (02 R67). -/
def oneWayNoted (m : BeatMarkerMsg) (s : State) : State :=
  match s.twin.interval with
  | some (k, i) =>
    if beatAdd k 1 = m.beat then
      let d := oneWayOf i m.interval
      let s1 := wrFld (updTwin (fun t => { t with oneWay := d }) s) 0x7400 31 16 (min d 65535)
      if 500 < d then sticky s1 0x7401 3 else s1
    else s
  | none => s

theorem oneWayNoted_only (m : BeatMarkerMsg) (s : State) :
    onlyChanges [.twin] [0x7400, 0x7401].contains s (oneWayNoted m s) := by
  unfold oneWayNoted
  split
  · exact .ite (.ite (.sticky (.wrFld ((updTwin_only ..).step .refl))) (.wrFld ((updTwin_only ..).step .refl))) .refl
  · exact .refl

theorem oneWayNoted_pairs (m : BeatMarkerMsg) (s : State) : (oneWayNoted m s).twin.pairs = s.twin.pairs := by
  unfold oneWayNoted
  split
  · dsimp only
    split
    · split
      · rw [sticky_twin, wrFld_twin, updTwin]
      · rw [wrFld_twin, updTwin]
    · rfl
  · rfl

/-- A follower that hears its partner's marker is in the first state of alignment. -/
def markerKept (c : Nat) (own : Int) (m : BeatMarkerMsg) (s : State) : State :=
  let s2 := updTwin (fun t => { t with interval := some (m.beat, own), marker := some (m.beat, c) }) s
  if fld s2 0x1102 1 0 = 0 then wrFld s2 0x1102 1 0 1 else s2

theorem markerKept_twin (c : Nat) (own : Int) (m : BeatMarkerMsg) (s : State) : (markerKept c own m s).twin =
    { s.twin with interval := some (m.beat, own), marker := some (m.beat, c) } := by
  unfold markerKept
  dsimp only
  split <;> rfl

theorem markerKept_aligned (c : Nat) (own : Int) (m : BeatMarkerMsg) (h : fld s 0x1102 1 0 = 0) :
    fld (markerKept c own m s) 0x1102 1 0 = 1 := by
  have first : markerKept c own m s =
      wrFld (updTwin (fun t => { t with interval := some (m.beat, own), marker := some (m.beat, c) }) s) 0x1102 1 0 1 := if_pos h
  rw [first]
  exact fld_wrFld_same _ _ _ _ _ (by decide)

theorem execBeatMarker_good {m : BeatMarkerMsg} (c : Nat) (link : linkUsable s = true) (crc : m.crcOk = true)
    (other : m.unit % 2 ≠ unitNumber s) (mode : s.power.mode ≠ .bringUp) (hb : s.clk.beats = true)
    (new : ∀ x, s.twin.marker = some x → x.1 ≠ m.beat) : execBeatMarker c pair m s =
    .next (markerKept c ((c : Int) - edgeOf s m.beat) m (oneWayNoted m (goodMessage pair (advance c s)))) := by
  have usable : linkUsable (advance c s) = true := (linkUsable_advance c s).trans link
  have mode' : (goodMessage pair (advance c s)).power.mode ≠ .bringUp := fun h => mode ((mode_advance c s).symm.trans h)
  have beats : (goodMessage pair (advance c s)).clk.beats = true := (advance_beats c s).trans hb
  have fresh : (goodMessage pair (advance c s)).twin.marker.any (fun x => x.1 == m.beat) = false := by
    have same : (goodMessage pair (advance c s)).twin.marker = s.twin.marker := by simp [goodMessage, updPair, updTwin]
    rw [same]
    cases h : s.twin.marker with
    | none => rfl
    | some x => simpa using new x h
  have edge : edgeOf (goodMessage pair (advance c s)) m.beat = edgeOf s m.beat := by
    have base : (goodMessage pair (advance c s)).clk.beatBase = s.clk.beatBase := advance_beatBase c s
    have beat : (goodMessage pair (advance c s)).clk.beat = s.clk.beat := advance_beat c s
    rw [edgeOf, base, beat, ← edgeOf]
  unfold execBeatMarker
  simp only [usable, crc, unitNumber_advance, other, mode', beats, fresh, edge, Bool.not_true, Bool.false_eq_true, if_false]
  rfl

/-! ### Skew and steering -/

/-- The skew and the steering that a follower registers (02 R68). -/
def skewNoted (k steer : Int) (past : Bool) (s : State) : State :=
  let s2 := updTwin (fun t => { t with skewPrev := some k, missed := 0, skewOver := past })
    (wrFld (wrFld (wrFld s 0x1103 15 0 (twosOf 16 (clampI (-32767) 32767 k))) 0x1104 15 0 (twosOf 16 steer)) 0x1102 1 0 2)
  raiseIf (past && !s.twin.skewOver) 4 (min k.natAbs 0x7FFF + (if k < 0 then 0x8000 else 0)) (if past then sticky s2 0x1106 0 else s2)

theorem twosOf_lt (n : Nat) (x : Int) : twosOf n x < 2 ^ n := by
  have := Int.emod_lt_of_pos x (b := ((2 ^ n : Nat) : Int)) (by positivity)
  unfold twosOf
  omega

theorem rd_skewNoted {k steer : Int} {past : Bool} (s : State) {id : Nat} (h : id ∉ eventIds 4) (hid : id ≠ 0x1106) :
    rd (skewNoted k steer past s) id = rd (wrFld (wrFld (wrFld s 0x1103 15 0 (twosOf 16 (clampI (-32767) 32767 k))) 0x1104 15 0
      (twosOf 16 steer)) 0x1102 1 0 2) id := by
  rw [skewNoted, rd_raiseIf _ _ _ _ h]
  split
  · rw [rd_sticky_other _ _ hid]
    rfl
  · rfl

theorem skewNoted_fields (k steer : Int) (past : Bool) (s : State) :
    fld (skewNoted k steer past s) 0x1103 15 0 = twosOf 16 (clampI (-32767) 32767 k) ∧
    fld (skewNoted k steer past s) 0x1104 15 0 = twosOf 16 steer ∧ fld (skewNoted k steer past s) 0x1102 1 0 = 2 := by
  refine ⟨?_, ?_, ?_⟩
  · rw [fld_congr (rd_skewNoted _ (by decide) (by decide)), fld_congr (rd_wrFld_other _ _ _ _ (by decide)),
      fld_congr (rd_wrFld_other _ _ _ _ (by decide)), fld_wrFld_same _ _ _ _ _ (by decide)]
    exact Nat.mod_eq_of_lt (twosOf_lt 16 _)
  · rw [fld_congr (rd_skewNoted _ (by decide) (by decide)), fld_congr (rd_wrFld_other _ _ _ _ (by decide)),
      fld_wrFld_same _ _ _ _ _ (by decide)]
    exact Nat.mod_eq_of_lt (twosOf_lt 16 _)
  · rw [fld_congr (rd_skewNoted _ (by decide) (by decide))]
    exact fld_wrFld_same _ _ _ _ _ (by decide)

theorem skewNoted_twin (k steer : Int) (past : Bool) (s : State) : (skewNoted k steer past s).twin =
    { s.twin with skewPrev := some k, missed := 0, skewOver := past } := by
  rw [skewNoted, raiseIf_twin]
  split
  · rw [sticky_twin]
    rfl
  · rfl

/-- The marker of this beat, where one came. -/
theorem execSkewRegister_marker {x : Nat × Nat} (hb : s.clk.beats = true) (hc : s.clk.core = true)
    (follows : 2 ≤ fld s 0x1102 1 0) (hx : s.twin.marker = some x) (now : x.1 = s.clk.beat) :
    ∃ past, execSkewRegister s = .next (skewNoted ((x.2 : Int) - (s.twin.oneWay + markerFixed : Nat) - s.clk.beatBase)
      (steerOf (signedOf 16 (fld s 0x1104 15 0)) s.twin.skewPrev
        ((x.2 : Int) - (s.twin.oneWay + markerFixed : Nat) - s.clk.beatBase)) past (advance (beatCycle s 100000) s)) := by
  have late : ¬ fld s 0x1102 1 0 < 2 := by omega
  refine ⟨decide (fld s 0x1105 7 0 < ((x.2 : Int) - (s.twin.oneWay + markerFixed : Nat) - s.clk.beatBase).natAbs), ?_⟩
  have steer : fld (advance (beatCycle s 100000) s) 0x1104 15 0 = fld s 0x1104 15 0 := fld_congr (rd_advance ..)
  have limit : fld (advance (beatCycle s 100000) s) 0x1105 7 0 = fld s 0x1105 7 0 := fld_congr (rd_advance ..)
  unfold execSkewRegister skewNoted
  simp only [hb, hc, late, Bool.not_true, Bool.or_self, decide_false, Bool.false_eq_true, if_false, advance_twin, hx,
    advance_beat, now, Option.filter_some, beq_self_eq_true, if_true, advance_beatBase, steer, limit]

theorem execSkewRegister_absent (hb : s.clk.beats = true) (hc : s.clk.core = true) (follows : 2 ≤ fld s 0x1102 1 0)
    (absent : ∀ x, s.twin.marker = some x → x.1 ≠ s.clk.beat) : execSkewRegister s =
    .next (updTwin (fun t => { t with missed := t.missed + 1 }) (advance (beatCycle s 100000) s)) := by
  have late : ¬ fld s 0x1102 1 0 < 2 := by omega
  have none_ : s.twin.marker.filter (fun x => x.1 == s.clk.beat) = none := by
    simpa [Option.filter_eq_none_iff] using absent
  unfold execSkewRegister
  simp only [hb, hc, late, Bool.not_true, Bool.or_self, decide_false, Bool.false_eq_true, if_false, advance_twin,
    advance_beat, none_]

theorem execMarkerLoss_due (missed : 3 ≤ s.twin.missed) (steers : fld s 0x1102 1 0 = 2) :
    execMarkerLoss s = .next (updTwin (fun t => { t with skewPrev := none }) (wrFld s 0x1102 1 0 3)) := by
  rw [execMarkerLoss, if_neg (by omega)]

end

/-- Settles O38: what each row of the link and of the alignment leaves, from the fields of FJ_STATE, the pairs and the
registers of the skew. -/
theorem linkAndAlignment : Obligations.LinkAndAlignment := by
  refine ⟨fun c pair w s hc listens cause up => ?_, fun c pair w n s hc listens cause few => ?_,
    fun c pair s down good listens => ?_, fun c pair m s link crc other mode hb new => ?_,
    fun x s => ?_, fun s hb hc follows absent => ?_, fun s missed steers => ?_⟩
  · subst cause
    have run : execFjPairLost c pair .align s = .next (losePair pair (advance c s)) := execFjPairLost_listening c hc listens
    rw [← linkState_advance c s]
    exact ⟨_, run, losePair_up (by simpa using up)⟩
  · subst cause
    have run : execFjPairLost c pair (.codes n) s = .next (bump (advance c s) (0x7402 + pair.val) 15 0 n) := by
      rw [execFjPairLost_listening c hc listens]
      simp only [Nat.not_le.2 few, if_false]
    refine ⟨_, run, ?_, by simp⟩
    rw [fld_bump_same _ _ _ _ _ (by decide), fld_congr (rd_advance ..)]
  · refine ⟨_, execFjPairRegained_due c down good listens, ?_, ?_⟩
    · rw [showLink_twin, vget_updPair_same]
    · rw [(showLink_fields _).2, vget_updPair_same]
  · refine ⟨_, execBeatMarker_good c link crc other mode hb new, ?_, ?_, ?_, fun before => markerKept_aligned _ _ _ ?_⟩
    · rw [markerKept_twin]
    · rw [markerKept_twin]
    · rw [markerKept_twin]
      change (vget (oneWayNoted m (goodMessage pair (advance c s))).twin.pairs pair).seen = true
      rw [oneWayNoted_pairs, goodMessage, vget_updPair_same]
    · rw [fld_congr ((oneWayNoted_only ..).rd (by decide))]
      exact (fld_congr (rd_advance ..)).trans before
  · dsimp only
    intro hb hc follows hx now
    obtain ⟨past, run⟩ := execSkewRegister_marker hb hc follows hx now
    obtain ⟨skew, steer, state⟩ := skewNoted_fields _ _ past (advance (beatCycle s 100000) s)
    refine ⟨_, run, skew, steer, state, ?_, ?_⟩
    · rw [skewNoted_twin]
    · rw [skewNoted_twin]
  · refine ⟨_, execSkewRegister_absent hb hc follows absent, ?_, ?_⟩
    · simp [updTwin]
    · exact advance_regs ..
  · refine ⟨_, execMarkerLoss_due missed steers, ?_, ?_, rfl⟩
    · rw [fld_congr (rd_updTwin ..)]
      exact fld_wrFld_same _ _ _ _ _ (by decide)
    · rw [fld_congr (rd_updTwin ..)]
      exact fld_congr (rd_wrFld_other _ _ _ _ (by decide))

end Sys2Proof.Machine
end

section
/-! SUPPORT. The messages of the beat: exchange, acknowledgment and image (15 R442-R445, R453, R458), O36. -/
set_option Elab.async false

namespace Sys2Proof.Machine

section
variable {s : State} {m b : List Byte}

/-! ### Messages with their CRC -/

theorem iterN_invariant {α : Type} {p : α → Prop} {f : α → α} (step : ∀ x, p x → p (f x)) (n : Nat) {x : α} (h : p x) :
    p (iterN f n x) := by
  induction n generalizing x with
  | zero => exact h
  | succ n ih => exact ih (step x h)

theorem crc32_lt (l : List Byte) : crc32 l < 2 ^ 32 := by
  have bit (c : Nat) (h : c < 2 ^ 32) : crc32Bit c < 2 ^ 32 := by
    have half : c >>> 1 < 2 ^ 32 := by
      rw [Nat.shiftRight_eq_div_pow]
      omega
    unfold crc32Bit
    split
    · exact Nat.xor_lt_two_pow half (by decide)
    · exact half
  have byte (c : Nat) (b : Byte) (h : c < 2 ^ 32) : crc32Byte c b < 2 ^ 32 :=
    iterN_invariant bit 8 (Nat.xor_lt_two_pow h (by omega))
  exact Nat.xor_lt_two_pow (List.foldlRecOn (motive := fun c => c < 2 ^ 32) l _ (by decide) fun c hc b _ => byte c b hc) (by decide)

/-- A message whose last four bytes are the CRC of those before it passes the check. -/
theorem msgCrcOk_sealed (b : List Byte) : msgCrcOk (b ++ leBytes 4 (crc32 b)) = true := by
  have at_ : leAt (b ++ leBytes 4 (crc32 b)) b.length 4 = crc32 b := by
    rw [leAt_append_right le_rfl, Nat.sub_self, ← List.append_nil (leBytes _ _), leAt_leBytes]
    exact Nat.mod_eq_of_lt (crc32_lt b)
  simp [msgCrcOk, at_]

theorem byteAt_append_left {a b : List Byte} {n : Nat} (h : n < a.length) : byteAt (a ++ b) n = byteAt a n := by
  simp [byteAt, List.getElem?_append_left h]

theorem leAt_append_left {a b : List Byte} {n k : Nat} (h : n + k ≤ a.length) : leAt (a ++ b) n k = leAt a n k := by
  rw [leAt, List.drop_append_of_le_length (by omega), List.take_append_of_le_length (by rw [List.length_drop]; omega), leAt]

/-! ### The exchange message -/

theorem exchangeBody_layout (s : State) (offer : Bool) (grant lease : Option Nat) (od sd : Nat) :
    (exchangeBody s offer grant lease od sd).length = 60 ∧ byteAt (exchangeBody s offer grant lease od sd) 0 = 1 ∧
    leAt (exchangeBody s offer grant lease od sd) 4 4 = s.clk.beat % 2 ^ 32 ∧
    leAt (exchangeBody s offer grant lease od sd) 16 4 = od % 2 ^ 32 := by
  refine ⟨by simp [exchangeBody], by simp [exchangeBody], ?_, ?_⟩
  · simp [exchangeBody, leAt_append_right]
  · simp [exchangeBody, leAt_append_right]

/-- The row sends a sealed message of the beat with the digest that the unit keeps, and a lease while it holds. -/
theorem execExchangeSend_sends (hb : s.clk.beats = true) (link : linkUsable s = true) :
    ∃ (t u : State) (offer : Bool) (grant lease : Option Nat) (od sd : Nat), execExchangeSend s = .next t ∧
      t.twin.exchangeOut = exchangeBody u offer grant lease od sd ++ leBytes 4 (crc32 (exchangeBody u offer grant lease od sd)) ∧
      u.clk.beat = s.clk.beat ∧ t.twin.outDig = od ∧
      (failSilent s = false → s.twin.heldBeat = true → s.twin.handover = .idle →
        t.twin.sentLease = some (leaseEnd s.clk.beat 3)) := by
  refine ⟨_, advance (beatCycle s 660000) s, _, _, _, _, _, if_neg (by simp [hb, link]), rfl, advance_beat .., rfl,
    fun speaks held idle => ?_⟩
  have none_ : (handoverSend s.clk.beat s.twin).2.1 = none := by simp [handoverSend, idle]
  simp [updTwin, failSilent_advance, speaks, held, advance_beat, none_]

/-! ### The partner's exchange message -/

/-- The unit has heard message x of its partner, with the pairs as given. -/
def hasHeard (x : Exchange) (pairs : Vector FjPair 2) (s : State) : Prop :=
  s.twin.partner = some x ∧ s.twin.msgEdge = some (beatAdd x.beat 1) ∧ s.twin.pairs = pairs ∧
    s.twin.pHolds = (x.flags / 2 % 2 == 1 && !(x.flags / 4 % 2 == 1))

theorem takeExchange_heard (x : Exchange) (s : State) : hasHeard x s.twin.pairs (takeExchange x s) := by
  unfold takeExchange
  extract_lets next quiet s1 s2 s3
  have h1 : hasHeard x s.twin.pairs s1 := ⟨rfl, rfl, rfl, rfl⟩
  clear_value s1
  have h2 : hasHeard x s.twin.pairs s2 := by
    unfold s2
    split
    · exact h1
    · exact h1
  clear_value s2
  have h3 : hasHeard x s.twin.pairs s3 := by
    unfold s3
    split
    · exact h2
    · exact h2
  clear_value s3
  split
  · exact h3
  · exact h3

/-- Does a message of the partner come in time for the comparison of units (15 R446)? -/
def exchangeInTime (c : Nat) (x : Exchange) (s : State) : Bool :=
  let d := beatDiff x.beat s.clk.beat
  decide (0 < d) || (d == 0 && decide (c ≤ beatCycle s 689999))

/-- A message in time is the one that the comparison of units uses; a late one sets its sticky bit (15 R446). -/
def exchangeNoted (c : Nat) (x : Exchange) (s : State) : State :=
  if exchangeInTime c x s then updTwin (fun t => { t with exch := some x }) s else sticky s 0x1106 1

theorem exchangeNoted_pairs (c : Nat) (x : Exchange) (s : State) : (exchangeNoted c x s).twin.pairs = s.twin.pairs := by
  unfold exchangeNoted
  split
  · rfl
  · rw [sticky_twin]

/-- A good message of the partner that is the first of its beat. -/
theorem execPartnerExchange_good {pair : Fin 2} (c : Nat) (link : linkUsable s = true) (mode : s.power.mode ≠ .bringUp)
    (hb : s.clk.beats = true) (crc : msgCrcOk m = true) (len : m.length = 64) (kind : byteAt m 0 = 1)
    (other : byteAt m 1 % 2 ≠ unitNumber s) (new : ∀ x, s.twin.partner = some x → x.beat ≠ leAt m 4 4) :
    execPartnerExchange c pair m s =
      .next (takeExchange (exchangeOf m) (exchangeNoted c (exchangeOf m) (goodMessage pair (advance c s)))) := by
  have usable : linkUsable (advance c s) = true := (linkUsable_advance c s).trans link
  have mode' : (goodMessage pair (advance c s)).power.mode ≠ .bringUp := fun h => mode ((mode_advance c s).symm.trans h)
  have beats : (goodMessage pair (advance c s)).clk.beats = true := (advance_beats c s).trans hb
  have fresh : (goodMessage pair (advance c s)).twin.partner.any (fun x => x.beat == (exchangeOf m).beat) = false := by
    have same : (goodMessage pair (advance c s)).twin.partner = s.twin.partner := by simp [goodMessage, updPair, updTwin]
    rw [same]
    cases h : s.twin.partner with
    | none => rfl
    | some x => simpa [exchangeOf] using new x h
  have flags : (exchangeOf m).flags % 2 ≠ unitNumber s := other
  unfold execPartnerExchange
  simp only [usable, crc, len, kind, unitNumber_advance, flags, mode', beats, fresh, Bool.not_true, Bool.false_eq_true, if_false,
    Bool.or_self, decide_false, ne_eq, not_true_eq_false]
  rfl

theorem execPartnerExchange_bad {pair : Fin 2} (c : Nat) (link : linkUsable s = true) (crc : msgCrcOk m = false) :
    execPartnerExchange c pair m s = .next (msgCrcFail (advance c s)) := by
  have usable : linkUsable (advance c s) = true := (linkUsable_advance c s).trans link
  unfold execPartnerExchange
  simp only [usable, crc, Bool.not_true, Bool.not_false, Bool.true_or, Bool.false_eq_true, if_false, if_true]

theorem msgCrcFail_count (s : State) : fld (msgCrcFail s) 0x7404 15 0 = satAdd 16 (fld s 0x7404 15 0) 1 ∧
    flag (msgCrcFail s) 0x7401 2 = true := by
  rw [msgCrcFail, fld_congr (rd_sticky_other _ _ (by decide))]
  exact ⟨fld_bump_same _ _ _ _ _ (by decide), flag_sticky_same _ _ _ (by decide)⟩

/-! ### The acknowledgment -/

/-- The acknowledgment of the beat (15 R444), without its CRC. -/
def ackBody (primary check : Bool) (lease : Nat) (s : State) : List Byte :=
  leBytes 1 2 ++ leBytes 1 (unitNumber s + 2 * b2n primary + 4 * b2n check + 8 * b2n (acceptsOffer s)) ++
    zeroBytes 2 ++ leBytes 4 s.clk.beat ++ leBytes 4 lease

theorem ackBody_layout (a b : Bool) (lease : Nat) (s : State) : (ackBody a b lease s).length = 12 ∧
    byteAt (ackBody a b lease s) 0 = 2 ∧ byteAt (ackBody a b lease s) 1 / 2 % 2 = b2n a ∧
    byteAt (ackBody a b lease s) 1 / 4 % 2 = b2n b ∧ leAt (ackBody a b lease s) 4 4 = s.clk.beat % 2 ^ 32 ∧
    leAt (ackBody a b lease s) 8 4 = lease % 2 ^ 32 := by
  have unit : unitNumber s < 2 := fld_lt s 0x1003 0 0
  have bit (x : Bool) : b2n x ≤ 1 := by cases x <;> decide
  have ha := bit a
  have hb := bit b
  have hc := bit (acceptsOffer s)
  have flags : byteAt (ackBody a b lease s) 1 = unitNumber s + 2 * b2n a + 4 * b2n b + 8 * b2n (acceptsOffer s) := by
    simp [ackBody, byteAt_append_right]
    omega
  refine ⟨by simp [ackBody], by simp [ackBody], by omega, by omega, ?_, ?_⟩
  · simp [ackBody, leAt_append_right]
  · have last : leAt (leBytes 4 lease) 0 4 = lease % 2 ^ 32 := by simpa using leAt_leBytes 4 lease []
    simpa [ackBody, leAt_append_right] using last

/-- The lease that the acknowledgment carries back. -/
def ackLease (s : State) : Nat :=
  match partnerOfBeat s with
  | some x => x.lease
  | none => 0xFFFFFFFF

theorem partnerOfBeat_advance (c : Nat) (s : State) : partnerOfBeat (advance c s) = partnerOfBeat s := by
  simp [partnerOfBeat, advance_beat]

theorem execMirrorAckSend_sends (a b : Bool) (hb : s.clk.beats = true) (link : linkUsable s = true)
    (free : s.twin.heldBeat = false) (speaks : failSilent s = false) : ∃ (t u : State), execMirrorAckSend a b s = .next t ∧
      u.clk.beat = s.clk.beat ∧
      t.twin.ackOut = ackBody a b (ackLease s) u ++ leBytes 4 (crc32 (ackBody a b (ackLease s) u)) := by
  refine ⟨_, advance (beatCycle s 750000) s, if_neg (by simp [hb, link, free, speaks]), advance_beat .., ?_⟩
  have lease : ackLease s = ackLease (advance (beatCycle s 750000) s) := by rw [ackLease, ackLease, partnerOfBeat_advance]
  rw [lease]
  rfl

/-- The lease that an acknowledgment confirms for the next beat edge. -/
def ackLeased (l : Nat) (s : State) : State := updTwin (fun t => { t with lcNext := t.lcNext ++ [(beatAdd s.clk.beat 1, l)] }) s

/-- The offer of the beat that an acknowledgment accepts. -/
def ackAccepted (f : Nat) (s : State) : State :=
  if f / 8 % 2 = 1 ∧ s.twin.handover = .offered s.clk.beat then updTwin (fun t => { t with handover := .accepted s.clk.beat }) s
  else s

/-- The identifier requests that the image carried, where both lanes of the partner have it. -/
def ackCarried (f : Nat) (s : State) : State :=
  if f / 2 % 4 = 3 then updTwin (fun t => { t with idCarried := 0 }) { s with idReq := s.idReq.drop s.twin.idCarried } else s

theorem ackCarried_twin (f : Nat) (s : State) :
    (ackCarried f s).twin.lcNext = s.twin.lcNext ∧ (ackCarried f s).twin.handover = s.twin.handover := by
  unfold ackCarried
  split <;> exact ⟨rfl, rfl⟩

/-- What an acknowledgment in time leaves that confirms lease l: the lease, the accepted offer and, where both lanes of the
partner have the image, the identifier requests that it carried (15 R453, R458). -/
def ackTaken (f l : Nat) (s : State) : State := ackCarried f (ackAccepted f (ackLeased l s))

theorem ackTaken_twin (f l : Nat) (s : State) :
    (ackTaken f l s).twin.lcNext = s.twin.lcNext ++ [(beatAdd s.clk.beat 1, l)] ∧
    (f / 8 % 2 = 1 → s.twin.handover = .offered s.clk.beat → (ackTaken f l s).twin.handover = .accepted s.clk.beat) := by
  obtain ⟨leases, handover⟩ := ackCarried_twin f (ackAccepted f (ackLeased l s))
  refine ⟨leases.trans ?_, fun accepts offered => handover.trans ?_⟩
  · unfold ackAccepted
    split <;> rfl
  · have now : f / 8 % 2 = 1 ∧ (ackLeased l s).twin.handover = .offered (ackLeased l s).clk.beat := ⟨accepts, offered⟩
    rw [ackAccepted, if_pos now]
    rfl

/-- The lease of an acknowledgment in time is confirmed for the next beat edge. -/
theorem execPartnerAck_confirms {pair : Fin 2} {l : Nat} (c : Nat) (link : linkUsable s = true) (hb : s.clk.beats = true)
    (held : s.twin.heldBeat = true) (speaks : failSilent s = false) (inTime : c ≤ beatCycle s 759999) (crc : msgCrcOk m = true)
    (len : m.length = 16) (kind : byteAt m 0 = 2) (other : byteAt m 1 % 2 ≠ unitNumber s) (beat : leAt m 4 4 = s.clk.beat)
    (sent : s.twin.sentLease = some l) (lease : leAt m 8 4 = l) :
    execPartnerAck c pair m s = .next (ackTaken (byteAt m 1) l (goodMessage pair (advance c s))) := by
  have usable : linkUsable (advance c s) = true := (linkUsable_advance c s).trans link
  generalize hg : goodMessage pair (advance c s) = g
  have twin : g.twin = { s.twin with pairs := g.twin.pairs } := by
    rw [← hg]
    simp [goodMessage, updPair, updTwin]
  have gBeats : g.clk.beats = true := hg ▸ (advance_beats c s).trans hb
  have gBeat : g.clk.beat = s.clk.beat := hg ▸ advance_beat c s
  have gHeld : g.twin.heldBeat = true := by rw [twin, held]
  have gSent : g.twin.sentLease = some l := by rw [twin, sent]
  have gSpeaks : failSilent g = false := (failSilent_congr (by rw [twin])).trans speaks
  have gCycle : beatCycle g 759999 = beatCycle s 759999 := by
    have base : g.clk.beatBase = s.clk.beatBase := hg ▸ advance_beatBase c s
    rw [beatCycle, base, ← beatCycle]
  unfold execPartnerAck
  simp only [usable, crc, len, kind, unitNumber_advance, other, hg, gBeats, gHeld, gSent, gSpeaks, gCycle, beat.trans gBeat.symm,
    lease,
    Nat.not_lt.2 inTime, Bool.not_true, Bool.false_eq_true, if_false, if_true, Bool.or_self, decide_false, ne_eq,
    not_true_eq_false]
  rfl

/-! ### The image -/

theorem execMirrorSend_sends (hb : s.clk.beats = true) (hc : s.clk.core = true) : ∃ t, execMirrorSend s = .next t ∧
    t.twin.mirrorDue = (linkState s == 0 && linkUsable s) ∧
    t.twin.mirrorOut = (s.twin.heldBeat && s.twin.holds && !failSilent s && (linkState s == 0 && linkUsable s)) ∧
    t.free = s.free + 1 := by
  refine ⟨_, if_neg (by simp [hb, hc]), ?_, ?_, ?_⟩
  · simp [updTwin, linkState_advance, linkUsable_advance]
  · simp [updTwin, takeFree, linkState_advance, linkUsable_advance, failSilent_advance]
  · simp [updTwin, takeFree]

end

/-- Settles O36: the layout of the bodies and the CRC that follows them, and what a good and a bad message leave. -/
theorem exchangeMessages : Obligations.ExchangeMessages := by
  refine ⟨fun s hb link => ?_, fun c pair m s link mode hb crc len kind other new => ?_, fun c pair m s link crc => ?_,
    fun a b s hb link free speaks => ?_,
    fun c pair m l s link hb held speaks inTime crc len kind other beat sent lease => ?_, fun s hb hc => execMirrorSend_sends hb hc⟩
  · obtain ⟨t, u, offer, grant, lease, od, sd, run, out, beat, dig, sent⟩ := execExchangeSend_sends hb link
    obtain ⟨len, kind, beatAt, digAt⟩ := exchangeBody_layout u offer grant lease od sd
    refine ⟨t, run, ?_, ?_, ?_, ?_, ?_, sent⟩
    all_goals rw [out]
    · rw [List.length_append, len, leBytes_length]
    · exact msgCrcOk_sealed _
    · rw [byteAt_append_left (by omega), kind]
    · rw [leAt_append_left (by omega), beatAt, beat]
    · rw [leAt_append_left (by omega), digAt, dig]
  · obtain ⟨partner, edge, kept, holds⟩ :=
      takeExchange_heard (exchangeOf m) (exchangeNoted c (exchangeOf m) (goodMessage pair (advance c s)))
    refine ⟨_, execPartnerExchange_good c link mode hb crc len kind other new, partner, edge, ?_, ?_⟩
    · rw [kept, exchangeNoted_pairs, goodMessage, vget_updPair_same]
    · rw [holds, exchangeOf]
      rcases Nat.mod_two_eq_zero_or_one (byteAt m 1 / 4) with h | h <;> simp [h]
  · obtain ⟨count, mark⟩ := msgCrcFail_count (advance c s)
    refine ⟨_, execPartnerExchange_bad c link crc, ?_, mark, ?_⟩
    · rw [count, fld_congr (rd_advance ..)]
    · rw [msgCrcFail, sticky_twin, bump_twin, advance_twin]
  · obtain ⟨t, u, run, beat, out⟩ := execMirrorAckSend_sends a b hb link free speaks
    obtain ⟨len, kind, first, second, beatAt, leaseAt⟩ := ackBody_layout a b (ackLease s) u
    refine ⟨t, run, ?_, ?_, ?_, ?_, ?_, ?_, fun x hx => ?_⟩
    all_goals rw [out]
    · rw [List.length_append, len, leBytes_length]
    · exact msgCrcOk_sealed _
    · rw [byteAt_append_left (by omega), kind]
    · rw [byteAt_append_left (by omega), first]
    · rw [byteAt_append_left (by omega), second]
    · rw [leAt_append_left (by omega), beatAt, beat]
    · rw [leAt_append_left (by omega), leaseAt, ackLease, hx]
  · have before : (goodMessage pair (advance c s)).twin.lcNext = s.twin.lcNext ∧
        (goodMessage pair (advance c s)).twin.handover = s.twin.handover := by simp [goodMessage, updPair, updTwin]
    have now : (goodMessage pair (advance c s)).clk.beat = s.clk.beat := advance_beat c s
    obtain ⟨confirmed, accepted⟩ := ackTaken_twin (byteAt m 1) l (goodMessage pair (advance c s))
    rw [before.1, now] at confirmed
    rw [before.2, now] at accepted
    exact ⟨_, execPartnerAck_confirms c link hb held speaks inTime crc len kind other beat sent lease, confirmed, accepted⟩

end Sys2Proof.Machine
end

section
/-! SUPPORT. Mirrors, forwarded commits and forwarded axis transitions on the non-holder (15 R447, R449, R450), O37. -/
set_option Elab.async false

namespace Sys2Proof.Machine

section
variable {s : State}

/-! ### A forwarded axis transition -/

theorem applyForward_only (a : Fin 48) (x : AxisForward) (s : State) (h : ∀ e, x.event = some e → e.1 < 128) :
    onlyChanges [.servo, .alc, .line, .ev] (fun _ => true) s (applyForward a x s) := by
  unfold applyForward
  extract_lets c y _ next s1 s2 _ s3 s4
  have dropped : onlyChanges [.servo, .alc, .line, .ev] (fun _ => true) s s1 := .ite (.sticky .refl) .refl
  have stored : onlyChanges [.servo, .alc, .line, .ev] (fun _ => true) s s2 := (updAxis_only ..).step dropped
  have owned : onlyChanges [.servo, .alc, .line, .ev] (fun _ => true) s s3 := by
    dsimp only [s3]
    split
    · exact .ite ((alc_only ..).step stored) stored
    · exact stored
  have settled : onlyChanges [.servo, .alc, .line, .ev] (fun _ => true) s s4 := (settleThrusters_only _).step owned
  split
  · exact settled
  next e he => exact .raise (.ite (.bump (.sticky settled)) settled) (h e he)

/-- The axis takes the state, the code and the flag of the message; a loss of the axis is an event (15 R450). -/
theorem applyForward_axis (a : Fin 48) (x : AxisForward) (s : State) :
    (axisAt (applyForward a x s) a.val).state = x.state ∧ (axisAt (applyForward a x s) a.val).code = x.code ∧
    (axisAt (applyForward a x s) a.val).pend = x.pending ∧
    (x.event = some (80, 4) → s.clk.core = true → flag (applyForward a x s) 0x1306 16 = true) := by
  unfold applyForward
  extract_lets c y _ next s1 s2 _ s3 s4
  have state : next.state = x.state := by
    unfold next
    split
    next h => exact h.1.symm
    split
    next h => exact h.1.symm
    split
    next h => exact h.1.symm
    rfl
  have axis2 : axisAt s2 a.val = { next with
      code := x.code, pend := x.pending, pendThr := x.pending && y.pendThr, locFault := false } := axisAt_updAxis_same ..
  have servo : s4.servo = s2.servo := by
    rw [settleThrusters_servo]
    dsimp only [s3]
    (repeat' split) <;> rfl
  have axis : axisAt s4 a.val = axisAt s2 a.val := axisAt_congr (congrArg Servo.axes servo) a
  have clk : s4.clk = s.clk := by
    dsimp only [s4, s3, s2, s1, settleThrusters, updAxis]
    (repeat' split) <;> simp
  have moved : (axisAt s4 a.val).state = x.state ∧ (axisAt s4 a.val).code = x.code ∧ (axisAt s4 a.val).pend = x.pending := by
    rw [axis, axis2]
    exact ⟨state, rfl, rfl⟩
  clear_value s4
  split
  next none_ => exact ⟨moved.1, moved.2.1, moved.2.2, fun h => by simp [none_] at h⟩
  next e he =>
    generalize hd : (if e.1 = 80 then bump (sticky s4 (0x500E + 16 * a.val) 0) (0x500F + 16 * a.val) 15 0 1 else s4) = d
    have same : d.servo = s4.servo ∧ d.clk = s4.clk := by
      rw [← hd]
      split
      · exact ⟨by simp, by simp⟩
      · exact ⟨rfl, rfl⟩
    have kept : axisAt (raise e.1 e.2 d) a.val = axisAt s4 a.val := axisAt_congr (by rw [raise_servo, same.1]) a
    rw [kept]
    refine ⟨moved.1, moved.2.1, moved.2.2, fun h core => ?_⟩
    obtain rfl : e = (80, 4) := by simpa [he] using h
    exact flag_raise_own (by rw [same.2, clk, core])

/-- A unit that takes forwarded messages: a non-holder in RUN on a usable link. -/
def followsPartner (s : State) : Prop :=
  s.twin.holds = false ∧ failSilent s = false ∧ s.power.mode = .run ∧ s.clk.beats = true ∧ linkUsable s = true

theorem followsPartner_advance (c : Nat) (h : followsPartner s) :
    ((advance c s).twin.holds || failSilent (advance c s) || (advance c s).power.mode != .run || !(advance c s).clk.beats ||
      !linkUsable (advance c s)) = false := by
  obtain ⟨holds, speaks, run, beats, link⟩ := h
  rw [advance_twin, failSilent_advance, mode_advance, advance_beats, linkUsable_advance, holds, speaks, run, beats, link]
  rfl

theorem execForwardedAxisTransition_runs (c : Nat) (a : Fin 48) (x : AxisForward) (h : followsPartner s) (link : linkState s ≠ 2) :
    ∃ t, execForwardedAxisTransition c a x s = .next t ∧ t.servo = (applyForward a x (advance c s)).servo ∧
      t.regs = (applyForward a x (advance c s)).regs := by
  unfold execForwardedAxisTransition
  extract_lets s0 s1 off
  rw [followsPartner_advance c h, if_neg (by simp [s0, linkState_advance, link])]
  refine ⟨_, rfl, ?_, ?_⟩
  all_goals split <;> rfl

/-! ### A forwarded commit -/

theorem applyMarker_failed {m : CommitMarker} (h : m.status ≠ stOk) : applyMarker m s = s := if_pos h

/-- In a cycle in which nothing else commits, the forwarded request commits (15 R449). -/
theorem applyMarker_commits {m : CommitMarker} {o : OpSpec} (ok : m.status = stOk) (ho : forwardSpec m.opcode.toNat = some o)
    (alone : s.arb.cycle ≠ s.clk.cycle) : applyMarker m s =
    (commitPoison o m.port m.payload (noteCommit 2 2 (commitTargets o m.payload s) s)).state := by
  have free : arbitrate 2 2 (commitTargets o m.payload s) s = some (noteCommit 2 2 (commitTargets o m.payload s) s) := by
    simp [arbitrate, appliedNow, alone]
  simp only [applyMarker, ok, ho, free, ne_eq, not_true_eq_false, if_false]

/-- A commit of an earlier beat or of this one. -/
theorem execCommitMarker_inTime {m : CommitMarker} (c : Nat) (h : followsPartner s) (d : beatDiff s.clk.beat m.beat ≤ 0) :
    ∃ f, execCommitMarker c m s = .next (updTwin f (applyMarker m (advance c s))) := by
  unfold execCommitMarker
  extract_lets s0 d0 off s1
  have past : d0 ≤ 0 := by
    dsimp only [d0, s0]
    rwa [advance_beat]
  rw [followsPartner_advance c h, if_neg (by decide), if_pos past]
  by_cases kept : d0 = 0 ∧ 700000 ≤ m.cycle ∧ off ≤ 759999
  · exact ⟨fun t => { t with late := t.late ++ [m] }, by rw [if_pos kept]⟩
  · exact ⟨id, by rw [if_neg kept]; rfl⟩

/-- A commit of the beat that has just ended. -/
theorem execCommitMarker_atEdge {m : CommitMarker} (c : Nat) (h : followsPartner s) (d : beatDiff s.clk.beat m.beat = 1)
    (early : (advance c s).clk.cycle - s.clk.beatBase ≤ 1031) :
    execCommitMarker c m s = .next (applyLateMarker m (advance c s)) := by
  unfold execCommitMarker
  extract_lets s0 d0 off s1
  have one : d0 = 1 := by
    dsimp only [d0, s0]
    rwa [advance_beat]
  have within_ : off ≤ 1031 := by
    dsimp only [off, s0]
    rwa [advance_beatBase]
  rw [followsPartner_advance c h, if_neg (by decide), if_neg (by omega), if_pos ⟨one, within_⟩]

/-- A commit that comes too late for its beat is counted. -/
theorem execCommitMarker_late {m : CommitMarker} (c : Nat) (h : followsPartner s) (d : 1 ≤ beatDiff s.clk.beat m.beat)
    (late : 2 ≤ beatDiff s.clk.beat m.beat ∨ 1031 < (advance c s).clk.cycle - s.clk.beatBase) :
    execCommitMarker c m s = .next (sticky (bump (applyMarker m (advance c s)) 0x1408 15 0 1) 0x1404 6) := by
  unfold execCommitMarker
  extract_lets s0 d0 off s1
  have diff : d0 = beatDiff s.clk.beat m.beat := by
    dsimp only [d0, s0]
    rw [advance_beat]
  have offset : off = (advance c s).clk.cycle - s.clk.beatBase := by
    dsimp only [off, s0]
    rw [advance_beatBase]
  rw [followsPartner_advance c h, if_neg (by decide), if_neg (by omega), if_neg (by omega)]

/-! ### Adoption -/

theorem reapplyLate_nothing (commits : s.twin.late = []) (axes : s.twin.lateAxis = []) : reapplyLate s = s := by
  rw [reapplyLate, commits, axes]
  rfl

/-- What the image holds stands in the unit, whose late messages wait. -/
theorem adoptImage_parts (i : MirrorImage) (s : State) : (adoptImage i s).fus = i.fus ∧ (adoptImage i s).alc.res = i.held ∧
    (adoptImage i s).alc.thr = i.thr ∧ (adoptImage i s).alc.streak = i.streak ∧
    (adoptImage i s).twin.late = s.twin.late ∧ (adoptImage i s).twin.lateAxis = s.twin.lateAxis := by
  unfold adoptImage freshSources
  extract_lets s1
  have adopted : onlyChanges [.servo, .alc, .line, .ev] (fun _ => true) s s1 :=
    .foldl .refl fun t x _ => (updAxis_only ..).step (applyForward_only _ _ _ nofun)
  have twin : s1.twin = s.twin := adopted.part .twin
  have late : s1.twin.late = s.twin.late := congrArg Twin.late twin
  have lateAxis : s1.twin.lateAxis = s.twin.lateAxis := congrArg Twin.lateAxis twin
  clear_value s1
  exact ⟨rfl, rfl, rfl, rfl, late, lateAxis⟩

/-- The holder's offer that nobody accepted lapses; nothing else that the row reads changes. -/
theorem lapseOffer_only (s : State) : onlyChanges [.twin, .line, .ev] anyEventId s (lapseOffer s) := by
  unfold lapseOffer
  split
  · exact .raise ((updTwin_only ..).step .refl)
  · exact .refl

theorem lapseOffer_clk (s : State) : (lapseOffer s).clk = s.clk := by
  unfold lapseOffer
  split
  · rw [raise_clk, updTwin]
  · rfl

theorem lapseOffer_twin (s : State) : ∃ h, (lapseOffer s).twin = { s.twin with handover := h } := by
  unfold lapseOffer
  split
  · exact ⟨.idle, by rw [raise_twin, updTwin]⟩
  · exact ⟨s.twin.handover, rfl⟩

theorem advance_cycle (c : Nat) (hc : s.clk.core = true) (h : s.clk.cycle ≤ c) : (advance c s).clk.cycle = c := by
  unfold advance
  split
  · rfl
  · simp_all
    omega

/-- The state in which the row decides. -/
def adoptionState (s : State) : State := lapseOffer (advance (beatCycle s 759999) s)

theorem lapseOffer_advance (s : State) : lapseOffer (advance (beatCycle s 759999) s) = adoptionState s := rfl

theorem adoptionState_same (s : State) : (∃ h, (adoptionState s).twin = { s.twin with handover := h }) ∧
    mirrorIsDue (adoptionState s) = mirrorIsDue s ∧ failSilent (adoptionState s) = failSilent s ∧
    (adoptionState s).clk = (advance (beatCycle s 759999) s).clk ∧ (adoptionState s).arb = s.arb := by
  have kept := lapseOffer_only (advance (beatCycle s 759999) s)
  obtain ⟨h, twin⟩ := lapseOffer_twin (advance (beatCycle s 759999) s)
  rw [← adoptionState] at kept twin
  rw [advance_twin] at twin
  have clk : (adoptionState s).clk = (advance (beatCycle s 759999) s).clk := lapseOffer_clk _
  have beat : (adoptionState s).clk.beat = s.clk.beat := by rw [clk, advance_beat]
  have partner : partnerOfBeat (adoptionState s) = partnerOfBeat s := by rw [partnerOfBeat, twin, beat, ← partnerOfBeat]
  refine ⟨⟨h, twin⟩, ?_, failSilent_congr (by rw [twin]), clk, ?_⟩
  · rw [mirrorIsDue, partner, twin, ← mirrorIsDue]
  · exact (show (adoptionState s).arb = (advance (beatCycle s 759999) s).arb from kept.part .arb).trans (advance_arb ..)

/-- A non-holder that speaks adopts a mirror that is due, complete and good. -/
theorem execMirrorAdoption_adopts {x : MirrorRx} (hb : s.clk.beats = true) (hc : s.clk.core = true)
    (free : s.twin.heldBeat = false) (speaks : failSilent s = false) (due : mirrorIsDue s = true) (complete : x.complete = true)
    (good : x.good = true) (cycle : s.clk.cycle ≤ beatCycle s 759999) (arb : s.arb.cycle < beatCycle s 759999) :
    execMirrorAdoption x s = .next (updTwin (fun t => { t with adopted := true, joinWait := false })
      (reapplyLate (adoptImage x.image (noteCommit 2 2 (adoptionTargets x.image (adoptionState s)) (adoptionState s))))) := by
  obtain ⟨⟨h, twin⟩, dueA, silentA, clk, arbA⟩ := adoptionState_same s
  have alone : (adoptionState s).arb.cycle ≠ (adoptionState s).clk.cycle := by
    rw [arbA, clk, advance_cycle _ hc cycle]
    omega
  have taken : arbitrate 2 2 (adoptionTargets x.image (adoptionState s)) (adoptionState s) =
      some (noteCommit 2 2 (adoptionTargets x.image (adoptionState s)) (adoptionState s)) := by
    simp [arbitrate, appliedNow, alone]
  have held : (adoptionState s).twin.heldBeat = false := by rw [twin, free]
  unfold execMirrorAdoption
  simp only [hb, hc, Bool.not_true, Bool.or_self, Bool.false_eq_true, if_false, lapseOffer_advance, held, silentA, speaks, dueA, due,
    complete, good, Bool.and_self, taken]

/-- A due mirror that is not complete or not good is missed. -/
theorem execMirrorAdoption_misses {x : MirrorRx} (hb : s.clk.beats = true) (hc : s.clk.core = true)
    (free : s.twin.heldBeat = false) (speaks : failSilent s = false) (due : mirrorIsDue s = true)
    (bad : x.complete = false ∨ x.good = false) :
    execMirrorAdoption x s = .next (hiddenDifference (missMirror x.complete (adoptionState s))) := by
  obtain ⟨⟨h, twin⟩, dueA, silentA, -, -⟩ := adoptionState_same s
  have held : (adoptionState s).twin.heldBeat = false := by rw [twin, free]
  have refused : (mirrorIsDue (adoptionState s) && x.complete && x.good) = false := by
    rcases bad with h | h <;> simp [h]
  unfold execMirrorAdoption
  simp only [hb, hc, Bool.not_true, Bool.or_self, Bool.false_eq_true, if_false, lapseOffer_advance, held, silentA, speaks, refused]
  simp only [dueA, due, if_true]

theorem missMirror_only (b : Bool) (s : State) :
    onlyChanges [.twin, .line, .ev] (fun id => anyEventId id || [0x1106, 0x1404, 0x1406].contains id) s (missMirror b s) := by
  unfold missMirror
  extract_lets s1 s2 blk
  have missed : onlyChanges [.twin, .line, .ev] (fun id => anyEventId id || [0x1106, 0x1404, 0x1406].contains id) s s1 :=
    .sticky (.bump .refl)
  have counted : onlyChanges [.twin, .line, .ev] (fun id => anyEventId id || [0x1106, 0x1404, 0x1406].contains id) s s2 :=
    .ite missed (.sticky missed)
  exact .ite counted (.raise ((updTwin_only ..).step counted))

/-- A missed mirror is counted, sets its sticky bit and adopts nothing. -/
theorem missMirror_counts (b : Bool) (s : State) : (missMirror b s).twin.adopted = s.twin.adopted ∧
    fld (missMirror b s) 0x1406 15 0 = satAdd 16 (fld s 0x1406 15 0) 1 ∧ flag (missMirror b s) 0x1404 5 = true := by
  unfold missMirror
  extract_lets s1 s2 blk
  have count1 : fld s1 0x1406 15 0 = satAdd 16 (fld s 0x1406 15 0) 1 :=
    (fld_congr (rd_sticky_other _ _ (by decide))).trans (fld_bump_same _ _ _ _ _ (by decide))
  have mark1 : flag s1 0x1404 5 = true := flag_sticky_same _ _ _ (by decide)
  have twin1 : s1.twin = s.twin := by rw [sticky_twin, bump_twin]
  clear_value s1
  have same2 (id : Nat) (h : id ≠ 0x1106) : rd s2 id = rd s1 id := by
    unfold s2
    split
    · rfl
    · exact rd_sticky_other _ _ h
  have twin2 : s2.twin = s.twin := by
    unfold s2
    split
    · exact twin1
    · rw [sticky_twin, twin1]
  clear_value s2
  have count2 : fld s2 0x1406 15 0 = satAdd 16 (fld s 0x1406 15 0) 1 := (fld_congr (same2 _ (by decide))).trans count1
  have mark2 : flag s2 0x1404 5 = true := (flag_congr (same2 _ (by decide))).trans mark1
  split
  · exact ⟨by rw [twin2], count2, mark2⟩
  · refine ⟨by rw [raise_twin, updTwin, twin2], ?_, ?_⟩
    · rw [fld_congr (rd_raise _ _ _ _ (by decide)), fld_congr (rd_updTwin ..), count2]
    · rw [flag_congr (rd_raise _ _ _ _ (by decide)), flag_congr (rd_updTwin ..), mark2]

theorem hiddenDifference_cases (s : State) : hiddenDifference s = enterRemirror (unitDisagree s) ∨ hiddenDifference s = s := by
  unfold hiddenDifference
  split
  · split
    · exact .inl rfl
    · exact .inr rfl
  · exact .inr rfl

theorem hiddenDifference_only (s : State) : onlyChanges [.twin, .line, .ev]
    (fun id => anyEventId id || [0x1404, 0x1405].contains id) s (hiddenDifference s) := by
  have joins : onlyChanges [.twin, .line, .ev] (fun id => anyEventId id || [0x1404, 0x1405].contains id) s
      (enterRemirror (unitDisagree s)) := (updTwin_only ..).step ((updTwin_only ..).step (.raise (.sticky (.bump .refl))))
  rcases hiddenDifference_cases s with h | h <;> rw [h]
  · exact joins
  · exact .refl

theorem hiddenDifference_keeps_marks (s : State) : (hiddenDifference s).twin.adopted = s.twin.adopted ∧
    (flag s 0x1404 5 = true → flag (hiddenDifference s) 0x1404 5 = true) := by
  rcases hiddenDifference_cases s with h | h <;> rw [h]
  · refine ⟨by rw [enterRemirror_twin, unitDisagree_twin], fun mark => ?_⟩
    rw [enterRemirror, withdraw, flag_congr (rd_updTwin ..), flag_congr (rd_updTwin ..), unitDisagree,
      flag_congr (rd_raise _ _ _ _ (by decide))]
    exact flag_sticky_of_flag _ _ _ (by decide) ((flag_congr (rd_bump_other _ _ _ _ (by decide))).trans mark)
  · exact ⟨rfl, id⟩

end

/-- Settles O37: the non-holder adopts or misses the mirror, applies a forwarded commit as one of class 2 or counts it, and
moves the axis of a forwarded transition. -/
theorem mirrorAndForwarded : Obligations.MirrorAndForwarded := by
  refine ⟨fun x s hb hc free speaks due complete good cycle arb => ?_, fun x s hb hc free speaks due bad => ?_,
    fun c x o s holds speaks run beats link ok ho alone d => ?_, fun c x s holds speaks run beats link d early => ?_,
    fun c x s holds speaks run beats link d late => ?_, fun c x s holds speaks run beats link failed d => ?_,
    fun c a x s holds speaks run beats link up => ?_⟩
  · refine ⟨_, execMirrorAdoption_adopts hb hc free speaks due complete good cycle arb, rfl, rfl, fun commits axes => ?_⟩
    obtain ⟨⟨h, twin⟩, -, -, -, -⟩ := adoptionState_same s
    have noted (l : List Nat) : (noteCommit 2 2 l (adoptionState s)).twin = { s.twin with handover := h } := twin
    obtain ⟨fus, res, thr, streak, waits, waitsAxis⟩ :=
      adoptImage_parts x.image (noteCommit 2 2 (adoptionTargets x.image (adoptionState s)) (adoptionState s))
    rw [noted] at waits waitsAxis
    rw [reapplyLate_nothing (waits.trans commits) (waitsAxis.trans axes)]
    exact ⟨fus, res, thr, streak⟩
  · obtain ⟨⟨h, twin⟩, -, -, -, -⟩ := adoptionState_same s
    obtain ⟨adopted, count, mark⟩ := missMirror_counts x.complete (adoptionState s)
    obtain ⟨adopted', mark'⟩ := hiddenDifference_keeps_marks (missMirror x.complete (adoptionState s))
    have begun : onlyChanges [.twin, .line, .ev] (fun _ => true) (advance (beatCycle s 759999) s) (adoptionState s) :=
      (lapseOffer_only _).step .refl rfl fun _ _ => rfl
    have missed : onlyChanges [.twin, .line, .ev] (fun _ => true) (advance (beatCycle s 759999) s)
        (missMirror x.complete (adoptionState s)) := (missMirror_only ..).step begun rfl fun _ _ => rfl
    have kept := (hiddenDifference_only _).step missed rfl fun _ _ => rfl
    refine ⟨_, execMirrorAdoption_misses hb hc free speaks due bad, ?_, (kept.part .fus).trans (advance_fus ..),
      (kept.part .alc).trans (advance_alc ..), (kept.part .servo).trans (advance_servo ..), ?_, mark' mark⟩
    · rw [adopted', adopted, twin]
    · have regs : fld (adoptionState s) 0x1406 15 0 = fld s 0x1406 15 0 :=
        fld_congr (((lapseOffer_only _).rd (by decide)).trans (rd_advance ..))
      rw [fld_congr ((hiddenDifference_only _).rd (by decide)), count, regs]
  · obtain ⟨f, went⟩ := execCommitMarker_inTime c ⟨holds, speaks, run, beats, link⟩ d
    rw [applyMarker_commits ok ho (by simpa using alone)] at went
    exact ⟨_, went, rfl, rfl, rfl, rfl, rfl⟩
  · exact ⟨_, execCommitMarker_atEdge c ⟨holds, speaks, run, beats, link⟩ d early, rfl⟩
  · refine ⟨_, execCommitMarker_late c ⟨holds, speaks, run, beats, link⟩ d late, flag_sticky_same _ _ _ (by decide),
      fun failed => ⟨?_, ?_⟩⟩
    · rw [applyMarker_failed failed, sticky_ctl, bump_ctl, advance_ctl]
    · rw [applyMarker_failed failed, fld_congr (rd_sticky_other _ _ (by decide)), fld_bump_same _ _ _ _ _ (by decide),
        fld_congr (rd_advance ..)]
  · obtain ⟨f, went⟩ := execCommitMarker_inTime c ⟨holds, speaks, run, beats, link⟩ d
    rw [applyMarker_failed failed] at went
    exact ⟨_, went, advance_regs .., advance_ctl .., advance_servo .., advance_alc .., advance_fus ..⟩
  · obtain ⟨t, went, servo, regs⟩ := execForwardedAxisTransition_runs c a x ⟨holds, speaks, run, beats, link⟩ up
    obtain ⟨state, code, pend, mark⟩ := applyForward_axis a x (advance c s)
    have same : axisAt t a.val = axisAt (applyForward a x (advance c s)) a.val := axisAt_congr (congrArg Servo.axes servo) a
    refine ⟨t, went, by rw [same, state], by rw [same, code], by rw [same, pend], fun event core => ?_⟩
    rw [flag_congr (rd_congr regs _)]
    exact mark event ((advance_core c s).trans core)

end Sys2Proof.Machine
end

section
/-! SUPPORT. The Ethernet ports: links, received frames, answers and the queue of frames to send (14 R407-R411, R436), O41. -/
set_option Elab.async false

namespace Sys2Proof.Machine

section
variable {s : State} {e : Fin 2}

/-! ### Registers of a port -/

/-- The registers of the ports are none of the event registers. -/
theorem ethId_not_event (e : Fin 2) (k : Nat) {n : Nat} (hn : n < 128) : ethId e k ∉ eventIds n := by
  simp only [eventIds, List.mem_cons, List.not_mem_nil, or_false, ethId]
  omega

theorem rd_raise_eth {n : Nat} (a : Nat) (s : State) (e : Fin 2) (k : Nat) (hn : n < 128 := by decide) :
    rd (raise n a s) (ethId e k) = rd s (ethId e k) := rd_raise _ _ _ _ (ethId_not_event e k hn)

theorem ethId_inj {e : Fin 2} {j k : Nat} : ethId e j = ethId e k ↔ j = k := by
  unfold ethId
  omega

/-! ### Frames to send -/

/-- A frame other than a Delay_Req takes its place behind the others. -/
theorem ethQueue_append {x : EthTx} (c : Nat) (up : blockDown s 7 (4 + e.val) = false) (plain : ∀ d q, x ≠ .delayReq d q) :
    (vget (ethQueue e c x s).eth e).txq = (vget s.eth e).txq ++ [(c, x)] := by
  rw [ethQueue, if_neg (by simp [up]), vget_vupd_same]
  cases x with
  | delayReq d q => exact absurd rfl (plain d q)
  | _ => rfl

theorem blockDown_ethQueue (c : Nat) (x : EthTx) (s : State) (y b : Nat) : blockDown (ethQueue e c x s) y b = blockDown s y b :=
  blockDown_congr (ethQueue_regs ..) y b

theorem up_of_ethOn (h : ethOn s e = true) : blockDown s 7 (4 + e.val) = false := by
  simpa using (Bool.and_eq_true_iff.1 h).2

/-- Reports of groups take their places behind the others, in order. -/
theorem ethQueue_reports (l : List Nat) (up : blockDown s 7 (4 + e.val) = false) :
    (vget (l.foldl (fun s g => ethQueue e s.clk.cycle (.igmpReport g) s) s).eth e).txq =
      (vget s.eth e).txq ++ l.map (fun g => (s.clk.cycle, .igmpReport g)) := by
  induction l generalizing s with
  | nil => simp
  | cons g l ih =>
    have first := ethQueue_append (x := .igmpReport g) s.clk.cycle up nofun
    rw [List.foldl_cons, ih ((blockDown_ethQueue ..).trans up), first, ethQueue_clk, List.append_assoc]
    rfl

theorem joinedGroups_advance (c : Nat) (s : State) : joinedGroups (advance c s) e = joinedGroups s e := by
  have same : groupJoined (advance c s) e = groupJoined s e := funext fun g => groupJoined_advance c g e s
  rw [joinedGroups, same, ← joinedGroups]

/-! ### Links -/

theorem execEthLinkChange_changes (c : Nat) {u : Bool} (h : flag s (ethId e 5) 0 ≠ u) : execEthLinkChange c e u s = .next
    (if u then announceAddress e (raise 116 (e.val + 0x8000) (wrFlag (advance c s) (ethId e 5) 0 u))
      else raise 116 e.val (sticky (wrFlag (advance c s) (ethId e 5) 0 u) (ethId e 6) 0)) := by
  have now : flag (advance c s) (ethId e 5) 0 ≠ u := by rwa [flag_congr (rd_advance ..)]
  unfold execEthLinkChange
  simp only [beq_eq_false_iff_ne.2 now, Bool.false_eq_true, if_false]
  split <;> rfl

/-! ### Received frames -/

/-- A port that is on and gets a frame of a right format that its address and groups accept. -/
theorem execEthFrameRx_accepted {f : EthFrame} (c : Nat) (on : ethOn s e = true) (len : f.length ≤ 1518) (untagged : f.vlan = false)
    (fcs : f.fcsOk = true) (mine : ethAccepts s e f.dest = true) : execEthFrameRx c e f s = .next
    (if 32 ≤ f.held then ethOverflow e (advance c s)
    else if !f.sumsOk then sticky (bump (advance c s) (ethId e 9) 15 0 1) (ethId e 6) 1
    else if f.fragOther then bump (advance c s) (ethId e 9) 15 0 1
    else bump (advance c s) (ethId e 7) 31 0 1) := by
  have accepts : ethAccepts (advance c s) e f.dest = true := by
    have word (d hi lo : Nat) : fld (advance c s) (0x7210 + 16 * d) hi lo = fld s (0x7210 + 16 * d) hi lo := fld_congr (rd_advance ..)
    have uses : ptpUses (advance c s) e = ptpUses s e := by
      unfold ptpUses
      simp only [word]
    rw [← mine]
    cases f.dest with
    | group g => exact groupJoined_advance ..
    | ptp => exact uses
    | _ => rfl
  unfold execEthFrameRx
  simp only [ethOn_advance, on, Nat.not_lt.2 len, untagged, fcs, accepts, decide_false, Bool.not_true, Bool.or_self,
    Bool.false_eq_true, if_false]
  (repeat' split) <;> rfl

theorem execEthFrameRx_malformed {f : EthFrame} (c : Nat) (on : ethOn s e = true)
    (bad : 1518 < f.length ∨ f.vlan = true ∨ f.fcsOk = false) :
    execEthFrameRx c e f s = .next (bump (advance c s) (ethId e 9) 15 0 1) := by
  have dropped : (decide (1518 < f.length) || f.vlan || !f.fcsOk) = true := by
    simpa [or_assoc] using bad
  unfold execEthFrameRx
  simp only [ethOn_advance, on, dropped, Bool.not_true, Bool.false_eq_true, if_false, if_true]

theorem fld_bump_eth {j k hi lo hi' lo' : Nat} (s : State) (h : j ≠ k) :
    fld (bump s (ethId e j) hi lo 1) (ethId e k) hi' lo' = fld s (ethId e k) hi' lo' :=
  fld_congr (rd_bump_other _ _ _ _ fun same => h (ethId_inj.1 same).symm)

/-- A frame that meets a full buffer is counted as an error and sets the sticky bit (14 R410). -/
theorem ethOverflow_counts (e : Fin 2) (s : State) :
    fld (ethOverflow e s) (ethId e 9) 15 0 = satAdd 16 (fld s (ethId e 9) 15 0) 1 ∧ flag (ethOverflow e s) (ethId e 6) 1 = true ∧
    fld (ethOverflow e s) (ethId e 7) 31 0 = fld s (ethId e 7) 31 0 := by
  have other : ethId e 9 ≠ ethId e 6 := by simp [ethId_inj]
  unfold ethOverflow
  extract_lets s1 blk
  have count : fld s1 (ethId e 9) 15 0 = satAdd 16 (fld s (ethId e 9) 15 0) 1 :=
    (fld_congr (rd_sticky_other _ _ other)).trans (fld_bump_same _ _ _ _ _ (by decide))
  have mark : flag s1 (ethId e 6) 1 = true := flag_sticky_same _ _ _ (by decide)
  have good : fld s1 (ethId e 7) 31 0 = fld s (ethId e 7) 31 0 :=
    (fld_congr (rd_sticky_other _ _ (by simp [ethId_inj]))).trans (fld_bump_eth _ (by decide))
  clear_value s1
  split
  · exact ⟨count, mark, good⟩
  · rw [fld_congr (rd_raise_eth _ _ e 7), fld_congr (rd_raise_eth _ _ _ _), flag_congr (rd_raise_eth _ _ _ _)]
    exact ⟨count, mark, good⟩

/-! ### Answers -/

theorem execArpRequest_answers {a ip : Word} {mac : BitVec 48} (c : Nat) (on : ethOn s e = true) (ha : a ≠ 0)
    (mine : rd s (ethId e 1) = a) :
    execArpRequest c e a ip mac s = .next (ethQueue e (advance c s).clk.cycle (.arp ip mac) (advance c s)) := by
  have set : (a != 0) = true := by simpa using ha
  simp only [execArpRequest, ethOn_advance, on, rd_advance, mine, set, beq_self_eq_true, Bool.and_self, if_true]

theorem execIcmpEcho_answers {p : Peer} {a : Word} {d : List Byte} (c : Nat) (on : ethOn s p.eth = true)
    (enabled : flag s (ethId p.eth 0) 1 = true) (ha : a ≠ 0) (mine : rd s (ethId p.eth 1) = a) (len : d.length ≤ 1472) :
    execIcmpEcho c p a d s = .next (ethQueue p.eth (advance c s).clk.cycle (.echo p d) (advance c s)) := by
  have word : flag (advance c s) (ethId p.eth 0) 1 = true := (flag_congr (rd_advance ..)).trans enabled
  have set : (a != 0) = true := by simpa using ha
  simp only [execIcmpEcho, ethOn_advance, on, rd_advance, mine, set, word, len, decide_true, beq_self_eq_true, Bool.and_self, if_true]

theorem execIgmpQuery_answers {g : Option (Fin 16)} (c : Nat) (on : ethOn s e = true) (address : rd s (ethId e 1) ≠ 0) :
    execIgmpQuery c e g s = .next (((joinedGroups s e).filter fun x => g.isNone || g.map (·.val) == some x).foldl
      (fun s x => ethQueue e s.clk.cycle (.igmpReport x) s) (advance c s)) := by
  unfold execIgmpQuery
  simp only [ethOn_advance, on, rd_advance, beq_eq_false_iff_ne.2 address, joinedGroups_advance, Bool.not_true, Bool.or_self,
    Bool.false_eq_true, if_false]
  cases g with
  | none => rfl
  | some x => simp

theorem ethQueue_reports_regs (l : List Nat) (s : State) :
    (l.foldl (fun s g => ethQueue e s.clk.cycle (.igmpReport g) s) s).regs = s.regs :=
  List.foldlRecOn (motive := fun t : State => t.regs = s.regs) _ _ rfl fun _ h _ _ => (ethQueue_regs ..).trans h

/-! ### The frame that leaves -/

/-- The head of the queue leaves and is counted. -/
def ethSent (e : Fin 2) (l : List (Nat × EthTx)) (s : State) : State :=
  bump { s with eth := vupd s.eth e fun p => { p with txq := l, sending := !l.isEmpty } } (ethId e 8) 31 0 1

theorem ethSent_fields (l : List (Nat × EthTx)) (s : State) : (vget (ethSent e l s).eth e).txq = l ∧
    fld (ethSent e l s) (ethId e 8) 31 0 = satAdd 32 (fld s (ethId e 8) 31 0) 1 ∧ (ethSent e l s).time = s.time := by
  refine ⟨?_, fld_bump_same _ _ _ _ _ (by decide), rfl⟩
  rw [ethSent, bump_eth, vget_vupd_same]

/-- A Delay_Req that leaves gives its request the time t3 (14 R436). -/
def delayReqSent (d : Fin 2) (seq : Nat) (t3 : Int) (s : State) : State :=
  { s with time := { s.time with slot := vupd s.time.slot d fun t =>
    match t.req with
    | some q => if q.seq = seq then { t with req := some { q with t3 := some t3 } } else t
    | none => t } }

theorem delayReqSent_request {d : Fin 2} {y : DelayReq} {seq : Nat} (t3 : Int) (hy : (vget s.time.slot d).req = some y)
    (hs : y.seq = seq) : (vget (delayReqSent d seq t3 s).time.slot d).req = some { y with t3 := some t3 } := by
  simp [delayReqSent, hy, hs]

theorem execEthFrameTx_sends {x : Nat × EthTx} {l : List (Nat × EthTx)} (c : Nat) (hq : (vget s.eth e).txq = x :: l) :
    execEthFrameTx c e s = .next (match x.2 with
      | .delayReq d seq => delayReqSent d seq (slotNsAt (advance c s) d (advance c s).clk.cycle + (fld s (ethId e 4) 31 16 : Int))
          (ethSent e l (advance c s))
      | _ => ethSent e l (advance c s)) := by
  have offset : fld (advance c s) (ethId e 4) 31 16 = fld s (ethId e 4) 31 16 := fld_congr (rd_advance ..)
  have queue : (vget (advance c s).eth e).txq = x :: l := by rw [advance_eth, hq]
  unfold execEthFrameTx
  simp only [queue]
  obtain ⟨at_, y⟩ := x
  cases y with
  | delayReq d seq =>
    simp only [offset]
    rfl
  | _ => rfl

end

/-- Settles O41: the registers of a port, its queue, and the request of a Delay_Req. -/
theorem ethernetPorts : Obligations.EthernetPorts := by
  refine ⟨fun c e u s change => ?_, fun c e f s on len untagged fcs mine room sums whole => ?_, fun c e f s on bad => ?_,
    fun c e f s on len untagged fcs mine full => ?_, fun c e a ip mac s on ha mine => ?_,
    fun c p a d s on enabled ha mine len => ?_, fun c e g s on address => ?_, fun c e x l s hq => ?_⟩
  · have run := execEthLinkChange_changes c change
    cases u with
    | true =>
      refine ⟨_, run, ?_, nofun, fun core => ?_⟩
      · rw [if_pos rfl, flag_congr ((announceAddress_only ..).rd (noId_apply _)),
          flag_congr (rd_raise_eth _ _ _ _)]
        exact flag_wrFlag_same _ _ _ _ (by decide)
      · rw [if_pos rfl, flag_congr ((announceAddress_only ..).rd (noId_apply _))]
        exact flag_raise_own ((advance_core c s).trans core)
    | false =>
      have other : ethId e 5 ≠ ethId e 6 := by simp [ethId_inj]
      refine ⟨_, run, ?_, fun _ => ?_, fun core => ?_⟩
      · rw [if_neg (by decide), flag_congr (rd_raise_eth _ _ _ _),
          flag_congr (rd_sticky_other _ _ other)]
        exact flag_wrFlag_same _ _ _ _ (by decide)
      · rw [if_neg (by decide), flag_congr (rd_raise_eth _ _ _ _)]
        exact flag_sticky_same _ _ _ (by decide)
      · rw [if_neg (by decide)]
        exact flag_raise_own (by rw [sticky_clk]; exact (advance_core c s).trans core)
  · have run : execEthFrameRx c e f s = .next (bump (advance c s) (ethId e 7) 31 0 1) := by
      rw [execEthFrameRx_accepted c on len untagged fcs mine, if_neg (Nat.not_le.2 room), sums, whole]
      rfl
    refine ⟨_, run, ?_, ?_⟩
    · rw [fld_bump_same _ _ _ _ _ (by decide), fld_congr (rd_advance ..)]
    · rw [fld_bump_eth _ (by decide), fld_congr (rd_advance ..)]
  · refine ⟨_, execEthFrameRx_malformed c on bad, ?_, ?_, advance_ev ..⟩
    · rw [fld_bump_same _ _ _ _ _ (by decide), fld_congr (rd_advance ..)]
    · rw [fld_bump_eth _ (by decide), fld_congr (rd_advance ..)]
  · have run : execEthFrameRx c e f s = .next (ethOverflow e (advance c s)) := by
      rw [execEthFrameRx_accepted c on len untagged fcs mine, if_pos full]
    obtain ⟨count, mark, good⟩ := ethOverflow_counts e (advance c s)
    exact ⟨_, run, by rw [count, fld_congr (rd_advance ..)], mark, by rw [good, fld_congr (rd_advance ..)]⟩
  · refine ⟨_, execArpRequest_answers c on ha mine, ?_, by simp⟩
    rw [ethQueue_append _ (up_of_ethOn ((ethOn_advance ..).trans on)) (fun _ _ h => EthTx.noConfusion h), advance_eth]
  · refine ⟨_, execIcmpEcho_answers c on enabled ha mine len, ?_, by simp⟩
    rw [ethQueue_append _ (up_of_ethOn ((ethOn_advance ..).trans on)) (fun _ _ h => EthTx.noConfusion h), advance_eth]
  · refine ⟨_, execIgmpQuery_answers c on address, ?_, (ethQueue_reports_regs ..).trans (advance_regs ..)⟩
    rw [ethQueue_reports _ (up_of_ethOn ((ethOn_advance ..).trans on)), advance_eth]
  · obtain ⟨queue, count, time⟩ := ethSent_fields (e := e) l (advance c s)
    rw [fld_congr (rd_advance ..)] at count
    obtain ⟨at_, y⟩ := x
    cases y with
    | delayReq d seq =>
      refine ⟨_, execEthFrameTx_sends c hq, queue, count, fun d' q' same z hz hseq => ?_⟩
      obtain ⟨rfl, rfl⟩ : d = d' ∧ seq = q' := by simpa using same
      rw [advance_time] at time
      exact delayReqSent_request _ (by rw [time, hz]) hseq
    | _ => exact ⟨_, execEthFrameTx_sends c hq, queue, count, fun _ _ => nofun⟩

end Sys2Proof.Machine
end

section
/-! SUPPORT. The CAN controllers: error counts, clashes, the start and the end of a bus (13 R381-R392), O40. -/
set_option Elab.async false

namespace Sys2Proof.Machine

section
variable {s t : State} {b : Nat}

/-! ### Registers and controllers -/

theorem canId_inj {b j k : Nat} : canId b j = canId b k ↔ j = k := by simp [canId]

theorem canId_not_anyEvent (b k : Nat) : anyEventId (canId b k) = false := by
  simp only [anyEventId, canId, List.contains_eq_mem, List.mem_cons, List.not_mem_nil, or_false, decide_eq_false_iff_not]
  omega

theorem rd_raise_can {n : Nat} (a : Nat) (s : State) (b k : Nat) (hn : n < 128 := by decide) :
    rd (raise n a s) (canId b k) = rd s (canId b k) :=
  (onlyChanges.raise (P := [.line, .ev]) (I := anyEventId) .refl hn).rd (canId_not_anyEvent b k)

theorem canAt_congr (h : t.can = s.can) (b : Nat) : canAt t b = canAt s b := by rw [canAt, h, ← canAt]

theorem canAt_eq_vget (s : State) (bus : Fin 4) : canAt s bus.val = vget s.can bus := vgetD_of_lt _ _ bus.isLt

theorem canSends_congr {bus : Fin 4} (can : t.can = s.can) (regs : t.regs = s.regs) (snap : t.snap = s.snap)
    (core : t.clk.core = s.clk.core) : canSends t bus = canSends s bus := by
  simp only [canSends, canHears, canAt, sflag, can, snap, core, blockDown_congr regs]

theorem listenOnly_congr (can : t.can = s.can) (snap : t.snap = s.snap) (mode : t.power.mode = s.power.mode) :
    listenOnly t b = listenOnly s b := by simp only [listenOnly, canAt, sflag, can, snap, mode]

/-- The end of an operation on a controller's memory leaves what the rows read. -/
theorem operationDone_eq (y : Fin 8) (b : Nat) (s : State) : ∃ x, operationDone y b s = { s with yards := x } := by
  unfold operationDone
  dsimp only
  split
  · exact ⟨s.yards, rfl⟩
  · exact ⟨_, rfl⟩

/-! ### Error counts -/

/-- The controller v has the counts and the table of u. -/
def countsKept (u v : CanCtl) : Prop :=
  v.tec = u.tec ∧ v.rec_ = u.rec_ ∧ v.lastErr = u.lastErr ∧ v.noAck = u.noAck ∧ v.alone = u.alone ∧ v.tdcv = u.tdcv ∧
    v.remote = u.remote ∧ v.table = u.table

theorem countsKept.trans {u v w : CanCtl} (h : countsKept u v) (k : countsKept v w) : countsKept u w := by
  obtain ⟨h1, h2, h3, h4, h5, h6, h7, h8⟩ := h
  obtain ⟨k1, k2, k3, k4, k5, k6, k7, k8⟩ := k
  exact ⟨k1.trans h1, k2.trans h2, k3.trans h3, k4.trans h4, k5.trans h5, k6.trans h6, k7.trans h7, k8.trans h8⟩

theorem countsKept_refl (u : CanCtl) : countsKept u u := ⟨rfl, rfl, rfl, rfl, rfl, rfl, rfl, rfl⟩

theorem countsKept_takeOffered (u : CanCtl) : countsKept u (takeOffered u) := ⟨rfl, rfl, rfl, rfl, rfl, rfl, rfl, rfl⟩

/-- A change of the error state enters bus-off or raises an event. -/
theorem errChange_cases (was : CanCtl) (s : State) : (errChange b was s).can = s.can ∨
    (errChange b was s).can = (updCan b (fun u => { u with busOff := true, integ := true }) s).can := by
  unfold errChange
  extract_lets u
  split
  · exact .inl rfl
  split
  · exact .inr (by simp)
  split
  · exact .inl (by simp)
  · exact .inl (by simp)

theorem errChange_kept (was : CanCtl) (s : State) (hb : b < 4) : countsKept (canAt s b) (canAt (errChange b was s) b) ∧
    (canAt (errChange b was s) b).queue = (canAt s b).queue := by
  rcases errChange_cases (b := b) was s with h | h <;> rw [canAt_congr h]
  · exact ⟨countsKept_refl _, rfl⟩
  · rw [canAt_updCan _ _ hb]
    exact ⟨⟨rfl, rfl, rfl, rfl, rfl, rfl, rfl, rfl⟩, rfl⟩

theorem attemptFailed_kept (e : TxEntry) (s : State) (hb : b < 4) : countsKept (canAt s b) (canAt (attemptFailed b e s) b) := by
  have taken : countsKept (canAt s b) (canAt (updCan b takeOffered s) b) := by
    rw [canAt_updCan _ _ hb]
    exact countsKept_takeOffered _
  unfold attemptFailed
  split
  · rw [canAt_congr (show (countDrop b 1 (updCan b takeOffered s)).can = (updCan b takeOffered s).can from bump_can ..)]
    exact taken
  split
  · exact taken
  · exact countsKept_refl _

theorem sendError_kept (e : TxEntry) (code : Nat) (s : State) (hb : b < 4) :
    countsKept { canAt s b with tec := (canAt s b).tec + 8, lastErr := code } (canAt (sendError b e code s) b) := by
  have counted : canAt (updCan b (fun u => { u with tec := u.tec + 8, lastErr := code }) (bump s (canId b 0x22) 15 0 1)) b =
      { canAt s b with tec := (canAt s b).tec + 8, lastErr := code } := canAt_updCan _ _ hb
  rw [sendError, ← counted]
  exact (attemptFailed_kept e _ hb).trans (errChange_kept _ _ hb).1

/-! ### Counters and sticky bits -/

theorem rd_errChange (was : CanCtl) (s : State) {k : Nat} (h9 : k ≠ 9) (h25 : k ≠ 0x25) :
    rd (errChange b was s) (canId b k) = rd s (canId b k) :=
  (errChange_only b was s).rd (by simp [canId_not_anyEvent, canId_inj, h9, h25])

theorem rd_attemptFailed (e : TxEntry) (s : State) {k : Nat} (h : k ≠ 0x24) :
    rd (attemptFailed b e s) (canId b k) = rd s (canId b k) :=
  (attemptFailed_only b e s).rd (by simp [canId_inj, h])

theorem flag_errChange (was : CanCtl) (s : State) {i : Nat} (hi : i < 32) (h : flag s (canId b 9) i = true) :
    flag (errChange b was s) (canId b 9) i = true := by
  unfold errChange
  extract_lets u
  split
  · exact h
  split
  · rw [flag_congr (rd_raise_can ..), flag_congr (rd_bump_other _ _ _ _ (by simp [canId_inj]))]
    exact flag_sticky_of_flag _ _ _ hi ((flag_congr (rd_updCan ..)).trans h)
  split
  · rw [flag_congr (rd_raise_can ..)]
    exact flag_sticky_of_flag _ _ _ hi h
  · unfold raiseIf
    split
    · rw [flag_congr (rd_raise_can ..), h]
    · exact h

theorem sendError_count (e : TxEntry) (code : Nat) (s : State) :
    fld (sendError b e code s) (canId b 0x22) 15 0 = satAdd 16 (fld s (canId b 0x22) 15 0) 1 := by
  rw [sendError, fld_congr (rd_errChange _ _ (by decide) (by decide)), fld_congr (rd_attemptFailed _ _ (by decide)),
    fld_congr (rd_updCan ..)]
  exact fld_bump_same _ _ _ _ _ (by decide)

/-! ### A transmission ends -/

/-- A frame that is acknowledged: the count, the controller without it, and the lease of a heartbeat (13 R389). -/
def txAcknowledged (e : TxEntry) (b : Nat) (s : State) : State :=
  let s1 := updCan b (fun u => { takeOffered u with tec := u.tec - 1, noAck := 0, alone := false })
    (bump s (canId b 0x20) 31 0 1)
  match e.kind, e.lease with
  | .heartbeat, some l => updTwin (fun t =>
      if t.holds then { t with lcNext := t.lcNext ++ [(beatAdd s.clk.beat 1, l)] } else t) s1
  | _, _ => s1

theorem txAcknowledged_fields (e : TxEntry) (s : State) (hb : b < 4) :
    canAt (txAcknowledged e b s) b = { takeOffered (canAt s b) with tec := (canAt s b).tec - 1, noAck := 0, alone := false } ∧
    fld (txAcknowledged e b s) (canId b 0x20) 31 0 = satAdd 32 (fld s (canId b 0x20) 31 0) 1 := by
  have can : (txAcknowledged e b s).can = (updCan b (fun u => { takeOffered u with tec := u.tec - 1, noAck := 0, alone := false })
      (bump s (canId b 0x20) 31 0 1)).can := by
    unfold txAcknowledged
    dsimp only
    split <;> rfl
  have regs : (txAcknowledged e b s).regs = (bump s (canId b 0x20) 31 0 1).regs := by
    unfold txAcknowledged
    dsimp only
    split <;> rfl
  rw [canAt_congr can, fld_congr (rd_congr regs _)]
  exact ⟨canAt_updCan _ _ hb, fld_bump_same _ _ _ _ _ (by decide)⟩

/-- The controller while it sends e: its ESI bit, and the measured delay where compensation is on (13 R381). -/
def txMarked (e : TxEntry) (tdc : Bool) (d b : Nat) (s : State) : State :=
  updCan b (fun u => sendEsi e { u with tdcv := if tdc then d else u.tdcv }) s

theorem txMarked_fields (e : TxEntry) (tdc : Bool) (d : Nat) (s : State) (hb : b < 4) :
    countsKept { canAt s b with tdcv := if tdc then d else (canAt s b).tdcv } (canAt (txMarked e tdc d b s) b) ∧
    (takeOffered (canAt (txMarked e tdc d b s) b)).queue = (takeOffered (canAt s b)).queue := by
  rw [txMarked, canAt_updCan _ _ hb]
  exact ⟨⟨rfl, rfl, rfl, rfl, rfl, rfl, rfl, rfl⟩, rfl⟩

/-- The row for a controller that sends e: the error at the ESI bit, or the acknowledged frame. -/
theorem execCanTxComplete_sends {bus : Fin 4} {e : TxEntry} (c d : Nat) (sends : canSends s bus = true)
    (offers : offered (canAt s bus.val) = some e) : ∃ y, execCanTxComplete c bus d s =
    let tdc := e.fd && sflag s (canId bus.val 0) 4
    let sent := txMarked e tdc d bus.val { advance c s with yards := y }
    .next (if tdc && decide (255 < d + sfld s (canId bus.val 3) 6 0) then
        sendError bus.val e (if passive (canAt s bus.val) then 4 else 5) sent
      else errChange bus.val (canAt s bus.val)
        (raiseIf (canAt s bus.val).alone 114 (bus.val + 0x8000) (txAcknowledged e bus.val sent))) := by
  obtain ⟨y, hy⟩ := operationDone_eq 7 bus.val (advance c s)
  have can : ({ advance c s with yards := y } : State).can = s.can := advance_can ..
  have snap : ({ advance c s with yards := y } : State).snap = s.snap := advance_snap ..
  have sends' : canSends { advance c s with yards := y } bus = true :=
    (canSends_congr can (advance_regs ..) snap (advance_core ..)).trans sends
  refine ⟨y, ?_⟩
  unfold execCanTxComplete
  simp only [hy, canAt_congr can, offers, sends', sflag, sfld, snap, Bool.not_true, Bool.false_eq_true, if_false]
  split
  next esi => exact congrArg Host.Outcome.next (if_pos esi).symm
  next esi => exact congrArg Host.Outcome.next (if_neg esi).symm

/-! ### An acknowledgment error -/

/-- The count, the controller and the sticky bit of a frame that nobody acknowledged (13 R390). -/
def ackMissed (e : TxEntry) (b : Nat) (s : State) : State :=
  let u := canAt s b
  let n := min 16 (u.noAck + 1)
  let s1 := updCan b (fun x => { sendEsi e x with
    tec := if passive u then u.tec else u.tec + 8, noAck := n, lastErr := 3, alone := u.alone || n == 16 })
    (bump s (canId b 0x22) 15 0 1)
  if n = 16 ∧ !u.alone then sticky s1 (canId b 9) 2 else s1

theorem ackMissed_fields (e : TxEntry) (s : State) (hb : b < 4) (active : passive (canAt s b) = false) :
    (canAt (ackMissed e b s) b).tec = (canAt s b).tec + 8 ∧ (canAt (ackMissed e b s) b).lastErr = 3 ∧
    (canAt (ackMissed e b s) b).noAck = min 16 ((canAt s b).noAck + 1) ∧
    fld (ackMissed e b s) (canId b 0x22) 15 0 = satAdd 16 (fld s (canId b 0x22) 15 0) 1 := by
  unfold ackMissed
  extract_lets u n s1
  have can : (if n = 16 ∧ !u.alone then sticky s1 (canId b 9) 2 else s1).can = s1.can := by
    split
    · exact sticky_can ..
    · rfl
  have count : fld (if n = 16 ∧ !u.alone then sticky s1 (canId b 9) 2 else s1) (canId b 0x22) 15 0 = fld s1 (canId b 0x22) 15 0 := by
    split
    · exact fld_congr (rd_sticky_other _ _ (by simp [canId_inj]))
    · rfl
  rw [canAt_congr can, count, canAt_updCan _ _ hb, if_neg (by simp [u, active])]
  exact ⟨rfl, rfl, rfl, (fld_congr (rd_updCan ..)).trans (fld_bump_same _ _ _ _ _ (by decide))⟩

theorem execCanAckError_sends {bus : Fin 4} {e : TxEntry} (c : Nat) (sends : canSends s bus = true)
    (offers : offered (canAt s bus.val) = some e) : ∃ was late, execCanAckError c bus s = .next (errChange bus.val was
      (attemptFailed bus.val e (raiseIf late 114 bus.val (ackMissed e bus.val (advance c s))))) := by
  have sends' : canSends (advance c s) bus = true :=
    (canSends_congr (advance_can ..) (advance_regs ..) (advance_snap ..) (advance_core ..)).trans sends
  have offers' : offered (canAt (advance c s) bus.val) = some e := by rwa [canAt_congr (advance_can ..)]
  unfold execCanAckError
  simp only [offers', sends', Bool.not_true, Bool.false_eq_true, if_false]
  exact ⟨_, _, rfl⟩

/-! ### A clash -/

/-- The controller, the counts and the sticky bit of a clash before its identifier enters the table (13 R387). -/
def clashed (e : TxEntry) (b : Nat) (s : State) : State :=
  updCan b (fun x => { sendEsi e x with tec := (canAt s b).tec + 8, lastErr := 4 })
    (bump (bump (sticky s (canId b 9) 3) (canId b 0x22) 15 0 1) (canId b 0x23) 15 0 1)

theorem clashed_fields (e : TxEntry) (s : State) (hb : b < 4) :
    (canAt (clashed e b s) b).tec = (canAt s b).tec + 8 ∧ (canAt (clashed e b s) b).lastErr = 4 ∧
    (canAt (clashed e b s) b).table = (canAt s b).table ∧
    fld (clashed e b s) (canId b 0x23) 15 0 = satAdd 16 (fld s (canId b 0x23) 15 0) 1 ∧
    flag (clashed e b s) (canId b 9) 3 = true := by
  have at_ : canAt (clashed e b s) b = { sendEsi e (canAt s b) with tec := (canAt s b).tec + 8, lastErr := 4 } :=
    (canAt_updCan _ _ hb).trans (by rw [canAt_congr (show _ = s.can by simp)])
  have before (k hi lo : Nat) (h22 : k ≠ 0x22) (h9 : k ≠ 9) :
      fld (bump (sticky s (canId b 9) 3) (canId b 0x22) 15 0 1) (canId b k) hi lo = fld s (canId b k) hi lo := by
    rw [fld_congr (rd_bump_other _ _ _ _ (by simpa [canId_inj] using h22)),
      fld_congr (rd_sticky_other _ _ (by simpa [canId_inj] using h9))]
  refine ⟨by rw [at_], by rw [at_], by rw [at_]; rfl, ?_, ?_⟩
  · rw [clashed, fld_congr (rd_updCan ..), fld_bump_same _ _ _ _ _ (by decide), before _ _ _ (by decide) (by decide)]
  · rw [clashed, flag_congr (rd_updCan ..), flag_congr (rd_bump_other _ _ _ _ (by simp [canId_inj])),
      flag_congr (rd_bump_other _ _ _ _ (by simp [canId_inj]))]
    exact flag_sticky_same _ _ _ (by decide)

theorem findIdx?_lt {α : Type} {p : α → Bool} {l : List α} {i : Nat} (h : l.findIdx? p = some i) : i < l.length := by
  obtain ⟨hi, -⟩ := List.findIdx?_eq_some_iff_getElem.1 h
  exact hi

/-- The place to take instead of a: place i where its entry may go and is older than that of a (13 R387). -/
def olderPlace (age : Option ClashEntry → Option Nat) (t : List (Option ClashEntry)) (a : Option Nat) (i : Nat) : Option Nat :=
  match age (t.getD i none) with
  | none => a
  | some x => match a with
    | none => some i
    | some j => match age (t.getD j none) with
      | some y => if y < x then some i else some j
      | none => some i

theorem olderPlace_cases (age : Option ClashEntry → Option Nat) (t : List (Option ClashEntry)) (a : Option Nat) (i : Nat) :
    olderPlace age t a i = a ∨ olderPlace age t a i = some i := by
  unfold olderPlace
  split
  · exact .inl rfl
  split
  · exact .inr rfl
  split
  · split
    · exact .inr rfl
    · exact .inl rfl
  · exact .inr rfl

/-- The place that an identifier gets lies in the table. -/
theorem clashPlace_lt {now id i : Nat} {ext : Bool} {t : List (Option ClashEntry)} (h : clashPlace now t id ext = some i) :
    i < t.length := by
  unfold clashPlace at h
  extract_lets own age at h
  split at h
  next j hj => exact Option.some.inj h ▸ findIdx?_lt hj
  split at h
  next j hj => exact Option.some.inj h ▸ findIdx?_lt hj
  have inside := List.foldlRecOn (motive := fun a : Option Nat => ∀ i, a = some i → i < t.length) (List.range t.length)
    (olderPlace age t) (b := none) nofun fun a ih j hj i hi => by
      rcases olderPlace_cases age t a j with same | taken
      · exact ih i (same.symm.trans hi)
      · exact Option.some.inj (taken.symm.trans hi) ▸ List.mem_range.1 hj
  exact inside i h

/-- An identifier enters the table, disabled at its third clash within 100 beats; otherwise no more is disabled than before. -/
theorem enterClash_fields (e : TxEntry) (s : State) (hb : b < 4) :
    (∃ x, canAt (enterClash b e s).1 b = { canAt s b with table := x }) ∧ (enterClash b e s).1.regs = s.regs ∧
    ((enterClash b e s).2.2 = true → idDisabled (canAt (enterClash b e s).1 b) e.id e.ext = true) ∧
    ((enterClash b e s).2.2 = false → idDisabled (canAt (enterClash b e s).1 b) e.id e.ext = idDisabled (canAt s b) e.id e.ext) := by
  unfold enterClash
  extract_lets u k
  split
  next => exact ⟨⟨u.table, rfl⟩, rfl, nofun, fun _ => rfl⟩
  next i hi =>
    extract_lets old near off x
    have place : i < 8 := by simpa using clashPlace_lt hi
    have at_ : canAt (updCan b (fun u => { u with table := vupdN u.table i fun _ => some x }) s) b =
        { u with table := vupdN u.table i fun _ => some x } := canAt_updCan _ _ hb
    have table : (vupdN u.table i fun _ => some x).toList = u.table.toList.set i (some x) := by
      rw [vupdN, dif_pos place, vupd, vset, Vector.toList_set]
    refine ⟨⟨_, at_⟩, rfl, fun disabled => ?_, fun enabled => ?_⟩
    · rw [at_, idDisabled, table]
      exact List.any_eq_true.2 ⟨some x, List.mem_set (by simpa using place) _, by simpa [x] using disabled⟩
    · obtain ⟨-, was⟩ : decide (2 ≤ near) = false ∧ idDisabled u e.id e.ext = false := Bool.or_eq_false_iff.1 enabled
      rw [was, at_, idDisabled, table]
      refine List.any_eq_false.2 fun y hy => ?_
      rcases List.mem_or_eq_of_mem_set hy with old | rfl
      · exact List.any_eq_false.1 was y old
      · have kept : off = false := enabled
        simp [x, kept]

/-- The verdict on a clash depends on the table and the beat. -/
theorem enterClash_congr (e : TxEntry) (table : (canAt t b).table = (canAt s b).table) (beat : t.clk.beat = s.clk.beat) :
    (enterClash b e t).2 = (enterClash b e s).2 := by
  have disabled : idDisabled (canAt t b) e.id e.ext = idDisabled (canAt s b) e.id e.ext := by rw [idDisabled, table, ← idDisabled]
  unfold enterClash
  simp only [table, beat, disabled]
  split <;> rfl

/-- The frames of an identifier that the table has disabled leave the controller (13 R387). -/
def clashRemoved (gone : Nat) (e : TxEntry) (b : Nat) (s : State) : State :=
  countDrop b gone (sticky (updCan b (fun u => { takeOffered u with
    queue := u.queue.filter fun x => !(x.id == e.id && x.ext == e.ext) }) s) (canId b 9) 4)

theorem clashRemoved_fields (gone : Nat) (e : TxEntry) (s : State) (hb : b < 4) :
    (canAt (clashRemoved gone e b s) b).table = (canAt s b).table ∧
    (∀ x ∈ (canAt (clashRemoved gone e b s) b).queue, x.id ≠ e.id ∨ x.ext ≠ e.ext) ∧
    flag (clashRemoved gone e b s) (canId b 9) 4 = true := by
  have at_ : canAt (clashRemoved gone e b s) b = { takeOffered (canAt s b) with
      queue := (canAt s b).queue.filter fun x => !(x.id == e.id && x.ext == e.ext) } := by
    rw [← canAt_updCan (fun u => { takeOffered u with queue := u.queue.filter fun x => !(x.id == e.id && x.ext == e.ext) }) s hb]
    exact canAt_congr (by simp [clashRemoved, countDrop]) b
  refine ⟨by rw [at_]; rfl, fun x hx => ?_, ?_⟩
  · rw [at_] at hx
    have kept := (List.mem_filter.1 hx).2
    simp only [Bool.not_eq_true', Bool.and_eq_false_iff, beq_eq_false_iff_ne] at kept
    exact kept
  · rw [clashRemoved, countDrop, flag_congr (rd_bump_other _ _ _ _ (by simp [canId_inj]))]
    exact flag_sticky_same _ _ _ (by decide)

theorem execCanClash_sends {bus : Fin 4} {e : TxEntry} (c : Nat) (sends : canSends s bus = true)
    (offers : offered (canAt s bus.val) = some e) : ∃ was arg gone, execCanClash c bus s =
    let r := enterClash bus.val e (clashed e bus.val (advance c s))
    .next (errChange bus.val was (raise 115 arg
      (if (enterClash bus.val e (advance c s)).2.2 then clashRemoved gone e bus.val r.1 else attemptFailed bus.val e r.1))) := by
  have sends' : canSends (advance c s) bus = true :=
    (canSends_congr (advance_can ..) (advance_regs ..) (advance_snap ..) (advance_core ..)).trans sends
  have offers' : offered (canAt (advance c s) bus.val) = some e := by rwa [canAt_congr (advance_can ..)]
  have verdict : (enterClash bus.val e (clashed e bus.val (advance c s))).2 = (enterClash bus.val e (advance c s)).2 :=
    enterClash_congr e (clashed_fields e _ bus.isLt).2.2.1 (by simp [clashed, updCan])
  rw [← verdict]
  unfold execCanClash
  simp only [offers', sends', Bool.not_true, Bool.false_eq_true, if_false]
  exact ⟨_, _, _, rfl⟩

/-! ### A bus error, and the start and the end of a bus -/

/-- An error that the controller receives: the counts and the code (13 R391). -/
theorem execCanBusError_received {bus : Fin 4} {x : CanError} (c : Nat) (hears : canHears s bus = true)
    (active : listenOnly s bus.val = false) (received : x.sent = false) : execCanBusError c bus x s =
    .next (errChange bus.val (canAt s bus.val)
      (updCan bus.val (fun u => { u with rec_ := min 255 (u.rec_ + if x.dominant then 8 else 1) })
      (updCan bus.val (fun u => { u with lastErr := x.code.val }) (bump (advance c s) (canId bus.val 0x22) 15 0 1)))) := by
  have active' : listenOnly (advance c s) bus.val = false :=
    (listenOnly_congr (advance_can ..) (advance_snap ..) (mode_advance ..)).trans active
  unfold execCanBusError
  simp only [canHears_advance, hears, active', received, canAt_congr (advance_can c s), Bool.not_true, Bool.false_eq_true, if_false]

theorem execCanBusOffRecovery_due {bus : Fin 4} (c : Nat) (off : (vget s.can bus).busOff = true)
    (up : blockDown s 7 bus.val = false) : execCanBusOffRecovery c bus s = .next (raise 113 (bus.val + 0x8000)
      (updCan bus.val (fun u => { u with busOff := false, integ := false, tec := 0, rec_ := 0 }) (advance c s))) := by
  simp [execCanBusOffRecovery, off, up]

theorem execCanIntegrationDone_due {bus : Fin 4} (c : Nat) (joins : (vget s.can bus).integ = true)
    (off : (vget s.can bus).busOff = false) :
    execCanIntegrationDone c bus s = .next (updCan bus.val (fun u => { u with integ := false }) (advance c s)) := by
  simp [execCanIntegrationDone, joins, off]

theorem vget_updCan (bus : Fin 4) (f : CanCtl → CanCtl) (s : State) : vget (updCan bus.val f s).can bus = f (vget s.can bus) := by
  rw [← canAt_eq_vget, canAt_updCan _ _ bus.isLt, canAt_eq_vget]

theorem execCanEnableEffect_starts {bus : Fin 4} (w : Bool) (hb : s.clk.beats = true) (enabled : sflag s (canId bus.val 0) 0 = true)
    (off : (vget s.can bus).on = false) (up : blockDown s 7 bus.val = false) : execCanEnableEffect bus w s =
    .next (updCan bus.val (fun u => { u with
      on := true, boot := false, leaving := false, integ := true, busOff := false, alone := false, noAck := 0, tec := 0, rec_ := 0
      wire := none, queue := [] }) (advance s.clk.beatBase s)) := by
  have off' : (canAt (advance s.clk.beatBase s) bus.val).on = false := by rw [canAt_eq_vget, advance_can, off]
  have enabled' : sflag (advance s.clk.beatBase s) (canId bus.val 0) 0 = true := by rw [sflag, advance_snap, ← sflag, enabled]
  unfold execCanEnableEffect
  simp only [hb, enabled', off', blockDown_advance, up, Bool.not_true, Bool.false_eq_true, if_false, if_true, Bool.false_and,
    Bool.or_self]

theorem execCanEnableEffect_ends {bus : Fin 4} (hb : s.clk.beats = true) (disabled : sflag s (canId bus.val 0) 0 = false)
    (on : (vget s.can bus).on = true) : execCanEnableEffect bus false s =
    .next (updCan bus.val (fun u => { u with on := false, leaving := false, boot := false, integ := false, wire := none, queue := [] })
      (advance s.clk.beatBase s)) := by
  have on' : (canAt (advance s.clk.beatBase s) bus.val).on = true := by rw [canAt_eq_vget, advance_can, on]
  have disabled' : sflag (advance s.clk.beatBase s) (canId bus.val 0) 0 = false := by rw [sflag, advance_snap, ← sflag, disabled]
  unfold execCanEnableEffect
  simp only [hb, disabled', on', Bool.not_true, Bool.false_eq_true, if_false, Option.isSome_none]

/-! ### A received frame -/

/-- A valid frame is counted and lowers the receive error count, to a free value where that was above 127 (13 R392). -/
def frameCounted (b : Nat) (s : State) : State :=
  let s1 := bump s (canId b 0x21) 31 0 1
  if 127 < (canAt s b).rec_ then
    updCan b (fun u => { u with rec_ := 119 + Config.freeNat 13 s.free % 9 }) { s1 with free := s.free + 1 }
  else updCan b (fun u => { u with rec_ := u.rec_ - 1 }) s1

/-- A remote frame is counted and sets its sticky bit. -/
def remoteNoted (b : Nat) (s : State) : State :=
  sticky (updCan b (fun u => { u with remote := satAdd 16 u.remote 1 }) s) (canId b 9) 7

theorem execCanFrameReceived_hears {bus : Fin 4} (c : Nat) (f : CanFrame) (hears : canHears s bus = true)
    (active : listenOnly s bus.val = false) : ∃ y, execCanFrameReceived c bus f s =
    let t := errChange bus.val (canAt s bus.val) (frameCounted bus.val { advance c s with yards := y })
    .next (if f.remote then remoteNoted bus.val t else t) := by
  obtain ⟨y, hy⟩ := operationDone_eq 7 bus.val (advance c s)
  have can : ({ advance c s with yards := y } : State).can = s.can := advance_can ..
  have hears' : canHears { advance c s with yards := y } bus = true := (canHears_advance c bus s).trans hears
  have active' : listenOnly { advance c s with yards := y } bus.val = false :=
    (listenOnly_congr can (advance_snap ..) (mode_advance ..)).trans active
  refine ⟨y, ?_⟩
  unfold execCanFrameReceived
  simp only [hy, canAt_congr can, hears', active', frameCounted, Bool.not_true, Bool.false_eq_true, if_false]
  rfl

theorem frameCounted_fields (s : State) (hb : b < 4) :
    (canAt (frameCounted b s) b).remote = (canAt s b).remote ∧
    fld (frameCounted b s) (canId b 0x21) 31 0 = satAdd 32 (fld s (canId b 0x21) 31 0) 1 ∧
    ((canAt s b).rec_ ≤ 127 → (canAt (frameCounted b s) b).rec_ = (canAt s b).rec_ - 1 ∧ (frameCounted b s).free = s.free) ∧
    (127 < (canAt s b).rec_ → 119 ≤ (canAt (frameCounted b s) b).rec_ ∧ (canAt (frameCounted b s) b).rec_ ≤ 127 ∧
      (frameCounted b s).free = s.free + 1) := by
  unfold frameCounted
  extract_lets s1
  have can1 : canAt s1 b = canAt s b := canAt_congr (bump_can ..) b
  have free1 : s1.free = s.free := bump_free ..
  have count1 : fld s1 (canId b 0x21) 31 0 = satAdd 32 (fld s (canId b 0x21) 31 0) 1 := fld_bump_same _ _ _ _ _ (by decide)
  clear_value s1
  split
  next high =>
    have at_ : canAt (updCan b (fun u => { u with rec_ := 119 + Config.freeNat 13 s.free % 9 }) { s1 with free := s.free + 1 }) b =
        { canAt s1 b with rec_ := 119 + Config.freeNat 13 s.free % 9 } := canAt_updCan _ _ hb
    have small : Config.freeNat 13 s.free % 9 < 9 := Nat.mod_lt _ (by decide)
    rw [at_, can1]
    refine ⟨rfl, (fld_congr (rd_congr rfl _)).trans count1, fun low => absurd high (Nat.not_lt.2 low), fun _ => ⟨?_, ?_, rfl⟩⟩
    · dsimp only
      omega
    · dsimp only
      omega
  next low =>
    rw [canAt_updCan _ _ hb, can1]
    exact ⟨rfl, (fld_congr (rd_updCan ..)).trans count1, fun _ => ⟨rfl, free1⟩, fun high => absurd high low⟩

theorem remoteNoted_fields (s : State) (hb : b < 4) :
    canAt (remoteNoted b s) b = { canAt s b with remote := satAdd 16 (canAt s b).remote 1 } ∧
    flag (remoteNoted b s) (canId b 9) 7 = true ∧ (remoteNoted b s).free = s.free ∧
    rd (remoteNoted b s) (canId b 0x21) = rd s (canId b 0x21) := by
  refine ⟨?_, flag_sticky_same _ _ _ (by decide), by rw [remoteNoted, sticky_free]; rfl, ?_⟩
  · rw [← canAt_updCan (fun u => { u with remote := satAdd 16 u.remote 1 }) s hb]
    exact canAt_congr (sticky_can ..) b
  · rw [remoteNoted, rd_sticky_other _ _ (by simp [canId_inj]), rd_updCan]

/-- What the row of a received frame leaves, from the counted frame. -/
theorem execCanFrameReceived_leaves {bus : Fin 4} (c : Nat) (f : CanFrame) (hears : canHears s bus = true)
    (active : listenOnly s bus.val = false) : ∃ t, execCanFrameReceived c bus f s = .next t ∧
    (canAt t bus.val).remote = (if f.remote then satAdd 16 (canAt s bus.val).remote 1 else (canAt s bus.val).remote) ∧
    fld t (canId bus.val 0x21) 31 0 = satAdd 32 (fld s (canId bus.val 0x21) 31 0) 1 ∧
    (f.remote = true → flag t (canId bus.val 9) 7 = true) ∧
    ((canAt s bus.val).rec_ ≤ 127 → (canAt t bus.val).rec_ = (canAt s bus.val).rec_ - 1 ∧ t.free = s.free) ∧
    (127 < (canAt s bus.val).rec_ → 119 ≤ (canAt t bus.val).rec_ ∧ (canAt t bus.val).rec_ ≤ 127 ∧ t.free = s.free + 1) := by
  obtain ⟨y, run⟩ := execCanFrameReceived_hears c f hears active
  generalize hd : ({ advance c s with yards := y } : State) = d at run
  have can : canAt d bus.val = canAt s bus.val := canAt_congr (hd ▸ advance_can ..) _
  have regs : d.regs = s.regs := hd ▸ advance_regs ..
  have free : d.free = s.free := hd ▸ advance_free ..
  obtain ⟨remote, count, low, high⟩ := frameCounted_fields d bus.isLt
  rw [can] at remote low high
  rw [fld_congr (rd_congr regs _)] at count
  rw [free] at low high
  obtain ⟨⟨-, rec, -, -, -, -, remote', -⟩, -⟩ := errChange_kept (canAt s bus.val) (frameCounted bus.val d) bus.isLt
  have free' : (errChange bus.val (canAt s bus.val) (frameCounted bus.val d)).free = (frameCounted bus.val d).free :=
    (errChange_only ..).part .free
  have count' : rd (errChange bus.val (canAt s bus.val) (frameCounted bus.val d)) (canId bus.val 0x21) =
      rd (frameCounted bus.val d) (canId bus.val 0x21) := rd_errChange _ _ (by decide) (by decide)
  rw [← fld_congr count'] at count
  rw [← rec, ← free'] at low high
  rw [← remote'] at remote
  dsimp only at run
  generalize errChange bus.val (canAt s bus.val) (frameCounted bus.val d) = t at run remote count low high
  cases hr : f.remote
  case false =>
    rw [hr, if_neg (by decide)] at run
    exact ⟨t, run, remote, count, nofun, low, high⟩
  case true =>
    obtain ⟨noted, mark, free2, count2⟩ := remoteNoted_fields t bus.isLt
    rw [hr, if_pos rfl] at run
    refine ⟨_, run, ?_, (fld_congr count2).trans count, fun _ => mark, ?_, ?_⟩
    · rw [noted, if_pos rfl, ← remote]
    · rw [noted, free2]
      exact low
    · rw [noted, free2]
      exact high

end

section
variable {s : State}

/-- What an acknowledged frame leaves of the controller and its count. -/
theorem txAcknowledged_leaves {b : Nat} (hb : b < 4) (e : TxEntry) (tdc late : Bool) (d : Nat) (was : CanCtl) :
    ∃ t, t = errChange b was (raiseIf late 114 (b + 0x8000) (txAcknowledged e b (txMarked e tdc d b s))) ∧
    (canAt t b).tec = (canAt s b).tec - 1 ∧ (canAt t b).noAck = 0 ∧ (canAt t b).alone = false ∧
    (canAt t b).queue = (takeOffered (canAt s b)).queue ∧
    fld t (canId b 0x20) 31 0 = satAdd 32 (fld s (canId b 0x20) 31 0) 1 := by
  obtain ⟨⟨tec, -, -, -, -, -, -, -⟩, queue⟩ := txMarked_fields e tdc d s hb
  obtain ⟨left, count⟩ := txAcknowledged_fields e (txMarked e tdc d b s) hb
  have raised : canAt (raiseIf late 114 (b + 0x8000) (txAcknowledged e b (txMarked e tdc d b s))) b =
      canAt (txAcknowledged e b (txMarked e tdc d b s)) b := canAt_congr (by simp) b
  obtain ⟨⟨tec', -, -, noAck', alone', -, -, -⟩, queue'⟩ :=
    errChange_kept was (raiseIf late 114 (b + 0x8000) (txAcknowledged e b (txMarked e tdc d b s))) hb
  rw [raised, left] at tec' noAck' alone' queue'
  refine ⟨_, rfl, ?_, noAck', alone', queue'.trans queue, ?_⟩
  · rw [tec']
    exact congrArg (· - 1) tec
  · have same : rd (raiseIf late 114 (b + 0x8000) (txAcknowledged e b (txMarked e tdc d b s))) (canId b 0x20) =
        rd (txAcknowledged e b (txMarked e tdc d b s)) (canId b 0x20) :=
      (onlyChanges.raiseIf (P := [.line, .ev]) (I := anyEventId) .refl).rd (canId_not_anyEvent b 0x20)
    rw [fld_congr (rd_errChange _ _ (by decide) (by decide)), fld_congr same, count, txMarked, fld_congr (rd_updCan ..)]

/-- A clash that does not disable the identifier (13 R387). -/
theorem clashFailed_leaves {b : Nat} (hb : b < 4) (e : TxEntry) (was : CanCtl) (arg : Nat) (s : State)
    (enabled : (enterClash b e s).2.2 = false) :
    let t := errChange b was (raise 115 arg (attemptFailed b e (enterClash b e (clashed e b s)).1))
    (canAt t b).tec = (canAt s b).tec + 8 ∧ (canAt t b).lastErr = 4 ∧
    idDisabled (canAt t b) e.id e.ext = idDisabled (canAt s b) e.id e.ext ∧
    fld t (canId b 0x23) 15 0 = satAdd 16 (fld s (canId b 0x23) 15 0) 1 ∧ flag t (canId b 9) 3 = true := by
  intro t
  obtain ⟨tec, last, table, count, mark⟩ := clashed_fields e s hb
  have verdict : (enterClash b e (clashed e b s)).2.2 = false := by
    rw [enterClash_congr e table (by simp [clashed, updCan]), enabled]
  obtain ⟨⟨x, entered⟩, regs, -, others⟩ := enterClash_fields e (clashed e b s) hb
  have before : idDisabled (canAt (clashed e b s) b) e.id e.ext = idDisabled (canAt s b) e.id e.ext := by
    rw [idDisabled, table, ← idDisabled]
  have idle := (others verdict).trans before
  have raised : canAt (raise 115 arg (attemptFailed b e (enterClash b e (clashed e b s)).1)) b =
      canAt (attemptFailed b e (enterClash b e (clashed e b s)).1) b := canAt_congr (raise_can ..) b
  have kept := attemptFailed_kept e (enterClash b e (clashed e b s)).1 hb
  rw [← raised] at kept
  obtain ⟨tec', -, last', -, -, -, -, table'⟩ := kept.trans (errChange_kept was _ hb).1
  refine ⟨?_, ?_, ?_, ?_, flag_errChange _ _ (by decide) ?_⟩
  · rw [tec', entered, tec]
  · rw [last', entered, last]
  · rw [idDisabled, table', ← idDisabled, idle]
  · rw [fld_congr (rd_errChange _ _ (by decide) (by decide)), fld_congr (rd_raise_can ..),
      fld_congr (rd_attemptFailed _ _ (by decide)), fld_congr (rd_congr regs _), count]
  · rw [flag_congr (rd_raise_can ..), flag_congr (rd_attemptFailed _ _ (by decide)), flag_congr (rd_congr regs _), mark]

/-- The third clash within 100 beats disables the identifier, and its frames leave (13 R387). -/
theorem clashRemoved_leaves {b : Nat} (hb : b < 4) (e : TxEntry) (was : CanCtl) (arg gone : Nat) (s : State)
    (disabled : (enterClash b e s).2.2 = true) :
    let t := errChange b was (raise 115 arg (clashRemoved gone e b (enterClash b e (clashed e b s)).1))
    idDisabled (canAt t b) e.id e.ext = true ∧ (∀ x ∈ (canAt t b).queue, x.id ≠ e.id ∨ x.ext ≠ e.ext) ∧
    flag t (canId b 9) 4 = true := by
  intro t
  obtain ⟨-, -, table, -, -⟩ := clashed_fields e s hb
  have verdict : (enterClash b e (clashed e b s)).2.2 = true := by
    rw [enterClash_congr e table (by simp [clashed, updCan]), disabled]
  obtain ⟨-, -, off, -⟩ := enterClash_fields e (clashed e b s) hb
  obtain ⟨table1, frames, mark⟩ := clashRemoved_fields gone e (enterClash b e (clashed e b s)).1 hb
  have raised : canAt (raise 115 arg (clashRemoved gone e b (enterClash b e (clashed e b s)).1)) b =
      canAt (clashRemoved gone e b (enterClash b e (clashed e b s)).1) b := canAt_congr (raise_can ..) b
  obtain ⟨⟨-, -, -, -, -, -, -, table2⟩, queue2⟩ :=
    errChange_kept was (raise 115 arg (clashRemoved gone e b (enterClash b e (clashed e b s)).1)) hb
  rw [raised] at table2 queue2
  refine ⟨?_, ?_, flag_errChange _ _ (by decide) ?_⟩
  · rw [idDisabled, table2, table1, ← idDisabled, off verdict]
  · rw [queue2]
    exact frames
  · rw [flag_congr (rd_raise_can ..), mark]

end

/-- Settles O40: the counts of a controller after each of its rows; a change of the error state leaves them. -/
theorem canControllers : Obligations.CanControllers := by
  refine ⟨fun c bus d e s sends offers short => ?_, fun c bus d e s sends offers fd tdc long fits => ?_,
    fun c bus e s sends offers active fits => ?_, fun c bus e s sends offers enabled fits => ?_,
    fun c bus e s sends offers disabled => ?_, fun c bus x s hears active received => ?_, fun c bus s off up => ?_,
    fun c bus s joins off => ?_, fun bus w s hb enabled off up => ?_, fun bus w s hb disabled on wire => ?_,
    fun c bus f s hears active low => ?_, fun c bus f s hears active high => ?_⟩
  · obtain ⟨y, run⟩ := execCanTxComplete_sends c d sends offers
    have esi : (e.fd && sflag s (canId bus.val 0) 4 && decide (255 < d + sfld s (canId bus.val 3) 6 0)) = false := by
      rcases short with h | h | h
      · simp [h]
      · simp [h]
      · simp [Nat.not_lt.2 h]
    dsimp only at run
    rw [esi, if_neg (by decide)] at run
    generalize hd : ({ advance c s with yards := y } : State) = d0 at run
    have can : canAt d0 bus.val = canAt s bus.val := canAt_congr (hd ▸ advance_can ..) _
    have regs : d0.regs = s.regs := hd ▸ advance_regs ..
    obtain ⟨t, ht, left⟩ := txAcknowledged_leaves (s := d0) bus.isLt e (e.fd && sflag s (canId bus.val 0) 4)
      (canAt s bus.val).alone d (canAt s bus.val)
    rw [← ht] at run
    rw [can, fld_congr (rd_congr regs _)] at left
    exact ⟨t, run, left⟩
  · obtain ⟨y, run⟩ := execCanTxComplete_sends c d sends offers
    have esi : (e.fd && sflag s (canId bus.val 0) 4 && decide (255 < d + sfld s (canId bus.val 3) 6 0)) = true := by
      simp [fd, tdc, long]
    dsimp only at run
    rw [esi, if_pos rfl, fd, tdc] at run
    generalize hd : ({ advance c s with yards := y } : State) = d0 at run
    have can : canAt d0 bus.val = canAt s bus.val := canAt_congr (hd ▸ advance_can ..) _
    have regs : d0.regs = s.regs := hd ▸ advance_regs ..
    obtain ⟨⟨tec, -, -, -, -, tdcv, -, -⟩, -⟩ := txMarked_fields e true d d0 bus.isLt
    obtain ⟨tec', -, last, -, -, tdcv', -, -⟩ :=
      sendError_kept e (if passive (canAt s bus.val) then 4 else 5) (txMarked e true d bus.val d0) bus.isLt
    refine ⟨_, run, ?_, last, tdcv'.trans tdcv, ?_⟩
    · exact (tec'.trans (congrArg (· + 8) tec)).trans (congrArg (fun u => u.tec + 8) can)
    · rw [Bool.true_and, sendError_count, txMarked, fld_congr (rd_updCan ..), fld_congr (rd_congr regs _)]
  · obtain ⟨was, late, run⟩ := execCanAckError_sends c sends offers
    have can : canAt (advance c s) bus.val = canAt s bus.val := canAt_congr (advance_can ..) _
    obtain ⟨tec, last, noAck, count⟩ := ackMissed_fields e (advance c s) bus.isLt (by rw [can, active])
    rw [can] at tec noAck
    have raised : canAt (raiseIf late 114 bus.val (ackMissed e bus.val (advance c s))) bus.val =
        canAt (ackMissed e bus.val (advance c s)) bus.val := canAt_congr (by simp) _
    have same : rd (raiseIf late 114 bus.val (ackMissed e bus.val (advance c s))) (canId bus.val 0x22) =
        rd (ackMissed e bus.val (advance c s)) (canId bus.val 0x22) :=
      (onlyChanges.raiseIf (P := [.line, .ev]) (I := anyEventId) .refl).rd (canId_not_anyEvent bus.val 0x22)
    obtain ⟨tec', -, last', noAck', -, -, -, -⟩ :=
      (attemptFailed_kept e (raiseIf late 114 bus.val (ackMissed e bus.val (advance c s))) bus.isLt).trans
        (errChange_kept was _ bus.isLt).1
    rw [raised] at tec' last' noAck'
    refine ⟨_, run, tec'.trans tec, last'.trans last, noAck'.trans noAck, ?_⟩
    rw [fld_congr (rd_errChange _ _ (by decide) (by decide)), fld_congr (rd_attemptFailed _ _ (by decide)), fld_congr same, count,
      fld_congr (rd_advance ..)]
  · obtain ⟨was, arg, gone, run⟩ := execCanClash_sends c sends offers
    dsimp only at run
    rw [enabled, if_neg (by decide)] at run
    obtain ⟨tec, last, idle, count, mark⟩ := clashFailed_leaves bus.isLt e was arg (advance c s) enabled
    rw [canAt_congr (advance_can c s)] at tec idle
    rw [fld_congr (rd_advance ..)] at count
    exact ⟨_, run, tec, last, idle, count, mark⟩
  · obtain ⟨was, arg, gone, run⟩ := execCanClash_sends c sends offers
    dsimp only at run
    rw [disabled, if_pos rfl] at run
    exact ⟨_, run, clashRemoved_leaves bus.isLt e was arg gone (advance c s) disabled⟩
  · refine ⟨_, execCanBusError_received c hears active received, ?_⟩
    generalize hd : updCan bus.val (fun u => { u with rec_ := min 255 (u.rec_ + if x.dominant then 8 else 1) })
      (updCan bus.val (fun u => { u with lastErr := x.code.val }) (bump (advance c s) (canId bus.val 0x22) 15 0 1)) = d
    have at_ : canAt d bus.val = { canAt s bus.val with
        lastErr := x.code.val, rec_ := min 255 ((canAt s bus.val).rec_ + if x.dominant then 8 else 1) } := by
      rw [← hd, canAt_updCan _ _ bus.isLt, canAt_updCan _ _ bus.isLt, canAt_congr (show _ = s.can by simp)]
    have count : fld d (canId bus.val 0x22) 15 0 = satAdd 16 (fld s (canId bus.val 0x22) 15 0) 1 := by
      rw [← hd, fld_congr (rd_updCan ..), fld_congr (rd_updCan ..), fld_bump_same _ _ _ _ _ (by decide), fld_congr (rd_advance ..)]
    obtain ⟨⟨tec, rec, last, -, -, -, -, -⟩, -⟩ := errChange_kept (canAt s bus.val) d bus.isLt
    rw [at_] at tec rec last
    exact ⟨rec, last, tec, by rw [fld_congr (rd_errChange _ _ (by decide) (by decide)), count]⟩
  · refine ⟨_, execCanBusOffRecovery_due c off up, ?_⟩
    rw [raise_can, vget_updCan, advance_can]
  · refine ⟨_, execCanIntegrationDone_due c joins off, ?_, advance_regs ..⟩
    rw [vget_updCan, advance_can]
  · refine ⟨_, execCanEnableEffect_starts w hb enabled off up, ?_, ?_, ?_, ?_, ?_, ?_, ?_⟩
    all_goals rw [vget_updCan]
    rw [advance_can]
  · subst wire
    refine ⟨_, execCanEnableEffect_ends hb disabled on, ?_, ?_⟩
    all_goals rw [vget_updCan]
  · obtain ⟨t, run, remote, count, mark, below, -⟩ := execCanFrameReceived_leaves c f hears active
    exact ⟨t, run, (below low).1, count, remote, mark, (below low).2⟩
  · obtain ⟨t, run, -, -, -, -, above⟩ := execCanFrameReceived_leaves c f hears active
    exact ⟨t, run, (above high).1, (above high).2.1, (above high).2.2⟩

end Sys2Proof.Machine
end

section
/-! SUPPORT. What the requests of the buses, of Ethernet and of time store (13 R401-R403, 14 R430-R433), O26. -/
set_option Elab.async false

namespace Sys2Proof.Machine

section
variable {r : Req} {p : List Byte} {s : State}

/-! ### Controllers -/

/-- The words that CAN_CONFIG stores (13 R401). -/
theorem canConfigRegs_words (expert : Bool) (g : Regs) (p : List Byte) :
    bitsOf (regGet (canConfigRegs expert g p) (canId (byteAt p 0) 0)) 3 0 = byteAt p 1 % 16 ∧
    regGet (canConfigRegs expert g p) (canId (byteAt p 0) 4) = wordAt p 4 ∧
    regGet (canConfigRegs expert g p) (canId (byteAt p 0) 5) = wordAt p 8 ∧
    regGet (canConfigRegs expert g p) (canId (byteAt p 0) 1) =
      (if expert then wordAt p 16 else nominalPreset (byteAt p 12)) ∧
    (expert = true → regGet (canConfigRegs expert g p) (canId (byteAt p 0) 2) = wordAt p 20 ∧
      regGet (canConfigRegs expert g p) (canId (byteAt p 0) 3) = wordAt p 24) := by
  cases expert
  · simp [canConfigRegs, regGet_regSet, canId_inj, putBit, bitsOf_putBits_same, bitsOf_putBits_other]
  · simp [canConfigRegs, regGet_regSet, canId_inj, bitsOf_putBits_same, bitsOf_putBits_other]

/-- A served CAN_CONFIG leaves the registers as it stores them. -/
theorem rd_serve_canConfig {expert : Bool} {code : Nat} (h : served (canConfig expert code) r s = true) (id : Nat) :
    rd (serve (canConfig expert code) r s) id = regGet (canConfigRegs expert s.regs r.payload) id := by
  have left := serve_ok_only (d := []) h rfl
  rw [left.rd (noId_apply id), commitState_regs]
  rfl

theorem serve_opCanConfigBasic (h : served opCanConfigBasic r s = true) :
    fld (serve opCanConfigBasic r s) (canId (byteAt r.payload 0) 0) 3 0 = byteAt r.payload 1 % 16 ∧
    rd (serve opCanConfigBasic r s) (canId (byteAt r.payload 0) 4) = wordAt r.payload 4 ∧
    rd (serve opCanConfigBasic r s) (canId (byteAt r.payload 0) 5) = wordAt r.payload 8 ∧
    rd (serve opCanConfigBasic r s) (canId (byteAt r.payload 0) 1) = nominalPreset (byteAt r.payload 12) := by
  obtain ⟨ctrl, command, heartbeat, nominal, -⟩ := canConfigRegs_words false s.regs r.payload
  unfold opCanConfigBasic at h ⊢
  simp only [fld, rd_serve_canConfig h, ctrl, command, heartbeat, nominal, Bool.false_eq_true, if_false, and_self]

theorem serve_opCanConfigExpert (h : served opCanConfigExpert r s = true) :
    rd (serve opCanConfigExpert r s) (canId (byteAt r.payload 0) 4) = wordAt r.payload 4 ∧
    rd (serve opCanConfigExpert r s) (canId (byteAt r.payload 0) 5) = wordAt r.payload 8 ∧
    rd (serve opCanConfigExpert r s) (canId (byteAt r.payload 0) 1) = wordAt r.payload 16 ∧
    rd (serve opCanConfigExpert r s) (canId (byteAt r.payload 0) 2) = wordAt r.payload 20 ∧
    rd (serve opCanConfigExpert r s) (canId (byteAt r.payload 0) 3) = wordAt r.payload 24 := by
  obtain ⟨-, command, heartbeat, nominal, more⟩ := canConfigRegs_words true s.regs r.payload
  obtain ⟨data, offset⟩ := more rfl
  unfold opCanConfigExpert at h ⊢
  simp only [rd_serve_canConfig h, command, heartbeat, nominal, data, offset, if_true, and_self]

/-- An identifier that is cleared from the table is not disabled. -/
theorem idDisabled_clearClash {b : Nat} (hb : b < 4) (id : Nat) (ext : Bool) (s : State) :
    idDisabled (canAt (clearClash b id ext s) b) id ext = false := by
  rw [clearClash, canAt_updCan _ _ hb, idDisabled, Vector.toList_map, List.any_map]
  refine List.any_eq_false.2 fun e _ => ?_
  cases e with
  | none => simp
  | some x =>
    by_cases own : x.id = id ∧ x.ext = ext ∧ x.off = true
    · simp [own]
    · have kept : ¬ ((x.id == id && x.ext == ext && x.off) = true) := by simpa [and_assoc] using own
      simpa only [Function.comp, if_neg own] using kept

theorem serve_opCanIdEnable (h : served opCanIdEnable r s = true) (this : byteAt r.payload 1 = 1) :
    idDisabled (canAt (serve opCanIdEnable r s) (byteAt r.payload 0)) (bitsOf (wordAt r.payload 4) 28 0)
      (bitOf (wordAt r.payload 4) 31) = false ∧ (serve opCanIdEnable r s).idReq = s.idReq := by
  have bus : byteAt r.payload 0 < 4 := Nat.lt_succ_of_le (of_decide_eq_true (firstBad_none (served_check h)).1)
  have commit : opCanIdEnable.commit r.head.port r.payload (commitState opCanIdEnable r s) =
      okData (clearClash (byteAt r.payload 0) (bitsOf (wordAt r.payload 4) 28 0) (bitOf (wordAt r.payload 4) 31)
        (commitState opCanIdEnable r s)) [] := by
    simp [opCanIdEnable, okResult, okData, this]
  have left := serve_ok_only h commit
  refine ⟨?_, (left.part .idReq).trans (commitState_idReq ..)⟩
  rw [canAt_congr (left.part .can), idDisabled_clearClash bus]

theorem serve_opCanSend (h : served opCanSend r s = true) :
    (canAt (serve opCanSend r s) (byteAt r.payload 0)).queue = (canAt s (byteAt r.payload 0)).queue ++
      [⟨.send, leAt r.payload 4 4, byteAt r.payload 1 / 4 % 2 == 1, byteAt r.payload 1 % 2 == 1, byteAt r.payload 1 / 2 % 2 == 1,
        byteAt r.payload 1 / 8 % 2 == 1, (r.payload.drop 8).take (dlcBytes (byteAt r.payload 2)), none⟩] := by
  have passed := (firstBad_none (served_check h)).1
  simp only [Bool.and_eq_true, decide_eq_true_eq] at passed
  obtain ⟨⟨⟨⟨bus, -⟩, -⟩, -⟩, -⟩ := passed
  have left := serve_ok_only (d := []) h rfl
  rw [canAt_congr (left.part .can), canAt_updCan _ _ (Nat.lt_succ_of_le bus), canAt_congr (commitState_can ..)]

/-! ### Ethernet ports -/

/-- The words that ETH_CONFIG stores (14 R430). -/
theorem ethConfigRegs_words (g : Regs) (p : List Byte) :
    bitsOf (regGet (ethConfigRegs g p) (0x7100 + 16 * byteAt p 0)) 2 0 = byteAt p 1 % 8 ∧
    regGet (ethConfigRegs g p) (0x7100 + 16 * byteAt p 0 + 1) = wordAt p 4 ∧
    regGet (ethConfigRegs g p) (0x7100 + 16 * byteAt p 0 + 2) = wordAt p 8 ∧
    bitsOf (regGet (ethConfigRegs g p) (0x7100 + 16 * byteAt p 0 + 3)) 15 0 = leAt p 14 2 := by
  have period : bitsOf (BitVec.ofNat 32 (leAt p 14 2)) 15 0 = leAt p 14 2 := by
    have small : leAt p 14 2 < 65536 := leAt_two_lt p 14
    simp only [bitsOf, BitVec.toNat_ofNat, Nat.shiftRight_zero]
    omega
  simp [ethConfigRegs, regGet_regSet, bitsOf_putBits_same, bitsOf_putBits_other, period]

/-- The commit of ETH_CONFIG: the words, and what the port then announces. -/
theorem opEthConfig_commit (port : Fin 2) (p : List Byte) (s : State) : opEthConfig.commit port p s =
    okData (ethEffect s (if byteAt p 0 = 0 then 0 else 1) { s with regs := ethConfigRegs s.regs p }) [] := by
  simp only [opEthConfig, okResult, okData]
  split <;> rfl

theorem serve_opEthConfig (h : served opEthConfig r s = true) :
    fld (serve opEthConfig r s) (0x7100 + 16 * byteAt r.payload 0) 2 0 = byteAt r.payload 1 ∧
    rd (serve opEthConfig r s) (0x7101 + 16 * byteAt r.payload 0) = wordAt r.payload 4 ∧
    rd (serve opEthConfig r s) (0x7102 + 16 * byteAt r.payload 0) = wordAt r.payload 8 ∧
    fld (serve opEthConfig r s) (0x7103 + 16 * byteAt r.payload 0) 15 0 = leAt r.payload 14 2 := by
  have control : byteAt r.payload 1 < 8 := of_decide_eq_true (firstBad_none (firstBad_none (served_check h)).2).1
  obtain ⟨ctrl, address, mask, period⟩ := ethConfigRegs_words s.regs r.payload
  have left := serve_ok_only h (opEthConfig_commit ..)
  have stored (id : Nat) : rd (serve opEthConfig r s) id = regGet (ethConfigRegs s.regs r.payload) id := by
    rw [left.rd (noId_apply id), (ethEffect_only ..).rd (noId_apply id), commitState_regs]
    rfl
  have place (k : Nat) : 0x7100 + k + 16 * byteAt r.payload 0 = 0x7100 + 16 * byteAt r.payload 0 + k := by omega
  refine ⟨?_, ?_, ?_, ?_⟩
  · rw [fld, stored, ctrl, Nat.mod_eq_of_lt control]
  · rw [stored, place 1, address]
  · rw [stored, place 2, mask]
  · rw [fld, stored, place 3, period]

/-! ### Time slots -/

/-- The words that PTP_CONFIG stores (14 R431). -/
theorem ptpConfigRegs_words (expert : Bool) (g : Regs) (p : List Byte) :
    bitsOf (regGet (ptpConfigRegs expert g p) (0x7210 + 16 * byteAt p 0)) 1 0 = byteAt p 1 % 4 ∧
    bitsOf (regGet (ptpConfigRegs expert g p) (0x7210 + 16 * byteAt p 0)) 15 8 = byteAt p 2 % 256 ∧
    bitsOf (regGet (ptpConfigRegs expert g p) (0x7210 + 16 * byteAt p 0)) 2 2 = byteAt p 3 % 2 ∧
    bitsOf (regGet (ptpConfigRegs expert g p) (0x7210 + 16 * byteAt p 0)) 5 4 = byteAt p 4 % 4 ∧
    (expert = true → bitsOf (regGet (ptpConfigRegs expert g p) (0x7210 + 16 * byteAt p 0)) 31 16 = leAt p 16 2 % 65536 ∧
      regGet (ptpConfigRegs expert g p) (0x7210 + 16 * byteAt p 0 + 1) = wordAt p 20) := by
  cases expert <;> simp [ptpConfigRegs, regGet_regSet, bitsOf_putBits_same, bitsOf_putBits_other]

/-- The commit of PTP_CONFIG: the words, and what they change of the slot. -/
theorem ptpConfig_commit (expert : Bool) (code : Nat) (port : Fin 2) (p : List Byte) (s : State) :
    (ptpConfig expert code).commit port p s =
      okData (slotEffect s (if byteAt p 0 = 0 then 0 else 1) { s with regs := ptpConfigRegs expert s.regs p }) [] := by
  simp only [ptpConfig, okResult, okData]
  split <;> rfl

/-- A served PTP_CONFIG leaves the slot's registers as it stores them. -/
theorem rd_serve_ptpConfig {expert : Bool} {code : Nat} (h : served (ptpConfig expert code) r s = true) {id : Nat}
    (hid : 0x7210 ≤ id) : rd (serve (ptpConfig expert code) r s) id = regGet (ptpConfigRegs expert s.regs r.payload) id := by
  have event : anyEventId id = false := by
    simp only [anyEventId, List.contains_eq_mem, List.mem_cons, List.not_mem_nil, or_false, decide_eq_false_iff_not]
    omega
  have left := serve_ok_only h (ptpConfig_commit ..)
  rw [left.rd (noId_apply id), (slotEffect_only ..).rd event, commitState_regs]
  rfl

/-- The checks of PTP_CONFIG hold its fields to the widths of their register fields. -/
theorem ptpConfig_bounds {expert : Bool} {code : Nat} {port : Fin 2} (h : (ptpConfig expert code).check port p s = none) :
    byteAt p 1 < 4 ∧ byteAt p 2 < 256 ∧ byteAt p 3 < 2 ∧ byteAt p 4 < 4 := by
  have passed := firstBad_eq_none h
  simp only [List.forall_mem_append, List.forall_mem_cons, Bool.and_eq_true, decide_eq_true_eq] at passed
  obtain ⟨⟨-, ⟨source, -⟩, domain, ⟨profile, -⟩, port, -⟩, -⟩ := passed
  omega

theorem serve_ptpConfig {expert : Bool} {code : Nat} (h : served (ptpConfig expert code) r s = true) :
    fld (serve (ptpConfig expert code) r s) (0x7210 + 16 * byteAt r.payload 0) 1 0 = byteAt r.payload 1 ∧
    fld (serve (ptpConfig expert code) r s) (0x7210 + 16 * byteAt r.payload 0) 15 8 = byteAt r.payload 2 ∧
    fld (serve (ptpConfig expert code) r s) (0x7210 + 16 * byteAt r.payload 0) 2 2 = byteAt r.payload 3 ∧
    fld (serve (ptpConfig expert code) r s) (0x7210 + 16 * byteAt r.payload 0) 5 4 = byteAt r.payload 4 ∧
    (expert = true →
      fld (serve (ptpConfig expert code) r s) (0x7210 + 16 * byteAt r.payload 0) 31 16 = leAt r.payload 16 2 ∧
      rd (serve (ptpConfig expert code) r s) (0x7211 + 16 * byteAt r.payload 0) = wordAt r.payload 20) := by
  obtain ⟨source, domain, profile, port⟩ := ptpConfig_bounds (served_check h)
  obtain ⟨hsource, hdomain, hprofile, hport, more⟩ := ptpConfigRegs_words expert s.regs r.payload
  refine ⟨?_, ?_, ?_, ?_, fun he => ⟨?_, ?_⟩⟩
  · rw [fld, rd_serve_ptpConfig h (by omega), hsource, Nat.mod_eq_of_lt source]
  · rw [fld, rd_serve_ptpConfig h (by omega), hdomain, Nat.mod_eq_of_lt domain]
  · rw [fld, rd_serve_ptpConfig h (by omega), hprofile, Nat.mod_eq_of_lt profile]
  · rw [fld, rd_serve_ptpConfig h (by omega), hport, Nat.mod_eq_of_lt port]
  · rw [fld, rd_serve_ptpConfig h (by omega), (more he).1, Nat.mod_eq_of_lt (leAt_two_lt ..)]
  · rw [rd_serve_ptpConfig h (by omega), show 0x7211 + 16 * byteAt r.payload 0 = 0x7210 + 16 * byteAt r.payload 0 + 1 by omega,
      (more he).2]

/-- A served TIME_DOMAIN_SELECT leaves its slot active and its bits in TIME_CTRL (14 R433). -/
theorem serve_opTimeDomainSelect (h : served opTimeDomainSelect r s = true) :
    fld (serve opTimeDomainSelect r s) 0x7200 1 0 = byteAt r.payload 0 + 2 * byteAt r.payload 1 ∧
    (serve opTimeDomainSelect r s).time.active = (if byteAt r.payload 0 = 1 then 1 else 0) := by
  obtain ⟨first, rest⟩ := firstBad_none (served_check h)
  have slot : byteAt r.payload 0 ≤ 1 := of_decide_eq_true (Bool.and_eq_true_iff.1 first).1
  have auto : byteAt r.payload 1 ≤ 1 := of_decide_eq_true (firstBad_none rest).1
  have left := serve_ok_only (d := []) h rfl
  have stored : fld (wrFld (commitState opTimeDomainSelect r s) 0x7200 1 0 (byteAt r.payload 0 + 2 * byteAt r.payload 1)) 0x7200 1 0 =
      byteAt r.payload 0 + 2 * byteAt r.payload 1 :=
    (fld_wrFld_same _ _ _ _ _ (by decide)).trans (Nat.mod_eq_of_lt (by omega))
  refine ⟨?_, ?_⟩
  · rw [fld_congr (left.rd (noId_apply _)), fld_congr ((selectEffect_only _).rd (by decide)), stored]
  · have time : (serve opTimeDomainSelect r s).time = (selectEffect (wrFld (commitState opTimeDomainSelect r s) 0x7200 1 0
        (byteAt r.payload 0 + 2 * byteAt r.payload 1))).time := left.part .time
    rw [time, selectEffect_active, flag, rd_wrFld, if_pos rfl, bitOf_putBits _ _ _ _ _ (by decide)]
    rcases Nat.le_one_iff_eq_zero_or_eq_one.1 slot with h0 | h0
    · simp [h0]
    · simp [h0]

end

/-- Settles O26. A served request leaves the words that its commit stores, and the controller, the port and the slot that they
concern as the rules say. -/
theorem busAndTimeRequests : Obligations.BusAndTimeRequests := by
  refine ⟨fun _ _ h => ⟨_, exec_served rfl h, serve_opCanConfigBasic h⟩,
    fun _ _ h => ⟨_, exec_served rfl h, serve_opCanConfigExpert h⟩,
    fun _ _ h this => ⟨_, exec_served rfl h, serve_opCanIdEnable h this⟩,
    fun _ _ h => ⟨_, exec_served rfl h, serve_opCanSend h⟩,
    fun _ _ h => ⟨_, exec_served rfl h, serve_opEthConfig h⟩, fun _ _ h => ?_, fun _ _ h => ?_,
    fun _ _ h => ⟨_, exec_served rfl h, serve_opTimeDomainSelect h⟩⟩
  · obtain ⟨source, domain, profile, port, -⟩ := serve_ptpConfig h
    exact ⟨_, exec_served rfl h, source, domain, profile, port⟩
  · obtain ⟨source, -, -, -, more⟩ := serve_ptpConfig h
    obtain ⟨ratio, asymmetry⟩ := more rfl
    exact ⟨_, exec_served rfl h, source, ratio, asymmetry⟩

end Sys2Proof.Machine
end

section
/-! SUPPORT. The full event queue, the history's slots and the entries of the queue (17 R501-R508), O58. -/
set_option Elab.async false

namespace Sys2Proof.Machine

section
variable {s : State} {n a : Nat}

/-! ### The history -/

/-- Ordering the slots of one edge moves a slot with its contents, all but its number in the sequence (17 R501). -/
theorem histSift_keeps {e : HistSlot} (f : Nat) {q : Nat} {h : Vector (Option HistSlot) 64}
    (at_ : ∃ k, vgetD h (q % 64) none = some { e with seq := k }) :
    ∃ p k, p < 64 ∧ vgetD (histSift f q h) p none = some { e with seq := k } := by
  induction f generalizing q h with
  | zero =>
    obtain ⟨k, hk⟩ := at_
    exact ⟨q % 64, k, Nat.mod_lt _ (by decide), hk⟩
  | succ f ih =>
    obtain ⟨k, hk⟩ := at_
    have stays : ∃ p k, p < 64 ∧ vgetD h p none = some { e with seq := k } := ⟨q % 64, k, Nat.mod_lt _ (by decide), hk⟩
    rw [histSift, hk]
    cases vgetD h ((q + 63) % 64) none with
    | none => exact stays
    | some y =>
      dsimp only
      split
      · exact ih ⟨y.seq, vgetD_vupdN_same _ _ _ (Nat.mod_lt _ (by decide))⟩
      · exact stays

/-- A slot stays where it is written unless the one before it is of the same edge. -/
theorem histSift_stays {x : HistSlot} (f q : Nat) {h : Vector (Option HistSlot) 64} (at_ : vgetD h (q % 64) none = some x)
    (before : ∀ y, vgetD h ((q + 63) % 64) none = some y → y.edge ≠ x.edge) : histSift f q h = h := by
  cases f with
  | zero => rfl
  | succ f =>
    rw [histSift, at_]
    cases hy : vgetD h ((q + 63) % 64) none with
    | none => rfl
    | some y =>
      have other : (x.edge == y.edge) = false := by simpa using (before y hy).symm
      simp [other]

theorem vgetD_vset_same {i : Nat} (hi : i < 64) (v : Vector (Option HistSlot) 64) (x : Option HistSlot) :
    vgetD (vset v ⟨i, hi⟩ x) i none = x := by
  rw [vgetD_of_lt _ _ hi, vget_vset_same]

theorem vgetD_vset_other {i j : Nat} (hi : i < 64) (hj : j < 64) (v : Vector (Option HistSlot) 64) (x : Option HistSlot)
    (h : j ≠ i) : vgetD (vset v ⟨i, hi⟩ x) j none = vgetD v j none := by
  rw [vgetD_of_lt _ _ hj, vget_vset, if_neg (by simpa using h), vgetD_of_lt _ _ hj]

/-- A slot that is written stands in the history, and in the place behind the newest where that is of another edge. -/
theorem histWrite_slot (h : HistSlot) (on : yardFenced s 0 = false) :
    (∃ p k, p < 64 ∧ vgetD (histWrite h s).ev.hist p none = some { h with seq := k }) ∧
    ((∀ y, vgetD s.ev.hist ((s.ev.nextSeq + 63) % 64) none = some y → y.edge ≠ h.edge) →
      vgetD (histWrite h s).ev.hist (s.ev.nextSeq % 64) none = some { h with seq := s.ev.nextSeq }) := by
  have place : s.ev.nextSeq % 64 < 64 := Nat.mod_lt _ (by decide)
  have written := vgetD_vset_same place s.ev.hist (some { h with seq := s.ev.nextSeq })
  rw [histWrite, if_neg (by simp [on])]
  refine ⟨histSift_keeps 64 ⟨s.ev.nextSeq, written⟩, fun before => ?_⟩
  have stays : histSift 64 s.ev.nextSeq (vset s.ev.hist ⟨s.ev.nextSeq % 64, place⟩ (some { h with seq := s.ev.nextSeq })) =
      vset s.ev.hist ⟨s.ev.nextSeq % 64, place⟩ (some { h with seq := s.ev.nextSeq }) := by
    refine histSift_stays 64 _ written fun y hy => before y ?_
    rw [← hy]
    exact (vgetD_vset_other place (Nat.mod_lt _ (by decide)) _ _ (by omega)).symm
  exact (congrArg (vgetD · (s.ev.nextSeq % 64) none) stays).trans written

/-- Writing a slot changes the history or what is held for it. -/
theorem histPut_lost (h : HistSlot) (s : State) : (histPut h s).ev.lost = s.ev.lost := by
  unfold histPut histWrite
  split
  · rfl
  split
  · rfl
  · rfl

/-! ### An event that meets a full queue -/

/-- The sticky bit of an event, and the note of its edge (17 R503). -/
def eventNoted (n : Nat) (s : State) : State :=
  noteStick n (!flag s (0x1304 + n / 32) (n % 32)) (sticky s (0x1304 + n / 32) (n % 32))

theorem noteStick_sticky (n : Nat) (s : State) :
    noteStick n (!flag s (0x1304 + n / 32) (n % 32)) (sticky s (0x1304 + n / 32) (n % 32)) = eventNoted n s := rfl

theorem rd_eventNoted (n : Nat) (s : State) (id : Nat) : rd (eventNoted n s) id = rd (sticky s (0x1304 + n / 32) (n % 32)) id :=
  rd_noteStick ..

theorem eventNoted_ev (n : Nat) (s : State) : ∃ l, (eventNoted n s).ev = { s.ev with stick := l } :=
  ⟨(eventNoted n s).ev.stick, by simp [eventNoted, noteStick]⟩

theorem eventNoted_clk (n : Nat) (s : State) : (eventNoted n s).clk = s.clk := by simp [eventNoted]

/-- An event leaves the reported time. -/
theorem eventNoted_time32 (hn : n < 128) : time32 (eventNoted n s) = time32 s := by
  have time : (eventNoted n s).time = s.time := by simp [eventNoted]
  have slew : fld (eventNoted n s) 0x7200 31 16 = fld s 0x7200 31 16 :=
    fld_congr ((rd_eventNoted ..).trans (rd_sticky_other _ _ (by omega)))
  simp only [time32, reportedNs, reported, slotTime, sigmaNow, time, eventNoted_clk, slew]

/-- The state with an event counted as lost (17 R505). -/
def eventLost (n : Nat) (s : State) : State :=
  bump { eventNoted n s with ev := { (eventNoted n s).ev with lost := true } } 0x130D 15 0 1

/-- The history slot of an event that is lost, with FLAGS bit 2. -/
def lostSlot (n a : Nat) (s : State) : HistSlot :=
  ⟨some s.clk.cycle, n, b2n (eventMasked n s) + 2 * b2n false + 4 * b2n true, a % 65536, time32 s, s.clk.beat, 0,
    if s.power.rtcValid then s.power.rtc / 32768 % 2 ^ 32 else 0, fld s 0x150B 15 0, moduleState s, true⟩

theorem raise_full (core : s.clk.core = true) (full : s.ev.queue.length = 256) : raise n a s =
    if flag s (0x1308 + n / 32) (n % 32) then histPut (lostSlot n a s) (eventLost n s) else eventLost n s := by
  obtain ⟨l, ev⟩ := eventNoted_ev n s
  have put (m : Bool) : queuePut n a m (eventNoted n s) = (eventLost n s, false) := if_pos (by simp [ev, full])
  unfold raise raiseWith
  simp only [core, noteStick_sticky, put, Bool.not_true, Bool.false_eq_true, if_false, Bool.false_and, Bool.false_or, Bool.not_false]
  rfl

theorem eventLost_ev (n : Nat) (s : State) : ∃ l, (eventLost n s).ev = { s.ev with lost := true, stick := l } := by
  obtain ⟨l, ev⟩ := eventNoted_ev n s
  exact ⟨l, by rw [eventLost, bump_ev, ev]⟩

theorem rd_eventLost (n : Nat) (s : State) {id : Nat} (h : id ≠ 0x130D) :
    rd (eventLost n s) id = rd (sticky s (0x1304 + n / 32) (n % 32)) id :=
  (rd_bump_other _ _ _ _ h).trans (rd_eventNoted n s id)

theorem eventLost_count (hn : n < 128) : fld (eventLost n s) 0x130D 15 0 = satAdd 16 (fld s 0x130D 15 0) 1 := by
  have before : fld (eventNoted n s) 0x130D 15 0 = fld s 0x130D 15 0 :=
    fld_congr ((rd_eventNoted ..).trans (rd_sticky_other _ _ (by omega)))
  rw [← before]
  exact fld_bump_same _ _ _ _ _ (by decide)

theorem eventLost_fenced (hn : n < 128) (y : Nat) : yardFenced (eventLost n s) y = yardFenced s y := by
  have word : rd (eventLost n s) (0x1000 * y + 0xFF2) = rd s (0x1000 * y + 0xFF2) :=
    (rd_eventLost n s (by omega)).trans (rd_sticky_other _ _ (by omega))
  rw [yardFenced, yardState, fld_congr word, ← yardState, ← yardFenced]

/-- A lost event leaves the entries and is counted (17 R505). -/
theorem raise_full_counts (core : s.clk.core = true) (hn : n < 128) (full : s.ev.queue.length = 256) :
    (raise n a s).ev.queue = s.ev.queue ∧ (raise n a s).ev.lost = true ∧
    fld (raise n a s) 0x130D 15 0 = satAdd 16 (fld s 0x130D 15 0) 1 := by
  obtain ⟨l, ev⟩ := eventLost_ev n s
  rw [raise_full core full]
  split
  · refine ⟨?_, ?_, ?_⟩
    · rw [histPut_queue, ev]
    · rw [histPut_lost, ev]
    · rw [fld_congr (rd_histPut ..), eventLost_count hn]
  · exact ⟨by rw [ev], by rw [ev], eventLost_count hn⟩

/-- With every entry of a full queue readable, EVQ_STATE shows the queue as full. -/
theorem shownWord_queueFull (full : s.ev.queue.length = 256) (shown : ∀ e ∈ s.ev.queue, e.edge + 24 < s.clk.cycle) :
    bitOf (shownWord s 0x130C) 16 = true := by
  have all : readable s = s.ev.queue := List.filter_eq_self.2 fun e he => by simpa using shown e he
  have word : readParam s 0x130C = BitVec.ofNat 32 (256 + 65536) := by
    have view : readParam s 0x130C = queueState s := rfl
    rw [view, queueState, all, full]
    rfl
  have masked : ((paramRow 0x130C).any fun row => (row.mask fun _ => true).getLsbD 16) = true := by decide
  obtain ⟨row, hrow, bit⟩ := (Option.any_eq_true ..).1 masked
  rw [shownWord, hrow]
  dsimp only
  rw [word, bitOf, BitVec.getLsbD_and, bit]
  rfl

/-- The history's copy of a lost event carries FLAGS bit 2 (17 R505). -/
theorem lostSlot_flag (n a : Nat) (s : State) : (lostSlot n a s).flags / 4 % 2 = 1 := by
  have bit : b2n (eventMasked n s) ≤ 1 := by cases eventMasked n s <;> decide
  change (b2n (eventMasked n s) + 2 * 0 + 4 * 1) / 4 % 2 = 1
  omega

theorem raise_full_history (core : s.clk.core = true) (hn : n < 128) (full : s.ev.queue.length = 256)
    (kept : flag s (0x1308 + n / 32) (n % 32) = true) (now : s.ev.holding = false) (on : yardFenced s 0 = false) :
    (∃ p k, p < 64 ∧ vgetD (raise n a s).ev.hist p none = some { lostSlot n a s with seq := k }) ∧
    ((∀ y, vgetD s.ev.hist ((s.ev.nextSeq + 63) % 64) none = some y → y.edge ≠ some s.clk.cycle) →
      vgetD (raise n a s).ev.hist (s.ev.nextSeq % 64) none = some { lostSlot n a s with seq := s.ev.nextSeq }) := by
  obtain ⟨l, ev⟩ := eventLost_ev n s
  have slot := histWrite_slot (s := eventLost n s) (lostSlot n a s) ((eventLost_fenced hn 0).trans on)
  rw [ev] at slot
  rw [raise_full core full, if_pos kept, histPut, ev, if_neg (by simp [now])]
  exact slot

theorem raise_full_held (core : s.clk.core = true) (full : s.ev.queue.length = 256)
    (kept : flag s (0x1308 + n / 32) (n % 32) = true) (holding : s.ev.holding = true) :
    (raise n a s).ev.held = s.ev.held ++ [lostSlot n a s] := by
  obtain ⟨l, ev⟩ := eventLost_ev n s
  rw [raise_full core full, if_pos kept, histPut, ev, if_pos holding]

/-! ### An event that is queued -/

/-- The entry of an event: FLAGS bit 1 tells that one was lost before it (17 R505). -/
def queuedEntry (n a : Nat) (s : State) : QEntry :=
  ⟨s.clk.cycle, n, b2n (eventMasked n s) + 2 * b2n s.ev.lost, a % 65536, time32 s, s.clk.beat⟩

theorem raise_queued (core : s.clk.core = true) (hn : n < 128) (room : s.ev.queue.length < 256) :
    (raise n a s).ev.queue = queueInsert (queuedEntry n a s) s.ev.queue ∧ (raise n a s).ev.lost = false := by
  obtain ⟨l, ev⟩ := eventNoted_ev n s
  have put : queuePut n a (eventMasked n s) (eventNoted n s) = ({ eventNoted n s with
      ev := { (eventNoted n s).ev with queue := queueInsert (queuedEntry n a s) s.ev.queue, lost := false } }, true) := by
    rw [queuePut, if_neg (by simpa [ev] using room)]
    simp only [ev, eventNoted_clk, eventNoted_time32 hn, queuedEntry]
  unfold raise raiseWith
  simp only [core, noteStick_sticky, put, Bool.not_true, Bool.false_eq_true, if_false, Bool.false_and, Bool.false_or, Bool.true_and]
  split
  · rw [histPut_queue, histPut_lost]
    split
    · rw [attentionDue_ev]
      exact ⟨rfl, rfl⟩
    · exact ⟨rfl, rfl⟩
  · split
    · rw [attentionDue_ev]
      exact ⟨rfl, rfl⟩
    · exact ⟨rfl, rfl⟩

/-- The bytes of an entry (04 R127). -/
theorem entryBytes_layout (e : QEntry) : (entryBytes e).length = 12 ∧ byteAt (entryBytes e) 0 = e.num % 256 ∧
    byteAt (entryBytes e) 1 = e.flags % 256 ∧ leAt (entryBytes e) 2 2 = e.arg % 65536 ∧
    leAt (entryBytes e) 4 4 = e.time % 2 ^ 32 ∧ leAt (entryBytes e) 8 4 = e.beat % 2 ^ 32 := by
  have last : leAt (leBytes 4 e.beat) 0 4 = e.beat % 2 ^ 32 := by simpa using leAt_leBytes 4 e.beat []
  refine ⟨by simp [entryBytes], by simp [entryBytes], by simp [entryBytes, byteAt_append_right], ?_, ?_, ?_⟩
  · simp [entryBytes, leAt_append_right]
  · simp [entryBytes, leAt_append_right]
  · simpa [entryBytes, leAt_append_right] using last

end

/-- Settles O58: a full queue loses the event, counts it and copies it to the history; with room it is queued; the bytes of an
entry are those of R127, and the request does not read its port. -/
theorem fullQueueKeepsOldest : Obligations.FullQueueKeepsOldest := by
  refine ⟨fun n a s core hn full => ?_, fun n a s core hn room => ?_, fun e => ?_, fun p s => ⟨rfl, rfl⟩⟩
  · obtain ⟨queue, lost, count⟩ := raise_full_counts (a := a) core hn full
    refine ⟨queue, lost, count, fun shown => ?_, (raise_sticky n a s core).resolve_right (by omega), fun kept now on => ?_,
      fun kept holding => ⟨_, raise_full_held core full kept holding, rfl, lostSlot_flag n a s⟩⟩
    · refine shownWord_queueFull (by rw [queue, full]) ?_
      rw [queue, raise_clk]
      exact shown
    · obtain ⟨⟨p, k, hp, slot⟩, newest⟩ := raise_full_history (a := a) core hn full kept now on
      exact ⟨⟨p, _, hp, slot, rfl, rfl, rfl, lostSlot_flag n a s⟩, fun before => ⟨_, newest before, rfl, lostSlot_flag n a s⟩⟩
  · obtain ⟨queue, lost⟩ := raise_queued (a := a) core hn room
    refine ⟨_, queue, rfl, rfl, rfl, ?_, lost⟩
    have bit : b2n (eventMasked n s) ≤ 1 := by cases eventMasked n s <;> decide
    change (b2n (eventMasked n s) + 2 * b2n s.ev.lost) / 2 = b2n s.ev.lost
    omega
  · exact entryBytes_layout e

end Sys2Proof.Machine
end
